-- ==== Sys2Proof/Word.lean ====
section
/-! DEFINITION. The word types of the model: bytes, ticks of time, and keyed stores held as plain lists. -/

namespace Sys2Proof

/-- A byte of a record, entry, register or store page (spec 00 R5). -/
abbrev Byte := BitVec 8

/-- A 32-bit word: a side-port register, a Flyer instruction, a code entry. -/
abbrev Word32 := BitVec 32

/-- An instant, in units of 2^-12 ns (spec 07 R175): 4,096 ticks are 1 ns, 16 ticks are one TDC LSB
(3.90625 ps), 8 ticks are 1/512 ns. -/
abbrev Tick := Nat

/-- A keyed store as plain data: pairs in order of strictly rising key, none holding the default value. -/
abbrev Store (α : Type) := List (Nat × α)

/-- Byte-addressed memory: a store of bytes whose unlisted addresses read 0. -/
abbrev Mem := Store Byte

end Sys2Proof
end

