-- ==== Sys2Proof/Syntax.lean ====
section
/-! DEFINITION. The commands of the block: one constructor per row of the table of operations and events.
Every constructor's first operand `t` is the instant at which the step takes place. Operands that the outside
world supplies (a level, a current, a raw converter code, a received word) are carried by the command. -/

namespace Sys2Proof

/-- The path a Dreid command came by (spec 15 R352): the host link, or a side-port command slot 0-15. -/
inductive Path where
  | link
  | side (slot : Nat)
  deriving DecidableEq, Repr

/-- What a command entry's header gives (spec 15 R353, Table 15-2), with the length of the entry as received. -/
structure Hdr where
  path : Path
  tag : Nat
  /-- the named line boundary (frame, line) -/
  boundary : Option (Nat × Nat)
  /-- the length field, bytes 2-3 -/
  len : Nat
  /-- the length of the entry received -/
  recv : Nat
  deriving DecidableEq, Repr

/-- One item of SET PARAMETERS (spec 15 R365): parameter id, option index and number. -/
structure Item where
  id : Nat
  opt : Nat
  num : Int
  deriving DecidableEq, Repr

/-- A board message of Table 4-6 (spec 04 R103). -/
inductive BoardMsg where
  | elementEnable (mask : BitVec 16)
  | driveCode (element : Nat) (code : Nat)
  | brightness (percent : Nat)
  | emission (value : Byte)
  | syncCompensation (c : Nat)
  | descriptorRead
  | scannerReports (value : Byte)
  | shareCounterReset
  deriving DecidableEq, Repr

/-- A coefficient set image (spec 07 R172, Table 7-2). -/
structure CoefImage where
  format : Nat
  mode : Nat
  /-- phase class: 0 linear, 1 other -/
  phase : Nat
  taps : Nat
  shift : Nat
  /-- declared group delay, 1/256 full-rate sample -/
  delay : Nat
  tag : Nat
  coefs : List Int
  deriving DecidableEq, Repr

/-- A timing source of an interval run (spec 08 Table 8-6). -/
inductive Source where
  | channel (c : Nat)
  | auxf (i : Nat)
  | frameStrobe
  | lineStrobe
  deriving DecidableEq, Repr

/-- What a STATISTICS command asks for (spec 08 R207, Table 8-6). -/
inductive StatKind where
  | interval (start stop : Source)
  | tof (c : Nat) (element : Option Nat) (index : Nat)
  deriving DecidableEq, Repr

/-- The parameters of a Bobbin accumulation (spec 09 R226, Table 9-4). -/
structure BobbinParams where
  /-- element id, or any -/
  element : Option Nat
  /-- start offset, 0.5 ns units -/
  offset : Nat
  /-- bin width code: 0 0.5 ns, 1 1 ns, 2 2 ns, 3 4 ns -/
  width : Nat
  target : Nat
  continuous : Bool
  acceptSettling : Bool
  /-- output: 0 histogram block, 1 peak returns, 2 both -/
  output : Nat
  /-- peak threshold multiplier, 1/16 -/
  multiplier : Nat
  separation : Nat
  imageTest : Bool
  deriving DecidableEq, Repr

/-- The parameters of a capture arm (spec 11 R259, Table 11-4). -/
structure CaptureParams where
  channels : BitVec 256
  continuous : Bool
  /-- region start and size, 1 MiB units -/
  regionStart : Nat
  regionSize : Nat
  segments : Nat
  wrap : Bool
  pre : Nat
  post : Nat
  truncate : Bool
  banks : BitVec 16
  host : Bool
  scheduled : Option (Nat × Nat × Nat)
  deriving DecidableEq, Repr

/-- The 8 samples of one capture word (spec 11 R260): channel, number among the words since the group's ring began, and each
stage's code, plus 256 where the sample carries the over-range flag (spec 06 R149). -/
structure RawWord where
  channel : Nat
  index : Nat
  samples : List Nat
  deriving DecidableEq, Repr

/-- A capture group, and words of its ring that no command before has given, in order of time (spec 11 R263). -/
structure GroupWords where
  group : Nat
  words : List RawWord
  deriving DecidableEq, Repr

/-- A port that is probed and the descriptors that the boards of the head on it hold, in chain order (none without a
head). -/
structure ProbedHead where
  port : Nat
  boards : List (List Byte)
  deriving DecidableEq, Repr

/-- Why a head counts as removed (spec 04 R115), and the instant of the last upstream transition seen since presence. -/
structure Removal where
  cause : Nat
  last : Option Tick
  deriving DecidableEq, Repr

/-- A sync as a board has received it: its bits, and the instant at which its marker arrived (spec 04 R104). -/
structure SyncMark where
  bits : BitVec 10
  arrival : Tick
  deriving DecidableEq, Repr

/-- A channel whose clamp starts to conduct, and the current in 0.5 uA that its baseline servo needs then (spec 05 R123). -/
structure ClampStart where
  channel : Nat
  servo : Nat
  deriving DecidableEq, Repr

/-- What a gate gives: the last sample of its integral, and the mean current over it in 0.5 uA (spec 05 R130, R131). -/
structure GateSum where
  integral : Nat
  current : Nat
  deriving DecidableEq, Repr

/-- A bank and the last readings of its regulated line in 0.1 mV (spec 05 R133). -/
structure BiasReadings where
  bank : Nat
  readings : List Nat
  deriving DecidableEq, Repr

/-- A force reading in 10 mV, and since when it has exceeded 1.02 times the ceiling (spec 05 R136). -/
structure ForceReading where
  reading : Nat
  since : Tick
  deriving DecidableEq, Repr

/-- The last 3 pairs of force and sense readings of a bank, and the 64 force-to-sense differences before them, in 10 mV
(spec 05 R138). -/
structure SenseReadings where
  pairs : List (Nat × Nat)
  earlier : List Int
  deriving DecidableEq, Repr

/-- Of each stage, the samples that a tracking block has counted and their mean (spec 06 R147). -/
structure StageMeans where
  counts : List Nat
  means : List Int
  deriving DecidableEq, Repr

/-- A channel and the hits of each raw bin in the linearisation of an interpolator of it (spec 08 R194). -/
structure Linearisation where
  channel : Nat
  hits : List Nat
  deriving DecidableEq, Repr

/-- A lane and the invalid sync headers among its last 64 blocks (spec 14 R339). -/
structure LaneErrors where
  lane : Nat
  invalid : Nat
  deriving DecidableEq, Repr

/-- The instant of a finding about the arm loop, and how long after an edge of ARMLP_OUT each change of ARMLP_IN's level
came,
up to the next edge (spec 16 R382). -/
structure LoopAnswer where
  at_ : Tick
  changes : List Tick
  deriving DecidableEq, Repr

/-- The instant at which REF_IN and the core PLL have been within limits for 10 ms, and the deviation of REF_IN then from the
selected frequency, in ppb (spec 16 R386, R390). -/
structure ReferenceGood where
  at_ : Tick
  ppb : Int
  deriving DecidableEq, Repr

/-- What Whorl's counters tell of Distaff at an update: its load figure, and when firmware last restarted the watchdog, where
it did since the update before (spec 15 R361, R362). -/
structure LoadFigure where
  share : Nat
  restarted : Option Tick
  deriving DecidableEq, Repr

/-- The instant of a finding about Whorl's clock, and the deviation from 200 MHz in ppm, none where no edge came for 100 ns
(spec 16 R371). -/
structure ClockFinding where
  at_ : Tick
  ppm : Option Int
  deriving DecidableEq, Repr

/-- The lowest reading of a rail in a sag and its present one, in mV (spec 18 R421). -/
structure SagReadings where
  lowest : Nat
  present : Nat
  deriving DecidableEq, Repr

/-- Per-lane parameters of a link pattern test (spec 14 Table 14-9): generator and checker 0 off, 1 PRBS7,
2 PRBS15, 3 PRBS31; injection 0 off, 1 single, 2 periodic. -/
structure LaneTest where
  gen : Nat
  chk : Nat
  inject : Nat
  period : Nat
  deriving DecidableEq, Repr

/-- One entry of the board table (spec 14 R338, Table 14-8). -/
structure BoardEntry where
  enabled : Bool
  pre : Int
  main : Int
  post : Int
  ctle : Nat
  txInvert : Bool
  rxInvert : Bool
  deriving DecidableEq, Repr

/-- The arguments of CALIBRATE (spec 19 R443, Table 19-2). -/
structure CalArgs where
  kinds : BitVec 5
  repeats : Nat
  apply : Bool
  width : Nat
  index : Nat
  channels : BitVec 256
  elements : BitVec 512
  /-- target distance of ports 0-7, 0.1 mm -/
  distances : List Nat
  deriving DecidableEq, Repr

/-- Which calibration value a measurement is of (spec 19 Table 19-1). -/
inductive CalKey where
  | interOffset (c stage : Nat)
  | interGain (c stage : Nat)
  | interSkew (c stage : Nat)
  | gainRatio (c range : Nat)
  | floor (c range : Nat)
  | ratio (c range : Nat)
  | timing (c : Nat)
  | analogue (c : Nat)
  | walk (b range i : Nat)
  | width (b i : Nat)
  | groupDelay (b c : Nat)
  deriving DecidableEq, Repr

/-- The results of one value over the repeats of a kind (spec 19 R452), in the value's unit. -/
structure CalMeasure where
  key : CalKey
  results : List Int
  deriving DecidableEq, Repr

/-- A block as a lane's receiver gives it, descrambled (spec 14 R319): whether it is a control block, and its 8 bytes. -/
structure Block where
  lane : Nat
  control : Bool
  bytes : List Byte
  deriving DecidableEq, Repr

/-- The blocks that arrive from the host in stream order, from an SOF block to the last one before the next frame
(spec 14 R321, R324). -/
structure FrameIn where
  blocks : List Block
  deriving DecidableEq, Repr

/-- The verdict of the shutdown self-test or of a boot test (spec 18 R438-R440). -/
structure TestResult where
  failingRows : Nat
  firstAddress : Nat
  sramSignature : Nat
  dramSignature : Nat
  failingDram : BitVec 16
  deriving DecidableEq, Repr

/-- The eyes a training sweep finds on one lane: run start and run length, read then write (spec 12 R289). -/
structure LaneEye where
  readStart : Nat
  readLen : Nat
  writeStart : Nat
  writeLen : Nat
  deriving DecidableEq, Repr

/-- A pin with a boundary cell (spec 17 R415): the four kinds that EXTEST holds low, or another ball by its number. -/
inductive TapPin where
  | hpEn (port : Nat)
  | hpTx (port : Nat)
  | biasGate (bank : Nat)
  | emitPermit
  | other (ball : Nat)
  deriving DecidableEq, Repr

/-- What an IEEE 1149.1 instruction register holds (spec 17 R415); SAMPLE/PRELOAD with what is shifted into the boundary
register under it. -/
inductive TapInstr where
  | bypass
  | idcode
  | samplePreload (cells : List (TapPin × Bool))
  | extest
  | debug
  | scan
  deriving DecidableEq, Repr

/-- The commands, in the order of the table of operations and events (one constructor per row). -/
inductive Instr where
  /-- FRAME_STROBE_EDGE, R33. -/
  | frameStrobeEdge (t : Tick)
  /-- LINE_STROBE_EDGE, R43. -/
  | lineStrobeEdge (t : Tick)
  /-- ACCEPTANCE_WINDOW_CLOSE, R43. -/
  | acceptanceWindowClose (t : Tick)
  /-- LINE_BOUNDARY, R16. -/
  | lineBoundary (t : Tick)
  /-- FRAME_ACK_PULSE, R34. -/
  | frameAckPulse (t : Tick)
  /-- FRAME_CLOSED, R64. -/
  | frameClosed (t : Tick) (frame : Nat)
  /-- DRIFT_MEASUREMENT, R57: OCXO_READY, and the ratio of REF_IN to the camera strobe, none without a signal. -/
  | driftMeasurement (t : Tick) (ocxo : Bool) (ratio : Option Nat)
  /-- OCXO_READY_FALL, R57. -/
  | ocxoReadyFall (t : Tick)
  /-- EPOCH_WRAP, R58. -/
  | epochWrap (t : Tick)
  /-- SCANNER_WORD, R109. -/
  | scannerWord (t : Tick) (port : Nat) (word : BitVec 18)
  /-- SCANNER_CROSSING_MISSING, R53. -/
  | scannerCrossingMissing (t : Tick) (port : Nat)
  /-- REF_IN_MEASUREMENT, R55. -/
  | refInMeasurement (t : Tick) (hertz : Nat)
  /-- REFERENCE_FAULT, R56. -/
  | referenceFault (t : Tick) (deviation : Int)
  /-- REFERENCE_FAULT_CLEAR, R386. -/
  | referenceFaultClear (finding : ReferenceGood)
  /-- FLYER_RUN, R75. -/
  | flyerRun (t : Tick) (bank : Nat)
  /-- STOP, R73. -/
  | flyerStop (t : Tick) (bank : Nat)
  /-- SHOT, R73. -/
  | flyerShot (t : Tick) (bank : Nat) (d : BitVec 12)
  /-- BURST, R73. -/
  | flyerBurst (t : Tick) (bank : Nat) (d : BitVec 12) (n : BitVec 12)
  /-- NEXTLINE, R73. -/
  | flyerNextline (t : Tick) (bank : Nat) (n : BitVec 16)
  /-- SETLINE, R73. -/
  | flyerSetline (t : Tick) (bank : Nat) (l : BitVec 16)
  /-- WAITFRAME, R73. -/
  | flyerWaitframe (t : Tick) (bank : Nat)
  /-- LOOP, R73. -/
  | flyerLoop (t : Tick) (bank : Nat) (c : BitVec 24)
  /-- ENDLOOP, R73. -/
  | flyerEndloop (t : Tick) (bank : Nat)
  /-- JUMP, R73. -/
  | flyerJump (t : Tick) (bank : Nat) (a : BitVec 11)
  /-- NOP, R73. -/
  | flyerNop (t : Tick) (bank : Nat)
  /-- COMMIT, R74. -/
  | commit (t : Tick) (bank : Nat)
  /-- WHORL_VERDICT, R379. -/
  | whorlVerdict (t : Tick) (entry : Nat)
  /-- FIRE_SYMBOL_SEND, R99. -/
  | fireSymbolSend (t : Tick) (entry : Nat)
  /-- WINDOW_OPEN, R72. -/
  | windowOpen (t : Tick) (entry : Nat)
  /-- WINDOW_CLOSE, R72. -/
  | windowClose (t : Tick) (entry : Nat) (c : Nat)
  /-- SLOT_FINALISE, R221. -/
  | slotFinalise (t : Tick) (entry : Nat) (c : Nat)
  /-- ENTRY_FREE, R88. -/
  | entryFree (t : Tick) (entry : Nat)
  /-- PROBE, R95. -/
  | probe (t : Tick) (head : ProbedHead)
  /-- PRESENCE, R115. -/
  | presence (t : Tick) (port : Nat) (current : Nat)
  /-- PORT_TRIP, R94. -/
  | portTrip (t : Tick) (port : Nat) (current : Nat)
  /-- HEAD_REMOVED, R115. -/
  | headRemoved (t : Tick) (port : Nat) (removal : Removal)
  /-- REMOVED_END, R95. -/
  | removedEnd (t : Tick) (port : Nat)
  /-- NO_TELEMETRY_TIMEOUT, R95. -/
  | noTelemetryTimeout (t : Tick) (port : Nat)
  /-- READING_TIMEOUT, R95. -/
  | readingTimeout (t : Tick) (port : Nat)
  /-- TELEMETRY_STATUS, R107. -/
  | telemetryStatus (t : Tick) (port : Nat) (word : BitVec 18)
  /-- BOARD_TEMPERATURE_STALE, R112. -/
  | boardTemperatureStale (t : Tick) (port : Nat) (board : Nat)
  /-- DESCRIPTOR_WORD, R108. -/
  | descriptorWord (t : Tick) (port : Nat) (word : BitVec 18)
  /-- DESCRIPTOR_CHECK_DONE, R405. -/
  | descriptorCheckDone (t : Tick) (port : Nat) (board : Nat)
  /-- KEEP_ALIVE_PLACE, R101. -/
  | keepAlivePlace (t : Tick) (port : Nat)
  /-- KEEP_ALIVE_SEND, R101. -/
  | keepAliveSend (t : Tick) (port : Nat)
  /-- BROADCAST_SYNC_SEND, R104. -/
  | broadcastSyncSend (t : Tick) (port : Nat)
  /-- BOARD_FIRE, R99. -/
  | boardFire (t : Tick) (port : Nat) (board : Nat) (bits : BitVec 10)
  /-- BOARD_SYNC_APPLY, R104. -/
  | boardSyncApply (t : Tick) (port : Nat) (board : Nat) (mark : SyncMark)
  /-- BOARD_KEEP_ALIVE, R113. -/
  | boardKeepAlive (t : Tick) (port : Nat) (board : Nat) (bits : BitVec 10)
  /-- KEEP_ALIVE_TIMEOUT, R113. -/
  | keepAliveTimeout (t : Tick) (port : Nat) (board : Nat)
  /-- DATA_FRAME, R96, R102: the high times of the frame's pulses, in 0.1 ns. -/
  | dataFrame (t : Tick) (port : Nat) (board : Nat) (pulses : List Nat)
  /-- ELEMENT_ENABLE, R103. -/
  | elementEnable (t : Tick) (port : Nat) (board : Nat) (mask : BitVec 16)
  /-- DRIVE_CODE, R103. -/
  | driveCode (t : Tick) (port : Nat) (board : Nat) (element : Nat) (code : Nat)
  /-- INDICATOR_BRIGHTNESS, R103. -/
  | indicatorBrightness (t : Tick) (port : Nat) (board : Nat) (percent : Nat)
  /-- EMISSION, R113. -/
  | emission (t : Tick) (port : Nat) (board : Nat) (value : Byte)
  /-- SYNC_COMPENSATION, R103. -/
  | syncCompensation (t : Tick) (port : Nat) (board : Nat) (c : Nat)
  /-- DESCRIPTOR_READ, R108. -/
  | descriptorRead (t : Tick) (port : Nat) (board : Nat)
  /-- SCANNER_REPORTS, R103. -/
  | scannerReports (t : Tick) (port : Nat) (board : Nat) (value : Byte)
  /-- SHARE_COUNTER_RESET, R103. -/
  | shareCounterReset (t : Tick) (port : Nat) (board : Nat)
  /-- BOARD_TEMPERATURE_SEND, R108. -/
  | boardTemperatureSend (t : Tick) (port : Nat) (board : Nat) (temp : Nat)
  /-- BOARD_OVER_TEMPERATURE, R112. -/
  | boardOverTemperature (t : Tick) (port : Nat) (board : Nat) (temp : Nat)
  /-- DRIVER_FAULT, R113. -/
  | driverFault (t : Tick) (port : Nat) (board : Nat)
  /-- CLAMP_EVENT, R120. -/
  | clampEvent (t : Tick) (clamp : ClampStart)
  /-- CLAMP_END, R121. -/
  | clampEnd (t : Tick) (c : Nat)
  /-- RANGE_BOUNDARY, R124: the largest deviation and whether a sample was over-range in the period that ends, and the
  current in 0.5 uA that the baseline servo needs. -/
  | rangeBoundary (t : Tick) (c : Nat) (deviation : Nat) (overRange : Bool) (servo : Nat)
  /-- AMBIENT_GATE_OPEN, R129. -/
  | ambientGateOpen (t : Tick) (c : Nat)
  /-- GATE_CLOSE, R130. -/
  | gateClose (t : Tick) (c : Nat) (sum : GateSum) (overRange : Bool)
  /-- BIAS_SETTLED, R133: the last 8 readings. -/
  | biasSettled (t : Tick) (line : BiasReadings)
  /-- BIAS_FAULT, R136. -/
  | biasFault (t : Tick) (bank : Nat) (force : ForceReading)
  /-- SENSE_LINE_OPEN, R138. -/
  | senseLineOpen (t : Tick) (bank : Nat) (lines : SenseReadings)
  /-- OPEN_INPUT_SUB_BLOCK, R141: of each range, the valid samples and the sum of the squares of their deviations from
  baseline in 1/16 code. -/
  | openInputSubBlock (t : Tick) (c : Nat) (sums : List (Nat × Nat)) (samples : Nat) (invalid : Nat)
  /-- SAMPLE_PLL_UNLOCK, R145. -/
  | samplePllUnlock (t : Tick)
  /-- SAMPLE_PLL_RELOCK, R145. -/
  | samplePllRelock (t : Tick)
  /-- TRACKING_BLOCK_END, R147: the stages' means and mean squares. -/
  | trackingBlockEnd (t : Tick) (c : Nat) (stages : StageMeans) (squares : List Int)
  /-- HK_TIMER_EVENT, R158. -/
  | hkTimerEvent (t : Tick)
  /-- HKTRIG_PULSE, R158. -/
  | hktrigPulse (t : Tick) (high : Bool) (width : Nat)
  /-- HK_RUN_START, R158. -/
  | hkRunStart (t : Tick) (pulse : Bool)
  /-- HK_CONVERSION_DONE, R163: the converter's code, and whether the input lies more than 10 mV outside its range
  (true above, false below). -/
  | hkConversionDone (t : Tick) (code : Nat) (outside : Option Bool)
  /-- REFERENCE_SETTLED, R154. -/
  | referenceSettled (t : Tick)
  /-- EXTERNAL_REFERENCE_FAULT, R154. -/
  | externalReferenceFault (t : Tick) (millivolts : Nat)
  /-- LEADING_CROSSING, R177. -/
  | leadingCrossing (t : Tick) (c : Nat) (k : Nat) (raw : List Nat)
  /-- TRAILING_CROSSING, R179. -/
  | trailingCrossing (t : Tick) (c : Nat) (k : Nat) (raw : List Nat)
  /-- EVENT_TRUNCATION, R177. -/
  | eventTruncation (t : Tick) (c : Nat) (k : Nat) (raw : List Nat)
  /-- DETECTOR_WINDOW_END, R185. -/
  | detectorWindowEnd (t : Tick) (c : Nat) (raw : List Nat)
  /-- COMPARATOR_CROSSING, R191. -/
  | comparatorCrossing (t : Tick) (c : Nat) (tot : Nat)
  /-- STAMP_HANDOFF, R191. -/
  | stampHandoff (t : Tick) (c : Nat)
  /-- INTERPOLATOR_EXCHANGE, R194. -/
  | interpolatorExchange (t : Tick) (lin : Linearisation)
  /-- PICKOFF_DECISION, R200. -/
  | pickoffDecision (t : Tick) (entry : Nat)
  /-- EVENT_PAIRING, R201. -/
  | eventPairing (t : Tick) (c : Nat)
  /-- INTERVAL_TIMEOUT, R208. -/
  | intervalTimeout (t : Tick) (run : Nat)
  /-- STATISTICS_TIMEOUT, R209. -/
  | statisticsTimeout (t : Tick) (run : Nat)
  /-- FREQUENCY_GATE_END, R211. -/
  | frequencyGateEnd (t : Tick) (input : Nat)
  /-- CLUSTER_RESOLUTION, R220. -/
  | clusterResolution (t : Tick) (c : Nat)
  /-- CARDING_DECISION, R246. -/
  | cardingDecision (t : Tick) (c : Nat)
  /-- BOBBIN_SHOT_COMPLETE, R229. -/
  | bobbinShotComplete (t : Tick) (c : Nat) (slot : Nat) (entry : Nat) (raw : List Nat)
  /-- SPILL_DONE, R231. -/
  | spillDone (t : Tick) (c : Nat) (slot : Nat)
  /-- SECOND_PASS, R232. -/
  | secondPass (t : Tick) (c : Nat) (slot : Nat)
  /-- HISTOGRAM_BLOCK_SEND, R234. -/
  | histogramBlockSend (t : Tick) (c : Nat) (slot : Nat)
  /-- ASSESSMENT_PERIOD_END, R248. -/
  | assessmentPeriodEnd (t : Tick)
  /-- QUIET_TIMEOUT, R255. -/
  | quietTimeout (t : Tick) (c : Nat)
  /-- HELD_TIMEOUT, R255. -/
  | heldTimeout (t : Tick) (c : Nat)
  /-- TRIGGER_DECISION, R264. -/
  | triggerDecision (t : Tick) (ring : GroupWords)
  /-- SCHEDULED_TRIGGER, R264. -/
  | scheduledTrigger (t : Tick) (group : Nat)
  /-- ARM_EFFECT, R263. -/
  | armEffect (t : Tick) (group : Nat)
  /-- RING_FILLED, R263. -/
  | ringFilled (t : Tick) (ring : GroupWords)
  /-- POST_TRIGGER_END, R267. -/
  | postTriggerEnd (t : Tick) (group : Nat) (words : List RawWord)
  /-- REARM_END, R267. -/
  | rearmEnd (t : Tick) (group : Nat)
  /-- SEGMENT_CLOSE, R270. -/
  | segmentClose (t : Tick) (group : Nat) (words : List RawWord)
  /-- CAPTURE_OVERFLOW, R272. -/
  | captureOverflow (t : Tick) (lost : Nat) (words : List RawWord)
  /-- WAVEFORM_BLOCK_SEND, R275. -/
  | waveformBlockSend (t : Tick) (group : Nat)
  /-- REFRESH, R286: whether the controller postpones the command where it may. -/
  | refresh (t : Tick) (ch : Nat) (bank : Nat) (postpone : Bool)
  /-- REFRESH_RATE_RETURN, R288. -/
  | refreshRateReturn (t : Tick)
  /-- ROW_IDLE_CLOSE, R284. -/
  | rowIdleClose (t : Tick) (ch : Nat) (bank : Nat)
  /-- DRAM_TRAINING_DONE, R290. -/
  | dramTrainingDone (t : Tick) (eyes : List (List LaneEye))
  /-- RETRAIN_CHANNEL_START, R291. -/
  | retrainChannelStart (t : Tick)
  /-- RETRAIN_CHANNEL_END, R291. -/
  | retrainChannelEnd (t : Tick) (eyes : List LaneEye)
  /-- LOSS_RUN_TIMEOUT, R317. -/
  | lossRunTimeout (t : Tick) (source : Nat)
  /-- LOSS_RECORD_QUEUE, R317. -/
  | lossRecordQueue (t : Tick)
  /-- DOWN_TIMEOUT, R334. -/
  | downTimeout (t : Tick)
  /-- RECEIVER_DETECT_DONE, R334. -/
  | receiverDetectDone (t : Tick) (lanes : BitVec 8)
  /-- LANE_LOCK, R335. -/
  | laneLock (t : Tick) (lane : Nat)
  /-- BRING_UP_STAGE_TIMEOUT, R335. -/
  | bringUpStageTimeout (t : Tick)
  /-- ALIGN, R322: the largest skew between lanes in ps, and the column count. -/
  | alignColumn (t : Tick) (skew : Nat) (count : Nat)
  /-- IDLE_COLUMN, R322. -/
  | idleColumn (t : Tick) (delete : Bool)
  /-- CAP, R336. -/
  | capBlock (t : Tick) (index : Nat) (content : BitVec 48)
  /-- TRAIN, R340: the mask of rate codes that the peer supports. -/
  | trainBlock (t : Tick) (lane : Nat) (locked : Bool) (rates : BitVec 3)
  /-- LINK, R327. -/
  | linkBlock (t : Tick) (ack : Nat) (nak : Bool) (credit1 : Nat) (credit2 : Nat) (credit3 : Nat)
  /-- FRAME_RECEIVED, R327. -/
  | frameReceived (t : Tick) (frame : FrameIn)
  /-- FRAME_SEND, R332. -/
  | frameSend (t : Tick)
  /-- ALIGN_COLUMN_SEND, R322. -/
  | alignColumnSend (t : Tick)
  /-- IDLE_COLUMN_SEND, R322. -/
  | idleColumnSend (t : Tick)
  /-- LINK_BLOCK_SEND, R327. -/
  | linkBlockSend (t : Tick)
  /-- NAK_REPEAT, R327. -/
  | nakRepeat (t : Tick)
  /-- REPLAY_TIMEOUT, R329. -/
  | replayTimeout (t : Tick)
  /-- LANE_LOSS, R339. -/
  | laneLoss (t : Tick) (errors : LaneErrors)
  /-- RECOVERY_DISCARD, R342. -/
  | recoveryDiscard (t : Tick)
  /-- RECOVERY_TIMEOUT, R339. -/
  | recoveryTimeout (t : Tick)
  /-- LINK_TEST_END, R343. -/
  | linkTestEnd (t : Tick) (errors : List (List Nat))
  /-- WATCHDOG_EXPIRY, R362. -/
  | watchdogExpiry (t : Tick)
  /-- DISTAFF_MEMORY_ERROR, R345. -/
  | distaffMemoryError (t : Tick)
  /-- LOAD_UPDATE, R361. -/
  | loadUpdate (t : Tick) (figure : LoadFigure) (corrected : Nat)
  /-- RESPONSE_DELIVERY, R356. -/
  | responseDelivery (t : Tick)
  /-- FW_RELOAD_DONE, R364. -/
  | fwReloadDone (t : Tick) (image : List Byte)
  /-- GET_STATE, R346. -/
  | getState (t : Tick) (h : Hdr)
  /-- GO_READY, R347. -/
  | goReady (t : Tick) (h : Hdr)
  /-- GO_SAFE, R347. -/
  | goSafe (t : Tick) (h : Hdr)
  /-- ARM, R347. -/
  | arm (t : Tick) (h : Hdr)
  /-- DISARM, R349. -/
  | disarm (t : Tick) (h : Hdr)
  /-- RANGING_START, R75. -/
  | rangingStart (t : Tick) (h : Hdr) (frame : Nat) (mask : BitVec 16)
  /-- RANGING_STOP, R349. -/
  | rangingStop (t : Tick) (h : Hdr)
  /-- CLEAR_FAULT, R347. -/
  | clearFault (t : Tick) (h : Hdr)
  /-- SHUTDOWN, R438. -/
  | shutdown (t : Tick) (h : Hdr) (start : Nat) (length : Nat)
  /-- ABORT, R360. -/
  | abort (t : Tick) (h : Hdr) (handle : Nat)
  /-- SET_PARAMETERS, R365. -/
  | setParameters (t : Tick) (h : Hdr) (scope : Nat) (targets : List Nat) (items : List Item)
  /-- GET_PARAMETERS, R365. -/
  | getParameters (t : Tick) (h : Hdr) (scope : Nat) (targets : List Nat) (ids : List Nat)
  /-- READ_COUNTERS, R367. -/
  | readCounters (t : Tick) (h : Hdr) (file : Nat) (targets : List Nat)
  /-- CLEAR_FLAGS, R120. -/
  | clearFlags (t : Tick) (h : Hdr) (targets : List Nat) (mask : Nat)
  /-- FW_BEGIN, R363. -/
  | fwBegin (t : Tick) (h : Hdr) (length : Nat)
  /-- FW_DATA, R363. -/
  | fwData (t : Tick) (h : Hdr) (offset : Nat) (data : List Byte)
  /-- FW_VERIFY, R363. -/
  | fwVerify (t : Tick) (h : Hdr)
  /-- FW_ACTIVATE, R363. -/
  | fwActivate (t : Tick) (h : Hdr)
  /-- FW_RELOAD, R364. -/
  | fwReload (t : Tick) (h : Hdr) (other : Bool)
  /-- LOAD_SHOT_TABLE, R76. -/
  | loadShotTable (t : Tick) (h : Hdr) (bank : Nat) (first : Nat) (descriptors : List (BitVec 128))
  /-- LOAD_MICROCODE, R73. -/
  | loadMicrocode (t : Tick) (h : Hdr) (bank : Nat) (first : Nat) (words : List Word32)
  /-- LOAD_CODE_TABLE, R78. -/
  | loadCodeTable (t : Tick) (h : Hdr) (bank : Nat) (first : Nat) (codes : List Word32)
  /-- LOAD_LISTENING_SETS, R71. -/
  | loadListeningSets (t : Tick) (h : Hdr) (bank : Nat) (first : Nat) (sets : List (BitVec 256))
  /-- LOAD_SEED, R80. -/
  | loadSeed (t : Tick) (h : Hdr) (seed : BitVec 64)
  /-- PORT_ENABLE, R95. -/
  | portEnable (t : Tick) (h : Hdr) (port : Nat)
  /-- PORT_DISABLE, R95. -/
  | portDisable (t : Tick) (h : Hdr) (port : Nat)
  /-- ADMIT, R118. -/
  | admitHead (t : Tick) (h : Hdr) (port : Nat) (identity : BitVec 64)
  /-- BOARD_SETTINGS, R105. -/
  | boardSettings (t : Tick) (h : Hdr) (port : Nat) (msgs : List (Nat × BoardMsg))
  /-- CLEAR_LATENCIES, R458. -/
  | clearLatencies (t : Tick) (h : Hdr) (ports : BitVec 8)
  /-- BIAS_SENSE_RESTORE, R139. -/
  | biasSenseRestore (t : Tick) (h : Hdr) (bank : Nat) (readings : List Int)
  /-- INJECT, R161. -/
  | inject (t : Tick) (h : Hdr) (input : Nat)
  /-- READ_HOUSEKEEPING_QUEUE, R163. -/
  | readHousekeepingQueue (t : Tick) (h : Hdr) (count : Nat)
  /-- LOAD_COEFFICIENTS, R172. -/
  | loadCoefficients (t : Tick) (h : Hdr) (banks : BitVec 16) (image : CoefImage)
  /-- SWAP_COEFFICIENTS, R173. -/
  | swapCoefficients (t : Tick) (h : Hdr) (banks : BitVec 16)
  /-- READ_DETECTORS, R185. -/
  | readDetectors (t : Tick) (h : Hdr) (c : Nat)
  /-- STATISTICS, R207. -/
  | statistics (t : Tick) (h : Hdr) (kind : StatKind) (order : Nat) (timeout : Nat)
  /-- MEASURE_FREQUENCY, R211. -/
  | measureFrequency (t : Tick) (h : Hdr) (input : Nat) (gate : Nat)
  /-- BOBBIN_START, R227. -/
  | bobbinStart (t : Tick) (h : Hdr) (c : Nat) (slot : Nat) (params : BobbinParams)
  /-- BOBBIN_FLUSH, R227. -/
  | bobbinFlush (t : Tick) (h : Hdr) (c : Nat) (slot : Nat)
  /-- CAPTURE_ARM, R261. -/
  | captureArm (t : Tick) (h : Hdr) (group : Nat) (params : CaptureParams)
  /-- CAPTURE_STOP, R270. -/
  | captureStop (t : Tick) (h : Hdr) (group : Nat)
  /-- HOST_TRIGGER, R264. -/
  | hostTrigger (t : Tick) (h : Hdr) (group : Nat)
  /-- CAPTURE_READ, R275. -/
  | captureRead (t : Tick) (h : Hdr) (group : Nat) (firstSeg : Nat) (lastSeg : Nat) (channels : BitVec 256) (lo : Int) (hi : Int)
  /-- DRAM_STATUS, R297. -/
  | dramStatus (t : Tick) (h : Hdr)
  /-- DRAM_RETRAIN, R292. -/
  | dramRetrain (t : Tick) (h : Hdr) (retest : Bool)
  /-- LINK_STATUS, R334. -/
  | linkStatus (t : Tick) (h : Hdr)
  /-- LINK_RETRAIN, R341. -/
  | linkRetrain (t : Tick) (h : Hdr)
  /-- LINK_TEST, R343. -/
  | linkTest (t : Tick) (h : Hdr) (duration : Nat) (lanes : List LaneTest)
  /-- LINK_TEST_STOP, R343. -/
  | linkTestStop (t : Tick) (h : Hdr)
  /-- WRITE_BOARD_TABLE, R338. -/
  | writeBoardTable (t : Tick) (h : Hdr) (entries : List BoardEntry)
  /-- WHORL_STATUS, R392. -/
  | whorlStatus (t : Tick) (h : Hdr)
  /-- ATTESTATION_CONTROL, R407. -/
  | attestationControl (t : Tick) (h : Hdr) (opening : Bool) (interval : Nat) (nonce : List Byte)
  /-- MANIFEST, R411. -/
  | manifest (t : Tick) (h : Hdr) (kind : Nat) (offset : Nat) (nonce : List Byte)
  /-- KEY_SLOT_WRITE, R401. -/
  | keySlotWrite (t : Tick) (h : Hdr) (phase : Nat) (offset : Nat) (data : List Byte)
  /-- KEY_REVOKE, R401. -/
  | keyRevoke (t : Tick) (h : Hdr) (phase : Nat) (offset : Nat) (data : List Byte)
  /-- DEBUG_UNLOCK, R413. -/
  | debugUnlock (t : Tick) (h : Hdr) (phase : Nat) (offset : Nat) (data : List Byte)
  /-- PROXY_TEMPERATURE, R430. -/
  | proxyTemperature (t : Tick) (h : Hdr) (temp : Int) (seconds : Nat)
  /-- READ_EVENT_LOG, R437. -/
  | readEventLog (t : Tick) (h : Hdr) (first : Nat) (count : Nat)
  /-- CALIBRATE, R444. -/
  | calibrate (t : Tick) (h : Hdr) (args : CalArgs)
  /-- SAVE_CALIBRATION, R456. -/
  | saveCalibration (t : Tick) (h : Hdr)
  /-- RESTORE_CALIBRATION, R457. -/
  | restoreCalibration (t : Tick) (h : Hdr)
  /-- CALIBRATION_SHOT, R450. -/
  | calibrationShot (t : Tick) (port : Nat)
  /-- CALIBRATION_KIND_END, R453. -/
  | calibrationKindEnd (t : Tick) (measures : List CalMeasure)
  /-- ARM_LOOP_OPEN, R383. -/
  | armLoopOpen (answer : LoopAnswer)
  /-- ARM_LOOP_CLOSED, R382. -/
  | armLoopClosed (t : Tick)
  /-- LOCKSTEP_MISMATCH, R370. -/
  | lockstepMismatch (t : Tick)
  /-- UNPASSED_FIRE_SYMBOL, R373. -/
  | unpassedFireSymbol (t : Tick) (port : Nat) (payload : Nat)
  /-- WHORL_CLOCK_FAULT, R371. -/
  | whorlClockFault (finding : ClockFinding)
  /-- CORE_PLL_UNLOCK, R386. -/
  | corePllUnlock (t : Tick)
  /-- ACCOUNT_STORE_ERROR, R386. -/
  | accountStoreError (t : Tick) (port : Nat) (corrected : Bool)
  /-- POWER_ON, R417. -/
  | powerOn (t : Tick) (millivolts : Nat)
  /-- POWER_LOSS, R417. -/
  | powerLoss (t : Tick) (millivolts : Nat)
  /-- POWER_UP_REQUEST, R418. -/
  | powerUpRequest (t : Tick) (bootsel : Nat)
  /-- PWR_REQ, R418. -/
  | pwrReq (t : Tick) (bootsel : Nat)
  /-- RAIL_GOOD, R419. -/
  | railGood (t : Tick) (rail : Nat)
  /-- RAIL_SEQUENCE_FAILURE, R419. -/
  | railSequenceFailure (t : Tick) (rail : Nat) (millivolts : Nat)
  /-- RAIL_DISABLE, R420. -/
  | railDisable (t : Tick)
  /-- SUPPLY_SAG, R421. -/
  | supplySag (t : Tick) (rail : Nat) (millivolts : Nat)
  /-- SAG_END, R421. -/
  | sagEnd (t : Tick) (rail : Nat) (readings : SagReadings)
  /-- SAG_FAULT, R421. -/
  | sagFault (t : Tick)
  /-- RESET_SHUTDOWN, R422. -/
  | resetShutdown (t : Tick) (rail : Nat) (millivolts : Nat)
  /-- AUTO_POWER_UP, R422. -/
  | autoPowerUp (t : Tick) (bootsel : Nat)
  /-- RAIL_WINDOW_EXIT, R423. -/
  | railWindowExit (t : Tick) (rail : Nat) (millivolts : Nat)
  /-- NV_WRITE_THRESHOLD, R424. -/
  | nvWriteThreshold (t : Tick) (millivolts : Nat)
  /-- NV_PAGE_WRITE_DONE, R433. -/
  | nvPageWriteDone (t : Tick)
  /-- NV_ERASE_DONE, R434. -/
  | nvEraseDone (t : Tick)
  /-- DIODE_READING, R425: the reading in 0.25 C, and by DRAM channel the bytes of training and self-test patterns that
  it has
  carried since the last reading (R287). -/
  | diodeReading (t : Tick) (temp : Int) (patterns : List (Nat × Nat))
  /-- THROTTLE_EXIT, R427. -/
  | throttleExit (t : Tick)
  /-- SHUTDOWN_RECORD_WRITE, R428. -/
  | shutdownRecordWrite (t : Tick)
  /-- PROXY_EXPIRY, R430. -/
  | proxyExpiry (t : Tick)
  /-- SELF_TEST_START, R438. -/
  | selfTestStart (t : Tick) (kilohertz : Nat) (millivolts : Nat)
  /-- SELF_TEST_CHECK, R439. -/
  | selfTestCheck (t : Tick) (kilohertz : Nat) (millivolts : Nat)
  /-- SELF_TEST_END, R438. -/
  | selfTestEnd (t : Tick) (result : TestResult)
  /-- NV_STORE_READ_DONE, R434. -/
  | nvStoreReadDone (t : Tick)
  /-- BOOT_TEST_DONE, R440. -/
  | bootTestDone (t : Tick) (dram : Bool) (result : TestResult)
  /-- IMAGE_READ_DONE, R403. -/
  | imageReadDone (t : Tick) (image : List Byte)
  /-- IMAGE_VERIFY_DONE, R403. -/
  | imageVerifyDone (t : Tick)
  /-- HOST_LOAD_TIMEOUT, R478. -/
  | hostLoadTimeout (t : Tick)
  /-- LOAD_DONE, R478. -/
  | loadDone (t : Tick)
  /-- AUTOMATIC_CUT, R409. -/
  | automaticCut (t : Tick)
  /-- MANIFEST_SIGNED, R411. -/
  | manifestSigned (t : Tick) (salt : List Byte) (hedge : List Byte)
  /-- CHALLENGE_EXPIRY, R413. -/
  | challengeExpiry (t : Tick)
  /-- DEBUG_ACCESS_OPEN, R413. -/
  | debugAccessOpen (t : Tick)
  /-- CMD_DOORBELL, R481. -/
  | cmdDoorbell (t : Tick) (slot : Nat)
  /-- RSP_CONSUMER, R481. -/
  | rspConsumer (t : Tick) (index : Nat)
  /-- FLAGS, R483. -/
  | flagsWrite (t : Tick) (value : Word32)
  /-- LOG_SELECT, R484. -/
  | logSelect (t : Tick) (value : Word32)
  /-- LOG_WINDOW_LOADED, R484. -/
  | logWindowLoaded (t : Tick)
  /-- REGISTER_WRITE, R471. -/
  | registerWrite (t : Tick) (opcode : Byte) (address : Nat) (data : List Byte)
  /-- PLL_LOCK, R58. -/
  | pllLock (t : Tick) (which : Nat)
  /-- SAG_FAULT_CLEAR, R421. -/
  | sagFaultClear (t : Tick)
  /-- WHORL_OSCILLATOR_DEVIATION, R391. -/
  | whorlOscillatorDeviation (t : Tick) (ppm : Int)
  /-- AUXF_EDGE, R208. -/
  | auxfEdge (t : Tick) (input : Nat)
  /-- SNAPSHOT_READ, R474. -/
  | snapshotRead (t : Tick) (address : Nat)
  /-- TEST_ACCESS_PORT_INSTRUCTION, R415. -/
  | testAccessPortInstruction (t : Tick) (instr : TapInstr)
  /-- FW_VERIFY_DONE, R363. -/
  | fwVerifyDone (t : Tick)
  /-- INDICATOR_PATTERN_TIMEOUT, R114. -/
  | indicatorPatternTimeout (t : Tick) (port : Nat) (board : Nat)
  deriving DecidableEq, Repr

end Sys2Proof
end

