-- ==== Sys2Proof/Decode.lean ====
section
/-! DEFINITION. Commands from bits. The table of operations and events gives no row any bits: a command reaches the
block as an event on a pin, a register access, a frame or a Dreid entry, each with operands of its own. So no word
spells a command (DESIGN CHOICE, log 1). -/

namespace Sys2Proof

/-- The command that the low `nbits` bits of `w` spell by the table's bits: none, since no row has bits (DESIGN CHOICE,
log 1). -/
def decodeTableWord (_nbits _w : Nat) : Option Instr := none

end Sys2Proof
end

