-- ==== Sys2Proof/Config.lean ====
section
/-! DEFINITION. What the spec leaves to the implementation, and the free values: constants without a body, so that
no statement can rest on what they are. -/

namespace Sys2Proof.Config

/-- A free value: what the spec leaves open, drawn by the step number kept in the state (DESIGN CHOICE, log 3). -/
opaque freeNat : Nat → Nat

/-- Whether a rounding that lands exactly half way goes up, where the rule says "rounded" and gives no tie
(spec 06 R146, 07 R168; DESIGN CHOICE, log 4). -/
opaque tieUp : Int → Bool

/-- One output of the 23-tap half-band decimator from its 23 inputs, newest first, before it is held within its limits
(spec 07 R168): the spec gives its length, delay and pass bands and no coefficients (DESIGN CHOICE, log 5). -/
opaque halfBand : List Int → Int

/-- Whether a quantity a / b that a rule leaves in an integer unit without naming a rounding takes the upper of the two
integers it lies between (DESIGN CHOICE, log 11). -/
opaque upper : Int → Nat → Bool

/-- The sum of squares of the full-rate impulse response of a set in filter mode 1 or 2, decimators included
(spec 10 R239; DESIGN CHOICE, log 5), for its mode and coefficients. -/
opaque noiseSquare : Nat → List Int → Nat

/-- The fine code of a raw bin in the linearisation table that BOOT builds for a channel's interpolator: what its code
density gives (spec 08 R194; DESIGN CHOICE, log 124). Arguments: channel, interpolator, bin. -/
opaque bootTable : Nat → Nat → Nat → Nat

/-- The corrections of phase and period that Spindle's loop makes, in 2^-24 ns, for the loop constant b and a phase
error that is not 0 (spec 02: weighted by the loop time constant, the weights are not given; DESIGN CHOICE, log 10). -/
opaque loopCorrection : Nat → Int → Int × Int

/-- The temperature in 0.1 C that a housekeeping input's result stands for (spec 05 R135 takes the input's reading as a
temperature and gives no scale; DESIGN CHOICE, log 17). Arguments: input, reference, code. -/
opaque sensorTemp : Nat → Nat → Nat → Int

/-- SHA-384 of FIPS 180-4 (spec 17 R396), as a function of the octets it digests (DESIGN CHOICE, log 6). -/
opaque sha384 : List Byte → BitVec 384

/-- The salt length with which an RSASSA-PSS signature of PKCS#1 v2.1 (3,072-bit modulus, exponent 65,537, SHA-384, MGF1 with
SHA-384, trailer field 0xBC) verifies over the signed octets, none where it verifies with no salt (spec 17 R395, R396; DESIGN
CHOICE, log 6). Arguments: key, signature, signed octets. -/
opaque rsaSalt : List Byte → List Byte → List Byte → Option Nat

/-- Whether a signature verifies under pure SLH-DSA-SHA2-192s of FIPS 205 with an empty context string (spec 17 R396; DESIGN
CHOICE, log 6). Arguments: key, signature, signed octets. -/
opaque slhVerifies : List Byte → List Byte → List Byte → Bool

/-- The device key (spec 17 R394; DESIGN CHOICE, log 7). -/
opaque deviceKey : BitVec 256

/-- The attestation private keys that stored octets decrypt to under a device key (spec 17 R394, R406; DESIGN CHOICE, log
6). -/
opaque attestationKeys : BitVec 256 → List Byte → List Byte

/-- The RSASSA-PSS signature (spec 17 R396) that the attestation keys make over a body with a salt (DESIGN CHOICE, log 6). -/
opaque rsaSign : List Byte → List Byte → List Byte → List Byte

/-- The SLH-DSA-SHA2-192f signature (spec 17 R396) that the attestation keys make over a body, hedged with fresh octets
(DESIGN CHOICE, log 6). -/
opaque slhSign : List Byte → List Byte → List Byte → List Byte

/-- The characters of the fused lot code, A-Z and then 0-9 (spec 17 Table 17-1; DESIGN CHOICE, log 7). -/
opaque lotCharacter : Nat → Fin 36

/-- The fused wafer number less 1 (spec 17 Table 17-1; DESIGN CHOICE, log 7). -/
opaque wafer : Fin 25

/-- The fused die X, die Y and silicon revision (spec 17 Table 17-1; DESIGN CHOICE, log 7). -/
opaque die : BitVec 8 × BitVec 8 × BitVec 8

/-- The fused identity octets (spec 17 Table 17-1, R410): lot code, first character lowest, wafer, die X, die Y and silicon
revision, from bit 0 upward. -/
def fusedIdentity : BitVec 80 :=
  let char := fun (k : Nat) => let v := (lotCharacter k).val; if v < 26 then 65 + v else 22 + v
  BitVec.ofNat 80 ((List.range 6).foldl (fun n k => n + char k * 2 ^ (8 * k)) 0 + (wafer.val + 1) * 2 ^ 48
    + die.1.toNat * 2 ^ 56 + die.2.1.toNat * 2 ^ 64 + die.2.2.toNat * 2 ^ 72)

/-- The fused key hashes of slot 0: RSA and SLH-DSA (spec 17 R394, R399; DESIGN CHOICE, log 7). -/
opaque rootHashes : BitVec 384 × BitVec 384

/-- Whether the fuse block's integrity code checks (spec 17 R403 step 1; DESIGN CHOICE, log 7). -/
opaque fusesGood : Bool

/-- The readings of the octets of a lamp-board descriptor whose inner offsets Table 4-8 does not give, as numbers
by field number (spec 04 R110; DESIGN CHOICE, log 8). -/
opaque descriptorField : List Byte → Nat → Nat

/-- The mix of an LED's red, green and blue, in 1/1,000, that an engine takes among those within the tolerance of R114 of the
chromaticity (x, y) in 10^-4 (spec 04 R114; DESIGN CHOICE, log 119). Arguments: entry of the indicator table, x, y. -/
opaque ledMix : List Byte → Nat → Nat → Nat × Nat × Nat

/-- Whether ITU-T O.150 sends a generator's pattern inverted (spec 14 Table 14-9 names it and does not state it; log 153). -/
opaque prbsInverted : Nat → Bool

end Sys2Proof.Config
end

