-- ==== Sys2Proof/Machine/State.lean ====
section
/-! DEFINITION. The state of the block: everything the spec gives the device, as plain data, and its value at reset
(state OFF: no supply). The field defaults are the reset values; docstrings cite the rule that names the field. -/

namespace Sys2Proof.Machine

/-! ## Codes -/

/-- Device states (spec 00 R1, Table 0-3). -/
inductive DevState where
  | off | standby | boot | safe | ready | armed | ranging | calibrating | selfTest | fault
  deriving DecidableEq, Repr, Inhabited

/-- Spindle states (spec 02 R42, Table 2-3). -/
inductive SpState where
  | idle | acquiring | locked | holdover | lost | freeRunning
  deriving DecidableEq, Repr, Inhabited

/-- Flyer states (spec 03 R75). -/
inductive FlyState where
  | stopped | waiting | running | held | done
  deriving DecidableEq, Repr, Inhabited

/-- Skein entry states (spec 03 R86). -/
inductive EntState where
  | free | committed | passed | fired | retired
  deriving DecidableEq, Repr, Inhabited

/-- Head-port states (spec 04 R95, Table 4-2). -/
inductive PortState where
  | off | probing | reading | verified | admitted | rejected | tripped | removed
  deriving DecidableEq, Repr, Inhabited

/-- Link states (spec 14 R334, Table 14-4). -/
inductive LinkState where
  | down | detect | train | deskew | exchange | active | recovery | test
  deriving DecidableEq, Repr, Inhabited

/-- Capture group states (spec 11 R262, Table 11-6). -/
inductive GroupState where
  | idle | filling | waiting | post | rearm | continuous | done | stopped
  deriving DecidableEq, Repr, Inhabited

/-- Bobbin slot states (spec 09 R227). -/
inductive BobState where
  | idle | collecting | finishing
  deriving DecidableEq, Repr, Inhabited

/-! ## Time base and Spindle -/

/-- The clock of the model: the instant of the last step, the instant of the core PLL's first lock in this BOOT
(device time 0, spec 02 R58), and the epoch bit. -/
structure Clock where
  now : Tick := 0
  lockedAt : Option Tick := none
  epoch : Bool := false
  /-- the last entry into SAFE -/
  safeAt : Tick := 0
  /-- the start of the assessment period in progress (10 R248) -/
  periodAt : Tick := 0
  /-- the last transition of the device state: its instant, its rank, the state that it left, and the command that made it
  (15 R348) -/
  trans : Option (Tick × Nat × DevState × Option Nat) := none
  /-- how many free values have been drawn (the model's own field) -/
  fresh : Nat := 0
  deriving DecidableEq, Repr, Inhabited

/-- A line time (spec 00 Line time, 13 R301). -/
structure LineTime where
  frame : Nat := 0
  line : Nat := 0
  frac : Nat := 0
  deriving DecidableEq, Repr, Inhabited

/-- A tracked mirror (spec 02 R53): state 0 off, 1 acquiring, 2 locked, 3 lost. -/
structure Scanner where
  state : Nat := 0
  period : Nat := 0
  last : Option Tick := none
  run : Nat := 0
  missing : Nat := 0
  deriving DecidableEq, Repr, Inhabited

/-- The totals of one frame for FRAME CLOSED (spec 02 R64, R65; 03 R92) and the number of its records that have
neither left nor become losses. -/
structure FrameTally where
  planned : Nat := 0
  fired : Nat := 0
  cancelled : Nat := 0
  /-- the frame has started under its number, and has ended -/
  begun : Bool := false
  past : Bool := false
  /-- FRAME CLOSED has been queued -/
  closed : Bool := false
  deriving DecidableEq, Repr, Inhabited

/-- Spindle (spec 02). Instants of the loop are in 2^-24 ns, as R42 states the period. -/
structure Spindle where
  state : SpState := .idle
  /-- tracked period, 2^-24 ns: line period in strobe and free-running mode, frame period in interpolated mode -/
  period : Nat := 0
  /-- phase: the last accepted, stepped or predicted tracked edge, 2^-24 ns -/
  phase : Nat := 0
  /-- the last accepted tracked edge, 2^-24 ns, from which ACQUIRING predicts (R45) -/
  edge : Nat := 0
  candidate : Option Tick := none
  seeded : Bool := false
  run : Nat := 0
  frameSeen : Bool := false
  lastFrameEdge : Option Tick := none
  strayRun : Nat := 0
  strays : Nat := 0
  excursions : Nat := 0
  missings : Nat := 0
  coast : Nat := 0
  coasting : Bool := false
  /-- the instant up to which coasted lines have been counted, 2^-24 ns -/
  coastTo : Nat := 0
  /-- good edges since the phase step, 0 when no step has happened since the last missing edge -/
  stepCount : Nat := 0
  phaseErr : Int := 0
  coastAtStep : Nat := 0
  /-- the line whose strobe instant is `phase` -/
  gridFrame : Nat := 0
  gridLine : Nat := 0
  /-- declared lines per frame in force (R39, R40) -/
  lines : Nat := 1024
  /-- the present line -/
  frame : Nat := 0
  line : Nat := 0
  last : LineTime := {}
  numbered : Bool := false
  /-- the frame number load still pending (R36) -/
  load : Option Nat := none
  /-- a FRAME_STROBE has been accepted and line 0 is the next line strobe (R33) -/
  restart : Option Tick := none
  /-- free-running settings that wait for a frame origin: the acknowledgement's instant, line period (2^-24 ns) and lines
  per frame (R40) -/
  freePending : List (Tick × Nat × Nat) := []
  /-- the pulse FRAME_ACK owes: the strobe's instant and the decision (R34) -/
  ack : Option (Tick × Bool) := none
  /-- FRAME_ACK pulses driven: instant and width in ns -/
  ackPulse : Option (Tick × Nat) := none
  /-- the frames answered with depth whose end has not come: the one in progress and the one to start -/
  depth : List Nat := []
  timePairAt : Option Tick := none
  changed : Bool := false
  /-- ratios of REF_IN to the drift comparison source, the drift in ppb, and the last measurement (R57) -/
  ratios : List Nat := []
  drift : Option Nat := none
  driftAt : Option Tick := none
  warm : Bool := false
  ocxo : Bool := false
  ref10 : Bool := false
  refAccepted : Bool := false
  scanners : Store Scanner := []
  frames : Store FrameTally := []
  deriving DecidableEq, Repr, Inhabited

/-! ## Flyers and the Skein -/

/-- A shot that a Flyer has issued and not yet committed (spec 03 R74). -/
structure Shot where
  desc : BitVec 128 := 0
  frame : Nat := 0
  line : Nat := 0
  deriving DecidableEq, Repr, Inhabited

/-- A Flyer with its store (spec 03 R69, R75). -/
structure Flyer where
  state : FlyState := .stopped
  pc : Nat := 0
  /-- open loops, innermost first: address after LOOP, times still to run -/
  loops : List (Nat × Nat) := []
  frame : Nat := 0
  line : Nat := 0
  placed : Bool := false
  issued : List Shot := []
  /-- since when the first issued shot has been the next to commit, and the last commit (R74, R84) -/
  headAt : Tick := 0
  /-- the planned instant computed for that shot, and whether it was computed in HOLDOVER (R74, R50, 02 R51) -/
  plan : Option (Tick × Bool) := none
  committedAt : Option Tick := none
  fault : Option Nat := none
  gen : BitVec 64 := 0
  shots : Store (BitVec 128) := []
  code : Store Word32 := []
  codes : Store Word32 := []
  sets : Store (BitVec 256) := []
  /-- counters of R92: issued, committed, fired under 0, 1, 2; outcome o under 16 + o -/
  counters : Store Nat := []
  deriving DecidableEq, Repr, Inhabited

/-- Skein's arbitration of commits (spec 03 R84): the bank at which the rotation stands, the core clock cycle of the last
commit check, and the banks served in it. -/
structure Arbiter where
  turn : Nat := 0
  cycle : Nat := 0
  served : List Nat := []
  deriving DecidableEq, Repr, Inhabited

/-- A Skein entry (spec 03 R85, Table 3-6). -/
structure Entry where
  state : EntState := .free
  planned : Tick := 0
  epoch : Bool := false
  fireOff : Int := 0
  pickoff : Bool := false
  lt : LineTime := {}
  element : Nat := 0
  bank : Nat := 0
  codeIdx : Nat := 0
  code : BitVec 20 := 0
  window : Nat := 0
  refCh : Nat := 0
  refOn : Bool := false
  /-- the reference channel was declared when the shot was committed (R197) -/
  refDecl : Bool := false
  /-- channels whose window is not yet closed -/
  windows : List Nat := []
  opened : Bool := false
  /-- listening channels whose slot is not yet finalised -/
  unfinal : List Nat := []
  outcome : Nat := 0
  holdover : Bool := false
  freeRun : Bool := false
  codeRepeat : Bool := false
  lateCancel : Bool := false
  accumulate : Bool := false
  pickMissing : Bool := false
  /-- commit order -/
  order : Nat := 0
  symbolAt : Tick := 0
  pickDecided : Bool := false
  pickValidity : Nat := 0
  /-- energy charged, 0.1 nJ, and the instants of the verdict that passed the shot and of the end that it came to (16
  R387) -/
  charge : Nat := 0
  verdictAt : Option Tick := none
  endedAt : Option Tick := none
  /-- the verdict check, less 1, that refused the shot (16 R387) -/
  refusedBy : Option Nat := none
  /-- a calibration shot (spec 19 R450) -/
  cal : Bool := false
  deriving DecidableEq, Repr, Inhabited

/-! ## Head ports and lamp boards -/

/-- A short symbol reserved on a port's stream (spec 04 R100): its instant and what it is. -/
inductive Reserved where
  | fire (entry : Nat)
  | keepAlive (number : Nat)
  | sync (a : Nat) (boundary : Tick)
  deriving DecidableEq, Repr

/-- The fields of a lamp-board descriptor (spec 04 R110, Table 4-8, 16 R376). -/
structure Descriptor where
  format : Nat := 0
  bodyLength : Nat := 0
  board : Nat := 0
  head : BitVec 64 := 0
  position : Nat := 0
  present : List Bool := []
  azimuth : List Int := []
  elevation : List Int := []
  wavelength : List Nat := []
  power : List Nat := []
  delayBin : List Nat := []
  table : List Nat := []
  windows : List Nat := []
  apertureOf : List Nat := []
  hasApertures : Bool := false
  energy : List (List Nat) := []
  elementLimits : List (List Nat) := []
  apertureLimits : List (List Nat) := []
  latency : Nat := 0
  forward : Nat := 0
  derateStart : Nat := 0
  derateStop : Nat := 0
  baseWavelength : Nat := 0
  /-- the entries of the indicator table, one for each RGB LED -/
  indicators : List (List Byte) := []
  scanner : Bool := false
  frequency : Nat := 0
  deriving DecidableEq, Repr, Inhabited

/-- What the device holds of one board of a port's head (spec 04 R107-R112, R504). Temperatures are as on the
wire: 2 x (T + 40). -/
structure BoardView where
  bytes : List Byte := []
  /-- bits of a byte not yet complete, most significant first -/
  part : List Bool := []
  desc : Option Descriptor := none
  verified : Bool := false
  signer : Nat := 0
  digest : BitVec 384 := 0
  /-- the octets over which the signatures were verified (spec 16 R378, 17 R405) -/
  signed : List Byte := []
  temp : Option Nat := none
  tempAt : Tick := 0
  stopped : Bool := false
  cap : Nat := 255
  /-- drive codes in force per element, those requested, and those a sync will bring -/
  codes : Store Nat := []
  requested : Store Nat := []
  next : Store Nat := []
  faults : BitVec 9 := 0
  enabled : Bool := false
  shareCount : Nat := 0
  shareGood : Bool := false
  checkErrors : Nat := 0
  deriving DecidableEq, Repr, Inhabited

/-- A BOARD SETTINGS command between its arrival and the reservation of its sync (spec 04 R105): the instant by which that
must stand, its messages, and the drive codes as they were sent, by board and element. -/
structure Asked where
  hdr : Hdr
  handle : Nat
  limit : Tick
  msgs : List (Nat × BoardMsg)
  sent : List (Nat × Nat × Nat)
  deriving DecidableEq, Repr

/-- A head port (spec 04). -/
structure Port where
  state : PortState := .off
  enteredAt : Tick := 0
  /-- the instant the head power switch last closed -/
  closedAt : Tick := 0
  /-- in PROBING, the instant at which the probe's 2.0 ms end -/
  probeEnd : Tick := 0
  seen : Bool := false
  chain : Nat := 0
  head : BitVec 64 := 0
  reserved : List (Tick × Reserved) := []
  /-- keep-alives sent: number and leading edge (R109) -/
  sent : List (Nat × Tick) := []
  /-- the sync reserved for board settings: boundary, and the handle it completes -/
  syncFor : Option (Tick × Option Nat) := none
  boards : Store BoardView := []
  gate : Bool := false
  gateCause : Nat := 0
  /-- when the gate last closed (16 R387) -/
  gateAt : Option Tick := none
  /-- the last emission message sent to the head was enable (R113) -/
  emit : Bool := false
  limits : Bool := false
  /-- the window codes by which the accounts that Whorl holds are bucketed (16 R378) -/
  windows : List Nat := []
  largest : List Nat := [0, 0, 0]
  /-- the head identity for which fire latencies and path delays are held (19 R458) -/
  latencyHead : BitVec 64 := 0
  /-- short symbols that have left: instant and the ten bits -/
  symbols : List (Tick × BitVec 10) := []
  /-- data frames sent to the head: bytes; and of those that go out one after the other from an instant on, the numbers of
  cells (R98) -/
  frames : List (List Byte) := []
  dataFrom : Tick := 0
  data : List Nat := []
  /-- boards whose capped codes are still to be sent (R112) -/
  recap : List Nat := []
  /-- the acknowledgement that BOARD SETTINGS still owes: its header and handle, its boundary as instant and line time, and
  whether its sync has left (R105) -/
  owed : Option (Hdr × Nat × Tick × LineTime × Bool) := none
  /-- BOARD SETTINGS whose frames go out and whose sync is not reserved yet (R105) -/
  asked : Option Asked := none
  /-- when the last upstream word ended, and whether it was a scanner word (R108) -/
  word : Option (Tick × Bool) := none
  scannerReports : Bool := false
  deriving DecidableEq, Repr, Inhabited

/-- A lamp board (spec 04 R102-R114). -/
structure Board where
  powered : Bool := false
  enabled : Bool := false
  faults : BitVec 9 := 0
  enables : BitVec 16 := 0xFFFF
  codes : Store Nat := []
  brightness : Nat := 100
  stagedEnables : Option (BitVec 16) := none
  stagedCodes : Store (Option Nat) := []
  stagedBrightness : Option Nat := none
  comp : Nat := 0
  reports : Bool := false
  shares : Nat := 0
  shareGood : Bool := false
  shareFail : Bool := false
  /-- check errors of the present millisecond, and those last reported -/
  checkErrors : Nat := 0
  checkSent : Nat := 0
  violations : Nat := 0
  lastKeepAlive : Tick := 0
  keepAlive : Nat := 0
  /-- the descriptor that the board holds; its transfer is under way, with so many words sent (R108, R110) -/
  image : List Byte := []
  sending : Bool := false
  sentWords : Nat := 0
  /-- the last temperature, and when it was sent (R108) -/
  temp : Nat := 0
  tempAt : Option Tick := none
  /-- Treadle: 0 off, 1 fault, 2 chase, 3 breathing; the lit LED; the pattern's start; the last fault and fire -/
  pattern : Nat := 0
  led : Nat := 0
  patternAt : Tick := 0
  /-- drive of red, green and blue of each LED, in 1/1,000 -/
  leds : List (Nat × Nat × Nat) := []
  faultAt : Option Tick := none
  fireAt : Option Tick := none
  /-- elements fired: instant and element -/
  fired : List (Tick × Nat) := []
  /-- upstream status words waiting, each with the instant from which it waits -/
  up : List (Tick × BitVec 18) := []
  /-- frames forwarded down the chain -/
  forwarded : List (List Byte) := []
  deriving DecidableEq, Repr, Inhabited

/-! ## Receive channels -/

/-- Why samples are marked (spec 05 Table 5-3, 07 Table 7-6). -/
inductive MarkKind where
  | range | clamp | bias | biasFault | openInput | pll | powerUp | fallback | swap | interleave | calibration | sag
  deriving DecidableEq, Repr

/-- A run of marked instants: cause, validity code, first instant, end (none while it lasts) (spec 07 R188). -/
structure Mark where
  kind : MarkKind
  code : Nat
  start : Tick
  stop : Option Tick
  deriving DecidableEq, Repr

/-- A gate of charge-integrating fallback (spec 05 R129). -/
structure Gate where
  /-- the shot a measuring gate belongs to; none for an ambient gate -/
  entry : Option Nat
  closes : Tick
  deriving DecidableEq, Repr

/-- A threshold comparator on the filter output (spec 07 R177). -/
structure Cmp where
  armed : Bool := true
  inEvent : Bool := false
  /-- the output has not fallen below the level since the last leading crossing -/
  above : Bool := false
  level : Int := 0
  hyst : Int := 0
  lead : Tick := 0
  /-- newest-input instants of the leading crossing's output and of the last event's last output -/
  leadOut : Tick := 0
  trailOut : Tick := 0
  /-- highest validity of the outputs of the leading crossing -/
  leadCode : Nat := 0
  /-- the last event's trailing stamp -/
  lastTrail : Tick := 0
  /-- comparator 1's first leading and last trailing stamps within the present event of comparator 0 -/
  otherLead : Option Tick := none
  otherTrail : Option Tick := none
  deriving DecidableEq, Repr, Inhabited

/-- A threshold event (spec 07 R179, Table 7-3). -/
structure Event where
  cmp : Nat := 0
  lead : Tick := 0
  peak : Tick := 0
  trail : Tick := 0
  value : Int := 0
  tag : Nat := 0
  validity : Nat := 0
  ovr : Bool := false
  inWindow : Bool := false
  truncated : Bool := false
  overflow : Bool := false
  deriving DecidableEq, Repr, Inhabited

/-- A TDC stamp (spec 08 R191, Table 8-2), with the walk of R202 not yet applied. -/
structure Stamp where
  lead : Tick := 0
  tot : Nat := 0
  tag : Nat := 0
  validity : Nat := 0
  inWindow : Bool := false
  overflow : Bool := false
  /-- entries of the slots that it is not offered to, since they have had 8 stamps (R193) -/
  blocked : List Nat := []
  deriving DecidableEq, Repr, Inhabited

/-- A detector reading (spec 07 R185). -/
structure Reading where
  peak : Int := 0
  peakAt : Tick := 0
  rms : Nat := 0
  envMax : Nat := 0
  envEnd : Nat := 0
  counted : Nat := 0
  valid : Nat := 0
  validity : Nat := 0
  part : Bool := false
  deriving DecidableEq, Repr, Inhabited

/-- A pulse offered to correlator slots (spec 09 R213); its stop is in 2^-16 ns, its width in ticks. -/
structure Pulse where
  stop : Int := 0
  source : Nat := 1
  validity : Nat := 0
  tag : Nat := 0
  ovr : Bool := false
  disagree : Bool := false
  value : Int := 0
  width : Nat := 0
  /-- the pulse's number on its channel, by which claims are kept -/
  id : Nat := 0
  /-- a hypothesis that the pulse supports needs one offered from this number on: its last cluster has been resolved (09
  R221) -/
  fresh : Nat := 0
  deriving DecidableEq, Repr, Inhabited

/-- A return on its way to Carding or past it (spec 09 R222-R223, R233). -/
structure Ret where
  /-- the delay D in 1/12 of 2^-16 ns -/
  delay : Int := 0
  c : Nat := 0
  element : Nat := 0
  index : Nat := 0
  tag : Nat := 0
  epoch : Bool := false
  lt : LineTime := {}
  tof : Nat := 0
  validity : Nat := 0
  source : Nat := 0
  near : Bool := false
  predicted : Bool := false
  histogram : Bool := false
  charge : Bool := false
  amplitude : Nat := 0
  width : Nat := 0
  clipped : Bool := false
  disagree : Bool := false
  ambiguous : Bool := false
  pulseLimit : Bool := false
  pickMissing : Bool := false
  stampLimit : Bool := false
  support : Nat := 0
  residual : Nat := 0
  entry : Nat := 0x1FFF
  /-- when the window it was formed in closes -/
  closeAt : Tick := 0
  /-- what Carding finds in the cycle in which it receives the return: class, wide, one entry at least agrees, to be
  dropped (10 R235, R247) -/
  cls : Nat := 3
  wide : Bool := false
  seen : Bool := false
  dropped : Bool := false
  deriving DecidableEq, Repr, Inhabited

/-- A correlator slot (spec 09 R214). -/
structure Slot where
  entry : Nat := 0
  order : Nat := 0
  element : Nat := 0
  /-- planned instant plus the actual fire offset once decided -/
  start : Int := 0
  decided : Bool := false
  decideAt : Tick := 0
  openAt : Tick := 0
  closeAt : Tick := 0
  k : Nat := 1
  offs : List Nat := [0]
  tol : Nat := 0
  maxReturns : Nat := 4
  correct : Bool := true
  /-- an accumulate-marked shot in decode mode Bobbin forms no hypotheses (R225) -/
  noHyp : Bool := false
  pulses : List Pulse := []
  /-- the pulses taken, stop and number, in order of stop (R215) -/
  taken : List (Int × Nat) := []
  /-- numbers of pulses in the window that are not offered -/
  rest : List (Int × Nat) := []
  pulseLimit : Bool := false
  stamps : Nat := 0
  stampLimit : Bool := false
  /-- kept hypotheses not yet passed on, in order of delay -/
  kept : List Ret := []
  passed : Nat := 0
  /-- times of flight of its single-shot returns of validity 0 (10 R243) -/
  tofs : List Nat := []
  /-- the first shot of its element in a coherence interval (10 R243) -/
  firstShot : Bool := false
  deriving DecidableEq, Repr, Inhabited

/-- A coherence line (spec 10 R243). -/
structure CohLine where
  element : Nat := 0
  entries : List (List Nat) := []
  /-- the entries before the cycle of the last one that was added (R247) -/
  was : Option (Tick × List (List Nat)) := none
  used : Tick := 0
  interval : Option Nat := none
  deriving DecidableEq, Repr, Inhabited

/-- The front end of a channel (spec 05). -/
structure FrontEnd where
  range : Nat := 0
  /-- switches of the range, newest first: the instant and the range before it (R122) -/
  past : List (Tick × Nat) := []
  down : Nat := 0
  clamping : Bool := false
  /-- start of the last clamp event -/
  clampAt : Option Tick := none
  clampFlag : Bool := false
  clampInPeriod : Bool := false
  /-- the rescue switch since which no range boundary has passed (R126) -/
  rescuedAt : Option Tick := none
  /-- a TDC-only channel after a rescue holds range 0 (R125) -/
  held : Bool := false
  /-- the baseline servo: saturated, the current in 0.5 uA that it holds, and until when (R123) -/
  saturated : Bool := false
  servo : Nat := 0
  servoUntil : Tick := 0
  fallback : Bool := false
  fbClamp : Nat := 0
  fbSat : Nat := 0
  fbGood : Nat := 0
  /-- the last automatic entry into fallback or return from it -/
  fbAt : Option Tick := none
  gate : Option Gate := none
  lastGateEnd : Tick := 0
  /-- the last range boundary, and the last window opening or change of receive mode, from which idle boundaries are counted
  (R124) -/
  lastBoundary : Option Tick := none
  countFrom : Tick := 0
  oiFails : Nat := 0
  oiPasses : Nat := 0
  oiOpen : Bool := false
  /-- sequence number of the last return record before the first of the failed sub-blocks -/
  oiLast : Nat := 0
  /-- start of the sub-block in progress, and windows opened in it (R141) -/
  oiStart : Tick := 0
  oiWindows : Nat := 0
  /-- per-stage interleave values in force: offset, gain, skew (06 R146); and those in force before the instant of a change,
  newest first -/
  inter : Store (Int × Int × Int) := []
  interPast : List (Tick × Store (Int × Int × Int)) := []
  /-- the servo has been saturated at each of its readings since the last range boundary, that included (05 R131) -/
  satAll : Bool := false
  /-- start of the tracking block in progress (06 R147) -/
  trackFrom : Tick := 0
  trackLimit : Bool := false
  deriving DecidableEq, Repr, Inhabited

/-- Carding's state of a channel (spec 10). -/
structure Carding where
  ambient : Nat := 0
  ambientSet : Bool := false
  charge : Nat := 0
  chargeSet : Bool := false
  /-- per range: noise estimate in 1/16 code and readings accepted -/
  sigma : Store (Nat × Nat) := []
  /-- comparator 0's level in force when adaptive, and the analogue level -/
  level : Option Nat := none
  analogue : Option Nat := none
  /-- when each was last computed, and what it was before (R240) -/
  levelWas : Option (Tick × Option Nat) := none
  analogueWas : Option (Tick × Option Nat) := none
  satRun : Nat := 0
  levelRun : Nat := 0
  clearRun : Nat := 0
  blinded : Bool := false
  interfered : Bool := false
  wasInterfered : Bool := false
  /-- the state before the cycle of its last change (R247) -/
  interferedWas : Option (Tick × Bool) := none
  /-- when a host change of level or level source last applied, for each path (R240) -/
  levelHost : Option Tick := none
  analogueHost : Option Tick := none
  highRun : Nat := 0
  lowRun : Nat := 0
  /-- unmatched in-window pulses and open time (ticks) of the present assessment period -/
  unmatched : Nat := 0
  openTime : Nat := 0
  /-- of the last counting period, where it may still grow: its unmatched pulses, its open time, and the runs before it
  (R250) -/
  last : Option (Nat × Nat × Nat × Nat) := none
  /-- since when at least one non-reference window has been open, and how many are -/
  openSince : Tick := 0
  openCount : Nat := 0
  lines : List CohLine := []
  inbox : List Ret := []
  deriving DecidableEq, Repr, Inhabited

/-- A channel's Roving trigger unit (spec 11 R254-R256): when its setting last applied, and whether the quiet and held
timeouts have triggered since the last leading crossing. -/
structure TrigUnit where
  appliedAt : Tick := 0
  quietDone : Bool := false
  heldDone : Bool := false
  deriving DecidableEq, Repr, Inhabited

/-- A peak that the second pass has kept (spec 09 R232, 13 R311): bin, fraction in 1/256 bin, height in 1/16 count, width in
1/16 ns. -/
structure Peak where
  bin : Nat := 0
  delta : Int := 0
  height : Int := 0
  width : Nat := 0
  /-- of its return -/
  amplitude : Nat := 0
  deriving DecidableEq, Repr, Inhabited

/-- What a sum of accumulated shots comes from (spec 09 R228-R234): how many, the sum of residuals, how many were clipped,
whether one was settling, the first one's element and line time, the last one's line time, and the code offsets of each,
for the image sum. -/
structure BobTally where
  count : Nat := 0
  residual : Int := 0
  clipped : Nat := 0
  settling : Bool := false
  /-- element, line time and epoch of the first shot -/
  first : Option (Nat × LineTime × Bool) := none
  lastLt : LineTime := {}
  images : List (List Nat) := []
  deriving DecidableEq, Repr, Inhabited

/-- A Bobbin slot (spec 09 R226-R234): the accumulation that a command started in it, and the bins and shots that stand
in the slot itself (an accumulation of more than 256 shots uses the other slot's bins in turn). -/
structure BobSlot where
  state : BobState := .idle
  params : Option BobbinParams := none
  handle : Nat := 0
  flushHandle : Option Nat := none
  startedAt : Tick := 0
  started : Nat := 0
  /-- the shots accumulated -/
  all : BobTally := {}
  excluded : List Nat := [0, 0, 0, 0, 0]
  part : Bool := false
  dramLost : Bool := false
  /-- the other slot is the one in which shots start -/
  other : Bool := false
  /-- the slot has started 256 shots: the next one starts in the other (R231) -/
  turn : Bool := false
  spilled : Bool := false
  /-- the spilled bins that the second pass, then the block, has asked the DRAM for, as far as they have come (12 R281) -/
  back : Option (Store Nat) := none
  flushed : Bool := false
  range : Option Nat := none
  /-- entries that overlap turned away before their start was decided -/
  turned : List Nat := []
  passDone : Bool := false
  peaks : List Peak := []
  sigma : Nat := 0
  threshold : Nat := 0
  /-- of the slot itself: its bins, shots started in them, the shots accumulated in them, entries in progress (with a copy
  of one that has been freed meanwhile), a spill under way -/
  bins : Store Nat := []
  here : Nat := 0
  own : BobTally := {}
  inProgress : List (Nat × Option Entry) := []
  spilling : Bool := false
  deriving DecidableEq, Repr, Inhabited

/-- A receive channel. -/
structure Channel where
  fe : FrontEnd := {}
  marks : List Mark := []
  cmp0 : Cmp := {}
  cmp1 : Cmp := {}
  /-- events awaiting pairing, and when the event store will have drained (R182) -/
  events : List Event := []
  evBusy : Tick := 0
  evOverflow : Bool := false
  reading : Option Reading := none
  /-- start of the reading in progress, and the instant, gate and decay of a change of setting that closes it (R185) -/
  readsAt : Tick := 0
  readCut : Option (Tick × Nat × Nat) := none
  envelope : Nat := 0
  /-- when the comparator output falls, and the previous leading crossing (08 R192) -/
  fallsAt : Tick := 0
  lastLead : Option Tick := none
  /-- stamps not yet handed on, and when the stamp store will have drained (R193) -/
  forming : List Stamp := []
  stBusy : Tick := 0
  stOverflow : Bool := false
  /-- stamps that Ply holds for pairing -/
  stamps : List Stamp := []
  /-- the fine interpolator that stamps, the last exchange, and the tables that linearisation has built since BOOT:
  interpolator and fine codes by raw bin (R194) -/
  interpolator : Bool := false
  exchangedAt : Tick := 0
  linear : Store (List Nat) := []
  /-- unclaimed pickoff stamps of a declared reference, 2^-16 ns, with their validity (08 R198) -/
  pickoffs : List (Int × Nat) := []
  pulseId : Nat := 0
  slots : List Slot := []
  /-- listening windows of late, on a declared reference too: opening and close (03 R72) -/
  wins : List (Tick × Tick) := []
  /-- windows whose slots are finalised: opening and close -/
  pastWins : List (Tick × Tick) := []
  /-- return records of late: when the window of each closes, and its number -/
  closes : List (Tick × Nat) := []
  card : Carding := {}
  trig : TrigUnit := {}
  bobs : Store BobSlot := []
  deriving DecidableEq, Repr, Inhabited

/-! ## Banks -/

/-- A coefficient set (spec 07 R172). The unit set is the default. -/
structure CoefSet where
  mode : Nat := 0
  phase : Nat := 0
  coefs : List Int := [256]
  shift : Nat := 8
  delay : Nat := 0
  tag : Nat := 0
  deriving DecidableEq, Repr, Inhabited

/-- A bank's bias controller (spec 05 R133-R139). Target, reference and term in 0.1 mV, the held lead offset in 10 mV. -/
structure Bias where
  target : Nat := 200000
  /-- the internal reference where its present ramp began, and that instant -/
  reference : Nat := 200000
  rampAt : Tick := 0
  moving : Bool := false
  settled : Bool := false
  senseOpen : Bool := false
  forceOnly : Bool := false
  lead : Int := 0
  faulted : Bool := false
  gateOn : Bool := false
  term : Int := 0
  deriving DecidableEq, Repr, Inhabited

/-- A receive bank. -/
structure Bank where
  marks : List Mark := []
  copyA : CoefSet := {}
  copyB : CoefSet := {}
  activeB : Bool := false
  /-- sets that formed outputs before the instant of a swap, newest first (01 R16) -/
  olds : List (Tick × CoefSet) := []
  /-- a host swap is staged -/
  swapStaged : Bool := false
  forced : Bool := false
  mismatch : Bool := false
  measured : Nat := 0
  unitForced : Bool := false
  bias : Bias := {}
  weather : Nat := 0
  wetRun : Nat := 0
  wetKind : Nat := 0
  dryRun : Nat := 0
  n : Nat := 0
  c1 : Nat := 0
  diffuse : Nat := 0
  cge1 : Nat := 0
  /-- triggers of the bank's units that the combiner has not yet taken (R257) -/
  fresh : List (Nat × Tick) := []
  /-- coincidence: triggers not yet used; sequence: the A trigger that opened the period -/
  held : List (Nat × Tick) := []
  openA : Option Tick := none
  deriving DecidableEq, Repr, Inhabited

/-! ## Housekeeping, statistics, AUXF -/

/-- A housekeeping conversion in progress (spec 06 R156-R161): its input, its slot (255 for an injected one), its source
(0 sequence, 1 injected by host, 2 injected for calibration), the handle, whether it settles the multiplexer, and when it
began. -/
structure HkConv where
  input : Nat
  slot : Nat
  source : Nat
  handle : Nat
  settling : Bool
  startedAt : Tick
  deriving DecidableEq, Repr

/-- The housekeeping converter (spec 06 R152-R165). -/
structure Housekeeping where
  running : Bool := false
  settled : Bool := false
  settleAt : Tick := 0
  /-- the voltage on HKREF, mV -/
  hkref : Nat := 0
  mux : Option Nat := none
  /-- the inputs of the present run's slots, and the slot in progress -/
  seq : List Nat := []
  run : Option Nat := none
  conv : Option HkConv := none
  /-- when the timer was switched on or last gave an event (R158) -/
  timerFrom : Tick := 0
  /-- the timer's period in us, as it stood when the present one began (R157) -/
  timerPeriod : Nat := 1000
  /-- delayed starts pending: when they fall due -/
  timerDue : Option Tick := none
  pulseDue : Option Tick := none
  overruns : Nat := 0
  aborted : Nat := 0
  runNumber : Nat := 0
  queue : List (List Byte) := []
  dropped : Nat := 0
  overrun : Bool := false
  deriving DecidableEq, Repr, Inhabited

/-- A statistics run (spec 08 R207-R209). -/
structure StatRun where
  handle : Nat
  kind : StatKind
  order : Nat
  deadline : Tick
  open_ : Option Tick := none
  count : Nat := 0
  sum : Int := 0
  squares : Int := 0
  least : Nat := 0
  most : Nat := 0
  overflows : Nat := 0
  ignored : Nat := 0
  deadLosses : Nat := 0
  deriving DecidableEq, Repr

/-- A frequency gate (spec 08 R211, R212): a forced one waits for the drift comparison's next gate (closes 0). -/
structure FreqGate where
  handle : Nat
  opens : Tick
  closes : Tick
  forced : Bool
  deriving DecidableEq, Repr

/-- An AUXF input's frequency counter (spec 08 R210-R212): the gate, the first counted edge after its opening, edges
counted in the gate, intervals counted since the first edge, and the prescaler's count; and of the drift comparison the
opening of its gate, its first edge, intervals since, and the result of the last gate. -/
structure Auxf where
  gate : Option FreqGate := none
  first : Option Tick := none
  inGate : Nat := 0
  counted : Nat := 0
  prescale : Nat := 0
  driftOpens : Tick := 0
  driftFirst : Option Tick := none
  driftCount : Nat := 0
  driftDone : Option (Nat × Tick) := none
  deriving DecidableEq, Repr, Inhabited

/-! ## Roving -/

/-- A capture with its header (spec 11 R274, Table 11-7); the headers of a capture's channels differ only in the channel's
number. -/
structure Capture where
  segment : Nat := 0
  number : Nat := 0
  trigger : Tick := 0
  source : Nat := 0
  channel : Nat := 0xFF
  lt : LineTime := {}
  /-- instant of the first kept word, and its index from the trigger word -/
  first : Tick := 0
  firstWord : Int := 0
  /-- words kept per channel -/
  words : Nat := 0
  /-- words written since the ring began before the first kept one, and before the linear ones, none where all are in the
  ring; words of the ring (R263, R264) -/
  start : Nat := 0
  turn : Option Nat := none
  ring : Nat := 1
  /-- actual pre- and post-trigger counts, in samples -/
  pre : Nat := 0
  post : Nat := 0
  dead : Nat := 0
  missedPost : Nat := 0
  missedRearm : Nat := 0
  flags : BitVec 10 := 0
  /-- byte 1 and byte 28 of the headers of its blocks, as at the trigger (spec 13 Table 13-2) -/
  lineFlags : Nat := 0
  codes : Nat := 0
  deriving DecidableEq, Repr, Inhabited

/-- A waveform block still to send: segment, channel, index of its first word from the trigger word, words, first and
last of its capture and channel. -/
structure WaveBlock where
  segment : Nat
  channel : Nat
  firstWord : Int
  words : Nat
  first : Bool
  last : Bool
  deriving DecidableEq, Repr

/-- A capture read in progress (spec 11 R275). -/
structure ReadJob where
  handle : Nat
  blocks : List WaveBlock
  /-- the bursts of the next block that have been read back: number and bytes (12 R281) -/
  got : List (Nat × List Byte) := []
  deriving DecidableEq, Repr

/-- A trigger that a group has accepted (spec 11 R264, R265, R268): instant, source bits, first channel, whether the group
was FILLING, the decision instant, the line time with whether Spindle had none or was in holdover, the pre-trigger words
kept, and the triggers missed since the previous capture's trigger. -/
structure Accepted where
  instant : Tick
  source : Nat
  channel : Nat
  early : Bool
  decidedAt : Tick
  lt : LineTime
  /-- the flags of Spindle's state and the state codes that a header takes (spec 13 Table 13-2) -/
  lineFlags : Nat
  codes : Nat
  pre : Nat
  missedPost : Nat
  missedRearm : Nat
  deriving DecidableEq, Repr

/-- A stop of a group that waits for the next word boundary (spec 11 R270): its instant, the command it completes, and
the flag its capture takes. -/
structure Closing where
  since : Tick
  handle : Option Nat
  flags : BitVec 10
  deriving DecidableEq, Repr

/-- A capture group (spec 11 R259-R275). -/
structure Group where
  state : GroupState := .idle
  params : Option CaptureParams := none
  /-- segment capacity Q in words, and the DRAM channels live at the arm -/
  capacity : Nat := 0
  live : List Nat := []
  armPending : Bool := false
  segment : Nat := 0
  ringAt : Tick := 0
  trigger : Option Accepted := none
  /-- post-trigger words that the capture in POST will hold, and whether truncation bounds them -/
  postWords : Nat := 0
  truncated : Bool := false
  /-- captures made since the arm, and since BOOT -/
  made : Nat := 0
  number : Nat := 0
  missedPost : Nat := 0
  missedRearm : Nat := 0
  /-- missed triggers counted last: in re-arm or not, and when; and the last overflow (R269) -/
  missedAt : List (Bool × Tick) := []
  overflowAt : Option Tick := none
  lastEnd : Option Tick := none
  /-- spans of POST (false) and REARM (true) of this arm, newest first: when each began and ended (R268) -/
  dead : List (Bool × Tick × Option Tick) := []
  /-- words of the group have been lost on a DRAM channel mapped out since the arm (spec 11 R273, 12 R294) -/
  dramLost : Bool := false
  closing : Option Closing := none
  /-- the scheduled trigger of this arm has come -/
  schedDone : Bool := false
  /-- channel and interval out of waveform with TDC (R270) -/
  gaps : List (Nat × Tick × Option Tick) := []
  /-- triggers not yet decided: instant, source bits, first channel (0xFF none) -/
  seen : List (Tick × Nat × Nat) := []
  captures : List Capture := []
  read : Option ReadJob := none
  deriving DecidableEq, Repr, Inhabited

/-! ## Stacked DRAM -/

/-- What a DRAM request is for (spec 12 Table 12-3): words of a group's capture, burst `i` of the spill of a Bobbin slot or
of its spilled bins as the second pass or the block reads them, or readback of a group. -/
inductive DramJob where
  | capture (g : Nat)
  | spill (c k i : Nat)
  | bins (c k i : Nat)
  | readback (g : Nat)
  deriving DecidableEq, Repr

/-- An entry of a bank's queue (spec 12 R281, R282): one 64-byte burst at device address 64 x `burst`, its class of Table
12-3, how often it has been passed, and whether its wait for an activation has been counted. A write has a byte mask. -/
structure DramReq where
  cls : Nat
  write : Bool
  burst : Nat
  mask : BitVec 64
  data : List Byte
  job : DramJob
  passed : Nat := 0
  waited : Bool := false
  deriving DecidableEq, Repr

/-- A DRAM channel (spec 12): with its last row activations, how many waited (R283), the bank last served, the bytes
served in the present 4 us interval by class (R285), and each burst of the last 1 ms with its class (R287, R297). -/
structure DramCh where
  /-- mapped out: lane, eye (0 read, 1 write), widest eye -/
  mapped : Option (Nat × Nat × Nat) := none
  training : Bool := false
  temp : Int := 0
  lanes : List LaneEye := []
  forced : Nat := 0
  trainings : Nat := 0
  acts : List Tick := []
  waits : Nat := 0
  lastBank : Nat := 15
  spanNo : Nat := 0
  spanBytes : List Nat := [0, 0, 0, 0, 0, 0]
  traffic : List (Tick × Nat) := []
  /-- bytes of pattern traffic of the last 1 ms (class 5), and the last start of a refresh command (R286) -/
  patterns : List (Tick × Nat) := []
  refreshedAt : Option Tick := none
  deriving DecidableEq, Repr, Inhabited

/-- A DRAM bank: its queue, oldest first (spec 12 R281), the open row, the row at the page decision that the next request
answers, the page history (true is a hit), its last request, until when a refresh holds it, postponed refreshes and
refreshes made (R284, R286). -/
structure DramBank where
  queue : List DramReq := []
  row : Option Nat := none
  decided : Option Nat := none
  lastAt : Tick := 0
  busyUntil : Tick := 0
  /-- when its last refresh command fell due -/
  dueAt : Tick := 0
  hist : List Bool := [true, true, true, true]
  postponed : Nat := 0
  refreshes : Nat := 0
  deriving DecidableEq, Repr, Inhabited

/-- A retraining pass (spec 12 R291-R293): the command it completes, the retest option, the channels in start-up training
under it, the next channel, and when the last channel returned. -/
structure TrainPass where
  handle : Option Nat
  retest : Bool
  startUp : List Nat
  next : Nat
  returnedAt : Option Tick
  deriving DecidableEq, Repr

/-- The stacked DRAM's controller (spec 12). -/
structure Dram where
  chans : Store DramCh := []
  banks : Store DramBank := []
  /-- capture staging, of 3,072 KiB, and the other requests whose queue is full, which wait at their requesters (01 Table
  1-5,
  R281) -/
  staging : List DramReq := []
  waiting : List DramReq := []
  tdram : Option Int := none
  doubled : Bool := false
  coolSince : Option Tick := none
  pass : Option TrainPass := none
  deriving DecidableEq, Repr, Inhabited

/-! ## Records, losses and the link -/

/-- A record in a queue: source id, sequence number, its frame (R64), its bytes and how many have entered frames. Of a
class-3 entry, the source id is the handle that it completes (0: none). -/
structure Rec where
  src : Nat
  seq : Nat
  frame : Option Nat
  bytes : List Byte
  sent : Nat := 0
  deriving DecidableEq, Repr

/-- A loss run (spec 13 R317). -/
structure LossRun where
  src : Nat
  first : Nat
  count : Nat
  cause : Nat
  several : Bool
  /-- device time field of the first loss (R301) -/
  firstField : Nat
  lastAt : Tick
  frame : Nat
  frames : List Nat
  closed : Bool
  deriving DecidableEq, Repr

/-- Record output: sequence numbers, queues by class, the rate allowance and the loss table (spec 13). -/
structure Records where
  seqs : Store Nat := []
  /-- class 0: events and loss records -/
  q0 : List Rec := []
  /-- class 1: main queue and health reserve, in order of acceptance -/
  q1 : List Rec := []
  q2 : List Rec := []
  /-- entries of class 3 -/
  q3 : List Rec := []
  /-- the burst allowance of R315, in 1/20,480 record -/
  allowance : Nat := 83886080
  allowanceAt : Tick := 0
  runs : List LossRun := []
  deriving DecidableEq, Repr, Inhabited

/-- A frame in the replay store (spec 14 R328). -/
structure TxFrame where
  seq : Nat
  cls : Nat
  bytes : List Byte
  at_ : Tick
  /-- completions whose last byte the frame holds -/
  handles : List Nat
  deriving DecidableEq, Repr

/-- A block as a transmit lane carries it: the sync header, 1 for data and 2 for control, and the scrambled payload, bit 0
sent first (spec 14 R319). -/
structure LaneBlock where
  lane : Nat
  header : Nat
  payload : BitVec 64
  deriving DecidableEq, Repr

/-- The host link (spec 14). -/
structure Link where
  state : LinkState := .down
  rate : Nat := 0
  width : Nat := 0
  first : Nat := 0
  lastWidth : Nat := 0
  detected : BitVec 8 := 0
  locked : BitVec 8 := 0
  /-- lanes in training, and CAP indices received (R336) -/
  lanes : BitVec 8 := 0
  capMask : BitVec 16 := 0
  since : Tick := 0
  /-- the stage of bring-up or of RECOVERY: TRAIN, DESKEW or EXCHANGE -/
  stage : LinkState := .down
  /-- rate codes that the peer's TRAIN blocks show as supported -/
  peerRates : BitVec 3 := 7
  /-- lanes whose receivers hold bit lock and block lock, since when, and lanes whose peer shows its receiver locked (R335,
  R340) -/
  rxLocked : BitVec 8 := 0
  lockAt : List Tick := [0, 0, 0, 0, 0, 0, 0, 0]
  peerLocked : BitVec 8 := 0
  recoverAt : Tick := 0
  leftAt : Option Tick := none
  discarded : Bool := false
  retrain : Option Nat := none
  txSeq : Nat := 0
  unacked : List TxFrame := []
  replay : List TxFrame := []
  credits : List Nat := [0, 0, 0]
  /-- the instant of the last credit counts, and the counts before it (R330) -/
  creditsAt : Option Tick := none
  creditsWas : List Nat := [0, 0, 0]
  sent : List Nat := [0, 0, 0]
  /-- the class that the round robin visits, and the frames it has sent in this visit (R332) -/
  visit : Nat × Nat := (1, 0)
  rxSeq : Nat := 0
  nakAt : Option Tick := none
  nakIn : Option (Nat × Nat) := none
  /-- the number of the last frame discarded while a NAK stands (R327) -/
  nakLast : Option Nat := none
  /-- the bytes received of a class-3 entry that goes on in the next frame (R324), and invalid blocks by lane (R323) -/
  entry : List Byte := []
  invalid : List Nat := [0, 0, 0, 0, 0, 0, 0, 0]
  rxGranted : Nat := 0
  rxAccepted : Nat := 0
  needAck : Bool := false
  protocolErrors : Nat := 0
  caps : Store (BitVec 48) := []
  disagreed : Bool := false
  alignCount : Nat := 0
  aligned : Bool := false
  idleDeleted : Nat := 0
  idleRepeated : Nat := 0
  idleSent : Nat := 0
  alignSent : Nat := 0
  alignAt : Option Tick := none
  linkSent : Nat := 0
  table : Store BoardEntry := []
  tableNext : Option (Store BoardEntry) := none
  substituted : Bool := true
  test : Option (Nat × Option Tick × List LaneTest) := none
  /-- the completion of a test that came over the link, due when the link is ACTIVE -/
  tested : Option (Nat × List Byte) := none
  /-- DFE taps held, 8 bits each, 8 to a lane (R337) -/
  taps : BitVec 512 := 0
  /-- frames sent, newest last, as the receiver may see them -/
  out : List TxFrame := []
  /-- LINK blocks sent: acknowledged number, NAK, class-3 credits -/
  links : List (Nat × Bool × Nat) := []
  /-- the place of the next block in the stream mod 8, each lane's scrambler register (bit 57 the newest line bit), and
  what the transmit lanes carried last, newest last (R319, R321) -/
  streamPos : Nat := 0
  scramblers : List (BitVec 58) := List.replicate 8 0
  wire : List LaneBlock := []
  /-- the first 128 raw bits of each lane of the last pattern test (R343, R344) -/
  raw : List (List Bool) := []
  deriving DecidableEq, Repr, Inhabited

/-! ## Distaff and Dreid -/

/-- A live handle (spec 15 R357). -/
structure Live where
  handle : Nat
  tag : Nat
  opcode : Nat
  path : Path
  at_ : Tick
  completed : Bool := false
  late : Bool := false
  deriving DecidableEq, Repr

/-- A staged change (spec 01 R16, 15 R358-R359). -/
inductive Change where
  | item (target : Nat) (i : Item)
  | codes (bank first : Nat) (words : List Word32)
  | sets (bank first : Nat) (words : List (BitVec 256))
  | swap (bank : Nat)
  | restore
  | hop (j : Nat) (host : Bool)
  deriving DecidableEq, Repr

/-- A command entry that has arrived and is not yet checked (spec 15 R352): its opcode, its header, and when it arrived. -/
structure Arrival where
  op : Nat
  hdr : Hdr
  at_ : Tick
  deriving DecidableEq, Repr

/-- Changes of one command that wait for a line boundary. -/
structure Staged where
  frame : Nat
  line : Nat
  /-- due at the first boundary after the line named here, not at the line itself -/
  after : Bool
  handle : Option Nat
  changes : List Change
  /-- a free-running setting waits for a frame origin instead: when its command was acknowledged (02 R40) -/
  free : Option Tick := none
  deriving DecidableEq, Repr

/-- A response entry waiting to be written (spec 15 R356): path, bytes, and the handle it completes (0: none). -/
structure Resp where
  path : Path
  handle : Nat
  ack : Bool
  bytes : List Byte
  deriving DecidableEq, Repr

/-- A parameter's value (spec 15 R365): option index and number. -/
structure PVal where
  opt : Nat := 0
  num : Int := 0
  deriving DecidableEq, Repr, Inhabited

/-- Distaff, the command front end and firmware slots (spec 15). -/
structure Distaff where
  up : Bool := false
  downCause : Nat := 0
  corrected : Nat := 0
  /-- when Distaff came up, and the last update of the load figure (R361, R362) -/
  upAt : Tick := 0
  loadAt : Tick := 0
  /-- when the watchdog counter was last restarted (R362) -/
  restartAt : Tick := 0
  load : Nat := 0
  highRun : Nat := 0
  lowRun : Nat := 0
  loadHigh : Bool := false
  version : Nat := 0
  security : Nat := 0
  imageDigest : BitVec 384 := 0
  /-- the instruction memory: the image that is loaded (01 R29, 15 R368) -/
  instr : List Byte := []
  /-- Distaff data memory as DISTAFF UP loads it: the image's data section, at address 0 (17 R402) -/
  data : List Byte := []
  generations : Store Nat := []
  lastIndex : Option Nat := none
  live : List Live := []
  intake : List Arrival := []
  /-- when the command that was checked last arrived -/
  arrivedAt : Tick := 0
  /-- link frames that take room in the intake: the entries of each that wait there (R356) -/
  frames : List Nat := []
  waiting : List Resp := []
  staged : List Staged := []
  /-- handles that complete when every Skein entry has retired -/
  awaitRetire : List Nat := []
  /-- parameters by (id x 64 + entry) x 256 + target; none where the default is in force -/
  params : Store (Option PVal) := []
  /-- what the boot store's slots hold, none where the device has neither read nor written the slot -/
  slotA : Option (List Byte) := none
  slotB : Option (List Byte) := none
  validA : Bool := true
  validB : Bool := true
  /-- the records of the flash's two selector sectors: boot slot B, sequence number (21 R477) -/
  selA : Option (Bool × Nat) := none
  selB : Option (Bool × Nat) := none
  /-- update in progress: length, bytes written -/
  update : Option (Nat × Nat) := none
  verified : Bool := false
  verifying : Option Nat := none
  /-- FW RELOAD in progress: handle, other slot, activate -/
  reload : Option (Nat × Bool × Bool) := none
  deriving DecidableEq, Repr, Inhabited

/-! ## Whorl -/

/-- The emission-inhibit latch (spec 16 R374): set with its cause and port (0xFF none). -/
structure Latch where
  set : Bool := false
  cause : Nat := 0
  port : Nat := 0xFF
  deriving DecidableEq, Repr, Inhabited

/-- Whorl (spec 16). Accounts are keyed by account id x 3 + window; each holds (bucket, sum) pairs. -/
structure Whorl where
  /-- inhibit causes of Table 16-7 bits 0-6 and 8 (bit 7 is the latch) -/
  inhibit : BitVec 9 := 0
  /-- arm loop: 0 open, 1 closing, 2 closed -/
  loop : Nat := 0
  lastOpen : Tick := 0
  /-- when REF_IN or the core PLL was last found at fault (R386) -/
  refAt : Tick := 0
  opens : Nat := 0
  opensSince : Nat := 0
  firstClosed : Bool := false
  accounts : Store (List (Nat × Nat)) := []
  attributed : Store (List Tick) := []
  deviation : Int := 0
  accountCorrected : Store Nat := []
  /-- FAULT causes that persist: 0 REF_IN, 1 core PLL, 2 sag, 3 account store, 4 latch, 5 debug unlock -/
  faults : BitVec 6 := 0
  deriving DecidableEq, Repr, Inhabited

/-! ## Trust -/

/-- A key slot (spec 17 R399). -/
structure KeySlot where
  rsa : BitVec 384 := 0
  slh : BitVec 384 := 0
  usage : BitVec 4 := 0
  generation : Nat := 0
  revoked : Bool := false
  written : Bool := false
  deriving DecidableEq, Repr, Inhabited

/-- A manifest in preparation (spec 17 R411). -/
structure Prep where
  number : Nat
  body : List Byte
  handle : Option Nat
  closing : Bool
  /-- the two signatures, once they are made -/
  sigs : Option (List Byte × List Byte) := none
  /-- the instant of the cut (R409) -/
  cutAt : Tick := 0
  deriving DecidableEq, Repr

/-- An attestation session (spec 17 R407-R409): chains as (count, value). -/
structure Session where
  index : Nat := 0
  interval : Nat := 0
  openAt : Tick := 0
  next : Nat := 0
  skipped : Nat := 0
  previous : BitVec 384 := 0
  chains : List (Nat × BitVec 384) := []
  deriving DecidableEq, Repr, Inhabited

/-- Trust (spec 17). -/
structure Trust where
  slots : Store KeySlot := []
  token : Mem := []
  challenge : Option (BitVec 256 × Tick) := none
  /-- debug level open, unlock waiting for its manifest: level and handle, unlocked level waiting for access -/
  access : Nat := 0
  unlocking : Option (Nat × Nat) := none
  unlocked : Nat := 0
  unlockedAt : Tick := 0
  keyLatched : Bool := false
  rollback : Nat := 0
  bootCount : Nat := 0
  session : Option Session := none
  sessions : Nat := 0
  prep : List Prep := []
  certificate : List Byte := []
  /-- the decrypted attestation keys (R406), present from BOOT until they are cleared -/
  keys : List Byte := []
  tap : TapInstr := .idcode
  /-- the test data register that a scan would shift out first, where R415 gives it -/
  tapData : Word32 := 0
  /-- the boundary register's cells and the levels that SAMPLE/PRELOAD took of the device's pins (R415) -/
  boundary : List (TapPin × Bool) := []
  sampled : List (TapPin × Bool) := []
  /-- the entropy pool: the octets drawn last from the entropy source (R414) -/
  entropy : List Byte := []
  /-- the secrets have been cleared and read back as zero: the gate of scan-enable (R414) -/
  clearingDone : Bool := false
  deriving DecidableEq, Repr

/-! ## Power, thermal and the non-volatile store -/

/-- A supply rail (spec 18 R416-R423). -/
structure Rail where
  enabled : Bool := false
  good : Bool := false
  enabledAt : Tick := 0
  sag : Bool := false
  sagAt : Tick := 0
  outside : Bool := false
  /-- from when its reading may have lain in the good window again (R416) -/
  backAt : Tick := 0
  deriving DecidableEq, Repr, Inhabited

/-- Power and thermal (spec 18). Temperatures in 0.25 C. -/
structure Power where
  vaux : Nat := 0
  rails : Store Rail := []
  powerGood : Bool := false
  seqFail : Nat := 0
  autoAt : List Tick := []
  autoDue : Option Tick := none
  lastSagEnd : Tick := 0
  nvAllowed : Bool := false
  temp : Option Int := none
  tempAt : Tick := 0
  lastRaw : Option Int := none
  /-- the last conversion of the diode; when the diode was last restored -/
  readAt : Option Tick := none
  restoredAt : Option Tick := none
  ignoredRun : Nat := 0
  ignored : Nat := 0
  goodRun : Nat := 0
  broken : Bool := false
  level : Nat := 0
  hotAt : Tick := 0
  hotRun : Nat := 0
  tshut : Bool := false
  proxy : Option (Int × Tick) := none
  /-- shutdown in progress: cause, temperature, record written -/
  shut : Option (Nat × Int × Bool) := none
  /-- the page write that was in progress at the decision has still to end -/
  shutPage : Bool := false
  /-- the decision of the shutdown, or the end of the page write that was in progress then: from when the record is
  written -/
  recordFrom : Tick := 0
  /-- rails go off for STANDBY: Table 15-1's cause code, 0 for none; the earliest instant of the next disable -/
  disabling : Option Nat := none
  disableAt : Tick := 0
  deriving DecidableEq, Repr, Inhabited

/-- One page write waiting or in progress (spec 18 R433, R434): its kind (0 data page, 1 commit page, 2 log
entry), the page (of kinds 0 and 1: within the copy that is inactive when the write is done), its bytes
(of a commit page: none), the object, and the command that the write completes. -/
structure PageJob where
  page : Nat
  bytes : List Byte
  kind : Nat
  object : Nat
  handle : Option Nat
  deriving DecidableEq, Repr

/-- The non-volatile store's machinery; its bytes stand in `State.nv` (spec 18 R433-R437). -/
structure NvCtl where
  jobs : List PageJob := []
  erasing : List Nat := []
  /-- the instant from which the first write, and the first erase, can have run -/
  jobAt : Tick := 0
  eraseAt : Tick := 0
  /-- active copy B, sequence number and presence of objects 0-4 -/
  objects : Store (Bool × Nat × Bool) := []
  oldest : Nat := 0
  next : Nat := 0
  times : List Tick := []
  suppressed : Nat := 0
  buffer : List (List Byte) := []
  deriving DecidableEq, Repr, Inhabited

/-- Boot and self-test (spec 18 R438-R440, 21 R478-R479). -/
structure Boot where
  stage : Nat := 0
  cause : Nat := 0
  fallback : Bool := false
  slotB : Bool := false
  source : Nat := 0
  slow : Bool := false
  refused : Nat := 0
  stageAt : Tick := 0
  image : List Byte := []
  triedOther : Bool := false
  /-- this attempt has ended without SAFE; the frequency of REF_IN has been measured -/
  failed : Bool := false
  refSeen : Bool := false
  /-- LOAD_DONE has come in stage 6 of this attempt (21 R478) -/
  loaded : Bool := false
  /-- the checks of the image have passed; the DRAM boot test is done -/
  passed : Bool := false
  dramTested : Bool := false
  /-- PLLs on REF_IN that have locked: 0 core, 1 DRAM, 2 link -/
  plls : BitVec 3 := 0
  trained : Bool := false
  verdict : Nat := 2
  bootTest : Nat := 0
  /-- self-test: started, DRAM start, DRAM length, started at, handle -/
  test : Option (Bool × Nat × Nat × Tick) := none
  /-- the last check of the self-test's conditions -/
  checkAt : Tick := 0
  deriving DecidableEq, Repr, Inhabited

/-! ## Calibration -/

/-- A value of the calibration tables with its calibrated bit (present in the store: calibrated) (spec 19 R442). -/
structure CalTables where
  inter : Store (Option (Int × Int × Int)) := []
  gain : Store (Option Nat) := []
  floors : Store (Option Nat) := []
  ratios : Store (Option Nat) := []
  timing : Store (Option Int) := []
  analogue : Store (Option Int) := []
  walk : Store Int := []
  widths : Store (Option Nat) := []
  latency : Store (Option Nat) := []
  path : Store (Option Int) := []
  deriving DecidableEq, Repr, Inhabited

/-- Kind 5 on one port: element, pass (0 estimating), shots, returns, sum of errors in 2^-32 LSB, latency of the pass,
skips, planned instant of the element's last shot (0: none), and the repeats' mean errors and path delays in 2^-32 LSB. -/
structure CalPort where
  element : Nat := 0
  pass : Nat := 0
  shots : Nat := 0
  returns : Nat := 0
  errSum : Int := 0
  /-- for each shot, the candidate differences of pickoff stamp and planned instant -/
  cands : List (List Int) := []
  /-- returns of validity 0 of the shot in flight: amplitude and time of flight -/
  rets : List (Nat × Nat) := []
  latency : Nat := 0
  skips : Nat := 0
  lastAt : Tick := 0
  es : List Int := []
  ps : List Int := []
  finished : Bool := true
  deriving DecidableEq, Repr, Inhabited

/-- A calibration in progress (spec 19 R443-R455). -/
structure CalRun where
  args : CalArgs
  handle : Nat
  came : DevState
  kind : Nat
  wait : Nat
  passed : BitVec 5
  applied : BitVec 5
  notWarm : Bool
  /-- the reduced set has been forced in kind 4 (R449) -/
  reduced4 : Bool := false
  failedCh : BitVec 256
  failedEl : BitVec 512
  detail : Nat
  ports : Store CalPort
  /-- lowest quality figure and 1, by channel, and by 256 + element -/
  quality : Store Nat
  /-- by bank: measured group delay and largest difference -/
  delays : Store (Nat × Int)
  /-- passing fire latencies and path delays of kind 5 -/
  latency : Store (Option Nat)
  path : Store (Option Int)
  deriving DecidableEq, Repr

/-- Calibration (spec 19). -/
structure Cal where
  tables : CalTables := {}
  run : Option CalRun := none
  deriving DecidableEq, Repr, Inhabited

/-! ## Side port -/

/-- The side port's registers that hold a value of their own (spec 21 Tables 21-7 to 21-14). -/
structure SidePort where
  src : Nat := 0
  override : Bool := false
  flashDiv : Nat := 2
  loadLen : Nat := 0
  busy : BitVec 16 := 0
  producer : Nat := 0
  consumer : Nat := 0
  irqRsp : Bool := false
  irqFlag : Bool := false
  flags : BitVec 23 := 0
  /-- the flags whose events occurred at the instant `flagsAt`, the last of any (R483) -/
  flagsNew : BitVec 23 := 0
  flagsAt : Tick := 0
  flagsIrq : BitVec 23 := 0
  counts : Store Nat := []
  frameError : Bool := false
  logSelect : Word32 := 0
  logSource : Bool := false
  /-- LOG_CTRL.SOURCE as LOG_SELECT's last write found it (R484) -/
  logFrom : Bool := false
  logBusy : Bool := false
  logValid : Bool := false
  logAbsent : Bool := false
  window : List Byte := []
  /-- command window, response ring and boot load window, by side-port address -/
  mem : Mem := []
  /-- handles that the ring holds: last slot index and handle -/
  ring : List (Nat × Nat) := []
  snapshot : List Word32 := []
  logSnapshot : List Word32 := []
  /-- the word last read on the port -/
  readData : Word32 := 0
  /-- what SPMISO gave in the last frame: the status byte, then the bytes of the words read -/
  miso : List Byte := []
  deriving DecidableEq, Repr, Inhabited

/-! ## The whole -/

/-- The state of the block. -/
structure State where
  clock : Clock
  dev : DevState
  spindle : Spindle
  flyers : Store Flyer
  skein : Store Entry
  arb : Arbiter
  /-- shots committed so far (commit order) and the device's reading of the hop index -/
  order : Nat
  hop : Nat
  hopHold : Nat
  ports : Store Port
  lamps : Store Board
  chans : Store Channel
  banks : Store Bank
  pllLocked : Bool
  /-- marks that every channel bears (sample PLL, supply sag, restored values) -/
  marks : List Mark
  hk : Housekeeping
  runs : List StatRun
  auxf : Store Auxf
  groups : Store Group
  dram : Dram
  dramMem : Mem
  recs : Records
  link : Link
  dist : Distaff
  whorl : Whorl
  latch : Latch
  trust : Trust
  power : Power
  nv : Mem
  nvCtl : NvCtl
  boot : Boot
  cal : Cal
  side : SidePort
  /-- 32-bit wrapping counters, by kind x 1,024 + index -/
  counters : Store Nat
  pending : List Instr
  deriving DecidableEq, Repr

/-- Why the machine stops with a fault. No step of this block does: the spec gives every command an effect, and
side-port accesses to unmapped addresses have a defined result (spec 21 R472). -/
inductive Fault where
  deriving DecidableEq, Repr

/-- Why the model gives a command no meaning. -/
inductive Refusal where
  /-- raised by an arm of `exec` whose command has no meaning yet; safe: the run stops -/
  | notModelled (mnemonic : String)
  deriving DecidableEq, Repr

/-- The device at reset: OFF, no supply (spec 00 Table 0-3), every field at the value its structure names. -/
def State.reset : State where
  clock := {}
  dev := .off
  spindle := {}
  flyers := []
  skein := []
  arb := {}
  order := 0
  hop := 0
  hopHold := 0
  ports := []
  lamps := []
  chans := []
  banks := []
  pllLocked := false
  marks := []
  hk := {}
  runs := []
  auxf := []
  groups := []
  dram := {}
  dramMem := []
  recs := {}
  link := {}
  dist := {}
  whorl := {}
  latch := {}
  trust := { slots := [], tap := .idcode }
  power := {}
  nv := []
  nvCtl := {}
  boot := {}
  cal := {}
  side := {}
  counters := []
  pending := []

end Sys2Proof.Machine
end

