-- ==== Sys2Proof/Machine/Ops.lean ====
section
/-! DEFINITION. The named operations on the state's data: keyed stores, little-endian bytes, rounding, one setter
per field of State, time, counters, and the free values. -/

namespace Sys2Proof

/-! ## Keyed stores in canonical form -/

/-- The value at key `k`; `d` where the key is not listed. -/
def Store.read {α : Type} (d : α) : Store α → Nat → α
  | [], _ => d
  | (k', v) :: r, k => if k = k' then v else Store.read d r k

/-- Writes `v` at `k`, keeping the keys in rising order and listing no default value. -/
def Store.write {α : Type} [DecidableEq α] (d : α) : Store α → Nat → α → Store α
  | [], k, v => if v = d then [] else [(k, v)]
  | (k', v') :: r, k, v =>
    if k < k' then (if v = d then (k', v') :: r else (k, v) :: (k', v') :: r)
    else if k = k' then (if v = d then r else (k, v) :: r)
    else (k', v') :: Store.write d r k v

/-- Changes the value at `k` by `f`. -/
def Store.modify {α : Type} [DecidableEq α] (d : α) (m : Store α) (k : Nat) (f : α → α) : Store α :=
  Store.write d m k (f (Store.read d m k))

/-- Keys strictly above `lo` (all keys where `lo` is none), rising, no default value listed. -/
def Store.wfFrom {α : Type} [DecidableEq α] (d : α) : Option Nat → Store α → Bool
  | _, [] => true
  | lo, (k, v) :: r => (lo.all fun l => decide (l < k)) && !decide (v = d) && Store.wfFrom d (some k) r

/-- The canonical form of a store: keys strictly rising and no entry equal to the default. -/
def Store.wf {α : Type} [DecidableEq α] (d : α) (m : Store α) : Bool := Store.wfFrom d none m

/-- The canonical form of a byte memory (DRAM, non-volatile store, side-port memory). -/
abbrev Memory.wf (m : Mem) : Bool := Store.wf (0 : Byte) m

/-- The byte at address `a` (unlisted bytes read 0, DESIGN CHOICE, log 9). -/
def Memory.read (m : Mem) (a : Nat) : Byte := Store.read 0 m a

/-- Stores the bytes `bs` from address `a` upward. -/
def Memory.write (m : Mem) (a : Nat) : List Byte → Mem
  | [] => m
  | b :: bs => Memory.write (Store.write 0 m a b) (a + 1) bs

/-- The `n` bytes from address `a`. -/
def Memory.load (m : Mem) (a n : Nat) : List Byte := (List.range n).map fun i => Memory.read m (a + i)

namespace Machine

/-! ## Bytes and numbers -/

/-- Bits `lo + w - 1` to `lo` of `v` (spec 00 R4). -/
def bits (v lo w : Nat) : Nat := v / 2 ^ lo % 2 ^ w

/-- The low `n` bytes of `v`, little-endian (spec 00 R5). -/
def le (n v : Nat) : List Byte := (List.range n).map fun i => BitVec.ofNat 8 (v / 256 ^ i)

/-- The number that little-endian bytes spell. -/
def fromLe (bs : List Byte) : Nat := bs.foldr (fun b acc => b.toNat + 256 * acc) 0

/-- `v` in two's complement in `n` bytes. -/
def twos (n : Nat) (v : Int) : Nat := (v % (256 ^ n : Int)).toNat

/-- The signed value of the low `w` bits of `v`. -/
def signed (w v : Nat) : Int := if bits v (w - 1) 1 = 1 then (v % 2 ^ w : Nat) - (2 ^ w : Nat) else (v % 2 ^ w : Nat)

/-- `v` held between `lo` and `hi`. -/
def clampInt (lo hi v : Int) : Int := max lo (min hi v)

/-- A flag at bit `i` of a word. -/
def flagBit (i : Nat) (b : Bool) : Nat := if b then 2 ^ i else 0

/-- Zero bytes after `bs` up to length `n`. -/
def padTo (n : Nat) (bs : List Byte) : List Byte := bs ++ List.replicate (n - bs.length) 0

/-- Fields (size, value) laid out from offset `off`, each at the lowest offset that is a multiple of its size
(spec 13 R308). -/
def place (off : Nat) : List (Nat × Nat) → List Byte
  | [] => []
  | (n, v) :: r =>
    let gap := (n - off % n) % n
    List.replicate gap 0 ++ le n v ++ place (off + gap + n) r

/-- `a / b` to the nearest integer, a tie as Config.tieUp says (DESIGN CHOICE, log 4). -/
def roundDiv (a : Int) (b : Nat) : Int :=
  let q := a / (b : Int)
  let r := a % (b : Int)
  if 2 * r < b then q else if 2 * r > b then q + 1 else if Config.tieUp a then q + 1 else q

/-- The nearest integer, ties away from zero. -/
def roundAway (a : Int) (b : Nat) : Int :=
  if 0 ≤ a then (2 * a + b) / (2 * b : Int) else -((2 * (-a) + b) / (2 * b : Int))

/-- `a / b` as an integer where no rounding is named (DESIGN CHOICE, log 11). -/
def quotOpen (a : Int) (b : Nat) : Int :=
  if a % (b : Int) = 0 ∨ !Config.upper a b then a / (b : Int) else a / (b : Int) + 1

/-- The square root of a / b as an integer where no rounding is named (DESIGN CHOICE, log 11). -/
def rootOpen (a b : Nat) : Nat :=
  let q := Nat.sqrt (a / b)
  if q * q * b = a ∨ !Config.upper a b then q else q + 1

/-- Serial difference of two 32-bit numbers, from `y` to `x`, as a signed number (spec 02 R63). -/
def serialDiff (x y : Nat) : Int := signed 32 (((x : Int) - y) % 2 ^ 32).toNat

/-- How many bits of the low `n` of a mask are set. -/
def popCount (n m : Nat) : Nat := ((List.range n).filter fun i => m.testBit i).length

/-- The numbers of the set bits of a mask, rising. -/
def maskList (n m : Nat) : List Nat := (List.range n).filter fun i => m.testBit i

/-- The mask of a list of bit numbers. -/
def maskOf (l : List Nat) : Nat := l.foldl (fun m i => m ||| 2 ^ i) 0

/-- The element of a list at `i`, or a value. -/
def nth {α : Type} (d : α) (l : List α) (i : Nat) : α := l.getD i d

/-- A list with its element at `i` changed. -/
def nthMod {α : Type} (l : List α) (i : Nat) (f : α → α) : List α := l.modify i f

/-- An element put into a sorted list, before those it may precede. -/
def insertBy {α : Type} (le : α → α → Bool) (x : α) : List α → List α
  | [] => [x]
  | y :: r => if le x y then x :: y :: r else y :: insertBy le x r

/-- A list in order; elements that may precede each other keep theirs. -/
def sortBy {α : Type} (le : α → α → Bool) (l : List α) : List α := l.foldr (insertBy le) []

/-- The last `n` elements of a list. (DESIGN CHOICE, log 70.) -/
def recent {α : Type} (n : Nat) (l : List α) : List α := l.drop (l.length - n)

/-- CRC-32C (Castagnoli) over bytes, reflected, all ones in and out (spec 14 R325). -/
def crc32c (bs : List Byte) : BitVec 32 :=
  ~~~ (bs.foldl (fun (c : BitVec 32) b =>
    (List.range 8).foldl (fun c _ => if c.getLsbD 0 then (c >>> 1) ^^^ 0x82F63B78#32 else c >>> 1)
      (c ^^^ b.setWidth 32)) (~~~ 0#32))

/-! ## Time -/

/-- Ticks of 2^-12 ns in `n` nanoseconds (spec 07 R175). -/
def ns (n : Nat) : Tick := 4096 * n

/-- Ticks in `n` microseconds. -/
def us (n : Nat) : Tick := 4096000 * n

/-! ## One setter for each field of State -/

namespace State

/-- Changes `clock` by `g`. -/
def modClock (g : Clock → Clock) (s : State) : State := { s with clock := g s.clock }

/-- Changes `dev` by `g`. -/
def modDev (g : DevState → DevState) (s : State) : State := { s with dev := g s.dev }

/-- Changes `spindle` by `g`. -/
def modSpindle (g : Spindle → Spindle) (s : State) : State := { s with spindle := g s.spindle }

/-- Changes `flyers` by `g`. -/
def modFlyers (g : Store Flyer → Store Flyer) (s : State) : State := { s with flyers := g s.flyers }

/-- Changes `skein` by `g`. -/
def modSkein (g : Store Entry → Store Entry) (s : State) : State := { s with skein := g s.skein }

/-- Changes `arb` by `g`. -/
def modArb (g : Arbiter → Arbiter) (s : State) : State := { s with arb := g s.arb }

/-- Changes `order` by `g`. -/
def modOrder (g : Nat → Nat) (s : State) : State := { s with order := g s.order }

/-- Changes `hop` by `g`. -/
def modHop (g : Nat → Nat) (s : State) : State := { s with hop := g s.hop }

/-- Changes `hopHold` by `g`. -/
def modHopHold (g : Nat → Nat) (s : State) : State := { s with hopHold := g s.hopHold }

/-- Changes `ports` by `g`. -/
def modPorts (g : Store Port → Store Port) (s : State) : State := { s with ports := g s.ports }

/-- Changes `lamps` by `g`. -/
def modLamps (g : Store Board → Store Board) (s : State) : State := { s with lamps := g s.lamps }

/-- Changes `chans` by `g`. -/
def modChans (g : Store Channel → Store Channel) (s : State) : State := { s with chans := g s.chans }

/-- Changes `banks` by `g`. -/
def modBanks (g : Store Bank → Store Bank) (s : State) : State := { s with banks := g s.banks }

/-- Changes `pllLocked` by `g`. -/
def modPllLocked (g : Bool → Bool) (s : State) : State := { s with pllLocked := g s.pllLocked }

/-- Changes `marks` by `g`. -/
def modMarks (g : List Mark → List Mark) (s : State) : State := { s with marks := g s.marks }

/-- Changes `hk` by `g`. -/
def modHk (g : Housekeeping → Housekeeping) (s : State) : State := { s with hk := g s.hk }

/-- Changes `runs` by `g`. -/
def modRuns (g : List StatRun → List StatRun) (s : State) : State := { s with runs := g s.runs }

/-- Changes `auxf` by `g`. -/
def modAuxf (g : Store Auxf → Store Auxf) (s : State) : State := { s with auxf := g s.auxf }

/-- Changes `groups` by `g`. -/
def modGroups (g : Store Group → Store Group) (s : State) : State := { s with groups := g s.groups }

/-- Changes `dram` by `g`. -/
def modDram (g : Dram → Dram) (s : State) : State := { s with dram := g s.dram }

/-- Changes `dramMem` by `g`. -/
def modDramMem (g : Mem → Mem) (s : State) : State := { s with dramMem := g s.dramMem }

/-- Changes `recs` by `g`. -/
def modRecs (g : Records → Records) (s : State) : State := { s with recs := g s.recs }

/-- Changes `link` by `g`. -/
def modLink (g : Link → Link) (s : State) : State := { s with link := g s.link }

/-- Changes `dist` by `g`. -/
def modDist (g : Distaff → Distaff) (s : State) : State := { s with dist := g s.dist }

/-- Changes `whorl` by `g`. -/
def modWhorl (g : Whorl → Whorl) (s : State) : State := { s with whorl := g s.whorl }

/-- Changes `latch` by `g`. -/
def modLatch (g : Latch → Latch) (s : State) : State := { s with latch := g s.latch }

/-- Changes `trust` by `g`. -/
def modTrust (g : Trust → Trust) (s : State) : State := { s with trust := g s.trust }

/-- Changes `power` by `g`. -/
def modPower (g : Power → Power) (s : State) : State := { s with power := g s.power }

/-- Changes `nv` by `g`. -/
def modNv (g : Mem → Mem) (s : State) : State := { s with nv := g s.nv }

/-- Changes `nvCtl` by `g`. -/
def modNvCtl (g : NvCtl → NvCtl) (s : State) : State := { s with nvCtl := g s.nvCtl }

/-- Changes `boot` by `g`. -/
def modBoot (g : Boot → Boot) (s : State) : State := { s with boot := g s.boot }

/-- Changes `cal` by `g`. -/
def modCal (g : Cal → Cal) (s : State) : State := { s with cal := g s.cal }

/-- Changes `side` by `g`. -/
def modSide (g : SidePort → SidePort) (s : State) : State := { s with side := g s.side }

/-- Changes `counters` by `g`. -/
def modCounters (g : Store Nat → Store Nat) (s : State) : State := { s with counters := g s.counters }

/-- Changes `pending` by `g`. -/
def modPending (g : List Instr → List Instr) (s : State) : State := { s with pending := g s.pending }

/-- The step takes place at `t`; time never runs backward (DESIGN CHOICE, log 2). -/
def advance (t : Tick) (s : State) : State := s.modClock fun c => { c with now := max c.now t }

/-- The instant of the present step. -/
def now (s : State) : Tick := s.clock.now

/-- Device time at instant `t`, in ticks (spec 02 R58); 0 before the core PLL's first lock. -/
def devTime (s : State) (t : Tick) : Nat := t - s.clock.lockedAt.getD t

/-- The instant whose device time is `d` ticks. -/
def fromDev (s : State) (d : Nat) : Tick := s.clock.lockedAt.getD 0 + d

/-- The epoch bit at instant `t` (spec 02 R58, R59): device time carries it above the 48-bit coarse count. -/
def epochAt (s : State) (t : Tick) : Bool := (s.devTime t / 2 ^ 60) % 2 = 1

/-- Draws a free value below `n` (DESIGN CHOICE, log 3). -/
def draw (s : State) (n : Nat) : Nat × State :=
  (Config.freeNat s.clock.fresh % n, s.modClock fun c => { c with fresh := c.fresh + 1 })

/-! ## Keyed parts -/

/-- `Flyer` number `i`. -/
def flyer (s : State) (i : Nat) : Flyer := Store.read {} s.flyers i

/-- Changes `Flyer` number `i`. -/
def modFlyer (i : Nat) (g : Flyer → Flyer) (s : State) : State := s.modFlyers fun m => Store.modify {} m i g

/-- `Entry` number `i`. -/
def entry (s : State) (i : Nat) : Entry := Store.read {} s.skein i

/-- Changes `Entry` number `i`. -/
def modEntry (i : Nat) (g : Entry → Entry) (s : State) : State := s.modSkein fun m => Store.modify {} m i g

/-- `Port` number `i`. -/
def port (s : State) (i : Nat) : Port := Store.read {} s.ports i

/-- Changes `Port` number `i`. -/
def modPort (i : Nat) (g : Port → Port) (s : State) : State := s.modPorts fun m => Store.modify {} m i g

/-- `Board` number `i`. -/
def lamp (s : State) (i : Nat) : Board := Store.read {} s.lamps i

/-- Changes `Board` number `i`. -/
def modLamp (i : Nat) (g : Board → Board) (s : State) : State := s.modLamps fun m => Store.modify {} m i g

/-- `Channel` number `i`. -/
def chan (s : State) (i : Nat) : Channel := Store.read {} s.chans i

/-- Changes `Channel` number `i`. -/
def modChan (i : Nat) (g : Channel → Channel) (s : State) : State := s.modChans fun m => Store.modify {} m i g

/-- `Bank` number `i`. -/
def bank (s : State) (i : Nat) : Bank := Store.read {} s.banks i

/-- Changes `Bank` number `i`. -/
def modBank (i : Nat) (g : Bank → Bank) (s : State) : State := s.modBanks fun m => Store.modify {} m i g

/-- `Auxf` number `i`. -/
def aux (s : State) (i : Nat) : Auxf := Store.read {} s.auxf i

/-- Changes `Auxf` number `i`. -/
def modAux (i : Nat) (g : Auxf → Auxf) (s : State) : State := s.modAuxf fun m => Store.modify {} m i g

/-- `Group` number `i`. -/
def group (s : State) (i : Nat) : Group := Store.read {} s.groups i

/-- Changes `Group` number `i`. -/
def modGroup (i : Nat) (g : Group → Group) (s : State) : State := s.modGroups fun m => Store.modify {} m i g

/-- Adds `n` to the 32-bit wrapping counter `i` of kind `k` (kinds are named in Flags.lean). -/
def count (k i : Nat) (n : Nat) (s : State) : State :=
  s.modCounters fun m => Store.modify 0 m (k * 1024 + i) fun v => (v + n) % 2 ^ 32

/-- The counter `i` of kind `k`. -/
def counter (s : State) (k i : Nat) : Nat := Store.read 0 s.counters (k * 1024 + i)

/-- `f` for each element of a list, in order. -/
def each {α : Type} (l : List α) (f : α → State → State) (s : State) : State := l.foldl (fun s a => f a s) s

/-- `f` where `b` holds. -/
def cond (b : Bool) (f : State → State) (s : State) : State := if b then f s else s

end State

end Machine

end Sys2Proof
end

