-- ==== Sys2Proof/Machine/Flags.lean ====
section
/-! DEFINITION. The kinds of the 32-bit wrapping counters that commands read: the counter of kind k and index i stands
at k x 1,024 + i. -/

namespace Sys2Proof.Machine

namespace Kind

/-- Clamp events (spec 05 R120). -/
def clamp : Nat := 0

/-- Missed gates (spec 05 R129). -/
def missedGate : Nat := 1

/-- Events dropped (spec 07 R182). -/
def evOverflow : Nat := 2

/-- Events started by comparator 0 (spec 07 R182). -/
def started0 : Nat := 3

/-- Events started by comparator 1 (spec 07 R182). -/
def started1 : Nat := 4

/-- Crossings lost to the dead time (spec 08 R192). -/
def deadTime : Nat := 5

/-- Stamps over a window's limit (spec 08 R193). -/
def stampLimit : Nat := 6

/-- Stamps dropped (spec 08 R193). -/
def stOverflow : Nat := 7

/-- Unclaimed pickoffs (spec 08 R197). -/
def unclaimed : Nat := 8

/-- Timing-disagree cases (spec 08 R203). -/
def disagree : Nat := 9

/-- Reversed stops, the stray-light counter (spec 08 R205). -/
def stray : Nat := 10

/-- At-resolution cases (spec 08 R206). -/
def atRes : Nat := 11

/-- Near-field cases (spec 08 R206). -/
def nearField : Nat := 12

/-- Coarse overflows (spec 08 R205). -/
def coarse : Nat := 13

/-- Returns formed (spec 09 R224). -/
def returns : Nat := 14

/-- Dropped hypotheses (spec 09 R220). -/
def ambiguity : Nat := 15

/-- Late pulses (spec 09 R221). -/
def late : Nat := 16

/-- Unmatched in-window pulses (spec 09 R221). (DEDUCED, log 51.) -/
def unmatched : Nat := 17

/-- Excess returns (spec 09 R222). -/
def excess : Nat := 18

/-- Pulses over a slot's limit (spec 09 R215). -/
def pulseLimit : Nat := 19

/-- Returns of class 0; classes 1-3 follow (spec 10 R253). -/
def class0 : Nat := 20

/-- Dropped returns of class 0; classes 1-3 follow (spec 10 R253). -/
def dropped0 : Nat := 24

/-- Events outside windows (spec 10 R253). -/
def evOutside : Nat := 28

/-- Stamps outside windows (spec 10 R253). -/
def stOutside : Nat := 29

/-- Blind entries and exits (spec 10 R241). (DEDUCED, log 115.) -/
def blind : Nat := 30

/-- Interfered entries and exits (spec 10 R250). (DEDUCED, log 115.) -/
def interfered : Nat := 31

/-- Hop index changes, device (spec 10 R252). -/
def hop : Nat := 32

/-- Triggers of a unit (spec 11 R256). -/
def trig : Nat := 33

/-- Suppressed triggers (spec 11 R256). -/
def trigLost : Nat := 34

/-- Triggers missed in post, by group (spec 11 R268). -/
def missedPost : Nat := 35

/-- Triggers missed in re-arm, by group (spec 11 R268). -/
def missedRearm : Nat := 36

/-- Overflow stops, by group (spec 11 R272). -/
def overflow : Nat := 37

end Kind

end Sys2Proof.Machine
end

