-- ==== Sys2Proof/Machine/Operands.lean ====
section
/-! DEFINITION. Operand forms: the parameters of SET PARAMETERS with their options, ranges, defaults and allowed states
(spec 15 R365, R366 and the tables of Table 15-6), and the fields of the words the block reads: shot descriptors,
Flyer instructions, codes. -/

namespace Sys2Proof.Machine

/-! ## Parameter ids (spec 15 R365: file number, table number, row index) -/

namespace Par

/-- Timing mode. -/
def timingMode : Nat := 0x0220
/-- Declared lines per frame. -/
def declaredLines : Nat := 0x0221
/-- Line origin offset, 1/65,536 line. -/
def lineOffset : Nat := 0x0222
/-- Holdover count. -/
def holdoverCount : Nat := 0x0223
/-- Loop time constant b. -/
def loopConstant : Nat := 0x0224
/-- Free-running line period, 2^-16 ns. -/
def freePeriod : Nat := 0x0225
/-- Frame number load. -/
def frameLoad : Nat := 0x0226
/-- Drift comparison source. -/
def driftSource : Nat := 0x0227
/-- Scanner tracking, a mask of ports. -/
def scannerTracking : Nat := 0x0228
/-- Receive mode. -/
def receiveMode : Nat := 0x0540
/-- Ranging mode. -/
def rangingMode : Nat := 0x0541
/-- Initial range. -/
def initialRange : Nat := 0x0542
/-- Down-range count. -/
def downCount : Nat := 0x0543
/-- Automatic fallback. -/
def autoFallback : Nat := 0x0544
/-- Integrator full scale. -/
def fullScale : Nat := 0x0545
/-- Open-input detection. -/
def openInput : Nat := 0x0546
/-- Bias enable. -/
def biasEnable : Nat := 0x0550
/-- Setpoint, 10 mV. -/
def setpoint : Nat := 0x0551
/-- Ceiling, 10 mV. -/
def ceiling : Nat := 0x0552
/-- Slew limit, 0.01 V/us. -/
def slewLimit : Nat := 0x0553
/-- Divider ratios, 1/4,096. -/
def dividerRatios : Nat := 0x0554
/-- Temperature input. -/
def tempInput : Nat := 0x0555
/-- Temperature coefficient, 1 mV/C. -/
def tempCoef : Nat := 0x0556
/-- Reference temperature, 0.1 C. -/
def refTemp : Nat := 0x0557
/-- Sequence length. -/
def hkLength : Nat := 0x0650
/-- Slot input (slot x 64 + input). -/
def hkSlotInput : Nat := 0x0651
/-- Reference. -/
def hkReference : Nat := 0x0652
/-- Timer start. -/
def hkTimer : Nat := 0x0653
/-- Timer period, us. -/
def hkPeriod : Nat := 0x0654
/-- Timer delay, us. -/
def hkTimerDelay : Nat := 0x0655
/-- Pulse-width start. -/
def hkPulse : Nat := 0x0656
/-- HKTRIG polarity. -/
def hkPolarity : Nat := 0x0657
/-- Pulse width minimum, 10 ns. -/
def hkPulseMin : Nat := 0x0658
/-- Pulse width maximum, 10 ns. -/
def hkPulseMax : Nat := 0x0659
/-- Pulse-width delay, us. -/
def hkPulseDelay : Nat := 0x065A
/-- Comparator 0 level. -/
def level0 : Nat := 0x0740
/-- Comparator 0 hysteresis. -/
def hyst0 : Nat := 0x0741
/-- Comparator 0 level source. -/
def levelSource : Nat := 0x0742
/-- Comparator 1 level. -/
def level1 : Nat := 0x0743
/-- Comparator 1 hysteresis. -/
def hyst1 : Nat := 0x0744
/-- Ply source. -/
def plySource : Nat := 0x0745
/-- Detector window. -/
def detWindow : Nat := 0x0746
/-- Detector gate. -/
def detGate : Nat := 0x0747
/-- Envelope decay. -/
def envDecay : Nat := 0x0748
/-- Analogue level. -/
def anaLevel : Nat := 0x0810
/-- Analogue hysteresis. -/
def anaHyst : Nat := 0x0811
/-- Analogue level source. -/
def anaSource : Nat := 0x0812
/-- Timing mode of the channel. -/
def timing : Nat := 0x0813
/-- Pairing window, 0.5 ns. -/
def pairWindow : Nat := 0x0814
/-- Combination weight. -/
def combWeight : Nat := 0x0815
/-- Consistency limit, LSB. -/
def consistency : Nat := 0x0816
/-- Declared reference. -/
def declaredRef : Nat := 0x0817
/-- Pickoff tolerance, 0.5 ns. -/
def pickTolerance : Nat := 0x0818
/-- Decode mode. -/
def decodeMode : Nat := 0x0910
/-- Match tolerance, 0.125 ns. -/
def matchTol : Nat := 0x0911
/-- Returns per shot. -/
def maxReturns : Nat := 0x0912
/-- Amplitude correction. -/
def ampCorrect : Nat := 0x0913
/-- Carding mode. -/
def cardMode : Nat := 0x0A10
/-- Drop mask. -/
def dropMask : Nat := 0x0A11
/-- Estimate order a. -/
def estOrder : Nat := 0x0A12
/-- Level factor K, 1/16. -/
def levelK : Nat := 0x0A13
/-- Level floor. -/
def levelFloor : Nat := 0x0A14
/-- Analogue factor Ka, 1/16. -/
def anaK : Nat := 0x0A15
/-- Analogue floor. -/
def anaFloor : Nat := 0x0A16
/-- Blind level. -/
def blindLevel : Nat := 0x0A17
/-- Coherence gate G. -/
def cohGate : Nat := 0x0A18
/-- Coherence threshold C. -/
def cohThreshold : Nat := 0x0A19
/-- Coherence interval, 64 us. -/
def cohInterval : Nat := 0x0A20
/-- Expected width (entry x 4,096 + width). -/
def expWidth : Nat := 0x0A21
/-- Histogram expected width. -/
def histWidth : Nat := 0x0A22
/-- Wide ratio, 1/16. -/
def wideRatio : Nat := 0x0A23
/-- Scatter range limit, ns. -/
def scatterLimit : Nat := 0x0A24
/-- Diffuse ceiling. -/
def diffuseCeil : Nat := 0x0A25
/-- Interference threshold. -/
def interfThreshold : Nat := 0x0A26
/-- Hopping. -/
def hopping : Nat := 0x0A27
/-- Hop sets J. -/
def hopSets : Nat := 0x0A28
/-- Hop stride. -/
def hopStride : Nat := 0x0A29
/-- Hop trigger, device-wide. -/
def hopTrigger : Nat := 0x0A2A
/-- Trigger type. -/
def trigType : Nat := 0x0B10
/-- Trigger comparator. -/
def trigCmp : Nat := 0x0B11
/-- Trigger sense. -/
def trigSense : Nat := 0x0B12
/-- Limit A, 0.25 ns. -/
def limitA : Nat := 0x0B13
/-- Limit B, 0.25 ns. -/
def limitB : Nat := 0x0B14
/-- Timeout T, 8 ns. -/
def trigTimeout : Nat := 0x0B15
/-- Window gate. -/
def windowGate : Nat := 0x0B16
/-- Validity gate. -/
def validGate : Nat := 0x0B17
/-- Combiner mode. -/
def combMode : Nat := 0x0B30
/-- Set A. -/
def combA : Nat := 0x0B31
/-- Set B. -/
def combB : Nat := 0x0B32
/-- Count k. -/
def combK : Nat := 0x0B33
/-- Window V, ns. -/
def combV : Nat := 0x0B34
/-- Commit lead, 8 ns. -/
def commitLead : Nat := 0x0F70
/-- Shot status reporting level. -/
def reportLevel : Nat := 0x0F71
/-- Trip threshold, 50 mA. -/
def tripThreshold : Nat := 0x0F72
/-- Presence threshold, 10 mA. -/
def presThreshold : Nat := 0x0F73
/-- Accepted-wavelength mask. -/
def wavelengthMask : Nat := 0x0F74
/-- Power equalisation. -/
def powerEq : Nat := 0x0F75
/-- Background tracking. -/
def tracking : Nat := 0x0F76
/-- AUXF prescaler. -/
def prescaler : Nat := 0x0F77
/-- Class 1 weight. -/
def weight1 : Nat := 0x0F78
/-- Class 2 weight. -/
def weight2 : Nat := 0x0F79
/-- Class 3 weight. -/
def weight3 : Nat := 0x0F7A
/-- Hop index j. -/
def hopIndex : Nat := 0x0F7B
/-- Watchdog period, 4 ms. -/
def watchdog : Nat := 0x0F7C

end Par

/-- Which device states allow a change (the tables' last column). -/
inductive Allowed where
  | anyFromSafe | safeReady | safeReadyArmed | safe
  deriving DecidableEq, Repr

/-- A parameter row: scope kind (Table 15-6), one entry per named option (its number's range, none where it carries
no number), default, allowed states, and whether R16 stages it. -/
structure ParamDef where
  id : Nat
  scope : Nat
  opts : List (Option (Int × Int))
  dflt : PVal
  allowed : Allowed
  staged : Bool
  deriving DecidableEq, Repr

/-- The rows of Table 2-2. (DESIGN CHOICE, log 63.) -/
def paramRows2_2 : List ParamDef := [
  ⟨Par.timingMode, 0, List.replicate 3 none, ⟨0, 0⟩, .safeReady, false⟩,
  ⟨Par.declaredLines, 0, [some (1, 65535)], ⟨0, 1024⟩, .safeReady, false⟩,
  ⟨Par.lineOffset, 0, [some (-8388608, 8388607)], ⟨0, 0⟩, .safeReady, false⟩,
  ⟨Par.holdoverCount, 0, [some (1, 65535)], ⟨0, 256⟩, .anyFromSafe, false⟩,
  ⟨Par.loopConstant, 0, [some (2, 12)], ⟨0, 6⟩, .safeReady, false⟩,
  ⟨Par.freePeriod, 0, [some (327680, 65536000000)], ⟨0, 65536000⟩, .safeReady, false⟩,
  ⟨Par.frameLoad, 0, [none, some (0, 4294967295)], ⟨0, 0⟩, .anyFromSafe, false⟩,
  ⟨Par.driftSource, 0, List.replicate 5 none, ⟨0, 0⟩, .safeReady, false⟩,
  ⟨Par.scannerTracking, 0, [some (0, 255)], ⟨0, 0⟩, .safeReady, false⟩]

/-- The rows of Table 5-4. -/
def paramRows5_4 : List ParamDef := [
  ⟨Par.receiveMode, 1, List.replicate 3 none, ⟨0, 0⟩, .safeReadyArmed, true⟩,
  ⟨Par.rangingMode, 1, List.replicate 5 none, ⟨0, 0⟩, .anyFromSafe, true⟩,
  ⟨Par.initialRange, 1, [some (0, 3)], ⟨0, 0⟩, .safeReady, true⟩,
  ⟨Par.downCount, 1, [some (1, 255)], ⟨0, 16⟩, .anyFromSafe, true⟩,
  ⟨Par.autoFallback, 1, List.replicate 2 none, ⟨0, 0⟩, .safeReadyArmed, true⟩,
  ⟨Par.fullScale, 1, List.replicate 2 none, ⟨1, 0⟩, .safeReadyArmed, true⟩,
  ⟨Par.openInput, 1, List.replicate 2 none, ⟨1, 0⟩, .anyFromSafe, true⟩]

/-- The rows of Table 5-5: settings of a bank, which R16 stages (spec 01 R16, 05 R133). -/
def paramRows5_5 : List ParamDef := [
  ⟨Par.biasEnable, 2, List.replicate 2 none, ⟨0, 0⟩, .anyFromSafe, true⟩,
  ⟨Par.setpoint, 2, [some (2000, 25000)], ⟨0, 2000⟩, .anyFromSafe, true⟩,
  ⟨Par.ceiling, 2, [some (2000, 25000)], ⟨0, 2000⟩, .safeReady, true⟩,
  ⟨Par.slewLimit, 2, [some (1, 100)], ⟨0, 100⟩, .anyFromSafe, true⟩,
  ⟨Par.dividerRatios, 2, [some (204800, 1024000)], ⟨0, 409600⟩, .safeReady, true⟩,
  ⟨Par.tempInput, 2, [some (0, 47), none], ⟨1, 0⟩, .safeReady, true⟩,
  ⟨Par.tempCoef, 2, [some (-2000, 2000)], ⟨0, 0⟩, .safeReady, true⟩,
  ⟨Par.refTemp, 2, [some (-400, 1250)], ⟨0, 250⟩, .safeReady, true⟩]

/-- The rows of Table 6-5. -/
def paramRows6_5 : List ParamDef := [
  ⟨Par.hkLength, 0, [some (1, 64)], ⟨0, 1⟩, .anyFromSafe, false⟩,
  ⟨Par.hkSlotInput, 0, [some (0, 4095)], ⟨0, 0⟩, .anyFromSafe, false⟩,
  ⟨Par.hkReference, 0, List.replicate 3 none, ⟨0, 0⟩, .anyFromSafe, false⟩,
  ⟨Par.hkTimer, 0, List.replicate 2 none, ⟨0, 0⟩, .anyFromSafe, false⟩,
  ⟨Par.hkPeriod, 0, [some (1, 65535)], ⟨0, 1000⟩, .anyFromSafe, false⟩,
  ⟨Par.hkTimerDelay, 0, [some (0, 65535)], ⟨0, 0⟩, .anyFromSafe, false⟩,
  ⟨Par.hkPulse, 0, List.replicate 2 none, ⟨0, 0⟩, .anyFromSafe, false⟩,
  ⟨Par.hkPolarity, 0, List.replicate 2 none, ⟨0, 0⟩, .anyFromSafe, false⟩,
  ⟨Par.hkPulseMin, 0, [some (1, 65535)], ⟨0, 1⟩, .anyFromSafe, false⟩,
  ⟨Par.hkPulseMax, 0, [some (1, 65535)], ⟨0, 65535⟩, .anyFromSafe, false⟩,
  ⟨Par.hkPulseDelay, 0, [some (0, 65535)], ⟨0, 0⟩, .anyFromSafe, false⟩]

/-- The rows of Table 7-4. -/
def paramRows7_4 : List ParamDef := [
  ⟨Par.level0, 1, [some (0, 32767)], ⟨0, 64⟩, .anyFromSafe, true⟩,
  ⟨Par.hyst0, 1, [some (0, 8191)], ⟨0, 16⟩, .anyFromSafe, true⟩,
  ⟨Par.levelSource, 1, List.replicate 2 none, ⟨0, 0⟩, .anyFromSafe, true⟩,
  ⟨Par.level1, 1, [some (0, 32767)], ⟨0, 200⟩, .anyFromSafe, true⟩,
  ⟨Par.hyst1, 1, [some (0, 8191)], ⟨0, 16⟩, .anyFromSafe, true⟩,
  ⟨Par.plySource, 1, List.replicate 2 none, ⟨0, 0⟩, .anyFromSafe, true⟩,
  ⟨Par.detWindow, 1, [none, some (1, 8192)], ⟨0, 0⟩, .anyFromSafe, true⟩,
  ⟨Par.detGate, 1, List.replicate 3 none, ⟨1, 0⟩, .anyFromSafe, true⟩,
  ⟨Par.envDecay, 1, [some (1, 4095)], ⟨0, 16⟩, .anyFromSafe, true⟩]

/-- The rows of Table 8-1. -/
def paramRows8_1 : List ParamDef := [
  ⟨Par.anaLevel, 1, [some (1, 239)], ⟨0, 24⟩, .anyFromSafe, true⟩,
  ⟨Par.anaHyst, 1, [some (0, 15)], ⟨0, 4⟩, .anyFromSafe, true⟩,
  ⟨Par.anaSource, 1, List.replicate 2 none, ⟨0, 0⟩, .anyFromSafe, true⟩,
  ⟨Par.timing, 1, List.replicate 3 none, ⟨0, 0⟩, .anyFromSafe, true⟩,
  ⟨Par.pairWindow, 1, [some (1, 32)], ⟨0, 12⟩, .anyFromSafe, true⟩,
  ⟨Par.combWeight, 1, [some (0, 16)], ⟨0, 8⟩, .anyFromSafe, true⟩,
  ⟨Par.consistency, 1, [some (8, 1023)], ⟨0, 64⟩, .anyFromSafe, true⟩,
  ⟨Par.declaredRef, 1, List.replicate 2 none, ⟨0, 0⟩, .safeReady, true⟩,
  ⟨Par.pickTolerance, 1, [some (1, 128)], ⟨0, 8⟩, .anyFromSafe, true⟩]

/-- The rows of Table 9-1. -/
def paramRows9_1 : List ParamDef := [
  ⟨Par.decodeMode, 1, List.replicate 3 none, ⟨0, 0⟩, .safeReadyArmed, true⟩,
  ⟨Par.matchTol, 1, [some (1, 7)], ⟨0, 3⟩, .anyFromSafe, true⟩,
  ⟨Par.maxReturns, 1, [some (1, 4)], ⟨0, 4⟩, .anyFromSafe, true⟩,
  ⟨Par.ampCorrect, 1, List.replicate 2 none, ⟨1, 0⟩, .anyFromSafe, true⟩]

/-- The rows of Table 10-1. -/
def paramRows10_1 : List ParamDef := [
  ⟨Par.cardMode, 1, List.replicate 2 none, ⟨0, 0⟩, .anyFromSafe, true⟩,
  ⟨Par.dropMask, 1, List.replicate 3 none, ⟨2, 0⟩, .anyFromSafe, true⟩,
  ⟨Par.estOrder, 1, [some (0, 8)], ⟨0, 4⟩, .anyFromSafe, true⟩,
  ⟨Par.levelK, 1, [some (32, 511)], ⟨0, 96⟩, .anyFromSafe, true⟩,
  ⟨Par.levelFloor, 1, [some (0, 32767)], ⟨0, 64⟩, .anyFromSafe, true⟩,
  ⟨Par.anaK, 1, [some (32, 255)], ⟨0, 80⟩, .anyFromSafe, true⟩,
  ⟨Par.anaFloor, 1, [some (1, 239)], ⟨0, 8⟩, .anyFromSafe, true⟩,
  ⟨Par.blindLevel, 1, [some (1024, 32767)], ⟨0, 16384⟩, .anyFromSafe, true⟩,
  ⟨Par.cohGate, 1, [some (16, 4095)], ⟨0, 256⟩, .anyFromSafe, true⟩,
  ⟨Par.cohThreshold, 1, [some (1, 8)], ⟨0, 3⟩, .anyFromSafe, true⟩]

/-- The rows of Table 10-2. -/
def paramRows10_2 : List ParamDef := [
  ⟨Par.cohInterval, 2, [some (1, 256)], ⟨0, 32⟩, .anyFromSafe, true⟩,
  ⟨Par.expWidth, 2, [some (0, 65535)], ⟨0, 0⟩, .anyFromSafe, true⟩,
  ⟨Par.histWidth, 2, [some (0, 4095)], ⟨0, 0⟩, .anyFromSafe, true⟩,
  ⟨Par.wideRatio, 2, [some (17, 64)], ⟨0, 24⟩, .anyFromSafe, true⟩,
  ⟨Par.scatterLimit, 2, [some (1, 20480)], ⟨0, 400⟩, .anyFromSafe, true⟩,
  ⟨Par.diffuseCeil, 2, [some (0, 65535)], ⟨0, 1024⟩, .anyFromSafe, true⟩,
  ⟨Par.interfThreshold, 2, [some (1, 255)], ⟨0, 1⟩, .anyFromSafe, true⟩,
  ⟨Par.hopping, 2, List.replicate 2 none, ⟨0, 0⟩, .anyFromSafe, true⟩,
  ⟨Par.hopSets, 2, List.replicate 3 none, ⟨1, 0⟩, .anyFromSafe, true⟩,
  ⟨Par.hopStride, 2, [some (1, 255)], ⟨0, 64⟩, .anyFromSafe, true⟩,
  ⟨Par.hopTrigger, 0, [some (1, 256)], ⟨0, 4⟩, .anyFromSafe, true⟩]

/-- The rows of Table 11-1. (DESIGN CHOICE, log 63.) -/
def paramRows11_1 : List ParamDef := [
  ⟨Par.trigType, 1, List.replicate 6 none, ⟨0, 0⟩, .anyFromSafe, true⟩,
  ⟨Par.trigCmp, 1, List.replicate 2 none, ⟨0, 0⟩, .anyFromSafe, true⟩,
  ⟨Par.trigSense, 1, List.replicate 6 none, ⟨0, 0⟩, .anyFromSafe, true⟩,
  ⟨Par.limitA, 1, [some (0, 65535)], ⟨0, 0⟩, .anyFromSafe, true⟩,
  ⟨Par.limitB, 1, [some (0, 65535)], ⟨0, 65535⟩, .anyFromSafe, true⟩,
  ⟨Par.trigTimeout, 1, [some (1, 131071)], ⟨0, 125⟩, .anyFromSafe, true⟩,
  ⟨Par.windowGate, 1, List.replicate 3 none, ⟨0, 0⟩, .anyFromSafe, true⟩,
  ⟨Par.validGate, 1, List.replicate 2 none, ⟨0, 0⟩, .anyFromSafe, true⟩]

/-- The rows of Table 11-3. -/
def paramRows11_3 : List ParamDef := [
  ⟨Par.combMode, 2, List.replicate 3 none, ⟨0, 0⟩, .anyFromSafe, true⟩,
  ⟨Par.combA, 2, [some (0, 65535)], ⟨0, 0⟩, .anyFromSafe, true⟩,
  ⟨Par.combB, 2, [some (0, 65535)], ⟨0, 0⟩, .anyFromSafe, true⟩,
  ⟨Par.combK, 2, [some (1, 16)], ⟨0, 1⟩, .anyFromSafe, true⟩,
  ⟨Par.combV, 2, [some (1, 1024)], ⟨0, 16⟩, .anyFromSafe, true⟩]

/-- The rows of Table 15-7. -/
def paramRows15_7 : List ParamDef := [
  ⟨Par.commitLead, 2, [some (125, 250)], ⟨0, 250⟩, .anyFromSafe, true⟩,
  ⟨Par.reportLevel, 2, [some (0, 2)], ⟨0, 1⟩, .anyFromSafe, true⟩,
  ⟨Par.tripThreshold, 3, [some (10, 70)], ⟨0, 66⟩, .anyFromSafe, false⟩,
  ⟨Par.presThreshold, 3, [some (2, 50)], ⟨0, 6⟩, .anyFromSafe, false⟩,
  ⟨Par.wavelengthMask, 3, [some (0, 4294967295)], ⟨0, 4294967295⟩, .safeReady, false⟩,
  ⟨Par.powerEq, 3, List.replicate 2 none, ⟨0, 0⟩, .safeReady, false⟩,
  ⟨Par.tracking, 1, List.replicate 2 none, ⟨1, 0⟩, .anyFromSafe, true⟩,
  ⟨Par.prescaler, 4, List.replicate 2 none, ⟨0, 0⟩, .anyFromSafe, false⟩,
  ⟨Par.weight1, 0, [some (1, 15)], ⟨0, 12⟩, .anyFromSafe, false⟩,
  ⟨Par.weight2, 0, [some (1, 15)], ⟨0, 3⟩, .anyFromSafe, false⟩,
  ⟨Par.weight3, 0, [some (1, 15)], ⟨0, 1⟩, .anyFromSafe, false⟩,
  ⟨Par.hopIndex, 0, [some (0, 3)], ⟨0, 0⟩, .anyFromSafe, true⟩,
  ⟨Par.watchdog, 0, [some (1, 256)], ⟨0, 16⟩, .safe, false⟩]

/-- Every parameter of the device. -/
def paramTable : List ParamDef :=
  paramRows2_2 ++ paramRows5_4 ++ paramRows5_5 ++ paramRows6_5 ++ paramRows7_4 ++ paramRows8_1 ++ paramRows9_1
    ++ paramRows10_1 ++ paramRows10_2 ++ paramRows11_1 ++ paramRows11_3 ++ paramRows15_7

/-- The row of a parameter id. -/
def paramDef (id : Nat) : Option ParamDef := paramTable.find? fun p => p.id == id

/-- The default of a parameter id. -/
def paramDefault (id : Nat) : PVal := ((paramDef id).map ParamDef.dflt).getD {}

/-- Whether the parameter may be changed in a device state: any state from SAFE is codes 0x3-0x9, though SELF-TEST admits no
command (spec 15 R350, R351). -/
def Allowed.holds : Allowed → DevState → Bool
  | .anyFromSafe, d => d ∈ [.safe, .ready, .armed, .ranging, .calibrating, .selfTest, .fault]
  | .safeReady, d => d ∈ [.safe, .ready]
  | .safeReadyArmed, d => d ∈ [.safe, .ready, .armed]
  | .safe, d => d = .safe

/-- Whether an item's option exists and its number lies in the option's range (check 5, spec 15 R365). -/
def ParamDef.admits (p : ParamDef) (opt : Nat) (num : Int) : Bool :=
  match p.opts[opt]? with
  | none => false
  | some none => true
  | some (some (lo, hi)) => decide (lo ≤ num) && decide (num ≤ hi)

/-- The value an item stores: a number that its option does not carry is 0 (spec 15 R365). -/
def ParamDef.value (p : ParamDef) (opt : Nat) (num : Int) : PVal :=
  match p.opts[opt]? with
  | some (some _) => ⟨opt, num⟩
  | _ => ⟨opt, 0⟩

namespace State

/-- The key of a parameter entry: `sub` numbers the entries of a table-valued parameter, else 0. -/
def paramKey (id sub target : Nat) : Nat := (id * 64 + sub) * 256 + target

/-- The default of an entry: 0 for a table-valued parameter (Tables 6-5, 10-2), the first option of each choice of a sense
(Table 11-1), else the row's default. -/
def entryDefault (id sub : Nat) : PVal :=
  if id = Par.hkSlotInput ∨ id = Par.expWidth then {}
  else if id = Par.trigSense then ⟨2 * sub, 0⟩ else paramDefault id

/-- The value of entry `sub` of parameter `id` for `target`. -/
def paramAt (s : State) (id sub target : Nat) : PVal :=
  (Store.read none s.dist.params (paramKey id sub target)).getD (entryDefault id sub)

/-- The value of parameter `id` for `target` (0 for the device). -/
def param (s : State) (id target : Nat) : PVal := s.paramAt id 0 target

/-- The option index of a parameter. -/
def popt (s : State) (id target : Nat) : Nat := (s.param id target).opt

/-- The number of a parameter that is not signed. -/
def pnum (s : State) (id target : Nat) : Nat := (s.param id target).num.toNat

/-- Stores entry `sub` of a parameter. -/
def setParam (id sub target : Nat) (v : PVal) (s : State) : State :=
  let e := if v = entryDefault id sub then none else some v
  s.modDist fun d => { d with params := Store.write none d.params (paramKey id sub target) e }

end State

end Sys2Proof.Machine
end

