-- ==== Sys2Proof/Machine/LineTime.lean ====
section
/-! DEFINITION. Line time: the instants that Spindle gives for lines and the line time of an instant (spec 02
R36-R40, R51), and the time fields of records (spec 13 R301). Spindle's instants are in 2^-24 ns. -/

namespace Sys2Proof.Machine

/-- The instant in Spindle's unit, 2^-24 ns. -/
def fine (t : Tick) : Nat := 4096 * t

namespace Spindle

/-- Line time is tracked, predicted or generated (spec 02 Table 2-3). -/
def hasTime (p : Spindle) : Bool := p.state = .locked || p.state = .holdover || p.state = .freeRunning

/-- The number of the frame that starts next: the one already begun by prediction, the pending load, or one more
(spec 02 R36). -/
def nextFrame (p : Spindle) : Nat :=
  if p.frame ≠ p.gridFrame then p.frame else p.load.getD ((p.gridFrame + 1) % 2 ^ 32)

/-- How many lines the frame of the tracked edge has by the present prediction: up to the line strobe that R33 makes
line 0 where a FRAME_STROBE has been accepted, else the declared count; a strobe-mode frame whose index has passed that
count goes on until a FRAME_STROBE comes (spec 02 R37, R46; DEDUCED, log 142). -/
def frameLength (p : Spindle) : Nat :=
  match p.restart with
  | none => if p.state = .freeRunning ∨ p.gridLine < p.lines then p.lines else p.gridLine + 65536
  | some t => p.gridLine + max 1 ((fine (t + ns 5) - p.phase + p.period - 1) / p.period)

/-- A frame has ended and is not yet closed: a number whose frame is closed names one to come (spec 02 R36, R64;
DEDUCED, log 72). -/
def ended (p : Spindle) (f : Nat) : Bool := (Store.read {} p.frames f).past && !(Store.read {} p.frames f).closed

/-- How many frames after the present one the frame numbered `f` lies: the numbers from a pending load on name the frames
that will carry them (spec 02 R36). (DEDUCED, log 72, log 73.) -/
def ahead (p : Spindle) (f : Nat) : Int :=
  if f = p.frame then 0
  else if p.ended f then min (-1) (serialDiff f p.frame)
  else match p.load with
    | some n => if 0 ≤ serialDiff f n then 1 + serialDiff f n else serialDiff f p.frame
    | none => serialDiff f p.frame

/-- How many frames after the present one the frame lies that a command names by `f`: while a load is pending, the numbers
from it on name the frames that will carry them, and the others, but for the present one, name frames that are past (spec
02 R36). -/
def named (p : Spindle) (f : Nat) : Int :=
  match p.load with
  | some n =>
    if 0 ≤ serialDiff f n then 1 + serialDiff f n else if f = p.frame then 0 else min (-1) (serialDiff f p.frame)
  | none => serialDiff f p.frame

/-- The number of the `n`th frame after the frame numbered `f` (spec 02 R36). (DEDUCED, log 72.) -/
def frameAfter (p : Spindle) (f : Nat) (n : Int) : Nat :=
  match p.load with
  | none => (((f : Int) + n) % 2 ^ 32).toNat
  | some l =>
    let k := p.ahead f + n
    ((if 0 < k then l + k - 1 else (p.frame : Int) + k) % 2 ^ 32).toNat

/-- Lines from the tracked edge to line (f, l), negative for lines before it. -/
def linesTo (p : Spindle) (f l : Nat) : Int :=
  if f = p.gridFrame then (l : Int) - p.gridLine
  else if p.ended f then min (-1) (serialDiff f p.gridFrame) * p.lines + l - p.gridLine
  else if 0 ≤ serialDiff f p.nextFrame then
    (p.frameLength : Int) - p.gridLine + serialDiff f p.nextFrame * p.lines + l
  else serialDiff f p.gridFrame * p.lines + l - p.gridLine

end Spindle

/-- Frames generated by one free-running setting from a frame origin on (spec 02 R40): that origin (2^-24 ns), its frame, how
many lines after the origin of the next frame it lies, line period (2^-24 ns) and lines per frame. -/
structure Span where
  origin : Int
  frame : Nat
  at_ : Int
  period : Nat
  lines : Nat

/-- The `l`th line from a span's origin. -/
def Span.line (x : Span) (l : Nat) : Nat × Nat := ((x.frame + l / max 1 x.lines) % 2 ^ 32, l % max 1 x.lines)

/-- The span of settings acknowledged at `a`: from the first frame origin at least 4.096 us after (spec 02 R40). -/
def Span.turn (x : Span) (a : Tick) (period lines : Nat) : Span :=
  let len := max 1 (x.lines * x.period)
  let j := (((fine (a + ns 4096) : Int) - x.origin + len - 1) / len).toNat
  ⟨x.origin + j * len, (x.frame + j) % 2 ^ 32, x.at_ + j * x.lines, period, lines⟩

namespace Spindle

/-- The spans of the settings that wait, where the present setting gives the next frame's origin as `origin` (spec 02
R40). -/
def turns (p : Spindle) (origin : Int) : List Span :=
  p.freePending.foldl (fun l c => l ++ [(l.getLastD ⟨origin, p.nextFrame, 0, p.period, p.lines⟩).turn c.1 c.2.1 c.2.2]) []

end Spindle

namespace State

/-- How many line periods make up the tracked period: the declared lines in interpolated mode, else 1 (spec 02 R40). -/
def lineDiv (s : State) : Nat := if s.popt Par.timingMode 0 = 1 then max 1 s.spindle.lines else 1

/-- The line period, 2^-24 ns. -/
def linePeriod (s : State) : Nat := s.spindle.period / s.lineDiv

/-- The spans of free-running settings that wait (spec 02 R40). -/
def turns (s : State) : List Span :=
  let p := s.spindle
  p.turns (p.phase + ((p.frameLength : Int) - p.gridLine) * p.period)

/-- The last waiting span that frame `f` belongs to. -/
def turnOf (s : State) (f : Nat) : Option Span :=
  if f = s.spindle.gridFrame ∨ s.spindle.ended f then none
  else s.turns.reverse.find? fun x => 0 ≤ serialDiff f x.frame

/-- A line by an instant that Spindle knows (2^-24 ns), how many lines after it the line falls, and the tracked period
(spec 02 R38, R40). -/
def gridPoint (s : State) (f l : Nat) : Int × Int × Nat :=
  match s.turnOf f with
  | some x => (x.origin, serialDiff f x.frame * x.lines + l, x.period)
  | none => (s.spindle.phase, s.spindle.linesTo f l, s.spindle.period)

/-- The strobe instant of line (f, l), 2^-24 ns (spec 02 R38). -/
def strobeInstant (s : State) (f l : Nat) : Int :=
  let g := s.gridPoint f l
  g.1 + g.2.1 * g.2.2 / s.lineDiv

/-- The planned instant of line time (f, l, q): the line's origin plus q / 65,536 line, rounded to 3.90625 ps of
device time (spec 02 R38, R51). -/
def plannedInstant (s : State) (lt : LineTime) : Tick :=
  let l0 := s.clock.lockedAt.getD 0
  let d := s.lineDiv
  let g := s.gridPoint lt.frame lt.line
  let pos := g.2.1 * 65536 + (s.param Par.lineOffset 0).num + lt.frac
  let num := (g.1 - fine l0) * 65536 * d + pos * g.2.2
  l0 + (16 * roundDiv num (65536 * 65536 * d)).toNat

/-- The origin of frame `f`: line 0's strobe instant and the line origin offset, 2^-24 ns (spec 02 R38). -/
def frameOrigin (s : State) (f : Nat) : Int :=
  let g := s.gridPoint f 0
  g.1 + g.2.1 * g.2.2 / s.lineDiv + (s.param Par.lineOffset 0).num * g.2.2 / (65536 * s.lineDiv)

/-- The waiting span in which instant `t` lies, its lines counted from `off` / 65,536 line after their strobe instants. -/
def turnAt (s : State) (off : Int) (t : Tick) : Option Span :=
  s.turns.reverse.find? fun x => x.origin * 65536 + off * x.period ≤ (fine t : Int) * 65536

/-- Spindle's line time at instant `t` by the present settings, predicted and interpolated lines included. -/
def gridTimeAt (s : State) (t : Tick) : LineTime :=
  let p := s.spindle
  let pos := ((fine t : Int) - p.phase) * 65536 * s.lineDiv / p.period
    - (s.param Par.lineOffset 0).num + (p.gridLine * 65536 : Nat)
  let l := pos / 65536
  let q := (pos % 65536).toNat
  if l < 0 then
    ⟨(((p.gridFrame : Int) + l / p.lines) % 2 ^ 32).toNat, (l % p.lines).toNat, q⟩
  else if l < p.frameLength then ⟨p.gridFrame, l.toNat, q⟩
  else ⟨(p.nextFrame + (l.toNat - p.frameLength) / p.lines) % 2 ^ 32, (l.toNat - p.frameLength) % p.lines, q⟩

/-- Spindle's line time at instant `t` (spec 02 R62). -/
def lineTimeAt (s : State) (t : Tick) : LineTime :=
  let off := (s.param Par.lineOffset 0).num
  match s.turnAt off t with
  | none => s.gridTimeAt t
  | some x =>
    let pos := (((fine t : Int) - x.origin) * 65536 / max 1 x.period - off).toNat
    let l := x.line (pos / 65536)
    ⟨l.1, l.2, pos % 65536⟩

/-- The line time a record carries: the present one, or the last defined one (spec 02 R62). -/
def lineTime (s : State) : LineTime := if s.spindle.hasTime then s.lineTimeAt s.now else s.spindle.last

/-- The device time field of instant `t` (spec 13 R301): coarse count, fine field, epoch. -/
def devField (s : State) (t : Tick) : Nat :=
  let d := s.devTime t
  d / 4096 % 2 ^ 48 + 2 ^ 48 * (d % 4096 / 16) + flagBit 56 (s.epochAt t)

/-- The stamp field of instant `t`, fine field in 1/512 ns, a tie to the later instant (spec 07 R175, 13 R301). -/
def stampField (s : State) (t : Tick) : Nat :=
  let d := s.devTime t + 4
  d / 4096 % 2 ^ 48 + 2 ^ 48 * (d % 4096 / 8) + flagBit 57 (s.epochAt t)

/-- A sag exists (spec 18 R421). -/
def anySag (s : State) : Bool := s.power.rails.any fun r => r.2.sag

end State

/-- The line time field (spec 13 R301). -/
def LineTime.field (t : LineTime) : Nat :=
  t.frame % 2 ^ 32 + 2 ^ 32 * (t.line % 65536) + 2 ^ 48 * (t.frac % 65536)

/-! ## State codes -/

/-- The 4-bit device state code (spec 00 Table 0-3). -/
def DevState.code : DevState → Nat
  | .off => 0 | .standby => 1 | .boot => 2 | .safe => 3 | .ready => 4 | .armed => 5 | .ranging => 6
  | .calibrating => 7 | .selfTest => 8 | .fault => 9

/-- The 3-bit Spindle state code (spec 02 Table 2-3). -/
def SpState.code : SpState → Nat
  | .idle => 0 | .acquiring => 1 | .locked => 2 | .holdover => 3 | .lost => 4 | .freeRunning => 5

/-- The port state code (spec 04 Table 4-2). -/
def PortState.code : PortState → Nat
  | .off => 0 | .probing => 1 | .reading => 2 | .verified => 3 | .admitted => 4 | .rejected => 5 | .tripped => 6
  | .removed => 7

/-- The link state code (spec 14 Table 14-4). -/
def LinkState.code : LinkState → Nat
  | .down => 0 | .detect => 1 | .train => 2 | .deskew => 3 | .exchange => 4 | .active => 5 | .recovery => 6 | .test => 7

/-- State codes 0x3 to 0x9: "any state from SAFE" (spec 15 R350). -/
def DevState.fromSafe (d : DevState) : Bool := 3 ≤ d.code

end Sys2Proof.Machine
end

