-- ==== Sys2Proof/Machine/Records.lean ====
section
/-! DEFINITION. Records (spec 13): sequence numbers, the header of Table 13-2, the class queues with their room, the
rate allowance of R315, the loss table of R317, class-0 events and health records. -/

namespace Sys2Proof.Machine

/-! ## Source ids (spec 13 Table 13-3) -/

/-- Flyer bank `b`. -/
def Src.flyer (b : Nat) : Nat := 0x0100 + b
/-- Spindle. -/
def Src.spindle : Nat := 0x0110
/-- Head port `n`. -/
def Src.port (n : Nat) : Nat := 0x0118 + n
/-- Whorl. -/
def Src.whorl : Nat := 0x0120
/-- Power and thermal. -/
def Src.power : Nat := 0x0121
/-- Device state and Distaff. -/
def Src.device : Nat := 0x0122
/-- The loss reporter. -/
def Src.loss : Nat := 0x0123
/-- Trust. -/
def Src.trust : Nat := 0x0124
/-- Health. -/
def Src.health : Nat := 0x0125
/-- Bobbin of channel `c`. -/
def Src.bobbin (c : Nat) : Nat := 0x0200 + c
/-- Roving group `g`. -/
def Src.group (g : Nat) : Nat := 0x0300 + g

/-- The parts of the record output queues (spec 13 R314). -/
inductive Lane where
  | events | losses | main | health | class2
  deriving DecidableEq, Repr

/-- Bytes of each part (spec 13 R314; the class-0 buffer is 16 KiB, its last 1 KiB for loss records). -/
def Lane.size : Lane → Nat
  | .events => 15360 | .losses => 1024 | .main => 1310720 | .health => 65536 | .class2 => 524288

/-- The loss cause of a record that finds its part full (spec 13 Table 13-12). -/
def Lane.fullCause : Lane → Nat
  | .events => 4 | .losses => 4 | .main => 1 | .health => 7 | .class2 => 2

/-- Whether a record stands in the part. -/
def Lane.holds (l : Lane) (r : Rec) : Bool :=
  match l with
  | .events => r.src ≠ Src.loss | .losses => r.src = Src.loss
  | .main => r.src ≠ Src.health | .health => r.src = Src.health | .class2 => true

namespace Records

/-- The queue a part belongs to. -/
def queue (r : Records) : Lane → List Rec
  | .events => r.q0 | .losses => r.q0 | .main => r.q1 | .health => r.q1 | .class2 => r.q2

/-- Bytes that records hold in a part. -/
def used (r : Records) (l : Lane) : Nat :=
  ((r.queue l).filter l.holds).foldl (fun n x => n + x.bytes.length) 0

/-- Whether a part has room for `n` more bytes. -/
def room (r : Records) (l : Lane) (n : Nat) : Bool := r.used l + n ≤ l.size

/-- Appends accepted records, in order. -/
def push (r : Records) (l : Lane) (x : List Rec) : Records :=
  match l with
  | .events => { r with q0 := r.q0 ++ x } | .losses => { r with q0 := r.q0 ++ x }
  | .main => { r with q1 := r.q1 ++ x } | .health => { r with q1 := r.q1 ++ x }
  | .class2 => { r with q2 := r.q2 ++ x }

/-- The sequence number the source's next record takes (spec 02 R61). -/
def seqOf (r : Records) (src : Nat) : Nat := Store.read 0 r.seqs src

/-- Moves the source's sequence number on by `n`. -/
def bump (r : Records) (src n : Nat) : Records :=
  { r with seqs := Store.modify 0 r.seqs src fun v => (v + n) % 2 ^ 32 }

/-- Runs of a source that have not yet become loss records. -/
def runsOf (r : Records) (src : Nat) : List LossRun := r.runs.filter fun x => x.src = src

/-- The source's fourth run is held open (spec 13 R317). -/
def heldOpen (r : Records) (src : Nat) : Bool := 4 ≤ (r.runsOf src).length

/-- Closes the runs that `p` picks; closed runs stand before open ones, in the order in which they closed. -/
def closeRuns (r : Records) (p : LossRun → Bool) : Records :=
  let hit := fun (x : LossRun) => !x.closed && p x
  { r with runs := r.runs.filter (fun x => x.closed)
      ++ (r.runs.filter hit).map (fun x => { x with closed := true })
      ++ r.runs.filter (fun x => !x.closed && !p x) }

/-- A run that the loss of number `n` joins: of the same source and adjacent (spec 13 R317). -/
def LossRun.takes (x : LossRun) (src n : Nat) : Bool :=
  x.src = src && ((x.first + x.count) % 2 ^ 32 = n || (n + 1) % 2 ^ 32 = x.first)

/-- The run with the loss of number `n` joined. -/
def LossRun.join (x : LossRun) (n cause : Nat) (now : Tick) (frame : Option Nat) : LossRun :=
  { x with
    first := if (x.first + x.count) % 2 ^ 32 = n then x.first else n
    count := x.count + 1
    several := x.several || x.cause != cause
    lastAt := now
    frames := x.frames ++ frame.toList.filter fun f => f ∉ x.frames }

/-- Enters the loss of number `n` of a source (spec 13 R317): of a record of `frame`, where it belongs to one (02 R64), in
the frame `present`. -/
def lose (r : Records) (src n cause : Nat) (now : Tick) (field : Nat) (frame : Option Nat) (present : Nat) : Records :=
  if r.runs.any fun x => LossRun.takes x src n then
    let k := r.runs.findIdx fun x => LossRun.takes x src n
    { r with runs := r.runs.modify k fun x => LossRun.join x n cause now frame }
  else
    let r' := r.closeRuns fun x => x.src = src
    { r' with runs := r'.runs ++ [⟨src, n, 1, cause, false, field, now, frame.getD present, frame.toList, false⟩] }

/-- The allowance of R315 at `now`, in 1/20,480 record: 600 M records/s is 3 units in each tick. -/
def refill (r : Records) (now : Tick) : Records :=
  { r with allowance := min 83886080 (r.allowance + 3 * (now - r.allowanceAt)), allowanceAt := now }

/-- Why a unit of records is refused, none where it is accepted (spec 13 R315-R317). -/
def refusal (r : Records) (l : Lane) (src : Nat) (sizes : List Nat) : Option Nat :=
  if r.heldOpen src then some 8
  else if l = .main ∧ r.allowance < 20480 * sizes.length then some 5
  else if r.room l sizes.sum then none
  else some l.fullCause

/-- Offers records as one unit: each takes its number, then all are accepted or all are refused (spec 13 R303, R305,
R316, R317). `mk` builds each record from its number. -/
def offer (r : Records) (l : Lane) (src : Nat) (frame : Option Nat) (now : Tick) (field present : Nat)
    (mk : List (Nat → List Byte)) : Records :=
  let n := r.seqOf src
  let recs : List Rec := mk.mapIdx fun i f => ⟨src, (n + i) % 2 ^ 32, frame, f ((n + i) % 2 ^ 32), 0⟩
  let r1 := (r.refill now).bump src mk.length
  match r1.refusal l src (recs.map fun x => x.bytes.length) with
  | none =>
    let r2 := (r1.closeRuns fun x => x.src = src).push l recs
    if l = .main then { r2 with allowance := r2.allowance - 20480 * mk.length } else r2
  | some cause => recs.foldl (fun a x => a.lose src x.seq cause now field frame present) r1

end Records

namespace State

/-- Offers a unit of records at the present instant. -/
def offer (l : Lane) (src : Nat) (frame : Option Nat) (mk : List (Nat → List Byte)) (s : State) : State :=
  s.modRecs fun r => r.offer l src frame s.now (s.devField s.now) s.lineTime.frame mk

/-- The flags that a header's byte 1 takes from Spindle's state (spec 02 R50, R62, 13 Table 13-2). -/
def lineFlags (s : State) : Nat :=
  flagBit 0 (!s.spindle.hasTime) + flagBit 1 (s.spindle.state = .holdover) + flagBit 2 (s.spindle.state = .freeRunning)

/-- The device and Spindle state codes of a header's byte 28 (spec 13 Table 13-2). -/
def stateCodes (s : State) : Nat := s.dev.code + 16 * s.spindle.state.code

/-- The 32-byte header of Table 13-2 (spec 13 R300), for an event at instant `at_` under the flags and state codes given. -/
def headerAt (s : State) (at_ : Tick) (flags codes type len src code srcState : Nat) (lt : LineTime) (seq : Nat) : List Byte :=
  place 0 [(1, type), (1, flags), (2, len), (2, src), (2, code), (4, seq)] ++ le 8 lt.field ++ le 8 (s.devField at_)
    ++ [BitVec.ofNat 8 codes, BitVec.ofNat 8 srcState, 0, 0]

/-- The header of a record whose event falls at the present instant. -/
def header (s : State) : Nat → Nat → Nat → Nat → Nat → LineTime → Nat → List Byte :=
  s.headerAt s.now s.lineFlags s.stateCodes

/-! ## The event log (spec 18 R435, R436) and the side-port flags (spec 21 R483) -/

/-- Sets side-port flag `n` and advances its counter (spec 21 R483). -/
def setFlag (n : Nat) (s : State) : State :=
  s.modSide fun p => { p with
    flags := p.flags ||| BitVec.ofNat 23 (2 ^ n), flagsAt := s.now
    flagsNew := (if p.flagsAt = s.now then p.flagsNew else 0) ||| BitVec.ofNat 23 (2 ^ n)
    counts := Store.modify 0 p.counts n fun v => (v + 1) % 2 ^ 32 }

/-- The 64 bytes of an event-log entry but for its number and suppressed count (spec 18 Table 18-7). -/
def logBody (s : State) (src code : Nat) (detail : List Byte) : List Byte :=
  le 4 s.trust.bootCount ++ le 8 (s.devField s.now) ++ le 2 src ++ le 2 code ++ [BitVec.ofNat 8 s.dev.code]
    ++ padTo 32 (detail.take 32)

/-- An entry of the log with number `n` and suppressed count `k` around a body of `logBody`. -/
def logPage (n k : Nat) (body : List Byte) : List Byte :=
  let b := le 4 n ++ body.take 17 ++ [BitVec.ofNat 8 (flagBit 0 (k ≠ 0))] ++ le 2 (min k 65535) ++ body.drop 17
    ++ [0, 0, 0, 0]
  b ++ le 4 (crc32c b).toNat

/-- Queues page writes: where none waits, the first starts at once (spec 18 R433). -/
def queueWrites (jobs : List PageJob) (s : State) : State :=
  s.modNvCtl fun c => { c with jobs := c.jobs ++ jobs, jobAt := if c.jobs = [] then s.now else c.jobAt }

/-- Queues page erases: where none waits, the first starts at once (spec 18 R433, R434). -/
def queueErases (pages : List Nat) (s : State) : State :=
  s.modNvCtl fun c => { c with erasing := c.erasing ++ pages, eraseAt := if c.erasing = [] then s.now else c.eraseAt }

/-- Queues the page write of one log entry: the ring's next page, with the page 64 ahead erased (spec 18 R436).
(DEDUCED, log 86.) -/
def logWrite (body : List Byte) (s : State) : State :=
  let c := s.nvCtl
  ((s.queueWrites [⟨2048 + c.next % 2048, logPage c.next c.suppressed body, 2, 0, none⟩]).queueErases
    [2048 + (c.next + 64) % 2048]).modNvCtl fun c =>
    { c with
      next := (c.next + 1) % 2 ^ 32
      oldest := if (c.next + 2 ^ 32 - c.oldest) % 2 ^ 32 ≥ 1984 then (c.oldest + 1) % 2 ^ 32 else c.oldest
      times := c.times ++ [s.now]
      suppressed := 0 }

/-- Logs one entry: at most 64 in any 1 s, into the 16-entry buffer while writes are refused, else to the ring; what
finds no room is suppressed and counted (spec 18 R436). -/
def logOne (body : List Byte) (s : State) : State :=
  let s1 := s.modNvCtl fun c => { c with times := c.times.filter fun t => s.now < t + us 1000000 }
  if 64 ≤ s1.nvCtl.times.length then s1.modNvCtl fun c => { c with suppressed := c.suppressed + 1 }
  else if s1.power.nvAllowed then s1.logWrite body
  else (s1.modNvCtl fun c =>
    if c.buffer.length < 16 then { c with buffer := c.buffer ++ [body] }
    else { c with suppressed := c.suppressed + 1 }).setFlag 18

/-- Records are formed from power-good until the rails are disabled: the queues are fabric memory (spec 01 R29,
18 R419, R420). -/
def powered (s : State) : Bool := s.power.powerGood

/-- The bytes of a health and fault record (spec 13 R310). -/
def healthBytes (s : State) (code subject : Nat) (details : List (Nat × Nat)) (seqs : List Nat) (seq : Nat) :
    List Byte :=
  padTo 128 (padTo 64 (s.header 0x11 128 Src.health code 0 s.lineTime seq ++ le 2 subject ++ [0, 0]
    ++ place 36 details) ++ seqs.flatMap (le 4))

/-- Offers a health record without an entry in the log. -/
def healthOnly (code subject : Nat) (details : List (Nat × Nat)) (seqs : List Nat) (s : State) : State :=
  s.cond s.powered fun s => s.offer .health Src.health none [s.healthBytes code subject details seqs]

/-- Makes an entry of the log by `f`; one that ends a suppression is reported by health code 0x0212 (spec 18 R432, R436). -/
def logBy (f : State → State) (s : State) : State :=
  let k := s.nvCtl.suppressed
  let s1 := f s
  if k ≠ 0 ∧ s1.nvCtl.suppressed = 0 then
    (s1.healthOnly 0x0212 0 [(4, k)] []).logOne (s1.logBody Src.health 0x0212 (le 4 k))
  else s1

/-- Logs an event (spec 18 R436). -/
def log (src code : Nat) (detail : List Byte) (s : State) : State := s.logBy (logOne (s.logBody src code detail))

/-- Class-0 event codes that the log takes (spec 18 R436). -/
def loggedEvent (code : Nat) : Bool :=
  code ∈ [0x10, 0x11, 0x12, 0x23, 0x2A, 0x32, 0x34, 0x35, 0x40, 0x41, 0x42, 0x43, 0x44] || (0x50 ≤ code && code ≤ 0x55)

/-- Health codes that the log takes (spec 18 R436). -/
def loggedHealth (code : Nat) : Bool :=
  code ∈ [0x0101, 0x0102, 0x0110, 0x0120, 0x0160, 0x0161, 0x0170, 0x0301, 0x0302] || (0x0201 ≤ code && code ≤ 0x0220)

/-- Emits a class-0 event (spec 13 R308): 64 bytes, the payload fields (size, value) placed from byte 32. -/
def eventOf (src code srcState : Nat) (payload : List (Nat × Nat)) (s : State) : State :=
  (s.cond s.powered fun s => s.offer .events src none [fun seq =>
    padTo 64 (s.header 0x10 64 src code srcState s.lineTime seq ++ place 32 payload)]).cond (loggedEvent code)
    fun s => s.log src code (place 32 payload)

/-- A class-0 event of a source without a state of its own. -/
def event (src code : Nat) (payload : List (Nat × Nat)) (s : State) : State := s.eventOf src code 0 payload

/-- A class-0 event of head port `n` (spec 04 R119). -/
def portEvent (n code : Nat) (payload : List (Nat × Nat)) (s : State) : State :=
  s.eventOf (Src.port n) code (s.port n).state.code payload

/-- Offers a health and fault record (spec 13 R310): 128 bytes; `seqs` are the sixteen numbers of bytes 64-127. -/
def health (code subject : Nat) (details : List (Nat × Nat)) (seqs : List Nat) (s : State) : State :=
  (s.healthOnly code subject details seqs).cond (loggedHealth code) fun s => s.log Src.health code (place 36 details)

/-- A source's last event or health record, of this code, is taken back while it waits. -/
def unsay (src code : Nat) (s : State) : State :=
  s.modRecs fun r =>
    let n := (r.seqOf src + (2 ^ 32 - 1)) % 2 ^ 32
    let hit := fun (x : Rec) => x.src = src && x.seq = n && fromLe ((x.bytes.drop 6).take 2) = code
    if (r.q0 ++ r.q1).any hit then { r with
      q0 := r.q0.filter fun x => !hit x, q1 := r.q1.filter fun x => !hit x, seqs := Store.write 0 r.seqs src n }
    else r

/-- An event of a source with this code that waits, the last of payload bytes `head`, takes `v` as the payload byte after
them, in its record and in its entry of the log. -/
def amend (src code : Nat) (head : List Byte) (v : Byte) (s : State) : State :=
  let k := head.length
  let lastOf := fun (n : Nat) (l : List (List Byte)) (hit : List Byte → Bool) =>
    let i := l.reverse.findIdx hit
    if i < l.length then l.length - 1 - i else n
  let record := fun (b : List Byte) => (b.drop 4).take 4 = le 2 src ++ le 2 code && (b.drop 32).take k = head
  let entry := fun (o : Nat) (b : List Byte) => (b.drop (o - 8)).take 4 = le 2 src ++ le 2 code && (b.drop o).take k = head
  let page := fun (b : List Byte) =>
    let c := (b.take 60).set (24 + k) v
    c ++ le 4 (crc32c c).toNat
  (s.modRecs fun r =>
    let i := lastOf r.q0.length (r.q0.map fun x => x.bytes) record
    { r with q0 := r.q0.modify i fun x => { x with bytes := x.bytes.set (32 + k) v } }).modNvCtl fun c =>
      let i := lastOf c.jobs.length (c.jobs.map fun j => if j.kind = 2 then j.bytes else []) (entry 24)
      let j := lastOf c.buffer.length c.buffer (entry 17)
      { c with
        jobs := c.jobs.modify i fun x => { x with bytes := page x.bytes }
        buffer := if i < c.jobs.length then c.buffer else c.buffer.modify j fun b => b.set (17 + k) v }

/-- Notes when the window of channel `c`'s next return record closes; the list keeps those of the last 200 us and the
newest before them (spec 05 R138, R142). (DEDUCED, log 44; DESIGN CHOICE, log 45.) -/
def noteClose (c : Nat) (x : Tick) (s : State) : State :=
  let n := s.recs.seqOf c
  s.modChan c fun ch =>
    let old := (ch.closes.filter fun y => decide (y.1 + us 200 < s.now)).getLast?
    { ch with closes := ch.closes.filter (fun y => decide (s.now ≤ y.1 + us 200) || old = some y) ++ [(x, n)] }

/-- The sequence number of the last return record of channel `c` whose window closed before `x` (spec 05 R138, R142);
where there is none, the number before those that are known. (DESIGN CHOICE, log 45.) -/
def lastGood (s : State) (c : Nat) (x : Tick) : Nat :=
  let l := (s.chan c).closes
  match (l.filter fun y => decide (y.1 < x)).getLast? with
  | some y => y.2
  | none => ((match l with | y :: _ => y.2 | [] => s.recs.seqOf c) + 2 ^ 32 - 1) % 2 ^ 32

end State

end Sys2Proof.Machine
end

