-- ==== Sys2Proof/Machine/Shots.lean ====
section
/-! DEFINITION. What several families do to shots, gates and heads: status records and retirement (spec 03 R86-R92),
cancellation (R87), fire gates, inhibit causes and the latch (spec 16 R372-R375), data frames to a head and emission
messages (spec 04 R102, R113). -/

namespace Sys2Proof.Machine

/-! ## Element ids and descriptors of elements -/

/-- The head port of an element id (spec 00 R3). -/
def elemPort (e : Nat) : Nat := e / 64
/-- The lamp board of an element id (spec 00 R3). -/
def elemBoard (e : Nat) : Nat := e / 16 % 4
/-- The element number on its board (spec 00 R3). -/
def elemIndex (e : Nat) : Nat := e % 16

/-- The shot's window on channel `c` is its reference channel's (spec 03 R72). (DEDUCED, log 53.) -/
def Entry.refWindow (e : Entry) (c : Nat) : Bool := e.refOn && e.refCh = c

/-- COMMITTED or PASSED: what a cancellation retires (spec 03 R86). -/
def Entry.waiting (e : Entry) : Bool := e.state = .committed || e.state = .passed

/-- Not FREE and not RETIRED. -/
def Entry.unretired (e : Entry) : Bool := e.waiting || e.state = .fired

/-- The number of sub-pulses of a code entry (spec 03 Table 3-4). -/
def codeN (c : BitVec 20) : Nat := bits c.toNat 0 2 + 1
/-- The sub-pulses a code requires for a return. -/
def codeK (c : BitVec 20) : Nat := bits c.toNat 2 2 + 1
/-- The valid bit of a code entry. -/
def codeValid (c : BitVec 20) : Bool := c.getLsbD 19
/-- The offsets of a code's sub-pulses from the first, in ns. -/
def codeOffsets (c : BitVec 20) : List Nat :=
  let s1 := 2 * bits c.toNat 4 5
  let s2 := s1 + 2 * bits c.toNat 9 5
  [0, s1, s2, s2 + 2 * bits c.toNat 14 5].take (codeN c)
/-- The code span in ns (spec 03 R78). -/
def codeSpan (c : BitVec 20) : Nat := (codeOffsets c).getLastD 0

/-- The states in which a port's stream runs (spec 04 R101). -/
def PortState.sends (p : PortState) : Bool :=
  p = .reading || p = .verified || p = .admitted || p = .rejected

namespace State

/-! ## Shot status records and retirement -/

/-- The counter of outcome `o` in a Flyer's counters (spec 03 R92). -/
def outcomeKey (o : Nat) : Nat := 16 + o

/-- Adds 1 to a Flyer counter: 0 issued, 1 committed, 2 fired, else an outcome (spec 03 R92). -/
def countFlyer (b k : Nat) (s : State) : State :=
  s.modFlyer b fun f => { f with counters := Store.modify 0 f.counters k fun v => (v + 1) % 2 ^ 32 }

/-- Changes the totals of a frame (spec 02 R64); those of a closed frame that bore the same number give way. -/
def tally (frame : Nat) (g : FrameTally → FrameTally) (s : State) : State :=
  s.modSpindle fun p => { p with frames := Store.modify {} p.frames frame fun y => g (if y.closed then {} else y) }

/-- The bytes of a shot status record (spec 13 R307); `idx` is none for a skip. -/
def statusBytes (s : State) (idx : Option Nat) (e : Entry) (seq : Nat) : List Byte :=
  place 0 [(1, 0x08), (1, e.bank % 16 + flagBit 4 e.epoch), (2, e.element), (4, seq), (8, e.lt.field),
    (2, match idx with | some i => i % 2 ^ 13 | none => 2 ^ 15),
    (1, e.outcome), (1, e.codeIdx), (2, if e.outcome = 0 then twos 2 e.fireOff else 0),
    (1, flagBit 0 e.holdover + flagBit 1 e.freeRun + flagBit 2 e.codeRepeat + flagBit 3 e.lateCancel
        + flagBit 4 e.accumulate + flagBit 5 e.pickMissing + flagBit 6 e.pickoff),
    (1, 0), (8, s.devField e.planned)]

/-- Whether the reporting level of the entry's Flyer gives a record for it (spec 03 R91). -/
def reports (s : State) (e : Entry) : Bool :=
  match s.pnum Par.reportLevel e.bank with
  | 0 => false
  | 1 => e.outcome ≠ 0 || e.codeRepeat || e.lateCancel || e.pickMissing
  | _ => true

/-- Queues the shot status record where one is due (spec 03 R91). -/
def report (idx : Option Nat) (e : Entry) (s : State) : State :=
  s.cond (s.reports e) fun s =>
    s.offer .main (Src.flyer e.bank) (some e.lt.frame) [s.statusBytes idx e]

/-- What the retirement of a Flyer's shot counts and reports (spec 03 R91, R92). -/
def account (i : Option Nat) (e : Entry) (s : State) : State :=
  ((s.countFlyer e.bank (outcomeKey e.outcome)).tally e.lt.frame fun f =>
    if e.outcome = 0 ∨ i.isNone then f else { f with cancelled := f.cancelled + 1 }).report i e

/-- An entry retires with an outcome: its windows are released, its symbol is withdrawn from the port, counters and
totals advance and its record is queued (spec 03 R86, R91, R92); a calibration shot is no Flyer's and counts nowhere.
(DEDUCED, log 60.) -/
def retire (i out : Nat) (s : State) : State :=
  let e := { s.entry i with state := .retired, outcome := out, windows := [], endedAt := some s.now }
  ((s.modEntry i fun _ => e).modPort (elemPort e.element) fun p =>
    { p with reserved := p.reserved.filter fun r => r.2 ≠ .fire i }).cond (!e.cal) (account (some i) e)

/-- Entries that a cancellation of this kind retires. -/
def cancellable (s : State) (pick : Entry → Bool) : List (Nat × Entry) :=
  s.skein.filter fun x => x.2.waiting && pick x.2

/-- A symbol of the entry is being sent: less than 6.0 ns since its first bit left (spec 03 R87). -/
def sending (s : State) (e : Entry) : Bool := e.state = .fired && s.now < e.symbolAt + ns 6

/-- The place of a cancellation's outcome among those that meet in one cycle (spec 16 R387): the first comes before the
others. -/
def outcomePlace (out : Nat) : Nat := [0x25, 0x21, 0x22, 0x23, 0x24, 0x26].idxOf out

/-- A shot that has been cancelled in this cycle takes the outcome of another cause, which comes first (spec 16 R387): in
its entry, its Flyer's counters and its status record while this waits. (DEDUCED, log 136.) -/
def revise (i out : Nat) (s : State) : State :=
  let e := s.entry i
  let own := fun (x : Rec) => x.src = Src.flyer e.bank && x.sent = 0 && x.bytes.getD 0 0 = 0x08
    && (x.bytes.drop 16).take 2 = le 2 (i % 2 ^ 13)
  let key := outcomeKey e.outcome
  let s1 := s.modEntry i fun e => { e with outcome := out }
  if e.cal then s1
  else ((s1.modFlyer e.bank fun f => { f with
    counters := Store.modify 0 f.counters key fun v => (v + (2 ^ 32 - 1)) % 2 ^ 32 }).countFlyer
    e.bank (outcomeKey out)).modRecs fun r => { r with
      q1 := r.q1.map fun x => if own x then { x with bytes := x.bytes.set 18 (BitVec.ofNat 8 out) } else x }

/-- Shots that a cancellation finds cancelled in this very cycle by causes that come after it. -/
def revisable (s : State) (pick : Entry → Bool) (out : Nat) : List (Nat × Entry) :=
  s.skein.filter fun x => x.2.state = .retired && x.2.endedAt = some s.now && 0x21 ≤ x.2.outcome && x.2.outcome ≤ 0x26
    && outcomePlace out < outcomePlace x.2.outcome && pick x.2

/-- Cancels the committed and passed shots that `pick` names, with outcome `out`; a shot whose symbol is being sent
is fired and takes the late-cancel flag (spec 03 R86, R87, 16 R387). -/
def cancel (pick : Entry → Bool) (out : Nat) (s : State) : State :=
  let late := s.skein.filter fun x => s.sending x.2 && pick x.2
  let hit := s.cancellable pick
  let again := s.revisable pick out
  ((s.each late fun x s => s.modEntry x.1 fun e => { e with lateCancel := true }).each again fun x s => s.revise x.1 out).each
    hit fun x s => s.retire x.1 out

/-- Entries of a port. -/
def onPort (n : Nat) (e : Entry) : Bool := elemPort e.element = n

/-! ## Data frames to a head (spec 04 R102, R103) -/

/-- CRC-16, polynomial 0x1021, initial value 0xFFFF, not reflected (spec 04 R102). -/
def crc16 (bs : List Byte) : BitVec 16 :=
  bs.foldl (fun (c : BitVec 16) b => (List.range 8).foldl
    (fun (c : BitVec 16) _ => if c.getLsbD 15 then (c <<< 1) ^^^ 0x1021#16 else c <<< 1)
    (c ^^^ BitVec.ofNat 16 (256 * b.toNat))) 0xFFFF#16

/-- A share: length, payload and, where it has a payload, its CRC most significant byte first as the cells run
(spec 04 R102). -/
def share (payload : List Byte) : List Byte :=
  let body := BitVec.ofNat 8 payload.length :: payload
  if payload = [] then body else body ++ (le 2 (crc16 body).toNat).reverse

/-- A data frame: the share count and one share for each board in chain order (spec 04 R102). -/
def headFrame (shares : List (List Byte)) : List Byte :=
  BitVec.ofNat 8 shares.length :: shares.flatMap share

/-- The rising edges of `n` data cells from `x` on between short symbols whose leading edges, in rising order, are `l`: a
cell comes at least 6.0 ns after a leading edge and completes its 10.0 ns before the next (spec 04 R98). -/
def cellRun : List Tick → Tick → Nat → List Tick
  | [], x, n => (List.range n).map fun i => x + ns (10 * i)
  | y :: r, x, n =>
    let fit := (y - x) / ns 10
    if y + ns 6 ≤ x then cellRun r x n
    else if n ≤ fit then (List.range n).map fun i => x + ns (10 * i)
    else ((List.range fit).map fun i => x + ns (10 * i)) ++ cellRun r (y + ns 6) (n - fit)

/-- The rising edges of the cells of frames that follow one another from `x` on, each frame with the idle time that ends it
(spec 04 R98, R102). -/
def cellRuns (edges : List Tick) : Tick → List Nat → List (List Tick)
  | _, [] => []
  | x, n :: r =>
    let run := cellRun edges x n
    run :: cellRuns edges ((run.getLast?.map fun c => c + ns 50).getD x) r

/-- The leading edges of the short symbols that have left port `n`, of those reserved on it and of `more`. -/
def edgesOf (s : State) (n : Nat) (more : List Tick) : List Tick :=
  sortBy (fun a b => decide (a ≤ b))
    (((s.port n).symbols.map fun r => r.1) ++ ((s.port n).reserved.map fun r => r.1) ++ more)

/-- The rising edges of the cells of the data frames that go out on port `n`, a list for each frame (spec 04 R98). -/
def cellTimes (s : State) (n : Nat) (more : List Tick) : List (List Tick) :=
  cellRuns (s.edgesOf n more) (s.port n).dataFrom (s.port n).data

/-- When the data frames of port `n` have been sent, with the idle time that ends the last: no earlier than the present
instant. A symbol that is reserved while a frame goes out holds its cells back (spec 04 R98). -/
def dataEnd (s : State) (n : Nat) (more : List Tick) : Tick :=
  max s.now ((((s.cellTimes n more).getLast?.bind fun l => l.getLast?).map fun c => c + ns 50).getD 0)

/-- When data frames that wait for those before them have been sent on port `n`, with the idle time that ends each, between
the symbols reserved and those of `more` (spec 04 R98, R102). -/
def framesEnd (s : State) (n : Nat) (more : List Tick) (fs : List (List (List Byte))) : Tick :=
  let x := s.dataEnd n more
  max x ((((cellRuns (s.edgesOf n more) x (fs.map fun f => 8 * (headFrame f).length)).getLast?.bind fun l =>
    l.getLast?).map fun c => c + ns 50).getD 0)

/-- Sends a data frame to a head: nothing leaves while the latch holds HPn_TX low (spec 04 R113, 16 R374). A share
count advances for each board that receives a share (item 3 of R107). -/
def sendFrame (n : Nat) (shares : List (List Byte)) (s : State) : State :=
  s.cond ((s.port n).state.sends && !s.latch.set && shares.length ≠ 0) fun s =>
    let k := 8 * (headFrame shares).length
    let busy := decide (s.now < s.dataEnd n [])
    s.modPort n fun p => { p with
      frames := p.frames ++ [headFrame shares], dataFrom := if busy then p.dataFrom else s.now
      data := if busy then p.data ++ [k] else [k] }

/-! ## Emission and gates -/

/-- The inhibit causes of Table 16-7 with the latch in bit 7 (spec 16 R392). -/
def inhibitMask (s : State) : Nat := s.whorl.inhibit.toNat + flagBit 7 s.latch.set

/-- Whorl inhibits emission: an inhibit cause is present or the latch is set (spec 16 R372, R386). -/
def inhibited (s : State) : Bool := s.whorl.inhibit ≠ 0 || s.latch.set

/-- EMIT_PERMIT (spec 16 R375). -/
def emitPermit (s : State) : Bool := s.dev.fromSafe && !s.inhibited

/-- Whether a port's fire gate is open (spec 16 R372). -/
def gateOpen (s : State) (n : Nat) : Bool :=
  (s.port n).state = .admitted && (s.port n).limits && !s.inhibited

/-- Sends emission enable or disable to every board of a port where R113 calls for a change. A port that no longer
sends symbols has no board to tell. -/
def updateEmission (n : Nat) (s : State) : State :=
  let p := s.port n
  let armed := s.dev = .armed || s.dev = .ranging
    || (s.dev = .calibrating && s.cal.run.any fun r => decide (r.came = .armed))
  let want := p.state = .admitted && armed && !s.inhibited
  if want = p.emit then s
  else (s.sendFrame n (List.replicate p.chain [0x04, if want then 0xA5 else 0x00])).modPort n
    fun p => { p with emit := want }

/-- The order in which the causes of Table 16-5 act in one cycle (spec 16 R387): the latch, the inhibit causes and the arm
loop, a trip before a removal, then the others. -/
def gateRank (cause : Nat) : Nat := [4, 3, 2, 1].idxOf cause

/-- A gate that closed in this very cycle for a cause that acts later takes this cause (spec 16 R387). -/
def gateBlame (cause n : Nat) (s : State) : State :=
  let p := s.port n
  let holds := (cause = 4 && s.latch.set) || (cause = 3 && s.inhibited) || cause = 2
  s.cond (p.gateAt = some s.now && !p.gate && holds && decide (gateRank cause < gateRank p.gateCause)) fun s =>
    (s.modPort n fun p => { p with gateCause := cause }).amend Src.whorl 0x44 [BitVec.ofNat 8 n, 0] (BitVec.ofNat 8 cause)

/-- Brings a port's gate to what R372 says, with PORT GATE where it changes (spec 16 R387, R390). -/
def updateGate (cause n : Nat) (s : State) : State :=
  let want := s.gateOpen n
  let s1 := if want = (s.port n).gate then s.gateBlame cause n
    else (s.modPort n fun p => { p with
      gate := want, gateCause := cause, gateAt := if want then none else some s.now }).event Src.whorl 0x44
        [(1, n), (1, want.toNat), (1, cause)]
  s1.updateEmission n

/-- Brings every port's gate and emission message up to date. -/
def updateGates (cause : Nat) (s : State) : State := s.each (List.range 8) fun n s => s.updateGate cause n

/-- Brings every port's emission message up to date. -/
def updateEmissions (s : State) : State := s.each (List.range 8) fun n s => s.updateEmission n

/-- Sets or clears an inhibit cause (bit of Table 16-7), with INHIBIT where the mask changes (spec 16 R386, R390). -/
def setInhibit (bit : Nat) (on : Bool) (s : State) : State :=
  let m : BitVec 9 := if on then s.whorl.inhibit ||| BitVec.ofNat 9 (2 ^ bit)
    else s.whorl.inhibit &&& ~~~ BitVec.ofNat 9 (2 ^ bit)
  if m = s.whorl.inhibit then s
  else
    let s1 := s.modWhorl fun w => { w with inhibit := m }
    (s1.event Src.whorl 0x41 [(2, s1.inhibitMask)]).updateGates 3

end State

end Sys2Proof.Machine
end

