-- ==== Sys2Proof/Machine/Responses.lean ====
section
/-! DEFINITION. The Dreid command front end (spec 15 R345-R360): acknowledgement checks, handles, acknowledgement and
completion entries. -/

namespace Sys2Proof.Machine

/-- An opcode with the device states that allow it and whether Distaff may be down (spec 15 Table 15-8). -/
structure OpRow where
  op : Nat
  states : List Nat
  down : Bool := false
  deriving DecidableEq, Repr

/-- The opcodes of the device states and of Distaff (spec 15 Table 15-8, file 15). -/
def opRows15 : List OpRow := [
  ⟨0x0F01, [3, 4, 5, 6, 7, 9], true⟩, ⟨0x0F02, [3], false⟩, ⟨0x0F03, [4], false⟩, ⟨0x0F04, [4], false⟩,
  ⟨0x0F05, [5, 6], false⟩, ⟨0x0F06, [5], false⟩, ⟨0x0F07, [6], false⟩, ⟨0x0F08, [9], false⟩,
  ⟨0x0F09, [3, 4, 9], false⟩, ⟨0x0F0A, [3, 4, 5, 6, 7, 9], false⟩, ⟨0x0F10, [3, 4, 5, 6, 7, 9], false⟩,
  ⟨0x0F11, [3, 4, 5, 6, 7, 9], false⟩, ⟨0x0F12, [3, 4, 5, 6, 7, 9], false⟩, ⟨0x0F13, [3, 4, 5, 6, 7, 9], false⟩,
  ⟨0x0F20, [3], false⟩, ⟨0x0F21, [3], false⟩, ⟨0x0F22, [3], false⟩, ⟨0x0F23, [3], false⟩, ⟨0x0F24, [3, 9], true⟩]

/-- The opcodes of files 3 to 9 (spec 15 Table 15-8). -/
def opRowsA : List OpRow := [
  ⟨0x0301, [3, 4, 5, 6, 7, 9], false⟩, ⟨0x0302, [3, 4, 5, 6, 7, 9], false⟩, ⟨0x0303, [3, 4, 5, 6, 7, 9], false⟩,
  ⟨0x0304, [3, 4, 5, 6, 7, 9], false⟩, ⟨0x0305, [3, 4], false⟩, ⟨0x0401, [3, 4, 5, 6], false⟩,
  ⟨0x0402, [3, 4, 5, 6, 7, 9], false⟩, ⟨0x0403, [3, 4, 5, 6], false⟩, ⟨0x0404, [3, 4, 5, 6], false⟩,
  ⟨0x0405, [3, 4], false⟩, ⟨0x0501, [3, 4, 5, 6, 7, 9], false⟩, ⟨0x0601, [3, 4, 5, 6, 9], false⟩,
  ⟨0x0602, [3, 4, 5, 6, 7, 9], false⟩, ⟨0x0701, [3, 4, 5, 6, 7, 9], false⟩, ⟨0x0702, [3, 4, 5, 6, 7], false⟩,
  ⟨0x0703, [3, 4, 5, 6, 7, 9], false⟩, ⟨0x0801, [3, 4, 5, 6, 7], false⟩, ⟨0x0802, [3, 4, 5, 6, 7, 9], false⟩,
  ⟨0x0901, [3, 4, 5, 6], false⟩, ⟨0x0902, [3, 4, 5, 6], false⟩]

/-- The opcodes of files 11 to 19 but 15 (spec 15 Table 15-8). -/
def opRowsB : List OpRow := [
  ⟨0x0B01, [4, 5, 6], false⟩, ⟨0x0B02, [4, 5, 6], false⟩, ⟨0x0B03, [4, 5, 6], false⟩,
  ⟨0x0B04, [3, 4, 5, 6, 7, 9], false⟩, ⟨0x0C01, [3, 4, 5, 6, 7, 9], false⟩, ⟨0x0C02, [3, 4, 5, 6, 7, 9], false⟩,
  ⟨0x0E01, [3, 4, 5, 6, 7, 9], false⟩, ⟨0x0E02, [3, 4, 5, 6, 7, 9], false⟩, ⟨0x0E03, [3, 4], false⟩,
  ⟨0x0E04, [3, 4], false⟩, ⟨0x0E05, [3], false⟩, ⟨0x1001, [3, 4, 5, 6, 7, 9], true⟩, ⟨0x1101, [3, 4], false⟩,
  ⟨0x1102, [3, 4, 5, 6, 7, 9], false⟩, ⟨0x1103, [3], false⟩, ⟨0x1104, [3], false⟩, ⟨0x1105, [3], false⟩,
  ⟨0x1201, [3, 4, 5, 6, 7, 9], false⟩, ⟨0x1202, [3, 4, 5, 6, 7, 9], true⟩, ⟨0x1301, [4, 5], false⟩,
  ⟨0x1302, [3, 4], false⟩, ⟨0x1303, [3, 4], false⟩]

/-- Table 15-8; state 0x8 admits no command (spec 15 R350), so it stands in no row. -/
def opTable : List OpRow := opRows15 ++ opRowsA ++ opRowsB

/-- The row of an opcode, none where it is not known. -/
def opRow (op : Nat) : Option OpRow := opTable.find? fun r => r.op == op

/-- Whether a device state admits an opcode. -/
def opAllowed (op : Nat) (d : DevState) : Bool := ((opRow op).map fun r => decide (d.code ∈ r.states)).getD false

/-- Whether an opcode is known on a path: LINK TEST STOP is one of the side port only (spec 15 Table 15-8). -/
def opKnown (op : Nat) (p : Path) : Bool := (opRow op).isSome && !(op = 0x0E04 && p = .link)

/-- The acknowledgement statuses (spec 15 Table 15-3). -/
inductive Ack where
  | accepted | wrongState (detail : Nat) | wrongArg (detail : Nat) | busy (detail : Nat) | unknown | malformed
  | down (cause : Nat)
  deriving DecidableEq, Repr

/-- The status code and the detail (spec 15 Table 15-3). -/
def Ack.codes : Ack → Nat × Nat
  | .accepted => (0, 0) | .wrongState d => (1, d) | .wrongArg d => (2, d) | .busy d => (3, d) | .unknown => (4, 0)
  | .malformed => (5, 0) | .down c => (6, c)

/-- A named line boundary as the header gives it (spec 15 Table 15-2). -/
def structureGood (h : Hdr) : Bool := 16 ≤ h.len && h.len ≤ 4096 && h.len % 8 = 0 && h.len = h.recv

namespace State

/-- The handles that have not yet been delivered (spec 15 R357). -/
def liveCount (s : State) : Nat := s.dist.live.length

/-- Whether a handle index is free. -/
def indexFree (s : State) (i : Nat) : Bool := !s.dist.live.any fun l => l.handle % 4096 = i

/-- The next free index after the last one issued, in rotating order (spec 15 R357). -/
def nextIndex (s : State) : Option Nat :=
  let start := match s.dist.lastIndex with | none => 0 | some i => i + 1
  ((List.range (min 4096 (s.liveCount + 1))).map fun k => (start + k) % 4096).find? s.indexFree

/-- The next generation of an index: 1 at first, then 2 to 15 and back to 1 (spec 15 R357). -/
def nextGeneration (s : State) (i : Nat) : Nat :=
  let g := Store.read 0 s.dist.generations i
  if g = 15 then 1 else g + 1

/-- Places an acknowledgement on its command's path (spec 15 R355, Table 15-4). -/
def ackWith (h : Hdr) (a : Ack) (handle : Nat) (s : State) : State :=
  let bytes := place 0 [(1, 1), (1, a.codes.1), (2, h.tag), (2, handle), (1, s.dev.code), (1, s.dist.load),
    (2, s.liveCount), (2, a.codes.2), (4, 0)]
  s.modDist fun d => { d with waiting := d.waiting ++ [⟨h.path, 0, true, bytes⟩] }

/-- Issues the handle for an accepted command. -/
def issue (op : Nat) (h : Hdr) (i : Nat) (s : State) : Nat × State :=
  let g := s.nextGeneration i
  let handle := i + 4096 * g
  (handle, s.modDist fun d => { d with
    lastIndex := some i
    generations := Store.write 0 d.generations i g
    live := d.live ++ [⟨handle, h.tag, op, h.path, d.arrivedAt, false, false⟩] })

/-- The live command of a handle that has not completed. -/
def liveOf (s : State) (handle : Nat) : Option Live :=
  s.dist.live.find? fun l => l.handle = handle && !l.completed

/-- A completion entry (spec 15 Table 15-5). -/
def completionBytes (s : State) (l : Live) (status detail flags : Nat) (boundary : Option LineTime)
    (result : List Byte) : List Byte :=
  let len := 32 + (result.length + 7) / 8 * 8
  place 0 [(1, 2), (1, status), (2, l.tag), (2, l.handle), (2, l.opcode), (2, len), (2, detail),
    (1, flagBit 0 l.late + 2 * flags), (1, s.dev.code), (2, 0),
    (4, min (2 ^ 32 - 1) ((s.now - l.at_) / us 1))]
  ++ le 8 ((boundary.map LineTime.field).getD 0) ++ [0, 0, 0, 0] ++ padTo (len - 32) result

/-- Completes a handle, once (spec 15 R360): the entry waits on its path; the handle stays live until delivery. -/
def completeWith (handle status detail flags : Nat) (boundary : Option LineTime) (result : List Byte) (s : State) :
    State :=
  match s.liveOf handle with
  | none => s
  | some l =>
    let bytes := s.completionBytes l status detail flags boundary result
    s.modDist fun d => { d with
      live := d.live.map fun x => if x.handle = handle then { x with completed := true } else x
      waiting := d.waiting ++ [⟨l.path, handle, false, bytes⟩] }

/-- SUCCESS with a result. -/
def succeed (handle : Nat) (result : List Byte) (s : State) : State := s.completeWith handle 0 0 0 none result

/-- FAILED with a detail. -/
def failed (handle detail : Nat) (s : State) : State := s.completeWith handle 1 detail 0 none []

/-- FAILED where no rule states the detail (DESIGN CHOICE, log 31). -/
def failedOpen (handle : Nat) (s : State) : State :=
  let (d, s1) := s.draw 65536
  s1.failed handle d

/-- ABORTED with a detail (spec 15 R360). -/
def aborted (handle detail : Nat) (s : State) : State := s.completeWith handle 2 detail 0 none []

/-- The frames in the intake once an entry of the oldest that holds one is taken: those before it held only its beginning
(spec 15 R356). -/
def lessEntry (l : List Nat) : List Nat :=
  match l.dropWhile fun n => n = 0 with
  | [] => []
  | n :: r => if n = 1 then r else (n - 1) :: r

/-- It is the turn of the command: its entry is the oldest of the intake, or it arrives as none waits (spec 15 R352, R356;
DESIGN CHOICE, log 155). -/
def itsTurn (s : State) (op : Nat) (h : Hdr) : Bool := s.dist.intake.head?.all fun a => a.op = op && a.hdr = h

/-- Takes the oldest entry out of the front end's intake, or notes that the command arrives now. -/
def takeIntake (s : State) : State :=
  match s.dist.intake with
  | [] => s.modDist fun d => { d with arrivedAt := s.now }
  | a :: rest => s.modDist fun d => { d with
      intake := rest, arrivedAt := a.at_, frames := if a.hdr.path = .link then lessEntry d.frames else d.frames }

/-- The verdict of checks 1 to 6 (spec 15 Table 15-3); in SELF-TEST every command is refused (R350). Here `check` gives
the command's own block-state, argument and resource checks. -/
def verdict (s : State) (op : Nat) (h : Hdr) (check : State → Ack) : Ack :=
  if s.dev = .selfTest then .wrongState 0
  else match (opRow op).filter fun _ => opKnown op h.path with
  | none => if structureGood h then .unknown else .malformed
  | some r =>
    if !structureGood h then .malformed
    else if !s.dist.up && !r.down then .down s.dist.downCause
    else if s.dev.code ∉ r.states then .wrongState 0
    else match check s with
      | .wrongState d => .wrongState d
      | .wrongArg d => .wrongArg d
      | a => if s.nextIndex.isNone then .busy 0 else a

/-- The oldest entry of the intake is answered by the front end alone where its opcode is not known (spec 15 R346, R354). -/
def answerFront (s : State) : State :=
  match s.dist.intake with
  | [] => s
  | a :: _ => s.cond (!opKnown a.op a.hdr.path) fun s =>
      s.takeIntake.ackWith a.hdr (s.verdict a.op a.hdr fun _ => .unknown) 0

/-- The front end answers the entries of unknown opcode that have come to the front. -/
def answerFronts (s : State) : State := s.each (List.range s.dist.intake.length) fun _ => answerFront

/-- A Dreid command: checked in its turn, and carried out where it is accepted, by an effect that acknowledges it (spec 15
R354, R356). -/
def commandLater (op : Nat) (h : Hdr) (check : State → Ack) (effect : Nat → State → State) (s : State) : State :=
  let s := s.answerFronts
  if !s.itsTurn op h then s
  else
    let s := s.takeIntake
    match s.verdict op h check, s.nextIndex with
    | .accepted, some i =>
      let (handle, s1) := s.issue op h i
      effect handle s1
    | a, _ => s.ackWith h a 0

/-- A Dreid command: checked, acknowledged, and carried out where it is accepted (spec 15 R354). -/
def command (op : Nat) (h : Hdr) (check : State → Ack) (effect : Nat → State → State) (s : State) : State :=
  s.commandLater op h check fun handle s => effect handle (s.ackWith h .accepted handle)

/-- The acknowledgement that BOARD SETTINGS owes on port `n` is made; where its sync has left, the command completes with it
(spec 04 R105). -/
def payAck (n : Nat) (s : State) : State :=
  match (s.port n).owed with
  | none => s
  | some (h, handle, _, lt, sent) =>
    ((s.modPort n fun p => { p with owed := none }).ackWith h .accepted handle).cond sent (completeWith handle 0 0 0 (some lt) [])

/-- BOARD SETTINGS that cannot be carried out any more and is not yet acknowledged is BUSY and holds no handle (spec 04
R105). -/
def busyAck (n : Nat) (s : State) : State :=
  match ((s.port n).owed.map fun x => (x.1, x.2.1)).orElse fun _ => (s.port n).asked.map fun q => (q.hdr, q.handle) with
  | none => s
  | some (h, handle) =>
    ((s.modPort n fun p => { p with owed := none, asked := none }).modDist fun d => { d with
      live := d.live.filter fun l => l.handle ≠ handle }).ackWith h (.busy 1) 0

/-- No check of the command's own. -/
def noCheck (_ : State) : Ack := .accepted

end State

end Sys2Proof.Machine
end

