-- ==== Sys2Proof/Machine/Filter.lean ====
section
/-! DEFINITION. From converter code to filter output (spec 06 R146, 07 R167-R175), the marks of Table 7-6 and the
validity they give samples and outputs (spec 07 R187-R189). A raw converter operand is the stage's code, plus 256
where the sample carries the over-range flag (R149; DESIGN CHOICE, log 14); the lists run from the newest sample back. -/

namespace Sys2Proof.Machine

/-- Ticks of one full-rate sample, 0.5 ns. -/
def sample : Tick := 2048

/-! ## Coefficient sets -/

/-- The built-in reduced set (spec 07 R174). -/
def reducedSet : CoefSet := { mode := 2, coefs := [256], shift := 8, delay := 8448 }

/-- The effective length E in full-rate samples (spec 07 Table 7-1). -/
def CoefSet.span (c : CoefSet) : Nat :=
  match c.mode with
  | 0 => c.coefs.length
  | 1 => 2 * c.coefs.length + 22
  | _ => 4 * c.coefs.length + 66

/-- The output period in ticks: 0.5, 1 or 2 ns. -/
def CoefSet.period (c : CoefSet) : Tick := sample * 2 ^ min c.mode 2

/-- The marks' extension, E + 24 full-rate samples (spec 07 R169). -/
def CoefSet.tail (c : CoefSet) : Tick := sample * (c.span + 24)

/-- The active copy of a bank (spec 07 R173). -/
def Bank.active (b : Bank) : CoefSet := if b.activeB then b.copyB else b.copyA

/-- The set that forms a bank's outputs: the unit set while a calibration forces it (spec 19 R448), the reduced set while
it is forced (spec 07 R174). -/
def Bank.inForce (b : Bank) : CoefSet := if b.unitForced then {} else if b.forced then reducedSet else b.active

/-- What a load refuses (spec 07 R172): true where the image has no defect. -/
def imageGood (i : CoefImage) : Bool :=
  i.format = 1 && i.mode ≤ 2 && 1 ≤ i.taps && i.taps ≤ nth 0 [128, 256, 384] i.mode && i.shift ≤ 15
  && i.coefs.length = i.taps && i.coefs.all (fun c => -512 ≤ c && c ≤ 511)
  && (if i.phase = 0 then
        i.coefs.reverse = i.coefs
        && i.delay = nth 0 [128 * (i.taps - 1), 256 * (i.taps + 10), 256 * (2 * i.taps + 31)] i.mode
      else i.delay ≤ 256 * ({ mode := i.mode, coefs := i.coefs } : CoefSet).span)

/-- The set an image spells. -/
def imageSet (i : CoefImage) : CoefSet := ⟨i.mode, i.phase, i.coefs, i.shift, i.delay, i.tag⟩

/-! ## The converter and the matched filter -/

/-- The code that a raw operand stands for: a flagged sample's is 255 or 0 (spec 06 R149). -/
def rawCode (raw : Nat) : Nat := if raw < 256 then raw else if 128 ≤ raw % 256 then 255 else 0

/-- The corrected code of a stage (spec 06 R146) from its raw output, offset and gain fields. -/
def correct (raw : Nat) (o g : Int) : Int :=
  clampInt 0 255 (roundDiv ((16 * (rawCode raw : Nat) + o - 2040) * (4096 + g) + 8355840) 65536)

/-- The value of a setting at instant `x`: the present one, or the one that stood before the first change after `x`. Changes
are listed newest first, with the value before each. -/
def asOf {α : Type} (now : α) (past : List (Tick × α)) (x : Tick) : α :=
  past.foldl (fun v p => if x < p.1 then p.2 else v) now

/-- Adds a change to a history. Changes of the last 200 us are kept, all of them where `all` says so (DESIGN CHOICE, log
46). -/
def remember {α : Type} (now : Tick) (old : α) (all : Bool) (past : List (Tick × α)) : List (Tick × α) :=
  (now, old) :: past.filter fun p => all || decide (now ≤ p.1 + us 200)

/-- One output of the matched filter and scaler from inputs at its rate, newest first, with whether it saturated
(spec 07 R170). -/
def filterOut (c : CoefSet) (u : List Int) : Int × Bool :=
  let full := (List.zipWith (· * ·) c.coefs u).sum
  let acc := clampInt (-8388608) 8388607 full
  let sh := if c.shift = 0 then acc else (acc + 2 ^ (c.shift - 1)) / 2 ^ c.shift
  let y := clampInt (-32768) 32767 sh
  (y, acc ≠ full || y ≠ sh)

/-- A half-band decimator stage (spec 07 R168): every second of its outputs, from the newest input on. -/
def halve (x : List Int) : List Int :=
  (List.range ((x.length + 1) / 2)).map fun i => clampInt (-16) 239 (Config.halfBand ((x.drop (2 * i)).take 23))

/-- The inputs at the matched-filter rate of a mode, from full-rate inputs whose newest stands at a position that the
decimators keep (spec 07 R168). -/
def decimate (mode : Nat) (x : List Int) : List Int :=
  match mode with
  | 0 => x
  | 1 => halve x
  | _ => halve (halve x)

/-- An output of the filter chain: its newest-input instant, its value, and whether it saturated (spec 07 R170, R171). -/
structure Out where
  at_ : Tick := 0
  y : Int := 0
  sat : Bool := false
  deriving DecidableEq, Repr, Inhabited

/-- An interpolated fraction num / den in 1/256, clamped to lo .. hi (spec 07 R180). -/
def fraction (num den lo hi : Int) : Int :=
  if den = 0 then 0
  else clampInt lo hi (roundDiv (256 * num * den.sign) den.natAbs)

/-! ## Marks -/

/-- A mark that acts on filter outputs only (spec 07 Table 7-6: fallback return, coefficient swap). -/
def MarkKind.outputOnly (k : MarkKind) : Bool := k = .fallback || k = .swap

/-- The mark bears on the span from `a` to `b`. -/
def Mark.hits (m : Mark) (a b : Tick) : Bool := m.start ≤ b && (m.stop.all fun e => decide (a < e))

/-- The code an input sample at `x` bears: the highest of its marks (spec 05 R128, 07 R189). -/
def marksAt (ms : List Mark) (x : Tick) : Nat :=
  ms.foldl (fun v m => if !m.kind.outputOnly && m.hits x x then max v m.code else v) 0

/-- The code of filter outputs whose newest inputs lie from `a` to `b`, formed with a tail of `tail` (spec 07 R187,
R188). -/
def marksOut (ms : List Mark) (tail a b : Tick) : Nat :=
  ms.foldl (fun v m =>
    if (if m.kind.outputOnly then m.hits a b else m.hits (a - tail) b) then max v m.code else v) 0

/-- Starts a mark: one of its kind that still runs goes on without a break (spec 07 R189); marks that ended 100 us ago go,
but for those that ended after `keep` (DESIGN CHOICE, log 46). -/
def addMark (keep : Option Tick) (k : MarkKind) (code : Nat) (start : Tick) (stop : Option Tick) (ms : List Mark) :
    List Mark :=
  let runs := fun (m : Mark) => m.kind = k && m.stop.all fun e => decide (start ≤ e)
  let first := (ms.filter runs).foldl (fun a m => min a m.start) start
  ms.filter (fun m => !runs m && m.stop.all fun e => decide (start < e + us 100) || keep.any fun x => decide (x ≤ e))
    ++ [⟨k, code, first, stop⟩]

/-- Ends the running marks of a kind at `x`. -/
def endMark (k : MarkKind) (x : Tick) (ms : List Mark) : List Mark :=
  ms.map fun m => if m.kind = k ∧ m.stop = none then { m with stop := some x } else m

/-- A group is armed: it writes, or makes ready to write its next segment (spec 11 Table 11-6). -/
def GroupState.busy (g : GroupState) : Bool := !(g = .idle || g = .done || g = .stopped)

/-- How much of the time from `a` to `b` is free of marks. -/
def clearTime (ms : List Mark) (a b : Tick) : Tick :=
  let runs := sortBy (fun x y => decide (x.1 ≤ y.1)) (ms.filterMap fun m =>
    if m.kind.outputOnly then none else
      let x := max a m.start
      let y := min b (m.stop.getD b)
      if x < y then some (x, y) else none)
  let e := runs.foldl (fun (acc : Tick × Tick) r =>
    (acc.1 + (r.1 - acc.2), max acc.2 r.2)) (0, a)
  e.1 + (b - e.2)

namespace State

/-- The receive mode in force: 0 waveform with TDC, 1 TDC-only, 2 charge-integrating fallback (spec 01 R24, 05 R131). -/
def modeOf (s : State) (c : Nat) : Nat :=
  if (s.chan c).fe.fallback then 2 else s.popt Par.receiveMode c

/-- Background tracking runs on the channel (spec 06 R147, R151). -/
def tracks (s : State) (c : Nat) : Bool := s.modeOf c = 0 && s.popt Par.tracking c = 1

/-- The channel belongs to an armed capture group: its histories are kept for the words that still have to be written
(spec 11 R260). -/
def capturing (s : State) (c : Nat) : Bool :=
  s.groups.any fun g => g.2.state.busy && g.2.params.any fun p => p.channels.getLsbD c

/-- Since when the marks of a channel are kept: for the words of a capture, and for the samples of its tracking block
(spec 11
R260, 06 R147; DESIGN CHOICE, log 46). -/
def marksFrom (s : State) (c : Nat) : Option Tick :=
  if s.capturing c then some 0 else if s.tracks c then some (s.chan c).fe.trackFrom else none

/-- Every mark that bears on a channel. -/
def marksOf (s : State) (c : Nat) : List Mark := (s.chan c).marks ++ (s.bank (c / 16)).marks ++ s.marks

/-- The set that forms a channel's outputs. -/
def setOf (s : State) (c : Nat) : CoefSet := (s.bank (c / 16)).inForce

/-- The validity of a sample of channel `c` at instant `x`. -/
def validAt (s : State) (c : Nat) (x : Tick) : Nat := marksAt (s.marksOf c) x

/-- Starts a mark on a channel. -/
def markChan (c : Nat) (k : MarkKind) (code : Nat) (stop : Option Tick) (s : State) : State :=
  s.modChan c fun ch => { ch with marks := addMark (s.marksFrom c) k code s.now stop ch.marks }

/-- Starts a mark on a bank. -/
def markBank (b : Nat) (k : MarkKind) (code : Nat) (stop : Option Tick) (s : State) : State :=
  let keep := (((List.range 16).filterMap fun i => s.marksFrom (16 * b + i)).foldl
    (fun (m : Option Tick) x => some (min x (m.getD x))) none)
  s.modBank b fun x => { x with marks := addMark keep k code s.now stop x.marks }

/-- The range code in force on a channel at instant `x` (spec 05 R122). (DESIGN CHOICE, log 46.) -/
def rangeAt (s : State) (c : Nat) (x : Tick) : Nat := asOf (s.chan c).fe.range (s.chan c).fe.past x

/-- The set that forms a channel's outputs of newest-input instant `x` (spec 01 R16). -/
def setAt (s : State) (c : Nat) (x : Tick) : CoefSet := asOf (s.setOf c) (s.bank (c / 16)).olds x

/-- A listening window is open on the channel at `x` (spec 03 R72). -/
def inWindow (s : State) (c : Nat) (x : Tick) : Bool := (s.chan c).wins.any fun w => w.1 ≤ x && x < w.2

/-- The number of the sample at instant `x`, and its stage (spec 06 R143). -/
def sampleNo (s : State) (x : Tick) : Nat := s.devTime x / sample

/-- The stage of the sample at instant `x` (spec 06 R143). -/
def stageAt (s : State) (x : Tick) : Nat := s.sampleNo x % 8

/-- The corrected code of a channel's sample at instant `x` (spec 06 R146). -/
def corrected (s : State) (c : Nat) (x : Tick) (raw : Nat) : Int :=
  let v := Store.read (0, 0, 0) (asOf (s.chan c).fe.inter (s.chan c).fe.interPast x) (s.stageAt x)
  correct raw v.1 v.2.1

/-- The filter inputs of a channel's raw codes, newest first from instant `x`: corrected codes less the baseline 16 (spec 07
R167). -/
def inputs (s : State) (c : Nat) (x : Tick) (raw : List Nat) : List Int :=
  raw.mapIdx fun i r => s.corrected c (x - sample * i) r - 16

/-- An output of set `set` has its newest input at instant `x`: at the positions that the decimators keep (spec 07 R168). -/
def outputFalls (s : State) (set : CoefSet) (x : Tick) : Bool := s.sampleNo x % 2 ^ min set.mode 2 = 0

/-- The filter outputs of a channel's raw codes, newest first from instant `x`, each formed by the set of its instant
(spec 01 R16, 07 R168, R170). -/
def outs (s : State) (c : Nat) (x : Tick) (raw : List Nat) : List Out :=
  let u := s.inputs c x raw
  (List.range raw.length).filterMap fun i =>
    let a := x - sample * i
    let set := s.setAt c a
    if s.outputFalls set a then
      let y := filterOut set (decimate set.mode (u.drop i))
      some ⟨a, y.1, y.2⟩
    else none

/-- The validity of an output (spec 07 R187, R188). -/
def outValidity (s : State) (c : Nat) (o : Out) : Nat := marksOut (s.marksOf c) (s.setAt c o.at_).tail o.at_ o.at_

/-- An output formed from a flagged sample, or saturated, is over-range (spec 07 R170, R187); `raw` runs from instant `x`. -/
def outOver (s : State) (c : Nat) (x : Tick) (raw : List Nat) (o : Out) : Bool :=
  o.sat || ((raw.drop ((x - o.at_) / sample)).take ((s.setAt c o.at_).span + 25)).any fun r => decide (256 ≤ r)

/-- The range tag of an output: that of its centre input (spec 07 R187). -/
def outTag (s : State) (c : Nat) (o : Out) : Nat :=
  s.rangeAt c (o.at_ - sample * (((s.setAt c o.at_).delay + 128) / 256))

/-- An input-referred stamp (spec 07 R175): `t` is a newest-input instant, `q` a fraction in 1/256 output sample. -/
def digitalStamp (s : State) (c : Nat) (t : Tick) (q : Int) : Tick :=
  let set := s.setAt c t
  let off := ((Store.read none s.cal.tables.timing c).getD 0)
  ((t : Int) + q * (8 * 2 ^ min set.mode 2 : Nat) - 8 * set.delay - off).toNat

end State

end Sys2Proof.Machine
end

