-- ==== Sys2Proof/Machine/Spindle.lean ====
section
/-! DEFINITION. Spindle (spec 02): acquisition, the loop, holdover, frames, FRAME_ACK, the warm flag and scanners. -/

namespace Sys2Proof.Machine

namespace State

/-! ## Flyers that follow Spindle (spec 03 R75) -/

/-- The first frame whose origin lies at or after instant `x`: a positive line origin offset may put the origin of a frame
that has started ahead; else one of those to come (spec 02 R38, R40). -/
def firstOrigin (s : State) (x : Tick) : Nat :=
  let p := s.spindle
  let off := (s.param Par.lineOffset 0).num
  let begun := (List.range 129).reverse.find? fun k =>
    let f := (p.frame + 2 ^ 32 - k) % 2 ^ 32
    (Store.read {} p.frames f).begun && decide ((fine x : Int) ≤ s.frameOrigin f)
  match begun with
  | some k => (p.frame + 2 ^ 32 - k) % 2 ^ 32
  | none =>
    let (origin, f, per, len) := match s.turnAt off x with
      | some t => (t.origin, t.frame, t.period, t.lines * t.period)
      | none => (s.strobeInstant p.nextFrame 0, p.nextFrame, s.linePeriod, p.lines * p.period / s.lineDiv)
    let need := (fine x : Int) - origin - off * per / 65536
    (f + ((need + len - 1) / max 1 len).toNat) % 2 ^ 32

/-- Line 0 of the first frame, no earlier than `start` where one is named, whose origin is at least 8.192 us after the
present instant (spec 03 R75). -/
def placeFrame (s : State) (start : Option Nat) : Nat :=
  let first := s.firstOrigin (s.now + ns 8192)
  match start with
  | some f => if s.spindle.ahead first ≤ s.spindle.ahead f then f else first
  | none => first

/-- A Flyer at program counter 0 with its pointer placed, WAITING (spec 03 R75). -/
def placeFlyer (b : Nat) (start : Option Nat) (s : State) : State :=
  let f := s.placeFrame start
  s.modFlyer b fun y => { y with
    state := .waiting, pc := 0, loops := [], issued := [], frame := f, line := 0, placed := true }

/-- Line time has begun: HELD Flyers restart and WAITING ones that are not placed are placed (spec 03 R75). -/
def resumeFlyers (s : State) : State :=
  s.each (List.range 16) fun b s =>
    let f := s.flyer b
    if f.state = .held then s.placeFlyer b none
    else if f.state = .waiting ∧ !f.placed then s.placeFlyer b (some f.frame)
    else s

/-- Line time has gone: RUNNING and placed WAITING Flyers are HELD (spec 03 R75). -/
def holdFlyers (s : State) : State :=
  s.each (List.range 16) fun b s =>
    let f := s.flyer b
    if f.state = .running ∨ (f.state = .waiting ∧ f.placed) then
      s.modFlyer b fun f => { f with state := .held, issued := [] }
    else s

/-- The line time of the shot that a Flyer is to commit next. -/
def headTime (f : Flyer) : Option LineTime :=
  f.issued.head?.map fun x => ⟨x.frame, x.line, bits x.desc.toNat 0 16⟩

/-- The planned instant of a Flyer's next shot and whether it was computed in HOLDOVER (spec 03 R74, 02 R50). -/
def planOf (s : State) (b : Nat) : Option (Tick × Bool) :=
  (headTime (s.flyer b)).map fun lt =>
    (s.flyer b).plan.getD (s.plannedInstant lt, decide (s.spindle.state = .holdover))

/-- Flyers whose next shot has come within the horizon of 8.192 us have computed its planned instant by the prediction as it
stands, which is about to change (spec 03 R74, 02 R51). (DEDUCED, log 143.) -/
def fixPlans (s : State) : State :=
  s.cond s.spindle.hasTime fun s => s.each (List.range 16) fun b s =>
    match s.planOf b with
    | some x => s.cond (decide (x.1 ≤ s.now + ns 8192)) (modFlyer b fun f => { f with plan := some x })
    | none => s

/-! ## State changes, frames and events -/

/-- Marks once that the present frame has ended (spec 02 R64). -/
def endFrame (s : State) : State :=
  let y := Store.read {} s.spindle.frames s.spindle.frame
  s.cond (y.begun && !y.past) (tally s.spindle.frame fun y => { y with past := true })

/-- Changes Spindle's state; where line time ends, the last line time is kept and the frame in progress ends (spec 02 R60,
R62, R64). -/
def setSpindle (st : SpState) (s : State) : State :=
  let lt := s.lineTime
  let old := s.spindle.hasTime
  let s1 := s.modSpindle fun p => { p with
    state := st, changed := true
    last := if p.hasTime then lt else p.last }
  s1.cond (old && !s1.spindle.hasTime) endFrame

/-- NO DEPTH for each frame answered with depth that stops ranging before its end (spec 02 Table 2-5). -/
def noDepth (cause : Nat) (s : State) : State :=
  (s.each s.spindle.depth fun f s => s.event Src.spindle 0x2B [(4, f), (8, s.lineTime.field), (1, cause)]).modSpindle
    fun p => { p with depth := [] }

/-- TIME PAIR for a frame that starts (spec 02 R60): `origin` is the frame's origin in 2^-24 ns. -/
def timePair (f : Nat) (origin : Int) (s : State) : State :=
  let p := s.spindle
  if p.hasTime && (p.changed || p.timePairAt.all fun t => decide (t + ns (2 ^ 20) ≤ s.now)) then
    (s.event Src.spindle 0x26 [(4, f), (8, s.devField (origin / 4096).toNat)]).modSpindle
      fun p => { p with timePairAt := some s.now, changed := false }
  else s

/-- Frame `f` starts at strobe instant `at_`: its number is taken, a pending load is spent and depth answers to earlier
frames lapse (spec 02 R36, R60). -/
def beginFrame (f : Nat) (at_ : Int) (s : State) : State :=
  let origin := at_ + (s.param Par.lineOffset 0).num * s.linePeriod / 65536
  let s := s.endFrame
  ((s.modSpindle fun p => { p with
    frame := f, line := 0, load := none, numbered := true
    depth := p.depth.filter fun d => d = f }).tally f fun y => { y with begun := true, past := false }).timePair f origin

/-- The tracked edge at the present `phase` is line 0 of a new frame. -/
def gridFrame (s : State) : State :=
  let n := s.spindle.nextFrame
  let s1 := if s.spindle.frame = n ∧ s.spindle.frame ≠ s.spindle.gridFrame then s
    else s.beginFrame n s.spindle.phase
  s1.modSpindle fun p => { p with gridFrame := n, gridLine := 0, restart := none }

/-- Whether an edge at `t` is line 0 by a FRAME_STROBE accepted at least 5 ns before (spec 02 R33). -/
def frameDue (s : State) (t : Tick) : Bool := s.spindle.restart.any fun r => decide (r + ns 5 ≤ t)

/-- Timing mode: 0 strobe, 1 interpolated, 2 free-running. -/
def timingMode (s : State) : Nat := s.popt Par.timingMode 0

/-- A period meets the rate limit of the timing mode (spec 02 R40). -/
def rateGood (s : State) (period : Nat) : Bool :=
  if s.timingMode = 1 then 4000 * 2 ^ 24 ≤ period && 5 * s.spindle.lines * 2 ^ 24 ≤ period else 40 * 2 ^ 24 ≤ period

/-- The acceptance window on each side of a prediction, 2^-24 ns (spec 02 R43). -/
def acceptance (s : State) : Nat := min (s.spindle.period / 4) ((if s.timingMode = 1 then 1000 else 200) * 2 ^ 24)

/-- The instant at which Spindle predicts the next tracked edge, 2^-24 ns: a period after the last accepted edge in
ACQUIRING, else after the phase that the loop holds (spec 02 R43, R45). -/
def predicted (s : State) : Nat :=
  (if s.spindle.state = .acquiring then s.spindle.edge else s.spindle.phase) + s.spindle.period

/-- The phase error of an edge at `t` against prediction, 2^-24 ns. -/
def phaseError (s : State) (t : Tick) : Int := (fine t : Int) - s.predicted

/-- Within `ps` picoseconds. -/
def within (e : Int) (ps : Nat) : Bool := e.natAbs * 1000 ≤ ps * 2 ^ 24

/-- RATE FAULT with the period that breaks the limit (spec 02 R40). -/
def rateFault (period : Nat) (s : State) : State := s.event Src.spindle 0x2A [(8, period)]

/-- Discards the seed: seeding starts again, from `c` where an edge is a first candidate (spec 02 R45). -/
def discardSeed (c : Option Tick) (s : State) : State :=
  s.modSpindle fun p => { p with seeded := false, candidate := c, run := 0, strayRun := 0 }

/-- Spindle enters ACQUIRING (spec 02 R44); without line boundaries to come, no acknowledgement waits for one. -/
def enterAcquiring (s : State) : State :=
  ((((s.each (List.range 8) payAck).setSpindle .acquiring).discardSeed none).modSpindle fun p => { p with
    frameSeen := false, restart := none, coasting := false, coast := 0, stepCount := 0, freePending := [] }).holdFlyers

/-- Spindle declares LOST, then enters ACQUIRING (spec 02 R48). -/
def declareLost (cause : Nat) (s : State) : State :=
  let n := (s.cancellable fun _ => true).length
  let lt := s.lineTime
  let s1 := (((s.cancel (fun _ => true) 0x22).setSpindle .lost).setFlag 6).event Src.spindle 0x23
    [(1, cause), (8, lt.field), (2, min n 65535)]
  (s1.noDepth 1).enterAcquiring

/-- Spindle enters HOLDOVER (spec 02 R46). -/
def enterHoldover (cause : Nat) (s : State) : State :=
  (((s.setSpindle .holdover).modSpindle fun p => { p with coast := 0, coasting := false, stepCount := 0 }).setFlag
    7).event Src.spindle 0x21 [(1, cause), (8, s.lineTime.field)]

/-- The number the frame in progress takes at LOCK (spec 02 R36). -/
def firstNumber (s : State) : Nat :=
  s.spindle.load.getD (if s.spindle.numbered then (s.spindle.frame + 1) % 2 ^ 32 else 0)

/-- ACQUIRING goes to LOCKED: the frame in progress takes its number and the Flyers resume (spec 02 R36, R44). A frame that
started before LOCK, be it by the locking strobe, has no TIME PAIR; one whose line 0 is still to come starts in LOCKED
(DESIGN CHOICE, log 117). -/
def lock (s : State) : State :=
  let n := s.firstNumber
  let g := if s.spindle.restart.isSome then (n + 2 ^ 32 - 1) % 2 ^ 32 else n
  let s1 := ((s.setSpindle .locked).modSpindle fun p => { p with
    gridFrame := g, frame := g, line := p.gridLine, load := none, numbered := true, run := 0 }).cond
      s.spindle.restart.isNone (tally n fun y => { y with begun := true })
  (s1.event Src.spindle 0x20 [(4, n), (8, s1.linePeriod)]).resumeFlyers

/-- Spindle's loop: a confirmation corrects phase, and period where `both` holds (spec 02; DESIGN CHOICE, log 10). -/
def confirm (t : Tick) (both : Bool) (s : State) : State :=
  let e := s.phaseError t
  let b := s.pnum Par.loopConstant 0
  let c := if e = 0 then (0, 0) else Config.loopCorrection b e
  let pred := s.predicted
  s.modSpindle fun p => { p with
    phase := ((pred : Int) + c.1).toNat, edge := fine t
    period := if both then ((p.period : Int) + c.2).toNat else p.period }

/-- The phase steps to an edge (spec 02 R47). -/
def stepPhase (t : Tick) (s : State) : State :=
  let e := s.phaseError t
  s.modSpindle fun p => { p with
    phase := fine t, edge := fine t, phaseErr := e, coastAtStep := p.coast, coasting := false, stepCount := 1 }

/-- A stray edge: counted; 16 in a row discard a seed or lose the line (spec 02 R43, R45, R48). -/
def strayEdge (s : State) : State :=
  let s1 := s.modSpindle fun p => { p with strays := (p.strays + 1) % 2 ^ 32, strayRun := p.strayRun + 1 }
  if s1.spindle.strayRun < 16 then s1
  else if s1.spindle.state = .acquiring then s1.discardSeed none
  else s1.declareLost 1

/-- The declared lines have passed and no FRAME_STROBE has arrived (spec 02 R46). -/
def frameOver (s : State) : Bool := s.spindle.restart.isNone && s.spindle.gridLine + 1 = s.spindle.lines

/-- Advances the tracked line by the accepted edge at `t`: line 0 by R33, by the frame strobe that is the edge, or by the
predicted frame start (spec 02 R33, R37, R46). -/
def advanceLine (t : Tick) (s : State) : State :=
  if s.timingMode = 1 || s.frameDue t || (s.spindle.hasTime && s.frameOver) then
    if s.spindle.hasTime then s.gridFrame
    else s.modSpindle fun p => { p with gridLine := 0, restart := none }
  else
    let s1 := s.modSpindle fun p => { p with gridLine := p.gridLine + 1 }
    if s1.spindle.hasTime ∧ s1.spindle.frame = s1.spindle.gridFrame then
      s1.modSpindle fun p => { p with line := p.gridLine }
    else s1

/-- An edge that is the first candidate of a pair; it is a line all the same (spec 02 R37, R45). -/
def firstCandidate (t : Tick) (s : State) : State := (s.discardSeed (some t)).advanceLine t

/-- A tracked edge in ACQUIRING (spec 02 R44, R45). -/
def acquireEdge (t : Tick) (s : State) : State :=
  let p := s.spindle
  if !p.seeded then
    match p.candidate with
    | none => s.firstCandidate t
    | some c =>
      let d := fine t - fine c
      if s.rateGood d then
        (s.modSpindle fun p => { p with
          seeded := true, candidate := none, period := d, phase := fine t, edge := fine t, run := 0
          strayRun := 0 }).advanceLine t
      else (s.rateFault d).firstCandidate t
  else
    let e := s.phaseError t
    if s.acceptance < e.natAbs then s.strayEdge
    else
      let s := s.modSpindle fun p => { p with strayRun := 0 }
      if within e 250 then
        let s1 := ((s.confirm t true).modSpindle fun p => { p with
          run := if s.timingMode = 0 ∧ !p.frameSeen then p.run else p.run + 1 }).advanceLine t
        if (if s.timingMode = 0 then 64 else 4) ≤ s1.spindle.run then s1.lock else s1
      else
        let d := fine t - p.edge
        let s := s.cond (!within e 450) fun s => s.modSpindle fun p => { p with
          excursions := (p.excursions + 1) % 2 ^ 32 }
        if s.rateGood d then
          (s.modSpindle fun p => { p with phase := fine t, edge := fine t, period := d, run := 0 }).advanceLine t
        else (s.rateFault d).firstCandidate t

/-- HOLDOVER returns to LOCKED at the seventh good edge after the step (spec 02 R47). -/
def exitHoldover (s : State) : State :=
  if s.spindle.stepCount < 8 then s
  else (s.setSpindle .locked).event Src.spindle 0x22
    [(4, twos 4 (roundDiv s.spindle.phaseErr 65536)), (2, min s.spindle.coastAtStep 65535)]

/-- A tracked edge in LOCKED or HOLDOVER (spec 02 R43, R46-R48). HOLDOVER entered by an edge that is an excursion and finds
FRAME_STROBE missing too names the excursion (DESIGN CHOICE, log 117). -/
def followEdge (t : Tick) (s : State) : State :=
  let e := s.phaseError t
  if s.acceptance < e.natAbs then s.strayEdge
  else
    let good := within e 450
    let s := s.modSpindle fun p => { p with
      strayRun := 0, excursions := if good then p.excursions else (p.excursions + 1) % 2 ^ 32 }
    let missFrame := s.timingMode = 0 && s.frameOver
    let s := s.cond missFrame fun s => s.modSpindle fun p => { p with missings := (p.missings + 1) % 2 ^ 32 }
    if s.spindle.state = .locked then
      if good && !missFrame then
        let s1 := (s.confirm t true).advanceLine t
        if s1.rateGood s1.spindle.period then s1 else (s1.rateFault s1.spindle.period).declareLost 2
      else ((s.enterHoldover (if good then 1 else 2)).stepPhase t).advanceLine t
    else if good && !missFrame && s.spindle.stepCount ≠ 0 then
      (((s.confirm t false).modSpindle fun p => { p with stepCount := p.stepCount + 1 }).advanceLine t).exitHoldover
    else (s.stepPhase t).advanceLine t

/-- An edge of the strobe that Spindle tracks. (DEDUCED, log 38.) -/
def trackEdge (t : Tick) (s : State) : State :=
  let s := s.fixPlans
  match s.spindle.state with
  | .acquiring => s.acquireEdge t
  | .locked => s.followEdge t
  | .holdover => s.followEdge t
  | _ => s

/-- How many line instants of the tracked grid lie after instant `x` and no later than `y` (both in 2^-24 ns). -/
def linesBetween (s : State) (x y : Nat) : Nat :=
  let k := fun (t : Nat) => ((t : Int) - s.spindle.phase) * s.lineDiv / max 1 s.spindle.period
  (k y - k x).toNat

/-- Lines coast from instant `x` to the present one: each line after `x` counts (spec 02 R46). -/
def coastOn (x : Nat) (s : State) : State :=
  let n := s.linesBetween x (fine s.now)
  s.modSpindle fun p => { p with coast := p.coast + n, coastTo := fine s.now }

/-- The expected edge is missing (spec 02 R43, R45, R46, R48): prediction takes its place and coasting counts, from the line
of that edge on; in interpolated mode the lines since then have passed already. -/
def missingEdge (s : State) : State :=
  let s := s.fixPlans.modSpindle fun p => { p with missings := (p.missings + 1) % 2 ^ 32 }
  let pred := s.predicted
  if s.spindle.state = .acquiring then (s.discardSeed none).advanceLine (pred / 4096)
  else
    let s := s.cond (s.spindle.state = .locked) fun s => s.enterHoldover (if s.timingMode = 1 then 1 else 0)
    let s1 := if s.timingMode = 1 then s.coastOn (if s.spindle.coasting then s.spindle.coastTo else pred - 1)
      else s.modSpindle fun p => { p with coast := p.coast + 1 }
    let s2 := (s1.modSpindle fun p => { p with phase := pred, coasting := true, stepCount := 0 }).advanceLine (pred / 4096)
    if s.pnum Par.holdoverCount 0 < s2.spindle.coast then s2.declareLost 0 else s2

/-! ## FRAME_STROBE, FRAME_ACK and frame length -/

/-- A Flyer has an active shot table for frame `f`: RUNNING, or WAITING from a frame no later than `f` (spec 02 R34;
DEDUCED, log 15). -/
def activeFor (s : State) (f : Nat) : Bool :=
  (List.range 16).any fun b =>
    let y := s.flyer b
    y.state = .running || (y.state = .waiting && y.placed && decide (s.spindle.ahead y.frame ≤ s.spindle.ahead f))

/-- Whether FRAME_ACK answers depth (spec 02 R34). -/
def answersDepth (s : State) (f : Nat) : Bool :=
  s.dev = .ranging && (s.spindle.state = .locked || s.spindle.state = .holdover) && !s.inhibited && s.activeFor f

/-- The answer owed to an accepted FRAME_STROBE edge, decided at the edge (spec 02 R34, R35). -/
def oweAck (f : Nat) (s : State) : State :=
  let d := s.answersDepth f
  s.cond s.dev.fromSafe fun s => s.modSpindle fun p => { p with
    ack := some (s.now, d), depth := p.depth.filter (fun x => x ≠ f) ++ if d then [f] else [] }

/-- FRAME LENGTH with its cancellations (spec 02 R49): `n` lines were seen in the frame that ends. A shot that waits for
its commit is planned again from here on (03 R74). -/
def frameLengthEvent (n : Nat) (s : State) : State :=
  let f := s.spindle.frame
  let hit := fun (e : Entry) => (e.lt.frame = f && n ≤ e.lt.line) || decide (0 < s.spindle.ahead e.lt.frame)
  let k := (s.cancellable hit).length
  let s1 := s.each (List.range 16) fun b s => s.cond ((s.flyer b).issued ≠ []) (modFlyer b fun f => { f with
    headAt := s.now, plan := none })
  (s1.cancel hit 0x23).event Src.spindle 0x24 [(2, n), (2, s.spindle.lines), (2, min k 65535)]

/-- Lines seen in the present frame at an instant: the tracked line and those predicted after it. -/
def linesSeen (s : State) (t : Tick) : Nat :=
  let p := s.spindle
  if p.frame ≠ p.gridFrame then p.line + 1
  else p.gridLine + 1 + (fine t - p.phase) / max 1 p.period

/-- A FRAME_STROBE edge in strobe mode (spec 02 R33, R37, R41, R49). -/
def frameStrobe (t : Tick) (s : State) : State :=
  if s.spindle.lastFrameEdge.any fun l => decide (t < l + ns 4000) then
    s.modSpindle fun p => { p with strays := (p.strays + 1) % 2 ^ 32 }
  else
    let s := s.fixPlans.modSpindle fun p => { p with lastFrameEdge := some t }
    let n := s.linesSeen t
    let s := s.cond (s.spindle.hasTime && n ≠ s.spindle.lines) fun s => s.frameLengthEvent n
    let s := s.oweAck s.spindle.nextFrame
    s.modSpindle fun p => { p with
      restart := some t, frameSeen := true
      run := if p.state = .acquiring ∧ !p.frameSeen then 0 else p.run }

/-- A rising edge on FRAME_STROBE in the timing mode in force (spec 02 R33, R40). -/
def frameEdge (t : Tick) (s : State) : State :=
  if s.timingMode = 0 then (if s.spindle.state = .idle then s else s.frameStrobe t)
  else if s.timingMode = 1 then
    let s0 := s.spindle.strays
    let s1 := s.trackEdge t
    if s.spindle.state = .idle ∨ s1.spindle.strays ≠ s0 then s1 else s1.oweAck s1.spindle.frame
  else s

/-! ## Free-running -/

/-- Free-running begins (spec 02 R36, R40): the first frame origin lies 4.096 us ahead, at the end of a frame of which no
line is generated; the frame that starts there takes its number there. No FRAME_ACK pulse stays owed (R35). -/
def enterFreeRunning (s : State) : State :=
  let n := s.pnum Par.declaredLines 0
  let f := if s.spindle.numbered then s.spindle.frame else 2 ^ 32 - 1
  let s1 := ((s.cond s.spindle.hasTime endFrame).setSpindle .freeRunning).modSpindle fun p => { p with
    period := 256 * s.pnum Par.freePeriod 0, lines := n, phase := fine (s.now + ns 4096)
    gridFrame := f, gridLine := n, frame := f, line := n - 1, restart := none, freePending := [], ack := none }
  s1.resumeFlyers

/-- A timing mode takes effect (spec 02 R40, R42, R44). -/
def applyTimingMode (s : State) : State :=
  let s := s.modSpindle fun p => { p with lines := s.pnum Par.declaredLines 0 }
  if s.timingMode = 2 then s.enterFreeRunning else s.enterAcquiring

/-- Lines generated in free-running mode: the frame origin moves on, and the settings acknowledged at least 4.096 us
before it take effect (spec 02 R40). -/
def freeBoundary (s : State) : State :=
  let p := s.spindle
  let origin := p.phase + (p.lines - p.gridLine) * p.period
  if fine s.now < origin then s
  else
    let ripe := p.freePending.filter fun c => fine (c.1 + ns 4096) ≤ origin
    let v := (ripe.getLast?.map fun c => c.2).getD (p.period, p.lines)
    (s.modSpindle fun q => { q with
      phase := origin, period := v.1, lines := v.2, freePending := q.freePending.filter fun c => c ∉ ripe }).gridFrame

/-- The line that the strobe grid gives an instant, without the line origin offset. -/
def strobeLine (s : State) (t : Tick) : Nat × Nat :=
  let p := s.spindle
  match s.turnAt 0 t with
  | some x => x.line (((fine t : Int) - x.origin).toNat / max 1 x.period)
  | none =>
    let l := ((fine t : Int) - p.phase) * s.lineDiv / max 1 p.period + p.gridLine
    if l < p.frameLength then (p.gridFrame, l.toNat)
    else ((p.nextFrame + (l.toNat - p.frameLength) / max 1 p.lines) % 2 ^ 32,
      (l.toNat - p.frameLength) % max 1 p.lines)

/-- The present line moves to the one that starts now (spec 02 R36, R37, R46, R48); before the edge that the grid stands on,
nothing starts. -/
def lineArrives (s : State) : State :=
  let s := s.cond (s.spindle.state = .freeRunning) freeBoundary
  if fine s.now < s.spindle.phase then s
  else
    let fl := s.strobeLine s.now
    let s1 := if fl.1 = s.spindle.frame then s else s.beginFrame fl.1 (s.strobeInstant fl.1 0)
    let s2 := s1.modSpindle fun p => { p with line := fl.2 }
    if s.timingMode = 1 ∧ s.spindle.state = .holdover ∧ s.spindle.coasting then
      let s3 := s2.coastOn s2.spindle.coastTo
      if s.pnum Par.holdoverCount 0 < s3.spindle.coast ∧ s3.acceptance < (s3.phaseError s.now).natAbs then
        s3.declareLost 0
      else s3
    else s2

/-! ## The warm flag (spec 02 R57) -/

/-- The drift of 16 ratios in ppb. (DEDUCED, log 61.) -/
def driftOf (r : List Nat) : Nat :=
  let hi := r.foldl max 0
  let lo := r.foldl min hi
  (hi - lo) * 16000000000 / max 1 r.sum

/-- Sets or clears the warm flag, with WARM where it changes. -/
def setWarm (on : Bool) (s : State) : State :=
  if s.spindle.warm = on then s
  else (s.modSpindle fun p => { p with warm := on }).event Src.spindle 0x27
    [(1, on.toNat), (4, min (2 ^ 32 - 1) (s.spindle.drift.getD (2 ^ 32 - 1)))]

/-- The once-per-second measurement: `ratio` none where the chosen input gives none. (DEDUCED, log 61.) -/
def measureDrift (ocxo : Bool) (ratio : Option Nat) (s : State) : State :=
  let s := s.modSpindle fun p => { p with ocxo := ocxo }
  let usable := if s.popt Par.driftSource 0 = 0 then s.spindle.state = .locked else true
  match if usable then ratio else none with
  | none => (s.modSpindle fun p => { p with ratios := [], drift := none }).setWarm false
  | some r =>
    let rs := (s.spindle.ratios ++ [r]).drop (s.spindle.ratios.length - 15)
    let full := rs.length = 16
    let good := full && (rs.foldl max 0 - rs.foldl min (rs.foldl max 0)) * 16000000000 < 20 * rs.sum
    let s1 := s.modSpindle fun p => { p with ratios := rs, drift := if full then some (driftOf rs) else p.drift }
    if good && ocxo then s1.setWarm true
    else if !ocxo || full then s1.setWarm false
    else s1

/-! ## Scanners (spec 02 R53, R54) -/

/-- The tracked mirror of a port. -/
def scanner (s : State) (n : Nat) : Scanner := Store.read {} s.spindle.scanners n

/-- Changes a port's mirror, with SCANNER where its state changes. -/
def setScanner (n : Nat) (m : Scanner) (s : State) : State :=
  let old := (s.scanner n).state
  let s1 := s.modSpindle fun p => { p with scanners := Store.write {} p.scanners n m }
  if old = m.state then s1
  else s1.event Src.spindle 0x28 [(1, n), (1, m.state), (8, fine m.period)]

/-- Whether tracking is on for a port with an admitted head (spec 02 R53). -/
def scannerOn (s : State) (n : Nat) : Bool :=
  (s.pnum Par.scannerTracking 0).testBit n && (s.port n).state = .admitted

/-- Brings a port's mirror to off, or from off to acquiring (spec 02 R53). -/
def updateScanner (n : Nat) (s : State) : State :=
  if s.scannerOn n then
    if (s.scanner n).state = 0 then s.setScanner n { state := 1 } else s
  else if (s.scanner n).state = 0 then s else s.setScanner n {}

/-- A crossing at instant `t` (spec 02 R53). The period held is the last interval (DESIGN CHOICE, log 16). A mirror that was
lost acquires anew from its next crossing, with nothing held of before; an interval outside 100 Hz to 40 kHz leaves the
period and the state and ends the run (DESIGN CHOICE, log 117). -/
def scannerCrossing (n : Nat) (t : Tick) (s : State) : State :=
  let m := s.scanner n
  if m.state = 0 then s
  else
    let m := if m.state = 3 then { state := 1 } else m
    match m.last with
    | none => s.setScanner n { m with last := some t }
    | some l =>
      let d := t - l
      let legal := us 25 ≤ d && d ≤ us 10000
      let near := legal && m.period ≠ 0 && ((d : Int) - m.period).natAbs * 1000 ≤ m.period
      let run := if near then m.run + 1 else 0
      let st := if m.state = 1 ∧ 8 ≤ run then 2 else m.state
      s.setScanner n { state := st, period := if legal then d else m.period, last := some t, run := run, missing := 0 }

/-- The predicted mirror phase at instant `t`, a 16-bit fraction of the period, truncated (spec 02 R54; DESIGN CHOICE,
log 117). -/
def scannerPhase (s : State) (n : Nat) (t : Tick) : Nat :=
  let m := s.scanner n
  (t - m.last.getD 0) % max 1 m.period * 65536 / max 1 m.period

end State

end Sys2Proof.Machine
end

