-- ==== Sys2Proof/Machine/FrontEnd.lean ====
section
/-! DEFINITION. The receive front end and the detector bias (spec 05): clamp, range switches, receive modes, bias
changes, sense lines, open inputs; background tracking of the converter (spec 06 R147). -/

namespace Sys2Proof.Machine

namespace State

/-! ## Ranges and receive modes -/

/-- The channel is in auto-ranging mode (spec 05 R125). -/
def autoRanging (s : State) (c : Nat) : Bool := s.popt Par.rangingMode c = 0

/-- Switches a channel's range: the 6 samples from the switch are marked (spec 05 R127). -/
def setRange (c r : Nat) (s : State) : State :=
  if (s.chan c).fe.range = r then s
  else (s.modChan c fun ch => { ch with
    fe := { ch.fe with past := remember s.now ch.fe.range (s.capturing c) ch.fe.past, range := r } }).markChan c .range 1
      (some (s.now + 6 * sample))

/-- Puts interleave values in force on a channel from the present instant on (spec 06 R146). -/
def setInter (c : Nat) (m : Store (Int × Int × Int)) (s : State) : State :=
  s.cond ((s.chan c).fe.inter ≠ m) (modChan c fun ch => { ch with
    fe := { ch.fe with interPast := remember s.now ch.fe.inter (s.capturing c) ch.fe.interPast, inter := m } })

/-- The range of the ranging mode or initial range that applies now (spec 05 R132). -/
def applyRanging (c : Nat) (s : State) : State :=
  let m := s.popt Par.rangingMode c
  (s.modChan c fun ch => { ch with fe := { ch.fe with down := 0, held := false } }).setRange c
    (if m = 0 then s.pnum Par.initialRange c else m - 1)

/-- Carding on a channel whose receive mode changes: the first reading in the new mode sets each estimate, and every
history is cleared (spec 10 R236, R237, R243); the blinded test goes on between waveform with TDC and TDC-only, and starts
over where `gates` says that charge-integrating fallback is entered or left (R241). -/
def cardMode (c : Nat) (gates : Bool) (s : State) : State :=
  s.modChan c fun ch => { ch with card := { ch.card with
    ambientSet := false, chargeSet := false, sigma := [], level := none, analogue := none
    satRun := if gates then 0 else ch.card.satRun, levelRun := if gates then 0 else ch.card.levelRun
    clearRun := if gates then 0 else ch.card.clearRun
    lines := ch.card.lines.map fun l => { l with entries := [], was := none } } }

/-- A channel of an armed capture group leaves waveform with TDC, or returns to it (spec 11 R270). -/
def captureGap (c : Nat) (out : Bool) (s : State) : State :=
  s.each (List.range 16) fun g s =>
    let y := s.group g
    s.cond (y.state.busy && y.params.any fun p => p.channels.getLsbD c) (modGroup g fun y => { y with
      gaps := if !out then y.gaps.map fun x => if x.1 = c ∧ x.2.2 = none then (c, x.2.1, some s.now) else x
        else if y.gaps.any fun x => decide (x.1 = c) && x.2.2.isNone then y.gaps
        else y.gaps ++ [(c, s.now, none)] })

/-- A tracking block begins (spec 06 R147). -/
def startBlock (c : Nat) (s : State) : State := s.modChan c fun ch => { ch with fe := { ch.fe with trackFrom := s.now } }

/-- A channel takes its receive mode (spec 05 R131, R132, 06 R147, R151, 07 R177, R184): `old` is the mode it leaves.
Waveform
with TDC begins with a tracking block of its own (DEDUCED, log 47). -/
def enterMode (c old : Nat) (s : State) : State :=
  let new := s.modeOf c
  let s := ((if s.autoRanging c then s.applyRanging c else s).cardMode c (old = 2 || new = 2)).captureGap c (new ≠ 0)
  let s := s.modChan c fun ch => { ch with
    fe := { ch.fe with gate := none, countFrom := s.now, fbClamp := 0, fbSat := 0, fbGood := 0 }
    readsAt := s.now, readCut := none }
  if new ≠ 0 ∨ old = 0 then s
  else
    let s := s.modChan c fun ch => { ch with cmp0 := {}, cmp1 := {}, envelope := 0 }
    let s := s.startBlock c
    if old = 1 then s.markChan c .powerUp 1 (some (s.now + (2048 : Nat) * sample))
    else s.markChan c .fallback 1 (some (s.now + (s.setOf c).tail))

/-- An automatic entry into fallback or return from it at this instant is discarded, with its record (spec 20 R464); the
fallback counts restart. (DEDUCED, log 139.) -/
def dropAutomatic (c : Nat) (s : State) : State :=
  let code := if (s.chan c).fe.fallback then 0x0112 else 0x0113
  (s.unsay Src.health code).modChan c fun ch => { ch with
    fe := { ch.fe with fbAt := none, fbClamp := 0, fbSat := 0, fbGood := 0 } }

/-- The receive mode parameter has been set; `old` is the mode that was in force: the new one takes effect where it
differs (spec 05 R132, 20 R464). -/
def applyMode (c old : Nat) (s : State) : State :=
  let s1 := (s.cond ((s.chan c).fe.fbAt = some s.now) (dropAutomatic c)).modChan c fun ch => { ch with
    fe := { ch.fe with fallback := false } }
  if s1.modeOf c = old then s1 else s1.enterMode c old

/-! ## Bias -/

/-- The bias controller of a bank. -/
def bias (s : State) (b : Nat) : Bias := (s.bank b).bias

/-- Changes the bias controller of a bank. -/
def modBias (b : Nat) (g : Bias → Bias) (s : State) : State := s.modBank b fun x => { x with bias := g x.bias }

/-- The device states in which bias may be enabled (spec 05 R137). -/
def biasAllowed (d : DevState) : Bool := d ∈ [.safe, .ready, .armed, .ranging, .calibrating, .fault]

/-- The target in 0.1 mV: the setpoint plus the temperature term, held between 20.00 V and the ceiling (spec 05 R133). -/
def biasTarget (s : State) (b : Nat) : Nat :=
  (clampInt 200000 (max 200000 (100 * s.pnum Par.ceiling b)) (100 * s.pnum Par.setpoint b + (s.bias b).term)).toNat

/-- The internal reference at the present instant: it moves at the slew limit, and stands still while the gate is stopped
(spec 05 R133). -/
def biasReference (s : State) (b : Nat) : Nat :=
  let x := s.bias b
  let d := 100 * s.pnum Par.slewLimit b * (s.now - x.rampAt) / us 1
  if !x.gateOn then x.reference
  else if x.reference ≤ x.target then min x.target (x.reference + d) else max x.target (x.reference - d)

/-- The reference goes on from its present value towards a target. -/
def aimBias (b target : Nat) (s : State) : State :=
  s.modBias b fun x => { x with target := target, reference := s.biasReference b, rampAt := s.now }

/-- A bias change starts: marks run until it has settled (spec 05 R133, R134). -/
def startBiasChange (b target : Nat) (s : State) : State :=
  ((s.aimBias b target).modBias b fun x => { x with moving := true, settled := false }).markBank b .bias 1 none

/-- The target is computed again; a step of no more than 0.05 % by the temperature term is applied without marks
(spec 05 R133, R135). -/
def retarget (b : Nat) (byTerm : Bool) (s : State) : State :=
  let t := s.biasTarget b
  let x := s.bias b
  if t = x.target then s
  else if !x.gateOn ∨ (byTerm ∧ ((t : Int) - x.target).natAbs * 2000 ≤ t) then s.aimBias b t
  else s.startBiasChange b t

/-- BIASb_GATE stops: the reference stands still (spec 05 R136, R137). -/
def stopGate (b : Nat) (s : State) : State :=
  s.modBias b fun x => { x with
    reference := s.biasReference b, rampAt := s.now, gateOn := false, moving := false, settled := false }

/-- Bias enable or disable takes effect (spec 05 R136, R137). (DEDUCED, log 43.) -/
def applyBiasEnable (b : Nat) (s : State) : State :=
  if s.popt Par.biasEnable b = 1 then
    if (s.bias b).gateOn || !biasAllowed s.dev then s
    else ((s.modBias b fun x => { x with gateOn := true, faulted := false, rampAt := s.now })).startBiasChange b
      (s.biasTarget b)
  else s.stopGate b

/-- BIASb_GATE of every bank stops, and with it the bias enable, which stands only where R137 allows it (spec 05 R137, 18
R428). (DEDUCED, log 43.) -/
def stopBias (s : State) : State :=
  s.each (List.range 16) fun b s => (s.setParam Par.biasEnable 0 b ⟨0, 0⟩).stopGate b

/-- A reading of the regulated line in 0.1 mV lies within 0.1 % of the target; in force-only regulation it is the force
reading less the held lead offset (spec 05 R133, R138). -/
def biasNear (s : State) (b r : Nat) : Bool :=
  let x := s.bias b
  let y : Int := r - (if x.forceOnly then 100 * x.lead else 0)
  decide ((y - x.target).natAbs * 1000 ≤ x.target)

/-- The eighth of 8 readings in succession near the target: the bias of a bank has settled. The marks of the bias change
and of
a bank bias fault end on the inputs, and E + 24 samples later on the outputs (spec 05 R133, R136, 07 Table 7-6). (DEDUCED,
log 120.) -/
def biasSettled (b : Nat) (readings : List Nat) (s : State) : State :=
  if (s.bias b).moving ∧ readings.length = 8 ∧ readings.all (s.biasNear b) then
    (s.modBias b fun x => { x with moving := false, settled := true }).modBank b fun x => { x with
      marks := endMark .biasFault s.now (endMark .bias s.now x.marks) }
  else s

/-- A force reading in 10 mV is a bank bias fault: above 1.02 times the ceiling since 1.0 us ago or longer, or above 255 V,
which a reading at 1.250 V on the ball counts as (spec 05 R136, 22 R491). -/
def isBiasFault (s : State) (b force : Nat) (since : Tick) : Bool :=
  (102 * s.pnum Par.ceiling b < 100 * force && decide (since + us 1 ≤ s.now)) || 25500 < force
    || decide (125 * s.pnum Par.dividerRatios b ≤ 4096 * force)

/-- A bank bias fault (spec 05 R136): the gate stops, the enable is cleared and the samples carry validity 3. -/
def biasFault (b force : Nat) (since : Tick) (s : State) : State :=
  if s.isBiasFault b force since then
    ((((s.setParam Par.biasEnable 0 b ⟨0, 0⟩).stopGate b).modBias b fun x => { x with faulted := true }).markBank b
      .biasFault 3 none).health 0x0101 b [(4, force)] []
  else s

/-- A sense-line open: force and sense reading of each of 3 readings differ by more than 5 V (spec 05 R138). -/
def senseLost (readings : List (Nat × Nat)) : Bool :=
  readings.length = 3 && readings.all fun r => decide (500 < ((r.1 : Int) - r.2).natAbs)

/-- The held lead offset in 10 mV: the mean of the 64 force-to-sense differences before the 3 readings (spec 05 R138). -/
def leadOf (earlier : List Int) : Int := quotOpen (recent 64 earlier).sum 64

/-- A sense-line open is declared (spec 05 R138). -/
def senseOpen (b : Nat) (readings : List (Nat × Nat)) (earlier : List Int) (s : State) : State :=
  if (s.bias b).senseOpen ∨ !senseLost readings ∨ earlier.length < 64 then s
  else
    let lead := leadOf earlier
    let seqs := (List.range 16).map fun i =>
      s.lastGood (16 * b + i) (s.now - us 2)
    ((s.modBias b fun x => { x with senseOpen := true, forceOnly := true, lead := lead }).startBiasChange b
      (s.bias b).target).health 0x0102 b [(4, twos 4 lead)] seqs

/-- The bias sense restore test (spec 05 R139): 16 readings of the force-to-sense difference in 10 mV, each within
1 V of the held lead offset. -/
def senseGood (s : State) (b : Nat) (readings : List Int) : Bool :=
  readings.length = 16 && readings.all fun r => (r - (s.bias b).lead).natAbs ≤ 100

/-- A bank returns to Kelvin regulation (spec 05 R139). -/
def senseRestore (b : Nat) (s : State) : State :=
  (s.modBias b fun x => { x with senseOpen := false, forceOnly := false }).startBiasChange b (s.bias b).target

/-! ## Clamp -/

/-- The servo holds its current: during a clamp event and for 1.0 us after it (spec 05 R123). -/
def servoHeld (s : State) (c : Nat) : Bool := (s.chan c).fe.clamping || decide (s.now < (s.chan c).fe.servoUntil)

/-- The servo's current in 0.5 uA where it needs `x`, of which it can sink 2.0 mA, and whether it is saturated, and has been
throughout the range period (spec 05 R123, R131). -/
def servoTakes (c x : Nat) (s : State) : State :=
  s.cond (!s.servoHeld c) (modChan c fun ch => { ch with
    fe := { ch.fe with
      servo := min x 4000, saturated := decide (4000 < x), satAll := ch.fe.satAll && decide (4000 < x) } })

/-- The rescue switch acts: the range code is above 0, or the boundary of this very cycle has just left such a range (spec
05 R126, R127; DEDUCED, log 116). -/
def rescues (s : State) (c : Nat) : Bool :=
  let fe := (s.chan c).fe
  s.autoRanging c && (fe.range ≠ 0 || (fe.lastBoundary = some s.now && s.rangeAt c (s.now - 1) ≠ 0))

/-- A clamp event starts (spec 05 R120, R121, R126): the servo, which needs `servo` in 0.5 uA, holds its current (R123). -/
def clampStart (c servo : Nat) (s : State) : State :=
  let s1 := (((s.servoTakes c servo).modChan c fun ch => { ch with
      fe := { ch.fe with clamping := true, clampAt := some s.now, clampFlag := true, clampInPeriod := true } }).count
      Kind.clamp c 1).markChan c .clamp 2 none
  if s1.rescues c then
    (s1.setRange c 0).modChan c fun ch => { ch with
      fe := { ch.fe with rescuedAt := some s.now, down := 0, held := s1.modeOf c = 1 } }
  else s1

/-- A clamp event ends: the mark runs 10 ns more, the servo's hold 1.0 us (spec 05 R121, R123). -/
def clampEnd (c : Nat) (s : State) : State :=
  if (s.chan c).fe.clamping then
    s.modChan c fun ch => { ch with
      fe := { ch.fe with clamping := false, servoUntil := s.now + us 1 }
      marks := endMark .clamp (s.now + ns 10) ch.marks }
  else s

/-- CLEAR FLAGS of a channel: a clamp event that starts in the same cycle leaves the flag set (spec 05 R120). -/
def clearClamp (c : Nat) (s : State) : State :=
  s.modChan c fun ch => { ch with fe := { ch.fe with clampFlag := ch.fe.clampFlag && ch.fe.clampAt = some s.now } }

/-! ## Open inputs (spec 05 R140-R142) -/

/-- Open-input detection runs on the channel (spec 05 R140, 19 R446). -/
def openInputRuns (s : State) (c : Nat) : Bool :=
  let r := (s.chan c).fe.range
  let floor := Store.read none s.cal.tables.floors (4 * c + r)
  let ratio := (Store.read none s.cal.tables.ratios (4 * c + r)).getD 0
  s.popt Par.openInput c = 1 && s.modeOf c = 0 && floor.isSome && 80 ≤ ratio
    && !((s.chan c).marks.any fun m => m.kind = .calibration && m.stop = none)

/-- Open-input detection is suspended: it is on, and the connected-to-open ratio of the channel's present range is below 1.25
(spec 05 R140). -/
def oiSuspended (s : State) (c : Nat) : Bool :=
  s.popt Par.openInput c = 1
    && (Store.read none s.cal.tables.ratios (4 * c + (s.chan c).fe.range)).any fun v => decide (v < 80)

/-- A sub-block ends: at the 256th window opening, or 62.5 us after it began (spec 05 R141). -/
def subBlockEnds (s : State) (c : Nat) : Bool :=
  decide (256 ≤ (s.chan c).fe.oiWindows) || decide ((s.chan c).fe.oiStart + ns 62500 ≤ s.now)

/-- The next sub-block begins. -/
def nextSubBlock (c : Nat) (s : State) : State :=
  s.modChan c fun ch => { ch with fe := { ch.fe with oiStart := s.now, oiWindows := 0 } }

/-- The RMS of the valid samples' deviations, each divided by the open-input floor of its range, is below 1.10 (spec 05
R141):
`sums` holds, by range, how many samples and the sum of the squares of their deviations in 1/16 code. Samples of a range
without a floor are left out, as detection is suspended there (R140). -/
def rmsFails (s : State) (c : Nat) (sums : List (Nat × Nat)) : Bool :=
  let used := (sums.mapIdx fun r x => (Store.read none s.cal.tables.floors (4 * c + r), x)).filterMap fun y =>
    y.1.bind fun f => if f = 0 then none else some (f * f, y.2)
  let den := used.foldl (fun p y => p * y.1) 1
  let total := (used.map fun y => den / y.1 * y.2.2).sum
  decide (100 * total < 121 * (used.map fun y => y.2.1).sum * den)

/-- A sub-block ends: `sums` are those of `rmsFails`, and `invalid` of `samples` samples are not valid (spec 05 R141, R142).
While the input is declared open no sub-block is void, since every sample bears the mark of the declaration (DESIGN CHOICE,
log 121). The runs of failed and of passed sub-blocks stand still while detection does not run (DESIGN CHOICE, log 121). -/
def subBlock (c : Nat) (sums : List (Nat × Nat)) (samples invalid : Nat) (s : State) : State :=
  let start := (s.chan c).fe.oiStart
  if !s.subBlockEnds c then s
  else if !s.openInputRuns c then s.nextSubBlock c
  else
    let s := s.nextSubBlock c
    let fe := (s.chan c).fe
    if samples < 8 * invalid ∧ !fe.oiOpen then s
    else if s.rmsFails c sums then
      let n := fe.oiFails + 1
      let last := if fe.oiFails = 0 then s.lastGood c start else fe.oiLast
      let s1 := s.modChan c fun ch => { ch with fe := { ch.fe with oiFails := n, oiPasses := 0, oiLast := last } }
      if n = 15 ∧ !fe.oiOpen then
        ((s1.modChan c fun ch => { ch with fe := { ch.fe with oiOpen := true } }).markChan c .openInput 3 none).health
          0x0110 c [(4, last)] []
      else s1
    else
      let n := fe.oiPasses + 1
      let s1 := s.modChan c fun ch => { ch with fe := { ch.fe with oiFails := 0, oiPasses := n } }
      if n = 16 ∧ fe.oiOpen then
        (s1.modChan c fun ch => { ch with
          fe := { ch.fe with oiOpen := false, oiPasses := 0 }, marks := endMark .openInput s.now ch.marks }).health 0x0111
          c [(4, s.recs.seqOf c)] []
      else s1

/-! ## The sample PLL and background tracking (spec 06 R145, R147) -/

/-- The sample PLL loses lock: every sample carries validity 3 from detection. -/
def pllUnlock (s : State) : State :=
  if s.pllLocked then
    ((s.modPllLocked fun _ => false).modMarks (addMark (some 0) .pll 3 s.now none)).health 0x0120 0 [] []
  else s

/-- The sample PLL has locked again: the mark lasts 10 us more. -/
def pllRelock (s : State) : State :=
  if s.pllLocked then s
  else ((s.modPllLocked fun _ => true).modMarks (endMark .pll (s.now + us 10))).health 0x0121 0 [] []

/-- One tracked value moved one unit towards agreement: `mean` of the stage and `all` over the eight are in a common
unit, `tol` the difference that is let stand; true where the value stands at the end of its range (spec 06 R147).
(DEDUCED, log 47.) -/
def trackStep (lo hi v mean all : Int) (tol : Nat) (up : Bool) : Int × Bool :=
  if (mean - all).natAbs ≤ tol then (v, false)
  else
    let d : Int := if (mean > all) = up then 1 else -1
    if v + d < lo ∨ hi < v + d then (v, true) else (v + d, false)

/-- A tracking block is complete (spec 06 R147): 2^17 samples have been counted in every stage since it began, and no more
than the time without a mark holds, since only samples of validity 0 count. -/
def blockDone (s : State) (c : Nat) (counts : List Nat) : Bool :=
  let clean := clearTime (s.marksOf c) (s.chan c).fe.trackFrom s.now
  counts.length = 8 && counts.all fun n => decide (2 ^ 17 ≤ n) && decide (8 * n * sample ≤ clean + 8 * sample)

/-- A tracking block ends (spec 06 R147): samples counted in each stage, the stages' means in 1/2^16 code and mean squares in
1/2^16 of the average square. (DEDUCED, log 47.) -/
def trackBlock (c : Nat) (counts : List Nat) (means squares : List Int) (s : State) : State :=
  if !s.tracks c ∨ !s.blockDone c counts ∨ means.length ≠ 8 ∨ squares.length ≠ 8 then s
  else
    let inter := (s.chan c).fe.inter
    let res := (List.range 8).map fun k =>
      let v := Store.read (0, 0, 0) inter k
      let o := trackStep (-128) 127 v.1 (8 * nth 0 means k) means.sum 32768 false
      let g := trackStep (-512) 511 v.2.1 (2048 * (8 * nth 0 squares k - squares.sum)) 0 squares.sum.natAbs false
      (k, (o.1, g.1, v.2.2), o.2 || g.2)
    ((s.setInter c (res.foldl (fun m x => Store.write (0, 0, 0) m x.1 x.2.1) inter)).startBlock c).modChan c fun ch => { ch with
      fe := { ch.fe with trackLimit := ch.fe.trackLimit || res.any fun x => x.2.2 } }

end State

/-! ## Meanings -/

/-- CLAMP_EVENT: spec 05 R120, R121, R123, R126. -/
def execClampEvent (t : Tick) (clamp : ClampStart) (s : State) : Host.Outcome State Fault Refusal :=
  .next ((s.advance t).clampStart clamp.channel clamp.servo)

/-- CLAMP_END: spec 05 R121, R123. -/
def execClampEnd (t : Tick) (c : Nat) (s : State) : Host.Outcome State Fault Refusal :=
  .next ((s.advance t).clampEnd c)

/-- BIAS_SETTLED: spec 05 R133, R134. -/
def execBiasSettled (t : Tick) (line : BiasReadings) (s : State) : Host.Outcome State Fault Refusal :=
  .next ((s.advance t).biasSettled line.bank line.readings)

/-- BIAS_FAULT: spec 05 R136. -/
def execBiasFault (t : Tick) (bank : Nat) (force : ForceReading) (s : State) : Host.Outcome State Fault Refusal :=
  .next ((s.advance t).biasFault bank force.reading force.since)

/-- SENSE_LINE_OPEN: spec 05 R138. -/
def execSenseLineOpen (t : Tick) (bank : Nat) (lines : SenseReadings) (s : State) : Host.Outcome State Fault Refusal :=
  .next ((s.advance t).senseOpen bank lines.pairs lines.earlier)

/-- OPEN_INPUT_SUB_BLOCK: spec 05 R140-R142. -/
def execOpenInputSubBlock (t : Tick) (c : Nat) (sums : List (Nat × Nat)) (samples invalid : Nat) (s : State) :
    Host.Outcome State Fault Refusal :=
  .next ((s.advance t).subBlock c sums samples invalid)

/-- SAMPLE_PLL_UNLOCK: spec 06 R145. -/
def execSamplePllUnlock (t : Tick) (s : State) : Host.Outcome State Fault Refusal := .next (s.advance t).pllUnlock

/-- SAMPLE_PLL_RELOCK: spec 06 R145. -/
def execSamplePllRelock (t : Tick) (s : State) : Host.Outcome State Fault Refusal := .next (s.advance t).pllRelock

/-- TRACKING_BLOCK_END: spec 06 R147. -/
def execTrackingBlockEnd (t : Tick) (c : Nat) (stages : StageMeans) (squares : List Int) (s : State) :
    Host.Outcome State Fault Refusal :=
  .next ((s.advance t).trackBlock c stages.counts stages.means squares)

/-- BIAS_SENSE_RESTORE: spec 05 R139, in the states that R137 allows bias in. -/
def execBiasSenseRestore (t : Tick) (h : Hdr) (bank : Nat) (readings : List Int) (s : State) :
    Host.Outcome State Fault Refusal :=
  .next ((s.advance t).command 0x0501 h (fun _ => if 16 ≤ bank then .wrongArg 16 else .accepted)
    (fun handle s => if s.senseGood bank readings then
      (s.cond (s.bias bank).forceOnly (State.senseRestore bank)).succeed handle [] else s.failedOpen handle))

end Sys2Proof.Machine
end

