-- ==== Sys2Proof/Machine/Housekeeping.lean ====
section
/-! DEFINITION. The housekeeping converter (spec 06 R152-R165): reference, starts, runs, injected conversions and the
result queue. -/

namespace Sys2Proof.Machine

namespace State

/-! ## The reference -/

/-- An external-reference fault exists (spec 06 R154). -/
def refFault (s : State) : Bool :=
  s.popt Par.hkReference 0 = 1 && (s.hk.hkref < 950 || 3400 < s.hk.hkref)

/-- The settling time of the reference starts again: 200 us, 50 us for the supply (spec 06 R154). (DEDUCED, log 41.) -/
def unsettle (s : State) : State :=
  let d := if s.popt Par.hkReference 0 = 2 then 50 else 200
  s.modHk fun k => { k with settled := false, settleAt := s.now + us d }

/-- The reference changes: a conversion in progress is aborted, counted and begun again, and the reference settles anew
(spec 06 R153, R154). (DEDUCED, log 41.) -/
def referenceChanged (s : State) : State :=
  (s.modHk fun k => { k with
    aborted := if k.conv.isSome then (k.aborted + 1) % 2 ^ 32 else k.aborted
    conv := k.conv.map fun c => { c with startedAt := s.now } }).unsettle

/-- The housekeeping converter starts: settling, and no run in progress (spec 06 R154, R165). -/
def startHk (s : State) : State :=
  if s.hk.running then s
  else (s.modHk fun k => { k with running := true, run := none, conv := none }).unsettle

/-- The housekeeping converter stops: nothing in progress or pending survives (spec 06 R165). -/
def stopHk (s : State) : State :=
  s.modHk fun k => { k with
    running := false, settled := false, run := none, conv := none, timerDue := none, pulseDue := none }

/-- HKREF stands at `mv`: the fault ends and the reference settles anew where it comes back into its window (spec 06
R154). -/
def hkrefIs (mv : Nat) (s : State) : State :=
  let s1 := s.modHk fun k => { k with hkref := mv }
  s1.cond (s.refFault && !s1.refFault) unsettle

/-- The settling time has passed (spec 06 R154). -/
def referenceSettled (s : State) : State :=
  s.cond (s.hk.running && decide (s.hk.settleAt ≤ s.now)) fun s => s.modHk fun k => { k with settled := true }

/-! ## Conversions and runs -/

/-- A conversion of `input` begins; a multiplexer switch makes the first one a settling one (spec 06 R156).
(DEDUCED, log 42.) -/
def startConv (input slot source handle : Nat) (s : State) : State :=
  s.modHk fun k => { k with
    mux := some input, conv := some ⟨input, slot, source, handle, k.mux ≠ some input, s.now⟩ }

/-- The run goes on at slot `i`, or ends after the last slot (spec 06 R158). -/
def hkSlot (i : Nat) (s : State) : State :=
  match s.hk.seq[i]? with
  | some input => (s.modHk fun k => { k with run := some i }).startConv input i 0 0
  | none => s.modHk fun k => { k with run := none, conv := none }

/-- A start is refused (spec 06 R159). -/
def refuseStart (s : State) : State :=
  s.modHk fun k => { k with overruns := (k.overruns + 1) % 2 ^ 32, overrun := true }

/-- A period of the timer begins, as long as the timer period then is (spec 06 R157, R158). -/
def startTimer (s : State) : State :=
  s.modHk fun k => { k with timerFrom := s.now, timerPeriod := s.pnum Par.hkPeriod 0 }

/-- A timer event falls at the present instant: whole periods after the timer was switched on or last gave an event (spec 06
R158). -/
def hkTimerDue (s : State) : Bool :=
  let d := s.now - s.hk.timerFrom
  decide (0 < d) && d % us (max 1 s.hk.timerPeriod) = 0

/-- A timer event (spec 06 R158, R159). -/
def hkTimerEvent (s : State) : State :=
  if !s.hk.running ∨ s.popt Par.hkTimer 0 = 0 ∨ !s.hkTimerDue then s
  else
    let s1 := s.startTimer
    if s.hk.timerDue.isSome then s1.refuseStart
    else s1.modHk fun k => { k with timerDue := some (s.now + us (s.pnum Par.hkTimerDelay 0)) }

/-- An HKTRIG pulse of `width` ns ends (spec 06 R158, R159); `high` is its polarity. Its width is measured in whole steps
of 2 ns, an odd one rounded down (DESIGN CHOICE, log 122). -/
def hktrigPulse (high : Bool) (width : Nat) (s : State) : State :=
  let measured := 2 * (width / 2)
  let fits := (s.popt Par.hkPolarity 0 = 0) = high && 10 * s.pnum Par.hkPulseMin 0 ≤ measured
    && measured ≤ 10 * s.pnum Par.hkPulseMax 0
  if !s.hk.running ∨ s.popt Par.hkPulse 0 = 0 ∨ !fits then s
  else if s.hk.pulseDue.isSome then s.refuseStart
  else s.modHk fun k => { k with pulseDue := some (s.now + us (s.pnum Par.hkPulseDelay 0)) }

/-- A delayed start falls due: a run begins unless one is in progress or the timer's start falls due with it (spec 06
R158, R159). -/
def hkRunStart (pulse : Bool) (s : State) : State :=
  let due := if pulse then s.hk.pulseDue else s.hk.timerDue
  match due with
  | none => s
  | some d =>
    if s.now < d then s
    else
      let s1 := s.modHk fun k => if pulse then { k with pulseDue := none } else { k with timerDue := none }
      if s1.hk.run.isSome ∨ (pulse ∧ s.hk.timerDue = some d) then s1.refuseStart
      else
        let n := s.pnum Par.hkLength 0
        let seq := (List.range n).map fun i => (s.paramAt Par.hkSlotInput i 0).num.toNat
        let s2 := s1.modHk fun k => { k with seq := seq, runNumber := (k.runNumber + 1) % 2 ^ 32 }
        if s2.hk.conv.isSome then s2.modHk fun k => { k with run := some 0 } else s2.hkSlot 0

/-- The injection instant of a conversion of `input` (spec 06 R161): the conversion in progress is aborted.
(DEDUCED, log 42.) -/
def injectNow (input source handle : Nat) (s : State) : State :=
  (s.modHk fun k => { k with aborted := if k.conv.isSome then (k.aborted + 1) % 2 ^ 32 else k.aborted }).startConv
    input 0xFF source handle

/-- The validity code of a result (spec 06 R154-R156): that of its completion, the settled flag included (DESIGN CHOICE,
log 147). -/
def hkValidity (s : State) (settling : Bool) (outside : Option Bool) : Nat :=
  if s.refFault || s.anySag then 3 else if outside.isSome then 2 else if settling || !s.hk.settled then 1 else 0

/-- The queue entry of a result (spec 06 Table 6-6); its sample instant is the end of acquisition, 0.5 us after its start. -/
def hkEntry (s : State) (c : HkConv) (code validity : Nat) : List Byte :=
  let x := c.startedAt + ns 500
  let lt := if s.spindle.hasTime then s.lineTimeAt x else s.spindle.last
  let d := s.devTime x
  le 2 code ++ [BitVec.ofNat 8 (c.input + 64 * validity),
      BitVec.ofNat 8 (c.source + 4 * s.popt Par.hkReference 0 + flagBit 4 s.hk.settled + flagBit 5 s.hk.overrun
        + flagBit 6 (s.hk.dropped ≠ 0)),
      BitVec.ofNat 8 c.slot, 0]
    ++ le 2 c.handle ++ le 6 (d / 4096 % 2 ^ 48) ++ le 1 (d % 4096 / 16)
    ++ [BitVec.ofNat 8 (flagBit 0 (s.epochAt x) + flagBit 1 (!s.spindle.hasTime))]
    ++ le 4 s.hk.runNumber ++ le 4 lt.frame ++ le 2 lt.line ++ le 2 lt.frac ++ le 2 (min s.hk.dropped 65535) ++ [0, 0]

/-- Writes an entry to the queue of 256, or counts it as dropped (spec 06 R163, R164). -/
def hkPush (entry : List Byte) (s : State) : State :=
  s.modHk fun k =>
    if k.queue.length < 256 then { k with queue := k.queue ++ [entry], dropped := 0, overrun := false }
    else { k with dropped := k.dropped + 1 }

/-- The banks whose temperature term takes a result of validity 0, in 0.1 mV (spec 05 R135, 06 R164). -/
def hkTerm (input code : Nat) (s : State) : State :=
  let temp := Config.sensorTemp input (s.popt Par.hkReference 0) code
  s.each (List.range 16) fun b s =>
    if s.param Par.tempInput b = ⟨0, input⟩ then
      let term := (s.param Par.tempCoef b).num * (temp - (s.param Par.refTemp b).num)
      (s.modBias b fun x => { x with term := term }).retarget b true
    else s

/-- A conversion completes with the converter's code, 1.0 us after its start (spec 06 R155, R156, R161, R163, R166). -/
def hkDone (code : Nat) (outside : Option Bool) (s : State) : State :=
  match s.hk.conv with
  | none => s
  | some c =>
    if s.now < c.startedAt + us 1 then s else
    let code := match outside with | none => code % 65536 | some up => if up then 0xFFFF else 0
    let v := s.hkValidity c.settling outside
    let e := s.hkEntry c code v
    let s1 := (s.hkPush e).cond (v = 0) fun s => s.hkTerm c.input code
    if c.settling then s1.modHk fun k => { k with conv := some { c with settling := false, startedAt := s.now } }
    else if c.source = 0 then s1.hkSlot (c.slot + 1)
    else
      let s2 := s1.cond (c.source = 1) fun s => s.succeed c.handle e
      match s2.hk.run with
      | some i => s2.hkSlot i
      | none => s2.modHk fun k => { k with conv := none }

end State

/-! ## Meanings -/

/-- HK_TIMER_EVENT: spec 06 R158, R159. -/
def execHkTimerEvent (t : Tick) (s : State) : Host.Outcome State Fault Refusal := .next (s.advance t).hkTimerEvent

/-- HKTRIG_PULSE: spec 06 R158, R159. -/
def execHktrigPulse (t : Tick) (high : Bool) (width : Nat) (s : State) : Host.Outcome State Fault Refusal :=
  .next ((s.advance t).hktrigPulse high width)

/-- HK_RUN_START: spec 06 R158, R159. -/
def execHkRunStart (t : Tick) (pulse : Bool) (s : State) : Host.Outcome State Fault Refusal :=
  .next ((s.advance t).hkRunStart pulse)

/-- REFERENCE_SETTLED: spec 06 R154. -/
def execReferenceSettled (t : Tick) (s : State) : Host.Outcome State Fault Refusal :=
  .next (s.advance t).referenceSettled

/-- EXTERNAL_REFERENCE_FAULT: spec 06 R154. -/
def execExternalReferenceFault (t : Tick) (millivolts : Nat) (s : State) : Host.Outcome State Fault Refusal :=
  .next ((s.advance t).hkrefIs millivolts)

/-- INJECT: spec 06 R160, R161. -/
def execInject (t : Tick) (h : Hdr) (input : Nat) (s : State) : Host.Outcome State Fault Refusal :=
  .next ((s.advance t).command 0x0601 h
    (fun s => if 48 ≤ input then .wrongArg 16
      else if s.hk.conv.any fun c => c.source ≠ 0 then .busy 1 else .accepted)
    (fun handle s => s.injectNow input 1 handle))

/-- READ_HOUSEKEEPING_QUEUE: spec 06 R163. -/
def execReadHousekeepingQueue (t : Tick) (h : Hdr) (count : Nat) (s : State) : Host.Outcome State Fault Refusal :=
  .next ((s.advance t).command 0x0602 h
    (fun _ => if 64 < count then .wrongArg 16 else .accepted)
    (fun handle s => (s.modHk fun k => { k with queue := k.queue.drop count }).succeed handle
      (s.hk.queue.take count).flatten))

end Sys2Proof.Machine
end

