-- ==== Sys2Proof/Machine/Triggers.lean ====
section
/-! DEFINITION. Roving's channel trigger units and bank combiners (spec 11 R254-R258): from the crossings of the filter
output's comparators to the triggers that capture groups see. -/

namespace Sys2Proof.Machine

/-- A group in the state takes triggers or counts them (spec 11 Table 11-6, R268): one that is DONE or STOPPED counts
those of before. -/
def GroupState.watches (g : GroupState) : Bool := g ≠ .idle && g ≠ .continuous

namespace State

/-! ## Comparators on the filter output -/

/-- Comparator `k` of channel `c`. -/
def cmp (s : State) (c k : Nat) : Cmp := if k = 0 then (s.chan c).cmp0 else (s.chan c).cmp1

/-- Changes comparator `k` of channel `c`. -/
def modCmp (c k : Nat) (g : Cmp → Cmp) (s : State) : State :=
  s.modChan c fun ch => if k = 0 then { ch with cmp0 := g ch.cmp0 } else { ch with cmp1 := g ch.cmp1 }

/-- The level in force of a comparator; Carding supplies comparator 0's in adaptive mode (spec 07 R178, 10 R238). -/
def levelOf (s : State) (c k : Nat) : Nat :=
  if k = 0 then
    if s.popt Par.levelSource c = 1 then (s.chan c).card.level.getD (s.pnum Par.level0 c) else s.pnum Par.level0 c
  else s.pnum Par.level1 c

/-- The hysteresis in force of a comparator. -/
def hystOf (s : State) (c k : Nat) : Nat := s.pnum (if k = 0 then Par.hyst0 else Par.hyst1) c

/-! ## Trigger units -/

/-- The trigger-level status bit: comparator 1's level does not lie above comparator 0's, so that a runt or slew unit never
triggers (spec 11 R255). -/
def trigLevelFault (s : State) (c : Nat) : Bool := s.levelOf c 1 ≤ s.levelOf c 0

/-- Choice `i` of the sense parameter takes its second option: 0 outside, 1 held, 2 falling (spec 11 Table 11-1). -/
def sense (s : State) (c i : Nat) : Bool := (s.paramAt Par.trigSense i c).opt = 2 * i + 1

/-- The interval `r` meets limits A and B, in 0.25 ns (spec 11 Table 11-2). -/
def inLimits (s : State) (c : Nat) (r : Int) : Bool :=
  let inside := decide ((1024 * s.pnum Par.limitA c : Nat) ≤ r) && decide (r ≤ (1024 * s.pnum Par.limitB c : Nat))
  inside != s.sense c 0

/-- Every group that names bank `b` sees a bank trigger (spec 11 R258). -/
def bankTrigger (b c : Nat) (x : Tick) (s : State) : State :=
  s.each (List.range 16) fun g s =>
    let y := s.group g
    s.cond (y.state.watches && y.params.any fun p => p.banks.getLsbD b) fun s =>
      s.modGroup g fun y => { y with seen := y.seen ++ [(x, 2 ^ b, c)] }

/-- Triggers in order of instant, then channel (spec 11 R257). -/
def trigOrder (l : List (Nat × Tick)) : List (Nat × Tick) :=
  sortBy (fun a b => a.2 < b.2 || (a.2 = b.2 && a.1 ≤ b.1)) l

/-- The first trigger of each unit. -/
def distinctUnits (l : List (Nat × Tick)) : List (Nat × Tick) :=
  l.foldl (fun acc x => if acc.any fun y => y.1 = x.1 then acc else acc ++ [x]) []

/-- The first `k` triggers of distinct units within a span of `v`, none where there are not so many. -/
def coincidence (k : Nat) (v : Tick) (l : List (Nat × Tick)) : Option (List (Nat × Tick)) :=
  l.findSome? fun x =>
    let w := distinctUnits (l.filter fun y => x.2 ≤ y.2 && y.2 ≤ x.2 + v)
    if k ≤ w.length then some (w.take k) else none

/-- A unit's trigger at instant `x` meets its bank's combiner (spec 11 R257). -/
def combine (c : Nat) (x : Tick) (s : State) : State :=
  let b := c / 16
  let a := (s.pnum Par.combA b).testBit (c % 16)
  let v := ns (s.pnum Par.combV b)
  match s.popt Par.combMode b with
  | 0 => s.cond a (bankTrigger b c x)
  | 1 =>
    if !a then s
    else
      let held := trigOrder (((s.bank b).held.filter fun y => s.now < y.2 + us 4) ++ [(c, x)])
      match coincidence (s.pnum Par.combK b) v held with
      | none => s.modBank b fun y => { y with held := held }
      | some used =>
        let last := used.getLastD (c, x)
        (s.modBank b fun y => { y with held := held.filter fun z => z ∉ used }).bankTrigger b last.1 last.2
  | _ =>
    let hit := (s.pnum Par.combB b).testBit (c % 16)
      && (s.bank b).openA.any fun o => decide (o ≤ x) && decide (x ≤ o + v)
    let s1 := s.cond hit fun s => (s.modBank b fun y => { y with openA := none }).bankTrigger b c x
    s1.cond a fun s => s.modBank b fun y => { y with openA := some (max x (y.openA.getD x)) }

/-- The combiner takes the triggers that its units have given, in order of instant, then channel (spec 11 R257; DEDUCED,
log 129). -/
def combineBank (b : Nat) (s : State) : State :=
  let l := trigOrder (s.bank b).fresh
  (s.modBank b fun y => { y with fresh := [] }).each l fun x => combine x.1 x.2

/-- A unit's condition is met at instant `x` on outputs whose highest validity is `v`: gates and counters (spec 11
R256). -/
def unitTrigger (c : Nat) (x : Tick) (v : Nat) (s : State) : State :=
  let g := s.popt Par.windowGate c
  if (g = 1 && !s.inWindow c x) || (g = 2 && s.inWindow c x) then s
  else if s.popt Par.validGate c = 1 ∧ 2 ≤ v then s.count Kind.trigLost c 1
  else (s.count Kind.trig c 1).modBank (c / 16) fun y => { y with fresh := y.fresh ++ [(c, x)] }

/-- The condition in progress on comparator `k` began under the present setting (spec 11 R254). -/
def trigCurrent (s : State) (c k : Nat) : Bool := (s.chan c).trig.appliedAt ≤ (s.cmp c k).leadOut

/-- A leading crossing of comparator `k` with its stamp (spec 11 Table 11-2: edge, slew rising). -/
def trigLeading (c k : Nat) (lead : Tick) (v : Nat) (s : State) : State :=
  let y := s.popt Par.trigType c
  let s := s.cond (s.popt Par.trigCmp c = k) fun s => s.modChan c fun ch => { ch with
    trig := { ch.trig with quietDone := false, heldDone := false } }
  if y = 1 ∧ s.popt Par.trigCmp c = k then s.unitTrigger c lead v
  else
    let z := s.cmp c 0
    let first := k = 1 && z.inEvent && z.otherLead.isNone
    let s1 := s.cond first fun s => s.modCmp c 0 fun z => { z with otherLead := some lead }
    s1.cond (first && y = 5 && !s.sense c 2 && s.trigCurrent c 0 && !s.trigLevelFault c
        && s.inLimits c ((lead : Int) - z.lead)) (unitTrigger c lead (max v z.leadCode))

/-- An event of comparator `k` closes, `z` its comparator as it stood, with its trailing stamp (spec 11 Table 11-2:
pulse width, runt, slew falling). -/
def trigClose (c k : Nat) (z : Cmp) (trail : Tick) (v : Nat) (s : State) : State :=
  let y := s.popt Par.trigType c
  let live := decide ((s.chan c).trig.appliedAt ≤ z.leadOut)
  let hit := (y = 2 && s.popt Par.trigCmp c = k && s.inLimits c ((trail : Int) - z.lead))
    || (y = 3 && k = 0 && z.otherLead.isNone && !s.trigLevelFault c)
    || (y = 5 && k = 0 && s.sense c 2 && !s.trigLevelFault c
      && z.otherTrail.any fun o => s.inLimits c ((trail : Int) - o))
  s.cond (live && hit) (unitTrigger c trail v)

/-- The quiet timeout (spec 11 Table 11-2): no leading crossing since the later of the last trailing stamp and the
setting. The outputs it used are those whose stamps lie in that span: their newest inputs lie a group delay later (07
R175). -/
def quietTimeout (c : Nat) (s : State) : State :=
  let k := s.popt Par.trigCmp c
  let z := s.cmp c k
  let d := ns (8 * s.pnum Par.trigTimeout c)
  let base := max z.lastTrail (s.chan c).trig.appliedAt
  let x := base + d
  if s.modeOf c ≠ 0 ∨ s.popt Par.trigType c ≠ 4 ∨ s.sense c 1 ∨ (z.inEvent ∧ base ≤ z.lead) ∨ (s.chan c).trig.quietDone ∨ s.now < x then s
  else
    let late := 8 * ((s.setOf c).delay : Int) + (Store.read none s.cal.tables.timing c).getD 0
    let v := marksOut (s.marksOf c) (s.setOf c).tail (base + late).toNat (x + late).toNat
    (s.modChan c fun ch => { ch with trig := { ch.trig with quietDone := true } }).unitTrigger c x v

/-- The held timeout (spec 11 Table 11-2): the output has stayed at or above the level since the leading crossing. -/
def heldTimeout (c : Nat) (s : State) : State :=
  let k := s.popt Par.trigCmp c
  let z := s.cmp c k
  let x := z.lead + ns (8 * s.pnum Par.trigTimeout c)
  if s.modeOf c ≠ 0 ∨ s.popt Par.trigType c ≠ 4 ∨ !s.sense c 1 ∨ !z.above ∨ !s.trigCurrent c k
      ∨ (s.chan c).trig.heldDone ∨ s.now < x then s
  else
    let v := marksOut (s.marksOf c) (s.setOf c).tail z.leadOut s.now
    (s.modChan c fun ch => { ch with trig := { ch.trig with heldDone := true } }).unitTrigger c x v

/-- A trigger unit's setting applies: a condition in progress is abandoned (spec 11 R254). -/
def trigApplied (c : Nat) (s : State) : State :=
  s.modChan c fun ch => { ch with trig := { appliedAt := s.now } }

end State

/-! ## Meanings -/

/-- QUIET_TIMEOUT: spec 11 R255. -/
def execQuietTimeout (t : Tick) (c : Nat) (s : State) : Host.Outcome State Fault Refusal :=
  .next ((s.advance t).quietTimeout c)

/-- HELD_TIMEOUT: spec 11 R255. -/
def execHeldTimeout (t : Tick) (c : Nat) (s : State) : Host.Outcome State Fault Refusal :=
  .next ((s.advance t).heldTimeout c)

end Sys2Proof.Machine
end

