-- ==== Sys2Proof/Machine/Detect.lean ====
section
/-! DEFINITION. Threshold events and detector readings of the filter output (spec 07 R177-R186). The raw operand of a
crossing is the channel's raw converter codes, newest first, from the newest input of the output at the step (DESIGN
CHOICE, log 14); of a truncation, from the output after the 1,024th; of a detector window's end, from the first output at or
after the end. -/

namespace Sys2Proof.Machine

namespace State

/-- The comparator may start an event: it is armed, or an output since its last event closed lies below level less
hysteresis (spec 07 R177). -/
def cmpArmed (s : State) (c k : Nat) (ys : List Out) : Bool :=
  let z := s.cmp c k
  z.armed || ys.any fun o => decide (z.trailOut ≤ o.at_ ∧ o.y < (z.level : Int) - z.hyst)

/-- The leading crossing of comparator `k` (spec 07 R177-R180). -/
def leading (c k : Nat) (raw : List Nat) (s : State) : State :=
  let ys := s.outs c s.now raw
  let level := s.levelOf c k
  let o := nth {} ys 0
  let q := nth {} ys 1
  if s.modeOf c ≠ 0 ∨ ys.length < 2 ∨ (s.cmp c k).inEvent ∨ !s.cmpArmed c k ys ∨ o.y < level ∨ (level : Int) ≤ q.y then s
  else
    let lead := s.digitalStamp c q.at_ (fraction (level - q.y) (o.y - q.y) 0 256)
    let v := max (s.outValidity c q) (s.outValidity c o)
    ((s.modCmp c k fun z => { z with
        armed := false, inEvent := true, above := true, level := level, hyst := s.hystOf c k, lead := lead
        leadOut := o.at_, leadCode := v, otherLead := none, otherTrail := none }).count (Kind.started0 + k) c 1).trigLeading c k lead v

/-- Index of the greatest of outputs, newest first; the earliest of equals (spec 07 R179). -/
def peakIndex (ys : List Out) : Nat :=
  (List.range ys.length).foldl (fun m i => if (nth {} ys m).y ≤ (nth {} ys i).y then i else m) 0

/-- The interpolated peak of an output between its neighbours: fraction in 1/256 output and value (spec 07 R180).
(DEDUCED, log 58.) -/
def peakAt (older y newer : Int) : Int × Int :=
  let q := fraction (older - newer) (2 * (older - 2 * y + newer)) (-128) 128
  (q, quotOpen (1024 * y - (older - newer) * q) 1024)

/-- The interpolated peak of the output at `x` among outputs, newest first. -/
def peakOf (ys : List Out) (o : Out) : Int × Int :=
  let newer := ((ys.filter fun x => o.at_ < x.at_).getLast?.map fun x => x.y).getD o.y
  let older := ((ys.find? fun x => x.at_ < o.at_).map fun x => x.y).getD o.y
  peakAt older o.y newer

/-- Stores an event for Ply and Carding; the store takes one event per 2 ns and overflows beyond 32 (spec 07 R182;
DESIGN CHOICE, log 19). -/
def storeEvent (c : Nat) (e : Event) (s : State) : State :=
  let ch := s.chan c
  if ns 62 < ch.evBusy - s.now then
    (s.modChan c fun ch => { ch with evOverflow := true }).count Kind.evOverflow c 1
  else s.modChan c fun ch => { ch with
    events := ch.events ++ [{ e with overflow := ch.evOverflow }], evOverflow := false
    evBusy := max ch.evBusy s.now + ns 2 }

/-- The event of comparator `k` closes with its trailing stamp; its last output has newest input `stop` (spec 07 R177,
R179). An interpolated peak beyond the 16-bit range of the outputs keeps its value (DESIGN CHOICE, log 150). -/
def closeEvent (c k : Nat) (raw : List Nat) (trail stop : Tick) (truncated : Bool) (s : State) : State :=
  let z := s.cmp c k
  let ys := s.outs c s.now raw
  let mine := ys.filter fun o => z.leadOut ≤ o.at_ && o.at_ ≤ stop
  let o := nth {} mine (peakIndex mine)
  let pk := peakOf ys o
  let v := mine.foldl (fun v o => max v (s.outValidity c o)) 0
  let peak := s.digitalStamp c o.at_ pk.1
  let e : Event :=
    ⟨k, z.lead, peak, trail, pk.2, s.outTag c o, v, s.outOver c s.now raw o, s.inWindow c peak, truncated, false⟩
  let s1 := s.modCmp c k fun z => { z with inEvent := false, trailOut := stop, lastTrail := trail }
  (s1.cond (s.popt Par.plySource c = k) (storeEvent c e)).trigClose c k z trail v

/-- The trailing crossing of comparator `k` (spec 07 R177, R180). -/
def trailing (c k : Nat) (raw : List Nat) (s : State) : State :=
  let z := s.cmp c k
  let ys := s.outs c s.now raw
  let o := nth {} ys 0
  let q := nth {} ys 1
  if s.modeOf c ≠ 0 ∨ ys.length < 2 ∨ !z.above ∨ (z.level : Int) ≤ o.y ∨ q.y < z.level then s
  else
    let trail := s.digitalStamp c q.at_ (fraction (q.y - z.level) (q.y - o.y) 0 256)
    let s1 := (s.modCmp c k fun z => { z with above := false }).cond (k = 1 && (s.cmp c 0).inEvent) fun s =>
      s.modCmp c 0 fun z => { z with otherTrail := some trail }
    s1.cond z.inEvent (closeEvent c k raw trail o.at_ false)

/-- An event with no trailing crossing within 1,024 outputs closes there, at the output before the newest one (spec 07
R177). -/
def truncateEvent (c k : Nat) (raw : List Nat) (s : State) : State :=
  let z := s.cmp c k
  let ys := s.outs c s.now raw
  if s.modeOf c ≠ 0 ∨ !z.inEvent ∨ (ys.filter fun o => z.leadOut < o.at_).length < 1025 then s
  else s.closeEvent c k raw (s.digitalStamp c (nth {} ys 0).at_ 0) (nth {} ys 1).at_ true

/-! ## Detectors (spec 07 R183-R185) -/

/-- A step of the envelope, 1/16 code (spec 07 R184). -/
def envStep (decay e : Nat) (y : Int) : Nat := max (16 * y.natAbs) (e - decay)

/-- Where the detector window in progress ends, by the present instant: at the change of setting that closes it, at the
last range boundary, or a fixed length after its start (spec 07 R183, R185). By range periods the first window after a change
of setting or an entry into waveform with TDC ends at the next boundary too (DESIGN CHOICE, log 149). -/
def detectorEnd (s : State) (c : Nat) : Option Tick :=
  let ch := s.chan c
  match ch.readCut with
  | some x => some x.1
  | none =>
    let w := s.param Par.detWindow c
    let z := ch.readsAt + ns (8 * w.num.toNat)
    if w.opt = 1 then (if z ≤ s.now then some z else none)
    else ch.fe.lastBoundary.bind fun b => if ch.readsAt < b then some b else none

/-- The first instant from `x` on at which an output of the channel falls (spec 07 R168). -/
def outputFrom (s : State) (c : Nat) (x : Tick) : Tick :=
  (((List.range 4).map fun i => x + sample * i).find? fun y => s.outputFalls (s.setAt c y) y).getD x

/-- The reading of the detector window that ends at `stop`, from the raw codes newest first from the first output at or
after its end, with the envelope after it (spec 07 R185). -/
def readingOf (s : State) (c : Nat) (stop : Tick) (raw : List Nat) : Reading × Nat :=
  let ch := s.chan c
  let ys := s.outs c (s.outputFrom c stop) raw
  let set := (ch.readCut.map fun x => x.2).getD (s.popt Par.detGate c, s.pnum Par.envDecay c)
  let mine := ys.filter fun o => ch.readsAt ≤ o.at_ && o.at_ < stop
  let counted := mine.filter fun o => set.1 = 0 || s.inWindow c o.at_ = (set.1 = 2)
  let codes := counted.map (s.outValidity c)
  let good := counted.filter fun o => s.outValidity c o = 0
  let o := nth {} counted (peakIndex counted)
  let sq := good.foldl (fun a o => a + o.y.natAbs ^ 2) 0
  let env := mine.foldr (fun o (e : Nat × Nat) => let x := envStep set.2 e.1 o.y; (x, max e.2 x)) (ch.envelope, 0)
  ({ peak := if counted = [] then 0 else o.y
     peakAt := if counted = [] then 0 else s.digitalStamp c o.at_ (peakOf ys o).1
     rms := if good = [] then 0 else min 65535 (rootOpen (256 * sq) good.length)
     envMax := env.2 / 16, envEnd := env.1 / 16, counted := counted.length, valid := good.length
     validity := if 8 * (counted.length - good.length) ≤ counted.length then 0 else codes.foldl max 0
     part := ch.readCut.isSome }, env.1)

/-- A change of detector setting closes the reading in progress at its boundary, under the old gate and decay, with the
partial flag; the DETECTOR_WINDOW_END of that boundary forms it (spec 07 R185; DEDUCED, log 141). -/
def cutReading (c gate decay : Nat) (s : State) : State :=
  s.cond (s.modeOf c = 0) (modChan c fun ch => { ch with readCut := some (ch.readCut.getD (s.now, gate, decay)) })

/-- The bytes of a reading in READ DETECTORS: the items of R185 in its order (DESIGN CHOICE, log 20). -/
def readingBytes (s : State) (r : Reading) : List Byte :=
  place 0 [(2, twos 2 (clampInt (-32768) 32767 r.peak)), (8, s.stampField r.peakAt), (2, r.rms), (2, r.envMax),
    (2, r.envEnd), (4, r.counted), (4, r.valid), (1, r.validity), (1, r.part.toNat)]

end State

/-! ## Meanings -/

/-- LEADING_CROSSING: spec 07 R177-R180. -/
def execLeadingCrossing (t : Tick) (c k : Nat) (raw : List Nat) (s : State) : Host.Outcome State Fault Refusal :=
  .next ((s.advance t).leading c k raw)

/-- TRAILING_CROSSING: spec 07 R177, R179, R180. -/
def execTrailingCrossing (t : Tick) (c k : Nat) (raw : List Nat) (s : State) : Host.Outcome State Fault Refusal :=
  .next ((s.advance t).trailing c k raw)

/-- EVENT_TRUNCATION: spec 07 R177. -/
def execEventTruncation (t : Tick) (c k : Nat) (raw : List Nat) (s : State) : Host.Outcome State Fault Refusal :=
  .next ((s.advance t).truncateEvent c k raw)

/-- READ_DETECTORS: spec 07 R185. -/
def execReadDetectors (t : Tick) (h : Hdr) (c : Nat) (s : State) : Host.Outcome State Fault Refusal :=
  .next ((s.advance t).command 0x0703 h (fun _ => if 256 ≤ c then .wrongArg 16 else .accepted)
    (fun handle s => s.succeed handle (s.readingBytes ((s.chan c).reading.getD {}))))

end Sys2Proof.Machine
end

