-- ==== Sys2Proof/Machine/Stats.lean ====
section
/-! DEFINITION. Time-of-flight cases, statistics runs and the auxiliary frequency inputs (spec 08 R205, R207-R212). -/

namespace Sys2Proof.Machine

/-- What a delay D gives by Table 8-5 (spec 08 R205). -/
inductive Flight where
  | reversed | overflow
  | flight (tof : Nat) (near : Bool) (atRes : Bool)
  deriving DecidableEq, Repr

/-- The first case of Table 8-5 that holds for D = num / den TDC LSB (spec 08 R205). -/
def flightOf (num : Int) (den : Nat) : Flight :=
  if num ≤ -(den : Int) then .reversed
  else if num.natAbs < den then .flight 0 true true
  else if ((2 ^ 24 - 1) * den : Nat) < num then .overflow
  else .flight (roundAway num den).toNat (decide (10 * num < (3072 * den : Nat))) false

namespace State

/-- What Ply counts of a time of flight (spec 08 Table 8-5). -/
def countFlight (c : Nat) (f : Flight) (s : State) : State :=
  match f with
  | .reversed => s.count Kind.stray c 1
  | .overflow => s.count Kind.coarse c 1
  | .flight _ near atRes => (s.cond atRes (count Kind.atRes c 1)).cond near (count Kind.nearField c 1)

/-! ## Statistics runs -/

/-- The instant to the nearest TDC LSB of device time (spec 08 R191). (DESIGN CHOICE, log 39.) -/
def tdcInstant (s : State) (x : Tick) : Tick :=
  s.clock.lockedAt.getD 0 + 16 * (roundDiv (s.devTime x) 16).toNat

/-- The result of a run (spec 08 Table 8-7), each field in whole bytes (DESIGN CHOICE, log 20). -/
def StatRun.bytes (r : StatRun) (timeout : Bool) : List Byte :=
  place 0 [(4, r.count), (8, twos 8 (if r.count = 0 then 0 else quotOpen (256 * r.sum) r.count)),
    (4, if r.count = 0 then 0 else rootOpen (65536 * ((r.count : Int) * r.squares - r.sum ^ 2).toNat) (r.count ^ 2)),
    (4, r.least), (4, r.most), (2, min r.overflows 65535), (2, min r.ignored 65535), (2, min r.deadLosses 65535),
    (1, timeout.toNat)]

/-- Ends a run and completes its handle (spec 08 R209). -/
def endRun (r : StatRun) (timeout : Bool) (s : State) : State :=
  (s.modRuns fun l => l.filter fun x => x.handle ≠ r.handle).succeed r.handle (StatRun.bytes r timeout)

/-- A run with one more result, in TDC LSB. -/
def StatRun.gather (r : StatRun) (v : Nat) : StatRun :=
  { r with
    count := r.count + 1, sum := r.sum + v, squares := r.squares + v * v
    least := if r.count = 0 then v else min r.least v
    most := max r.most v }

/-- Changes each run and ends those that have gathered their results. -/
def eachRun (g : StatRun → StatRun) (s : State) : State :=
  let s1 := s.modRuns fun l => l.map g
  s1.each (s1.runs.filter fun r => 2 ^ r.order ≤ r.count) fun r s => s.endRun r false

/-- A pending start with no stop within 65,535.996 ns of it is closed by case 3 of Table 8-5 (spec 08 R208). -/
def StatRun.expire (r : StatRun) (x : Tick) : StatRun :=
  if r.open_.any fun o => decide (o + 16 * (2 ^ 24 - 1) < x) then { r with open_ := none, overflows := r.overflows + 1 }
  else r

/-- A run after an event of a timing source at stamp `x` (spec 08 R208); an event that closes an interval of one and the
same source opens no other (DEDUCED, log 21). -/
def StatRun.take (r : StatRun) (src : Source) (x : Tick) : StatRun :=
  let r := StatRun.expire r x
  match r.kind with
  | .tof _ _ _ => r
  | .interval a b =>
    match r.open_ with
    | none => if src = a then { r with open_ := some x } else r
    | some o =>
      if src = b then { (StatRun.gather r ((x - o) / 16)) with open_ := none }
      else if src = a then { r with ignored := r.ignored + 1 } else r

/-- An event of a timing source reaches the interval runs. -/
def statEvent (src : Source) (x : Tick) (s : State) : State := s.eachRun fun r => StatRun.take r src x

/-- A crossing lost to the dead time on a channel (spec 08 R192, Table 8-7). -/
def statLoss (c : Nat) (s : State) : State :=
  s.modRuns fun l => l.map fun r => match r.kind with
    | .interval a b => if a = .channel c ∨ b = .channel c then { r with deadLosses := r.deadLosses + 1 } else r
    | .tof _ _ _ => r

/-- A return is formed: it is counted and reaches the TOF runs, but for one of the first cases of Table 8-5 (spec 08 R208, 09
R224). -/
def formed (r : Ret) (s : State) : State :=
  (s.count Kind.returns r.c 1).cond (!(r.near && r.tof = 0)) (eachRun fun u => match u.kind with
    | .tof c e i =>
      if c = r.c ∧ e.all (fun e => e = r.element) ∧ i = r.index ∧ r.validity = 0 then StatRun.gather u r.tof else u
    | .interval _ _ => u)

/-- A pending start that no stop has closed in 65,535.996 ns (spec 08 R208). -/
def intervalTimeout (i : Nat) (s : State) : State :=
  s.modRuns fun l => nthMod l i fun r => StatRun.expire r s.now

/-- A run's timeout (spec 08 R209). -/
def runTimeout (i : Nat) (s : State) : State :=
  match s.runs[i]? with
  | some r => if r.deadline ≤ s.now then s.endRun r true else s
  | none => s

/-- A source on a channel in charge-integrating fallback (spec 08 R207). -/
def badSource (s : State) : Source → Bool
  | .channel c => 256 ≤ c || s.modeOf c = 2
  | .auxf i => 4 ≤ i
  | _ => false

/-- The checks of STATISTICS (spec 08 R207, Table 8-6). -/
def statCheck (s : State) (kind : StatKind) (order timeout : Nat) : Ack :=
  let bad := match kind with
    | .interval a b => s.badSource a || s.badSource b
    | .tof c e i => 256 ≤ c || e.any (fun e => 512 ≤ e) || 4 ≤ i
  if bad || order < 4 || 16 < order || timeout = 0 || 60000 < timeout then .wrongArg 0xFFFF
  else if 4 ≤ s.runs.length then .busy 1 else .accepted

/-! ## AUXF inputs -/

/-- The prescaler's ratio. -/
def prescale (s : State) (i : Nat) : Nat := if s.popt Par.prescaler i = 1 then 16 else 1

/-- The result of a frequency measurement (spec 08 R211, R212; DESIGN CHOICE, log 20). -/
def freqDone (i : Nat) (g : FreqGate) (m : Nat) (d : Tick) (s : State) : State :=
  let f := quotOpen (m * s.prescale i * (4096 * 10 ^ 12)) (max 1 d)
  (s.modAux i fun a => { a with gate := none }).completeWith g.handle 0 0 g.forced.toNat none
    (place 0 [(8, m), (8, d / 16), (8, f.toNat)])

/-- No signal: fewer than 2 edges counted in the gate (spec 08 R211). -/
def freqNone (i : Nat) (g : FreqGate) (s : State) : State :=
  (s.modAux i fun a => { a with gate := none }).completeWith g.handle 0 0 (g.forced.toNat + 2) none
    (place 0 [(8, 0), (8, 0), (8, 0)])

/-- The input is Spindle's drift comparison source (spec 08 R212, 02 R57). -/
def isDriftSource (s : State) (i : Nat) : Bool := s.popt Par.driftSource 0 = i + 1

/-- A 1 s gate of the drift comparison opens on an input at `x`, and a host measurement accepted before it takes it (spec 08
R212). -/
def openDrift (i : Nat) (x : Tick) (first : Option Tick) (s : State) : State :=
  s.modAux i fun a => { a with
    driftOpens := x, driftFirst := first, driftCount := 0
    gate := a.gate.map fun g => if g.closes = 0 ∧ g.opens ≤ x then { g with opens := x, closes := x + us 1000000 } else g }

/-- A counted edge of the drift comparison source at stamp `x`: its gates follow one another without a break, and the
first edge after a gate has closed ends the count (spec 08 R211, R212). -/
def driftEdge (i : Nat) (x : Tick) (s : State) : State :=
  let a := s.aux i
  if !s.isDriftSource i ∨ x < a.driftOpens then s
  else
    let opens := x - (x - a.driftOpens) % us 1000000
    match a.driftFirst with
    | none => s.openDrift i opens (some x)
    | some f =>
      if opens = a.driftOpens then s.modAux i fun a => { a with driftCount := a.driftCount + 1 }
      else (s.modAux i fun a => { a with
        driftDone := if a.driftCount = 0 then none else some (a.driftCount + 1, x - f) }).openDrift i opens (some x)

/-- A counted edge of an AUXF input at stamp `x` (spec 08 R208, R211). -/
def auxCounted (i : Nat) (x : Tick) (s : State) : State :=
  let s := (s.statEvent (.auxf i) x).driftEdge i x
  let a := s.aux i
  match a.gate with
  | none => s
  | some g =>
    if g.closes = 0 ∨ x < g.opens then s
    else match a.first with
      | none =>
        if g.closes ≤ x then s
        else s.modAux i fun a => { a with first := some x, counted := 0, inGate := 1 }
      | some f =>
        if g.closes ≤ x then (if a.inGate < 2 then s.freqNone i g else s.freqDone i g (a.counted + 1) (x - f))
        else s.modAux i fun a => { a with counted := a.counted + 1, inGate := a.inGate + 1 }

/-- A rising edge on AUXFi (spec 08 R210). -/
def auxEdge (i : Nat) (s : State) : State :=
  if s.popt Par.prescaler i = 0 then s.auxCounted i (s.tdcInstant s.now)
  else
    let n := (s.aux i).prescale + 1
    let s1 := s.modAux i fun a => { a with prescale := n % 16 }
    if n = 16 then s1.auxCounted i (s.tdcInstant s.now) else s1

/-- A gate has closed: no signal where fewer than 2 edges were counted in it, or where no edge has come in the 1 ms
after it (spec 08 R211, 15 Table 15-8). -/
def gateEnd (i : Nat) (s : State) : State :=
  match (s.aux i).gate with
  | none => s
  | some g =>
    if g.closes = 0 ∨ s.now < g.closes then s
    else if (s.aux i).inGate < 2 ∨ g.closes + us 1000 ≤ s.now then s.freqNone i g else s

/-- The ratio of REF_IN to the drift comparison source: of an AUXF input the device time of one of its cycles by its last
gate, in 2^-32 tick; of the camera strobe what `strobe` gives (spec 02 R57, 08 R212). -/
def driftRatio (s : State) (strobe : Option Nat) : Option Nat :=
  match s.popt Par.driftSource 0 with
  | 0 => strobe
  | i + 1 => (s.aux i).driftDone.map fun x => (quotOpen (2 ^ 32 * x.2 : Nat) (max 1 (x.1 * s.prescale i))).toNat

/-- The once-per-second measurement is due: 1 s after the last one, and with an AUXF input once its gate has closed with
an edge after it or 1 ms without one (spec 02 R57, 08 R211, R212). -/
def driftDue (s : State) : Bool :=
  (s.spindle.driftAt.all fun x => decide (x + us 1000000 ≤ s.now))
    && match s.popt Par.driftSource 0 with
      | 0 => true
      | i + 1 => (s.aux i).driftDone.isSome || decide ((s.aux i).driftOpens + us 1001000 ≤ s.now)

/-- The measurement of drift (spec 02 R57): of an input without a signal the gate in progress goes on, in which no edge
has come
yet (08 R212). -/
def takeDrift (ocxo : Bool) (strobe : Option Nat) (s : State) : State :=
  if !s.driftDue then s
  else
    let s1 := (s.modSpindle fun p => { p with driftAt := some s.now }).measureDrift ocxo (s.driftRatio strobe)
    match s.popt Par.driftSource 0 with
    | 0 => s1
    | i + 1 =>
      let s2 := s1.cond ((s.aux i).driftDone.isNone) (openDrift i (s.now - (s.now - (s.aux i).driftOpens) % us 1000000) none)
      s2.modAux i fun a => { a with driftDone := none }

/-- Another drift comparison source is chosen: its gates begin (spec 08 R212). -/
def driftChosen (s : State) : State :=
  match s.popt Par.driftSource 0 with
  | 0 => s
  | i + 1 => (s.openDrift i s.now none).modAux i fun a => { a with driftDone := none }

/-- The prescaler setting applies: a count in progress starts over (spec 08 R210). -/
def prescalerApplied (i : Nat) (s : State) : State := s.modAux i fun a => { a with prescale := 0 }

end State

/-! ## Meanings -/

/-- INTERVAL_TIMEOUT: spec 08 R208. -/
def execIntervalTimeout (t : Tick) (run : Nat) (s : State) : Host.Outcome State Fault Refusal :=
  .next ((s.advance t).intervalTimeout run)

/-- STATISTICS_TIMEOUT: spec 08 R209. -/
def execStatisticsTimeout (t : Tick) (run : Nat) (s : State) : Host.Outcome State Fault Refusal :=
  .next ((s.advance t).runTimeout run)

/-- STATISTICS: spec 08 R207. -/
def execStatistics (t : Tick) (h : Hdr) (kind : StatKind) (order timeout : Nat) (s : State) :
    Host.Outcome State Fault Refusal :=
  .next ((s.advance t).command 0x0801 h (fun s => s.statCheck kind order timeout)
    (fun handle s => s.modRuns fun l =>
      l ++ [{ handle := handle, kind := kind, order := order, deadline := s.now + us (1000 * timeout) }]))

/-- AUXF_EDGE: spec 08 R208, R210, R211. -/
def execAuxfEdge (t : Tick) (input : Nat) (s : State) : Host.Outcome State Fault Refusal :=
  .next ((s.advance t).auxEdge input)

/-- FREQUENCY_GATE_END: spec 08 R211. -/
def execFrequencyGateEnd (t : Tick) (input : Nat) (s : State) : Host.Outcome State Fault Refusal :=
  .next ((s.advance t).gateEnd input)

/-- MEASURE_FREQUENCY: spec 08 R211, R212. -/
def execMeasureFrequency (t : Tick) (h : Hdr) (input gate : Nat) (s : State) : Host.Outcome State Fault Refusal :=
  .next ((s.advance t).command 0x0802 h
    (fun s => if 4 ≤ input then .wrongArg 16 else if gate = 0 ∨ 10000 < gate then .wrongArg 0xFFFF
      else if (s.aux input).gate.isSome then .busy 1 else .accepted)
    (fun handle s => s.modAux input fun a =>
      let forced := s.isDriftSource input
      { a with
        gate := some ⟨handle, s.now, if forced then 0 else s.now + us (1000 * gate), forced⟩
        first := none, counted := 0, inGate := 0 }))

end Sys2Proof.Machine
end

