-- ==== Sys2Proof/Machine/Classes.lean ====
section
/-! DEFINITION. What Carding finds of a return in the cycle in which it receives it (spec 10 R242-R247): coherence
histories, width,
class; and the interference of a channel (R250). -/

namespace Sys2Proof.Machine

/-- The entries of a line as they stood before the cycle of instant `t` (spec 10 R247). -/
def CohLine.before (l : CohLine) (t : Tick) : List (List Nat) :=
  match l.was with
  | some (x, e) => if x = t then e else l.entries
  | none => l.entries

namespace State

/-- Carding's state of a channel. -/
def card (s : State) (c : Nat) : Carding := (s.chan c).card

/-- Changes Carding's state of a channel. -/
def modCard (c : Nat) (g : Carding → Carding) (s : State) : State :=
  s.modChan c fun ch => { ch with card := g ch.card }

/-- A channel under calibration (spec 19 R446): Carding takes nothing from it. -/
def underCal (s : State) (c : Nat) : Bool := (s.chan c).marks.any fun m => m.kind = .calibration && m.stop.isNone

/-! ## Coherence and classes (spec 10 R242-R247) -/

/-- The start of the coherence interval in which an instant lies: one begins where the 48-bit coarse count is a multiple
of its length (spec 02 R58, 10 R243). -/
def cohIntervalOf (s : State) (c : Nat) (x : Tick) : Nat :=
  let wrap := ns (2 ^ 48)
  let len := us 64 * max 1 (s.pnum Par.cohInterval (c / 16))
  s.devTime x / wrap * wrap + s.devTime x % wrap / len * len

/-- A shot of an element takes its line of a channel, the least recently used one where it has none; true where it is
the element's first shot of the interval (spec 10 R243). -/
def cohShot (c element : Nat) (x : Tick) (s : State) : Bool × State :=
  if s.underCal c then (false, s)
  else
    let iv := s.cohIntervalOf c x
    let ls := (s.card c).lines
    match ls.find? fun l => l.element = element with
    | some l =>
      let first := l.interval ≠ some iv
      (first, s.modCard c fun k => { k with lines := k.lines.map fun l =>
        if l.element = element then { l with used := s.now, interval := some iv } else l })
    | none =>
      let oldest := ls.foldl (fun m l => min m l.used) s.now
      let rest := if ls.length < 4 then ls else ls.eraseIdx (ls.findIdx fun l => l.used = oldest)
      (true, s.modCard c fun k => { k with lines := rest ++ [{ element := element, used := s.now, interval := some iv }] })

/-- The entry of a finalised first shot (spec 10 R243): at most 8, the oldest displaced. -/
def cohEntry (c element : Nat) (tofs : List Nat) (s : State) : State :=
  s.modCard c fun k => { k with lines := k.lines.map fun l =>
    if l.element = element then { l with
      entries := (l.entries ++ [tofs]).drop (l.entries.length - 7), was := some (s.now, CohLine.before l s.now) } else l }

/-- Clears every history of a channel; `gate` where the interval itself may differ (spec 10 R235). -/
def cohClear (c : Nat) (interval : Bool) (s : State) : State :=
  s.modCard c fun k => { k with lines := k.lines.map fun l =>
    { l with entries := [], was := none, interval := if interval then none else l.interval } }

/-- h and c of a return: against the history before the cycle (spec 10 R243, R247). -/
def cohOf (s : State) (r : Ret) : Nat × Nat :=
  match (s.card r.c).lines.find? fun l => l.element = r.element with
  | none => (0, 0)
  | some l =>
    let es := CohLine.before l s.now
    (es.length, (es.filter fun e => e.any fun x => decide (((x : Int) - r.tof).natAbs ≤ s.pnum Par.cohGate r.c)).length)

/-- The wide test (spec 10 R244); a calibrated expected width stands in place of the host's (19 R448). -/
def wide (s : State) (r : Ret) : Bool :=
  let b := r.c / 16
  let i := r.amplitude.log2
  let e := if r.histogram then s.pnum Par.histWidth b
    else (Store.read none s.cal.tables.widths (16 * b + i)).getD (s.paramAt Par.expWidth i b).num.toNat
  s.modeOf r.c ≠ 1 && (r.histogram || s.modeOf r.c = 0) && e ≠ 0 && s.pnum Par.wideRatio b * e ≤ 16 * r.width

/-- The channel was interfered before the present cycle (spec 10 R247). -/
def interferedOf (s : State) (c : Nat) : Bool :=
  match (s.card c).interferedWas with
  | some (x, v) => if x = s.now then v else (s.card c).interfered
  | none => (s.card c).interfered

/-- Table 10-4 (spec 10 R245). -/
def classOf (s : State) (r : Ret) : Nat :=
  let k := s.card r.c
  let hc := s.cohOf r
  let need := s.pnum Par.cohThreshold r.c
  let near := r.tof ≤ 256 * s.pnum Par.scatterLimit (r.c / 16)
  if r.charge ∨ k.blinded then 3
  else if r.histogram then (if s.wide r && near then 1 else 0)
  else if hc.1 < need then 3
  else if need ≤ hc.2 then
    if s.wide r && near && r.amplitude ≤ s.pnum Par.diffuseCeil (r.c / 16) then 1 else 0
  else if s.interferedOf r.c ∨ !near then 2
  else 1

/-- The return is dropped (spec 10 R246). -/
def drops (s : State) (c cls : Nat) : Bool :=
  s.popt Par.cardMode c = 1 && ((cls = 1 && s.popt Par.dropMask c ≠ 1) || (cls = 2 && s.popt Par.dropMask c ≠ 0))

/-- Carding receives a return: its class and fate are those of this cycle (spec 10 R235, R246, R247; DEDUCED, log 125). -/
def receive (r : Ret) (s : State) : State :=
  let cls := s.classOf r
  s.modCard r.c fun k => { k with
    inbox := k.inbox ++ [{ r with cls := cls, wide := s.wide r, seen := decide (1 ≤ (s.cohOf r).2), dropped := s.drops r.c cls }] }

/-! ## Interference (spec 10 R250) -/

/-- The last counting period of a channel is judged on its unmatched pulses and open time as they stand: it makes the channel
interfered as soon as its count suffices, and ends that once no slot that opened before `edge`, its end, can raise the count
any more. (DEDUCED, log 126.) -/
def assess (c : Nat) (edge : Tick) (s : State) : State :=
  match (s.card c).last with
  | none => s
  | some (u, open_, high, low) =>
    let limit := s.pnum Par.interfThreshold (c / 16) * open_
    let s1 := s.modCard c fun k => { k with
      highRun := if limit ≤ us 16 * u then high + 1 else 0, lowRun := if us 32 * u < limit then low + 1 else 0 }
    let m := s1.card c
    let late := (s.chan c).slots.any fun w => decide (w.openAt < edge)
    let new := if m.interfered then decide (m.lowRun < 8) || late else decide (2 ≤ m.highRun)
    if new = m.interfered then s1
    else ((s1.modCard c fun k => { k with
      interfered := new, interferedWas := some (s.now, s.interferedOf c), highRun := 0, lowRun := 0, last := none }).count
        Kind.interfered c 1).health (if new then 0x0142 else 0x0143) c [(4, u), (4, (quotOpen open_ 4096).toNat)] []

/-- The interference of a channel at the end of a period: its open time in ticks decides whether it counts. -/
def interferenceStep (c : Nat) (s : State) : State :=
  let k := s.card c
  let open_ := k.openTime + (if k.openCount = 0 then 0 else s.now - k.openSince)
  let s0 := s.modCard c fun k => { k with
    unmatched := 0, openTime := 0, openSince := s.now, last := none }
  if open_ < us 64 ∨ s.underCal c then s0
  else (s0.modCard c fun k' => { k' with last := some (k.unmatched, open_, k.highRun, k.lowRun) }).assess c s.now

/-- Unmatched in-window pulses, by their stops (2^-16 ns), reach the counts (spec 09 R221, R224, 10 R250): each counts for
the assessment period in which its stop falls, the present one or the one before. -/
def unmatched (c : Nat) (stops : List Int) (s : State) : State :=
  let old := (stops.filter fun x => x < ((16 * s.clock.periodAt : Nat) : Int)).length
  let s1 := (s.cond (stops ≠ []) (count Kind.unmatched c stops.length)).modCard c fun k => { k with
    unmatched := k.unmatched + (stops.length - old)
    last := k.last.map fun l => (l.1 + old, l.2) }
  s1.assess c s.clock.periodAt

end State

end Sys2Proof.Machine
end

