-- ==== Sys2Proof/Machine/Ply.lean ====
section
/-! DEFINITION. Ply (spec 09 R213-R224): correlator slots, hypotheses, clusters and the returns they give. Stops are in
2^-16 ns, delays in 1/12 of that. -/

namespace Sys2Proof.Machine

/-- A hypothesis of a slot (spec 09 R217, R218): the slot's place in its channel's list, its support as (sub-pulse,
pulse), the delay, n^2 times the mean square residual, and the deadline in 1/12 of 2^-16 ns. -/
structure Hyp where
  slot : Nat
  order : Nat
  support : List (Nat × Pulse)
  delay : Int
  spread : Int
  deadline : Int
  deriving DecidableEq, Repr

/-- The nearest of `ps` to `x` within `e`, a tie to the earlier stop (spec 09 R217). -/
def nearest (ps : List Pulse) (x : Int) (e : Nat) : Option Pulse :=
  (ps.filter fun q => (q.stop - x).natAbs ≤ e).foldl
    (fun (best : Option Pulse) q => match best with
      | none => some q
      | some b =>
        let dq := (q.stop - x).natAbs
        let db := (b.stop - x).natAbs
        if dq < db ∨ (dq = db ∧ q.stop < b.stop) then some q else some b) none

/-- The numbers of a support's pulses. (DEDUCED, log 48.) -/
def supportIds (l : List (Nat × Pulse)) : List Nat := l.map fun x => x.2.id

/-- Every pulse of `a` stands in `b`. -/
def idsIn (a b : List Nat) : Bool := a.all fun i => i ∈ b

/-- The measures of a support (spec 09 R218): terms about the start `S` (2^-16 ns). -/
def measure (offs : List Nat) (start : Int) (supp : List (Nat × Pulse)) : Int × Int :=
  let n := max 1 supp.length
  let xs := supp.map fun q => q.2.stop - 65536 * (nth 0 offs q.1 : Int) - start
  let sum := xs.sum
  (sum * (12 / n : Nat), n * (xs.foldl (fun a x => a + x * x) 0) - sum * sum)

namespace State

/-- The delivery allowance of a channel, in ticks (spec 09 R219). -/
def allowance (s : State) (c : Nat) : Tick :=
  if s.modeOf c = 1 then ns 40 else 8 * (s.setOf c).delay + 24 * sample + ns 16

/-- The supports of a slot's candidates: one for each set of pulses, in order of discovery (spec 09 R217). A set that
fits under
two numberings of the sub-pulses is one hypothesis, with the numbering found first (DESIGN CHOICE, log 152). -/
def Slot.supports (w : Slot) : List (List (Nat × Pulse)) :=
  let subs := w.offs.mapIdx fun i o => (i, o)
  (w.pulses.flatMap fun p => subs.map fun j =>
    subs.filterMap fun i =>
      (nearest w.pulses (p.stop - 65536 * (j.2 : Int) + 65536 * (i.2 : Int)) (8192 * w.tol)).map fun q => (i.1, q)).foldl
    (fun acc x => if acc.any fun y => idsIn (supportIds x) (supportIds y) && idsIn (supportIds y) (supportIds x)
      then acc else acc ++ [x]) []

/-- The hypotheses of a slot: strict subsets and those below the code's requirement dropped, and of pulses whose clusters
have
been resolved only those that a later pulse joins (spec 09 R217-R219, R221). (DEDUCED, log 48.) -/
def slotHyps (s : State) (c i : Nat) (w : Slot) : List Hyp :=
  let all := Slot.supports w
  let keep := all.filter fun x => w.k ≤ x.length
    && x.any (fun q => x.all fun r => decide (r.2.fresh ≤ q.2.id)) && !(all.any fun y =>
    idsIn (supportIds x) (supportIds y) && !idsIn (supportIds y) (supportIds x))
  if w.noHyp then []
  else keep.map fun x =>
    let start := 16 * w.start
    let m := measure w.offs start x
    let base := 12 * start + m.1 + (12 * (65536 * w.offs.getLastD 0 + 8192 * w.tol + 16 * s.allowance c) : Nat)
    ⟨i, w.order, x, m.1, m.2, max base (if w.decided then base else (192 * w.decideAt : Nat))⟩

/-- Every hypothesis of a channel. -/
def hyps (s : State) (c : Nat) : List Hyp :=
  ((s.chan c).slots.mapIdx fun i w => s.slotHyps c i w).flatten

/-- Two hypotheses share a pulse. -/
def Hyp.shares (a b : Hyp) : Bool := (supportIds a.support).any fun i => i ∈ supportIds b.support

/-- The hypotheses joined to `seed` by chains of shared pulses of length up to the fuel (spec 09 R220). -/
def component (all : List Hyp) : Nat → List Hyp → List Hyp
  | 0, seed => seed
  | fuel + 1, seed => component all fuel (all.filter fun h => seed.any fun g => g = h || Hyp.shares g h)

/-- The clusters of a list of hypotheses (spec 09 R220). -/
def clusters : Nat → List Hyp → List (List Hyp)
  | 0, _ => []
  | fuel + 1, hs => match hs with
    | [] => []
    | h :: _ =>
      let cl := component hs hs.length [h]
      cl :: clusters fuel (hs.filter fun x => x ∉ cl)

/-- Rank order: more support, smaller residual, earlier commit order, smaller delay (spec 09 R220). -/
def Hyp.before (a b : Hyp) : Bool :=
  let na := a.support.length
  let nb := b.support.length
  if na ≠ nb then nb < na
  else if a.spread ≠ b.spread then a.spread < b.spread
  else if a.order ≠ b.order then a.order < b.order
  else a.delay ≤ b.delay

/-- The ambiguous flag: some rival with which it shares a pulse ranks below it only on commit order or delay (spec 09
R220). -/
def Hyp.ambiguous (h : Hyp) (below : List Hyp) : Bool :=
  below.any fun r => Hyp.shares h r && r.support.length = h.support.length && r.spread = h.spread

/-- The timing source held by most pulses, a tie to the lower code (spec 09 Table 9-2). -/
def majority (l : List Nat) : Nat :=
  (List.range 4).foldl (fun best k => if l.count best < l.count k then k else best) 0

/-- The amplitude of a return of range `r` (spec 09 Table 9-2). -/
def amplitude (s : State) (c r : Nat) (correct : Bool) (supp : List (Nat × Pulse)) : Nat :=
  let sum := supp.foldl (fun (a : Int) q =>
    let g := if correct then (Store.read none s.cal.tables.gain (4 * c + q.2.tag)).getD 4096 else 4096
    a + q.2.value * ((g * 4 ^ (3 + r - q.2.tag) : Nat) : Int)) 0
  (clampInt 0 65535 (roundDiv sum (4096 * 64 * max 1 supp.length))).toNat

/-- The return that a kept hypothesis gives where its time of flight is a range (spec 09 R223). -/
def returnOf (s : State) (c : Nat) (w : Slot) (h : Hyp) (amb : Bool) (tof : Nat) (near : Bool) : Ret :=
  let e := s.entry w.entry
  let n := max 1 h.support.length
  let tdc := s.modeOf c = 1
  let tag := (h.support.head?.map fun q => q.2.tag).getD 0
  let any := fun (p : Pulse → Bool) => h.support.any fun q => p q.2
  { delay := h.delay, c := c, element := w.element, tag := tag, epoch := e.epoch, lt := e.lt, tof := tof
    validity := h.support.foldl (fun v q => max v q.2.validity) (if e.pickoff then e.pickValidity else 0)
    source := if tdc then 2 else majority (h.support.map fun q => q.2.source)
    near := near, predicted := e.holdover || e.freeRun
    amplitude := if tdc then 0 else s.amplitude c tag w.correct h.support
    width := (clampInt 0 65535 (roundDiv (h.support.foldl (fun a q => a + q.2.width) 0 : Nat) (256 * n))).toNat
    clipped := !tdc && any fun p => p.ovr
    disagree := any fun p => p.disagree
    ambiguous := amb, pulseLimit := w.pulseLimit, pickMissing := e.pickMissing, stampLimit := w.stampLimit
    support := maskOf (h.support.map fun q => q.1)
    residual := min 65535 (rootOpen h.spread.toNat (256 * n * n)), entry := w.entry, closeAt := w.closeAt }

/-- Keeps a hypothesis: its return waits in its slot in order of delay (spec 09 R222, R223). -/
def keepHyp (c : Nat) (h : Hyp) (amb : Bool) (s : State) : State :=
  let w := nth {} (s.chan c).slots h.slot
  let f := flightOf h.delay 3072
  let s1 := s.countFlight c f
  match f with
  | .reversed | .overflow => s1
  | .flight tof near _ =>
    let r := s.returnOf c w h amb tof near
    s1.modChan c fun ch => { ch with slots := nthMod ch.slots h.slot fun w => { w with
      kept := w.kept.filter (fun x => x.delay ≤ r.delay) ++ [r] ++ w.kept.filter (fun x => r.delay < x.delay) } }

/-- Resolves a cluster (spec 09 R220): in rank order each member, dropped or kept, claims what is left of its support;
what the kept ones claim leaves the slots, and what is released may form new hypotheses only with pulses offered later
(R221). -/
def resolve (c : Nat) (cl : List Hyp) (s : State) : State :=
  let rank := sortBy Hyp.before cl
  let step := fun (acc : (List Nat × List Nat) × State) (x : Nat × Hyp) =>
    let h := x.2
    let w := nth {} (acc.2.chan c).slots h.slot
    let mine := h.support.filter fun q => q.2.id ∉ acc.1.1
    let claimed := acc.1.1 ++ supportIds mine
    if mine.length < w.k then ((claimed, acc.1.2), acc.2.count Kind.ambiguity c 1)
    else
      let m := measure w.offs (16 * w.start) mine
      let amb := Hyp.ambiguous h (rank.drop (x.1 + 1))
      ((claimed, acc.1.2 ++ supportIds mine), acc.2.keepHyp c { h with support := mine, delay := m.1, spread := m.2 } amb)
  let res := (rank.mapIdx fun i h => (i, h)).foldl step (([], []), s)
  let free := fun (p : Pulse) (next : Nat) =>
    if cl.any fun h => p.id ∈ supportIds h.support then { p with fresh := next } else p
  res.2.modChan c fun ch => { ch with slots := ch.slots.map fun w => { w with
    pulses := (w.pulses.filter fun p => p.id ∉ res.1.2).map fun p => free p ch.pulseId, rest := w.rest.filter fun x => x.2 ∉ res.1.2 } }

/-- A calibration shot's return of validity 0 is kept for the calibration (spec 19 R451). -/
def calReturn (e : Entry) (r : Ret) (s : State) : State :=
  s.cond (r.validity = 0) (modCal fun k => { k with run := k.run.map fun x => { x with
    ports := Store.modify {} x.ports (elemPort e.element) fun p => { p with rets := p.rets ++ [(r.amplitude, r.tof)] } } })

/-- Passes one return of slot `i` to Carding (spec 09 R222); a calibration shot's goes only to the calibration (19 R454). -/
def passReturn (c i : Nat) (r : Ret) (s : State) : State :=
  let w := nth {} (s.chan c).slots i
  let cal := (s.entry w.entry).cal
  if w.maxReturns ≤ w.passed then s.count Kind.excess c 1
  else
    let r := { r with index := w.passed, pulseLimit := w.pulseLimit, stampLimit := w.stampLimit }
    let s1 := s.modChan c fun ch => { ch with
      slots := nthMod ch.slots i fun w => { w with
        passed := w.passed + 1, tofs := if r.validity = 0 then w.tofs ++ [r.tof] else w.tofs } }
    if cal then s1.calReturn (s.entry w.entry) r
    else (s1.formed r).receive r

/-- Passes the kept hypotheses of slot `i` whose rivals of smaller delay are all resolved: `least` is the smallest
delay still open (spec 09 R222). -/
def passSlot (c i : Nat) (least : Option Int) (s : State) : State :=
  let w := nth {} (s.chan c).slots i
  let go := fun (r : Ret) => least.all fun d => decide (r.delay ≤ d)
  let s1 := s.modChan c fun ch => { ch with slots := nthMod ch.slots i fun w => { w with
    kept := w.kept.filter fun r => !go r } }
  s1.each (w.kept.filter go) (passReturn c i)

/-- Passes what may leave every slot of a channel. -/
def passReturns (c : Nat) (s : State) : State :=
  let hs := s.hyps c
  s.each (List.range (s.chan c).slots.length) fun i s =>
    s.passSlot c i ((hs.filter fun h => h.slot = i).foldl
      (fun (m : Option Int) h => some (match m with | none => h.delay | some d => min d h.delay)) none)

/-- Resolves the clusters of a channel that `pick` names, then passes returns on. -/
def resolveClusters (c : Nat) (pick : List Hyp → Bool) (s : State) : State :=
  let hs := s.hyps c
  (s.each ((clusters hs.length hs).filter pick) (resolve c)).passReturns c

/-- Resolves every cluster whose latest deadline has come (spec 09 R219, R220). -/
def clusterResolution (c : Nat) (s : State) : State :=
  s.resolveClusters c fun cl => cl.all fun h => decide (h.deadline ≤ (192 * s.now : Nat))

/-! ## Slots and pulses -/

/-- Ply's expected pickoff instant of a shot (spec 08 R198). -/
def pickExpected (s : State) (e : Entry) : Int :=
  (e.planned : Int) + 16 * (Store.read none s.cal.tables.path e.element).getD 0

/-- The pickoff tolerance of a reference channel, in ticks. -/
def pickTol (s : State) (c : Nat) : Tick := sample * s.pnum Par.pickTolerance c

/-- When Ply decides a shot's pickoff (spec 08 R200). -/
def pickDecideAt (s : State) (e : Entry) : Tick :=
  (s.pickExpected e + (s.pickTol e.refCh + min (s.allowance e.refCh) (ns 48) : Nat)).toNat

/-- A correlator slot opens for entry `i` on channel `c`, with the channel's Ply parameters in force (spec 09 R214,
R225). -/
def openSlot (i c : Nat) (closeAt : Tick) (firstShot : Bool) (s : State) : State :=
  let e := s.entry i
  let w : Slot :=
    { entry := i, order := e.order, element := e.element, start := (e.planned : Int) + 16 * e.fireOff
      decided := e.pickDecided, decideAt := s.pickDecideAt e, openAt := e.planned, closeAt := closeAt
      k := codeK e.code, offs := codeOffsets e.code, tol := s.pnum Par.matchTol c
      maxReturns := s.pnum Par.maxReturns c, correct := s.popt Par.ampCorrect c = 1
      noHyp := e.accumulate && s.popt Par.decodeMode c = 1, firstShot := firstShot }
  s.modChan c fun ch => { ch with slots := ch.slots ++ [w] }

/-- A stop lies in a window (stop in 2^-16 ns). -/
def stopIn (a b : Tick) (stop : Int) : Bool := (16 * a : Nat) ≤ stop && stop < (16 * b : Nat)

/-- A slot takes a pulse in its window: the first 8 in order of stop, a pulse that one of earlier stop displaces being no
longer offered (spec 09 R215). (DEDUCED, log 49.) -/
def Slot.take (w : Slot) (p : Pulse) : Slot :=
  if !stopIn w.openAt w.closeAt p.stop then w
  else
    let n := (w.taken.filter fun x => decide (x.1 ≤ p.stop)).length
    let l := w.taken.take n ++ [(p.stop, p.id)] ++ w.taken.drop n
    let out := (l.drop 8).map fun x => x.2
    { w with
      taken := l.take 8, pulses := (w.pulses ++ [p]).filter fun q => q.id ∉ out
      pulseLimit := w.pulseLimit || out ≠ []
      rest := w.rest ++ ((w.pulses ++ [p]).filter fun q => q.id ∈ out).map fun q => (q.stop, q.id) }

/-- A slot that a stamp alone is not offered to holds its pulse for the count of unmatched ones only (spec 08 R193). -/
def Slot.pass (w : Slot) (p : Pulse) : Slot :=
  if stopIn w.openAt w.closeAt p.stop then { w with rest := w.rest ++ [(p.stop, p.id)] } else w

/-- Offers a pulse to the slots of its channel but for those of `blocked` entries (spec 08 R193, 09 R215, R221). (DEDUCED,
log 49.) -/
def offerPulse (c : Nat) (p : Pulse) (blocked : List Nat) (s : State) : State :=
  let p := { p with id := (s.chan c).pulseId }
  let ch := s.chan c
  let hit := ch.slots.filter fun w => stopIn w.openAt w.closeAt p.stop
  let full := (hit.filter fun w => w.entry ∉ blocked && 8 ≤ w.taken.length).length
  let late := ch.pastWins.any fun w => stopIn w.1 w.2 p.stop
  let s1 := (s.modChan c fun ch => { ch with
    pulseId := ch.pulseId + 1
    slots := ch.slots.map fun w => if w.entry ∈ blocked then Slot.pass w p else Slot.take w p }).cond late
      (count Kind.late c 1)
  let s2 := s1.cond (full ≠ 0) (count Kind.pulseLimit c full)
  if hit ≠ [] then s2
  else if late then s2.unmatched c [p.stop]
  else s2.count Kind.evOutside c 1

/-- The slot of entry `i` on channel `c`, by its place. -/
def slotNo (s : State) (i c : Nat) : Nat := (s.chan c).slots.findIdx fun w => w.entry = i

/-- A slot comes to its finalisation (spec 09 R221): its clusters are resolved and its returns passed. -/
def settleSlot (i c : Nat) (s : State) : State :=
  let k := s.slotNo i c
  (s.resolveClusters c fun cl => cl.any fun h => h.slot = k).passSlot c k none

/-- A finalised slot goes (spec 09 R221): its pulses that no other slot holds go to Carding. -/
def closeSlot (i c : Nat) (s : State) : State :=
  let k := s.slotNo i c
  let w := nth {} (s.chan c).slots k
  let others := (s.chan c).slots.eraseIdx k
  let held := fun (id : Nat) => others.any fun o => (o.pulses.any fun p => p.id = id) || o.rest.any fun x => x.2 = id
  let lost := ((w.pulses.map fun p => (p.stop, p.id)) ++ w.rest).filter fun x => !held x.2
  (s.modChan c fun ch => { ch with
    slots := others
    pastWins := (ch.pastWins.filter fun x => s.now < x.2 + us 100) ++ [(w.openAt, w.closeAt)] }).unmatched c (lost.map fun x => x.1)

end State

/-! ## Meanings -/

/-- CLUSTER_RESOLUTION: spec 09 R219-R222. -/
def execClusterResolution (t : Tick) (c : Nat) (s : State) : Host.Outcome State Fault Refusal :=
  .next ((s.advance t).clusterResolution c)

end Sys2Proof.Machine
end

