-- ==== Sys2Proof/Machine/Timing.lean ====
section
/-! DEFINITION. The comparator path and the stop (spec 08 R190-R206): TDC stamps, their hand-off, the pairing of events
with stamps, and the pickoff of a shot. -/

namespace Sys2Proof.Machine

/-- The causes that mark TDC stamps (spec 08 R195). -/
def MarkKind.analogue (k : MarkKind) : Bool :=
  k = .range || k = .clamp || k = .bias || k = .biasFault || k = .openInput || k = .calibration || k = .sag

namespace State

/-- A declared reference channel (spec 08 R197). -/
def declared (s : State) (c : Nat) : Bool := s.popt Par.declaredRef c = 1

/-- The validity of a TDC stamp at leading stamp `x` (spec 08 R195). -/
def stampValidity (s : State) (c : Nat) (x : Tick) : Nat :=
  max (marksAt ((s.marksOf c).filter fun m => m.kind.analogue) x) (if s.boot.plls.getLsbD 0 then 0 else 3)

/-- A leading crossing of the analogue comparator (spec 08 R191-R193); `tot` is its time over threshold in 0.25 ns. -/
def crossing (c tot : Nat) (s : State) : State :=
  let ch := s.chan c
  if s.modeOf c = 2 then s
  else if s.now < ch.fallsAt then (s.count Kind.deadTime c 1).statLoss c
  else
    let tooSoon := ch.lastLead.any fun l => decide (10 * (s.now - l) < 49152)
    let s := s.modChan c fun ch => { ch with lastLead := some s.now, fallsAt := s.now + 1024 * tot }
    if tooSoon then (s.count Kind.deadTime c 1).statLoss c
    else
      let x := s.tdcInstant s.now
      let s := s.statEvent (.channel c) x
      if ns 62 < ch.stBusy - s.now then
        (s.modChan c fun ch => { ch with stOverflow := true }).count Kind.stOverflow c 1
      else s.modChan c fun ch => { ch with
        forming := ch.forming ++ [{ lead := x, tot := min tot 255, tag := s.rangeAt c x, validity := s.stampValidity c x
                                    inWindow := s.inWindow c x, overflow := ch.stOverflow }]
        stOverflow := false, stBusy := max ch.stBusy s.now + ns 2 }

/-- The corrected analogue stamp of R202, in 2^-16 ns. -/
def analogueStamp (s : State) (c : Nat) (z : Stamp) : Int :=
  let o := (Store.read none s.cal.tables.analogue c).getD 0
  let w := fun i => Store.read 0 s.cal.tables.walk ((4 * (c / 16) + z.tag) * 64 + min i 63)
  let k := if z.tot = 255 then 4 * w 63 else 4 * w (z.tot / 4) + (w (z.tot / 4 + 1) - w (z.tot / 4)) * (z.tot % 4 : Nat)
  16 * (z.lead : Int) - 256 * o + 64 * k

/-! ## Pickoffs -/

/-- The element of a shot has a calibrated path delay; else its pickoff is not claimed (spec 19 Table 19-1). -/
def pickable (s : State) (e : Entry) : Bool := !e.cal && (Store.read none s.cal.tables.path e.element).isSome

/-- Shots whose pickoff on channel `c` is not yet decided and that may claim one. -/
def pickWaiting (s : State) (c : Nat) : List (Nat × Entry) :=
  s.skein.filter fun x =>
    x.2.unretired && x.2.refOn && x.2.refDecl && x.2.refCh = c && !x.2.pickDecided && s.pickable x.2

/-- A stamp may serve a calibration shot: within 4 ns of an error of at most 200 ns (spec 19 R451). (DEDUCED, log 80.) -/
def calPick (c : Nat) (x : Int) (e : Entry) : Bool :=
  e.cal && e.refOn && e.refDecl && decide (e.refCh = c) && e.unfinal ≠ [] &&
    decide ((x - 16 * (e.planned : Int)).natAbs ≤ 16 * ns 204)

/-- How far a pickoff stamp lies from a shot's expected instant, 2^-16 ns. -/
def pickDistance (s : State) (e : Entry) (x : Int) : Nat := (x - 16 * s.pickExpected e).natAbs

/-- A pickoff stamp lies within tolerance of some shot still undecided. -/
def pickWanted (s : State) (c : Nat) (x : Int) : Bool :=
  ((s.pickWaiting c).any fun y => s.pickDistance y.2 x ≤ 16 * s.pickTol c)
    || s.skein.any fun y => calPick c x y.2

/-- A pickoff stamp arrives on a declared reference: held for its shot, or unclaimed (spec 08 R197, R198, R200).
(DEDUCED, log 52.) -/
def pickArrive (c : Nat) (x : Int) (v : Nat) (s : State) : State :=
  if s.pickWanted c x then s.modChan c fun ch => { ch with pickoffs := ch.pickoffs ++ [(x, v)] }
  else s.count Kind.unclaimed c 1

/-- The stamp is the shot's to claim: of validity 0 or 1, within tolerance, and no undecided shot is nearer, a tie to
the shot committed first (spec 08 R198). -/
def pickMine (s : State) (c i : Nat) (e : Entry) (z : Int × Nat) : Bool :=
  let d := s.pickDistance e z.1
  s.pickable e && z.2 ≤ 1 && d ≤ 16 * s.pickTol c && (s.pickWaiting c).all fun y =>
    y.1 = i || d < s.pickDistance y.2 z.1 || (d = s.pickDistance y.2 z.1 && e.order ≤ y.2.order)

/-- The start of a shot is known: its slots take it (spec 09 R214). -/
def startKnown (i : Nat) (s : State) : State :=
  let e := s.entry i
  s.each e.unfinal fun c s => s.modChan c fun ch => { ch with
    slots := ch.slots.map fun w =>
      if w.entry = i then { w with start := (e.planned : Int) + 16 * e.fireOff, decided := true } else w }

/-- Ply decides a shot's pickoff (spec 08 R198-R200). Of several stamps that would do, the first is the one that Ply formed
first (DESIGN CHOICE, log 151). -/
def decidePickoff (i : Nat) (s : State) : State :=
  let e := s.entry i
  let c := e.refCh
  if e.state ≠ .fired ∨ e.pickDecided ∨ s.now < s.pickDecideAt e then s
  else
    match (s.chan c).pickoffs.find? (s.pickMine c i e) with
    | some z =>
      let off := roundAway (z.1 - 16 * s.pickExpected e) 256
      let s1 := (s.modEntry i fun e => { e with
        pickDecided := true, pickoff := true, fireOff := off, pickValidity := z.2 }).modChan c fun ch => { ch with
        pickoffs := ch.pickoffs.erase z }
      let gone := (s1.chan c).pickoffs.filter fun y => !s1.pickWanted c y.1
      ((s1.modChan c fun ch => { ch with pickoffs := ch.pickoffs.filter fun y => y ∉ gone }).count Kind.unclaimed c
        gone.length).startKnown i
    | none =>
      let s1 := s.modEntry i fun e => { e with pickDecided := true, pickMissing := true }
      let gone := (s1.chan c).pickoffs.filter fun y => !s1.pickWanted c y.1
      ((s1.modChan c fun ch => { ch with pickoffs := ch.pickoffs.filter fun y => y ∉ gone }).count Kind.unclaimed c
        gone.length).startKnown i

/-! ## Stops -/

/-- A stamp used alone makes a pulse (spec 09 R213), or a pickoff on a declared reference. -/
def stampAlone (c : Nat) (z : Stamp) (s : State) : State :=
  let a := s.analogueStamp c z
  if s.declared c then s.pickArrive c a z.validity
  else if !z.inWindow then s
  else s.offerPulse c { stop := a, source := 2, validity := z.validity, tag := z.tag, width := 1024 * z.tot } z.blocked

/-- The channel's timing mode makes stamps alone stop (spec 08 R201). -/
def analogueOnly (s : State) (c : Nat) : Bool := s.popt Par.timing c = 2

/-- Stamps that no event can pair with any more leave Ply; in analogue-only mode each is used alone (spec 08 R201;
DESIGN CHOICE, log 22), and on a declared reference in another mode it is an unclaimed one (R197). -/
def dropStamps (c : Nat) (s : State) : State :=
  let ch := s.chan c
  let w := sample * s.pnum Par.pairWindow c
  let busy := (s.cmp c (s.popt Par.plySource c)).inEvent || ch.events ≠ []
  let old := ch.stamps.filter fun z => !busy && z.lead + w + s.allowance c ≤ s.now
  let s1 := s.modChan c fun ch => { ch with stamps := ch.stamps.filter fun z => z ∉ old }
  if s.analogueOnly c then s1.each old (stampAlone c)
  else s1.cond (s.declared c && old ≠ []) (count Kind.unclaimed c old.length)

/-- The slots that a stamp is not offered to: those of the windows it lies in that have had 8 stamps (spec 08 R193). -/
def stampBlocked (s : State) (c : Nat) (z : Stamp) : List Nat :=
  ((s.chan c).slots.filter fun w => w.openAt ≤ z.lead && z.lead < w.closeAt && 8 ≤ w.stamps).map fun w => w.entry

/-- A stamp is offered to the windows it lies in, at most 8 to each; one outside every window is counted (spec 08
R193). -/
def offerStamp (c : Nat) (z : Stamp) (s : State) : State :=
  let inside := fun (w : Slot) => w.openAt ≤ z.lead && z.lead < w.closeAt
  let over_ := ((s.chan c).slots.filter fun w => inside w && 8 ≤ w.stamps).length
  let s1 := (s.modChan c fun ch => { ch with
    slots := ch.slots.map fun w =>
      if !inside w then w
      else if w.stamps < 8 then { w with stamps := w.stamps + 1 }
      else { w with stampLimit := true } }).cond (over_ ≠ 0) (count Kind.stampLimit c over_)
  s1.cond (!z.inWindow && !s.declared c) (count Kind.stOutside c 1)

/-- The first stamp not yet handed on goes to Ply and Carding, no earlier than 24 ns after its crossing and complete, with
its trailing crossing (spec 08 R191, R193). -/
def handoff (c : Nat) (s : State) : State :=
  match (s.chan c).forming with
  | [] => s
  | z :: rest =>
    if s.now < z.lead + max (ns 24) (1024 * z.tot) then s
    else
      let z := { z with blocked := s.stampBlocked c z }
      let s1 := (s.modChan c fun ch => { ch with forming := rest }).offerStamp c z
      if s.modeOf c = 1 then s1.stampAlone c z
      else (s1.modChan c fun ch => { ch with stamps := ch.stamps ++ [z] }).dropStamps c

/-- Table 8-4: the stop (2^-16 ns), its source, its validity and the timing-disagree flag (spec 08 R203, R204). -/
def selectStop (s : State) (c : Nat) (e : Event) (pair : Option Stamp) : Int × Nat × Nat × Bool :=
  let d := 16 * (e.peak : Int)
  match pair with
  | none => (d, 1, e.validity, false)
  | some z =>
    let a := s.analogueStamp c z
    let both := max e.validity z.validity
    let mode := s.popt Par.timing c
    if mode = 2 then (a, 2, both, false)
    else if mode = 1 ∨ (Store.read none s.cal.tables.analogue c).isNone then (d, 1, e.validity, false)
    else if e.ovr then (a, 2, both, false)
    else if 256 * s.pnum Par.consistency c < (a - d).natAbs then (d, 1, e.validity, true)
    else (d + s.pnum Par.combWeight c * ((a - d) / 16), 0, both, false)

/-- Ply pairs the channel's oldest waiting event and takes its pulse or pickoff (spec 08 R201-R204, 09 R213); it waits
while a stamp that the event could pair with is not yet handed on. -/
def pairEvent (c : Nat) (s : State) : State :=
  match (s.chan c).events with
  | [] => s.dropStamps c
  | e :: rest =>
    let w := sample * s.pnum Par.pairWindow c
    let near := fun (z : Stamp) => e.peak - w ≤ z.lead && z.lead ≤ e.peak
    if (s.chan c).forming.any near then s
    else
      let pair := ((s.chan c).stamps.filter near).getLast?
      let s1 := s.modChan c fun ch => { ch with
        events := rest, stamps := ch.stamps.filter fun z => some z ≠ pair }
      let r := s1.selectStop c e pair
      let s2 := s1.cond r.2.2.2 (count Kind.disagree c 1)
      let s3 :=
        if s.declared c then s2.pickArrive c r.1 r.2.2.1
        else if !e.inWindow then s2.count Kind.evOutside c 1
        else s2.offerPulse c
          { stop := r.1, source := r.2.1, validity := r.2.2.1, tag := e.tag, ovr := e.ovr, disagree := r.2.2.2
            value := e.value, width := e.trail - e.lead } []
      s3.dropStamps c

/-- The 256-entry table of a linearisation by code density: raw bin i stands for the part of the hits that fell into the
bins below it, in 1/256 (spec 08 R194; DEDUCED, log 124). -/
def densityTable (hits : List Nat) : List Nat :=
  (List.range 256).map fun i => (quotOpen (256 * (hits.take i).sum : Nat) (2 ^ 20)).toNat

/-- The table of interpolator `k` of a channel: the one that its last linearisation has built, else that of BOOT (spec 08
R194). -/
def interpolatorTable (s : State) (c k : Nat) : List Nat :=
  if (Store.read [] (s.chan c).linear k) = [] then (List.range 256).map (Config.bootTable c k)
  else Store.read [] (s.chan c).linear k

/-- The two fine interpolators exchange roles, about once a second, while no comparator pulse is in progress; the one that
has been linearised over 2^20 hits stamps from now on (spec 08 R194). -/
def exchange (c : Nat) (hits : List Nat) (s : State) : State :=
  let ch := s.chan c
  if s.now < ch.fallsAt ∨ s.now < ch.exchangedAt + us 900000 ∨ hits.length ≠ 256 ∨ hits.sum ≠ 2 ^ 20 then s
  else s.modChan c fun ch => { ch with
    interpolator := !ch.interpolator, exchangedAt := s.now
    linear := Store.write [] ch.linear (!ch.interpolator).toNat (densityTable hits) }

end State

/-! ## Meanings -/

/-- COMPARATOR_CROSSING: spec 08 R191-R193. -/
def execComparatorCrossing (t : Tick) (c tot : Nat) (s : State) : Host.Outcome State Fault Refusal :=
  .next ((s.advance t).crossing c tot)

/-- STAMP_HANDOFF: spec 08 R191, R193. -/
def execStampHandoff (t : Tick) (c : Nat) (s : State) : Host.Outcome State Fault Refusal :=
  .next ((s.advance t).handoff c)

/-- INTERPOLATOR_EXCHANGE: spec 08 R194. -/
def execInterpolatorExchange (t : Tick) (lin : Linearisation) (s : State) : Host.Outcome State Fault Refusal :=
  .next ((s.advance t).exchange lin.channel lin.hits)

/-- EVENT_PAIRING: spec 08 R201-R204. -/
def execEventPairing (t : Tick) (c : Nat) (s : State) : Host.Outcome State Fault Refusal :=
  .next ((s.advance t).pairEvent c)

end Sys2Proof.Machine
end

