-- ==== Sys2Proof/Machine/Bursts.lean ====
section
/-! DEFINITION. The ways into the stacked DRAM (spec 12 R277, R279, R281, R284): the address map, live stripes, the queue
of each bank,
and the requests that wait for one: capture words in capture staging, spills and readback at their requesters. -/

namespace Sys2Proof.Machine

/-- The device address of byte `off` of an area's live bytes, for the live channels `live` (spec 12 R277, R279). -/
def stripeAddr (live : List Nat) (area off : Nat) : Nat :=
  let n := max 1 live.length
  area + (off / 256 / n * 16 + nth 0 live (off / 256 % n)) * 256 + off % 256

/-- The DRAM channel of a device address (spec 12 R277). -/
def addrChan (a : Nat) : Nat := a / 256 % 16

/-- The row of a device address on its channel. -/
def addrRow (a : Nat) : Nat := (a / 4096 * 256 + a % 256) / 16384

/-- The bank of a device address on its channel: folded with the row. -/
def addrBank (a : Nat) : Nat := ((a / 4096 * 256 + a % 256) / 1024 % 16) ^^^ (addrRow a % 16)

/-- The channel of a request. -/
def DramReq.chan (r : DramReq) : Nat := addrChan (64 * r.burst)

/-- The row of a request. -/
def DramReq.row (r : DramReq) : Nat := addrRow (64 * r.burst)

/-- The bank of a request, numbered over the device: channel x 16 + bank. -/
def DramReq.home (r : DramReq) : Nat := r.chan * 16 + addrBank (64 * r.burst)

/-- The bursts that the bytes at device addresses `as` stand in, each once in order. -/
def burstsAt (as : List Nat) : List Nat := (as.map fun a => a / 64).eraseDups

/-- Writes of bytes at device addresses, combined into one request for each burst with the mask of its bytes (spec 12
R281). -/
def writesOf (cls : Nat) (job : DramJob) (cells : List Host.Cell) : List DramReq :=
  (burstsAt (cells.map fun x => x.1)).map fun b =>
    let at_ := fun i => cells.reverse.find? fun x => x.1 = 64 * b + i
    { cls := cls, write := true, burst := b, job := job
      mask := BitVec.ofNat 64 (maskOf ((List.range 64).filter fun i => (at_ i).isSome))
      data := (List.range 64).map fun i => ((at_ i).map fun x => x.2).getD 0 }

/-- Reads of bursts. -/
def readsOf (cls : Nat) (job : DramJob) (bursts : List Nat) : List DramReq :=
  bursts.map fun b => { cls := cls, write := false, burst := b, mask := 0, data := [], job := job }

namespace State

/-- A DRAM channel. -/
def dramCh (s : State) (i : Nat) : DramCh := Store.read {} s.dram.chans i

/-- Changes a DRAM channel. -/
def modDramCh (i : Nat) (g : DramCh → DramCh) (s : State) : State :=
  s.modDram fun d => { d with chans := Store.modify {} d.chans i g }

/-- A bank of the DRAM, numbered over the device. -/
def dramBank (s : State) (n : Nat) : DramBank := Store.read {} s.dram.banks n

/-- Changes a bank of the DRAM. -/
def modDramBank (n : Nat) (g : DramBank → DramBank) (s : State) : State :=
  s.modDram fun d => { d with banks := Store.modify {} d.banks n g }

/-- The DRAM channels in service by mapping (spec 12 R277). -/
def liveChans (s : State) : List Nat := (List.range 16).filter fun i => (s.dramCh i).mapped.isNone

/-- How many DRAM channels are mapped out. -/
def mappedOut (s : State) : Nat := 16 - s.liveChans.length

/-- DRAM-absent operation (spec 12 Table 12-5). -/
def dramAbsent (s : State) : Bool := 3 ≤ s.mappedOut

/-- A request enters its bank's queue (spec 12 R281). -/
def enterQueue (r : DramReq) (s : State) : State :=
  s.modDramBank r.home fun b => { b with queue := b.queue ++ [r], lastAt := s.now }

/-- Requests enter the queues that have room, at most 16 entries to a bank; the others wait on (spec 12 R281). The 4,096
entries of 64 bytes and one waveform block of each group's readback stay inside the controller's 1,024 KiB of buffers (01
Table 1-5). -/
def enterAll (l : List DramReq) (s : State) : List DramReq × State :=
  l.foldl (fun a r =>
    if (a.2.dramBank r.home).queue.length < 16 then (a.1, a.2.enterQueue r) else (a.1 ++ [r], a.2)) ([], s)

/-- Whatever waits enters the queues as far as they have room; of requests that enter in one cycle the writes go first
(spec 12 R281, R282). -/
def fillQueues (s : State) : State :=
  let a := s.enterAll s.dram.staging
  let b := a.2.enterAll (s.dram.waiting.filter fun r => r.write)
  let c := b.2.enterAll (s.dram.waiting.filter fun r => !r.write)
  c.2.modDram fun d => { d with staging := a.1, waiting := b.1 ++ c.1 }

/-- Requests are made: those of capture words wait in capture staging, the others at their requester (spec 12 R281); a
channel that is mapped out takes none (R294). -/
def request (l : List DramReq) (s : State) : State :=
  if s.dramAbsent then s
  else
    let live := l.filter fun r => (s.dramCh r.chan).mapped.isNone
    (s.modDram fun d => { d with
      staging := d.staging ++ live.filter fun r => r.cls = 2
      waiting := d.waiting ++ live.filter fun r => r.cls ≠ 2 }).fillQueues

/-- Some request that `p` names has not been served. -/
def requested (s : State) (p : DramReq → Bool) : Bool :=
  s.dram.staging.any p || s.dram.waiting.any p || s.dram.banks.any fun b => b.2.queue.any p

/-- Requests are discarded (spec 12 R294). -/
def discard (p : DramReq → Bool) (s : State) : State :=
  s.modDram fun d => { d with
    staging := d.staging.filter fun r => !p r, waiting := d.waiting.filter fun r => !p r
    banks := d.banks.foldl (fun m b => Store.modify {} m b.1 fun b => { b with queue := b.queue.filter fun r => !p r }) d.banks }

/-- A request belongs to the spill of a Bobbin slot. -/
def spillOf (c k : Nat) (r : DramReq) : Bool := match r.job with | .spill c' k' _ => c' = c && k' = k | _ => false

/-- A request reads spilled bins for a Bobbin slot's second pass or block. -/
def binsOf (c k : Nat) (r : DramReq) : Bool := match r.job with | .bins c' k' _ => c' = c && k' = k | _ => false

/-- The address of bin `b` of channel `c` in the spill area (spec 12 R280). -/
def spillAddr (s : State) (c b : Nat) : Nat := stripeAddr s.liveChans 0 (c * 8192 + 4 * b)

/-- A request reads back blocks of a group. -/
def readOf (g : Nat) (r : DramReq) : Bool := match r.job with | .readback g' => g' = g | _ => false

end State

end Sys2Proof.Machine
end

