-- ==== Sys2Proof/Machine/Bobbin.lean ====
section
/-! DEFINITION. Bobbin (spec 09 R225-R234): accumulation, spills into the stacked DRAM (12 R277-R280), the second pass
and its output. The raw operand of a completed shot is the raw converter codes from the aligned start plus the offset,
oldest first, one per 0.5 ns (DESIGN CHOICE, log 14). -/

namespace Sys2Proof.Machine

namespace State

/-- A Bobbin slot. -/
def bob (s : State) (c k : Nat) : BobSlot := Store.read {} (s.chan c).bobs k

/-- Changes a Bobbin slot. -/
def modBob (c k : Nat) (g : BobSlot → BobSlot) (s : State) : State :=
  s.modChan c fun ch => { ch with bobs := Store.modify {} ch.bobs k g }

/-- The parameters of the accumulation in a slot. -/
def bobParams (b : BobSlot) : BobbinParams := b.params.getD ⟨none, 0, 1, 256, false, false, 2, 80, 4, true⟩

/-- The accumulation uses both slots (spec 09 R231). -/
def bobLong (b : BobSlot) : Bool := 256 < (bobParams b).target

/-- The active slot of the accumulation of slot `k`, in which its last shots started (spec 09 R231). -/
def bobActive (s : State) (c k : Nat) : Nat := if bobLong (s.bob c k) ∧ (s.bob c k).other then 1 - k else k

/-- An accumulation is under way in the slot, or the slot serves the other one's. -/
def bobBusy (s : State) (c k : Nat) : Bool :=
  (s.bob c k).state ≠ .idle || ((s.bob c (1 - k)).state ≠ .idle && bobLong (s.bob c (1 - k)))

/-- Counts an exclusion (spec 09 Table 9-5: 0 unaligned, 1 overlap, 2 faulted, 3 settling, 4 range). -/
def bobExclude (c k cause : Nat) (s : State) : State :=
  s.modBob c k fun b => { b with excluded := nthMod b.excluded cause (· + 1) }

/-- The second pass, or the block after it, of an accumulation that has spilled asks for its bins, in bursts of class 3, once
every shot and every spill has ended (spec 12 R280, R281, Table 12-3). -/
def askBins (c k : Nat) (s : State) : State :=
  let x := s.bob c k
  s.cond (x.state = .finishing && x.spilled && !x.dramLost && x.back.isNone
      && [0, 1].all fun i => (s.bob c i).inProgress = [] && !(s.bob c i).spilling) fun s =>
    (s.modBob c k fun y => { y with back := some [] }).request ((List.range 128).flatMap fun i =>
      readsOf 3 (.bins c k i) [s.spillAddr c (16 * i) / 64])

/-- A slot's shots have all started or it is told to end (spec 09 R227). -/
def bobFinish (c k : Nat) (part : Bool) (s : State) : State :=
  s.cond ((s.bob c k).state = .collecting) fun s =>
    (s.modBob c k fun b => { b with state := .finishing, part := b.part || part }).askBins c k

/-- The slot in which a shot of the accumulation of slot `k` is in progress. -/
def bobHolds (s : State) (c k i : Nat) : Option Nat :=
  let holds := fun (a : Nat) => (s.bob c a).inProgress.any fun z => z.1 = i
  if holds k then some k else if bobLong (s.bob c k) ∧ holds (1 - k) then some (1 - k) else none

/-- The last shot of a full slot has completed: its spill begins with the reads of the channel's bins (spec 09 R231 step
3, 12 R280). -/
def bobSpill (c k a : Nat) (s : State) : State :=
  let y := s.bob c a
  s.cond (bobLong (s.bob c k) && !(s.bob c k).dramLost && y.here = 256 && y.inProgress = [] && !y.spilling) fun s =>
    (s.modBob c a fun y => { y with spilling := true }).request ((List.range 128).flatMap fun i =>
      readsOf 3 (.spill c a i) [s.spillAddr c (16 * i) / 64])

/-- The accumulation that the spill of slot `k` belongs to. -/
def spillMaster (s : State) (c k : Nat) : Nat :=
  if (s.bob c k).params.isSome ∧ bobLong (s.bob c k) then k else 1 - k

/-- A burst of bins has been read for a spill: the slot's bins are added to it and the sums written back (spec 09 R231, 12
R280); the first spill of an accumulation starts from 0. -/
def spillRead (c k i : Nat) (r : DramReq) (bytes : List Byte) (s : State) : State :=
  let fresh := !(s.bob c (s.spillMaster c k)).spilled
  let sums := (List.range 16).flatMap fun j =>
    let old := if fresh then 0 else fromLe ((bytes.drop (4 * j)).take 4) % 2 ^ 24
    le 4 ((old + Store.read 0 (s.bob c k).bins (16 * i + j)) % 2 ^ 24)
  s.request (writesOf 3 (.spill c k i) (sums.mapIdx fun j b => (64 * r.burst + j, b)))

/-- A shot in progress is excluded: it counts against neither target nor bins (spec 09 R230). -/
def bobOut (c k a i cause : Nat) (s : State) : State :=
  ((((s.modBob c a fun y => { y with inProgress := y.inProgress.eraseP fun z => z.1 = i }).bobExclude c k cause).modBob c k
    fun b => { b with started := if b.state = .collecting then b.started - 1 else b.started }).bobSpill c k a).askBins c k

/-- A shot reaches Bobbin on a channel as its window opens (spec 09 R225, R227, R230, R231); one that overlap turns away
is unaligned in the first place where its start comes too late (Table 9-5). -/
def bobShot (i c : Nat) (s : State) : State :=
  let e := s.entry i
  if !e.accumulate ∨ e.refWindow c ∨ s.modeOf c ≠ 0 ∨ s.popt Par.decodeMode c = 0 then s
  else s.each [0, 1] fun k s =>
    let b := s.bob c k
    let p := bobParams b
    if b.state ≠ .collecting ∨ e.planned < b.startedAt ∨ !(p.element.all fun x => x = e.element) then s
    else
      let a := if b.turn then 1 - s.bobActive c k else s.bobActive c k
      let y := s.bob c a
      if 4 ≤ y.inProgress.length ∨ y.spilling then
        if e.pickDecided then s.bobExclude c k 1 else s.modBob c k fun b => { b with turned := b.turned ++ [i] }
      else
        let s1 := s.modBob c a fun y => { y with inProgress := y.inProgress ++ [(i, none)], here := y.here + 1 }
        let s2 := s1.modBob c k fun b => { b with
          started := b.started + 1, other := if b.turn then !b.other else b.other
          turn := bobLong b && decide (y.here = 255) }
        s2.cond (p.target ≤ (s2.bob c k).started) (bobFinish c k false)

/-- The aligned start of a shot: its start to the nearest full-rate sample (spec 09 R228). -/
def bobAlign (s : State) (e : Entry) : Tick × Int :=
  let start : Int := (e.planned : Int) + 16 * e.fireOff
  let l0 := s.clock.lockedAt.getD 0
  let r := l0 + (sample * (roundDiv (start - l0) sample)).toNat
  (r, start - r)

/-- The start of a shot is decided (spec 09 R228): where the samples of its first bin are no longer held, the shot is
excluded as unaligned. -/
def bobStart (i : Nat) (s : State) : State :=
  let e := s.entry i
  let r := (s.bobAlign e).1
  s.each e.unfinal fun c s => s.each [0, 1] fun k s =>
    let b := s.bob c k
    let late := decide (r + sample * (bobParams b).offset + ns 256 < s.now)
    let s1 := s.cond (b.turned.contains i) fun s =>
      (s.modBob c k fun b => { b with turned := b.turned.filter (· ≠ i) }).bobExclude c k (if late then 0 else 1)
    match s.bobHolds c k i with
    | some a => s1.cond late (bobOut c k a i 0)
    | none => s1

/-- Ply decides a shot's pickoff, and Bobbin learns its start (spec 08 R198-R200, 09 R228). -/
def pickoffDecision (i : Nat) (s : State) : State :=
  let s1 := s.decidePickoff i
  s1.cond (!(s.entry i).pickDecided && (s1.entry i).pickDecided) (bobStart i)

/-- The first sample of each sub-pulse's image and how many samples each image has, from the aligned start plus the
offset: 2,048 bins folded over the code offsets (spec 09 R229). -/
def bobSpan (p : BobbinParams) : Nat := 2048 * 2 ^ p.width

/-- The cause that excludes a completed shot, none where it is accumulated (spec 09 R230). (DEDUCED, log 56.) -/
def bobCause (s : State) (c k : Nat) (x0 : Tick) (offs : List Nat) : Option Nat :=
  let b := s.bob c k
  let p := bobParams b
  let at_ := (offs.flatMap fun o => (List.range (bobSpan p)).map fun m => x0 + sample * (2 * o + m))
  let tag := b.range.getD (s.rangeAt c x0)
  if at_.any fun x => decide (2 ≤ s.validAt c x) then some 2
  else if !p.acceptSettling && at_.any fun x => s.validAt c x = 1 then some 3
  else if at_.any fun x => s.rangeAt c x ≠ tag then some 4
  else none

/-- The value of bin `b` of a shot: the mean of the corrected codes, rounded half up (spec 09 R229). -/
def bobValue (s : State) (c width : Nat) (x0 : Tick) (offs : List Nat) (raw : List Nat) (b : Nat) : Nat :=
  let idx := offs.flatMap fun o => (List.range (2 ^ width)).map fun i => b * 2 ^ width + 2 * o + i
  let sum := idx.foldl (fun (a : Int) m => a + s.corrected c (x0 + sample * m) (nth 16 raw m)) 0
  ((2 * sum + idx.length) / (2 * max 1 idx.length : Nat)).toNat

/-- An accumulated shot completes (spec 09 R229-R231). (DEDUCED, log 56.) -/
def bobComplete (c k i : Nat) (raw : List Nat) (s : State) : State :=
  match s.bobHolds c k i with
  | none => s
  | some a =>
    let e := (((s.bob c a).inProgress.find? fun z => z.1 = i).bind fun z => z.2).getD (s.entry i)
    let p := bobParams (s.bob c k)
    let r := s.bobAlign e
    let x0 := r.1 + sample * p.offset
    let offs := codeOffsets e.code
    match s.bobCause c k x0 offs with
    | some cause => s.bobOut c k a i cause
    | none =>
      let over_ := (offs.flatMap fun o => (raw.drop (2 * o)).take (bobSpan p)).any fun v => decide (256 ≤ v)
      let marked := offs.any fun o => (List.range (bobSpan p)).any fun m => s.validAt c (x0 + sample * (2 * o + m)) = 1
      let add := fun (t : BobTally) => { t with
        count := t.count + 1, residual := t.residual + r.2, clipped := t.clipped + over_.toNat
        settling := t.settling || marked, first := some (t.first.getD (e.element, e.lt, e.epoch)), lastLt := e.lt
        images := t.images ++ [offs] }
      let s2 := s.modBob c a fun y => { y with
        inProgress := y.inProgress.eraseP fun z => z.1 = i, own := add y.own
        bins := (List.range 2048).foldl
          (fun m b => Store.modify 0 m b fun v => v + s.bobValue c p.width x0 offs raw b) y.bins }
      ((s2.modBob c k fun b => { b with all := add b.all, range := some (b.range.getD (s.rangeAt c x0)) }).bobSpill c k a).askBins c k

/-- The bins that were asked for have all come. -/
def binsCame (s : State) (c k : Nat) : Bool :=
  !(s.bob c k).spilled || (s.bob c k).dramLost || ((s.bob c k).back.isSome && !s.requested (binsOf c k))

/-- A spill completes once its last sum is written: the slot is cleared (spec 09 R231, 12 R280). -/
def spillDone (c k : Nat) (s : State) : State :=
  if !(s.bob c k).spilling ∨ s.requested (spillOf c k) then s
  else
    let m := s.spillMaster c k
    ((s.modBob c k fun y => { y with bins := [], here := 0, own := {}, spilling := false }).modBob c m
      fun b => { b with spilled := true }).askBins c m

/-! ## The second pass (spec 09 R232, R233) -/

/-- The sum examined: the slot's own bins, with the DRAM bins and the other slot's where the accumulation spilled. -/
def bobSum (s : State) (c k b : Nat) : Nat :=
  let x := s.bob c k
  if x.dramLost then Store.read 0 (s.bob c (s.bobActive c k)).bins b
  else Store.read 0 x.bins b + (if bobLong x then Store.read 0 (s.bob c (1 - k)).bins b else 0)
    + (x.back.map fun m => Store.read 0 m b).getD 0

/-- The shots in that sum. -/
def bobTally (s : State) (c k : Nat) : BobTally :=
  let x := s.bob c k
  if x.dramLost then (s.bob c (s.bobActive c k)).own else x.all

/-- Sum of squares of h over the bins that remain after the 64 largest are set aside: 1,984 bins. -/
def bobNoise (h : List Int) : Nat :=
  ((sortBy (fun a b => decide (b ≤ a)) h).drop 64).foldl (fun a x => a + x.natAbs ^ 2) 0

/-- The value x / d stands above the threshold T = m x sigma, with m in 1/16 (strictly, or at least where `eq`). -/
def aboveT (m noise : Nat) (x : Int) (d : Nat) (eq : Bool) : Bool :=
  let l := x ^ 2 * (256 * 1984 : Nat)
  let r : Int := (m ^ 2 * noise * d ^ 2 : Nat)
  0 ≤ x && (if eq then decide (r ≤ l) else decide (r < l))

/-- The image sum I(delta) in twelfths for a distance of `dist` bins of width code `w` (spec 09 R232 step 6). -/
def imageSum (images : List (List Nat)) (w dist : Nat) : Nat :=
  images.foldl (fun a offs =>
    let pairs := offs.flatMap fun x => offs.map fun y => ((y : Int) - x)
    let hit := pairs.filter fun (d : Int) => (4 * d - 2 * (dist * 2 ^ w : Nat)).natAbs ≤ 2 ^ w
    a + hit.length * (12 / max 1 offs.length)) 0

/-- Candidates in order of height, a tie to the earlier bin. (DEDUCED, log 57.) -/
def byHeight (h : List Int) (l : List Nat) : List Nat :=
  sortBy (fun a b => decide (nth 0 h b < nth 0 h a) || (decide (nth 0 h a = nth 0 h b) && decide (a ≤ b))) l

/-- The fraction in 1/256 bin and the interpolated height in 1/1,024 count of the peak at bin `b` (spec 09 R233, 07 R180).
(DEDUCED, log 58.) -/
def peakShape (h : List Int) (b : Nat) : Int × Int :=
  let d := nth 0 h (b - 1) - nth 0 h (b + 1)
  let q := fraction d (2 * (nth 0 h (b - 1) - 2 * nth 0 h b + nth 0 h (b + 1))) (-128) 128
  (q, 1024 * nth 0 h b - d * q)

/-- The full width at half height in 1/16 ns, by linear interpolation between bins (spec 09 R233); `hh` is the height
in 1/1,024 count. -/
def peakWidth (h : List Int) (w b : Nat) (hh : Int) : Nat :=
  let low := fun i => decide (2048 * nth 0 h i < hh)
  let l := ((List.range b).filter low).getLast?.getD 0
  let r := (((List.range 2048).drop (b + 1)).filter low).head?.getD 2047
  let fa := hh - 2048 * nth 0 h l
  let fb := max 1 (2048 * (nth 0 h (l + 1) - nth 0 h l))
  let ga := hh - 2048 * nth 0 h r
  let gb := max 1 (2048 * (nth 0 h (r - 1) - nth 0 h r))
  (quotOpen ((((r : Int) - l) * fb * gb - fa * gb - ga * fb) * (8 * 2 ^ w : Nat)) (fb * gb).toNat).toNat

/-- The peaks that the second pass keeps, in order of position (spec 09 R232). (DEDUCED, log 57.) -/
def bobPeaks (p : BobbinParams) (n : Nat) (images : List (List Nat)) (h : List Int) : List Peak :=
  let noise := bobNoise h
  let cand := (List.range 2047).filter fun b => 1 ≤ b && aboveT p.multiplier noise (nth 0 h b) 1 true
    && nth 0 h (b - 1) < nth 0 h b && nth 0 h (b + 1) ≤ nth 0 h b
  let apart := (byHeight h cand).foldl (fun (acc : List Nat) (b : Nat) =>
    if acc.any fun a => decide (((a : Int) - b).natAbs < p.separation) then acc else acc ++ [b]) []
  let clean := if !p.imageTest then apart else apart.foldl (fun (acc : List Nat) (b : Nat) =>
    let image := acc.any fun a => decide (nth 0 h b < nth 0 h a) && !aboveT p.multiplier noise
      ((48 * n : Nat) * nth 0 h b - 5 * nth 0 h a * imageSum images p.width ((a : Int) - b).natAbs) (48 * n) false
    if image then acc else acc ++ [b]) []
  (sortBy (fun a b => decide (a ≤ b)) (clean.take 4)).map fun b =>
    let sh := peakShape h b
    ⟨b, sh.1, quotOpen sh.2 64, peakWidth h p.width b sh.2, (clampInt 0 65535 (roundDiv sh.2 (4 * max 1 n))).toNat⟩

/-- The return of a peak (spec 09 R233): its time of flight follows 08 R205, with what that counts, and Carding receives it.
(DEDUCED, log 44.) -/
def peakReturn (c k i : Nat) (pk : Peak) (s : State) : State :=
  let x := s.bob c k
  let p := bobParams x
  let t := s.bobTally c k
  let n := max 1 t.count
  let off := (Store.read none s.cal.tables.timing c).getD 0
  let pos : Int := (sample * p.offset : Nat) + (256 * pk.bin + pk.delta) * (8 * 2 ^ p.width : Nat)
    + (1024 * (2 ^ p.width - 1) : Nat)
  let first := t.first.getD (0, {}, false)
  let f := flightOf ((pos - off) * n - t.residual) (16 * n)
  let s1 := s.countFlight c f
  match f with
  | .reversed | .overflow => s1
  | .flight tof near _ =>
    let r : Ret :=
      { c := c, element := p.element.getD first.1, index := i, tag := x.range.getD 0, epoch := first.2.2
        lt := first.2.1, tof := tof, validity := t.settling.toNat, source := 1, near := near, histogram := true
        amplitude := pk.amplitude, width := min 65535 pk.width, closeAt := s.now }
    (s1.formed r).receive r

/-- The slot returns to IDLE, or to COLLECTING where it repeats (spec 09 R227); its commands complete. A target that
needs the
stacked DRAM repeats no longer once that is absent (R231, 12 R296; DEDUCED, log 56). -/
def bobDone (c k : Nat) (s : State) : State :=
  let x := s.bob c k
  let s1 := match x.flushHandle with | some f => s.succeed f [] | none => s
  let clear := fun (y : BobSlot) => { y with bins := [], here := 0, own := {}, inProgress := [], spilling := false }
  let s2 := s1.cond (bobLong x) (modBob c (1 - k) clear)
  if (bobParams x).continuous ∧ !x.flushed ∧ !(bobLong x ∧ s.dramAbsent) then
    s2.modBob c k fun _ => { state := .collecting, params := x.params, handle := x.handle, startedAt := s.now }
  else (s2.modBob c k fun _ => {}).succeed x.handle []

/-- The second pass of a finishing slot whose shots have completed (spec 09 R232, R233). -/
def secondPass (c k : Nat) (s : State) : State :=
  let x := s.bob c k
  let y := s.bob c (1 - k)
  if x.state ≠ .finishing ∨ x.passDone ∨ x.inProgress ≠ [] ∨ x.spilling
      ∨ (bobLong x ∧ (y.inProgress ≠ [] ∨ y.spilling)) ∨ !s.binsCame c k then s
  else
    let p := bobParams x
    let t := s.bobTally c k
    let h := (List.range 2048).map fun b => (s.bobSum c k b : Int) - 16 * t.count
    let pks := bobPeaks p t.count t.images h
    let s1 := ((s.modBob c k fun b => { b with
      passDone := true, back := none, peaks := pks, sigma := rootOpen (256 * bobNoise h) 1984
      threshold := rootOpen (p.multiplier ^ 2 * bobNoise h) 1984 }).cond (p.output ≠ 1) (askBins c k)).cond (p.output ≠ 0) fun s =>
        s.each (pks.mapIdx fun i pk => (i, pk)) fun x => peakReturn c k x.1 x.2
    s1.cond (p.output = 1) (bobDone c k)

/-- The block has 24-bit bins: more than 256 shots, or an accumulation that has spilled, its spills lost or not (spec 09
R234; DEDUCED, log 56). -/
def blockWide (s : State) (c k : Nat) : Bool := 256 < (s.bobTally c k).count || (s.bob c k).spilled

/-- The length of a block (spec 13 R311). -/
def blockLength (s : State) (c k : Nat) : Nat := if s.blockWide c k then 6272 else 4224

/-- A histogram block (spec 13 R311). -/
def blockBytes (s : State) (c k : Nat) (seq : Nat) : List Byte :=
  let x := s.bob c k
  let p := bobParams x
  let t := s.bobTally c k
  let n := t.count
  let wide := s.blockWide c k
  let len := s.blockLength c k
  let first := (t.first.getD (0, {}, false)).2.1
  let pk := (List.range 4).flatMap fun i => match x.peaks[i]? with
    | some q => le 2 q.bin ++ le 2 (twos 2 q.delta) ++ le 4 (twos 4 q.height)
    | none => le 8 0
  s.header 0x12 len (Src.bobbin c) 0 0 first seq
    ++ [BitVec.ofNat 8 c, BitVec.ofNat 8 (k + flagBit 1 wide + flagBit 2 x.part + flagBit 3 t.settling
        + flagBit 4 x.dramLost + 32 * x.peaks.length)]
    ++ le 2 (match p.element with | some e => e | none => 2 ^ 15) ++ le 4 n ++ x.excluded.flatMap (le 4) ++ le 4 t.clipped
    ++ [BitVec.ofNat 8 (p.width + 4 * x.range.getD 0), 0] ++ le 2 p.offset
    ++ le 4 (twos 4 (if n = 0 then 0 else quotOpen t.residual n)) ++ le 4 x.sigma ++ le 4 x.threshold
    ++ le 8 t.lastLt.field ++ pk ++ le 8 0
    ++ (List.range 2048).flatMap fun b => le (if wide then 3 else 2) (s.bobSum c k b)

/-- The slot's block enters class 2 once its returns have left Carding and there is room (spec 09 R234, 13 R316). -/
def blockSend (c k : Nat) (s : State) : State :=
  let x := s.bob c k
  if !x.passDone ∨ (bobParams x).output = 1 ∨ !s.binsCame c k ∨ ((s.chan c).card.inbox.any fun r => r.histogram)
      ∨ !s.recs.room .class2 (s.blockLength c k) then s
  else (s.offer .class2 (Src.bobbin c) none [s.blockBytes c k]).bobDone c k

/-- The checks of BOBBIN START (spec 09 R226, 20 R462). -/
def bobCheck (s : State) (c k : Nat) (p : BobbinParams) : Ack :=
  if 256 ≤ c ∨ 2 ≤ k then .wrongArg 16
  else if (p.element.any fun e => 512 ≤ e) ∨ 32767 < p.offset ∨ 3 < p.width ∨ p.target = 0 ∨ 65536 < p.target
      ∨ 2 < p.output ∨ p.multiplier < 32 ∨ 255 < p.multiplier ∨ p.separation = 0 ∨ 64 < p.separation
      ∨ 49152 < p.offset + 2048 * 2 ^ p.width ∨ s.modeOf c ≠ 0
      ∨ (256 < p.target ∧ (s.bobBusy c (1 - k) ∨ s.dramAbsent)) then .wrongArg 0xFFFF
  else if s.bobBusy c k then .busy 1 else .accepted

/-- Every collecting slot of a channel finishes with the partial flag; `stay` where repeats end too (spec 09 R227,
20 R463). -/
def bobsEnd (c : Nat) (stay : Bool) (s : State) : State :=
  s.each [0, 1] fun k s => s.cond ((s.bob c k).state = .collecting) fun s =>
    (s.bobFinish c k true).modBob c k fun b => { b with flushed := b.flushed || stay }

/-- Accumulations that have spilled, or may, end with the DRAM-lost flag (spec 09 R231, 12 R294): `all` where the device
enters DRAM-absent operation. A block that waits after its second pass takes its bins and its count from the active slot too,
beside the peaks already found (DEDUCED, log 56). -/
def bobsLost (all : Bool) (s : State) : State :=
  s.each (s.chans.map fun x => x.1) fun c s => s.each [0, 1] fun k s =>
    let b := s.bob c k
    let spills := b.spilled || (s.bob c 0).spilling || (s.bob c 1).spilling
    s.cond (b.state ≠ .idle && bobLong b && (all || spills)) fun s =>
      ((((s.modBob c k fun b => { b with part := true, dramLost := true, back := none }).bobFinish c k true).modBob c 0
        fun y => { y with spilling := false }).modBob c 1 fun y => { y with spilling := false }).discard fun r =>
          spillOf c 0 r || spillOf c 1 r || binsOf c k r

end State

/-! ## Meanings -/

/-- PICKOFF_DECISION: spec 08 R198-R200, 09 R228. -/
def execPickoffDecision (t : Tick) (entry : Nat) (s : State) : Host.Outcome State Fault Refusal :=
  .next ((s.advance t).pickoffDecision entry)

/-- BOBBIN_SHOT_COMPLETE: spec 09 R229-R231. -/
def execBobbinShotComplete (t : Tick) (c slot entry : Nat) (raw : List Nat) (s : State) :
    Host.Outcome State Fault Refusal :=
  .next ((s.advance t).bobComplete c slot entry raw)

/-- SPILL_DONE: spec 09 R231, 12 R280. -/
def execSpillDone (t : Tick) (c slot : Nat) (s : State) : Host.Outcome State Fault Refusal :=
  .next ((s.advance t).spillDone c slot)

/-- SECOND_PASS: spec 09 R232, R233. -/
def execSecondPass (t : Tick) (c slot : Nat) (s : State) : Host.Outcome State Fault Refusal :=
  .next ((s.advance t).secondPass c slot)

/-- HISTOGRAM_BLOCK_SEND: spec 09 R234. -/
def execHistogramBlockSend (t : Tick) (c slot : Nat) (s : State) : Host.Outcome State Fault Refusal :=
  .next ((s.advance t).blockSend c slot)

/-- BOBBIN_START: spec 09 R226, R227. -/
def execBobbinStart (t : Tick) (h : Hdr) (c slot : Nat) (params : BobbinParams) (s : State) :
    Host.Outcome State Fault Refusal :=
  .next ((s.advance t).command 0x0901 h (fun s => s.bobCheck c slot params)
    (fun handle s => s.modBob c slot fun b => { b with
      state := .collecting, params := some params, handle := handle, startedAt := s.now }))

/-- BOBBIN_FLUSH: spec 09 R227. A flush of an IDLE slot succeeds at once, and one while another is pending is BUSY (DESIGN
CHOICE, log 154). -/
def execBobbinFlush (t : Tick) (h : Hdr) (c slot : Nat) (s : State) : Host.Outcome State Fault Refusal :=
  .next ((s.advance t).command 0x0902 h
    (fun s => if 256 ≤ c ∨ 2 ≤ slot then .wrongArg 16
      else if (s.bob c slot).flushHandle.isSome then .busy 1 else .accepted)
    (fun handle s =>
      if (s.bob c slot).state = .idle then s.succeed handle []
      else ((s.bobFinish c slot true).modBob c slot fun b => { b with flushed := true, flushHandle := some handle })))

end Sys2Proof.Machine
end

