-- ==== Sys2Proof/Machine/Carding.lean ====
section
/-! DEFINITION. Range boundaries and gates (spec 05 R124-R131) and Carding (spec 10): estimates, levels, blinded and
interfered channels, coherence, classes, weather, hopping; and the return record (spec 00 R13, 13 R304, R305). -/

namespace Sys2Proof.Machine

/-! ## Return records -/

/-- The bytes of a return record (spec 00 Table 0-5, 13 R304). -/
def Ret.bytes (r : Ret) (cls : Nat) (annexed : Bool) (seq : Nat) : List Byte :=
  [0x01, BitVec.ofNat 8 r.c]
    ++ le 2 (r.element % 512 + 512 * (r.index % 4) + 2048 * cls + 8192 * (r.tag % 4) + flagBit 15 r.epoch)
    ++ le 4 seq ++ le 8 r.lt.field ++ le 3 r.tof
    ++ [BitVec.ofNat 8 (r.validity % 4 + 4 * (if r.charge then 3 else r.source) + flagBit 4 r.near
        + flagBit 5 r.predicted + flagBit 6 r.histogram + flagBit 7 annexed)]
    ++ le 2 r.amplitude ++ le 2 r.width

/-- The flags of a return's annex (spec 13 Table 13-5). -/
def Ret.flags (r : Ret) : Nat :=
  flagBit 0 r.clipped + flagBit 1 r.disagree + flagBit 2 r.ambiguous + flagBit 3 r.pulseLimit
    + flagBit 4 r.pickMissing + flagBit 5 r.stampLimit

/-- The bytes of a return annex (spec 13 R305). -/
def Ret.annex (r : Ret) (seq : Nat) : List Byte :=
  [0x02, BitVec.ofNat 8 r.c] ++ le 2 (Ret.flags r) ++ le 4 seq
    ++ [BitVec.ofNat 8 (if r.histogram then 0 else r.support), 0] ++ le 2 r.residual ++ le 2 r.entry ++ le 8 0 ++ le 2 0

namespace State

/-- Changes the front end's state of a channel. -/
def modFe (c : Nat) (g : FrontEnd → FrontEnd) (s : State) : State := s.modChan c fun ch => { ch with fe := g ch.fe }

/-! ## Estimates (spec 10 R236, R237) -/

/-- One step of an estimate of order `a`. -/
def estimate (old new : Nat) (a : Nat) : Nat := ((old : Int) + quotOpen ((new : Int) - old) (2 ^ a)).toNat

/-- An ambient reading in 0.5 uA units; the estimate has 8 fraction bits. (DESIGN CHOICE, log 55.) -/
def ambientReading (c x : Nat) (s : State) : State :=
  let a := s.pnum Par.estOrder c
  s.modCard c fun k => { k with
    ambient := if k.ambientSet then estimate k.ambient (256 * x) a else 256 * x, ambientSet := true }

/-- The result of an ambient gate. -/
def chargeReading (c x : Nat) (s : State) : State :=
  let a := s.pnum Par.estOrder c
  s.modCard c fun k => { k with
    charge := if k.chargeSet then estimate k.charge (256 * x) a else 256 * x, chargeSet := true }

/-- A detector reading over a window with one range throughout (spec 10 R237). -/
def noiseReading (c range : Nat) (r : Reading) (s : State) : State :=
  if r.validity ≠ 0 ∨ r.valid < 64 ∨ r.part ∨ s.underCal c then s
  else
    let a := s.pnum Par.estOrder c
    s.modCard c fun k =>
      let o := Store.read (0, 0) k.sigma range
      { k with sigma := Store.write (0, 0) k.sigma range (if o.2 = 0 then r.rms else estimate o.1 r.rms a, o.2 + 1) }

/-- A detector window ends with its reading (spec 07 R183-R185); Carding takes one over a window with one range throughout
(10 R237). -/
def detectorWindow (c : Nat) (raw : List Nat) (s : State) : State :=
  match s.detectorEnd c with
  | none => s
  | some z =>
    if s.modeOf c ≠ 0 then s
    else
      let start := (s.chan c).readsAt
      let r := s.readingOf c z raw
      let s1 := s.modChan c fun ch => { ch with reading := some r.1, envelope := r.2, readsAt := z, readCut := none }
      if (s.chan c).fe.past.any fun p => decide (start < p.1 ∧ p.1 < z) then s1
      else s1.noiseReading c (s.rangeAt c start) r.1

/-- The noise estimate in range `r`, none until 8 readings have been accepted (spec 10 R237). -/
def noise (s : State) (c r : Nat) : Option Nat :=
  let o := Store.read (0, 0) (s.card c).sigma r
  if 8 ≤ o.2 then some o.1 else none

/-- Carding restarts every noise estimate of a bank's channels (spec 20 R466). -/
def restartNoise (b : Nat) (s : State) : State :=
  s.each (List.range 16) fun i s => s.modCard (16 * b + i) fun k => { k with sigma := [] }

/-! ## Levels (spec 10 R238-R240) -/

/-- `a / b` rounded up. -/
def ceilDiv (a b : Nat) : Nat := (a + b - 1) / max 1 b

/-- Comparator 0's level L' at a boundary (spec 10 R238). -/
def levelFor (s : State) (c : Nat) : Nat :=
  let floor := s.pnum Par.levelFloor c
  min 32767 (match s.noise c (s.chan c).fe.range with
    | some n => max floor (ceilDiv (s.pnum Par.levelK c * n) 256)
    | none => floor)

/-- The sum of squares of a set's full-rate impulse response (spec 10 R239; DESIGN CHOICE, log 5). -/
def noiseSquares (set : CoefSet) : Nat :=
  if set.mode = 0 then set.coefs.foldl (fun a x => a + x.natAbs ^ 2) 0 else Config.noiseSquare set.mode set.coefs

/-- The least level in 1-239 that is at least Ka x sigma / (16 gn) (spec 10 R239). -/
def analogueFor (s : State) (c n : Nat) : Nat :=
  let set := s.setOf c
  let want := (s.pnum Par.anaK c * n) ^ 2 * 4 ^ set.shift
  let floor := s.pnum Par.anaFloor c
  ((List.range 239).find? fun x => floor ≤ x && want ≤ x ^ 2 * 65536 * noiseSquares set).getD 239

/-- A computed level takes effect: the range changed, or it differs by at least 1/32 of the level in force. -/
def levelMoves (changed : Bool) (old new : Nat) : Bool := changed || old ≤ 32 * ((old : Int) - new).natAbs

/-- The noise estimate on which a channel's analogue level may stand: it has detector readings and they are valid in the
present range (spec 10 R239). -/
def readings (s : State) (c : Nat) : Option Nat := if s.modeOf c = 0 then s.noise c (s.chan c).fe.range else none

/-- The adaptive-unavailable status bit (spec 10 R239, 20 Table 20-2). -/
def adaptiveUnavailable (s : State) (c : Nat) : Bool := (s.readings c).isNone

/-- The analogue level in force (spec 08 Table 8-1, 10 R239). -/
def anaLevelOf (s : State) (c : Nat) : Nat :=
  if s.popt Par.anaSource c = 1 then (s.card c).analogue.getD (s.pnum Par.anaLevel c) else s.pnum Par.anaLevel c

/-- Carding's levels at a range boundary (spec 10 R238-R240). -/
def levels (c : Nat) (changed : Bool) (s : State) : State :=
  let k := s.card c
  let new := s.levelFor c
  let s1 := s.cond (k.levelHost ≠ some s.now && s.popt Par.levelSource c = 1) (modCard c fun k => { k with
    levelWas := some (s.now, k.level), level := if levelMoves changed (s.levelOf c 0) new then some new else k.level })
  let ana := match s.readings c with
    | none => none
    | some n =>
      let a := s.analogueFor c n
      if levelMoves changed (s.anaLevelOf c) a then some a else k.analogue
  s1.cond (k.analogueHost ≠ some s.now && s.popt Par.anaSource c = 1) (modCard c fun k => { k with
    analogueWas := some (s.now, k.analogue), analogue := ana })

/-- A host change of comparator 0's level or of its source has applied: what Carding computed in its cycle is discarded,
and a new source starts from the fixed level (spec 10 R240; DEDUCED, log 127). -/
def levelHosted (c : Nat) (source : Bool) (s : State) : State :=
  s.modCard c fun k => { k with
    levelHost := some s.now
    level := if source then none else match k.levelWas with
      | some (x, l) => if x = s.now then l else k.level
      | none => k.level }

/-- The same for the analogue level. -/
def analogueHosted (c : Nat) (source : Bool) (s : State) : State :=
  s.modCard c fun k => { k with
    analogueHost := some s.now
    analogue := if source then none else match k.analogueWas with
      | some (x, l) => if x = s.now then l else k.analogue
      | none => k.analogue }

/-! ## Blinded channels (spec 10 R241) -/

/-- A channel becomes or ceases to be blinded. -/
def setBlind (c : Nat) (on : Bool) (s : State) : State :=
  if (s.card c).blinded = on then s
  else ((s.modCard c fun k => { k with blinded := on, satRun := 0, levelRun := 0, clearRun := 0 }).count Kind.blind c
    1).health (if on then 0x0140 else 0x0141) c [] []

/-- The blinded test at a boundary: `bad` are the runs' conditions, `clear` the condition of leaving. -/
def blindStep (c : Nat) (sat high clear : Bool) (s : State) : State :=
  let s1 := s.modCard c fun k => { k with
    satRun := if sat then k.satRun + 1 else 0, levelRun := if high then k.levelRun + 1 else 0
    clearRun := if clear then k.clearRun + 1 else 0 }
  let k := s1.card c
  if !k.blinded ∧ (16 ≤ k.satRun ∨ 16 ≤ k.levelRun) then s1.setBlind c true
  else if k.blinded ∧ 64 ≤ k.clearRun then s1.setBlind c false
  else s1

/-! ## Range boundaries (spec 05 R124, R125, R131) -/

/-- A range boundary of the channel falls at the present instant (spec 05 R124): 8 ns before a window that opens, or whole
idle periods after the last window, the entry into SAFE or the last change of receive mode. -/
def atBoundary (s : State) (c : Nat) : Bool :=
  let fe := (s.chan c).fe
  let idle := s.now - max fe.countFrom s.clock.safeAt
  s.dev.fromSafe && fe.lastBoundary ≠ some s.now
    && ((s.skein.any fun e => e.2.unretired && e.2.windows.contains c && !e.2.opened && decide (e.2.planned = s.now + ns 8))
      || (decide (0 < idle) && idle % ns 4096 = 0))

/-- Auto-ranging at a boundary (spec 05 R125, R126): `dev` is the largest deviation of the period's samples. A boundary in
the cycle of a rescue switch makes no change, and neither does the next one (R127; DEDUCED, log 116). -/
def autoRange (c dev : Nat) (ovr : Bool) (s : State) : State :=
  let fe := (s.chan c).fe
  let s1 := s.modFe c fun f => { f with
    rescuedAt := if f.rescuedAt = some s.now then f.rescuedAt else none, clampInPeriod := f.clamping }
  if s.modeOf c ≠ 0 ∨ !s.autoRanging c then s1
  else if fe.rescuedAt ≠ none then s1.modFe c fun f => { f with down := 0 }
  else if (204 ≤ dev ∨ ovr) ∧ 0 < fe.range then (s1.modFe c fun f => { f with down := 0 }).setRange c (fe.range - 1)
  else if dev ≤ 43 ∧ !fe.clampInPeriod then
    if s.pnum Par.downCount c ≤ fe.down + 1 ∧ fe.range < 3 then
      (s1.modFe c fun f => { f with down := 0 }).setRange c (fe.range + 1)
    else s1.modFe c fun f => { f with down := f.down + 1 }
  else s1.modFe c fun f => { f with down := 0 }

/-- A channel's receive mode has changed from waveform with TDC: its Bobbin slots finish (spec 20 R463). -/
def leaveWaveform (c : Nat) (s : State) : State := s.bobsEnd c true

/-- Automatic fallback at a boundary (spec 05 R131): `clamped` is whether a clamp event occurred in the period that has
just ended, in range 0. (DEDUCED, log 54.) A channel that is in fallback when automatic fallback is switched off stays there
(DESIGN CHOICE, log 148). -/
def fallbackStep (c : Nat) (clamped : Bool) (s : State) : State :=
  let s1 := s.modFe c fun f => { f with
    fbClamp := if clamped then f.fbClamp + 1 else 0, fbSat := if f.satAll then f.fbSat + 1 else 0
    satAll := f.saturated }
  let fe := (s1.chan c).fe
  if s.popt Par.autoFallback c = 0 ∨ s.popt Par.receiveMode c ≠ 0 then s1
  else if fe.fallback then
    if 1024 ≤ fe.fbGood then
      (((s1.modFe c fun f => { f with fallback := false, fbAt := some s.now }).enterMode c 2).setRange c 0).health 0x0113 c
        [(1, 2)] []
    else s1
  else if 64 ≤ fe.fbClamp ∨ 64 ≤ fe.fbSat then
    (((s1.modFe c fun f => { f with fallback := true, fbAt := some s.now }).enterMode c 0).leaveWaveform c).health 0x0112 c
      [(1, if 64 ≤ fe.fbClamp then 0 else 1)] []
  else s1

/-- A range boundary (spec 05 R123-R125, R131, 10 R236-R241): `servo` is the current in 0.5 uA that the servo needs; while
the servo holds its current the boundary delivers that one. (DESIGN CHOICE, log 55.) A clamp event counts as one in range 0
where the range is 0 at the end of its period, the rescue itself included (DESIGN CHOICE, log 148). -/
def rangeBoundary (c dev : Nat) (ovr : Bool) (servo : Nat) (s : State) : State :=
  if !s.atBoundary c then s else
  let s := (s.servoTakes c servo).modFe c fun f => { f with lastBoundary := some s.now }
  let fe := (s.chan c).fe
  let sat := fe.saturated
  let s := s.cond (s.modeOf c ≠ 2 && !s.underCal c) (ambientReading c fe.servo)
  let s1 := s.autoRange c dev ovr
  let s2 := s1.fallbackStep c (fe.clampInPeriod && fe.range = 0)
  if s2.modeOf c = 2 ∨ s2.underCal c then s2
  else
    let s3 := s2.levels c ((s2.chan c).fe.range ≠ fe.range)
    let l := s3.levelFor c
    let blind := s3.pnum Par.blindLevel c
    s3.blindStep c sat (decide (blind ≤ l)) (!sat && decide (4 * l < 3 * blind))

/-! ## Gates of charge-integrating fallback (spec 05 R129, R130) -/

/-- A window opens on a channel: it enters the count of the sub-block, and idle boundaries are counted from it (spec 03
R72, 05 R124, R141). -/
def noteWindow (c : Nat) (close : Tick) (s : State) : State :=
  s.modChan c fun ch => { ch with
    wins := (ch.wins.filter fun w => s.now < w.2 + us 100) ++ [(s.now, close)]
    fe := { ch.fe with countFrom := s.now, oiWindows := ch.fe.oiWindows + 1 } }

/-- A window opens on a channel in fallback: its measuring gate, or a missed gate. -/
def openGate (c i : Nat) (window : Tick) (s : State) : State :=
  if s.modeOf c ≠ 2 then s
  else if (s.chan c).fe.gate.isSome then s.count Kind.missedGate c 1
  else s.modFe c fun f => { f with gate := some ⟨some i, s.now + window⟩ }

/-- A window of the channel is opening at the present instant. -/
def windowOpening (s : State) (c : Nat) : Bool :=
  s.skein.any fun e => e.2.unretired && e.2.windows.contains c && !e.2.opened && decide (e.2.planned = s.now)

/-- An ambient gate opens when the integrator has been idle for 8 ns and no window is opening (spec 05 R129). -/
def ambientGate (c : Nat) (s : State) : State :=
  let fe := (s.chan c).fe
  if s.modeOf c ≠ 2 ∨ fe.gate.isSome ∨ s.now < fe.lastGateEnd + ns 8 ∨ s.windowOpening c then s
  else s.modFe c fun f => { f with gate := some ⟨none, s.now + ns 4096⟩ }

/-- A gate closes with the last sample of its integral, which stage 0 corrects (06 R151), and the mean current over it in
0.5 uA (spec 05 R130, R131, 10 R236, R241). -/
def gateClose (c raw : Nat) (ovr : Bool) (current : Nat) (s : State) : State :=
  match (s.chan c).fe.gate with
  | none => s
  | some g =>
    if s.now < g.closes then s
    else
      let v := Store.read (0, 0, 0) (s.chan c).fe.inter 0
      let integral := (correct raw v.1 v.2.1).toNat
      let s1 := s.modFe c fun f => { f with gate := none, lastGateEnd := s.now }
      match g.entry with
      | some i =>
        let e := s.entry i
        let r : Ret :=
          { c := c, element := e.element, tag := (s.chan c).fe.range, epoch := e.epoch, lt := e.lt
            validity := max (s.validAt c s.now) (if e.pickoff then e.pickValidity else 0), charge := true
            predicted := e.holdover || e.freeRun
            amplitude := integral, clipped := ovr || integral = 255, pickMissing := e.pickMissing, entry := i
            closeAt := e.planned + ns (8 * e.window) }
        s1.cond (!e.cal && !s1.declared c) fun s => (s.count Kind.returns c 1).receive r
      | none =>
        let full := ovr || integral = 255
        let s2 := ((s1.modFe c fun f => { f with fbGood := if current < 2000 then f.fbGood + 1 else 0 }).cond (!s.underCal c)
          (chargeReading c integral))
        s2.cond (!s.underCal c) (blindStep c full false (!full))

/-! ## Returns (spec 10 R246-R248) -/

/-- A return counts for its bank's weather (spec 10 R248). -/
def weatherCount (r : Ret) (s : State) : State :=
  let cls := r.cls
  if r.histogram ∨ r.charge ∨ r.validity ≠ 0 ∨ 1 < cls then s
  else
    s.modBank (r.c / 16) fun b => { b with
      n := b.n + 1, c1 := b.c1 + cls, diffuse := b.diffuse + (cls = 1 && r.wide).toNat
      cge1 := b.cge1 + (cls = 1 && !r.wide && r.seen).toNat }

/-- Carding decides the return it received first (spec 10 R246): it leaves as a record, with its annex where it has one,
or is dropped. -/
def cardDecide (c : Nat) (s : State) : State :=
  match (s.card c).inbox with
  | [] => s
  | r :: rest =>
    let cls := r.cls
    let s1 := ((s.modCard c fun k => { k with inbox := rest }).weatherCount r).count (Kind.class0 + cls) c 1
    if r.dropped then s1.count (Kind.dropped0 + cls) c 1
    else
      let ann := Ret.flags r ≠ 0
      (s1.noteClose c r.closeAt).offer .main c (if r.histogram then none else some r.lt.frame)
        ([Ret.bytes r cls ann] ++ if ann then [Ret.annex r] else [])

/-! ## Assessment periods (spec 10 R248-R252) -/

/-- The kind of a wet period (spec 10 R248): 1 RAIN, 2 SNOW, 3 FOG, 4 DUST. -/
def wetKind (b : Bank) : Nat :=
  if 3 * b.c1 ≤ 4 * b.diffuse then 3
  else if b.c1 ≤ 4 * b.diffuse then 4
  else if b.c1 ≠ b.diffuse ∧ b.c1 - b.diffuse ≤ 4 * b.cge1 then 2 else 1

/-- A ratio in 2^-16, 0 where the divisor is 0. -/
def ratio16 (a b : Nat) : Nat := if b = 0 then 0 else (quotOpen (65536 * a) b).toNat

/-- The weather of a bank at the end of a period (spec 10 R248, R249). -/
def weatherStep (b : Nat) (s : State) : State :=
  let k := s.bank b
  let s0 := s.modBank b fun k => { k with n := 0, c1 := 0, diffuse := 0, cge1 := 0 }
  if k.n < 256 then s0
  else
    let wet := k.n ≤ 50 * k.c1
    let kind := wetKind k
    let dry := 100 * k.c1 < k.n
    let run := if !wet then 0 else if k.weather = 0 ∨ k.wetKind = kind then k.wetRun + 1 else 1
    let run := if wet ∧ k.weather ≠ 0 ∧ kind = k.weather then 0 else run
    let dryRun := if dry then k.dryRun + 1 else 0
    let new := if 16 ≤ dryRun then 0 else if 4 ≤ run then kind else k.weather
    let s1 := s0.modBank b fun x => { x with
      weather := new, wetKind := kind, wetRun := if new = k.weather then run else 0, dryRun := dryRun }
    if new = k.weather then s1
    else s1.health 0x0144 b [(1, new), (4, ratio16 k.c1 k.n), (4, ratio16 k.diffuse k.c1),
      (4, ratio16 k.cge1 (k.c1 - k.diffuse))] []

/-- The hop index changes (spec 10 R252): cause 0 automatic, 1 host. -/
def setHop (j cause : Nat) (s : State) : State :=
  ((((s.modHop fun _ => j % 4).modHopHold fun _ => 8).modDist fun d => { d with
    staged := d.staged.filter fun x => !(x.handle = none && x.changes.any fun y => match y with
      | .hop _ host => !host | _ => false) }).count Kind.hop 0 1).health 0x0145 0 [(1, j % 4), (1, cause)] []

/-- An automatic hop (spec 10 R252): at the next line boundary, or at once without line time; one that waits is not made
twice. -/
def autoHop (s : State) : State :=
  let j := (s.hop + 1) % 4
  let waits := s.dist.staged.any fun x => x.changes.any fun y => match y with | .hop _ host => !host | _ => false
  if waits then s
  else if s.spindle.hasTime then
    s.modDist fun d => { d with staged := d.staged ++
      [⟨s.spindle.frame, s.spindle.line, true, none, [.hop j false], none⟩] }
  else s.setHop j 0

/-- The present instant ends an assessment period: the coarse count is a multiple of 2^20 (spec 10 R248). -/
def atPeriodEnd (s : State) : Bool := 0 < s.devTime s.now && s.devTime s.now % ns (2 ^ 20) = 0 && s.clock.periodAt < s.now

/-- The end of an assessment period (spec 10 R248-R252). -/
def periodEnd (s : State) : State :=
  if !s.atPeriodEnd then s
  else
    let s1 := (s.each (List.range 16) weatherStep).each (s.chans.map fun x => x.1) interferenceStep
    let n := ((s1.chans.filter fun x => x.2.card.interfered && decide (x.2.card.lowRun < 8) && x.2.card.wasInterfered)).length
    let held := s1.hopHold
    let s2 := ((s1.each (s.chans.map fun x => x.1) fun c => modCard c fun k => { k with
      wasInterfered := k.interfered && decide (k.lowRun < 8) }).modHopHold fun k => k - 1).modClock fun k => { k with periodAt := s.now }
    s2.cond (held = 0 && decide (s.pnum Par.hopTrigger 0 ≤ n)) autoHop

end State

/-! ## Meanings -/

/-- RANGE_BOUNDARY: spec 05 R123-R125, R131, 10 R236-R241. -/
def execRangeBoundary (t : Tick) (c deviation : Nat) (overRange : Bool) (servo : Nat) (s : State) :
    Host.Outcome State Fault Refusal :=
  .next ((s.advance t).rangeBoundary c deviation overRange servo)

/-- AMBIENT_GATE_OPEN: spec 05 R129. -/
def execAmbientGateOpen (t : Tick) (c : Nat) (s : State) : Host.Outcome State Fault Refusal :=
  .next ((s.advance t).ambientGate c)

/-- GATE_CLOSE: spec 05 R129-R131. -/
def execGateClose (t : Tick) (c : Nat) (sum : GateSum) (overRange : Bool) (s : State) : Host.Outcome State Fault Refusal :=
  .next ((s.advance t).gateClose c sum.integral overRange sum.current)

/-- DETECTOR_WINDOW_END: spec 07 R183-R185, 10 R237. -/
def execDetectorWindowEnd (t : Tick) (c : Nat) (raw : List Nat) (s : State) : Host.Outcome State Fault Refusal :=
  let s := s.advance t
  .next (s.detectorWindow c raw)

/-- CARDING_DECISION: spec 10 R245-R247, 13 R304, R305. -/
def execCardingDecision (t : Tick) (c : Nat) (s : State) : Host.Outcome State Fault Refusal :=
  .next ((s.advance t).cardDecide c)

/-- ASSESSMENT_PERIOD_END: spec 10 R248-R252. -/
def execAssessmentPeriodEnd (t : Tick) (s : State) : Host.Outcome State Fault Refusal := .next (s.advance t).periodEnd

end Sys2Proof.Machine
end

