-- ==== Sys2Proof/Machine/Sched.lean ====
section
/-! DEFINITION. The schedulers of the stacked DRAM's channels (spec 12 R281-R285): shares, queues, row activations and page
history. -/

namespace Sys2Proof.Machine

/-- Capture staging, in bytes (spec 01 Table 1-5). -/
def stagingSize : Nat := 3145728

namespace State

/-- The guaranteed share of a class in each 4 us interval, in bytes (spec 12 Table 12-3). -/
def shareOf (cls : Nat) : Nat := if cls = 2 then 100000 else if cls = 3 ∨ cls = 4 then 10000 else 0

/-- The number of the present 4 us interval. (DESIGN CHOICE, log 25.) -/
def dramSpan (s : State) : Nat := s.now / us 4

/-- The bytes of a class that a channel has served in the present interval. -/
def sharedBytes (s : State) (ch cls : Nat) : Nat :=
  let d := s.dramCh ch
  if d.spanNo = s.dramSpan then nth 0 d.spanBytes cls else 0

/-- A bank of the channel, not held by a refresh, has a request of the class. -/
def hasClass (s : State) (ch cls bank : Nat) : Bool :=
  let b := s.dramBank (ch * 16 + bank)
  b.busyUntil ≤ s.now && b.queue.any fun r => r.cls = cls

/-- The class served next on a channel: the highest priority among those below their share, else the highest (spec 12
R282 rule 2). -/
def nextClass (s : State) (ch : Nat) : Option Nat :=
  let held := [2, 3, 4, 5].filter fun k => (List.range 16).any (s.hasClass ch k)
  match held.find? fun k => s.sharedBytes ch k < shareOf k with
  | some k => some k
  | none => held.head?

/-- The bank served next for a class: in rotating order after the bank last served (spec 12 R282 rule 3). -/
def nextBank (s : State) (ch cls : Nat) : Option Nat :=
  ((List.range 16).map fun i => ((s.dramCh ch).lastBank + 1 + i) % 16).find? (s.hasClass ch cls)

/-- The request served next in a bank for a class (spec 12 R282 rule 4): the oldest to the open row, unless it would pass
one that has been passed 4 times; else the oldest. Requests to one burst are served in the order they entered. -/
def nextInBank (b : DramBank) (cls : Nat) : Option DramReq :=
  let mine := b.queue.filter fun r => r.cls = cls
  let hit := mine.find? fun r => some r.row = b.row
  let older := fun (r : DramReq) => mine.takeWhile fun x => x ≠ r
  let pick := match hit with
    | some r => if (older r).all fun x => x.passed < 4 then some r else mine.head?
    | none => mine.head?
  pick.map fun r => (b.queue.find? fun x => x.burst = r.burst).getD r

/-- What a served burst does: a write lays its masked bytes down; a read goes on to its requester. -/
def burstEffect (r : DramReq) (s : State) : State :=
  if r.write then s.modDramMem fun m => (List.range 64).foldl (fun m i =>
    if r.mask.getLsbD i then Store.write 0 m (64 * r.burst + i) (nth 0 r.data i) else m) m
  else
    let bytes := Memory.load s.dramMem (64 * r.burst) 64
    match r.job with
    | .capture _ => s
    | .spill c k i => s.cond (s.bob c k).spilling (spillRead c k i r bytes)
    | .bins c k i => s.modBob c k fun y => { y with back := y.back.map fun m => (List.range 16).foldl (fun m j =>
        Store.write 0 m (16 * i + j) (fromLe ((bytes.drop (4 * j)).take 4) % 2 ^ 24)) m }
    | .readback g => s.modGroup g fun y => { y with read := y.read.map fun j => { j with got := j.got ++ [(r.burst, bytes)] } }

/-- The page decision once a bank's queue holds no request to the open row (spec 12 R284). -/
def pageDecision (n : Nat) (s : State) : State :=
  let b := s.dramBank n
  s.cond (b.queue.all fun r => some r.row ≠ b.row) (modDramBank n fun b => { b with
    decided := b.row, row := if 2 ≤ (b.hist.filter id).length then b.row else none })

/-- A bank serves a request, whose row is open or is activated; it answers the bank's last page decision, as a hit or a
miss (spec 12 R284). -/
def serveReq (n : Nat) (r : DramReq) (s : State) : State :=
  let ch := n / 16
  let span := s.dramSpan
  let opens := (s.dramBank n).row ≠ some r.row
  let s1 := (s.modDramBank n fun b => { b with
      row := some r.row, decided := none
      hist := match b.decided with
        | none => b.hist
        | some row => b.hist.drop 1 ++ [decide (row = r.row)]
      queue := (b.queue.takeWhile (· ≠ r)).map (fun x => if x.cls = r.cls then { x with passed := x.passed + 1 } else x)
        ++ (b.queue.dropWhile (· ≠ r)).drop 1 }).modDramCh ch fun d =>
    let used := if d.spanNo = span then d.spanBytes else [0, 0, 0, 0, 0, 0]
    { d with
      acts := if opens then (s.now :: d.acts).take 4 else d.acts
      lastBank := n % 16, spanNo := span, spanBytes := nthMod used r.cls (· + 64)
      traffic := (s.now, r.cls) :: d.traffic.filter fun x => decide (s.now < x.1 + us 1000) }
  (s1.pageDecision n).burstEffect r

/-- One turn of a channel's scheduler (spec 12 R282, R283): the next request is served, or waits where it would be the
fifth row activation within 16 ns. A channel that is mapped out or in training serves none. `past` turns stand for those of
earlier instants, over which the activations were spread (DESIGN CHOICE, log 25). -/
def channelTurn (past : Bool) (ch : Nat) (s : State) : State :=
  if (s.dramCh ch).mapped.isSome ∨ (s.dramCh ch).training then s
  else
    match (s.nextClass ch).bind fun k => (s.nextBank ch k).bind fun b =>
        (nextInBank (s.dramBank (ch * 16 + b)) k).map fun r => (ch * 16 + b, r) with
    | none => s
    | some (n, r) =>
      let full := 4 ≤ ((s.dramCh ch).acts.filter fun x => decide (s.now < x + ns 16)).length
      if !past ∧ (s.dramBank n).row ≠ some r.row ∧ full then
        s.cond (!r.waited) fun s => (s.modDramBank n fun b => { b with
          queue := b.queue.map fun x => if x = r then { x with waited := true } else x }).modDramCh ch fun d => { d with
            waits := (d.waits + 1) % 2 ^ 32 }
      else s.serveReq n r

/-- One turn of the DRAM controller: each channel's scheduler serves a request, and what waits enters the queues. -/
def turn (past : Bool) (s : State) : State :=
  if s.requested fun _ => true then (s.each (List.range 16) (channelTurn past)).fillQueues else s

/-- A turn of the DRAM controller at the present instant. It is what the block does where no command waits (DESIGN CHOICE,
log 25). -/
def dramTurn (s : State) : State := s.turn false

/-! ## Capture staging (spec 01 Table 1-5) -/

/-- The bytes that a write lays down. -/
def maskBytes (r : DramReq) : Nat := ((List.range 64).filter fun i => r.mask.getLsbD i).length

/-- The bytes in capture staging. -/
def stagedBytes (s : State) : Nat := s.dram.staging.foldl (fun n r => n + maskBytes r) 0

/-- The requests, oldest first, that `room` bytes hold. -/
def thatFit (room : Nat) : List DramReq → List DramReq
  | [] => []
  | r :: rest => if maskBytes r ≤ room then r :: thatFit (room - maskBytes r) rest else []

/-- Capture staging holds 3,072 KiB (spec 01 R29): what it holds beyond that the controller serves on, and it does not accept
the words that still find no room (11 R272). -/
def makeRoom (s : State) : State :=
  (s.each (List.range s.dram.staging.length) fun _ s =>
    s.cond (stagingSize < s.stagedBytes) (turn true)).modDram fun d => { d with staging := thatFit stagingSize d.staging }

end State

end Sys2Proof.Machine
end

