-- ==== Sys2Proof/Machine/Roving.lean ====
section
/-! DEFINITION. Roving's capture groups (spec 11 R259-R275): arms, rings, triggers, captures, stops, overflow and
readback. Where the segments, rings and headers of a region stand is the model's choice in part (DESIGN CHOICE, log 23). -/

namespace Sys2Proof.Machine

/-- Ticks of one capture word, 8 samples (spec 11 R260). -/
def wordTime : Tick := 8 * sample

/-- The guard G of a segment, in words (spec 11 R261). -/
def guardWords : Nat := 272

/-- A group writes words (spec 11 Table 11-6). -/
def GroupState.writes (g : GroupState) : Bool := g = .filling || g = .waiting || g = .post || g = .continuous

/-! ## Capture words (spec 11 R260, Table 11-5) -/

/-- A captured sample (spec 11 R260): corrected code, over-range flag, range tag and validity code. -/
structure WordSample where
  code : Nat
  clip : Bool
  range : Nat
  validity : Nat
  deriving DecidableEq, Repr

/-- The first sample of a word that meets `p`, 0 where none does. -/
def firstSample (w : List WordSample) (p : WordSample → Bool) : Nat := if w.any p then w.findIdx p else 0

/-- The tag field of a word's 8 samples (spec 11 Table 11-5). -/
def wordTag (w : List WordSample) : Nat :=
  let at_ := fun i => nth ⟨16, false, 0, 0⟩ w i
  let r0 := (at_ 0).range
  let r7 := (at_ 7).range
  let top := w.foldl (fun v x => max v x.validity) 0
  let changes := ((List.range 7).filter fun i => (at_ i).range ≠ (at_ (i + 1)).range).length
  r0 % 4 + 4 * (r7 % 4) + 16 * (if r0 = r7 then 0 else firstSample w fun x => x.range = r7)
    + flagBit 7 (1 < changes) + 256 * (top % 4) + flagBit 10 (w.any fun x => x.validity ≠ (at_ 0).validity)
    + flagBit 11 (w.any fun x => x.clip) + 4096 * firstSample w fun x => x.clip

/-- A filler word: codes 0 and validity 3 (spec 11 R270, 12 R294). -/
def fillerWord : List Byte := le 8 0 ++ le 2 0x0300

/-- The 10 bytes of a word (spec 11 R260). -/
def wordBytes (w : List WordSample) : List Byte :=
  ((List.range 8).map fun k => BitVec.ofNat 8 (nth ⟨16, false, 0, 0⟩ w k).code) ++ le 2 (wordTag w)

namespace State

/-! ## Groups, regions and the guarantee -/

/-- A group's parameters; a group never armed names no channel. -/
def groupParams (g : Group) : CaptureParams := g.params.getD ⟨0, false, 0, 0, 1, false, 0, 8, false, 0, false, none⟩

/-- A group's channels, rising. -/
def groupChans (p : CaptureParams) : List Nat := maskList 256 p.channels.toNat

/-- A group counts as armed for conflicts and load (spec 11 R261, R271). -/
def groupBusy (s : State) (g : Nat) : Bool := (s.group g).state.busy || (s.group g).armPending

/-- The first word boundary after instant `x`: a word begins with its stage-0 sample (spec 06 R143). -/
def wordAfter (s : State) (x : Tick) : Tick := x + (wordTime - s.devTime x % wordTime)

/-- The present instant is a word boundary. -/
def atWord (s : State) : Bool := s.devTime s.now % wordTime = 0

/-- The armed capture load in GS/s (spec 11 R271). -/
def armedLoad (s : State) : Nat :=
  (List.range 16).foldl (fun n g =>
    if s.groupBusy g then n + 2 * (groupChans (groupParams (s.group g))).length else n) 0

/-- The capture guarantee in GS/s (spec 11 R271, 12 R295). -/
def captureGuarantee (s : State) : Nat := if s.dramAbsent then 0 else 20 * (16 - s.mappedOut)

/-- The device is in the blind-thermal state (spec 18 R429): the diode is broken and no proxy is valid. -/
def blindThermal (s : State) : Bool := s.power.broken && s.power.proxy.isNone

/-- Two regions have a byte in common. -/
def regionsMeet (a b : CaptureParams) : Bool :=
  a.regionStart < b.regionStart + b.regionSize && b.regionStart < a.regionStart + a.regionSize

/-- Segments of a group: one in continuous mode (spec 11 R261). -/
def segmentsOf (p : CaptureParams) : Nat := if p.continuous then 1 else p.segments

/-- The live bytes of a region with `n` live DRAM channels (spec 12 R277, R279). -/
def regionBytes (p : CaptureParams) (n : Nat) : Nat := p.regionSize * 65536 * n

/-- The segment capacity Q in words (spec 11 R261). -/
def capacityOf (p : CaptureParams) (n : Nat) : Nat :=
  (regionBytes p n - 65536) / ((groupChans p).length * segmentsOf p * 10)

/-- The ranges of Table 11-4 hold. -/
def capRanges (p : CaptureParams) : Bool :=
  p.channels ≠ 0 && 1 ≤ p.regionSize && p.regionStart + p.regionSize ≤ 8128
    && (p.continuous || (1 ≤ p.segments && p.segments ≤ 4096))
    && p.pre % 8 = 0 && p.pre < 2 ^ 32 && p.post % 8 = 0 && 8 ≤ p.post && p.post < 2 ^ 32
    && p.scheduled.all fun t => decide (t.1 < 2 ^ 32) && decide (t.2.1 < 65536) && decide (t.2.2 < 65536)

/-- The conflicts of R261 with other groups and with the channels' modes. -/
def capConflict (s : State) (g : Nat) (p : CaptureParams) : Bool :=
  (groupChans p).any (fun c => s.modeOf c ≠ 0)
    || (List.range 16).any fun o =>
      let q := groupParams (s.group o)
      o ≠ g && s.groupBusy o && (p.channels &&& q.channels ≠ 0 || regionsMeet p q)

/-- The checks of CAPTURE ARM (spec 11 R259, R261). -/
def armCheck (g : Nat) (p : CaptureParams) (s : State) : Ack :=
  let q := capacityOf p s.liveChans.length
  if 16 ≤ g then .wrongArg 16
  else if !capRanges p ∨ s.dramAbsent ∨ s.blindThermal ∨ s.capConflict g p ∨ q < guardWords + 1 then .wrongArg 0xFFFF
  else if !p.continuous ∧ (q - guardWords < p.pre / 8
      ∨ (!p.truncate ∧ q < p.pre / 8 + guardWords + p.post / 8)) then .wrongArg 0xFFFF
  else if s.groupBusy g then .busy 1 else .accepted

/-- A new arm discards the captures of groups whose regions overlap (spec 11 R275). -/
def discardOverlaps (p : CaptureParams) (s : State) : State :=
  s.each (List.range 16) fun o s =>
    s.cond ((s.group o).params.any fun q => regionsMeet p q) (modGroup o fun y => { y with captures := [] })

/-- A read of the group that still runs ends as failed: the arm discards what it was to read (spec 11 R275, 15 R360; DESIGN
CHOICE, log 160). -/
def endRead (g : Nat) (s : State) : State :=
  match (s.group g).read with
  | none => s
  | some j => ((s.discard (readOf g)).modGroup g fun y => { y with read := none }).failedOpen j.handle

/-- CAPTURE ARM is carried out: the group waits for its first word boundary (spec 11 R261, R263). -/
def armGroup (g : Nat) (p : CaptureParams) (handle : Nat) (s : State) : State :=
  let live := s.liveChans
  let q := capacityOf p live.length
  let s1 := ((s.discardOverlaps p).endRead g).modGroup g fun y => { y with
    params := some p, capacity := q, live := live, armPending := true, segment := 0, trigger := none, made := 0
    missedPost := 0, missedRearm := 0, lastEnd := none, dead := [], dramLost := false, closing := none
    schedDone := false, gaps := [], seen := [], captures := [], missedAt := [], overflowAt := none }
  let load := s1.armedLoad
  s1.succeed handle (place 32 [(4, q), (2, load), (2, s1.captureGuarantee), (1, (decide (s1.captureGuarantee < load)).toNat)])

/-- The arm takes effect: the first ring begins at a word boundary (spec 11 R263). -/
def armEffect (g : Nat) (s : State) : State :=
  let y := s.group g
  let p := groupParams y
  if !y.armPending ∨ y.closing.isSome ∨ !s.atWord then s
  else s.modGroup g fun y => { y with
    armPending := false, ringAt := s.now
    state := if p.continuous then .continuous else if p.pre = 0 then .waiting else .filling
    gaps := ((groupChans p).filter fun c => s.modeOf c ≠ 0).map fun c => (c, s.now, none) }

/-! ## Words on their way into the region (spec 11 R260-R264) -/

/-- The place in its segment of the `j`-th word since the ring began: in the ring of `w` words, which wraps, or after it
from the `turn`-th word on (spec 11 R263, R264). -/
def placeOf (w : Nat) (turn : Option Nat) (j : Nat) : Nat :=
  match turn with
  | none => j % max 1 w
  | some t => if j < t then j % max 1 w else w + (j - t)

/-- The live-byte offset, in its region, of the `j`-th word since the ring began of channel number `i` (spec 11 R261, R263;
DESIGN CHOICE, log 23). -/
def wordOffset (y : Group) (segment ring : Nat) (turn : Option Nat) (i j : Nat) : Nat :=
  65536 + ((segment * (groupChans (groupParams y)).length + i) * y.capacity + placeOf ring turn j) * 10

/-- The device address of byte `off` of a group's region (spec 12 R278, R279). -/
def regionAddr (y : Group) (off : Nat) : Nat :=
  stripeAddr y.live (0x04000000 + (groupParams y).regionStart * 2 ^ 20) off

/-- A capture word was formed while its channel was out of waveform with TDC (spec 11 R270). -/
def inGap (y : Group) (c : Nat) (x : Tick) : Bool :=
  y.gaps.any fun z => decide (z.1 = c) && decide (z.2.1 < x + wordTime) && z.2.2.all fun e => decide (x < e)

/-- The samples of a word of channel `c` from instant `x`: each with the correction, range and validity of its instant
(spec 11 R260, 06 R146, 05 R122, R128). -/
def wordSamples (s : State) (c : Nat) (x : Tick) (raw : List Nat) : List WordSample :=
  raw.mapIdx fun i r =>
    let t := x + sample * i
    ⟨(s.corrected c t r).toNat, decide (256 ≤ r), s.rangeAt c t, s.validAt c t⟩

/-- Words of the ring at the start of a segment. -/
def ringWords (y : Group) : Nat :=
  if (groupParams y).continuous then y.capacity else (groupParams y).pre / 8 + guardWords

/-- Whole words written since the ring began: a group that stops writes up to its word boundary (spec 11 R270). -/
def wordsSince (s : State) (y : Group) : Nat :=
  ((match y.closing with | some c => min s.now (s.wordAfter c.since) | none => s.now) - y.ringAt) / wordTime

/-- The trigger word of an accepted trigger, and the words in the ring at its decision, both since the ring began (spec
11 R264). -/
def trigWord (y : Group) (a : Accepted) : Nat × Nat :=
  ((a.instant - y.ringAt) / wordTime, (a.decidedAt - y.ringAt) / wordTime)

/-- Bytes of DRAM go to capture staging as requests of class 2, for byte `off` of the region on (spec 12 R281, Table 12-3);
those for stripes that are mapped out are lost (R294). -/
def stageBytes (g : Nat) (parts : List (Nat × List Byte)) (s : State) : State :=
  let y := s.group g
  (s.request (writesOf 2 (.capture g)
    (parts.flatMap fun p => p.2.mapIdx fun j v => (regionAddr y (p.1 + j), v)))).makeRoom

/-- Words of a writing group that are complete go to their places in the present segment (spec 11 R260, R263, R264, R270);
once a trigger is accepted, those up to its last. -/
def layWords (g : Nat) (words : List RawWord) (s : State) : State :=
  let y := s.group g
  let cs := groupChans (groupParams y)
  let turn := y.trigger.map fun a => (trigWord y a).2
  let last := match y.trigger with
    | some a => min (s.wordsSince y) ((trigWord y a).1 + y.postWords)
    | none => s.wordsSince y
  s.cond y.state.writes (stageBytes g ((words.filter fun w => w.channel ∈ cs && w.index < last).map fun w =>
    let x := y.ringAt + wordTime * w.index
    (wordOffset y y.segment (ringWords y) turn (cs.idxOf w.channel) w.index,
      if inGap y w.channel x then fillerWord else wordBytes (s.wordSamples w.channel x w.samples))))

/-- P / 8 words have been written since the ring began (spec 11 R263); it brings words of the ring. (DESIGN CHOICE, log
12.) -/
def ringFilled (g : Nat) (words : List RawWord) (s : State) : State :=
  let y := s.group g
  (s.layWords g words).cond (y.state = .filling && y.ringAt + wordTime * ((groupParams y).pre / 8) ≤ s.now)
    (modGroup g fun y => { y with state := .waiting })

/-! ## Triggers (spec 11 R264-R269) -/

/-- An instant lies in a span of POST or REARM that `kind` names. -/
def inDead (y : Group) (kind : Bool) (x : Tick) : Bool :=
  y.dead.any fun z => z.1 = kind && decide (z.2.1 ≤ x) && z.2.2.all fun e => decide (x < e)

/-- Counts a missed trigger, in re-arm or in post (spec 11 R268); none that is decided in the cycle of the group's overflow
(R269). -/
def countMiss (g : Nat) (rearm : Bool) (s : State) : State :=
  if (s.group g).overflowAt = some s.now then s
  else (s.count (if rearm then Kind.missedRearm else Kind.missedPost) g 1).modGroup g fun y => { y with
    missedPost := y.missedPost + (!rearm).toNat, missedRearm := y.missedRearm + rearm.toNat
    missedAt := (y.missedAt.filter fun m => m.2 = s.now) ++ [(rearm, s.now)] }

/-- The missed triggers of the present cycle are not counted (spec 11 R269: an overflow). -/
def uncountMisses (g : Nat) (s : State) : State :=
  let mine := (s.group g).missedAt.filter fun m => m.2 = s.now
  let s1 := s.each mine fun m => count (if m.1 then Kind.missedRearm else Kind.missedPost) g (2 ^ 32 - 1)
  s1.modGroup g fun y => { y with
    missedPost := y.missedPost - (mine.filter fun m => !m.1).length
    missedRearm := y.missedRearm - (mine.filter fun m => m.1).length, missedAt := [], overflowAt := some s.now }

/-- A trigger that is not accepted is counted (spec 11 R268): in POST or in REARM by its instant. One that lies in
neither, but comes to a group that another trigger has taken, counts in POST (R269; DEDUCED, log 130). -/
def missTrigger (g : Nat) (x : Tick) (s : State) : State :=
  let y := s.group g
  let taken := (y.state = .post || y.state = .rearm || y.state = .filling || y.state = .waiting) && y.dead ≠ []
  if inDead y true x then s.countMiss g true
  else if inDead y false x ∨ taken then s.countMiss g false
  else s

/-- A span of POST or REARM ends, and the next one begins where there is one. -/
def spanTo (next : Option Bool) (s : State) (l : List (Bool × Tick × Option Tick)) : List (Bool × Tick × Option Tick) :=
  let done := l.map fun z => if z.2.2.isNone then (z.1, z.2.1, some s.now) else z
  match next with
  | some k => (k, s.now, none) :: done
  | none => done

/-- A trigger is accepted and the group enters POST (spec 11 R264-R266): the actual pre-trigger count is P but for a trigger
that came early (DEDUCED, log 128). -/
def acceptTrigger (g : Nat) (x : Tick) (source channel : Nat) (s : State) : State :=
  let y := s.group g
  let p := groupParams y
  let nd := s.wordsSince y
  let tw := (x - y.ringAt) / wordTime
  let lt := if s.spindle.hasTime then s.lineTimeAt x else s.spindle.last
  let room := (nd - tw) + (y.capacity - ringWords y)
  s.modGroup g fun y => { y with
    state := .post
    trigger := some ⟨x, source, channel, y.state = .filling, s.now, lt, s.lineFlags, s.stateCodes,
      min (p.pre / 8) (min tw (ringWords y + tw - nd)), y.missedPost, y.missedRearm⟩
    dead := spanTo (some false) s y.dead
    postWords := min (p.post / 8) room
    truncated := decide (room < p.post / 8)
    missedPost := 0, missedRearm := 0 }

/-- A trigger decided in the cycle in which another was accepted: one capture, with the earliest instant
(spec 11 R269). -/
def joinTrigger (g : Nat) (x : Tick) (source channel : Nat) (a : Accepted) (s : State) : State :=
  let s1 := s.modGroup g fun y => { y with
    state := if a.early then .filling else .waiting, trigger := none, dead := y.dead.drop 1
    missedPost := a.missedPost, missedRearm := a.missedRearm }
  if x < a.instant then s1.acceptTrigger g x (a.source ||| source) channel
  else s1.acceptTrigger g a.instant (a.source ||| source) a.channel

/-- A group decides one trigger (spec 11 R264, R268, R269). -/
def decideTrigger (g : Nat) (x : Tick) (source channel : Nat) (s : State) : State :=
  let y := s.group g
  if y.closing.isSome then s.countMiss g false
  else if (y.state = .filling ∨ y.state = .waiting) ∧ y.ringAt ≤ x then s.acceptTrigger g x source channel
  else match y.state, y.trigger with
    | .post, some a => if a.decidedAt = s.now ∧ y.ringAt ≤ x then s.joinTrigger g x source channel a
        else s.missTrigger g x
    | _, _ => s.missTrigger g x

/-- The triggers that a group has seen are decided, in order of instant (spec 11 R257, R258, R264); the decision brings words
of the ring. -/
def decideTriggers (g : Nat) (words : List RawWord) (s : State) : State :=
  let s0 := (s.layWords g words).each (List.range 16) combineBank
  let seen := sortBy (fun a b => decide (a.1 ≤ b.1)) (s0.group g).seen
  let s1 := s0.modGroup g fun y => { y with seen := [] }
  s1.each seen fun x s => s.cond (s.group g).state.watches (decideTrigger g x.1 x.2.1 x.2.2)

/-- A host trigger (spec 11 R264). -/
def hostTrigger (g : Nat) (s : State) : State :=
  s.cond ((s.group g).state.watches && (groupParams (s.group g)).host) (decideTrigger g s.now (2 ^ 16) 0xFF)

/-- The planned instant of a scheduled trigger arrives (spec 11 R264). -/
def scheduledTrigger (g : Nat) (s : State) : State :=
  let y := s.group g
  match (groupParams y).scheduled with
  | none => s
  | some (f, l, q) =>
    let x := s.plannedInstant ⟨f, l, q⟩
    if y.schedDone ∨ !y.state.watches ∨ !s.spindle.hasTime ∨ s.now < x then s
    else (s.modGroup g fun y => { y with schedDone := true }).decideTrigger g x (2 ^ 17) 0xFF

/-! ## Captures -/

/-- The live-byte offset of the header of channel number `i` of a capture, in the 64 KiB of headers (spec 11 R261; DESIGN
CHOICE, log 23). -/
def headerOffset (y : Group) (c : Capture) (i : Nat) : Nat :=
  128 * ((c.segment * (groupChans (groupParams y)).length + i) % 512)

/-- The capture header in a first block (spec 11 Table 11-7, 13 Table 13-11). -/
def captureHeader (s : State) (y : Group) (c : Capture) : List Byte :=
  le 8 (s.stampField c.trigger) ++ le 8 (s.devField c.first) ++ le 8 c.lt.field ++ le 4 c.source
    ++ [BitVec.ofNat 8 c.channel, 0] ++ le 2 c.flags.toNat
    ++ le 4 (groupParams y).pre ++ le 4 c.pre ++ le 4 (groupParams y).post ++ le 4 c.post
    ++ le 4 c.dead ++ le 2 c.missedPost ++ le 2 c.missedRearm ++ le 8 0

/-- The header of a channel's capture as it stands in the header area (spec 11 R274; layout DESIGN CHOICE, log 23). -/
def headerBytes (s : State) (g : Nat) (y : Group) (c : Capture) (channel : Nat) : List Byte :=
  le 4 (g + 16 * c.segment + 65536 * channel) ++ le 4 c.number ++ s.captureHeader y c

/-- The headers of a capture go to capture staging (spec 11 R267, R274, 12 R281). -/
def storeHeads (g : Nat) (cap : Capture) (s : State) : State :=
  let y := s.group g
  s.stageBytes g ((groupChans (groupParams y)).mapIdx fun i c => (headerOffset y cap i, s.headerBytes g y cap c))

/-- Some word of a capture was formed in a gap of its channel. -/
def hasGap (y : Group) (first : Tick) (n : Nat) : Bool :=
  y.gaps.any fun z => decide (z.2.1 < first + wordTime * n) && z.2.2.all fun e => decide (first < e)

/-- The segment closes with a capture (spec 11 R267, R268, R270, R274): `n` words from the `start`-th since the ring began
on, those from the `turn`-th on after the ring; `flags` of the stop. -/
def addCapture (g : Nat) (a : Accepted) (start : Nat) (turn : Option Nat) (n post : Nat) (flags : BitVec 10)
    (s : State) : State :=
  let y := s.group g
  let p := groupParams y
  let first := y.ringAt + wordTime * start
  let f := flagBit 0 a.early + flagBit 6 (hasGap y first n) + flagBit 7 y.dramLost
    + flagBit 8 (a.lineFlags.testBit 0) + flagBit 9 (a.lineFlags.testBit 1)
  let cap : Capture := {
    segment := y.segment, number := y.number, trigger := a.instant, source := a.source, channel := a.channel, lt := a.lt
    first := first, firstWord := -(a.pre : Int), words := n, start := start, turn := turn, ring := ringWords y
    pre := if a.early || turn.isNone then 8 * a.pre else p.pre, post := 8 * post
    dead := match y.lastEnd with
      | none => 0
      | some e => min (2 ^ 32 - 1) ((y.ringAt - e) / 4096)
    missedPost := min 65535 a.missedPost, missedRearm := min 65535 a.missedRearm, flags := flags ||| BitVec.ofNat 10 f
    lineFlags := a.lineFlags, codes := a.codes }
  (s.storeHeads g cap).modGroup g fun y => { y with
    captures := y.captures.filter (fun c => c.segment ≠ y.segment) ++ [cap]
    number := (y.number + 1) % 2 ^ 32, made := y.made + 1, lastEnd := some (first + wordTime * n) }

/-- The last post-trigger sample is written: REARM, then the next segment (spec 11 R267). -/
def postEnd (g : Nat) (words : List RawWord) (s : State) : State :=
  let s := s.layWords g words
  let y := s.group g
  match y.state, y.trigger with
  | .post, some a =>
    let w := trigWord y a
    if y.closing.isSome ∨ s.now < y.ringAt + wordTime * (w.1 + y.postWords) then s
    else (s.addCapture g a (w.1 - a.pre) (some w.2) (a.pre + y.postWords) y.postWords
        (BitVec.ofNat 10 (flagBit 1 y.truncated))).modGroup g fun y => { y with
      state := .rearm, dead := spanTo (some true) s y.dead, trigger := none }
  | _, _ => s

/-- REARM ends: DONE after the last capture in stop mode, else the next ring begins (spec 11 R267). -/
def rearmEnd (g : Nat) (s : State) : State :=
  let y := s.group g
  let p := groupParams y
  if y.state ≠ .rearm ∨ y.closing.isSome ∨ !s.atWord then s
  else
    let s1 := s.modGroup g fun y => { y with dead := spanTo none s y.dead }
    if !p.wrap ∧ p.segments ≤ y.made then s1.modGroup g fun y => { y with state := .done }
    else s1.modGroup g fun y => { y with
      state := if p.pre = 0 then .waiting else .filling
      ringAt := s.now, segment := (y.segment + 1) % max 1 p.segments
      gaps := y.gaps.filter fun z => z.2.2.isNone }

/-- The capture of a ring that no trigger closed: its reference is the stop's instant (spec 11 R269, R270; DEDUCED, log
24). -/
def ringCapture (g : Nat) (at_ : Tick) (flags : BitVec 10) (s : State) : State :=
  let y := s.group g
  let nd := s.wordsSince y
  let n := min (ringWords y) nd
  let lt := if s.spindle.hasTime then s.lineTimeAt at_ else s.spindle.last
  s.addCapture g ⟨at_, 0, 0xFF, false, s.now, lt, s.lineFlags, s.stateCodes, n, y.missedPost, y.missedRearm⟩
    (nd - n) none n 0 (flags ||| BitVec.ofNat 10 (flagBit 5 (y.state ≠ .continuous)))

/-- Closes a group's segment at the present word boundary and sends the group to STOPPED (spec 11 R270, R272): `at_` is
the instant the stop took effect, `flag` the flags its capture takes, with those of a stop that waits for the boundary (20
R461). -/
def closeGroup (g : Nat) (at_ : Tick) (flag : BitVec 10) (words : List RawWord) (s : State) : State :=
  let s := s.layWords g words
  let y := s.group g
  let flags := flag ||| (y.closing.map fun c => c.flags).getD 0
  let s1 := match y.state, y.trigger with
    | .post, some a =>
      let w := trigWord y a
      let post := min y.postWords (s.wordsSince y - w.1)
      s.addCapture g a (w.1 - a.pre) (some w.2) (a.pre + post) post
        (flags ||| BitVec.ofNat 10 (flagBit 1 (y.truncated && post = y.postWords)))
    | .rearm, _ => s
    | _, _ => s.cond y.state.writes (ringCapture g at_ flags)
  s1.modGroup g fun y => { y with
    state := .stopped, armPending := false, closing := none, trigger := none, dead := spanTo none s y.dead }

/-- A trigger decided in the cycle of a stop is undone (spec 11 R269): the stop applies. -/
def undoTrigger (g : Nat) (counted : Bool) (s : State) : State :=
  match (s.group g).state, (s.group g).trigger with
  | .post, some a =>
    if a.decidedAt ≠ s.now then s
    else (s.modGroup g fun y => { y with
      state := if a.early then .filling else .waiting, trigger := none, dead := y.dead.drop 1
      missedPost := a.missedPost, missedRearm := a.missedRearm }).cond counted (countMiss g false)
  | _, _ => s

/-- A stop of a group takes effect, with bit `flag`; it closes at the next word boundary (spec 11 R270). -/
def stopGroup (g : Nat) (handle : Option Nat) (flag : Nat) (s : State) : State :=
  (s.undoTrigger g true).modGroup g fun y => { y with closing := some ⟨s.now, handle, BitVec.ofNat 10 (2 ^ flag)⟩ }

/-- Every armed group stops (spec 11 R270): `flag` 3 stopped, 4 thermal. One whose stop fell in the same cycle takes both
flags (20 R461). -/
def stopCaptures (flag : Nat) (s : State) : State :=
  s.each (List.range 16) fun g s =>
    match (s.group g).closing with
    | none => s.cond (s.groupBusy g) (stopGroup g none flag)
    | some c => s.cond (c.since = s.now) (modGroup g fun y => { y with
        closing := some { c with flags := c.flags ||| BitVec.ofNat 10 (2 ^ flag) } })

/-- A stopped group's segment closes once its next word boundary has come (spec 11 R270). -/
def segmentClose (g : Nat) (words : List RawWord) (s : State) : State :=
  match (s.group g).closing with
  | none => s
  | some c =>
    if s.now < s.wordAfter c.since then s
    else
      let s1 := s.closeGroup g c.since c.flags words
      match c.handle with
      | some h => s1.succeed h []
      | none => s1

/-- Capture staging cannot accept a word: the writing group with the highest number stops (spec 11 R271, R272). -/
def captureOverflow (lost : Nat) (words : List RawWord) (s : State) : State :=
  match (List.range 16).reverse.find? fun g => (s.group g).state.writes with
  | none => s
  | some g =>
    if s.armedLoad ≤ s.captureGuarantee then s
    else
      let h := (s.group g).closing.bind fun c => c.handle
      let s1 := (((((s.undoTrigger g false).uncountMisses g).closeGroup g s.now 4 words).count Kind.overflow g 1).setFlag 15).health 0x0150 g
        [(4, lost)] []
      match h with
      | some h => s1.succeed h []
      | none => s1

/-! ## Readback (spec 11 R275, 13 R312) -/

/-- The blocks of one capture of one channel for the words from `lo` to `hi` relative to the trigger word. -/
def captureBlocks (c : Capture) (channel : Nat) (lo hi : Int) : List WaveBlock :=
  let a := max lo c.firstWord
  let b := min (hi + 1) (c.firstWord + c.words)
  let n := (b - a).toNat
  (List.range ((n + 4095) / 4096)).map fun i =>
    ⟨c.segment, channel, a + (4096 * i : Nat), min 4096 (n - 4096 * i), i = 0, n ≤ 4096 * (i + 1)⟩

/-- The blocks a capture read asks for, in order of segment, then channel. -/
def readBlocks (y : Group) (first last : Nat) (channels : BitVec 256) (lo hi : Int) : List WaveBlock :=
  let caps := sortBy (fun a b => decide (a.segment ≤ b.segment))
    (y.captures.filter fun c => first ≤ c.segment && c.segment ≤ last)
  caps.flatMap fun c => ((groupChans (groupParams y)).filter fun i => channels.getLsbD i).flatMap
    fun i => captureBlocks c i (lo / 8) (hi / 8)

/-- The device addresses of kept word `k` of channel number `i` of a capture. -/
def wordAddrs (y : Group) (c : Capture) (i k : Nat) : List Nat :=
  (List.range 10).map fun j => regionAddr y (wordOffset y c.segment c.ring c.turn i (c.start + k) + j)

/-- The bursts that a block is read from, on the channels in service (spec 12 R281). -/
def blockBursts (s : State) (y : Group) (b : WaveBlock) : List Nat :=
  match y.captures.find? fun c => c.segment = b.segment with
  | none => []
  | some c =>
    let i := (groupChans (groupParams y)).idxOf b.channel
    let k0 := (b.firstWord - c.firstWord).toNat
    if s.dramAbsent then []
    else (burstsAt ((List.range b.words).flatMap fun k => wordAddrs y c i (k0 + k))).filter fun n =>
      (s.dramCh (addrChan (64 * n))).mapped.isNone

/-- The next block of a read is asked for (spec 12 R281, Table 12-3: class 4). -/
def fetchBlock (g : Nat) (s : State) : State :=
  let y := s.group g
  match y.read.bind fun j => j.blocks.head? with
  | none => s
  | some b => (s.modGroup g fun y => { y with read := y.read.map fun j => { j with got := [] } }).request
      (readsOf 4 (.readback g) (s.blockBursts y b))

/-- The bytes of a word from the bursts that were read back; a word on a dead stripe is a filler word (spec 12 R294). -/
def readWord (s : State) (y : Group) (got : List (Nat × List Byte)) (c : Capture) (i k : Nat) : List Byte :=
  let addrs := wordAddrs y c i k
  if s.dramAbsent || addrs.any fun a => (s.dramCh (addrChan a)).mapped.isSome then fillerWord
  else addrs.map fun a => ((got.find? fun x => x.1 = a / 64).map fun x => nth 0 x.2 (a % 64)).getD 0

/-- The length of a waveform block (spec 13 R312). -/
def blockLen (b : WaveBlock) : Nat := (48 + (if b.first then 64 else 0) + 10 * b.words + 7) / 8 * 8

/-- A waveform block (spec 13 R312). -/
def waveBytes (s : State) (g : Nat) (y : Group) (got : List (Nat × List Byte)) (c : Capture) (b : WaveBlock) (seq : Nat) :
    List Byte :=
  let i := (groupChans (groupParams y)).idxOf b.channel
  let k0 := (b.firstWord - c.firstWord).toNat
  let len := blockLen b
  padTo len (s.headerAt c.trigger c.lineFlags c.codes 0x13 len (Src.group g) 0 0 c.lt seq
    ++ [BitVec.ofNat 8 (g % 16 + flagBit 4 b.first + flagBit 5 b.last), 0] ++ le 2 b.segment
    ++ [BitVec.ofNat 8 b.channel, 0] ++ le 2 b.words ++ le 4 (twos 4 b.firstWord) ++ le 4 c.number
    ++ (if b.first then s.captureHeader y c else [])
    ++ (List.range b.words).flatMap fun k => s.readWord y got c i (k0 + k))

/-- A waveform block enters the class-2 queue when its bursts have been read back and there is room; the last one
completes the read (spec 11 R275, 12 R281). -/
def sendBlock (g : Nat) (s : State) : State :=
  let y := s.group g
  match y.read with
  | none => s
  | some j => match j.blocks with
    | [] => (s.modGroup g fun y => { y with read := none }).succeed j.handle []
    | b :: rest =>
      if !s.recs.room .class2 (blockLen b) ∨ (s.blockBursts y b).any fun n => j.got.all fun x => x.1 ≠ n then s
      else
        let s1 := match y.captures.find? fun c => c.segment = b.segment with
          | none => s
          | some c => s.offer .class2 (Src.group g) none [s.waveBytes g y j.got c b]
        if rest = [] then (s1.modGroup g fun y => { y with read := none }).succeed j.handle []
        else (s1.modGroup g fun y => { y with read := some { j with blocks := rest } }).fetchBlock g

/-- CAPTURE READ starts (spec 11 R275); a read that names no word completes at once. -/
def startRead (g first last : Nat) (channels : BitVec 256) (lo hi : Int) (handle : Nat) (s : State) : State :=
  match readBlocks (s.group g) first last channels lo hi with
  | [] => s.succeed handle []
  | bs => (s.modGroup g fun y => { y with read := some ⟨handle, bs, []⟩ }).fetchBlock g

end State

/-! ## Meanings -/

/-- TRIGGER_DECISION: spec 11 R264-R269. -/
def execTriggerDecision (t : Tick) (ring : GroupWords) (s : State) : Host.Outcome State Fault Refusal :=
  .next ((s.advance t).decideTriggers ring.group ring.words)

/-- SCHEDULED_TRIGGER: spec 11 R264. -/
def execScheduledTrigger (t : Tick) (group : Nat) (s : State) : Host.Outcome State Fault Refusal :=
  .next ((s.advance t).scheduledTrigger group)

/-- ARM_EFFECT: spec 11 R263. -/
def execArmEffect (t : Tick) (group : Nat) (s : State) : Host.Outcome State Fault Refusal :=
  .next ((s.advance t).armEffect group)

/-- RING_FILLED: spec 11 R263. -/
def execRingFilled (t : Tick) (ring : GroupWords) (s : State) : Host.Outcome State Fault Refusal :=
  .next ((s.advance t).ringFilled ring.group ring.words)

/-- POST_TRIGGER_END: spec 11 R266, R267. -/
def execPostTriggerEnd (t : Tick) (group : Nat) (words : List RawWord) (s : State) :
    Host.Outcome State Fault Refusal :=
  .next ((s.advance t).postEnd group words)

/-- REARM_END: spec 11 R267. -/
def execRearmEnd (t : Tick) (group : Nat) (s : State) : Host.Outcome State Fault Refusal :=
  .next ((s.advance t).rearmEnd group)

/-- SEGMENT_CLOSE: spec 11 R270. -/
def execSegmentClose (t : Tick) (group : Nat) (words : List RawWord) (s : State) : Host.Outcome State Fault Refusal :=
  .next ((s.advance t).segmentClose group words)

/-- CAPTURE_OVERFLOW: spec 11 R272. -/
def execCaptureOverflow (t : Tick) (lost : Nat) (words : List RawWord) (s : State) :
    Host.Outcome State Fault Refusal :=
  .next ((s.advance t).captureOverflow lost words)

/-- WAVEFORM_BLOCK_SEND: spec 11 R275, 13 R312. -/
def execWaveformBlockSend (t : Tick) (group : Nat) (s : State) : Host.Outcome State Fault Refusal :=
  .next ((s.advance t).sendBlock group)

/-- CAPTURE_ARM: spec 11 R259, R261. -/
def execCaptureArm (t : Tick) (h : Hdr) (group : Nat) (params : CaptureParams) (s : State) :
    Host.Outcome State Fault Refusal :=
  .next ((s.advance t).command 0x0B01 h (State.armCheck group params) (State.armGroup group params))

/-- CAPTURE_STOP: spec 11 R270. A group that is not armed has no segment to close. -/
def execCaptureStop (t : Tick) (h : Hdr) (group : Nat) (s : State) : Host.Outcome State Fault Refusal :=
  .next ((s.advance t).command 0x0B02 h
    (fun s => if 16 ≤ group then .wrongArg 16 else if (s.group group).closing.isSome then .busy 1 else .accepted)
    (fun handle s => if s.groupBusy group then s.stopGroup group (some handle) 3 else s.succeed handle []))

/-- HOST_TRIGGER: spec 11 R264. -/
def execHostTrigger (t : Tick) (h : Hdr) (group : Nat) (s : State) : Host.Outcome State Fault Refusal :=
  .next ((s.advance t).command 0x0B03 h (fun _ => if 16 ≤ group then .wrongArg 16 else .accepted)
    (fun handle s => (s.hostTrigger group).succeed handle []))

/-- CAPTURE_READ: spec 11 R275, 12 R296. -/
def execCaptureRead (t : Tick) (h : Hdr) (group firstSeg lastSeg : Nat) (channels : BitVec 256) (lo hi : Int)
    (s : State) : Host.Outcome State Fault Refusal :=
  .next ((s.advance t).command 0x0B04 h
    (fun s => if 16 ≤ group then .wrongArg 16
      else if lastSeg < firstSeg ∨ 4096 ≤ lastSeg ∨ hi < lo ∨ s.dramAbsent then .wrongArg 0xFFFF
      else if s.groupBusy group ∨ (s.group group).read.isSome then .busy 1 else .accepted)
    (State.startRead group firstSeg lastSeg channels lo hi))

end Sys2Proof.Machine
end

