-- ==== Sys2Proof/Machine/Dram.lean ====
section
/-! DEFINITION. The controller of the stacked DRAM (spec 12 R286-R297): refresh, estimated temperature, training, mapping
out, memory modes and status. Its scheduler stands in Sched.lean. -/

namespace Sys2Proof.Machine

/-! ## Lanes and eyes (spec 12 R289) -/

/-- A byte lane has a working setting: both eyes are at least 24 steps wide. -/
def laneWorks (e : LaneEye) : Bool := 24 ≤ e.readLen && 24 ≤ e.writeLen

/-- The middle index of an eye, rounded down (0 for an empty one). -/
def eyeCentre (start len : Nat) : Nat := start + (len - 1) / 2

/-- The first lane without a working setting: lane, eye (0 read, 1 write) and its width. -/
def failingLane (eyes : List LaneEye) : Option (Nat × Nat × Nat) :=
  ((List.range 8).find? fun k => !laneWorks (nth ⟨0, 0, 0, 0⟩ eyes k)).map fun k =>
    let e := nth ⟨0, 0, 0, 0⟩ eyes k
    if e.readLen < 24 then (k, 0, e.readLen) else (k, 1, e.writeLen)

namespace State

/-! ## Memory modes (spec 12 R294-R296) -/

/-- The memory mode (spec 12 Table 12-5): 0 full, 1 DRAM-degraded, 2 DRAM-absent. -/
def memoryMode (s : State) : Nat := if s.mappedOut = 0 then 0 else if s.mappedOut ≤ 2 then 1 else 2

/-- The mask of the DRAM channels mapped out. -/
def mappedMask (s : State) : Nat := maskOf ((List.range 16).filter fun i => (s.dramCh i).mapped.isSome)

/-- The memory mode is reported where it has changed from `old` (spec 12 R295); on entry to DRAM-absent operation the
writing groups stop, accumulations end and no content is kept (R273, R296). -/
def modeChanged (old : Nat) (s : State) : State :=
  if s.memoryMode = old then s
  else
    let s1 := s.health 0x0161 0 [(1, s.memoryMode), (2, s.mappedMask)] []
    if s.memoryMode ≠ 2 then s1
    else
      let s2 := s1.each (List.range 16) fun g s => if s.groupBusy g then
          let h := (s.group g).closing.bind fun c => c.handle
          let s' := s.closeGroup g s.now 0x80 []
          match h with | some h => s'.succeed h [] | none => s'
        else s
      ((s2.bobsLost true).modDramMem fun _ => []).modDram fun d => { d with banks := [], staging := [], waiting := [] }

/-- A capture has a word on DRAM channel `ch` (spec 11 R273). -/
def captureOn (y : Group) (c : Capture) (ch : Nat) : Bool :=
  (List.range (groupChans (groupParams y)).length).any fun i => (List.range c.words).any fun k =>
    (wordAddrs y c i k).any fun a => addrChan a = ch

/-- A DRAM channel is mapped out (spec 12 R294, 11 R273): its lane, the eye that failed and the eye's width. Its requests
and its staged words are discarded. -/
def mapOut (ch : Nat) (f : Nat × Nat × Nat) (s : State) : State :=
  let old := s.memoryMode
  let s1 := (s.modDramCh ch fun d => { d with mapped := some f, training := false }).discard fun r => r.chan = ch
  let s2 := s1.each (List.range 16) fun g s =>
    s.cond (ch ∈ (s.group g).live) (modGroup g fun y => { y with
      dramLost := y.dramLost || y.state.busy || y.armPending
      captures := y.captures.map fun c => if captureOn y c ch then { c with flags := c.flags ||| 0x80 } else c })
  (((s2.bobsLost false).setFlag 14).health 0x0160 ch
    [(1, f.1), (1, f.2.1), (1, f.2.2), (2, s2.captureGuarantee), (1, s2.memoryMode)] []).modeChanged old

/-! ## Temperature and refresh (spec 12 R286-R288) -/

/-- The temperature that a training records: the estimate, or the diode reading alone (spec 12 R290). -/
def trainTemp (s : State) : Int := s.dram.tdram.getD (s.power.lastRaw.getD 0)

/-- The bytes of class `k` that a DRAM channel has served in the last 1 ms (spec 12 R297). -/
def trafficOf (s : State) (ch k : Nat) : Nat :=
  64 * ((s.dramCh ch).traffic.filter fun x => x.2 = k && decide (s.now < x.1 + us 1000)).length
    + if k = 5 then ((s.dramCh ch).patterns.filter fun x => decide (s.now < x.1 + us 1000)).foldl (fun n x => n + x.2) 0 else 0

/-- Pattern traffic is noted on its channels (spec 12 Table 12-3: class 5). -/
def notePatterns (l : List (Nat × Nat)) (s : State) : State :=
  s.each l fun x s => s.modDramCh x.1 fun d => { d with
    patterns := (s.now, x.2) :: d.patterns.filter fun y => decide (s.now < y.1 + us 1000) }

/-- The bytes that the DRAM channels have carried in the last 1 ms (spec 12 R287). -/
def trafficBytes (s : State) : Nat := (List.range 16).foldl (fun n ch => (List.range 6).foldl (fun n k => n + s.trafficOf ch k) n) 0

/-- The estimate at a diode reading, in 0.25 C: the reading plus 2.0 C and 0.020 C for each GB/s of traffic, which is 10^6
bytes in 1 ms (spec 12 R287; held to 0.25 C, DESIGN CHOICE, log 11); none while the reading is ignored. -/
def dramEstimate (reading : Option Int) (bytes : Nat) : Option Int :=
  reading.map fun d => quotOpen (100000000 * d + 800000000 + 8 * bytes) 100000000

/-- Refresh takes the doubled rate (spec 12 R288). -/
def refreshStep (s : State) : State :=
  s.modDram fun d => { d with
    doubled := d.doubled || s.blindThermal || d.tdram.all fun t => decide (340 ≤ t)
    coolSince := if d.tdram.any fun t => decide (t ≤ 328) then some (d.coolSince.getD s.now) else none }

/-- A pass of retraining starts (spec 12 R291). Under the retest option the channels mapped out, or all 16 in DRAM-absent
operation, are in start-up training first, in parallel (R290, R293). -/
def startPass (handle : Option Nat) (retest : Bool) (s : State) : State :=
  let l := if retest then (List.range 16).filter fun i => s.dramAbsent || (s.dramCh i).mapped.isSome else []
  (s.modDram fun d => { d with pass := some ⟨handle, retest, l, 0, none⟩ }).each l fun i =>
    modDramCh i fun d => { d with training := true }

/-- Tdram has moved 10.0 C from the temperature of some channel's last training (spec 12 R291). -/
def driftedDram (s : State) : Bool :=
  s.dram.tdram.any fun t => s.liveChans.any fun i => 40 ≤ (t - (s.dramCh i).temp).natAbs

/-- What a diode reading does for the DRAM (spec 12 R287, R288, R291). -/
def dramReading (reading : Option Int) (s : State) : State :=
  let s1 := (s.modDram fun d => { d with tdram := dramEstimate reading s.trafficBytes }).refreshStep
  s1.cond (s1.boot.trained && s1.dram.pass.isNone && !s1.blindThermal && !s1.dramAbsent && s1.driftedDram)
    (startPass none false)

/-- A DRAM channel is refreshed: it is in service by mapping and the device is not in DRAM-absent operation. -/
def refreshes (s : State) (ch : Nat) : Bool := (s.dramCh ch).mapped.isNone && !s.dramAbsent

/-- Class 2 has requests waiting on a channel: in its queues or in capture staging (spec 12 R286). -/
def capturesWait (s : State) (ch : Nat) : Bool := s.requested fun r => r.cls = 2 && r.chan = ch

/-- The refresh interval of a bank: 3.90625 us, halved at the doubled rate (spec 12 R286). -/
def refreshInterval (s : State) : Tick := if s.dram.doubled then 8000000 else 16000000

/-- A bank's refresh command falls due, an interval after the one before and a sixteenth of it after the channel's last one
(spec 12 R286): while class 2 waits the controller may postpone it, up to 8 intervals, then it is forced; a refresh
closes the
bank's row (R284) and holds the bank for 90 ns. (DEDUCED, log 78.) -/
def refreshDue (ch bank : Nat) (postpone : Bool) (s : State) : State :=
  let n := ch * 16 + bank
  let b := s.dramBank n
  let wait := s.capturesWait ch
  let n' := if wait then 1 else b.postponed + 1
  let near := (s.dramCh ch).refreshedAt.any fun x => decide (s.now < x + s.refreshInterval / 16)
  if !s.refreshes ch ∨ s.now < b.dueAt + s.refreshInterval ∨ near then s
  else if postpone ∧ wait ∧ b.postponed < 8 then s.modDramBank n fun b => { b with postponed := b.postponed + 1, dueAt := s.now }
  else
    ((s.modDramBank n fun b => { b with
      row := none, dueAt := s.now, busyUntil := s.now + ns (90 * n'), refreshes := (b.refreshes + n') % 2 ^ 32
      postponed := if wait then b.postponed else 0 }).modDramCh ch fun d => { d with
      refreshedAt := some s.now }).cond (wait && decide (8 ≤ b.postponed)) (modDramCh ch fun d => { d with
        forced := (d.forced + 1) % 2 ^ 32 })

/-- A row kept open closes after 1.0 us with no request to its bank (spec 12 R284). -/
def rowIdle (ch bank : Nat) (s : State) : State :=
  let b := s.dramBank (ch * 16 + bank)
  s.cond (b.queue = [] && b.lastAt + us 1 ≤ s.now) (modDramBank (ch * 16 + bank) fun b => { b with row := none })

/-- Refresh returns to the normal rate (spec 12 R288). -/
def refreshReturn (s : State) : State :=
  s.cond (s.dram.doubled && !s.blindThermal && s.dram.coolSince.any fun c => decide (c + us 10000 ≤ s.now))
    (modDram fun d => { d with doubled := false })

/-! ## Training (spec 12 R290-R293) -/

/-- Start-up training of one channel (spec 12 R290). (DEDUCED, log 79.) -/
def trainChannel (ch : Nat) (eyes : List LaneEye) (s : State) : State :=
  let t := s.trainTemp
  let s1 := s.modDramCh ch fun d => { d with
    lanes := eyes, trainings := (d.trainings + 1) % 2 ^ 32, temp := t, training := false }
  match failingLane eyes with
  | some f => s1.mapOut ch f
  | none => s1

/-- Start-up training ends (spec 12 R290): the eyes of the 16 channels' lanes. (DEDUCED, log 79.) -/
def trainAll (eyes : List (List LaneEye)) (s : State) : State :=
  (s.each (List.range 16) fun ch s => s.trainChannel ch (nth [] eyes ch)).modBoot fun b => { b with trained := true }

/-- The next channel of a pass: one in service, none in DRAM-absent operation (spec 12 R291, R296). -/
def nextTrain (s : State) (p : TrainPass) : Option Nat :=
  (List.range 16).find? fun i => p.next ≤ i && (s.dramCh i).mapped.isNone && !s.dramAbsent

/-- A pass by temperature in the blind-thermal state, where none runs (spec 12 R291). -/
def passBlind (s : State) (p : TrainPass) : Bool := p.handle.isNone && s.blindThermal

/-- What a pass reports for a channel (spec 12 R292): 4 bytes for each lane, or the cause. -/
def trainReport (d : DramCh) : List Byte :=
  match d.mapped with
  | some f => padTo 32 [BitVec.ofNat 8 f.1, BitVec.ofNat 8 f.2.1, BitVec.ofNat 8 f.2.2]
  | none => (List.range 8).flatMap fun k =>
      let e := nth ⟨0, 0, 0, 0⟩ d.lanes k
      [BitVec.ofNat 8 (eyeCentre e.readStart e.readLen), BitVec.ofNat 8 e.readLen,
        BitVec.ofNat 8 (eyeCentre e.writeStart e.writeLen), BitVec.ofNat 8 e.writeLen]

/-- A pass ends (spec 12 R292, R293): after a retest the channels that passed return to service, the memory mode is
computed again and every capture and spilled bin is discarded. -/
def endPass (p : TrainPass) (s : State) : State :=
  let old := s.memoryMode
  let s1 := s.modDram fun d => { d with pass := none }
  let s2 := if !p.retest then s1
    else
      let s2 := s1.each (List.range 16) fun ch s =>
        s.cond (failingLane (s.dramCh ch).lanes).isNone (modDramCh ch fun d => { d with mapped := none })
      let s3 := (s2.modDramMem fun _ => []).each (List.range 16) fun g => modGroup g fun y => { y with captures := [] }
      (s3.bobsLost false).modeChanged old
  match p.handle with
  | none => s2
  | some h => s2.succeed h (le 2 s2.mappedMask ++ (List.range 16).flatMap fun i => trainReport (s2.dramCh i))

/-- A pass that has no channel left to train ends. -/
def endIfDone (p : TrainPass) (s : State) : State :=
  s.cond (p.startUp = [] && ((s.nextTrain p).isNone || s.passBlind p)) (endPass p)

/-- The next channel of a pass leaves service (spec 12 R291). -/
def trainStart (s : State) : State :=
  match s.dram.pass with
  | none => s
  | some p =>
    if (List.range 16).any (fun i => (s.dramCh i).training)
        ∨ p.returnedAt.any (fun r => decide (s.now < r + us 100)) ∨ (0 < p.next ∧ s.capturesWait (p.next - 1)) then s
    else match (s.nextTrain p).filter fun _ => !s.passBlind p with
      | none => s.endPass p
      | some i => s.modDramCh i fun d => { d with training := true }

/-- The channel in training returns to service or is mapped out (spec 12 R291). -/
def trainEnd (eyes : List LaneEye) (s : State) : State :=
  match s.dram.pass, (List.range 16).find? fun i => (s.dramCh i).training with
  | some p, some i =>
    if p.startUp ≠ [] then s
    else
      let p' : TrainPass := { p with next := i + 1, returnedAt := some s.now }
      ((s.trainChannel i eyes).modDram fun d => { d with pass := some p' }).endIfDone p'
  | _, _ => s

/-- Start-up training under the retest option ends (spec 12 R290, R293): a channel that was mapped out stays so until the
pass
ends. -/
def retestTrained (eyes : List (List LaneEye)) (s : State) : State :=
  match s.dram.pass with
  | none => s
  | some p =>
    if p.startUp = [] then s
    else
      let s1 := s.each p.startUp fun i s =>
        let e := nth [] eyes i
        if (s.dramCh i).mapped.isNone then s.trainChannel i e
        else
          let t := s.trainTemp
          s.modDramCh i fun d => { d with
            lanes := e, trainings := (d.trainings + 1) % 2 ^ 32, temp := t, training := false
            mapped := some ((failingLane e).getD (d.mapped.getD (0, 0, 0))) }
      let p' : TrainPass := { p with startUp := [], returnedAt := some s.now }
      (s1.modDram fun d => { d with pass := some p' }).endIfDone p'

/-- DRAM RETRAIN is carried out (spec 12 R292, R293): its pass ends at once where no channel is in service or to be
retested. -/
def retrain (retest : Bool) (handle : Nat) (s : State) : State :=
  let s1 := s.startPass (some handle) retest
  match s1.dram.pass with
  | some p => s1.endIfDone p
  | none => s1

/-- The checks of DRAM RETRAIN (spec 12 R292, R293). -/
def retrainCheck (retest : Bool) (s : State) : Ack :=
  if retest ∧ s.dev ≠ .safe then .wrongState 0
  else if retest ∧ (List.range 16).any s.groupBusy then
    .wrongState (Src.group (((List.range 16).find? s.groupBusy).getD 0))
  else if s.dram.pass.isSome then .busy 1 else .accepted

/-- DRAM status (spec 12 R297, Table 12-6; layout DESIGN CHOICE, log 20). -/
def dramStatus (handle : Nat) (s : State) : State :=
  s.succeed handle (place 32 [(1, s.memoryMode), (2, s.mappedMask), (2, s.captureGuarantee),
      (2, match s.dram.tdram with | some t => twos 2 t | none => 0x8000), (1, s.dram.doubled.toNat),
      (1, s.dram.pass.isSome.toNat)]
    ++ (List.range 16).flatMap fun i =>
      let c := s.dramCh i
      le 2 (twos 2 c.temp) ++ (trainReport { c with mapped := none })
        ++ le 4 c.waits ++ le 4 c.forced ++ le 4 c.trainings
        ++ (List.range 5).flatMap fun k => le 4 (s.trafficOf i (k + 1)))

end State

/-! ## Meanings -/

/-- REFRESH: spec 12 R286. -/
def execRefresh (t : Tick) (ch bank : Nat) (postpone : Bool) (s : State) : Host.Outcome State Fault Refusal :=
  .next ((s.advance t).refreshDue ch bank postpone)

/-- REFRESH_RATE_RETURN: spec 12 R288. -/
def execRefreshRateReturn (t : Tick) (s : State) : Host.Outcome State Fault Refusal := .next (s.advance t).refreshReturn

/-- ROW_IDLE_CLOSE: spec 12 R284. -/
def execRowIdleClose (t : Tick) (ch bank : Nat) (s : State) : Host.Outcome State Fault Refusal :=
  .next ((s.advance t).rowIdle ch bank)

/-- RETRAIN_CHANNEL_START: spec 12 R291. -/
def execRetrainChannelStart (t : Tick) (s : State) : Host.Outcome State Fault Refusal := .next (s.advance t).trainStart

/-- RETRAIN_CHANNEL_END: spec 12 R291-R294. -/
def execRetrainChannelEnd (t : Tick) (eyes : List LaneEye) (s : State) : Host.Outcome State Fault Refusal :=
  .next ((s.advance t).trainEnd eyes)

/-- DRAM_STATUS: spec 12 R297. -/
def execDramStatus (t : Tick) (h : Hdr) (s : State) : Host.Outcome State Fault Refusal :=
  .next ((s.advance t).command 0x0C01 h State.noCheck State.dramStatus)

/-- DRAM_RETRAIN: spec 12 R292, R293. -/
def execDramRetrain (t : Tick) (h : Hdr) (retest : Bool) (s : State) : Host.Outcome State Fault Refusal :=
  .next ((s.advance t).command 0x0C02 h (State.retrainCheck retest) (State.retrain retest))

end Sys2Proof.Machine
end

