-- ==== Sys2Proof/Machine/Nv.lean ====
section
/-! DEFINITION. The non-volatile store (spec 18 R424, R433-R437): pages, journalled objects, page writes, erases, the
event log; and the objects' contents: calibration (19 R456-R458), counters and key slots (17 R399, R404), the link
board table (14 R338). Where the spec gives a content no layout, the layout is the model's (DESIGN CHOICE, log 26). -/

namespace Sys2Proof.Machine

/-! ## Pages and copies -/

/-- First page of copy A, of copy B, pages of a copy, and data pages (spec 18 Table 18-6, 19 R456). -/
def nvSpan (k : Nat) : Nat × Nat × Nat × Nat :=
  nth (0, 0, 1, 0) [(0, 320, 320, 319), (640, 648, 8, 7), (656, 664, 8, 7), (672, 676, 4, 3), (1024, 1536, 512, 428)] k

/-- First page of a copy of object `k`. -/
def nvCopy (k : Nat) (b : Bool) : Nat := if b then (nvSpan k).2.1 else (nvSpan k).1

/-- The page of a copy's commit page, its last (spec 18 R434). -/
def nvCommit (k : Nat) (b : Bool) : Nat := nvCopy k b + (nvSpan k).2.2.1 - 1

/-- A commit page: object number, sequence number, CRC of the data pages, and its own CRC in the last 4 bytes
(spec 18 R434; DESIGN CHOICE, log 26). -/
def commitPage (k seq : Nat) (dataCrc : BitVec 32) : List Byte :=
  let b := padTo 60 (le 4 k ++ le 4 seq ++ le 4 dataCrc.toNat)
  b ++ le 4 (crc32c b).toNat

/-- A 64-byte page whose last 4 bytes are the CRC of the others (spec 18 R434, R435). -/
def pageGood (b : List Byte) : Bool := fromLe (b.drop 60) = (crc32c (b.take 60)).toNat

/-- The factory entry of every lane and rate. -/
def factoryEntry : BoardEntry := ⟨true, -4, 52, -8, 6, false, false⟩

/-- The table that the entries of lanes 0-7, rate codes 0-2 within a lane, form: keyed by 3 x lane + rate. -/
def boardTable (l : List BoardEntry) : Store BoardEntry :=
  (List.range 24).foldl (fun m i => Store.write factoryEntry m i (l.getD i factoryEntry)) []

namespace State

/-- The bytes of a page. -/
def nvPage (s : State) (p : Nat) : List Byte := Memory.load s.nv (64 * p) 64

/-- The data pages of a copy. -/
def nvBytes (s : State) (k : Nat) (b : Bool) : List Byte := Memory.load s.nv (64 * nvCopy k b) (64 * (nvSpan k).2.2.2)

/-- The sequence number of a copy where its commit page and its data are valid (spec 18 R434). -/
def copySeq (s : State) (k : Nat) (b : Bool) : Option Nat :=
  let c := s.nvPage (nvCommit k b)
  if pageGood c && decide (fromLe (c.take 4) = k) && decide (fromLe ((c.drop 8).take 4) = (crc32c (s.nvBytes k b)).toNat)
  then some (fromLe ((c.drop 4).take 4)) else none

/-- The active copy of an object as BOOT resolves it: the valid one, of two the one with the higher sequence number
(spec 18 R434, 02 R63). -/
def resolveCopy (s : State) (k : Nat) : Option (Bool × Nat) :=
  match s.copySeq k false, s.copySeq k true with
  | none, none => none
  | some a, none => some (false, a)
  | none, some b => some (true, b)
  | some a, some b => if 0 < serialDiff b a then some (true, b) else some (false, a)

/-- Some page of a copy holds something, and its commit page or its data is not valid. -/
def copyBroken (s : State) (k : Nat) (b : Bool) : Bool :=
  (s.copySeq k b).isNone && (List.range (nvSpan k).2.2.1).any fun i => (s.nvPage (nvCopy k b + i)).any fun x => x ≠ 0

/-- Active copy, sequence number and presence of an object. -/
def nvObject (s : State) (k : Nat) : Bool × Nat × Bool := Store.read (false, 0, false) s.nvCtl.objects k

/-- The data of an object's active copy, none where the object is absent. -/
def nvData (s : State) (k : Nat) : Option (List Byte) :=
  let o := s.nvObject k
  if o.2.2 then some (s.nvBytes k o.1) else none

/-- The copy that a write of an object goes to: the inactive one (spec 18 R434). -/
def nvTarget (s : State) (k : Nat) : Bool := let o := s.nvObject k; if o.2.2 then !o.1 else o.1

/-- A journalled write of an object is refused under R424 (spec 18 R424, R432). (DEDUCED, log 86.) -/
def nvRefuse (k pages : Nat) (handle : Option Nat) (s : State) : State :=
  let s1 := (s.setFlag 18).health 0x0210 k [(2, pages)] []
  match handle with
  | some h => s1.failed h 0x0053
  | none => s1

/-- Pages of the copy that a write of an object goes to that hold something and that no erase is to come for: an
erase that a loss of supply cut short leaves them (spec 18 R434). (DEDUCED, log 105.) -/
def unerased (s : State) (k : Nat) : List Nat :=
  ((List.range (nvSpan k).2.2.1).map fun i => nvCopy k (s.nvTarget k) + i).filter fun p =>
    p ∉ s.nvCtl.erasing && (s.nvPage p).any fun b => b ≠ 0

/-- A write of an object waits or is in progress, its commit page to come. -/
def nvBusy (s : State) (k : Nat) : Bool := s.nvCtl.jobs.any fun j => j.kind = 1 && j.object = k

/-- A journalled write of an object's data starts (spec 18 R434): its data pages, then the commit page. A copy that is not
yet erased is waited for; a write behind another of its object goes to the copy that this one leaves. -/
def nvWrite (k : Nat) (bytes : List Byte) (handle : Option Nat) (s : State) : State :=
  let n := min (nvSpan k).2.2.2 (max 1 ((bytes.length + 63) / 64))
  if !s.power.nvAllowed then s.nvRefuse k (n + 1) handle
  else (s.queueErases (if s.nvBusy k then [] else s.unerased k)).queueWrites
    ((List.range n).map (fun i => (⟨i, padTo 64 ((bytes.drop (64 * i)).take 64), 0, k, none⟩ : PageJob))
      ++ [⟨0, [], 1, k, handle⟩])

/-- The page that a job writes. -/
def jobPage (s : State) (j : PageJob) : Nat :=
  if j.kind = 0 then nvCopy j.object (s.nvTarget j.object) + j.page
  else if j.kind = 1 then nvCommit j.object (s.nvTarget j.object) else j.page

/-- The bytes that a job writes: a commit page is formed from the data pages before it. -/
def jobBytes (s : State) (j : PageJob) : List Byte :=
  if j.kind = 1 then
    let b := s.nvTarget j.object
    let o := s.nvObject j.object
    commitPage j.object ((o.2.1 + 1) % 2 ^ 32) (crc32c (s.nvBytes j.object b))
  else j.bytes

/-- A committed write: its copy is active, and the former one is erased in the background (spec 18 R434). -/
def nvCommitted (k : Nat) (handle : Option Nat) (s : State) : State :=
  let o := s.nvObject k
  let b := s.nvTarget k
  let s0 := s.modNvCtl fun c => { c with
    objects := Store.write (false, 0, false) c.objects k (b, (o.2.1 + 1) % 2 ^ 32, true) }
  let s1 := s0.queueErases (if o.2.2 then (List.range (nvSpan k).2.2.1).map fun i => nvCopy k o.1 + i else s0.unerased k)
  match handle with
  | some h => s1.succeed h []
  | none => s1

/-- The first page write has started: its page is erased (spec 18 R434). -/
def pageStarted (s : State) : Bool := match s.nvCtl.jobs with | [] => false | j :: _ => s.jobPage j ∉ s.nvCtl.erasing

/-- The page write in progress is done, 12 us from its start (spec 18 R433, R434): a page that is not yet erased is waited
for. After the decision of a shutdown only the one in progress ends (R428 step 2). -/
def nvPageDone (s : State) : State :=
  match s.nvCtl.jobs with
  | [] => s
  | j :: rest =>
    let p := s.jobPage j
    if p ∈ s.nvCtl.erasing ∨ s.now < s.nvCtl.jobAt + us 12 ∨ (s.power.shut.isSome ∧ !s.power.shutPage) then s
    else
      let bytes := s.jobBytes j
      let s0 := (s.modNvCtl fun c => { c with jobs := rest, jobAt := s.now }).modPower fun q => { q with
        shutPage := false, recordFrom := if q.shutPage then s.now else q.recordFrom }
      let s1 := s0.modNv fun m => Memory.write m (64 * p) bytes
      if j.kind = 1 then s1.nvCommitted j.object j.handle else s1.cond (j.kind = 2) (setFlag 19)

/-- Copies of shutdown records wait to be written to the log (spec 18 R435). -/
def copying (s : State) : Bool := s.nvCtl.jobs.any fun j => j.kind = 2 && (j.bytes.drop 18).take 2 = le 2 0x0404

/-- A page of the shutdown reserve (spec 18 Table 18-6). -/
def inReserve (p : Nat) : Bool := 680 ≤ p && p < 696

/-- Every shutdown record has been copied and erased (spec 18 R435). -/
def reserveClear (s : State) : Bool := !s.copying && s.nvCtl.erasing.all fun p => !inReserve p

/-- A background erase is done, 100 us from its start (spec 18 R433, R434); a shutdown abandons it (R428 step 2). The reserve
pages are erased once their records are in the log (R435). A write that waited for it starts. (DEDUCED, log 105.) -/
def nvEraseDone (s : State) : State :=
  match s.nvCtl.erasing with
  | [] => s
  | p :: rest =>
    if s.now < s.nvCtl.eraseAt + us 100 ∨ s.power.shut.isSome ∨ (inReserve p ∧ s.copying) then s
    else
      let waits := s.nvCtl.jobs.head?.any fun j => s.jobPage j = p
      (s.modNvCtl fun c => { c with
        erasing := rest, eraseAt := s.now, jobAt := if waits then s.now else c.jobAt }).modNv fun m =>
          Memory.write m (64 * p) (List.replicate 64 0)

/-- The data pages of the last write of an object among jobs. -/
def pagesBefore (k : Nat) (jobs : List PageJob) : Nat :=
  ((jobs.reverse.takeWhile fun j => !(j.kind = 1 && j.object = k)).filter fun j => j.kind = 0 && j.object = k).length

/-- Writes that have not started are refused (spec 18 R424): journalled ones end, and what they have written is erased before
the next write of their copy; log entries go back to the buffer, which suppresses what it cannot hold (R436). (DEDUCED,
log 105.) -/
def nvStop (s : State) : State :=
  let n := if s.pageStarted then 1 else 0
  let keep := s.nvCtl.jobs.take n
  let lost := s.nvCtl.jobs.drop n
  let logs := (lost.filter fun j => j.kind = 2).map fun j => ((j.bytes.drop 4).take 17) ++ (j.bytes.drop 24).take 32
  let s1 := s.modNvCtl fun c => { c with
    jobs := keep
    next := (c.next + 2 ^ 32 - logs.length) % 2 ^ 32
    buffer := (c.buffer ++ logs).take 16
    suppressed := c.suppressed + (c.buffer.length + logs.length - 16) }
  (s1.each logs fun _ s => s.setFlag 18).each (List.range lost.length) fun i s =>
    match lost[i]? with
    | some j => s.cond (j.kind = 1) (nvRefuse j.object (pagesBefore j.object (lost.take i) + 1) j.handle)
    | none => s

/-- Entries that waited in the buffer are written, at most 64 in any 1 s like others (spec 18 R436). -/
def nvResume (s : State) : State :=
  (s.modNvCtl fun c => { c with buffer := [] }).each s.nvCtl.buffer fun b => logBy (logOne b)

/-! ## The event log (spec 18 R436, R437) -/

/-- The entry of the log with a number, none where its page does not hold it or its CRC fails. -/
def logEntry (s : State) (n : Nat) : Option (List Byte) :=
  let b := s.nvPage (2048 + n % 2048)
  if pageGood b && fromLe (b.take 4) = n then some b else none

/-- Up to `count` entries with numbers from `first` on, in order (spec 18 R437). -/
def logEntries (s : State) (first count : Nat) : List (List Byte) :=
  let c := s.nvCtl
  let held := (c.next + 2 ^ 32 - c.oldest) % 2 ^ 32
  let skip := if 0 < serialDiff first c.oldest then (serialDiff first c.oldest).toNat else 0
  (((List.range (held - skip)).filterMap fun i => s.logEntry ((c.oldest + skip + i) % 2 ^ 32))).take count

/-- The newest log sequence number held: entries whose pages wait to be written are not held yet (spec 18 R437, 21
R484). -/
def logNewest (s : State) : Nat :=
  (s.nvCtl.next + (2 ^ 32 - 1) - (s.nvCtl.jobs.filter fun j => j.kind = 2).length) % 2 ^ 32

/-- The result of READ EVENT LOG (spec 18 R437). -/
def readLog (s : State) (first count : Nat) : List Byte :=
  le 4 s.nvCtl.oldest ++ le 4 s.logNewest ++ le 8 0 ++ (s.logEntries first count).flatten

/-! ## Calibration tables as an object (spec 19 Table 19-6) -/

/-- A calibrated bit for each value of a channel (DESIGN CHOICE, log 26): timing, analogue, gain ratios, floors, ratios,
interleave. -/
def calBits (t : CalTables) (c : Nat) : Nat :=
  flagBit 0 (Store.read none t.timing c).isSome + flagBit 1 (Store.read none t.analogue c).isSome
    + (List.range 4).foldl (fun n r => n + flagBit (2 + r) (Store.read none t.gain (4 * c + r)).isSome
        + flagBit (6 + r) (Store.read none t.floors (4 * c + r)).isSome
        + flagBit (10 + r) (Store.read none t.ratios (4 * c + r)).isSome) 0
    + flagBit 14 ((List.range 8).all fun k => (Store.read none t.inter (8 * c + k)).isSome)

/-- The 64 bytes of a channel. -/
def calChannel (t : CalTables) (c : Nat) : List Byte :=
  le 2 (twos 2 ((Store.read none t.timing c).getD 0)) ++ le 2 (twos 2 ((Store.read none t.analogue c).getD 0))
    ++ (List.range 4).flatMap (fun r => le 2 ((Store.read none t.gain (4 * c + r)).getD 4096))
    ++ (List.range 4).flatMap (fun r => le 2 ((Store.read none t.floors (4 * c + r)).getD 0))
    ++ (List.range 4).flatMap (fun r => le 1 ((Store.read none t.ratios (4 * c + r)).getD 0))
    ++ (List.range 8).flatMap (fun k =>
        let v := (Store.read none t.inter (8 * c + k)).getD (0, 0, 0)
        le 1 (twos 1 v.1) ++ le 2 (twos 2 v.2.1) ++ le 1 (twos 1 v.2.2))
    ++ le 2 (calBits t c) ++ le 6 0

/-- Bytes 64 onward of Table 19-6: what a read of file 19's counters gives too (spec 19 R455). -/
def calValues (s : State) : List Byte :=
  let t := s.cal.tables
  (List.range 256).flatMap (calChannel t)
    ++ (List.range 4096).flatMap (fun i => le 2 (twos 2 (Store.read 0 t.walk i)))
    ++ (List.range 256).flatMap (fun i => match Store.read none t.widths i with
        | some w => le 2 (w % 2 ^ 15 + 2 ^ 15) | none => le 2 0)
    ++ (List.range 16).flatMap (fun b => le 4 (s.bank b).active.tag ++ le 4 (s.bank b).measured)
    ++ (List.range 512).flatMap (fun e => le 2 ((Store.read none t.latency e).getD 0))
    ++ (List.range 512).flatMap (fun e => le 2 (match Store.read none t.path e with
        | some v => twos 2 v | none => 0x8000))

/-- The head identity that a port's head has verified with, 0 for none. -/
def portHead (s : State) (n : Nat) : BitVec 64 :=
  if (s.port n).state = .verified ∨ (s.port n).state = .admitted then (s.port n).head else 0

/-- The saved calibration object (spec 19 R456). (DESIGN CHOICE, log 97.) -/
def calObject (s : State) : List Byte :=
  le 2 1 ++ le 10 Config.fusedIdentity.toNat ++ le 4 s.trust.bootCount ++ le 8 (s.devField s.now) ++ le 40 0
    ++ s.calValues ++ (List.range 8).flatMap fun n => le 8 (s.portHead n).toNat

/-- Bytes `i` to `i + n - 1` as a number. -/
def num (b : List Byte) (i n : Nat) : Nat := fromLe ((b.drop i).take n)

/-- The saved object is present with the device's identity: none, or detail 0x0066 or 0x0067 (spec 19 R457). -/
def restoreError (s : State) : Option Nat :=
  match s.nvData 4 with
  | none => some 0x0066
  | some b => if num b 2 10 = Config.fusedIdentity.toNat then none else some 0x0067

/-- The head identity of a port that the saved object holds, 0 for none (spec 19 Table 19-6). -/
def savedHead (b : List Byte) (n : Nat) : Nat := num b (27328 + 8 * n) 8

/-- The ports for which the saved object holds a head identity. -/
def savedPorts (s : State) : Nat :=
  match s.nvData 4 with
  | none => 0
  | some b => maskOf ((List.range 8).filter fun n => savedHead b n ≠ 0)

/-- The ports whose saved head identity is that of the head verified on them now (spec 19 R457). -/
def restorePorts (s : State) : Nat :=
  match s.nvData 4 with
  | none => 0
  | some b => maskOf ((List.range 8).filter fun n => savedHead b n ≠ 0 && savedHead b n = (s.portHead n).toNat)

/-- A store of the listed keys' values, leaving out those that are none. -/
def calStore {α : Type} [DecidableEq α] (keys : List Nat) (f : Nat → Option α) : Store (Option α) :=
  keys.foldl (fun m k => Store.write none m k (f k)) []

/-- The tables that saved bytes spell; latencies and path delays of the ports in the mask are loaded, those of other
ports stay (spec 19 R457). -/
def calLoad (old : CalTables) (b : List Byte) (ports : Nat) : CalTables :=
  let bit := fun (c i : Nat) => (num b (64 + 64 * c + 56) 2).testBit i
  let ch := fun (c i n : Nat) => num b (64 + 64 * c + i) n
  let port := fun (e : Nat) => ports.testBit (elemPort e)
  { timing := calStore (List.range 256) fun c => if bit c 0 then some (signed 16 (ch c 0 2)) else none
    analogue := calStore (List.range 256) fun c => if bit c 1 then some (signed 16 (ch c 2 2)) else none
    gain := calStore (List.range 1024) fun i => if bit (i / 4) (2 + i % 4) then some (ch (i / 4) (4 + 2 * (i % 4)) 2) else none
    floors := calStore (List.range 1024) fun i =>
      if bit (i / 4) (6 + i % 4) then some (ch (i / 4) (12 + 2 * (i % 4)) 2) else none
    ratios := calStore (List.range 1024) fun i =>
      if bit (i / 4) (10 + i % 4) then some (ch (i / 4) (20 + i % 4) 1) else none
    inter := calStore (List.range 2048) fun i =>
      let o := 24 + 4 * (i % 8)
      if bit (i / 8) 14 then
        some (signed 8 (ch (i / 8) o 1), clampInt (-512) 511 (signed 16 (ch (i / 8) (o + 1) 2)), signed 8 (ch (i / 8) (o + 3) 1))
      else none
    walk := (List.range 4096).foldl (fun m i => Store.write 0 m i (signed 16 (num b (16448 + 2 * i) 2))) []
    widths := calStore (List.range 256) fun i =>
      let w := num b (24640 + 2 * i) 2
      if w < 2 ^ 15 then none else some (w % 2 ^ 15)
    latency := (List.range 512).foldl (fun m e =>
      if port e then Store.write none m e (let v := num b (25280 + 2 * e) 2; if v = 0 then none else some v) else m)
      old.latency
    path := (List.range 512).foldl (fun m e =>
      if port e then Store.write none m e
        (let v := num b (26304 + 2 * e) 2; if v = 0x8000 then none else some (signed 16 v)) else m) old.path }

/-- Interleave values in force are those of the tables (spec 06 R146, 19 R442). -/
def loadInter (s : State) : State :=
  s.each (List.range 256) fun c s =>
    s.setInter c ((List.range 8).foldl (fun m k =>
      Store.write (0, 0, 0) m k ((Store.read none s.cal.tables.inter (8 * c + k)).getD (0, 0, 0))) ([] : Store (Int × Int × Int)))

/-- The saved object's values come into force, fire latencies and path delays those of the ports in the mask, which hold
for the saved heads from then on (spec 19 R457, R458). -/
def calApply (m : Nat) (s : State) : State :=
  match s.nvData 4, s.restoreError with
  | some b, none =>
    let s1 := (s.modCal fun c => { c with tables := calLoad c.tables b m }).loadInter
    s1.each (maskList 8 m) fun n s => s.modPort n fun p => { p with latencyHead := BitVec.ofNat 64 (savedHead b n) }
  | _, _ => s

/-! ## Counters, key slots and the board table -/

/-- The contents of object 1 for a rollback counter, a boot count and slots (spec 17 R399, R404; DESIGN CHOICE, log 26). -/
def counterBytes (rollback bootCount : Nat) (slots : Store KeySlot) : List Byte :=
  le 2 rollback ++ le 4 bootCount ++ (List.range 4).flatMap fun i =>
    let k : KeySlot := Store.read {} slots (2 + i)
    le 48 k.rsa.toNat ++ le 48 k.slh.toNat ++ le 1 k.usage.toNat ++ le 1 k.generation
      ++ le 1 (flagBit 0 k.revoked + flagBit 1 k.written)

/-- The key slots that object 1 spells. -/
def slotOf (b : List Byte) (i : Nat) : KeySlot :=
  let o := 6 + 99 * i
  { rsa := BitVec.ofNat 384 (num b o 48), slh := BitVec.ofNat 384 (num b (o + 48) 48)
    usage := BitVec.ofNat 4 (num b (o + 96) 1), generation := num b (o + 97) 1
    revoked := (num b (o + 98) 1).testBit 0, written := (num b (o + 98) 1).testBit 1 }

/-- The data of an object as the writes that wait will leave it: the pages of the copy they go to, those still to be written
in their place. -/
def nvComing (s : State) (k : Nat) : Option (List Byte) :=
  if s.nvBusy k then
    let pages := s.nvCtl.jobs.filter fun j => j.kind = 0 && j.object = k
    some (pages.foldl (fun b j => b.take (64 * j.page) ++ j.bytes ++ b.drop (64 * (j.page + 1))) (s.nvBytes k (s.nvTarget k)))
  else s.nvData k

/-- The rollback counter, the boot count and the slots as the writes of object 1 that wait will leave them (spec 17 R401,
R404). -/
def countersNext (s : State) : Nat × Nat × Store KeySlot :=
  match s.nvComing 1 with
  | none => (s.trust.rollback, s.trust.bootCount, s.trust.slots)
  | some b => (max s.trust.rollback (num b 0 2), s.trust.bootCount,
      (List.range 4).foldl (fun m i => Store.write {} m (2 + i) (slotOf b i)) s.trust.slots)

/-- Counters and key slots are read from object 1 at BOOT. -/
def loadCounters (s : State) : State :=
  match s.nvData 1 with
  | none => s
  | some b => s.modTrust fun t => { t with
      rollback := num b 0 2, bootCount := num b 2 4
      slots := (List.range 4).foldl (fun m i => Store.write {} m (2 + i) (slotOf b i)) t.slots }

/-- One entry of the board table in object 2 (DESIGN CHOICE, log 26). -/
def boardEntryBytes (e : BoardEntry) : List Byte :=
  [BitVec.ofNat 8 (flagBit 0 e.enabled + flagBit 1 e.txInvert + flagBit 2 e.rxInvert), BitVec.ofNat 8 (twos 1 e.pre),
    BitVec.ofNat 8 (twos 1 e.main), BitVec.ofNat 8 (twos 1 e.post), BitVec.ofNat 8 e.ctle, 0, 0, 0]

/-- The entry that 8 bytes spell. -/
def boardEntryOf (b : List Byte) (i : Nat) : BoardEntry :=
  let f := num b (8 * i) 1
  ⟨f.testBit 0, signed 8 (num b (8 * i + 1) 1), signed 8 (num b (8 * i + 2) 1), signed 8 (num b (8 * i + 3) 1),
    num b (8 * i + 4) 1, f.testBit 1, f.testBit 2⟩

/-- The board table that object 2 holds (spec 14 R338; DESIGN CHOICE, log 26). -/
def storedTable (s : State) : Option (Store BoardEntry) :=
  (s.resolveCopy 2).map fun x => boardTable ((List.range 24).map fun i => boardEntryOf (s.nvBytes 2 x.1) i)

end State

/-! ## Meanings -/

/-- NV_ERASE_DONE: spec 18 R433, R434. -/
def execNvEraseDone (t : Tick) (s : State) : Host.Outcome State Fault Refusal := .next (s.advance t).nvEraseDone

/-- READ_EVENT_LOG: spec 18 R437. -/
def execReadEventLog (t : Tick) (h : Hdr) (first count : Nat) (s : State) : Host.Outcome State Fault Refusal :=
  .next ((s.advance t).command 0x1202 h (fun _ => if count = 0 ∨ 63 < count then .wrongArg 20 else .accepted)
    fun handle s => s.succeed handle (s.readLog first count))

/-- SAVE_CALIBRATION: spec 19 R456. -/
def execSaveCalibration (t : Tick) (h : Hdr) (s : State) : Host.Outcome State Fault Refusal :=
  .next ((s.advance t).command 0x1302 h State.noCheck fun handle s => s.nvWrite 4 s.calObject (some handle))

end Sys2Proof.Machine
end

