-- ==== Sys2Proof/Machine/Heads.lean ====
section
/-! DEFINITION. What the device reads of a head: signature blocks (spec 17 R396-R399), lamp-board descriptors (04 R110,
16 R376), thermal caps (04 R112) and Whorl's energy accounts (16 R376-R381, R390). -/

namespace Sys2Proof.Machine

namespace Kind

/-- Refusals at verdict check 1, by port; checks 2-4 follow (spec 16 R379). -/
def refused1 : Nat := 38

/-- Recharge cancellations, by port (spec 16 R380). -/
def recharged : Nat := 42

/-- Skips by the port stream rule, by port (spec 04 R100). -/
def streamSkip : Nat := 43

/-- Upstream words discarded for parity, by port (spec 04 R107). -/
def parity : Nat := 44

end Kind

namespace State

/-! ## Signature blocks (spec 17 R397-R399) -/

/-- The length of a signature block. -/
def sigLength : Nat := 17072

/-- A key slot: slot 0 stands in the fuses with every usage (spec 17 R399; DESIGN CHOICE, log 7). -/
def keySlot (s : State) (i : Nat) : KeySlot :=
  if i = 0 then ⟨Config.rootHashes.1, Config.rootHashes.2, 0xF, 0, false, true⟩ else Store.read {} s.trust.slots i

/-- The checks of R398 on a signature block over signed octets, for an object that requires usage bit `use`. -/
def signatureGood (s : State) (use : Nat) (signed block : List Byte) : Bool :=
  let slot := num block 2 1
  let k := s.keySlot slot
  let rsa := (block.drop 32).take 384
  let slh := (block.drop 416).take 48
  num block 0 2 = 1 && slot ≤ 5 && k.written && !k.revoked && k.usage.getLsbD use
    && Config.sha384 rsa = k.rsa && Config.sha384 slh = k.slh
    && Config.rsaSalt rsa ((block.drop 464).take 384) signed = some 48
    && Config.slhVerifies slh ((block.drop 848).take 16224) signed

/-! ## Descriptors (spec 04 Table 4-8, 16 Table 16-1) -/

/-- The octets of the energy and aperture block, which follows the element table (DEDUCED, log 8). -/
def energyBlock (b : List Byte) : List Byte := (b.drop 277).take 448

/-- The descriptor that octets spell: the fields of Table 4-8 follow each other, with the energy and aperture block as
Table 16-1 sizes it and the scanner's four octets at the end of the body (DEDUCED, log 8). The readings inside an entry of
the element table and inside the scanner's octets are Config.descriptorField (DESIGN CHOICE, log 8). -/
def descriptorOf (b : List Byte) : Descriptor :=
  let body := num b 2 2
  let el := fun (k m : Nat) => (List.range 16).map fun e => Config.descriptorField ((b.drop (21 + 16 * e)).take 16) k % m
  let scan := fun (k m : Nat) => Config.descriptorField ((b.drop (body - 4)).take 4) (8 + k) % m
  let g := energyBlock b
  { format := num b 0 2, bodyLength := body, board := num b 4 8, head := BitVec.ofNat 64 (num b 12 8)
    position := num b 20 1
    present := (el 0 2).map fun v => decide (v = 1)
    azimuth := (el 1 65536).map (signed 16), elevation := (el 2 65536).map (signed 16)
    wavelength := el 3 32, power := el 4 16, delayBin := el 5 16
    table := (List.range 4).flatMap fun t => (List.range 17).map fun i => num g (24 + 34 * t + 2 * i) 2
    windows := (List.range 3).map fun i => num g (2 + i) 1
    apertureOf := (List.range 16).map fun e => num g (8 + e) 1 % 8
    hasApertures := (num g 5 1).testBit 0
    energy := (el 6 4).map fun t => (List.range 17).map fun i => num g (24 + 34 * t + 2 * i) 2
    elementLimits := (List.range 16).map fun e => (List.range 3).map fun w => num g (160 + 12 * e + 4 * w) 4
    apertureLimits := (List.range 8).map fun a => (List.range 3).map fun w => num g (352 + 12 * a + 4 * w) 4
    latency := num b 725 2, forward := num b 727 1, derateStart := num b 728 2, derateStop := num b 730 2
    baseWavelength := num b 732 2
    indicators := (List.range (min 8 ((body - 738) / 12))).map fun i => (b.drop (734 + 12 * i)).take 12
    scanner := decide (scan 0 2 = 1), frequency := scan 1 65536 }

/-- Rising, or strictly rising where `strict`. -/
def rises (strict : Bool) (l : List Nat) : Bool :=
  (l.zip l.tail).all fun p => p.1 < p.2 || (!strict && p.1 = p.2)

/-- Why the descriptor of board `b` is refused: the cause of HEAD REJECTED, none where it verifies (spec 04 R110, 16 R376,
17 R405). `first` is board 0's descriptor, none while board 0 itself is checked. -/
def descriptorFault (s : State) (b : Nat) (bytes : List Byte) (first : Option Descriptor) : Option Nat :=
  let body := num bytes 2 2
  let d := descriptorOf (bytes.take body)
  let tables := (List.range 4).map fun t => (d.table.drop (17 * t)).take 17
  let apertures : Bool := match first with
    | none => !d.hasApertures
    | some z => d.hasApertures && z.apertureLimits ≠ d.apertureLimits
  if d.format ≠ 1 ∨ body < 256 ∨ 4096 < body ∨ bytes.length ≠ body + sigLength then some 1
  else if !s.signatureGood 1 (bytes.take body) (bytes.drop body) then some 0
  else if d.position ≠ b then some 2
  else if first.any fun z => decide (z.head ≠ d.head) then some 3
  else if tables.any (fun t => !rises false t) ∨ !rises true d.windows
      ∨ d.windows.any (fun k => decide (k < 4 ∨ 24 < k))
      ∨ apertures then some 1
  else none

/-- The view of board `b` of port `n`. -/
def view (s : State) (n b : Nat) : BoardView := Store.read {} (s.port n).boards b

/-- Changes the view of a board. -/
def modView (n b : Nat) (g : BoardView → BoardView) (s : State) : State :=
  s.modPort n fun p => { p with boards := Store.modify {} p.boards b g }

/-- The verified descriptor of a board; one with every field empty where there is none. -/
def boardDesc (s : State) (n b : Nat) : Descriptor := ((s.view n b).desc).getD {}

/-- The descriptor of the board that an element stands on. -/
def elemDesc (s : State) (e : Nat) : Descriptor := s.boardDesc (elemPort e) (elemBoard e)

/-! ## Thermal caps and drive codes (spec 04 R111, R112) -/

/-- The cap at a temperature as on the wire, 2 x (T + 40), between the derating limits in 0.5 C (spec 04 R112). -/
def capAt (d : Descriptor) (temp : Nat) : Nat :=
  let t : Int := (temp : Int) - 80
  if t ≤ d.derateStart then 255
  else if (d.derateStop : Int) ≤ t then 0
  else (255 * ((d.derateStop : Int) - t) / (d.derateStop - d.derateStart)).toNat

/-- The code sent for an element (spec 04 R111, R112): equalised where that is on, never raised, and capped. Codes that have
been sent are not sent anew when equalisation is turned on or off (DESIGN CHOICE, log 118). -/
def sentCode (s : State) (e requested : Nat) : Nat :=
  let bin := nth 0 (s.elemDesc e).power (elemIndex e)
  let eq := (roundDiv (32 * requested) (32 + bin)).toNat
  let v := if s.popt Par.powerEq (elemPort e) = 1 then min requested eq else requested
  min v (s.view (elemPort e) (elemBoard e)).cap

/-- The drive code in force for an element (spec 04 R504). -/
def codeNow (s : State) (e : Nat) : Nat := Store.read 0 (s.view (elemPort e) (elemBoard e)).codes (elemIndex e)

/-- The code that the reserved sync brings to an element; the one in force where none is reserved. -/
def codeNext (s : State) (e : Nat) : Nat :=
  if (s.port (elemPort e)).syncFor.isNone then s.codeNow e
  else Store.read 0 (s.view (elemPort e) (elemBoard e)).next (elemIndex e)

/-! ## Energy (spec 16 R377) -/

/-- The energy per sub-pulse at drive code `c`, 0.1 nJ: interpolated between points and rounded up. -/
def energyAt (points : List Nat) (c : Nat) : Nat :=
  let i := min 15 (c / 16)
  let span := if i = 15 then 15 else 16
  let e0 := nth 0 points i
  e0 + ((nth 0 points (i + 1) - e0) * (c - 16 * i) + span - 1) / span

/-- The energy of a shot of `n` sub-pulses at drive code `c`. -/
def shotEnergy (s : State) (e n c : Nat) : Nat := n * energyAt (nth [] (s.elemDesc e).energy (elemIndex e)) c

/-- The energy a shot is charged (spec 16 R377): the higher of its energies within 16 ns of a reserved sync. -/
def chargeOf (s : State) (y : Entry) : Nat :=
  let old := s.shotEnergy y.element (codeN y.code) (s.codeNow y.element)
  match (s.port (elemPort y.element)).syncFor with
  | none => old
  | some (b, _) =>
    let new := s.shotEnergy y.element (codeN y.code) (s.codeNext y.element)
    if y.planned + ns 16 ≤ b then old else if b + ns 16 ≤ y.planned then new else max old new

/-! ## Accounts (spec 16 R378-R381) -/

/-- One account in one window: its key, its id, its window index, its limit and its bucket length in ticks. -/
structure Account where
  key : Nat
  id : Nat
  window : Nat
  limit : Nat
  bucket : Nat
  deriving DecidableEq, Repr

/-- The bucket length of window code `k`, 2^k us / 16, in ticks. -/
def bucketOf (k : Nat) : Nat := us 1 * 2 ^ k / 16

/-- The windows and aperture limits of a head are board 0's (spec 16 R376). -/
def headDesc (s : State) (n : Nat) : Descriptor := s.boardDesc n 0

/-- The six accounts of a shot of an element (spec 16 R379). -/
def accountsOf (s : State) (e : Nat) : List Account :=
  let n := elemPort e
  let d := s.elemDesc e
  let h := s.headDesc n
  let a := nth 0 d.apertureOf (elemIndex e)
  (List.range 3).flatMap fun w =>
    let b := bucketOf (nth 4 h.windows w)
    [⟨3 * e + w, e, w, nth 0 (nth [] d.elementLimits (elemIndex e)) w, b⟩,
      ⟨3 * (512 + 8 * n + a) + w, 512 + 8 * n + a, w, nth 0 (nth [] h.apertureLimits a) w, b⟩]

/-- The element has non-zero limits loaded (spec 16 Table 16-2 check 3, R376). -/
def limitsLoaded (s : State) (e : Nat) : Bool :=
  (s.port (elemPort e)).limits
    && (List.range 3).all fun w => nth 0 (nth [] (s.elemDesc e).elementLimits (elemIndex e)) w ≠ 0

/-- The sum of the test for a shot planned at `x` that adds `e` (spec 16 R379). -/
def testSum (s : State) (a : Account) (x : Tick) (e : Nat) : Nat :=
  let i := s.devTime x / a.bucket
  ((Store.read [] s.whorl.accounts a.key).filter fun b => i ≤ b.1 + 16).foldl (fun n b => n + b.2) e

/-- Adds `e` to the bucket of `x`; buckets that have left every window go (spec 16 R378, R381). -/
def addCharge (a : Account) (x : Tick) (e : Nat) (s : State) : State :=
  let i := s.devTime x / a.bucket
  let old := s.devTime s.now / a.bucket
  let put := fun (l : List (Nat × Nat)) =>
    let live := l.filter fun b => old ≤ b.1 + 16
    let sum := min (2 ^ 32 - 1) (((live.find? fun b => b.1 = i).map fun b => b.2).getD 0 + e)
    live.filter (fun b => b.1 < i) ++ [(i, sum)] ++ live.filter (fun b => i < b.1)
  s.modWhorl fun w => { w with accounts := Store.modify [] w.accounts a.key put }

/-- The largest test sum of a port and window, in 1/256 of its limit (spec 16 Table 16-7). -/
def noteSum (a : Account) (n sum : Nat) (s : State) : State :=
  let v := min 255 (256 * sum / max 1 a.limit)
  s.modPort n fun p => { p with largest := nthMod p.largest a.window (max v) }

/-- A refusal or cancellation is attributed to an account and window (spec 16 R390). -/
def blame (n : Nat) (a : Account) (s : State) : State :=
  let l := (Store.read [] s.whorl.attributed a.key).filter fun t => s.now < t + us 1000
  let s1 := s.modWhorl fun w => { w with attributed := Store.write [] w.attributed a.key (l ++ [s.now]) }
  s1.cond (l = []) (event Src.whorl 0x45 [(1, n), (2, a.id), (1, a.window), (2, min 65535 (l.length + 1))])

/-- The energy test (spec 16 R379): the accounts that it fails. -/
def overLimit (s : State) (e : Nat) (x : Tick) (energy : Nat) : List Account :=
  (s.accountsOf e).filter fun a => a.limit < s.testSum a x energy

/-- Notes the test sums of a shot. -/
def noteSums (e : Nat) (x : Tick) (energy : Nat) (s : State) : State :=
  s.each (s.accountsOf e) fun a s => s.noteSum a (elemPort e) (s.testSum a x energy)

/-- Charges a shot's six accounts. -/
def chargeAll (e : Nat) (x : Tick) (energy : Nat) (s : State) : State :=
  s.each (s.accountsOf e) fun a s => s.addCharge a x energy

/-- Whorl's verdict on a committed shot (spec 16 R379, R387). -/
def verdictOf (i : Nat) (s : State) : State :=
  let y := s.entry i
  let n := elemPort y.element
  let refuse := fun (k : Nat) (s : State) =>
    ((s.count (Kind.refused1 + k) n 1).modEntry i fun e => { e with refusedBy := some k }).retire i 0x20
  if y.state ≠ .committed then s
  else if s.inhibited then refuse 0 s
  else if !s.gateOpen n then refuse 1 s
  else if !s.limitsLoaded y.element then refuse 2 s
  else
    let energy := s.chargeOf y
    let bad := s.overLimit y.element y.planned energy
    let s1 := s.noteSums y.element y.planned energy
    if bad ≠ [] then refuse 3 (s1.each bad (blame n))
    else (s1.chargeAll y.element y.planned energy).modEntry i fun y => { y with
      state := .passed, charge := energy, verdictAt := some s.now }

/-- Takes a charge back out of its bucket. -/
def uncharge (a : Account) (x : Tick) (e : Nat) (s : State) : State :=
  let i := s.devTime x / a.bucket
  s.modWhorl fun w => { w with accounts := Store.modify [] w.accounts a.key fun l =>
    (l.map fun b => if b.1 = i then (i, b.2 - e) else b).filter fun b => b.2 ≠ 0 }

/-- A shot that passed in this very cycle. -/
def Entry.passedAt (e : Entry) (now : Tick) : Bool := e.state = .passed && e.verdictAt = some now

/-- A shot that a later check refused in this very cycle: what was attributed to it, LIMIT with it, is taken back, and check
`k` + 1 refuses it (spec 16 R387). (DEDUCED, log 136.) -/
def refuseEarlier (k : Nat) (x : Nat × Entry) (s : State) : State :=
  let e := x.2
  let n := elemPort e.element
  let unblame := fun (a : Account) (s : State) =>
    let l := Store.read [] s.whorl.attributed a.key
    s.cond (s.now ∈ l) fun s =>
      (s.modWhorl fun w => { w with attributed := Store.write [] w.attributed a.key (l.erase s.now) }).cond
        ((l.erase s.now).all fun t => decide (t + us 1000 ≤ s.now)) (unsay Src.whorl 0x45)
  let j := e.refusedBy.getD 0
  let s1 := s.cond (j = 3) fun s => s.each (s.overLimit e.element e.planned (s.chargeOf e)).reverse unblame
  ((s1.count (Kind.refused1 + j) n (2 ^ 32 - 1)).count (Kind.refused1 + k) n 1).modEntry x.1 fun e => { e with
    refusedBy := some k }

/-- A verdict given in the cycle in which a condition arises sees the condition (spec 16 R387): shots passed in this cycle
that `pick` names are refused at check `k` + 1 after all, without a charge, and those that a later check refused are refused
there. (DEDUCED, log 136.) -/
def refuseNow (pick : Entry → Bool) (k : Nat) (s : State) : State :=
  let now := s.now
  let s1 := s.each (s.skein.filter fun x => x.2.endedAt = some now && (x.2.refusedBy.any fun j => decide (k < j)) && pick x.2)
    (refuseEarlier k)
  s1.each (s.skein.filter fun x => Entry.passedAt x.2 now && pick x.2) fun x s =>
    let e := x.2
    (((s.each (s.accountsOf e.element) fun a s => s.uncharge a e.planned e.charge).count (Kind.refused1 + k)
      (elemPort e.element) 1).modEntry x.1 fun e => { e with refusedBy := some k }).retire x.1 0x20

/-- Recharges one passed shot whose energy rises (spec 16 R380). -/
def recharge (i : Nat) (s : State) : State :=
  let y := s.entry i
  let n := elemPort y.element
  let d := s.chargeOf y - y.charge
  if y.state ≠ .passed ∨ d = 0 then s
  else
    let bad := s.overLimit y.element y.planned d
    let s1 := s.noteSums y.element y.planned d
    if bad ≠ [] then ((s1.each bad (blame n)).count Kind.recharged n 1).cancel (fun e => decide (e = y)) 0x21
    else (s1.chargeAll y.element y.planned d).modEntry i fun y => { y with charge := y.charge + d }

/-- Recharges the passed shots of a port planned at or after 16 ns before the reserved boundary, in order of planned
instant (spec 16 R380). -/
def rechargePort (n : Nat) (s : State) : State :=
  match (s.port n).syncFor with
  | none => s
  | some (b, _) =>
    let before := fun (x y : Nat × Entry) =>
      decide (x.2.planned < y.2.planned) || (decide (x.2.planned = y.2.planned) && decide (x.2.order ≤ y.2.order))
    let hit := sortBy before (s.skein.filter fun x =>
      x.2.state = .passed && onPort n x.2 && decide (b ≤ x.2.planned + ns 16))
    s.each hit fun x s => s.recharge x.1

/-- The charges of a port's accounts in the buckets of a new head's windows: each stands in the new bucket that holds its
old bucket's end (spec 16 R381; DESIGN CHOICE, log 27). -/
def rebucket (n : Nat) (old new : List Nat) (s : State) : State :=
  let ids := (List.range 64).map (64 * n + ·) ++ (List.range 8).map (512 + 8 * n + ·)
  let join := fun (a b : Nat) (acc : List (Nat × Nat)) (x : Nat × Nat) =>
    let i := ((x.1 + 1) * a - 1) / b
    match acc.getLast? with
    | some (j, v) => if j = i then acc.dropLast ++ [(i, min (2 ^ 32 - 1) (v + x.2))] else acc ++ [(i, x.2)]
    | none => [(i, x.2)]
  let window := fun (id : Nat) (m : Store (List (Nat × Nat))) (k : Nat) =>
    let a := bucketOf (nth 4 old k)
    let b := bucketOf (nth 4 new k)
    if a = b then m else Store.modify [] m (3 * id + k) fun l => l.foldl (join a b) []
  s.modWhorl fun w => { w with accounts := ids.foldl (fun m id => (List.range 3).foldl (window id) m) w.accounts }

/-- An account-store error that cannot be corrected: the accounts of the port stand at their limits (spec 16 R386). -/
def fillAccounts (n : Nat) (s : State) : State :=
  s.each ((List.range 64).flatMap fun k => s.accountsOf (64 * n + k)) fun a s =>
    let i := s.devTime s.now / a.bucket
    s.modWhorl fun w => { w with accounts := Store.modify [] w.accounts a.key fun l =>
      let v := max a.limit (((l.find? fun b => b.1 = i).map fun b => b.2).getD 0)
      if v = 0 then l else l.filter (fun b => b.1 < i) ++ [(i, v)] ++ l.filter (fun b => i < b.1) }

end State

/-! ## Meanings -/

/-- WHORL_VERDICT: spec 16 R379, R387, R390. -/
def execWhorlVerdict (t : Tick) (entry : Nat) (s : State) : Host.Outcome State Fault Refusal :=
  .next ((s.advance t).verdictOf entry)

end Sys2Proof.Machine
end

