-- ==== Sys2Proof/Machine/Ports.lean ====
section
/-! DEFINITION. Head ports (spec 04 R93-R119): port states, short symbols and their reservation, keep-alives, broadcast
syncs, telemetry, thermal caps and board settings; and Spindle's scanner words (02 R53, 04 R109). -/

namespace Sys2Proof.Machine

/-! ## Short symbols (spec 04 R97, R98) -/

/-- The ten bits of a short symbol with payload b (spec 04 R97). -/
def shortBits (b : Nat) : BitVec 10 :=
  let x := fun (l : List Nat) => (1 + (l.filter fun i => b.testBit i).length) % 2
  BitVec.ofNat 10 (4 * (b % 256) + 2 * x [1, 3, 5, 7] + x [0, 2, 4, 6])

/-- The payload of a symbol that a board takes: check bits right and a type that is not reserved (spec 04 R97). -/
def shortPayload (x : BitVec 10) : Option Nat :=
  let b := x.toNat / 4
  if shortBits b = x ∧ b / 64 ≠ 3 then some b else none

/-- The keep-alive period, in ticks (spec 04 R101). -/
def kaPeriod : Tick := ns 1024

/-- An opening of the period from `a` to `b` (spec 04 R100). -/
def opening (l : List (Tick × Reserved)) (a b x : Tick) : Bool :=
  a + ns 6 ≤ x && x + ns 6 ≤ b && l.all fun r => ns 6 ≤ x - r.1 || ns 6 ≤ r.1 - x

/-- The first opening of a period at or after `start`. -/
def firstOpening (l : List (Tick × Reserved)) (a b start : Tick) : Option Tick :=
  ((max start (a + ns 6) :: l.map fun r => r.1 + ns 6).filter fun x => start ≤ x && opening l a b x).foldl
    (fun m x => some (match m with | none => x | some y => min x y)) none

/-- The states in which the head power switch is closed throughout (spec 04 Table 4-2). -/
def PortState.closed (p : PortState) : Bool := p.sends

namespace State

/-- The start of keep-alive period `k`. -/
def periodStart (s : State) (k : Nat) : Tick := s.fromDev (kaPeriod * k)

/-- The number of the keep-alive period at instant `x`. -/
def periodOf (s : State) (x : Tick) : Nat := s.devTime x / kaPeriod

/-- The keep-alive of period `k` is reserved on a port, or has been sent. -/
def kaPlaced (s : State) (n k : Nat) : Bool :=
  let a := s.periodStart k
  let inside := fun (x : Tick) => a ≤ x && x < a + kaPeriod
  ((s.port n).reserved.any fun r => inside r.1 && match r.2 with | .keepAlive _ => true | _ => false)
    || (s.port n).sent.any fun r => inside r.2

/-- Places the keep-alive of period `k` at the first opening from `start` on (spec 04 R101). -/
def placeKeepAlive (n k : Nat) (start : Tick) (s : State) : State :=
  let a := s.periodStart k
  if !(s.port n).state.sends ∨ s.kaPlaced n k then s
  else match firstOpening (s.port n).reserved a (a + kaPeriod) start with
    | none => s
    | some x => s.modPort n fun p => { p with reserved := p.reserved ++ [(x, .keepAlive (k % 64))] }

/-- A port enters the sending states (spec 04 R101). -/
def startKeepAlives (n : Nat) (s : State) : State :=
  let k := s.periodOf s.now
  (s.placeKeepAlive n k s.now).placeKeepAlive n (k + 1) s.now

/-- Symbols of the sort `p` that are due leave the port. -/
def dueSymbols (s : State) (n : Nat) (p : Reserved → Bool) : List (Tick × Reserved) :=
  (s.port n).reserved.filter fun r => p r.2 && decide (r.1 ≤ s.now)

/-- A short symbol leaves a port at instant `x`; while the latch is set nothing does (spec 04 R113). The list keeps the
symbols of the last 65,536 ns and those beside which data frames still go out. -/
def sendSymbol (n : Nat) (x : Tick) (payload : Nat) (s : State) : State :=
  let busy := decide (s.now < s.dataEnd n [])
  s.cond (!s.latch.set) (modPort n fun p => { p with
    symbols := (p.symbols.filter fun y => x < y.1 + ns 65536 || (busy && p.dataFrom ≤ y.1 + ns 6)) ++ [(x, shortBits payload)]
    data := if busy then p.data else [] })

/-- The keep-alives that are due leave (spec 04 R101). -/
def sendKeepAlive (n : Nat) (s : State) : State :=
  let due := s.dueSymbols n fun r => match r with | .keepAlive _ => true | _ => false
  s.each due fun r s => match r.2 with
    | .keepAlive k =>
      (s.sendSymbol n r.1 (128 + k % 64)).modPort n fun p => { p with
        reserved := p.reserved.erase r
        sent := (p.sent.filter fun y => s.now < y.2 + ns 67000) ++ [(k, r.1)] }
    | _ => s

/-! ## Boards' delays (spec 04 R104, R106) -/

/-- d of a board, in TDC LSB, rounded to the nearest (spec 04 R106; the rounding is a DESIGN CHOICE, log 118): 0 until an
element has a calibrated latency. -/
def boardDelay (s : State) (n b : Nat) : Int :=
  let d := s.boardDesc n b
  let l := (List.range 16).filterMap fun i =>
    (Store.read none s.cal.tables.latency (64 * n + 16 * b + i)).map fun v =>
      (v : Int) - (64 * (d.latency + nth 0 d.delayBin i) : Nat)
  if l = [] then 0 else roundDiv l.sum l.length

/-- The compensation c of a board, in 0.25 ns, rounded to the nearest (spec 04 R104; the rounding is a DESIGN CHOICE,
log 118). -/
def boardComp (s : State) (n b : Nat) : Nat := (roundDiv (s.boardDelay n b) 64 + (s.boardDesc n b).latency).toNat

/-- The least application delay `a` of a sync on a port (spec 04 R104): 4 ns units, 13-63. -/
def leastDelay (s : State) (n : Nat) : Nat :=
  let c := (List.range (s.port n).chain).foldl (fun m b => max m (s.boardComp n b)) 0
  max 13 ((c + 32 + 15) / 16)

/-- Sends every board of a head its compensation. -/
def sendComps (n : Nat) (s : State) : State :=
  s.sendFrame n ((List.range (s.port n).chain).map fun b => 0x05 :: le 2 (s.boardComp n b))

/-- Sends the boards of verified heads on the ports of a list their compensations, which new calibration values may have
changed (spec 04 R104, R106). -/
def renewComps (l : List Nat) (s : State) : State :=
  s.each l fun n s => s.cond ((s.port n).state = .verified || (s.port n).state = .admitted) (sendComps n)

/-! ## Scanner reports (spec 04 R109, 02 R53) -/

/-- Scanner reports follow admission and tracking (spec 04 R109). -/
def updateReports (n : Nat) (s : State) : State :=
  let want := s.scannerOn n
  if want = (s.port n).scannerReports then s
  else (s.sendFrame n ((List.range (s.port n).chain).map fun b =>
      if (s.boardDesc n b).scanner then [0x07, if want then 0x01 else 0x00] else [])).modPort n
    fun p => { p with scannerReports := want }

/-- A crossing is missing (spec 02 R53): the predicted one takes its place. -/
def missCrossing (n : Nat) (s : State) : State :=
  let m := s.scanner n
  if m.state = 0 ∨ m.state = 3 then s
  else
    let k := m.missing + 1
    s.setScanner n { m with
      run := 0, missing := k, last := m.last.map fun l => l + m.period, state := if 4 ≤ k then 3 else m.state }

/-- A crossing whose word is discarded is missing, unless it has been found missing already (spec 02 R53, 04 R109). -/
def lostCrossing (n : Nat) (s : State) : State :=
  let m := s.scanner n
  s.cond (m.last.all fun l => decide (m.period ≤ 2 * (s.now - l))) (missCrossing n)

/-- No crossing has been reported within 1.25 predicted periods (spec 02 R53). -/
def crossingMissing (n : Nat) (s : State) : State :=
  let m := s.scanner n
  s.cond (m.period ≠ 0 && m.last.any fun l => decide (5 * m.period ≤ 4 * (s.now - l))) (missCrossing n)

/-- The upstream word has even parity over its 18 bits (spec 04 Table 4-7). -/
def wordGood (w : BitVec 18) : Bool := popCount 18 w.toNat % 2 = 0

/-- The next word of its descriptor that board `b` of port `n` sends: type 1, its number, whether it is the first, 12 bits of
the descriptor, most significant first and filled up with zeros, and even parity (spec 04 R110, Table 4-7). -/
def descriptorWord (s : State) (n b : Nat) : BitVec 18 :=
  let y := s.lamp (4 * n + b)
  let bit := fun (i : Nat) => i < 8 * y.image.length && (y.image.getD (i / 8) 0).getLsbD (7 - i % 8)
  let data := (List.range 12).foldl (fun v i => 2 * v + (bit (12 * y.sentWords + i)).toNat) 0
  let w := 2 ^ 16 + 2 ^ 14 * b + 2 ^ 13 * (decide (y.sentWords = 0)).toNat + 2 * data
  BitVec.ofNat 18 (w + popCount 18 w % 2)

/-- A board sends a word of its descriptor; after the last one the transfer has ended (spec 04 R108, R110). -/
def sendWord (n b : Nat) (s : State) : State :=
  s.modLamp (4 * n + b) fun y =>
    let k := y.sentWords + 1
    { y with sentWords := k, sending := decide (12 * k < 8 * y.image.length) }

/-- The boards of port `n` that send their descriptors, the one whose next word comes closest to `w` first. -/
def wordOwner (s : State) (n : Nat) (w : BitVec 18) : Option Nat :=
  let off := fun (b : Nat) => popCount 18 (w ^^^ s.descriptorWord n b).toNat
  (sortBy (fun a b => decide (off a ≤ off b)) ((List.range 4).filter fun b => (s.lamp (4 * n + b)).sending)).head?

/-- An upstream word arrives: a transition has been seen, a word of false parity is counted and discarded whatever its
type, and a word that a board has sent leaves its list, or its descriptor goes on behind it (spec 04 R107, R110). (DEDUCED,
log 66.) -/
def takeWord (n type : Nat) (w : BitVec 18) (f : State → State) (s : State) : State :=
  if !(s.port n).state.closed then s
  else
    let s1 := (s.modPort n fun p => { p with seen := true, word := some (s.now, decide (type = 2)) }).each (List.range 4) fun b =>
      modLamp (4 * n + b) fun y => { y with up := y.up.eraseP fun x => x.2 = w }
    if wordGood w then s1.cond (bits w.toNat 16 2 = type) f
    else
      let s2 := s1.count Kind.parity n 1
      match s2.wordOwner n w with
      | some b => s2.cond (type = 1) (sendWord n b)
      | none => s2

/-- A scanning board reports its crossings only while scanner reports are on (spec 04 R109). -/
def reportsOn (s : State) (n : Nat) : Bool := (List.range 4).any fun b => (s.lamp (4 * n + b)).reports

/-- A status word waits on the head since before a word that ends now began, 20 us ago: board 0 starts status words before
descriptor words (spec 04 R107, R108). -/
def statusWaits (s : State) (n : Nat) : Bool :=
  (List.range 4).any fun b => (s.lamp (4 * n + b)).up.any fun x => decide (x.1 + us 20 < s.now)

/-- A scanner word (spec 04 R109): the crossing at its keep-alive's leading edge plus offset plus d, or a missing one. -/
def scannerWord (n : Nat) (w : BitVec 18) (s : State) : State :=
  let k := bits w.toNat 10 6
  let b := ((List.range 4).find? fun b => (s.boardDesc n b).scanner).getD 0
  match ((s.port n).sent.filter fun y => y.1 = k && decide (s.now ≤ y.2 + ns 65536)).getLast? with
  | none => s.lostCrossing n
  | some y => s.scannerCrossing n ((y.2 + ns (4 * bits w.toNat 1 9) : Nat) + 16 * s.boardDelay n b).toNat

/-- Board 0 sends scanner words first (spec 04 R108): the last word, which was none, had begun, 20 us before its end,
when the
crossing that `w` reports came. (DEDUCED, log 145.) -/
def scannerFirst (s : State) (n : Nat) (w : BitVec 18) : Bool :=
  let k := bits w.toNat 10 6
  match (s.port n).word, ((s.port n).sent.filter fun y => y.1 = k && decide (s.now ≤ y.2 + ns 65536)).getLast? with
  | some (t, false), some y => decide (t ≤ y.2 + ns (4 * bits w.toNat 1 9) + us 20)
  | _, _ => true

/-! ## Port states (spec 04 R95, R115-R118) -/

/-- The boards of a head lose power. -/
def unpower (n : Nat) (s : State) : State := s.each (List.range 4) fun b => modLamp (4 * n + b) fun _ => {}

/-- A status word: type 0, payload and even parity (spec 04 Table 4-7). -/
def statusBits (b item v : Nat) : BitVec 18 :=
  let w := 2 ^ 14 * (b % 4) + 2 ^ 10 * (item % 16) + 2 * (v % 512)
  BitVec.ofNat 18 (w + popCount 18 w % 2)

/-- Board `b` of port `n` sends a status item upstream. -/
def sendItem (n b item v : Nat) (s : State) : State :=
  s.modLamp (4 * n + b) fun y => { y with up := y.up ++ [(s.now, statusBits b item v)] }

/-- The boards of the head on a port are powered as its switch closes, and board 0 sends the chain length (spec 04 R107,
R504). -/
def powerHead (n : Nat) (head : List (List Byte)) (s : State) : State :=
  let s1 := s.each (List.range 4) fun b => modLamp (4 * n + b) fun _ =>
    if b < head.length then { powered := true, lastKeepAlive := s.now, image := nth [] head b } else {}
  s1.cond (head ≠ []) (sendItem n 0 2 head.length)

/-- A reserved sync that will not be sent is withdrawn; the command that waits for it is BUSY where it is not yet
acknowledged, else it fails. -/
def dropSync (n : Nat) (s : State) : State :=
  let h := (s.port n).syncFor.bind fun x => x.2
  let s1 := (s.modPort n fun p => { p with
    syncFor := none
    reserved := p.reserved.filter fun r => match r.2 with | .sync _ _ => false | _ => true }).busyAck n
  match h with
  | some h => s1.failedOpen h
  | none => s1

/-- A reserved sync is withdrawn while its port goes on; boards whose codes in force exceed their caps wait for another
(spec 04
R112). The codes that its command had sent stay those that a sync brings (DEDUCED, log 67). -/
def withdrawSync (n : Nat) (s : State) : State :=
  let above := (List.range (s.port n).chain).filter fun b =>
    (s.view n b).requested.any fun x => decide ((s.view n b).cap < s.codeNow (64 * n + 16 * b + x.1))
  s.modPort n fun p => { p with
    syncFor := none, recap := p.recap ++ above.filter fun b => b ∉ p.recap
    reserved := p.reserved.filter fun r => match r.2 with | .sync _ _ => false | _ => true }

/-- A port goes to another state (spec 04 R95, R101, R116): on leaving ADMITTED its shots are cancelled with outcome 0x25;
outside the sending states nothing stays reserved and the head is without power. -/
def setPort (n : Nat) (st : PortState) (cause : Nat) (s : State) : State :=
  let old := (s.port n).state
  let s1 := s.cond (old = .admitted) fun s => (s.refuseNow (onPort n) 1).cancel (onPort n) 0x25
  let s2 := s1.modPort n fun p => { p with state := st, enteredAt := s.now, probeEnd := 0 }
  let s3 := if st.sends then (if old.sends then s2 else s2.startKeepAlives n)
    else ((s2.dropSync n).modPort n fun p => { p with
      reserved := [], sent := [], scannerReports := false, emit := false, limits := false, seen := false, chain := 0
      boards := [], recap := [], dataFrom := 0, data := [], word := none }).cond (st ≠ .probing) (unpower n)
  ((s3.updateGate cause n).updateScanner n).updateReports n

/-- Entries of a port that leaving ADMITTED cancels. -/
def portCancels (s : State) (n : Nat) : Nat :=
  if (s.port n).state = .admitted then (s.cancellable fun e => onPort n e && !Entry.passedAt e s.now).length else 0

/-- A head is rejected (spec 04 R95, R119). -/
def rejectHead (n cause : Nat) (s : State) : State :=
  (s.setPort n .rejected 0).portEvent n 0x32 [(1, n), (1, cause)]

/-- Removal is declared (spec 04 R115, R116). -/
def removeHead (n cause : Nat) (s : State) : State :=
  let k := s.portCancels n
  ((s.setPort n .removed 1).setFlag 17).portEvent n 0x34 [(1, n), (1, cause), (2, min k 65535)]

/-- The head power switch of a port is closed (spec 04 Table 4-2). -/
def switchClosed (s : State) (n : Nat) : Bool :=
  (s.port n).state.closed || ((s.port n).state = .probing && decide (s.now < (s.port n).probeEnd))

/-- The trip threshold in force, mA (spec 04 R93, R94). -/
def tripLevel (s : State) (n : Nat) : Nat :=
  if s.now < (s.port n).closedAt + us 2000 then 3500 else 50 * s.pnum Par.tripThreshold n

/-- The port was removed at this very instant: a trip detected in the same cycle wins (spec 04 R95; DEDUCED, log 116). -/
def justRemoved (s : State) (n : Nat) : Bool := (s.port n).state = .removed && (s.port n).enteredAt = s.now

/-- The sensed current exceeds the trip threshold (spec 04 R94, R95). -/
def tripPort (n current : Nat) (s : State) : State :=
  if (!s.switchClosed n && !s.justRemoved n) ∨ current ≤ s.tripLevel n then s
  else
    let k := s.portCancels n
    ((s.setPort n .tripped 2).setFlag 17).portEvent n 0x35 [(1, n), (2, min 65535 (current / 10)), (2, min k 65535)]

/-- A PROBING port closes its switch for 2.0 ms in every 250 ms (spec 04 Table 4-2). -/
def probePort (n : Nat) (head : List (List Byte)) (s : State) : State :=
  let p := s.port n
  if p.state ≠ .probing ∨ (p.probeEnd ≠ 0 ∧ s.now < p.closedAt + us 250000) then s
  else (s.modPort n fun p => { p with closedAt := s.now, probeEnd := s.now + us 2000 }).powerHead n head

/-- Presence is confirmed (spec 04 R115): the current, in mA, has stood at or above the threshold for 100 us. -/
def headPresent (n current : Nat) (s : State) : State :=
  let p := s.port n
  if p.state ≠ .probing ∨ s.now < p.closedAt + us 100 ∨ p.closedAt + us 2000 < s.now ∨ !s.switchClosed n
      ∨ current < 10 * s.pnum Par.presThreshold n then s
  else (s.setPort n .reading 0).portEvent n 0x30 [(1, n)]

/-! ## Thermal caps and syncs (spec 04 R104, R105, R112) -/

/-- Reserves a sync at instant `x` with delay `a`, for boundary x + 4a ns; the codes it brings are those of `next`
(spec 04 R104, 16 R380). -/
def reserveSync (n a : Nat) (x : Tick) (handle : Option Nat) (s : State) : State :=
  (s.modPort n fun p => { p with
    reserved := p.reserved ++ [(x, .sync a (x + ns (4 * a)))], syncFor := some (x + ns (4 * a), handle) }).rechargePort n

/-- The first opening for a sync that no line boundary binds, from `start` on. (DEDUCED, log 67.) -/
def freeOpening (s : State) (n : Nat) (start : Tick) : Option Tick :=
  let k := s.periodOf start
  ([k, k + 1, k + 2].filterMap fun k =>
    firstOpening (s.port n).reserved (s.periodStart k) (s.periodStart k + kaPeriod) start).head?

/-- The code that a port's next sync brings an element is computed again from the request. -/
def renewCode (n b i : Nat) (s : State) : State :=
  let v := Store.read 0 (s.view n b).requested i
  s.modView n b fun y => { y with next := Store.write 0 y.next i (s.sentCode (64 * n + 16 * b + i) v) }

/-- The messages that bring a board the codes of its elements anew (spec 04 R112). -/
def capMsg (s : State) (n b : Nat) : List Byte :=
  (s.view n b).requested.flatMap fun x =>
    [0x02, BitVec.ofNat 8 x.1, BitVec.ofNat 8 (s.sentCode (64 * n + 16 * b + x.1) x.2)]

/-- The keep-alives of the periods from the present one on that are not yet placed, where they would stand now. -/
def comingEdges (s : State) (n periods : Nat) : List Tick :=
  (List.range periods).filterMap fun i =>
    let k := s.periodOf s.now + i
    if s.kaPlaced n k then none
    else firstOpening (s.port n).reserved (s.periodStart k) (s.periodStart k + kaPeriod) (max s.now (s.periodStart k))

/-- The instant of the sync reserved on a port. -/
def syncInstant (s : State) (n : Nat) : Option Tick :=
  ((s.port n).reserved.find? fun r => match r.2 with | .sync _ _ => true | _ => false).map fun r => r.1

/-- The codes that changed caps call for are sent, and a sync after their frame applies them: the one that is reserved, where
it leaves after that frame, else a new one; while neither can be, they wait, and so they do while the frames of BOARD
SETTINGS go out (spec 04 R112). (DEDUCED, log 67.) -/
def sendCaps (n : Nat) (s : State) : State :=
  let l := if (s.port n).asked.isSome then [] else (s.port n).recap
  let frame := (List.range (s.port n).chain).map fun b => if l.contains b then s.capMsg n b else []
  let done := s.framesEnd n (s.comingEdges n 4) [frame]
  let send := fun (s : State) => ((s.each l fun b s => s.each ((s.view n b).requested.map fun x => x.1)
    (renewCode n b)).sendFrame n frame).modPort n fun p => { p with recap := [] }
  if l = [] then s
  else match s.syncInstant n with
    | some x => if done ≤ x then (send s).rechargePort n else s
    | none => match s.freeOpening n done with
      | some x => (send s).reserveSync n (s.leastDelay n) x none
      | none => s

/-- A board's drive cap changes: its elements' codes are sent anew and apply at a sync (spec 04 R112). -/
def setCap (n b temp cap : Nat) (s : State) : State :=
  if (s.view n b).cap = cap then s
  else
    let s1 := (s.modView n b fun y => { y with cap := cap }).portEvent n 0x37 [(1, n), (1, b), (2, temp), (1, cap)]
    (s1.cond ((s.view n b).requested ≠ [] || (s.port n).asked.isSome) (modPort n fun p => { p with
      recap := if b ∈ p.recap then p.recap else p.recap ++ [b] })).sendCaps n

/-- A board's temperature, as on the wire, is taken (spec 04 R112). -/
def boardTemp (n b temp : Nat) (s : State) : State :=
  let d := s.boardDesc n b
  let t : Int := (temp : Int) - 80
  let stopped := if (d.derateStop : Int) ≤ t then true
    else if t + 10 ≤ d.derateStop then false else (s.view n b).stopped
  (s.modView n b fun y => { y with stopped := stopped }).setCap n b temp (capAt d temp)

/-- A board whose temperature has been silent for 10 ms is treated as at its derating stop (spec 04 R112). -/
def boardStale (n b : Nat) (s : State) : State :=
  if !(s.port n).state.closed ∨ (s.port n).chain ≤ b ∨ (s.view n b).desc.isNone ∨ s.now < (s.view n b).tempAt + us 10000
  then s
  else s.boardTemp n b ((s.boardDesc n b).derateStop + 80)

/-! ## Telemetry (spec 04 R107, R108) -/

/-- BOARD STATE where a board's emission state or fault bits change. -/
def boardState (n b : Nat) (g : BoardView → BoardView) (s : State) : State :=
  let s1 := s.modView n b g
  let y := s1.view n b
  if y.enabled = (s.view n b).enabled ∧ y.faults = (s.view n b).faults then s1
  else s1.portEvent n 0x36 [(1, n), (1, b), (1, y.enabled.toNat), (1, y.faults.toNat)]

/-- The chain length reported by board 0 (spec 04 R107, R115): the first one in READING starts the descriptor read. A
value that no chain has, 0 or above 4, is no change of chain (DESIGN CHOICE, log 118). -/
def chainLength (n v : Nat) (s : State) : State :=
  let p := s.port n
  if v = 0 ∨ 4 < v ∨ v = p.chain then s
  else if p.chain = 0 then
    (s.modPort n fun p => { p with chain := v }).sendFrame n (List.replicate v [0x06])
  else s.removeHead n 2

/-- A status word with right parity (spec 04 R107). -/
def statusWord (n : Nat) (w : BitVec 18) (s : State) : State :=
  let b := bits w.toNat 14 2
  let v := bits w.toNat 1 9
  match bits w.toNat 10 4 with
  | 0 =>
    let s1 := s.modView n b fun y => { y with temp := some v, tempAt := s.now }
    s1.cond (s1.view n b).desc.isSome (boardTemp n b v)
  | 1 => s.boardState n b fun y => { y with faults := BitVec.ofNat 9 v }
  | 2 => s.cond (b = 0) (chainLength n v)
  | 3 => s.modView n b fun y => { y with shareCount := v % 16, shareGood := v.testBit 4 }
  | 4 => s.modView n b fun y => { y with checkErrors := v }
  | 5 => s.boardState n b fun y => { y with enabled := decide (v = 1) }
  | _ => s

/-- A descriptor word (spec 04 R107, R108, R110): 12 bits, most significant first, as the board forms them of the descriptor
that it holds. A board sends it only after a descriptor read message, and board 0 starts it only while no status word
waits. -/
def descriptorBits (n : Nat) (w : BitVec 18) (s : State) : State :=
  let b := bits w.toNat 14 2
  if !(s.lamp (4 * n + b)).sending ∨ s.statusWaits n ∨ w ≠ s.descriptorWord n b then s
  else (s.sendWord n b).modView n b fun y =>
    let y := if w.toNat.testBit 13 then { y with bytes := [], part := [] } else y
    let all := y.part ++ (List.range 12).map fun i => w.toNat.testBit (12 - i)
    let k := all.length / 8
    { y with
      bytes := (y.bytes ++ (List.range k).map fun j =>
        BitVec.ofNat 8 (((all.drop (8 * j)).take 8).foldl (fun v x => 2 * v + x.toNat) 0)).take 21504
      part := all.drop (8 * k) }

/-- Fire latencies and path delays of a port's elements become uncalibrated (spec 19 R458). -/
def clearLatencies (n : Nat) (s : State) : State :=
  s.modCal fun c => { c with tables := { c.tables with
    latency := c.tables.latency.filter fun x => elemPort x.1 ≠ n
    path := c.tables.path.filter fun x => elemPort x.1 ≠ n } }

/-- Every board's descriptor has verified: the port is VERIFIED with its limits loaded (spec 04 R95, 16 R378, 19 R458). -/
def headVerified (n : Nat) (old : List Nat) (s : State) : State :=
  let d := s.headDesc n
  let s1 := s.modPort n fun p => { p with state := .verified, enteredAt := s.now, head := d.head, limits := true, windows := d.windows }
  let s2 := s1.cond ((s.port n).latencyHead ≠ d.head) fun s =>
    (s.clearLatencies n).modPort n fun p => { p with latencyHead := d.head }
  ((((s2.rebucket n old d.windows).event Src.whorl 0x46 [(1, n), (8, d.head.toNat)]).portEvent n 0x31
    [(1, n), (8, d.head.toNat), (1, (s.port n).chain)]).sendComps n).updateGate 0 n

/-- The trust engine finishes a board's descriptor (spec 17 R405): in chain order, once its last word has come. The
temperature that the board has reported is checked against it (04 R112). -/
def checkDescriptor (n b : Nat) (s : State) : State :=
  let p := s.port n
  let y := s.view n b
  let body := num y.bytes 2 2
  let whole := y.bytes.take (body + sigLength)
  let done := 4 ≤ y.bytes.length && (decide (body < 256) || decide (4096 < body) || body + sigLength ≤ y.bytes.length)
  if p.state ≠ .reading ∨ p.chain ≤ b ∨ y.verified ∨ !done ∨ !(List.range b).all (fun k => (s.view n k).verified) then s
  else match s.descriptorFault b whole (if b = 0 then none else some (s.headDesc n)) with
    | some cause => s.rejectHead n cause
    | none =>
      let s0 := s.modView n b fun y => { y with
        desc := some (descriptorOf (whole.take body)), verified := true, signer := num whole (body + 2) 1
        digest := Config.sha384 (whole.take body), signed := whole.take body }
      let s1 := match y.temp with
        | some v => s0.boardTemp n b v
        | none => s0
      if b + 1 = p.chain then s1.headVerified n p.windows else s1

/-! ## BOARD SETTINGS (spec 04 R103, R105) -/

/-- The bytes of a board message. -/
def msgBytes : BoardMsg → List Byte
  | .elementEnable mask => 0x01 :: le 2 mask.toNat
  | .driveCode e c => [0x02, BitVec.ofNat 8 e, BitVec.ofNat 8 c]
  | .brightness p => [0x03, BitVec.ofNat 8 p]
  | .emission v => [0x04, v]
  | .syncCompensation c => 0x05 :: le 2 c
  | .descriptorRead => [0x06]
  | .scannerReports v => [0x07, v]
  | .shareCounterReset => [0x08]

/-- The message as it is sent: a drive code is equalised and capped (spec 04 R111, R112). -/
def sentMsg (s : State) (n b : Nat) : BoardMsg → BoardMsg
  | .driveCode e c => .driveCode e (s.sentCode (64 * n + 16 * b + e) c)
  | m => m

/-- The values of a message lie in their ranges (spec 04 Table 4-6). -/
def msgGood : BoardMsg → Bool
  | .driveCode e c => e < 16 && c < 256
  | .brightness p => p ≤ 100
  | .syncCompensation c => c < 65536
  | _ => true

/-- Messages packed into share payloads of at most 64 bytes, in order (spec 04 R102). -/
def packMsgs (l : List (List Byte)) : List (List Byte) :=
  l.foldl (fun acc m => match acc.getLast? with
    | some x => if x.length + m.length ≤ 64 then acc.dropLast ++ [x ++ m] else acc ++ [m]
    | none => [m]) []

/-- The data frames that carry messages to the boards of a port: the shares of each frame in chain order. -/
def msgFrames (s : State) (n : Nat) (msgs : List (Nat × BoardMsg)) : List (List (List Byte)) :=
  let per := (List.range (s.port n).chain).map fun b =>
    packMsgs ((msgs.filter fun m => m.1 = b).map fun m => msgBytes (s.sentMsg n b m.2))
  (List.range (per.foldl (fun m l => max m l.length) 0)).map fun j => per.map fun l => nth [] l j

/-- The `k`th line boundary after the present instant (spec 01 R16, 02 R37). -/
def boundaryAfter (s : State) (k : Nat) : Tick :=
  let p := s.spindle
  let i := ((fine s.now : Int) - p.phase) * s.lineDiv / max 1 p.period + k
  ((p.phase + i * p.period / s.lineDiv) / 4096).toNat

/-- Settings to boards are staged for a line boundary (spec 04 R105, 15 R351). -/
def stages (s : State) : Bool := (s.dev = .ready || s.dev = .armed || s.dev = .ranging) && s.spindle.hasTime

/-- The opening and delay of a sync that can be reserved once frames have been sent at `start`, no later than `limit`
(spec 04 R104, R105). (DEDUCED, log 64.) -/
def chooseSync (s : State) (n : Nat) (limit start : Tick) : Option (Tick × Nat) :=
  let a0 := s.leastDelay n
  let free := fun (x : Tick) =>
    let k := s.periodOf x
    start ≤ x && x ≤ limit
      && opening (s.port n).reserved (s.periodStart k) (s.periodStart k + kaPeriod) x
  if s.stages then
    let lines := fine (us 19) / max 1 s.linePeriod + 1
    (List.range lines).findSome? fun k =>
      let b := s.boundaryAfter (k + 1)
      ((List.range (64 - a0)).map fun i => (b - ns (4 * (a0 + i)), a0 + i)).find? fun x =>
        free x.1 && decide (x.1 + ns (4 * x.2) = b)
  else match s.freeOpening n start with
    | some x => if x ≤ limit then some (x, a0) else none
    | none => none

/-- When the frames of messages to a port's boards will have been sent (spec 04 R98, R105). (DEDUCED, log 64.) -/
def settingsSent (s : State) (n : Nat) (msgs : List (Nat × BoardMsg)) : Tick :=
  s.framesEnd n (s.comingEdges n 20) (s.msgFrames n msgs)

/-- The checks of BOARD SETTINGS (spec 04 R105). -/
def settingsCheck (n : Nat) (msgs : List (Nat × BoardMsg)) (s : State) : Ack :=
  if 8 ≤ n then .wrongArg 16
  else if !(s.port n).state.sends ∨ (s.port n).chain = 0 then .wrongState (Src.port n)
  else if msgs = [] ∨ msgs.any (fun m => decide ((s.port n).chain ≤ m.1) || !msgGood m.2) then .wrongArg 0xFFFF
  else if (s.port n).syncFor.isSome ∨ (s.port n).asked.isSome
      ∨ (s.chooseSync n (s.now + us 18) (s.settingsSent n msgs)).isNone then .busy 1
  else .accepted

/-- The drive codes of messages as they are sent, by board and element (spec 04 R111, R112). -/
def sentCodes (s : State) (n : Nat) (msgs : List (Nat × BoardMsg)) : List (Nat × Nat × Nat) :=
  msgs.filterMap fun m => match m.2 with
    | .driveCode e c => some (m.1, e, s.sentCode (64 * n + 16 * m.1 + e) c)
    | _ => none

/-- The device's own record of messages: the codes asked for and the codes, as they were sent, that the sync brings. -/
def noteMsgs (n : Nat) (q : Asked) (s : State) : State :=
  (s.each q.msgs fun m s => match m.2 with
    | .driveCode e c => s.modView n m.1 fun y => { y with requested := Store.write 0 y.requested e c }
    | _ => s).each q.sent fun x => modView n x.1 fun y => { y with next := Store.write 0 y.next x.2.1 x.2.2 }

/-- The boundary before instant `b` has passed: `b` is the next line boundary, or no line boundary is sought (spec 04
R105). -/
def boundaryNext (s : State) (b : Tick) : Bool :=
  !s.stages || decide (b ≤ s.boundaryAfter 1 + s.linePeriod / 8192)

/-- BOARD SETTINGS is carried out (spec 04 R105): its frames are sent, and its sync is to stand 18 us after its arrival. -/
def boardSettings (n : Nat) (msgs : List (Nat × BoardMsg)) (h : Hdr) (handle : Nat) (s : State) : State :=
  (s.each (s.msgFrames n msgs) fun f s => s.sendFrame n f).modPort n fun p => { p with
    asked := some ⟨h, handle, s.now + us 18, msgs, s.sentCodes n msgs⟩ }

/-- The sync of BOARD SETTINGS is reserved once its frames have been sent, before any commit of the cycle, and the command is
acknowledged after the boundary before the one that the sync names; where no opening stands 18 us after its arrival, it is
BUSY (spec 04 R105, 16 R380). What the boards hold staged then waits for a sync (DESIGN CHOICE, log 146). -/
def offerSync (n : Nat) (s : State) : State :=
  match (s.port n).asked with
  | none => s
  | some q =>
    if s.now < s.dataEnd n [] ∧ s.now < q.limit then s
    else match if s.now < s.dataEnd n [] then none else s.chooseSync n q.limit s.now with
      | none => (s.busyAck n).sendCaps n
      | some (x, a) =>
        let b := x + ns (4 * a)
        let s1 := (s.noteMsgs n q).modPort n fun p => { p with
          asked := none, owed := some (q.hdr, q.handle, b, s.lineTimeAt b, false) }
        ((s1.reserveSync n a x (some q.handle)).cond (s.boundaryNext b) (payAck n)).sendCaps n

/-- The syncs whose frames have been sent are reserved on every port (spec 04 R105). -/
def offerSyncs (s : State) : State := s.each (List.range 8) offerSync

/-- The acknowledgements whose boundary has passed are made (spec 04 R105). -/
def payAcks (s : State) : State :=
  s.each (List.range 8) fun n s => s.cond ((s.port n).owed.any fun x => s.boundaryNext x.2.2.1) (payAck n)

/-- A reserved sync leaves: its codes come into force on every board that has not reported a share failure, and the
command that reserved it completes with the boundary, once it is acknowledged (spec 04 R103-R105, R504). -/
def sendSync (n : Nat) (s : State) : State :=
  let due := s.dueSymbols n fun r => match r with | .sync _ _ => true | _ => false
  s.each due fun r s => match r.2 with
    | .sync a b =>
      let h := (s.port n).syncFor.bind fun x => x.2
      let s1 := ((s.sendSymbol n r.1 (64 + a % 64)).modPort n fun p => { p with
        reserved := p.reserved.erase r, syncFor := none
        owed := p.owed.map fun x => (x.1, x.2.1, x.2.2.1, x.2.2.2.1, true) }).each (List.range 4) fun k =>
          modView n k fun y => if y.faults.getLsbD 4 then y else { y with codes := y.next }
      let s2 := match h with
        | some h => s1.cond (s1.port n).owed.isNone
          (completeWith h 0 0 0 (if s.stages then some (s.lineTimeAt b) else none) [])
        | none => s1
      s2.sendCaps n
    | _ => s

end State

/-! ## Meanings -/

/-- SCANNER_WORD: spec 04 R109, 02 R53. -/
def execScannerWord (t : Tick) (port : Nat) (word : BitVec 18) (s : State) : Host.Outcome State Fault Refusal :=
  let s := s.advance t
  .next (if s.scannerFirst port word then s.takeWord port 2 word fun s => s.cond (s.reportsOn port) (State.scannerWord port word)
    else s)

/-- SCANNER_CROSSING_MISSING: spec 02 R53. -/
def execScannerCrossingMissing (t : Tick) (port : Nat) (s : State) : Host.Outcome State Fault Refusal :=
  .next ((s.advance t).crossingMissing port)

/-- PROBE: spec 04 R95, Table 4-2. -/
def execProbe (t : Tick) (head : ProbedHead) (s : State) : Host.Outcome State Fault Refusal :=
  .next ((s.advance t).probePort head.port head.boards)

/-- PRESENCE: spec 04 R115. -/
def execPresence (t : Tick) (port current : Nat) (s : State) : Host.Outcome State Fault Refusal :=
  .next ((s.advance t).headPresent port current)

/-- PORT_TRIP: spec 04 R94, R95, R116. -/
def execPortTrip (t : Tick) (port current : Nat) (s : State) : Host.Outcome State Fault Refusal :=
  .next ((s.advance t).tripPort port current)

/-- HEAD_REMOVED: spec 04 R115, R116; the heartbeat rule counts 1.5 us from the last transition, once one has been seen. -/
def execHeadRemoved (t : Tick) (port : Nat) (removal : Removal) (s : State) : Host.Outcome State Fault Refusal :=
  let s := s.advance t
  .next (if !(s.port port).state.closed ∨ (removal.cause = 1 ∧ removal.last.all fun l => decide (s.now < l + ns 1500)) then s
    else s.removeHead port removal.cause)

/-- REMOVED_END: spec 04 R95. -/
def execRemovedEnd (t : Tick) (port : Nat) (s : State) : Host.Outcome State Fault Refusal :=
  let s := s.advance t
  .next (if (s.port port).state = .removed ∧ (s.port port).enteredAt + us 250000 ≤ s.now then
    s.setPort port .probing 0 else s)

/-- NO_TELEMETRY_TIMEOUT: spec 04 R95. (DEDUCED, log 66.) -/
def execNoTelemetryTimeout (t : Tick) (port : Nat) (s : State) : Host.Outcome State Fault Refusal :=
  let s := s.advance t
  .next (if (s.port port).state = .reading ∧ !(s.port port).seen ∧ (s.port port).enteredAt + us 50000 ≤ s.now then
    s.rejectHead port 4 else s)

/-- READING_TIMEOUT: spec 04 R95. -/
def execReadingTimeout (t : Tick) (port : Nat) (s : State) : Host.Outcome State Fault Refusal :=
  let s := s.advance t
  .next (if (s.port port).state = .reading ∧ (s.port port).enteredAt + us 2000000 ≤ s.now then
    s.rejectHead port 5 else s)

/-- TELEMETRY_STATUS: spec 04 R107, R112, R115. -/
def execTelemetryStatus (t : Tick) (port : Nat) (word : BitVec 18) (s : State) : Host.Outcome State Fault Refusal :=
  .next ((s.advance t).takeWord port 0 word (State.statusWord port word))

/-- BOARD_TEMPERATURE_STALE: spec 04 R112. -/
def execBoardTemperatureStale (t : Tick) (port board : Nat) (s : State) : Host.Outcome State Fault Refusal :=
  .next ((s.advance t).boardStale port board)

/-- DESCRIPTOR_WORD: spec 04 R107, R108. -/
def execDescriptorWord (t : Tick) (port : Nat) (word : BitVec 18) (s : State) : Host.Outcome State Fault Refusal :=
  .next ((s.advance t).takeWord port 1 word (State.descriptorBits port word))

/-- DESCRIPTOR_CHECK_DONE: spec 17 R405, 04 R95, R110, 16 R376, R378. -/
def execDescriptorCheckDone (t : Tick) (port board : Nat) (s : State) : Host.Outcome State Fault Refusal :=
  .next ((s.advance t).checkDescriptor port board)

/-- KEEP_ALIVE_PLACE: spec 04 R101; capped codes that wait for an opening are tried again (R112). -/
def execKeepAlivePlace (t : Tick) (port : Nat) (s : State) : Host.Outcome State Fault Refusal :=
  let s := s.advance t
  .next (((s.offerSync port).placeKeepAlive port (s.periodOf s.now + 1) s.now).sendCaps port)

/-- KEEP_ALIVE_SEND: spec 04 R101. -/
def execKeepAliveSend (t : Tick) (port : Nat) (s : State) : Host.Outcome State Fault Refusal :=
  .next (((s.advance t).offerSync port).sendKeepAlive port)

/-- BROADCAST_SYNC_SEND: spec 04 R104, R105, R504. -/
def execBroadcastSyncSend (t : Tick) (port : Nat) (s : State) : Host.Outcome State Fault Refusal :=
  .next (((s.advance t).offerSync port).sendSync port)

/-- PORT_ENABLE: spec 04 R95; it fails while the latch is set (16 R389). -/
def execPortEnable (t : Tick) (h : Hdr) (port : Nat) (s : State) : Host.Outcome State Fault Refusal :=
  .next ((s.advance t).command 0x0401 h (fun _ => if 8 ≤ port then .wrongArg 16 else .accepted) fun handle s =>
    if s.latch.set then s.failedOpen handle
    else (if (s.port port).state = .off ∨ (s.port port).state = .tripped then s.setPort port .probing 0 else s).succeed
      handle [])

/-- PORT_DISABLE: spec 04 R95. -/
def execPortDisable (t : Tick) (h : Hdr) (port : Nat) (s : State) : Host.Outcome State Fault Refusal :=
  .next ((s.advance t).command 0x0402 h (fun _ => if 8 ≤ port then .wrongArg 16 else .accepted) fun handle s =>
    (s.setPort port .off 5).succeed handle [])

/-- ADMIT: spec 04 R118. -/
def execAdmitHead (t : Tick) (h : Hdr) (port : Nat) (identity : BitVec 64) (s : State) : Host.Outcome State Fault Refusal :=
  .next ((s.advance t).command 0x0403 h
    (fun s => if 8 ≤ port ∨ (s.port port).state ≠ .verified then .wrongArg 16
      else if (s.port port).head ≠ identity then .wrongArg 0xFFFF else .accepted)
    fun handle s => ((s.setPort port .admitted 0).portEvent port 0x33 [(1, port), (8, identity.toNat)]).succeed handle [])

/-- BOARD_SETTINGS: spec 04 R103-R105. -/
def execBoardSettings (t : Tick) (h : Hdr) (port : Nat) (msgs : List (Nat × BoardMsg)) (s : State) :
    Host.Outcome State Fault Refusal :=
  .next ((s.advance t).commandLater 0x0404 h (State.settingsCheck port msgs) (State.boardSettings port msgs h))

/-- CLEAR_LATENCIES: spec 04 R118, 19 R458. -/
def execClearLatencies (t : Tick) (h : Hdr) (ports : BitVec 8) (s : State) : Host.Outcome State Fault Refusal :=
  .next ((s.advance t).command 0x0405 h State.noCheck fun handle s =>
    ((s.each (maskList 8 ports.toNat) State.clearLatencies).renewComps (maskList 8 ports.toNat)).succeed handle [])

end Sys2Proof.Machine
end

