-- ==== Sys2Proof/Machine/Boards.lean ====
section
/-! DEFINITION. Lamp boards (spec 04 R97, R99, R102-R104, R108, R112-R114): short symbols, data frames, messages, syncs,
emission and the Treadle indicator patterns. A board stands under 4 x port + board. -/

namespace Sys2Proof.Machine

namespace State

/-! ## Indicators (spec 04 R114) -/

/-- The pattern of Table 4-10: 0 off, 1 fault, 2 chase, 3 breathing. -/
def patternOf (b : Board) (now : Tick) : Nat :=
  if b.faults ≠ 0 || b.faultAt.any (fun t => decide (now < t + us 2000000)) then 1
  else if b.enabled && b.fireAt.any (fun t => decide (now < t + us 50000)) then 2
  else if b.enabled then 3 else 0

/-- The descriptor that a board holds (spec 04 R110). -/
def boardOwn (s : State) (n b : Nat) : Descriptor := descriptorOf (s.lamp (4 * n + b)).image

/-- The drive of an LED at a level in 1/1,000 of its colour mix (spec 04 R114). -/
def ledDrive (level : Nat) (mix : Nat × Nat × Nat) : Nat × Nat × Nat :=
  (level * min 1000 mix.1 / 1000, level * min 1000 mix.2.1 / 1000, level * min 1000 mix.2.2 / 1000)

/-- The sine of `x` in 10^-9, for x from 0 to a quarter turn: the first nine terms of its series, which leave less than
10^-11. -/
def sine (x : Int) : Int :=
  ((List.range 8).foldl (fun (a : Int × Int) k =>
    let t := -(a.1 * x / 10 ^ 9 * x / 10 ^ 9) / ((2 * k + 2) * (2 * k + 3))
    (t, a.2 + t)) (x, x)).2

/-- The level of the breathing pattern at a phase of its 2.0 s, in 1/1,000: a raised cosine from 10 % to 100 % and back,
which rises by the square of the sine of half the phase's angle (spec 04 Table 4-10). -/
def breath (phase : Tick) : Nat :=
  let v := sine ((3141592654 * min phase (us 2000000 - phase) / us 2000000 : Nat))
  (100 + roundDiv (900 * (v * v)) (10 ^ 18)).toNat

/-! ### Colours (spec 04 R114) -/

/-- The chromaticity u', v' in 10^-6 of x, y in 10^-4. -/
def uv (c : Int × Int) : Int × Int :=
  let d := max 1 (30000 - 2 * c.1 + 12 * c.2)
  (4 * c.1 * 10 ^ 6 / d, 9 * c.2 * 10 ^ 6 / d)

/-- The chromaticities x, y in 10^-4 and relative intensity of an LED's red, green and blue, by its entry of the indicator
table (spec 04 Table 4-8, R110; DESIGN CHOICE, log 8). -/
def ledColours (e : List Byte) : List (Int × Int × Int) :=
  (List.range 3).map fun c =>
    (Config.descriptorField e (20 + 3 * c) % 10000, Config.descriptorField e (21 + 3 * c) % 10000,
      Config.descriptorField e (22 + 3 * c) % 65536)

/-- Twice the signed area of the triangle of three points. -/
def area (a b c : Int × Int) : Int := (b.1 - a.1) * (c.2 - a.2) - (c.1 - a.1) * (b.2 - a.2)

/-- The square of the distance of two points. -/
def apart (a b : Int × Int) : Int := (a.1 - b.1) * (a.1 - b.1) + (a.2 - b.2) * (a.2 - b.2)

/-- The point of the segment from `a` to `b` that is nearest to `p`. -/
def nearest (p a b : Int × Int) : Int × Int :=
  let n := apart a b
  let k := max 0 (min n ((p.1 - a.1) * (b.1 - a.1) + (p.2 - a.2) * (b.2 - a.2)))
  if n = 0 then a else (a.1 + k * (b.1 - a.1) / n, a.2 + k * (b.2 - a.2) / n)

/-- The chromaticity u', v' that the LED aims at: the target, or the nearest point of the gamut where it lies outside
(spec 04
R114). Nearest is meant in u', v', in which the rule's tolerance is given (DEDUCED, log 119). -/
def ledAim (l : List (Int × Int)) (target : Int × Int) : Int × Int :=
  let a := nth (0, 0) l 0
  let b := nth (0, 0) l 1
  let c := nth (0, 0) l 2
  let s := [area target b c, area a target c, area a b target]
  if s.all (fun x => decide (0 ≤ x)) || s.all (fun x => decide (x ≤ 0)) then target
  else
    let p := nearest target a b
    let q := nearest target b c
    let r := nearest target c a
    let best := if apart target p ≤ apart target q then p else q
    if apart target best ≤ apart target r then best else r

/-- How much each colour weighs in u', v' at full drive: intensity over y, times the divisor of u' and v'. -/
def ledWeight (c : Int × Int × Int) : Int := c.2.2 * max 1 (30000 - 2 * c.1 + 12 * c.2.1) / max 1 c.2.1

/-- The chromaticity u', v' of a mix of three colours. -/
def ledColour (l : List (Int × Int × Int)) (m : Nat × Nat × Nat) : Int × Int :=
  let w := (l.zip [m.1, m.2.1, m.2.2]).map fun x => ledWeight x.1 * x.2
  let p := l.map fun x => uv (x.1, x.2.1)
  let d := max 1 w.sum
  (((w.zip p).map fun x => x.1 * x.2.1).sum / d, ((w.zip p).map fun x => x.1 * x.2.2).sum / d)

/-- The mix, in 1/1,000 with the strongest colour full, whose chromaticity is the point `aim` of the gamut. -/
def exactMix (l : List (Int × Int × Int)) (aim : Int × Int) : Nat × Nat × Nat :=
  let p := l.map fun x => uv (x.1, x.2.1)
  let a := nth (0, 0) p 0
  let b := nth (0, 0) p 1
  let c := nth (0, 0) p 2
  let share := fun (i : Nat) (v : Int) => v.natAbs * 10 ^ 12 / max 1 (ledWeight (nth (0, 0, 0) l i)).toNat
  let r := share 0 (area aim b c)
  let g := share 1 (area a aim c)
  let u := share 2 (area a b aim)
  let top := max 1 (max r (max g u))
  (1000 * r / top, 1000 * g / top, 1000 * u / top)

/-- How an LED's red, green and blue are mixed, in 1/1,000, to reach the chromaticity (x, y) in 10^-4 (spec 04 R114): any mix
within 0.01 of its aim will do, and which one an engine takes is a free value (DESIGN CHOICE, log 119). -/
def ledMix (e : List Byte) (x y : Nat) : Nat × Nat × Nat :=
  let l := ledColours e
  let aim := ledAim (l.map fun c => uv (c.1, c.2.1)) (uv (x, y))
  let m := Config.ledMix e x y
  if apart (ledColour l m) aim ≤ 10 ^ 8 then m else exactMix l aim

/-- What the LEDs of a board show: the mixed white of the chase, one LED at 100 % and the rest at 10 %; the breathing
amber; red alone, at no less than 25 % (spec 04 R114, Table 4-10). -/
def ledsOf (table : List (List Byte)) (y : Board) (now : Tick) : List (Nat × Nat × Nat) :=
  table.mapIdx fun i e =>
    match y.pattern with
    | 1 => (10 * max 25 (min 100 y.brightness), 0, 0)
    | 2 => ledDrive ((if i = y.led then 10 else 1) * min 100 y.brightness) (ledMix e 3127 3290)
    | 3 => ledDrive (breath ((now - y.patternAt) % us 2000000) * min 100 y.brightness / 100) (ledMix e 5600 4100)
    | _ => (0, 0, 0)

/-- The Treadle engine: a new pattern starts, the chase advances every 80 ms, and the LEDs follow (spec 04 R114). -/
def treadle (n b : Nat) (s : State) : State :=
  let table := (s.boardOwn n b).indicators
  s.modLamp (4 * n + b) fun y =>
    let p := patternOf y s.now
    let y := if p ≠ y.pattern then { y with pattern := p, patternAt := s.now, led := 0 }
      else if p = 2 ∧ y.patternAt + us 80000 ≤ s.now then
        { y with patternAt := y.patternAt + us 80000, led := (y.led + 1) % max 1 table.length }
      else y
    { y with leds := ledsOf table y s.now }

/-! ## What a board does (spec 04 R108) -/

/-- Changes a powered board, reports the fault bits, the emission state and the last share received where they change, and
lets the indicator follow (spec 04 R107, R108, R114). -/
def onBoard (n b : Nat) (g : Board → Board) (s : State) : State :=
  let old := s.lamp (4 * n + b)
  if !old.powered then s
  else
    let s1 := s.modLamp (4 * n + b) g
    let new := s1.lamp (4 * n + b)
    let s2 := s1.modLamp (4 * n + b) fun y => { y with
      faultAt := if y.faults ≠ 0 ∨ old.faults ≠ 0 then some s.now else y.faultAt }
    (((s2.cond (new.faults ≠ old.faults) (sendItem n b 1 new.faults.toNat)).cond (new.enabled ≠ old.enabled)
      (sendItem n b 5 new.enabled.toNat)).cond (new.shares ≠ old.shares || new.shareGood ≠ old.shareGood)
      (sendItem n b 3 (new.shares + flagBit 4 new.shareGood))).treadle n b

/-- Sets fault bit `i`. -/
def addFault (i : Nat) (b : Board) : Board := { b with faults := b.faults ||| BitVec.ofNat 9 (2 ^ i) }

/-- Clears fault bit `i`. (DESIGN CHOICE, log 69.) -/
def dropFault (i : Nat) (b : Board) : Board := { b with faults := b.faults &&& ~~~ BitVec.ofNat 9 (2 ^ i) }

/-- The board's last temperature is at or above the derating stop of its descriptor (spec 04 R112). -/
def tooHot (b : Board) : Bool :=
  b.image ≠ [] && decide (((descriptorOf b.image).derateStop : Int) ≤ (b.temp : Int) - 80)

/-! ## Messages (spec 04 Table 4-6) -/

/-- What a message does on receipt or stages for the sync (spec 04 R103, R113); a board at or above its derating stop stays
SILENT (R112). A drive code's element byte above 15 names the element that its low four bits spell (DESIGN CHOICE,
log 118). -/
def boardMsg (m : BoardMsg) (b : Board) : Board :=
  match m with
  | .elementEnable mask => { b with stagedEnables := some mask }
  | .driveCode e c =>
    { b with stagedCodes := Store.write none b.stagedCodes (e % 16) (some (c % 256)) }
  | .brightness p => { b with stagedBrightness := some p }
  | .emission v =>
    if v = 0xA5 then (if tooHot b then b else dropFault 2 { b with enabled := true })
    else if v = 0 then { b with enabled := false } else b
  | .syncCompensation c => { b with comp := c }
  | .descriptorRead => { b with sending := true, sentWords := 0 }
  | .scannerReports v => if v = 1 then { b with reports := true } else if v = 0 then { b with reports := false } else b
  | .shareCounterReset => { b with shares := 0 }

/-- The next message of a share and the bytes after it; none where its id is not known. A value of two bytes has its low byte
first, and a value that the end of the share cuts off is read as if 0 followed (DESIGN CHOICE, log 118). -/
def readMsg (l : List Byte) : Option (BoardMsg × List Byte) :=
  match l with
  | [] => none
  | id :: r =>
    match id.toNat with
    | 1 => some (.elementEnable (BitVec.ofNat 16 (fromLe (r.take 2))), r.drop 2)
    | 2 => some (.driveCode (fromLe (r.take 1)) (fromLe ((r.drop 1).take 1)), r.drop 2)
    | 3 => some (.brightness (fromLe (r.take 1)), r.drop 1)
    | 4 => some (.emission (BitVec.ofNat 8 (fromLe (r.take 1))), r.drop 1)
    | 5 => some (.syncCompensation (fromLe (r.take 2)), r.drop 2)
    | 6 => some (.descriptorRead, r)
    | 7 => some (.scannerReports (BitVec.ofNat 8 (fromLe (r.take 1))), r.drop 1)
    | 8 => some (.shareCounterReset, r)
    | _ => none

/-- A share's messages in order; an unknown id ends them and is a share failure (spec 04 R103). (DEDUCED, log 68.) -/
def runShare : Nat → List Byte → Board → Board
  | 0, _, b => b
  | fuel + 1, l, b => match l with
    | [] => b
    | _ => match readMsg l with
      | some (m, r) => runShare fuel r (boardMsg m b)
      | none => addFault 4 { b with shareFail := true }

/-- Whether a share's CRC passes (spec 04 R102); an empty share has none, and counts as one that passed (DESIGN CHOICE,
log 118). -/
def shareGood (x : List Byte) : Bool :=
  let k := num x 0 1
  k = 0 || le 2 (crc16 (x.take (k + 1))).toNat = ((x.drop (k + 1)).take 2).reverse

/-- The data bit of a pulse by its high time in 0.1 ns, none outside the accepted classes (spec 04 Table 4-3). -/
def cellOf (high : Nat) : Option Bool :=
  if 20 ≤ high ∧ high ≤ 49 then some false else if 50 ≤ high ∧ high ≤ 90 then some true else none

/-- The high times with which the cells of bytes are sent, most significant bit first (spec 04 R102, Table 4-3). -/
def cellsOf (bytes : List Byte) : List Nat :=
  bytes.flatMap fun x => (List.range 8).map fun i => if x.getLsbD (7 - i) then 70 else 30

/-- The bytes that data bits spell, most significant first. -/
def bytesOf : Nat → List Bool → List Byte
  | 0, _ => []
  | n + 1, l => BitVec.ofNat 8 ((l.take 8).foldl (fun v x => 2 * v + x.toNat) 0) :: bytesOf n (l.drop 8)

/-- A data frame reaches a board: it takes the first share and forwards the rest (spec 04 R102, R103). A frame whose count or
length is not allowed is a violation. (DEDUCED, log 68.) -/
def boardFrame (n b : Nat) (bytes : List Byte) (s : State) : State :=
  let k := num bytes 0 1
  let rest := bytes.drop 1
  let len := num rest 0 1
  let size := if len = 0 then 1 else len + 3
  if k = 0 ∨ 4 < k ∨ 64 < len ∨ rest.length < size then
    s.onBoard n b fun y => { y with violations := y.violations + 1 }
  else
    let mine := rest.take size
    let good := shareGood mine
    s.onBoard n b fun y =>
      let y := { y with
        shares := (y.shares + 1) % 16, shareGood := good
        forwarded := if k = 1 then y.forwarded else y.forwarded ++ [BitVec.ofNat 8 (k - 1) :: rest.drop size] }
      if good then runShare (len + 1) ((mine.drop 1).take len) y else y

/-- The pulses of a data frame reach a board: each pulse outside the accepted classes is a violation, for which the frame in
progress is discarded (spec 04 R96). -/
def boardPulses (n b : Nat) (pulses : List Nat) (s : State) : State :=
  let bad := (pulses.filter fun h => (cellOf h).isNone).length
  if bad = 0 then s.boardFrame n b (bytesOf (pulses.length / 8) (pulses.filterMap cellOf))
  else s.onBoard n b fun y => { y with violations := y.violations + bad }

/-! ## Short symbols -/

/-- A short symbol reaches a board: one whose check bits disagree, or of the reserved type, is a check error and does
nothing else (spec 04 R97). -/
def boardSymbol (n b : Nat) (x : BitVec 10) (type : Nat) (g : Nat → Board → Board) (s : State) : State :=
  match shortPayload x with
  | none => s.onBoard n b fun y => { y with checkErrors := y.checkErrors + 1 }
  | some p => if p / 64 = type then s.onBoard n b (g (p % 64)) else s

/-- A fire symbol (spec 04 R99, R113): only the board it names fires, and only while ENABLED and with the element
enabled. -/
def fireSymbol (b : Nat) (now : Tick) (p : Nat) (y : Board) : Board :=
  if p / 16 ≠ b then y
  else
    let y := { y with fireAt := some now }
    if y.enabled && y.enables.getLsbD (p % 16) then
      { y with fired := (y.fired.filter fun f => now < f.1 + us 1000) ++ [(now, p % 16)] } else y

/-- The staged messages apply, unless a share failure has been recorded (spec 04 R103, R104). (DEDUCED, log 65.) -/
def applySync (y : Board) : Board :=
  if y.shareFail then dropFault 4 { y with shareFail := false }
  else { y with
    enables := y.stagedEnables.getD y.enables, stagedEnables := none
    codes := y.stagedCodes.foldl (fun m x => Store.write 0 m x.1 (x.2.getD 0)) y.codes, stagedCodes := []
    brightness := y.stagedBrightness.getD y.brightness, stagedBrightness := none }

/-- When a board applies a sync: its marker's arrival plus 4 ns times a, less its compensation in 0.25 ns (spec 04 R104). -/
def syncDue (arrival a comp : Nat) : Tick := arrival + ns (4 * a) - 1024 * comp

/-- No valid keep-alive for 4.0 us (spec 04 R113). -/
def keepAliveTimeout (now : Tick) (y : Board) : Board :=
  if y.enabled && decide (y.lastKeepAlive + ns 4000 ≤ now) then addFault 2 { y with enabled := false } else y

/-- A board's temperature (spec 04 R108, R112): sent every 1.0 ms, and no sooner than 0.9 ms after the last, with the check
errors of the last millisecond; the over-temperature bit clears 5 C below the derating stop. (DESIGN CHOICE, log 69.) -/
def boardSends (n b temp : Nat) (s : State) : State :=
  let d := s.boardOwn n b
  let errors := min 511 (s.lamp (4 * n + b)).checkErrors
  let old := (s.lamp (4 * n + b)).checkSent
  if !(s.lamp (4 * n + b)).powered ∨ (s.lamp (4 * n + b)).tempAt.any fun t => decide (s.now < t + us 900) then s
  else
    let s1 := (s.onBoard n b fun y =>
        let y := { y with temp := temp, tempAt := some s.now, checkErrors := 0, checkSent := errors }
        if (temp : Int) - 80 + 10 ≤ d.derateStop then dropFault 1 y else y).sendItem n b 0 temp
    s1.cond (errors ≠ old) (sendItem n b 4 errors)

end State

/-! ## Meanings -/

/-- BOARD_FIRE: spec 04 R97, R99, R113. -/
def execBoardFire (t : Tick) (port board : Nat) (bits : BitVec 10) (s : State) : Host.Outcome State Fault Refusal :=
  let s := s.advance t
  .next (s.boardSymbol port board bits 0 (State.fireSymbol board s.now))

/-- BOARD_SYNC_APPLY: spec 04 R103, R104. -/
def execBoardSyncApply (t : Tick) (port board : Nat) (mark : SyncMark) (s : State) : Host.Outcome State Fault Refusal :=
  let s := s.advance t
  .next (s.boardSymbol port board mark.bits 1 fun a y =>
    if State.syncDue mark.arrival a y.comp ≤ s.now then State.applySync y else y)

/-- BOARD_KEEP_ALIVE: spec 04 R97, R113. -/
def execBoardKeepAlive (t : Tick) (port board : Nat) (bits : BitVec 10) (s : State) :
    Host.Outcome State Fault Refusal :=
  let s := s.advance t
  .next (s.boardSymbol port board bits 2 fun p y => { y with lastKeepAlive := s.now, keepAlive := p })

/-- KEEP_ALIVE_TIMEOUT: spec 04 R113. -/
def execKeepAliveTimeout (t : Tick) (port board : Nat) (s : State) : Host.Outcome State Fault Refusal :=
  let s := s.advance t
  .next (s.onBoard port board (State.keepAliveTimeout s.now))

/-- DATA_FRAME: spec 04 R96, R102, R103. -/
def execDataFrame (t : Tick) (port board : Nat) (pulses : List Nat) (s : State) : Host.Outcome State Fault Refusal :=
  .next ((s.advance t).boardPulses port board pulses)

/-- ELEMENT_ENABLE: spec 04 R103. -/
def execElementEnable (t : Tick) (port board : Nat) (mask : BitVec 16) (s : State) : Host.Outcome State Fault Refusal :=
  let s := s.advance t
  .next (s.onBoard port board (State.boardMsg (.elementEnable mask)))

/-- DRIVE_CODE: spec 04 R103, R504. -/
def execDriveCode (t : Tick) (port board element code : Nat) (s : State) : Host.Outcome State Fault Refusal :=
  let s := s.advance t
  .next (s.onBoard port board (State.boardMsg (.driveCode element code)))

/-- INDICATOR_BRIGHTNESS: spec 04 R103, R114. -/
def execIndicatorBrightness (t : Tick) (port board percent : Nat) (s : State) : Host.Outcome State Fault Refusal :=
  let s := s.advance t
  .next (s.onBoard port board (State.boardMsg (.brightness percent)))

/-- EMISSION: spec 04 R103, R113. -/
def execEmission (t : Tick) (port board : Nat) (value : Byte) (s : State) : Host.Outcome State Fault Refusal :=
  let s := s.advance t
  .next (s.onBoard port board (State.boardMsg (.emission value)))

/-- SYNC_COMPENSATION: spec 04 R103, R104. -/
def execSyncCompensation (t : Tick) (port board c : Nat) (s : State) : Host.Outcome State Fault Refusal :=
  let s := s.advance t
  .next (s.onBoard port board (State.boardMsg (.syncCompensation c)))

/-- DESCRIPTOR_READ: spec 04 R103, R108. -/
def execDescriptorRead (t : Tick) (port board : Nat) (s : State) : Host.Outcome State Fault Refusal :=
  let s := s.advance t
  .next (s.onBoard port board (State.boardMsg .descriptorRead))

/-- SCANNER_REPORTS: spec 04 R103, R109. -/
def execScannerReports (t : Tick) (port board : Nat) (value : Byte) (s : State) : Host.Outcome State Fault Refusal :=
  let s := s.advance t
  .next (s.onBoard port board (State.boardMsg (.scannerReports value)))

/-- SHARE_COUNTER_RESET: spec 04 R103. -/
def execShareCounterReset (t : Tick) (port board : Nat) (s : State) : Host.Outcome State Fault Refusal :=
  let s := s.advance t
  .next (s.onBoard port board (State.boardMsg .shareCounterReset))

/-- BOARD_TEMPERATURE_SEND: spec 04 R108. -/
def execBoardTemperatureSend (t : Tick) (port board temp : Nat) (s : State) : Host.Outcome State Fault Refusal :=
  .next ((s.advance t).boardSends port board temp)

/-- BOARD_OVER_TEMPERATURE: spec 04 R112, R113. -/
def execBoardOverTemperature (t : Tick) (port board temp : Nat) (s : State) : Host.Outcome State Fault Refusal :=
  let s := s.advance t
  .next (if (temp : Int) - 80 < (s.boardOwn port board).derateStop then s
    else s.onBoard port board fun y => State.addFault 1 { y with enabled := false, temp := temp })

/-- DRIVER_FAULT: spec 04 R113. -/
def execDriverFault (t : Tick) (port board : Nat) (s : State) : Host.Outcome State Fault Refusal :=
  .next ((s.advance t).onBoard port board fun y => State.addFault 3 { y with enabled := false })

/-- INDICATOR_PATTERN_TIMEOUT: spec 04 R114. -/
def execIndicatorPatternTimeout (t : Tick) (port board : Nat) (s : State) : Host.Outcome State Fault Refusal :=
  let s := s.advance t
  .next (if (s.lamp (4 * port + board)).powered then s.treadle port board else s)

end Sys2Proof.Machine
end

