-- ==== Sys2Proof/Machine/Apply.lean ====
section
/-! DEFINITION. Changes of settings (spec 01 R16, 15 R351, R358, R359, R365): what setting a parameter does, staged
changes and the boundaries at which they apply, coefficient swaps (07 R172-R174), loads of codes and listening sets
(03 R71, R78) and the renumbering of frames by a frame number load (02 R36). -/

namespace Sys2Proof.Machine

namespace State

/-! ## Frame numbers (spec 02 R36) -/

/-- A frame number `f` after the next frame's number has moved from `n0` to `n1`: frames still to start move with it. -/
def renumbered (p : Spindle) (n0 n1 f : Nat) : Nat :=
  if f ≠ p.frame ∧ !p.ended f ∧ 0 ≤ serialDiff f n0 then (f + n1 + (2 ^ 32 - n0 % 2 ^ 32)) % 2 ^ 32 else f

/-- Frames that commands and shots are bound to keep their frame when the next frame's number changes (spec 02 R36). -/
def renumber (n0 n1 : Nat) (s : State) : State :=
  if n0 = n1 ∨ !s.spindle.hasTime then s
  else
    let r := renumbered s.spindle n0 n1
    let s1 := s.modDist fun d => { d with staged := d.staged.map fun x => { x with frame := r x.frame } }
    let s2 := s1.each (List.range 16) fun b => modFlyer b fun f =>
      let issued := f.issued.map fun i => { i with frame := r i.frame }
      { f with frame := r f.frame, issued := issued }
    let s3 := s2.each (List.range 16) fun g s => s.cond (s.group g).params.isSome (modGroup g fun y => { y with
      params := y.params.map fun p => { p with scheduled := p.scheduled.map fun x => (r x.1, x.2) } })
    let s4 := s3.each (s3.skein.map fun x => x.1) fun i => modEntry i fun e =>
      { e with lt := { e.lt with frame := r e.lt.frame } }
    s4.modSpindle fun p => { p with
      depth := p.depth.map r
      frames := (p.frames.filter fun x => !x.2.closed || serialDiff x.1 n1 < 0).foldl
        (fun m x => Store.write {} m (r x.1) x.2) [] }

/-- A frame number load is set, replaced or withdrawn (spec 02 R36). -/
def setLoad (l : Option Nat) (s : State) : State :=
  let p := s.spindle
  let next := (p.frame + 1) % 2 ^ 32
  (s.renumber (p.load.getD next) (l.getD next)).modSpindle fun p => { p with load := l }

/-! ## Setting a parameter -/

/-- The entry of a table-valued parameter that a number names, and the value it holds (Tables 6-5, 10-2); a sense is three
choices, of which an option makes the one it stands in (Table 11-1, log 18). (DESIGN CHOICE, log 40.) -/
def subOf (id : Nat) (v : PVal) : Nat × PVal :=
  if id = Par.hkSlotInput then (v.num.toNat / 64, ⟨0, v.num % 64⟩)
  else if id = Par.expWidth then (v.num.toNat / 4096, ⟨0, v.num % 4096⟩)
  else if id = Par.trigSense then (v.opt / 2, v)
  else (0, v)

/-- The value in force of entry `sub` of a parameter: the pending frame number load and the hop index are state of their
own (spec 02 R36, 10 R252). (DESIGN CHOICE, log 40.) -/
def paramValue (s : State) (id sub target : Nat) : PVal :=
  if id = Par.frameLoad then (match s.spindle.load with | some n => ⟨1, n⟩ | none => ⟨0, 0⟩)
  else if id = Par.hopIndex then ⟨0, s.hop⟩
  else s.paramAt id sub target

/-- The parameters of a bank's combiner (spec 11 Table 11-3). -/
def combIds : List Nat := [Par.combMode, Par.combA, Par.combB, Par.combK, Par.combV]

/-- What a change of parameter does before the new value stands (spec 05 R133, 07 R185, 11 R257). -/
def beforeParam (id target : Nat) (s : State) : State :=
  if id = Par.slewLimit then s.modBias target fun x => { x with reference := s.biasReference target, rampAt := s.now }
  else if id = Par.detWindow ∨ id = Par.detGate ∨ id = Par.envDecay then
    s.cutReading target (s.popt Par.detGate target) (s.pnum Par.envDecay target)
  else if id ∈ combIds then s.combineBank target
  else s

/-- The declared lines per frame have changed (spec 02 R39, R40): free-running takes them at a frame origin; the rate limit
of interpolated mode rests on them. -/
def linesChanged (s : State) : State :=
  if s.spindle.state = .freeRunning then s
  else
    let s1 := s.modSpindle fun p => { p with lines := s.pnum Par.declaredLines 0 }
    if s1.spindle.period = 0 ∨ s1.rateGood s1.spindle.period then s1
    else if s1.spindle.hasTime then (s1.rateFault s1.spindle.period).declareLost 2
    else if s1.spindle.seeded then (s1.rateFault s1.spindle.period).discardSeed none
    else s1

/-- What a change of a timing parameter does (spec 02 R40, R53). A change of the drift comparison source leaves the ratios
that are held (DESIGN CHOICE, log 117). -/
def afterTiming (id : Nat) (s : State) : State :=
  if id = Par.timingMode then s.applyTimingMode
  else if id = Par.declaredLines then s.linesChanged
  else if id = Par.driftSource then s.driftChosen
  else if id = Par.scannerTracking then s.each (List.range 8) fun n s => (s.updateScanner n).updateReports n
  else s

/-- What a change of a channel's parameter does; `old` is the receive mode that was in force (spec 05 R131, R132, 08 R210,
10 R235, R240, 11 R254, 20 R463). -/
def afterChannel (id c old : Nat) (s : State) : State :=
  if id = Par.receiveMode then
    let s1 := s.applyMode c old
    s1.cond (old = 0 && s1.modeOf c ≠ 0) (leaveWaveform c)
  else if id = Par.rangingMode ∨ (id = Par.initialRange ∧ s.autoRanging c) then s.applyRanging c
  else if id = Par.tracking then s.cond (s.popt Par.tracking c = 1) (startBlock c)
  else if id = Par.cohGate then s.cohClear c false
  else if id = Par.level0 ∨ id = Par.levelSource then s.levelHosted c (id = Par.levelSource)
  else if id = Par.anaLevel ∨ id = Par.anaSource then s.analogueHosted c (id = Par.anaSource)
  else if id ∈ [Par.trigType, Par.trigCmp, Par.trigSense, Par.limitA, Par.limitB, Par.trigTimeout, Par.windowGate,
      Par.validGate] then s.trigApplied c
  else s

/-- What a change of a bank's parameter does (spec 05 R133-R137, 10 R235, 11 R257). -/
def afterBank (id b : Nat) (s : State) : State :=
  if id = Par.biasEnable then s.applyBiasEnable b
  else if id = Par.tempInput then
    (s.cond (s.popt Par.tempInput b = 1) (modBias b fun x => { x with term := 0 })).retarget b true
  else if id = Par.setpoint ∨ id = Par.ceiling ∨ id = Par.tempCoef ∨ id = Par.refTemp then s.retarget b false
  else if id = Par.cohInterval then s.each (List.range 16) fun i => cohClear (16 * b + i) true
  else if id ∈ combIds then
    s.modBank b fun x => { x with held := [], openA := none }
  else s

/-- What a change of parameter does once the new value stands. -/
def afterParam (id target old : Nat) (s : State) : State :=
  let p := (paramDef id).map fun p => p.scope
  if p = some 1 then s.afterChannel id target old
  else if p = some 2 then s.afterBank id target
  else if id = Par.hkReference then s.referenceChanged
  else if id = Par.hkTimer then s.cond (s.popt Par.hkTimer 0 = 1) startTimer
  else if id = Par.prescaler then s.prescalerApplied target
  else s.afterTiming id

/-- An item of SET PARAMETERS applies to one target (spec 15 R365). -/
def applyItem (target : Nat) (i : Item) (s : State) : State :=
  match paramDef i.id with
  | none => s
  | some p =>
    let v := p.value i.opt i.num
    let e := subOf i.id v
    if i.id = Par.frameLoad then s.setLoad (if v.opt = 1 then some v.num.toNat else none)
    else if i.id = Par.hopIndex then (if v.num.toNat = s.hop then s else s.setHop v.num.toNat 1)
    else if s.paramAt i.id e.1 target = e.2 then s
    else
      let old := s.modeOf target
      ((s.beforeParam i.id target).setParam i.id e.1 target e.2).afterParam i.id target old

/-! ## Coefficient copies (spec 07 R172-R174, R188) -/

/-- The inactive copy becomes active (spec 07 R173). -/
def flipCopy (b : Nat) (s : State) : State :=
  s.modBank b fun x => { x with activeB := !x.activeB, swapStaged := false, mismatch := false }

/-- The device forces reduced filter power (spec 18 R427, R429). -/
def reduced (s : State) : Bool := s.power.level = 2 || s.blindThermal

/-- Every bank enters or leaves the reduced set (spec 07 R174, 20 R466). -/
def syncReduced (s : State) : State :=
  (s.cond s.reduced fun s => s.modCal fun c => { c with
    run := c.run.map fun r => { r with reduced4 := r.reduced4 || r.kind = 4 } }).each (List.range 16) fun b s =>
    s.cond ((s.bank b).forced ≠ s.reduced) fun s => (s.modBank b fun x => { x with forced := s.reduced }).restartNoise b

/-- Runs `f` and marks, once for each bank, the outputs of the swaps that it makes (spec 07 R174, R188). -/
def withSwapMarks (f : State → State) (s : State) : State :=
  let s1 := f s
  s1.each (List.range 16) fun b t =>
    let x := s.bank b
    let y := s1.bank b
    t.cond (x.activeB ≠ y.activeB || x.forced ≠ y.forced || x.unitForced ≠ y.unitForced) fun t =>
      (t.modBank b fun k => { k with olds := remember s.now x.inForce false k.olds }).markBank b .swap 1
        (some (s.now + sample * (max x.inForce.span y.inForce.span + 24)))

/-- Forced changes take effect at once where there is no line time (spec 07 R174, 15 R351). -/
def reducedNow (s : State) : State := s.cond (!s.spindle.hasTime) (withSwapMarks syncReduced)

/-- Restored calibration values come into force; channels whose interleave values change are marked (spec 06 R148, 19
R457). -/
def applyRestore (s : State) : State :=
  let s1 := (s.calApply s.restorePorts).renewComps (List.range 8)
  s1.each (List.range 256) fun c t =>
    t.cond ((s.chan c).fe.inter ≠ (s1.chan c).fe.inter) (markChan c .interleave 1 (some (s.now + 16 * sample)))

/-! ## Staged changes (spec 01 R16, 15 R351, R358, R359) -/

/-- Stores words in a Flyer's code table or set store from `first` on. -/
def putWords {α : Type} [DecidableEq α] (d : α) (first : Nat) (l : List α) (m : Store α) : Store α :=
  (l.mapIdx fun i v => (first + i, v)).foldl (fun m x => Store.write d m x.1 x.2) m

/-- One change takes effect. -/
def applyChange (c : Change) (s : State) : State :=
  match c with
  | .item t i => s.applyItem t i
  | .codes b first l => s.modFlyer b fun f => { f with codes := putWords 0 first l f.codes }
  | .sets b first l => s.modFlyer b fun f => { f with sets := putWords 0 first l f.sets }
  | .swap b => s.flipCopy b
  | .restore => s.applyRestore
  | .hop j host => s.setHop j host.toNat

/-- Whether a change may be made in a device state (spec 15 R351, Table 15-8). -/
def changeAllowed (c : Change) (d : DevState) : Bool :=
  match c with
  | .item _ i => ((paramDef i.id).map fun p => p.allowed.holds d).getD false
  | .codes _ _ _ => opAllowed 0x0303 d
  | .sets _ _ _ => opAllowed 0x0304 d
  | .swap _ => opAllowed 0x0702 d
  | .restore => opAllowed 0x1303 d
  | .hop _ _ => Allowed.anyFromSafe.holds d

/-- A change that will not be made is dropped. -/
def dropChange (c : Change) (s : State) : State :=
  match c with
  | .swap b => s.modBank b fun x => { x with swapStaged := false }
  | _ => s

/-- The result that a command's completion carries once its changes have applied. -/
def changeResult (s : State) (l : List Change) : List Byte :=
  if l.contains .restore then [BitVec.ofNat 8 s.restorePorts] else []

/-- The changes of one command apply together, and the command completes (spec 15 R358, R365). (DEDUCED, log 113.) -/
def applyStaged (x : Staged) (boundary : Option LineTime) (s : State) : State :=
  let s1 := s.each x.changes applyChange
  match x.handle with
  | some h => s1.completeWith h 0 0 0 boundary (s1.changeResult x.changes)
  | none => s1

/-- Stages a change for the boundary that a command names, or the next one (spec 01 R16, 15 R359). -/
def stage (h : Hdr) (handle : Nat) (changes : List Change) (s : State) : State :=
  let p := s.spindle
  let later := fun (b : Nat × Nat) =>
    decide (0 < p.ahead b.1) || (b.1 = p.frame && decide (p.line < b.2))
  let late := h.boundary.any fun b => !later b
  let b := match h.boundary with
    | some b => if later b then (b.1, b.2, false) else (p.frame, p.line, true)
    | none => (p.frame, p.line, true)
  let s1 := s.cond late (modDist fun d => { d with
    live := d.live.map fun l => if l.handle = handle then { l with late := true } else l })
  s1.modDist fun d => { d with staged := d.staged ++ [⟨b.1, b.2.1, b.2.2, some handle, changes, none⟩] }

/-- A command's changes are staged, or take effect at its acknowledgement (spec 01 R16, 15 R351). -/
def change (staging : Bool) (h : Hdr) (changes : List Change) (handle : Nat) (s : State) : State :=
  if staging then s.stage h handle changes
  else s.withSwapMarks fun s => s.applyStaged ⟨0, 0, true, some handle, changes, none⟩ none

/-- Check 5 of the named boundary, and check 6 of a command that stages (spec 15 R358, R359). (DEDUCED, log 73.) -/
def stageCheck (s : State) (staging : Bool) (h : Hdr) : Ack :=
  let p := s.spindle
  if h.boundary.any fun b => decide (p.named b.1 < 0) || decide (65536 < p.named b.1) then .wrongArg 8
  else if h.boundary.any fun b => decide (p.lines ≤ b.2) then .wrongArg 12
  else if staging ∧ 64 ≤ (s.dist.staged.filter fun x => x.handle.isSome).length then .busy 2 else .accepted

/-- A staged change is due: its boundary lies at or before the present line (spec 01 R16), or the settings of its command
have
taken effect at a frame origin (02 R40). -/
def stagedDue (s : State) (x : Staged) : Bool :=
  if x.free.isSome then s.spindle.freePending.all fun c => some c.1 ≠ x.free
  else decide (s.spindle.ahead x.frame < 0)
    || (s.spindle.frame = x.frame && decide (if x.after then x.line < s.spindle.line else x.line ≤ s.spindle.line))

/-- Changes that apply together: a host setting of the hop index overrides an automatic hop (spec 10 R252). -/
def hopRule (l : List Staged) : List Staged :=
  let host := fun (c : Change) => match c with | .item _ i => i.id = Par.hopIndex | .hop _ h => h | _ => false
  if l.any fun x => x.changes.any host then l.filter fun x => x.handle.isSome else l

/-- The changes that are due apply, in the order of their commands (spec 15 R358), at the boundary of the present line. -/
def applyDue (s : State) : State :=
  let all := s.dist.staged.filter s.stagedDue
  let due := hopRule all
  let s1 := s.modDist fun d => { d with staged := d.staged.filter fun x => x ∉ all }
  s1.withSwapMarks fun s => (s.each due fun x s =>
    s.applyStaged x (some ⟨s.spindle.frame, s.spindle.line, 0⟩)).syncReduced

/-- The device enters SAFE, FAULT or SELF-TEST: changes staged under R16 that the new state admits apply at once, the others
are discarded (spec 15 R351). -/
def settleStaged (s : State) : State :=
  let all := hopRule (s.dist.staged.filter fun x => x.free.isNone)
  let s1 := s.modDist fun d => { d with staged := d.staged.filter fun x => x.free.isSome }
  s1.withSwapMarks fun s => s.each all fun x s =>
    let ok := x.changes.filter fun c => changeAllowed c s.dev
    let gone := x.changes.filter fun c => !changeAllowed c s.dev
    let s1 := (s.each ok applyChange).each gone dropChange
    match x.handle with
    | none => s1
    | some h => if gone = [] then s1.completeWith h 0 0 0 none (s1.changeResult ok) else s1.aborted h 1

/-! ## SET PARAMETERS and GET PARAMETERS (spec 15 R365) -/

/-- How many targets a scope kind has (Table 15-6). -/
def scopeSize (k : Nat) : Nat := nth 0 [1, 256, 16, 8, 4] k

/-- The targets of a command: the device has one. -/
def scopeTargets (k : Nat) (l : List Nat) : List Nat := if k = 0 then [0] else l

/-- The scope of a command is sound. -/
def scopeGood (k : Nat) (l : List Nat) : Bool := k ≤ 4 && (k = 0 || (l ≠ [] && l.all fun t => t < scopeSize k))

/-- The first item in error: its id or its value (spec 15 R365). -/
def itemFault (k : Nat) (items : List Item) : Option Nat :=
  (items.mapIdx fun n i => (n, i)).findSome? fun x =>
    match paramDef x.2.id with
    | none => some (64 + 16 * x.1)
    | some p =>
      if p.scope ≠ k then some (64 + 16 * x.1)
      else if !p.admits x.2.opt x.2.num ∨ (p.id = Par.hkSlotInput ∧ (48 : Int) ≤ x.2.num % 64) then some (72 + 16 * x.1)
      else none

/-- The number a parameter will have once the items apply. -/
def trial (s : State) (items : List Item) (id t : Nat) : Int :=
  ((items.filter fun i => i.id = id).getLast?.map fun i => i.num).getD (s.param id t).num

/-- Pairs of parameters in which the first must not exceed the second (spec 05 R133, 06 Table 6-5, 11 R255). -/
def crossPairs : List (Nat × Nat) :=
  [(Par.setpoint, Par.ceiling), (Par.limitA, Par.limitB), (Par.hkPulseMin, Par.hkPulseMax)]

/-- The values fit together on every target; a ceiling may be set below the setpoint, which is then held down to it (spec 05
R133). -/
def crossGood (s : State) (targets : List Nat) (items : List Item) : Bool :=
  crossPairs.all fun p =>
    !(items.any fun i => i.id = p.1 || (i.id = p.2 && p.2 ≠ Par.ceiling))
      || targets.all fun t => decide (s.trial items p.1 t ≤ s.trial items p.2 t)

/-- A bias disable: BIASb_GATE stops at once, so that no boundary is waited for (spec 05 R137; DEDUCED, log 144). -/
def stopsBias (i : Item) : Bool := i.id = Par.biasEnable && i.opt = 0

/-- Some item is a setting that FREE-RUNNING takes at a frame origin (spec 02 R40). -/
def waitsForOrigin (s : State) (items : List Item) : Bool :=
  s.spindle.state = .freeRunning && items.any fun i => i.id = Par.freePeriod || i.id = Par.declaredLines

/-- Some item is one that R16 stages. -/
def anyStaged (items : List Item) : Bool :=
  items.any fun i => !stopsBias i && ((paramDef i.id).map fun p => p.staged).getD false

/-- The checks of SET PARAMETERS. -/
def setCheck (h : Hdr) (k : Nat) (targets : List Nat) (items : List Item) (s : State) : Ack :=
  if items.any fun i => ((paramDef i.id).map fun p => !p.allowed.holds s.dev).getD false then .wrongState 0
  else if 4 < k then .wrongArg 16
  else if !scopeGood k targets then .wrongArg 24
  else if items = [] ∨ 64 < items.length then .wrongArg 56
  else match itemFault k items with
    | some d => .wrongArg d
    | none =>
      if !s.crossGood (scopeTargets k targets) items then .wrongArg 0xFFFF
      else s.stageCheck ((s.stages && anyStaged items) || s.waitsForOrigin items) h

/-- The changes that SET PARAMETERS asks for. -/
def setChanges (k : Nat) (targets : List Nat) (items : List Item) : List Change :=
  items.flatMap fun i => (scopeTargets k targets).map fun t => .item t i

/-- A value as an item carries it: option in bits [63:48], number in bits [47:0]. -/
def valueField (v : PVal) : Nat := (v.num % (2 ^ 48 : Nat)).toNat + 2 ^ 48 * v.opt

/-- The entries of a parameter: the table-valued ones have 64 and 16. -/
def entriesOf (id : Nat) : Nat := if id = Par.hkSlotInput then 64 else if id = Par.expWidth then 16 else 1

/-- The changes of a command that hold a free-running setting wait, all together, for the frame origin at which it takes
effect (spec 02 R40, 15 R365; DEDUCED, log 156). -/
def awaitOrigin (changes : List Change) (items : List Item) (handle : Nat) (s : State) : State :=
  let p := s.spindle
  let last := (p.freePending.getLast?.map fun c => c.2).getD (256 * s.pnum Par.freePeriod 0, s.pnum Par.declaredLines 0)
  let given := fun (id : Nat) => (items.filter fun i => i.id = id).getLast?.map fun i => i.num.toNat
  let period := ((given Par.freePeriod).map fun v => 256 * v).getD last.1
  (s.modSpindle fun p => { p with
    freePending := p.freePending ++ [(s.now, period, (given Par.declaredLines).getD last.2)] }).modDist fun d => { d with
      staged := d.staged ++ [⟨p.frame, p.line, true, some handle, changes, some s.now⟩] }

/-- Spindle has left FREE-RUNNING: what still waits for a frame origin applies (DEDUCED, log 156). -/
def originsGone (s : State) : State :=
  s.cond (s.spindle.state ≠ .freeRunning && s.dist.staged.any fun x => x.free.isSome) applyDue

/-- The boundary of a staged change: the frame origin that it waits for, the line named, or the line after the present one
(spec 01 R16, 02 R40). -/
def boundaryOf (s : State) (x : Staged) : LineTime :=
  match x.free with
  | some a =>
    let turn := (s.spindle.freePending.zip s.turns).find? fun y => y.1.1 = a
    ⟨turn.elim s.spindle.frame fun y => y.2.frame, 0, 0⟩
  | none =>
    if !x.after then ⟨x.frame, x.line, 0⟩
    else if x.line + 1 < s.spindle.frameLength then ⟨x.frame, x.line + 1, 0⟩ else ⟨(x.frame + 1) % 2 ^ 32, 0, 0⟩

/-- The first change staged for an entry of a parameter: its value and its boundary. -/
def stagedValue (s : State) (id sub t : Nat) : Option (PVal × Nat) :=
  s.dist.staged.findSome? fun x => x.changes.findSome? fun c => match c with
    | .item t' i =>
      match paramDef i.id with
      | none => none
      | some p =>
        let e := subOf i.id (p.value i.opt i.num)
        if t' = t ∧ i.id = id ∧ e.1 = sub then some (e.2, LineTime.field (s.boundaryOf x)) else none
    | _ => none

/-- The result of GET PARAMETERS: for each target, id and entry 8 bytes for the value in force, 8 for the staged value and
8 for its boundary (DESIGN CHOICE, log 20). (DEDUCED, log 71.) -/
def getResult (s : State) (k : Nat) (targets ids : List Nat) : List Byte :=
  (scopeTargets k targets).flatMap fun t => ids.flatMap fun id => (List.range (entriesOf id)).flatMap fun sub =>
    let z := s.stagedValue id sub t
    le 8 (valueField (s.paramValue id sub t)) ++ le 8 ((z.map fun z => valueField z.1).getD 0)
      ++ le 8 ((z.map fun z => z.2).getD 0)

/-- The checks of GET PARAMETERS: the result must fit a completion entry. (DEDUCED, log 71.) -/
def getCheck (k : Nat) (targets ids : List Nat) : Ack :=
  if 4 < k then .wrongArg 16
  else if !scopeGood k targets then .wrongArg 24
  else if ids = [] ∨ 64 < ids.length then .wrongArg 56
  else if ids.any fun id => (paramDef id).all fun p => p.scope ≠ k then .wrongArg 64
  else if 4064 < 24 * (scopeTargets k targets).length * (ids.map entriesOf).sum then .wrongArg 0xFFFF
  else .accepted

/-- A code entry that a load admits (spec 03 R78): a valid one has k ≤ n and no used spacing of 0. -/
def codeGood (w : Word32) : Bool :=
  let c := w.setWidth 20
  !codeValid c || (codeK c ≤ codeN c && (List.range (codeN c - 1)).all fun i => bits c.toNat (4 + 5 * i) 5 ≠ 0)

/-- A listening set that a load admits holds at most 64 channels (spec 03 R71). -/
def setGood (x : BitVec 256) : Bool := popCount 256 x.toNat ≤ 64

end State

/-! ## Meanings -/

/-- SET_PARAMETERS: spec 15 R365, R358, R359, 01 R16. -/
def execSetParameters (t : Tick) (h : Hdr) (scope : Nat) (targets : List Nat) (items : List Item) (s : State) :
    Host.Outcome State Fault Refusal :=
  .next ((s.advance t).command 0x0F10 h (State.setCheck h scope targets items) fun handle s =>
    if s.waitsForOrigin items then s.awaitOrigin (State.setChanges scope targets items) items handle
    else if s.stages && State.anyStaged items then
      (s.each (State.setChanges scope targets (items.filter State.stopsBias)) State.applyChange).change true h
        (State.setChanges scope targets (items.filter fun i => !State.stopsBias i)) handle
    else (s.change false h (State.setChanges scope targets items) handle).originsGone)

/-- GET_PARAMETERS: spec 15 R365. -/
def execGetParameters (t : Tick) (h : Hdr) (scope : Nat) (targets ids : List Nat) (s : State) :
    Host.Outcome State Fault Refusal :=
  .next ((s.advance t).command 0x0F11 h (fun _ => State.getCheck scope targets ids) fun handle s =>
    s.succeed handle (s.getResult scope targets ids))

/-- LOAD_CODE_TABLE: spec 03 R78, 01 R16. -/
def execLoadCodeTable (t : Tick) (h : Hdr) (bank first : Nat) (codes : List Word32) (s : State) :
    Host.Outcome State Fault Refusal :=
  .next ((s.advance t).command 0x0303 h
    (fun s => if 16 ≤ bank then .wrongArg 16 else if codes = [] ∨ 256 < first + codes.length
        ∨ !codes.all State.codeGood then .wrongArg 0xFFFF
      else s.stageCheck s.stages h)
    fun handle s => s.change s.stages h [.codes bank first codes] handle)

/-- LOAD_LISTENING_SETS: spec 03 R71, 01 R16. -/
def execLoadListeningSets (t : Tick) (h : Hdr) (bank first : Nat) (sets : List (BitVec 256)) (s : State) :
    Host.Outcome State Fault Refusal :=
  .next ((s.advance t).command 0x0304 h
    (fun s => if 16 ≤ bank then .wrongArg 16 else if sets = [] ∨ 64 < first + sets.length
        ∨ !sets.all State.setGood then .wrongArg 0xFFFF
      else s.stageCheck s.stages h)
    fun handle s => s.change s.stages h [.sets bank first sets] handle)

/-- LOAD_COEFFICIENTS: spec 07 R172, R173. -/
def execLoadCoefficients (t : Tick) (h : Hdr) (banks : BitVec 16) (image : CoefImage) (s : State) :
    Host.Outcome State Fault Refusal :=
  .next ((s.advance t).command 0x0701 h
    (fun s => if banks = 0 then .wrongArg 16 else if !imageGood image then .wrongArg 0xFFFF
      else if (maskList 16 banks.toNat).any fun b => (s.bank b).swapStaged then .busy 1 else .accepted)
    fun handle s => (s.each (maskList 16 banks.toNat) fun b => State.modBank b fun x =>
      if x.activeB then { x with copyA := imageSet image } else { x with copyB := imageSet image }).succeed handle [])

/-- SWAP_COEFFICIENTS: spec 07 R173; in READY, ARMED, RANGING and CALIBRATING it is staged. -/
def execSwapCoefficients (t : Tick) (h : Hdr) (banks : BitVec 16) (s : State) : Host.Outcome State Fault Refusal :=
  let staging := fun (s : State) => (s.stages || s.dev = .calibrating) && s.spindle.hasTime
  .next ((s.advance t).command 0x0702 h
    (fun s => if banks = 0 then .wrongArg 16
      else if (maskList 16 banks.toNat).any fun b => (s.bank b).swapStaged then .busy 1
      else s.stageCheck (staging s) h)
    fun handle s =>
      let l := maskList 16 banks.toNat
      (s.cond (staging s) fun s => s.each l fun b => State.modBank b fun x => { x with swapStaged := true }).change
        (staging s) h (l.map Change.swap) handle)

/-- RESTORE_CALIBRATION: spec 19 R457, 06 R148. -/
def execRestoreCalibration (t : Tick) (h : Hdr) (s : State) : Host.Outcome State Fault Refusal :=
  .next ((s.advance t).command 0x1303 h (fun s => s.stageCheck s.stages h) fun handle s =>
    match s.restoreError with
    | some d => s.failed handle d
    | none => s.change s.stages h [.restore] handle)

end Sys2Proof.Machine
end

