-- ==== Sys2Proof/Machine/Transitions.lean ====
section
/-! DEFINITION. Device states (spec 15 R347-R351, R360, Table 15-1): what a transition does to shots, captures,
accumulations, housekeeping, bias, staged changes and live commands; FAULT causes (16 R386). -/

namespace Sys2Proof.Machine

namespace State

/-! ## Link states (spec 14 R334, R342, 18 Table 18-8) -/

/-- The link takes a state: the change is logged, leaving ACTIVE starts the 1 ms of R342, and ACTIVE narrower than before
raises its flag (spec 21 R483). -/
def setLink (st : LinkState) (s : State) : State :=
  let old := s.link.state
  if st = old then s.modLink fun l => { l with since := s.now }
  else
    let s1 := s.modLink fun l => { l with state := st, stage := st, since := s.now }
    let s2 := s1.log Src.power 0x0401 [BitVec.ofNat 8 old.code, BitVec.ofNat 8 st.code, BitVec.ofNat 8 s.link.rate,
      BitVec.ofNat 8 s.link.width]
    let s3 := s2.cond (old = .active) fun s => (s.modLink fun l => { l with
      leftAt := some s.now, discarded := false, lastWidth := l.width }).setFlag 12
    s3.cond (st = .active) fun s => (s.cond (s.link.width < s.link.lastWidth) (setFlag 13)).modLink fun l => { l with
      leftAt := none }

/-- Receiver detect starts on all lanes, with the board table that was last written (spec 14 R334, R338).
(DEDUCED, log 93.) -/
def linkDetect (s : State) : State :=
  let next := if s.dev = .boot ∧ s.boot.stage ≤ 2 then s.storedTable else s.link.tableNext
  (s.setLink .detect).modLink fun l => { l with
    width := 0, first := 0, detected := 0, locked := 0, lanes := 0, capMask := 0, caps := [], disagreed := false
    peerRates := 7, test := none
    table := next.getD l.table, tableNext := none, substituted := l.substituted && next.isNone }

/-! ## Live commands that end early (spec 15 R360) -/

/-- An accumulation is dropped with its bins. -/
def dropBob (c k : Nat) (s : State) : State :=
  let clear := fun (y : BobSlot) => { y with
    bins := [], here := 0, own := {}, inProgress := ([] : List (Nat × Option Entry)), spilling := false }
  (s.cond (bobLong (s.bob c k)) fun s => (s.modBob c (1 - k) clear).discard fun r => spillOf c 0 r || spillOf c 1 r).modBob c
    k fun _ => {}

/-- What accumulations still owe a command: a slot that is finishing still gives its output, once (spec 09 R227).
(DEDUCED, log 77.) -/
def dropBobs (h : Nat) (s : State) : State :=
  s.each (s.chans.map fun x => x.1) fun c s => s.each [0, 1] fun k s =>
    let b := s.bob c k
    let s1 := s.cond (b.flushHandle = some h) (modBob c k fun b => { b with flushHandle := none })
    let ends := b.state = .finishing || (b.state = .collecting && s.dev = .ranging)
    if b.handle ≠ h ∨ b.state = .idle then s1
    else if ends then (s1.bobFinish c k true).modBob c k fun b => { b with flushed := true }
    else s1.dropBob c k

/-- An injected conversion of a command ends without a result. (DEDUCED, log 77.) -/
def dropInject (h : Nat) (s : State) : State :=
  if s.hk.conv.any fun c => c.source = 1 && c.handle = h then
    match s.hk.run with
    | some i => (s.modHk fun k => { k with conv := none }).hkSlot i
    | none => s.modHk fun k => { k with conv := none }
  else s

/-- Page writes that a command started and that are not committed go. -/
def dropNv (h : Nat) (s : State) : State :=
  let objs := (s.nvCtl.jobs.filter fun j => j.handle = some h).map fun j => j.object
  s.modNvCtl fun c => { c with jobs := c.jobs.filter fun j => !(j.kind ≤ 1 && j.object ∈ objs) }

/-- Staged changes of a command are discarded. (DEDUCED, log 74.) -/
def dropStaged (h : Nat) (s : State) : State :=
  let mine := s.dist.staged.filter fun x => x.handle = some h
  ((s.each (mine.flatMap fun x => x.changes) dropChange).modSpindle fun p => { p with
    freePending := p.freePending.filter fun c => mine.all fun x => x.free ≠ some c.1 }).modDist fun d => { d with
    staged := d.staged.filter fun x => x.handle ≠ some h, awaitRetire := d.awaitRetire.filter fun x => x ≠ h
    verifying := if d.verifying = some h then none else d.verifying }

/-- What captures, the link and the trust engine still owe a command. -/
def dropOther (h : Nat) (s : State) : State :=
  let s0 := s.cond (s.link.test.any fun x => x.1 = h) linkDetect
  let s1 := s0.each (List.range 16) fun g s =>
    let y := s.group g
    (s.cond (y.read.any fun j => j.handle = h) (modGroup g fun y => { y with read := none })).cond
      (y.closing.any fun c => c.handle = some h) (modGroup g fun y => { y with
        closing := y.closing.map fun c => { c with handle := none } })
  let s2 := s1.modLink fun l =>
    let l := { l with retrain := if l.retrain = some h then none else l.retrain }
    { l with tested := if l.tested.any fun x => x.1 = h then none else l.tested }
  s2.modTrust fun t => { t with
    prep := t.prep.map fun p => { p with handle := if p.handle = some h then none else p.handle }
    unlocking := if t.unlocking.any fun u => u.2 = h then none else t.unlocking }

/-- What a command would still do is given up: it has no effect beyond what it had done (spec 15 R360). (DEDUCED, log 74.) -/
def dropJobs (h : Nat) (s : State) : State :=
  let s1 := (s.modRuns fun l => l.filter fun r => r.handle ≠ h).each (List.range 4) fun i s =>
    s.cond ((s.aux i).gate.any fun g => g.handle = h) (modAux i fun a => { a with gate := none })
  let s2 := s1.each (List.range 8) fun n s =>
    ((s.cond ((s.port n).syncFor.any fun x => x.2 = some h) (withdrawSync n)).cond
      ((s.port n).owed.any fun x => x.2.1 = h) (payAck n)).cond ((s.port n).asked.any fun q => q.handle = h) (busyAck n)
  ((((s2.dropBobs h).dropInject h).dropNv h).dropStaged h).dropOther h

/-- Commands that a transition never ends: DISARM, RANGING STOP, SHUTDOWN and CALIBRATE end by rules of their own. -/
def ownEnd (op : Nat) : Bool := op ∈ [0x0F05, 0x0F07, 0x0F09, 0x1301]

/-- Live commands that the new state no longer allows complete ABORTED (spec 15 R360); `self` is the command that makes
the transition. A calibration waits for an injected conversion (06 R162). -/
def abortLive (self : Option Nat) (s : State) : State :=
  let hit := s.dist.live.filter fun l =>
    !l.completed && !ownEnd l.opcode && some l.handle ≠ self && !(s.dev = .calibrating && l.opcode = 0x0601)
      && (!opAllowed l.opcode s.dev
        || s.dist.staged.any fun x => x.handle = some l.handle && x.changes.any fun c => !changeAllowed c s.dev)
  s.each hit fun l s => (s.dropJobs l.handle).aborted l.handle 1

/-! ## Retirement of every entry (spec 15 Table 15-8: DISARM, RANGING STOP) -/

/-- DISARM and RANGING STOP complete when every Skein entry has retired. -/
def retireDone (s : State) : State :=
  if s.skein.any fun x => x.2.unretired then s
  else (s.modDist fun d => { d with awaitRetire := [] }).each s.dist.awaitRetire fun h s => s.succeed h []

/-! ## Calibration that ends early (spec 19 R445) -/

/-- The calibration in progress ends: marks and the forced unit set go, and values of the kind in progress are lost.
(DEDUCED, log 75.) -/
def calStop (s : State) : State :=
  let s1 := s.each (s.chans.map fun x => x.1) fun c => modChan c fun ch => { ch with
    marks := endMark .calibration s.now ch.marks }
  (s1.withSwapMarks fun s => s.each (List.range 16) fun b s =>
    s.cond (s.bank b).unitForced (modBank b fun x => { x with unitForced := false })).modCal fun c =>
      { c with run := none }

/-! ## Transitions (spec 15 R347) -/

/-- Leaving RANGING (spec 15 R349, 02 R65, 09 R227): every Flyer STOPPED, unfired shots cancelled with `out`, NO DEPTH with
`depth`, collecting accumulations finish. (DEDUCED, log 62.) -/
def leaveRanging (out depth : Nat) (s : State) : State :=
  let s1 := s.each (List.range 16) fun b => modFlyer b fun f => { f with state := .stopped, issued := [] }
  ((s1.cancel (fun _ => true) out).noDepth depth).each (s.chans.map fun x => x.1) fun c s => s.bobsEnd c false

/-- The device enters a state whose rules stop captures (spec 11 R270). -/
def DevState.stopsCaptures (d : DevState) : Bool :=
  d = .safe || d = .calibrating || d = .selfTest || d = .fault || d = .standby

/-- A session ends without a close manifest (spec 17 R412). -/
def endSession (s : State) : State := s.modTrust fun t => { t with session := none, prep := [] }

/-- What entering a state does to the receive path and to a session (spec 05 R125, R137, 06 R165, 11 R270, 17 R412). -/
def enterBlocks (s : State) : State :=
  let s1 := s.cond (DevState.stopsCaptures s.dev) (stopCaptures 3)
  let s2 := s1.cond (s.dev = .safe) fun s => (s.modClock fun k => { k with safeAt := s.now }).each (List.range 256) fun c s =>
    s.cond (s.autoRanging c && !(s.chan c).fe.held) (setRange c (s.pnum Par.initialRange c))
  if s.dev.fromSafe && s.dev ≠ .selfTest then s2.startHk else s2.stopHk.stopBias.endSession

/-- The rank of a transition's cause (spec 15 R348): 1 shutdown, 2 a FAULT cause, 3 Distaff down, 4 an open loop or an
inhibit, 5 the others. -/
def causeRank (cause : Nat) : Nat :=
  if cause = 0x11 then 1 else if cause = 0xE then 2 else if cause = 0x10 then 3 else if cause = 7 then 4 else 5

/-- The transition that a cause of this rank overtakes, one made in the same cycle by a lower one: the state that it left,
and its command (spec 15 R348). Rank 5 is the lowest. (DEDUCED, log 135.) -/
def overtaken (s : State) (rank : Nat) : Option (DevState × Option Nat) :=
  s.clock.trans.bind fun x => if x.1 = s.now ∧ rank < min 5 x.2.1 then some x.2.2 else none

/-- The state to which causes of a rank apply: where one overtakes a transition, the state that this left (spec 15 R348). -/
def devFor (s : State) (rank : Nat) : DevState := ((s.overtaken rank).map fun x => x.1).getD s.dev

/-- The command of an overtaken transition completes ABORTED, whatever completion waits for it (spec 15 R348, R360). -/
def overtakenCommand (h : Nat) (s : State) : State :=
  ((s.dropJobs h).modDist fun d => { d with
    waiting := d.waiting.filter fun r => r.handle ≠ h || r.ack
    live := d.live.map fun l => if l.handle = h then { l with completed := false } else l }).aborted h 1

/-- What a cause of a rank does to a lower one's transition in the same cycle (spec 15 R348). (DEDUCED, log 135.) -/
def overtake (rank : Nat) (s : State) : State :=
  match s.overtaken rank with
  | none => s
  | some (_, h) =>
    let s1 := (s.unsay Src.device 0x10).cond (s.dev = .selfTest) (modBoot fun b => { b with test := none })
    match h with | some h => s1.overtakenCommand h | none => s1

/-- The device takes the state `new` at this instant (spec 15 R347-R351): `cause` is Table 15-1's code, `out` and `depth`
those of shots cancelled and depth lost where the device leaves RANGING. -/
def enter (new : DevState) (cause out depth : Nat) (self : Option Nat) (s : State) : State :=
  let old := s.dev
  let rank := causeRank cause
  let came := s.devFor rank
  let s0 := (s.overtake rank).modClock fun k => { k with trans := some (s.now, rank, came, self) }
  let s1 := (s0.modDev fun _ => new).cond (old = .ranging) (leaveRanging out depth)
  let s2 := (s1.event Src.device 0x10 [(1, came.code), (1, new.code), (1, cause)]).setFlag 0
  let s3 := (s2.cond (new = .fault) (setFlag 1)).enterBlocks
  let s4 := s3.cond (new = .safe || new = .fault || new = .selfTest) settleStaged
  let run := s4.cal.run
  let s5 := s4.cond (old = .calibrating && run.isSome) fun s =>
    match run with
    | some r => s.calStop.aborted r.handle 1
    | none => s
  (s5.abortLive self).updateEmissions

/-! ## Emission stops and FAULT (spec 16 R383, R386, R387) -/

/-- Whorl cancels every committed and passed shot (spec 16 R383, R386, R387), and frames answered with depth range no more
(02 Table 2-5). -/
def whorlStop (s : State) : State := ((s.refuseNow (fun _ => true) 0).cancel (fun _ => true) 0x21).noDepth 2

/-- A cause of the given rank takes the device from the states `here` to `new`. One that overtakes a transition acts on
the state that this left; where the cause has no transition from there, it acts on the state that the overtaken one leads
to, after it (spec 15 R348). (DEDUCED, log 135.) -/
def transit (rank : Nat) (here : List DevState) (new : DevState) (cause out : Nat) (self : Option Nat) (s : State) : State :=
  if s.devFor rank ∈ here then s.enter new cause out 2 self
  else if s.dev ∈ here then (s.modClock fun k => { k with trans := none }).enter new cause out 2 self
  else s

/-- The device goes to READY for an open loop or an inhibit cause that names no other state (Table 15-1, 0x07). -/
def disarmed (s : State) : State := s.transit 4 [.armed, .ranging, .calibrating] .ready 7 0x21 none

/-- A cause of FAULT stands: the latch, or an inhibit cause that Table 16-4 brings to FAULT (spec 16 R386, R389). -/
def faultStands (s : State) : Bool := s.latch.set || s.whorl.faults ≠ 0 || s.whorl.inhibit &&& 0x14C#9 ≠ 0

/-- A FAULT cause arises (spec 16 R386): bit `k` of the causes that persist, where it has one. -/
def faultCause (k : Option Nat) (s : State) : State :=
  let s1 := match k with
    | some k => s.modWhorl fun w => { w with faults := w.faults ||| BitVec.ofNat 6 (2 ^ k) }
    | none => s
  s1.transit 2 [.safe, .ready, .armed, .ranging, .calibrating] .fault 0xE 0x21 none

/-- A FAULT cause no longer persists. -/
def faultGone (k : Nat) (s : State) : State :=
  s.modWhorl fun w => { w with faults := w.faults &&& ~~~ BitVec.ofNat 6 (2 ^ k) }

/-- A FAULT cause persists: CLEAR FAULT fails (spec 15 Table 15-8, 16 R389). -/
def faultPersists (s : State) : Bool := s.whorl.faults ≠ 0 || s.latch.set

/-- CLEAR FAULT (spec 15 Table 15-1, 16 R386): the inhibit causes of FAULT clear with it. -/
def clearFaults (handle : Nat) (s : State) : State :=
  if s.faultPersists then s.failed handle 0x0030
  else
    let s1 := s.each [2, 3, 4, 6, 8] fun i s => s.setInhibit i (i = 4 && s.anySag)
    (s1.enter .safe 0xF 0x26 3 (some handle)).succeed handle []

/-- ARM (spec 15 Table 15-8, 16 R384, R386). -/
def armDevice (handle : Nat) (s : State) : State :=
  if s.whorl.loop ≠ 2 then s.failed handle 0x0020
  else if s.inhibited then s.failed handle 0x0021
  else (s.enter .armed 5 0x26 3 (some handle)).succeed handle []

/-- DISARM and RANGING STOP (spec 15 R349, Table 15-8). (DEDUCED, log 62.) -/
def stopRanging (new : DevState) (cause out : Nat) (handle : Nat) (s : State) : State :=
  ((s.enter new cause out 0 (some handle)).modDist fun d => { d with
    awaitRetire := d.awaitRetire ++ [handle] }).retireDone

/-- ABORT (spec 15 R360, Table 15-8): STATISTICS, MEASURE FREQUENCY, CAPTURE READ and CALIBRATE are abortable. -/
def abortable (op : Nat) : Bool := op = 0x0801 || op = 0x0802 || op = 0x0B04 || op = 0x1301

/-- The checks of ABORT: the handle names a live abortable command. -/
def abortCheck (target : Nat) (s : State) : Ack :=
  match s.liveOf target with
  | some l => if abortable l.opcode then .accepted else .wrongArg 16
  | none => .wrongArg 16

/-- ABORT is carried out; an aborted calibration returns the device to where it came from (spec 19 R445).
(DEDUCED, log 75.) -/
def abortCommand (target handle : Nat) (s : State) : State :=
  let s1 := match s.cal.run with
    | some r => if r.handle = target then (s.calStop.aborted target 2).enter r.came 0xB 0x26 3 (some handle)
        else (s.dropJobs target).aborted target 2
    | none => (s.dropJobs target).aborted target 2
  s1.succeed handle []

end State

/-! ## Meanings -/

/-- GO_READY: spec 15 R347. -/
def execGoReady (t : Tick) (h : Hdr) (s : State) : Host.Outcome State Fault Refusal :=
  .next ((s.advance t).command 0x0F02 h State.noCheck fun handle s =>
    (s.enter .ready 3 0x26 3 (some handle)).succeed handle [])

/-- GO_SAFE: spec 15 R347. -/
def execGoSafe (t : Tick) (h : Hdr) (s : State) : Host.Outcome State Fault Refusal :=
  .next ((s.advance t).command 0x0F03 h State.noCheck fun handle s =>
    (s.enter .safe 4 0x26 3 (some handle)).succeed handle [])

/-- ARM: spec 15 R347, 16 R384, R386. -/
def execArm (t : Tick) (h : Hdr) (s : State) : Host.Outcome State Fault Refusal :=
  .next ((s.advance t).command 0x0F04 h State.noCheck State.armDevice)

/-- DISARM: spec 15 R347, R349. -/
def execDisarm (t : Tick) (h : Hdr) (s : State) : Host.Outcome State Fault Refusal :=
  .next ((s.advance t).command 0x0F05 h State.noCheck (State.stopRanging .ready 6 0x26))

/-- RANGING_STOP: spec 15 R347, R349. -/
def execRangingStop (t : Tick) (h : Hdr) (s : State) : Host.Outcome State Fault Refusal :=
  .next ((s.advance t).command 0x0F07 h State.noCheck (State.stopRanging .armed 9 0x24))

/-- CLEAR_FAULT: spec 15 R347, 16 R386, R389. -/
def execClearFault (t : Tick) (h : Hdr) (s : State) : Host.Outcome State Fault Refusal :=
  .next ((s.advance t).command 0x0F08 h State.noCheck State.clearFaults)

/-- ABORT: spec 15 R360. -/
def execAbort (t : Tick) (h : Hdr) (handle : Nat) (s : State) : Host.Outcome State Fault Refusal :=
  .next ((s.advance t).command 0x0F0A h (State.abortCheck handle) (State.abortCommand handle))

end Sys2Proof.Machine
end

