-- ==== Sys2Proof/Machine/Frames.lean ====
section
/-! DEFINITION. The steps of Spindle (spec 02): strobe edges, acceptance windows, line boundaries, FRAME_ACK pulses, closed
frames, the drift measurement and the epoch. -/

namespace Sys2Proof.Machine

namespace State

/-- A strobe edge is a timing source of statistics runs, stamped to the TDC's resolution (spec 08 Table 8-6).
(DEDUCED, log 38.) -/
def strobeStat (src : Source) (s : State) : State := s.statEvent src (s.tdcInstant s.now)

/-- The acceptance window of the expected edge has closed (spec 02 R43). -/
def windowClosed (s : State) : Bool :=
  let p := s.spindle
  (p.state = .locked || p.state = .holdover || (p.state = .acquiring && p.seeded))
    && decide (s.predicted + s.acceptance ≤ fine s.now)

/-- A line boundary: the present line moves where no strobe edge has moved it yet, and what is staged up to it applies
(spec 01 R16, 02 R36). (DEDUCED, log 113.) -/
def boundary (s : State) : State :=
  if !s.spindle.hasTime then s
  else
    let s1 := s.lineArrives
    s1.cond s1.spindle.hasTime fun s => s.applyDue.payAcks.offerSyncs

/-- The pulse that answers a FRAME_STROBE: 16 ns for depth, 48 ns for none, from 100 ns on; none in free-running mode
(spec 02 R34, R35). -/
def ackPulse (s : State) : State :=
  match s.spindle.ack with
  | none => s
  | some (a, d) =>
    if s.now < a + ns 100 ∨ !s.dev.fromSafe ∨ s.timingMode = 2 then s
    else s.modSpindle fun p => { p with ack := none, ackPulse := some (s.now, if d then 16 else 48) }

/-- A record of the frame has neither left nor been lost (spec 02 R64). -/
def recordsOpen (s : State) (f : Nat) : Bool := s.recs.q1.any fun r => r.frame = some f

/-- A Flyer may still plan shots of the frame. (DEDUCED, log 76.) -/
def flyersOpen (s : State) (f : Nat) : Bool :=
  (List.range 16).any fun b =>
    let y := s.flyer b
    y.issued.any (fun i => i.frame = f)
      || ((y.state = .running || (y.state = .waiting && y.placed)) && (y.frame = f || s.spindle.ended y.frame))

/-- FRAME CLOSED is due for a frame that has ended (spec 02 R64). (DEDUCED, log 76.) -/
def frameDone (s : State) (f : Nat) : Bool :=
  s.spindle.ended f && !s.flyersOpen f
    && !(s.skein.any fun x => x.2.state ≠ .free && x.2.lt.frame = f)
    && !(s.chans.any fun c => c.2.card.inbox.any fun r => !r.histogram && r.lt.frame = f)
    && !s.recordsOpen f

/-- A frame is closed once (spec 02 R64, R65), after the runs of losses that it closes have become loss records (13 R317);
totals of closed frames 4,096 back are given up. -/
def closeFrame (f : Nat) (s : State) : State :=
  let y : FrameTally := Store.read {} s.spindle.frames f
  if y.closed ∨ !s.frameDone f ∨ !s.spindle.numbered then s
  else if s.recs.runs.any fun x => x.frames.contains f then s.modRecs fun r => r.closeRuns fun x => x.frames.contains f
  else
    let s1 := (s.event Src.spindle 0x25 [(4, f), (4, y.planned), (4, y.fired), (4, y.cancelled)]).tally f
      fun y => { y with closed := true }
    s1.modSpindle fun p => { p with frames := p.frames.filter fun x => !x.2.closed || -4096 < serialDiff x.1 p.frame }

/-- The coarse count has wrapped (spec 02 R58). -/
def wrapEpoch (s : State) : State :=
  let e := s.epochAt s.now
  if s.clock.epoch = e then s
  else (s.modClock fun c => { c with epoch := e }).event Src.spindle 0x29 [(1, e.toNat)]

end State

/-! ## Meanings -/

/-- FRAME_STROBE_EDGE: spec 02 R33, R34, R37, R41, R43-R49. -/
def execFrameStrobeEdge (t : Tick) (s : State) : Host.Outcome State Fault Refusal :=
  let s := s.advance t
  .next ((s.strobeStat .frameStrobe).frameEdge s.now)

/-- LINE_STROBE_EDGE: spec 02 R33, R37, R43-R48. -/
def execLineStrobeEdge (t : Tick) (s : State) : Host.Outcome State Fault Refusal :=
  let s := s.advance t
  .next (if s.timingMode = 0 then (s.strobeStat .lineStrobe).trackEdge s.now else s.strobeStat .lineStrobe)

/-- ACCEPTANCE_WINDOW_CLOSE: spec 02 R43, R45, R46, R48. -/
def execAcceptanceWindowClose (t : Tick) (s : State) : Host.Outcome State Fault Refusal :=
  let s := s.advance t
  .next (if s.windowClosed then s.missingEdge else s)

/-- LINE_BOUNDARY: spec 01 R16, 02 R36, R60, 10 R252. -/
def execLineBoundary (t : Tick) (s : State) : Host.Outcome State Fault Refusal := .next (s.advance t).boundary

/-- FRAME_ACK_PULSE: spec 02 R34, R35. -/
def execFrameAckPulse (t : Tick) (s : State) : Host.Outcome State Fault Refusal := .next (s.advance t).ackPulse

/-- FRAME_CLOSED: spec 02 R64, R65. -/
def execFrameClosed (t : Tick) (frame : Nat) (s : State) : Host.Outcome State Fault Refusal :=
  .next ((s.advance t).closeFrame frame)

/-- DRIFT_MEASUREMENT: spec 02 R57, 08 R212. -/
def execDriftMeasurement (t : Tick) (ocxo : Bool) (ratio : Option Nat) (s : State) : Host.Outcome State Fault Refusal :=
  .next ((s.advance t).takeDrift ocxo ratio)

/-- OCXO_READY_FALL: spec 02 R57. -/
def execOcxoReadyFall (t : Tick) (s : State) : Host.Outcome State Fault Refusal :=
  .next (((s.advance t).modSpindle fun p => { p with ocxo := false }).setWarm false)

/-- EPOCH_WRAP: spec 02 R58, R65. -/
def execEpochWrap (t : Tick) (s : State) : Host.Outcome State Fault Refusal := .next (s.advance t).wrapEpoch

end Sys2Proof.Machine
end

