-- ==== Sys2Proof/Machine/Flyers.lean ====
section
/-! DEFINITION. Flyers and commits (spec 03 R69-R84, R89-R92; the port stream rule of 04 R100): microcode, the generator of
code indices, the commit checks and the allocation of Skein entries. -/

namespace Sys2Proof.Machine

/-! ## Words of the Flyer store -/

/-- A field of a shot descriptor (spec 03 Table 3-2). -/
def descField (d : BitVec 128) (lo w : Nat) : Nat := bits d.toNat lo w

/-- A descriptor that a load admits (spec 03 R71). -/
def descGood (d : BitVec 128) : Bool :=
  let w := descField d 70 12
  let m := descField d 51 4
  32 ≤ w && w ≤ 2560 && descField d 41 2 < 2 && m ≤ 8
    && (descField d 41 2 = 0 || descField d 43 8 + 2 ^ m ≤ 256)

/-- An instruction that a load admits (spec 03 R73): a listed opcode with its operand in range. -/
def microGood (w : Word32) : Bool :=
  let v := w.toNat
  match bits v 28 4 with
  | 2 => 1 ≤ bits v 12 12 && bits v 12 12 ≤ 3072
  | 6 => 1 ≤ bits v 0 24
  | op => decide (op < 10)

/-- The constant by which the seed is spread over the banks (spec 03 R80). -/
def seedStep : BitVec 64 := 0x9E3779B97F4A7C15#64

/-- One step of a bank generator (spec 03 R80). -/
def genStep (g : BitVec 64) : BitVec 64 :=
  let a := g ^^^ (g <<< 13)
  let b := a ^^^ (a >>> 7)
  b ^^^ (b <<< 17)

/-- The lowest index that a store's keys, from `n` on, leave out. -/
def firstGap {α : Type} (n : Nat) : Store α → Nat
  | [] => n
  | (k, _) :: r => if k = n then firstGap (n + 1) r else n

namespace State

/-- Sets the generators of all banks from a device seed (spec 03 R80). -/
def setSeed (seed : BitVec 64) (s : State) : State :=
  s.each (List.range 16) fun b => modFlyer b fun f =>
    let g := seed ^^^ (BitVec.ofNat 64 (b + 1) * seedStep)
    { f with gen := if g = 0 then 1 else g }

/-! ## Execution (spec 03 R73-R75) -/

/-- The instruction that Flyer `b` would execute now: none while it does not run or a shot waits for its commit. -/
def flyerWord (s : State) (b : Nat) : Option Nat :=
  let f := s.flyer b
  if f.state = .running ∧ f.issued = [] ∧ f.pc < 2048 then some (Store.read 0 f.code f.pc).toNat else none

/-- A microcode fault: the Flyer is DONE and the fault stands in its bank's status (spec 03 R73). -/
def flyerFault (b : Nat) (s : State) : State :=
  let pc := (s.flyer b).pc
  (s.modFlyer b fun f => { f with state := .done, fault := some pc, issued := [] }).health 0x0170 b [(2, min pc 2047)] []

/-- Execution that has passed address 2,047, with every issued shot dealt with, is a fault (spec 03 R73). -/
def passedEnd (b : Nat) (s : State) : State :=
  let f := s.flyer b
  s.cond (f.state = .running && f.issued = [] && 2048 ≤ f.pc) (flyerFault b)

/-- The instruction's effect on its Flyer, where the word at the program counter is that instruction; then execution goes on
at the next address. -/
def flyerNext (b op : Nat) (w : Nat → Bool) (g : Flyer → Flyer) (s : State) : State :=
  match s.flyerWord b with
  | none => s
  | some v =>
    if bits v 28 4 ≠ op ∨ !w v then s
    else (s.modFlyer b fun f => { g f with pc := f.pc + 1 }).passedEnd b

/-- Line `l` of frame `f`, carried into the frame number at the lines per frame that each frame has (spec 03 R70, 02 R40). -/
def carry (s : State) (f : Nat) (l : Int) : Nat × Nat :=
  let n : Int := max 1 s.spindle.lines
  match s.turns with
  | [] => (s.spindle.frameAfter f (l / n), (l % n).toNat)
  | ts =>
    let k := match s.turnOf f with
      | some x => x.at_ + serialDiff f x.frame * x.lines + l
      | none => (s.spindle.ahead f - 1) * n + l
    match ts.reverse.find? fun x => decide (x.at_ ≤ k) with
    | some x => x.line (k - x.at_).toNat
    | none => (s.spindle.frameAfter s.spindle.nextFrame (k / n), (k % n).toNat)

/-- A shot issued from descriptor `d` at the Flyer's pointer. -/
def shotOf (s : State) (f : Flyer) (d : Nat) : Shot :=
  let x := Store.read 0 f.shots d
  let p := s.carry f.frame ((f.line : Int) + signed 16 (descField x 16 16))
  ⟨x, p.1, p.2⟩

/-- SHOT and BURST: descriptors `d` to `d + n - 1` are issued in order, or the index beyond the table is a fault. -/
def flyerIssue (b op : Nat) (w : Nat → Bool) (d n : Nat) (s : State) : State :=
  match s.flyerWord b with
  | none => s
  | some v =>
    if bits v 28 4 ≠ op ∨ !w v then s
    else if 3072 < d + n then s.flyerFault b
    else (s.modFlyer b fun f => { f with
      pc := f.pc + 1, headAt := s.now, plan := none, issued := (List.range n).map fun i => s.shotOf f (d + i) }).passedEnd b

/-- SETLINE: a line at or beyond the declared lines per frame is a fault. -/
def flyerSetline (b l : Nat) (s : State) : State :=
  match s.flyerWord b with
  | none => s
  | some v =>
    if bits v 28 4 ≠ 4 ∨ bits v 0 16 ≠ l then s
    else if s.spindle.lines ≤ l then s.flyerFault b
    else (s.modFlyer b fun f => { f with pc := f.pc + 1, line := l }).passedEnd b

/-- LOOP: a fifth nested loop is a fault. -/
def flyerLoop (b c : Nat) (s : State) : State :=
  match s.flyerWord b with
  | none => s
  | some v =>
    if bits v 28 4 ≠ 6 ∨ bits v 0 24 ≠ c then s
    else if 4 ≤ (s.flyer b).loops.length then s.flyerFault b
    else (s.modFlyer b fun f => { f with pc := f.pc + 1, loops := (f.pc + 1, c) :: f.loops }).passedEnd b

/-- ENDLOOP: with no open loop it is a fault. -/
def flyerEndloop (b : Nat) (s : State) : State :=
  match s.flyerWord b with
  | none => s
  | some v =>
    if bits v 28 4 ≠ 7 then s
    else match (s.flyer b).loops with
      | [] => s.flyerFault b
      | (a, k) :: rest =>
        if 1 < k then s.modFlyer b fun f => { f with pc := a, loops := (a, k - 1) :: rest }
        else (s.modFlyer b fun f => { f with pc := f.pc + 1, loops := rest }).passedEnd b

/-- A Flyer whose pointer's line 0 has come within the horizon of R51 runs (spec 03 R75). -/
def flyerRun (b : Nat) (s : State) : State :=
  let f := s.flyer b
  if f.state = .waiting ∧ f.placed ∧ s.spindle.hasTime ∧ s.plannedInstant ⟨f.frame, f.line, 0⟩ ≤ s.now + ns 8192 then
    s.modFlyer b fun f => { f with state := .running }
  else s

/-! ## Commit checks (spec 03 R77-R83, R89; 04 R100, R112, R117; 16 R376) -/

/-- Check 2: the element exists and is enabled. -/
def elementOn (s : State) (cal : Bool) (e : Nat) : Bool :=
  let n := elemPort e
  let b := elemBoard e
  let y := s.view n b
  let d := s.boardDesc n b
  b < (s.port n).chain && y.verified && nth false d.present (elemIndex e)
    && (cal || (Store.read none s.cal.tables.latency e).isSome)
    && (s.pnum Par.wavelengthMask n).testBit (nth 0 d.wavelength (elemIndex e))
    && s.limitsLoaded e && !y.stopped

/-- Check 4: the scanner-phase gate of a descriptor for a shot planned at `x` (spec 03 R77). -/
def scannerGood (s : State) (d : BitVec 128) (e : Nat) (x : Tick) : Bool :=
  let n := elemPort e
  let ph := s.scannerPhase n x
  let lo := descField d 84 16
  let hi := 16 * descField d 100 12 + 15
  descField d 83 1 = 0 || ((s.scanner n).state = 2
    && (if lo ≤ hi then decide (lo ≤ ph ∧ ph ≤ hi) else decide (lo ≤ ph ∨ ph ≤ hi)))

/-- The repetition rule (spec 03 R89): 500 ns from every unretired or completed shot of the element still in the ledger. -/
def spaced (s : State) (e : Nat) (x : Tick) : Bool :=
  s.skein.all fun y => y.2.element ≠ e || !(y.2.unretired || (y.2.state = .retired && y.2.outcome = 0))
    || (ns 500 ≤ x - y.2.planned || ns 500 ≤ y.2.planned - x)

/-- The port stream rule for a fire symbol at instant `x` (spec 04 R100). -/
def streamGood (s : State) (n : Nat) (x : Tick) : Bool :=
  let l := (s.port n).reserved
  let k := s.periodOf x
  let a := s.periodStart k
  (l.all fun r => ns 6 ≤ x - r.1 || ns 6 ≤ r.1 - x)
    && (s.kaPlaced n k || (firstOpening ((x, .fire 0) :: l) a (a + kaPeriod) a).isSome)

/-- A slot is free on channel `c` for the window from `a` to `z` (spec 03 R83): at no instant do 33 windows overlap. -/
def slotFree (s : State) (c : Nat) (a z : Tick) : Bool :=
  let l := (s.skein.filter fun y => y.2.unretired && y.2.windows.contains c).map fun y =>
    (y.2.planned, y.2.planned + ns (8 * y.2.window))
  (a :: (l.map fun w => w.1).filter fun x => a ≤ x && x < z).all fun x =>
    decide ((l.filter fun w => w.1 ≤ x && x < w.2).length < 32)

/-- Code indices of the element's unretired shots (spec 03 R81). (DEDUCED, log 84.) -/
def usedCodes (s : State) (e : Nat) : List Nat :=
  (s.skein.filter fun y => y.2.unretired && y.2.element = e).map fun y => y.2.codeIdx

/-- How far hopping shifts the indices that bank `b` draws (spec 10 R251): (j mod J) strides where it is on. -/
def hopShift (s : State) (b : Nat) : Nat :=
  if s.popt Par.hopping b = 1 then s.hop % 2 ^ s.popt Par.hopSets b * s.pnum Par.hopStride b else 0

/-- Up to `n` draws from a range of 2^m entries, each shifted by `shift` (spec 03 R80, R81, 10 R251): the generator, the
index, and whether it repeats one in use. (DEDUCED, log 84.) -/
def drawCode (base m shift : Nat) (used : List Nat) : Nat → BitVec 64 → BitVec 64 × Nat × Bool
  | 0, g => (g, base, true)
  | n + 1, g =>
    let g' := genStep g
    let i := ((if m = 0 then base else base + (g' >>> (64 - m)).toNat) + shift) % 256
    if m = 0 then (g', i, false)
    else if !used.contains i then (g', i, false)
    else if n = 0 then (g', i, true)
    else drawCode base m shift used n g'

/-- The channels of a shot's windows: its listening set and, where it is enabled, its reference channel (spec 03 R72).
(DEDUCED, log 53.) -/
def windowsOf (set : BitVec 256) (refOn : Bool) (refCh : Nat) : List Nat :=
  let l := maskList 256 set.toNat
  if refOn ∧ refCh ∉ l then l ++ [refCh] else l

/-- A skip is counted and reported; the shot takes nothing (spec 03 R82, R91, R92). (DEDUCED, log 81.) -/
def skip (e : Entry) (out : Nat) (s : State) : State := s.account none { e with outcome := out }

/-- A shot takes the lowest free Skein entry and its symbol is reserved on its port (spec 03 R82-R86, 04 R100). -/
def takeEntry (e : Entry) (s : State) : State :=
  let i := firstGap 0 s.skein
  ((s.modEntry i fun _ => { e with state := .committed, order := s.order }).modOrder (· + 1)).modPort (elemPort e.element)
    fun p => { p with reserved := p.reserved ++ [(e.symbolAt, .fire i)] }

/-- Checks 7 and 8 (spec 03 Table 3-5). -/
def roomFor (s : State) (e : Entry) : Option Nat :=
  if 8192 ≤ firstGap 0 s.skein then some 0x11
  else if e.windows.all fun c => s.slotFree c e.planned (e.planned + ns (8 * e.window)) then none else some 0x12

/-- The entry that a Flyer's next shot would take, before its code is known; its planned instant is the one of step 1 (spec
03 R74). -/
def entryOf (s : State) (b : Nat) (x : Shot) : Entry :=
  let d := x.desc
  let el := descField d 32 9
  let lt : LineTime := ⟨x.frame, x.line, descField d 0 16⟩
  let p := (s.planOf b).getD (s.plannedInstant lt, decide (s.spindle.state = .holdover))
  let at_ := p.1
  let refOn := decide (descField d 69 1 = 1)
  let refCh := descField d 61 8
  { planned := at_, epoch := s.epochAt at_, lt := lt, element := el, bank := b, codeIdx := descField d 43 8
    window := descField d 70 12, refCh := refCh, refOn := refOn, refDecl := refOn && s.declared refCh
    windows := windowsOf (Store.read 0 (s.flyer b).sets (descField d 55 6)) refOn refCh
    holdover := p.2, freeRun := decide (s.spindle.state = .freeRunning)
    accumulate := decide (descField d 82 1 = 1)
    symbolAt := at_ - 16 * (Store.read none s.cal.tables.latency el).getD 0 }

/-- Checks 1 to 5 of a Flyer's shot that became ready at `x`; the flag says that the port stream rule failed (spec 03
Table 3-5, R84, 04 R100). -/
def firstChecks (s : State) (e : Entry) (d : BitVec 128) (x : Tick) : Option (Nat × Bool) :=
  if (s.port (elemPort e.element)).state ≠ .admitted then some (0x15, false)
  else if !s.elementOn false e.element then some (0x16, false)
  else if e.planned < x + us 1 then some (0x10, false)
  else if !s.scannerGood d e.element e.planned then some (0x14, false)
  else if !s.spaced e.element e.planned then some (0x13, false)
  else if !s.streamGood (elemPort e.element) e.symbolAt then some (0x13, true)
  else none

/-- Checks 6 to 8 and the commit, with the code drawn (spec 03 R79-R83). -/
def codeAndCommit (e : Entry) (d : BitVec 128) (s : State) : State :=
  let b := e.bank
  let base := descField d 43 8
  let r := if descField d 41 2 = 0 then ((s.flyer b).gen, base, false)
    else drawCode base (descField d 51 4) (s.hopShift b) (s.usedCodes e.element) 4 (s.flyer b).gen
  let s1 := s.modFlyer b fun f => { f with gen := r.1 }
  let code := (Store.read 0 (s.flyer b).codes r.2.1).setWidth 20
  let e := { e with codeIdx := r.2.1, code := code, codeRepeat := r.2.2 }
  if !codeValid code then s1.skip e 0x17
  else match s1.roomFor e with
    | some out => s1.skip e out
    | none => ((s1.takeEntry e).countFlyer b 1).modFlyer b fun f => { f with committedAt := some s.now }

/-! ## Arbitration (spec 03 R84) -/

/-- When the next shot of Flyer `b` is ready to commit: at its commit time, with the shots before it dealt with, and 4 ns
after the Flyer's last commit (spec 03 R74). -/
def readyAt (s : State) (b : Nat) : Option Tick :=
  let f := s.flyer b
  if f.state ≠ .running ∨ !s.spindle.hasTime then none
  else (s.planOf b).map fun x => max (max f.headAt (x.1 - ns (8 * s.pnum Par.commitLead b)))
    ((f.committedAt.map fun c => c + ns 4).getD 0)

/-- The banks in the order of the rotation. -/
def rotation (a : Arbiter) : List Nat := (List.range 16).map fun k => (a.turn + k) % 16

/-- The arbitration of the present core clock cycle: in a new one the rotation goes on after the last bank that it reached
(spec 03 R84; DESIGN CHOICE, log 82). -/
def arbNow (s : State) : Arbiter :=
  let c := s.devTime s.now / ns 1
  if c = s.arb.cycle then s.arb
  else match ((rotation s.arb).filter fun b => s.arb.served.contains b).getLast? with
    | some b => ⟨(b + 1) % 16, c, []⟩
    | none => ⟨s.arb.turn, c, []⟩

/-- Flyer `b` is the next to commit: of the ready Flyers that the rotation still reaches in this cycle, two in all, the lower
bank goes first (spec 03 R84). -/
def mayCommit (s : State) (b : Nat) : Bool :=
  let a := s.arbNow
  let l := ((rotation a).filter fun k => !a.served.contains k && (s.readyAt k).any fun x => decide (x ≤ s.now)).take
    (2 - a.served.length)
  l.contains b && l.all fun k => decide (b ≤ k)

/-- The shot that Flyer `b` waits to commit, when its turn comes (spec 03 R74, R82, R84). A wait of up to 8 ns for the
turn makes no shot late. (DEDUCED, log 81, log 82.) -/
def commitShot (b : Nat) (s : State) : State :=
  match (s.flyer b).issued, s.readyAt b with
  | x :: rest, some ready =>
    if !s.mayCommit b then s
    else
      let e := s.entryOf b x
      let a := s.arbNow
      let s0 := s.modArb fun _ => { a with served := a.served ++ [b] }
      let s1 := ((s0.modFlyer b fun f => { f with issued := rest, headAt := s.now, plan := none }).countFlyer b 0).tally e.lt.frame
        fun y => { y with planned := y.planned + 1 }
      let s2 := match s1.firstChecks e x.desc (max ready (s.now - ns 8)) with
        | some (out, stream) => (s1.cond stream (count Kind.streamSkip (elemPort e.element) 1)).skip e out
        | none => s1.codeAndCommit e x.desc
      s2.passedEnd b
  | _, _ => s

/-! ## Ranging start and loads -/

/-- RANGING START (spec 03 R75): the named Flyers start at the frame, or wait to be placed. (DEDUCED, log 83.) -/
def startRanging (frame mask handle : Nat) (s : State) : State :=
  let s1 := s.enter .ranging 8 0x26 3 (some handle)
  (s1.each (maskList 16 mask) fun b s =>
    let s1 := s.modFlyer b fun f => { f with fault := none }
    if s1.spindle.hasTime then s1.placeFlyer b (some frame)
    else s1.modFlyer b fun f => { f with
      state := .waiting, pc := 0, loops := [], issued := [], frame := frame, line := 0, placed := false }).succeed handle []

/-- The checks of a load of the shot table or the microcode (spec 03 R71, R73, R76). -/
def loadCheck (b : Nat) (good : Bool) (s : State) : Ack :=
  if 16 ≤ b then .wrongArg 16
  else if (s.flyer b).state ≠ .stopped ∧ (s.flyer b).state ≠ .done then .wrongState (Src.flyer b)
  else if !good then .wrongArg 0xFFFF else .accepted

end State

/-! ## Meanings -/

/-- FLYER_RUN: spec 03 R75. -/
def execFlyerRun (t : Tick) (bank : Nat) (s : State) : Host.Outcome State Fault Refusal :=
  .next ((s.advance t).flyerRun bank)

/-- STOP: spec 03 R73. -/
def execFlyerStop (t : Tick) (bank : Nat) (s : State) : Host.Outcome State Fault Refusal :=
  let s := s.advance t
  .next (if (s.flyerWord bank).any fun v => bits v 28 4 = 0 then s.modFlyer bank fun f => { f with state := .done } else s)

/-- SHOT: spec 03 R73, R74. -/
def execFlyerShot (t : Tick) (bank : Nat) (d : BitVec 12) (s : State) : Host.Outcome State Fault Refusal :=
  .next ((s.advance t).flyerIssue bank 1 (fun v => bits v 0 12 = d.toNat) d.toNat 1)

/-- BURST: spec 03 R73, R74. -/
def execFlyerBurst (t : Tick) (bank : Nat) (d n : BitVec 12) (s : State) : Host.Outcome State Fault Refusal :=
  .next ((s.advance t).flyerIssue bank 2 (fun v => bits v 0 12 = d.toNat && bits v 12 12 = n.toNat) d.toNat n.toNat)

/-- NEXTLINE: spec 03 R73. -/
def execFlyerNextline (t : Tick) (bank : Nat) (n : BitVec 16) (s : State) : Host.Outcome State Fault Refusal :=
  let s := s.advance t
  let p := s.carry (s.flyer bank).frame ((s.flyer bank).line + n.toNat : Nat)
  .next (s.flyerNext bank 3 (fun v => bits v 0 16 = n.toNat) fun f => { f with frame := p.1, line := p.2 })

/-- SETLINE: spec 03 R73. -/
def execFlyerSetline (t : Tick) (bank : Nat) (l : BitVec 16) (s : State) : Host.Outcome State Fault Refusal :=
  .next ((s.advance t).flyerSetline bank l.toNat)

/-- WAITFRAME: spec 03 R73. -/
def execFlyerWaitframe (t : Tick) (bank : Nat) (s : State) : Host.Outcome State Fault Refusal :=
  .next ((s.advance t).flyerNext bank 5 (fun _ => true) fun f =>
    if f.line = 0 then f else { f with frame := s.spindle.frameAfter f.frame 1, line := 0 })

/-- LOOP: spec 03 R73. -/
def execFlyerLoop (t : Tick) (bank : Nat) (c : BitVec 24) (s : State) : Host.Outcome State Fault Refusal :=
  .next ((s.advance t).flyerLoop bank c.toNat)

/-- ENDLOOP: spec 03 R73. -/
def execFlyerEndloop (t : Tick) (bank : Nat) (s : State) : Host.Outcome State Fault Refusal :=
  .next ((s.advance t).flyerEndloop bank)

/-- JUMP: spec 03 R73. -/
def execFlyerJump (t : Tick) (bank : Nat) (a : BitVec 11) (s : State) : Host.Outcome State Fault Refusal :=
  let s := s.advance t
  .next (if (s.flyerWord bank).any fun v => bits v 28 4 = 8 && bits v 0 11 = a.toNat then
    s.modFlyer bank fun f => { f with pc := a.toNat } else s)

/-- NOP: spec 03 R73. -/
def execFlyerNop (t : Tick) (bank : Nat) (s : State) : Host.Outcome State Fault Refusal :=
  .next ((s.advance t).flyerNext bank 9 (fun _ => true) fun f => f)

/-- COMMIT: spec 03 R74, R79-R92, 04 R100, R105: a reservation of a sync goes first. (DEDUCED, log 82.) -/
def execCommit (t : Tick) (bank : Nat) (s : State) : Host.Outcome State Fault Refusal :=
  .next ((s.advance t).offerSyncs.commitShot bank)

/-- LOAD_SHOT_TABLE: spec 03 R70, R71, R76. -/
def execLoadShotTable (t : Tick) (h : Hdr) (bank first : Nat) (descriptors : List (BitVec 128)) (s : State) :
    Host.Outcome State Fault Refusal :=
  let good := descriptors ≠ [] && first + descriptors.length ≤ 3072 && descriptors.all descGood
  .next ((s.advance t).command 0x0301 h (State.loadCheck bank good) fun handle s =>
    (s.modFlyer bank fun f => { f with shots := State.putWords 0 first descriptors f.shots }).succeed handle [])

/-- LOAD_MICROCODE: spec 03 R73, R76. -/
def execLoadMicrocode (t : Tick) (h : Hdr) (bank first : Nat) (words : List Word32) (s : State) :
    Host.Outcome State Fault Refusal :=
  let good := words ≠ [] && first + words.length ≤ 2048 && words.all microGood
  .next ((s.advance t).command 0x0302 h (State.loadCheck bank good) fun handle s =>
    (s.modFlyer bank fun f => { f with code := State.putWords 0 first words f.code }).succeed handle [])

/-- LOAD_SEED: spec 03 R80. -/
def execLoadSeed (t : Tick) (h : Hdr) (seed : BitVec 64) (s : State) : Host.Outcome State Fault Refusal :=
  .next ((s.advance t).command 0x0305 h State.noCheck fun handle s => (s.setSeed seed).succeed handle [])

/-- RANGING_START: spec 03 R75, 15 R347. -/
def execRangingStart (t : Tick) (h : Hdr) (frame : Nat) (mask : BitVec 16) (s : State) :
    Host.Outcome State Fault Refusal :=
  .next ((s.advance t).command 0x0F06 h State.noCheck (State.startRanging (frame % 2 ^ 32) mask.toNat))

end Sys2Proof.Machine
end

