-- ==== Sys2Proof/Machine/Calibration.lean ====
section
/-! DEFINITION. Calibration (spec 19): the CALIBRATE command, kinds 1 to 4 by their measured results, calibration shots and
passes of kind 5, agreement, application and completion. -/

namespace Sys2Proof.Machine

/-! ## Values and agreement (spec 19 Tables 19-1, 19-3, 19-4) -/

/-- The kind that measures a value. -/
def calKind : CalKey → Nat
  | .interOffset _ _ => 1 | .interGain _ _ => 1 | .interSkew _ _ => 1
  | .gainRatio _ _ => 2 | .floor _ _ => 2 | .ratio _ _ => 2
  | .timing _ => 3 | .analogue _ => 3 | .walk _ _ _ => 3
  | .width _ _ => 4 | .groupDelay _ _ => 4

/-- The channels that a value belongs to. -/
def calChans : CalKey → List Nat
  | .interOffset c _ => [c] | .interGain c _ => [c] | .interSkew c _ => [c]
  | .gainRatio c _ => [c] | .floor c _ => [c] | .ratio c _ => [c]
  | .timing c => [c] | .analogue c => [c] | .groupDelay _ c => [c]
  | .walk b _ _ => (List.range 16).map (16 * b + ·)
  | .width b _ => (List.range 16).map (16 * b + ·)

/-- The limit on a value's spread over `n` results of sum `sum`, as a fraction (spec 19 Table 19-4). -/
def calLimit (k : CalKey) (sum : Int) (n : Nat) : Int × Nat :=
  match k with
  | .interOffset _ _ => (2, 1) | .interGain _ _ => (4, 1) | .interSkew _ _ => (2, 1)
  | .gainRatio _ _ => (10, 1) | .floor _ _ => (sum, 20 * n) | .ratio _ _ => (6, 1)
  | .timing _ => (24, 1) | .analogue _ => (2, 1) | .walk _ _ _ => (3, 1)
  | .groupDelay _ _ => (4, 1) | .width _ _ => (4, 1)

/-- Maximum less minimum. -/
def spread (l : List Int) : Int :=
  match l with
  | [] => 0
  | x :: r => r.foldl max x - r.foldl min x

/-- The quality figure of a spread against a limit a / b (spec 19 R452): 0 where it fails. `open_` stands where the limit
is 0 and the quotient has no value (DESIGN CHOICE, log 28). -/
def quality (open_ : Nat) (a : Int) (b : Nat) (spread : Int) : Nat :=
  if a < spread * b then 0
  else if a = 0 then 1 + open_ % 255
  else (1 + 254 * (a - spread * b) / a).toNat

/-- cos of an angle in 0.01 degree, in 2^-48, by its power series (spec 19 gives the cosine exactly; DESIGN CHOICE, log
29). -/
def cosine (a : Int) : Int :=
  let x : Int := a * 884279719003555 / 18000
  let x2 := x * x / 2 ^ 48
  ((List.range 16).foldl (fun (acc : Int × Int) k =>
    (acc.1 + acc.2, -(acc.2 * x2 / 2 ^ 48) / ((2 * k + 1) * (2 * k + 2) : Nat))) (0, 2 ^ 48)).1

namespace State

/-! ## The run -/

/-- Changes the calibration in progress. -/
def modRun (g : CalRun → CalRun) (s : State) : State := s.modCal fun c => { c with run := c.run.map g }

/-- Changes kind 5 on a port. -/
def modCalPort (n : Nat) (g : CalPort → CalPort) (s : State) : State :=
  s.modRun fun r => { r with ports := Store.modify {} r.ports n g }

/-- Kind 5 on a port. -/
def calPort (s : State) (n : Nat) : CalPort := (s.cal.run.map fun r => Store.read {} r.ports n).getD {}

/-- The arguments of the calibration in progress name a channel. -/
def calNames (a : CalArgs) (c : Nat) : Bool := a.kinds.toNat % 16 ≠ 0 && a.channels.getLsbD c

/-- The elements of a port that kind 5 runs, in order. -/
def calElements (a : CalArgs) (n : Nat) : List Nat :=
  ((List.range 64).map (64 * n + ·)).filter fun e => a.elements.getLsbD e

/-- The first descriptor that names an element, in order of bank and index (spec 19 R450). -/
def calDesc (s : State) (e : Nat) : Option (Nat × BitVec 128) :=
  (List.range 16).findSome? fun b =>
    ((s.flyer b).shots.find? fun x => descField x.2 32 9 = e).map fun x => (b, x.2)

/-- A quality figure joins the lowest one of its key. -/
def noteQuality (k q : Nat) (s : State) : State :=
  s.modRun fun r => { r with quality := Store.modify 0 r.quality k fun v => if v = 0 then q + 1 else min v (q + 1) }

/-- A failure of a whole bank or element: the first one's detail is the completion's. -/
def calDetail (d : Nat) (s : State) : State := s.modRun fun r => { r with detail := if r.detail = 0 then d else r.detail }

/-- The not-warm flag (spec 19 R451). -/
def calWarm (s : State) : State := s.cond (!s.spindle.warm) (modRun fun r => { r with notWarm := true })

/-! ## Kinds -/

/-- The next requested kind after `k`. -/
def nextKind (a : CalArgs) (k : Nat) : Option Nat :=
  [1, 2, 3, 4, 5].find? fun j => k < j && a.kinds.getLsbD (j - 1)

/-- The latency with which the estimating pass starts (spec 19 R451): L + 0.25 ns x delay bin + d, in LSB. -/
def firstLatency (s : State) (e : Nat) : Nat :=
  let d := s.elemDesc e
  ((64 * (d.latency + nth 0 d.delayBin (elemIndex e)) : Nat) + s.boardDelay (elemPort e) (elemBoard e)).toNat

/-- Kind 5 on a port goes to the first of the elements `l`, or has finished. -/
def calElement (n : Nat) (l : List Nat) (s : State) : State :=
  s.modCalPort n fun _ => match l with
    | [] => {}
    | e :: _ => { element := e, latency := s.firstLatency e, finished := false }

/-- Distaff may inject a conversion of an input for the calibration, where none is pending; whether it does, and of which
input, is open (spec 06 R160; DESIGN CHOICE, log 159). -/
def calInject (s : State) : State :=
  let (v, s1) := s.draw 49
  s1.cond (v < 48 && !s.hk.conv.any fun c => c.source ≠ 0) (injectNow v 2 0)

/-- A kind starts (spec 19 R444, R446, R448, R450). -/
def startKind (k : Nat) (s : State) : State :=
  match s.cal.run with
  | none => s
  | some r =>
    let s1 := s.modRun fun r => { r with kind := k, reduced4 := s.reduced }
    if k = 5 then s1.each (List.range 8) fun n s => calElement n (calElements r.args n) s
    else
      let l := maskList 256 r.args.channels.toNat
      let s2 := s1.calInject.each l fun c => markChan c .calibration 1 none
      s2.cond (k = 3) (withSwapMarks fun s => s.each (l.map (· / 16)).dedup fun b => modBank b fun x => { x with
        unitForced := true })

/-- The first kind starts, once no injected conversion is pending (spec 19 R444, 06 R162). -/
def calAwake (s : State) : State :=
  match s.cal.run with
  | none => s
  | some r =>
    if r.kind ≠ 0 ∨ s.hk.conv.any (fun c => c.source ≠ 0) then s
    else
      let wait := ((s.liveOf r.handle).map fun l => (quotOpen (s.now - l.at_ : Nat) 4096).toNat).getD 0
      match nextKind r.args 0 with
      | some k => (s.modRun fun r => { r with wait := wait }).startKind k
      | none => s

/-- CALIBRATE is carried out (spec 19 R444). -/
def startCal (a : CalArgs) (handle : Nat) (s : State) : State :=
  let run : CalRun :=
    { args := a, handle := handle, came := s.dev, kind := 0, wait := 0, passed := 0, applied := 0, notWarm := false
      failedCh := 0, failedEl := 0, detail := 0, ports := [], quality := [], delays := [], latency := [], path := [] }
  ((s.modCal fun c => { c with run := some run }).enter .calibrating 0xA 0x26 3 (some handle)).calAwake

/-- Marks of an application of interleave values (spec 19 R453, 06 R148). -/
def withInterMarks (f : State → State) (s : State) : State :=
  let s1 := f s
  s1.each (List.range 256) fun c t =>
    t.cond ((s.chan c).fe.inter ≠ (s1.chan c).fe.inter) (markChan c .interleave 1 (some (s.now + 16 * sample)))

/-- A value as its table entry holds it: one beyond the entry's width takes the nearest value that the width has (spec 06
Table 6-2, 19 Table 19-6; DESIGN CHOICE, log 123). -/
def calHeld (k : CalKey) (v : Int) : Int :=
  match k with
  | .interOffset _ _ => clampInt (-128) 127 v | .interGain _ _ => clampInt (-512) 511 v
  | .interSkew _ _ => clampInt (-128) 127 v
  | .gainRatio _ _ => clampInt 2048 8191 v | .floor _ _ => clampInt 0 65535 v | .ratio _ _ => clampInt 0 255 v
  | .timing _ => clampInt (-32768) 32767 v | .analogue _ => clampInt (-32768) 32767 v
  | .walk _ _ _ => clampInt (-32768) 32767 v | .width _ _ => clampInt 0 4095 v | .groupDelay _ _ => v

/-- A passing interleave value comes into force on its channel; values that no application writes stay as tracking has
moved them (spec 19 R453, 06 R147). -/
def forceInter (k : CalKey) (v : Int) (s : State) : State :=
  let put := fun (c i : Nat) (g : Int × Int × Int → Int × Int × Int) =>
    s.setInter c (Store.modify (0, 0, 0) (s.chan c).fe.inter i g)
  match k with
  | .interOffset c i => put c i fun x => (v, x.2)
  | .interGain c i => put c i fun x => (x.1, v, x.2.2)
  | .interSkew c i => put c i fun x => (x.1, x.2.1, v)
  | _ => s

/-- Writes a passing value into the tables (spec 19 R453). -/
def putCal (k : CalKey) (v : Int) (t : CalTables) : CalTables :=
  let inter := fun (c i : Nat) (g : Int × Int × Int → Int × Int × Int) =>
    { t with inter := Store.modify none t.inter (8 * c + i) fun x => some (g (x.getD (0, 0, 0))) }
  match k with
  | .interOffset c i => inter c i fun x => (v, x.2)
  | .interGain c i => inter c i fun x => (x.1, v, x.2.2)
  | .interSkew c i => inter c i fun x => (x.1, x.2.1, v)
  | .gainRatio c r => { t with gain := Store.write none t.gain (4 * c + r) (some v.toNat) }
  | .floor c r => { t with floors := Store.write none t.floors (4 * c + r) (some v.toNat) }
  | .ratio c r => { t with ratios := Store.write none t.ratios (4 * c + r) (some v.toNat) }
  | .timing c => { t with timing := Store.write none t.timing c (some v) }
  | .analogue c => { t with analogue := Store.write none t.analogue c (some v) }
  | .walk b r i => { t with walk := Store.write 0 t.walk ((4 * b + r) * 64 + i) v }
  | .width b i => { t with widths := Store.write none t.widths (16 * b + i) (some v.toNat) }
  | .groupDelay _ _ => t

/-- One value's results (spec 19 R452, R453); the flag collects whether every value of the kind has passed. -/
def calValue (a : CalArgs) (open_ : Nat) (m : CalMeasure) (x : Bool × State) : Bool × State :=
  let n := max 1 m.results.length
  let lim := calLimit m.key m.results.sum n
  let q := quality open_ lim.1 lim.2 (spread m.results)
  let cs := (calChans m.key).filter fun c => a.channels.getLsbD c
  let s1 := x.2.each cs fun c => noteQuality c q
  if q = 0 then (false, s1.modRun fun r => { r with failedCh := r.failedCh ||| BitVec.ofNat 256 (maskOf cs) })
  else
    let v := calHeld m.key (quotOpen m.results.sum n)
    (x.1, s1.cond a.apply fun s => (s.modCal fun k => { k with tables := putCal m.key v k.tables }).forceInter m.key v)

/-- The measured group delay of a bank (spec 19 R449, 07 R176). -/
def calDelay (b : Nat) (ms : List CalMeasure) (s : State) : State :=
  let means := ms.filterMap fun m => match m.key with
    | .groupDelay b' _ => if b' = b then some (quotOpen m.results.sum (max 1 m.results.length)) else none
    | _ => none
  if means = [] then s
  else
    let set := (s.bank b).active
    let mean := (quotOpen means.sum means.length).toNat
    let big := (means.map fun (m : Int) => m - (set.delay : Int)).foldl (fun (x y : Int) => if x.natAbs < y.natAbs then y else x) 0
    let bad := decide (16 < big.natAbs)
    let s1 := (s.modBank b fun x => { x with measured := mean, mismatch := bad }).modRun fun r => { r with
      delays := Store.write (0, 0) r.delays b (mean, big) }
    s1.cond bad (health 0x0130 b [(4, set.tag), (4, twos 4 big)] [])

/-- The result of CALIBRATE (spec 19 Table 19-5). -/
def calResult (r : CalRun) : List Byte :=
  let q := fun (k : Nat) => BitVec.ofNat 8 (Store.read 0 r.quality k - 1)
  le 4 (min r.wait (2 ^ 32 - 1)) ++ [r.args.kinds.setWidth 8, r.passed.setWidth 8, r.applied.setWidth 8,
      BitVec.ofNat 8 (flagBit 0 r.notWarm + flagBit 1 (!r.args.apply))]
    ++ le 32 r.failedCh.toNat ++ le 64 r.failedEl.toNat
    ++ (List.range 16).flatMap (fun b =>
      let d := Store.read (0, 0) r.delays b
      le 4 (d.1 % 2 ^ 20) ++ le 2 (twos 2 d.2) ++ [0, 0])
    ++ (List.range 256).map q ++ (List.range 512).map fun e => q (256 + e)

/-- The calibration has ended: the device returns to where it came from and the command completes (spec 19 R444, R455). -/
def calFinish (r : CalRun) (s : State) : State :=
  let s1 := (s.modCal fun c => { c with run := none }).enter r.came 0xB 0x26 3 (some r.handle)
  if r.passed = r.args.kinds then s1.succeed r.handle (calResult r)
  else s1.completeWith r.handle 1 (if r.detail = 0 then 0x0060 else r.detail) 0 none (calResult r)

/-- A kind has ended with its values passed or not; the next one starts, or the calibration ends. -/
def endKind (ok : Bool) (s : State) : State :=
  match s.cal.run with
  | none => s
  | some r =>
    let bit : BitVec 5 := BitVec.ofNat 5 (2 ^ (r.kind - 1))
    let s1 := s.modRun fun r => { r with
      passed := if ok then r.passed ||| bit else r.passed
      applied := if r.args.apply then r.applied ||| bit else r.applied }
    let s2 := s1.cond (r.kind = 3) (withSwapMarks fun s => s.each (List.range 16) fun b s =>
      s.cond (s.bank b).unitForced (modBank b fun x => { x with unitForced := false }))
    let next := nextKind r.args r.kind
    let s3 := s2.cond (next.all fun k => decide (4 < k)) fun s => s.each (maskList 256 r.args.channels.toNat) fun c =>
      modChan c fun ch => { ch with marks := endMark .calibration s.now ch.marks }
    match next, s3.cal.run with
    | some k, _ => s3.startKind k
    | none, some r => s3.calFinish r
    | none, none => s3

/-- The values that a kind measures on the named channels and their banks; a TDC-only channel gives no timing offset (spec 19
R444, R447-R449, Table 19-3). -/
def calKeys (s : State) (a : CalArgs) (k : Nat) : List CalKey :=
  let cs := maskList 256 a.channels.toNat
  let bs := (cs.map (· / 16)).dedup
  if k = 1 then cs.flatMap fun c => (List.range 8).flatMap fun i => [.interOffset c i, .interGain c i, .interSkew c i]
  else if k = 2 then cs.flatMap fun c => (List.range 4).flatMap fun r => [.gainRatio c r, .floor c r, .ratio c r]
  else if k = 3 then
    (cs.filter fun c => s.modeOf c = 0).map .timing ++ cs.map .analogue
      ++ bs.flatMap fun b => (List.range 4).flatMap fun r => (List.range 64).map (.walk b r)
  else cs.map (fun c => .groupDelay (c / 16) c) ++ bs.flatMap fun b => (List.range 16).map (.width b)

/-- A requested value without its R results fails (spec 19 R452). (DEDUCED, log 138.) -/
def calMissing (s : State) (r : CalRun) (mine : List CalMeasure) : List Nat :=
  (((s.calKeys r.args r.kind).filter fun k => mine.all fun m => m.key ≠ k).flatMap calChans).dedup.filter fun c =>
    r.args.channels.getLsbD c

/-- Kind 2 waits for a bias change of a named bank to end its marks (spec 19 R447, 05 R133). -/
def biasMarked (s : State) (a : CalArgs) : Bool :=
  (maskList 256 a.channels.toNat).any fun c => (s.chan c).marks.any fun m =>
    m.kind = .bias && m.stop.all fun x => decide (s.now < x)

/-- Kinds 1 to 4 end with their measured results (spec 19 R447-R449, R452, R453). -/
def measuredKind (r : CalRun) (ms : List CalMeasure) (s : State) : State :=
  let a := r.args
  let mine := ms.filter fun m => calKind m.key = r.kind && ((calChans m.key).any fun c => a.channels.getLsbD c)
    && m.results.length = a.repeats
  let missing := s.calMissing r mine
  let (q0, s0) := s.draw 255
  if r.kind = 2 ∧ s.biasMarked a then s
  else if r.kind = 4 ∧ (s.reduced ∨ r.reduced4) then
    (((s0.modRun fun r => { r with failedCh := r.failedCh ||| a.channels }).calDetail 0x0062).each
      (maskList 256 a.channels.toNat) fun c => noteQuality c 0).endKind false
  else
    let s1 := (s0.modRun fun r => { r with failedCh := r.failedCh ||| BitVec.ofNat 256 (maskOf missing) }).each missing fun c =>
      noteQuality c 0
    let x := mine.foldl (fun x m => calValue a q0 m x) (missing = [], s1)
    let s2 := x.2.cond (r.kind = 4) fun s => s.each (List.range 16) fun b => calDelay b mine
    (s0.withInterMarks fun _ => s2).endKind x.1

/-! ## Kind 5 (spec 19 R450-R452) -/

/-- The expected time of flight of an element in 2^-32 LSB (spec 19, the emitter kind). -/
def calFlight (s : State) (a : CalArgs) (e : Nat) : Int :=
  let d := s.elemDesc e
  let c := max 1 (cosine (nth 0 d.azimuth (elemIndex e)) * cosine (nth 0 d.elevation (elemIndex e)))
  let dist := nth 0 a.distances (elemPort e)
  (dist * (10000000 + a.index) * 512 * 2 ^ 128 : Nat) / (29979245800 * c)

/-- The element of a port is done, and the next one begins. -/
def nextElement (n : Nat) (s : State) : State :=
  match s.cal.run with
  | none => s
  | some r => s.calElement n ((calElements r.args n).filter fun e => (s.calPort n).element < e)

/-- The element of a port fails as a whole. -/
def failElement (n detail : Nat) (s : State) : State :=
  let e := (s.calPort n).element
  ((((s.modRun fun r => { r with failedEl := r.failedEl ||| BitVec.ofNat 512 (2 ^ e) }).calDetail detail).noteQuality
    (256 + e) 0)).nextElement n

/-- The element's results after its last repeat (spec 19 R451, R452). -/
def finishElement (n repeats : Nat) (s : State) : State :=
  let p := s.calPort n
  let e := p.element
  let unit : Nat := 2 ^ 32
  let lat : Int := p.latency + roundAway p.es.sum (repeats * unit)
  if lat < 5120 ∨ 61440 < lat then s.failElement n 0x0065
  else
    let ql := quality 0 (8 * unit) 1 (spread p.es)
    let qp := if p.ps.length = repeats then quality 0 (8 * unit) 1 (spread p.ps) else 0
    let s1 := s.modRun fun r => { r with
      latency := if ql = 0 then r.latency else Store.write none r.latency e (some lat.toNat)
      path := if qp = 0 then r.path else Store.write none r.path e (some (roundAway p.ps.sum (repeats * unit)))
      failedEl := if ql = 0 ∨ qp = 0 then r.failedEl ||| BitVec.ofNat 512 (2 ^ e) else r.failedEl }
    (s1.noteQuality (256 + e) (min ql qp)).nextElement n

/-- A pass of 1,024 shots has ended (spec 19 R451). (DEDUCED, log 85.) -/
def endCalPass (n : Nat) (s : State) : State :=
  match s.cal.run with
  | none => s
  | some r =>
    let p := s.calPort n
    let unit : Nat := 2 ^ 32
    if p.returns < 512 then s.failElement n 0x0064
    else
      let fresh := fun (p : CalPort) => { p with
        pass := p.pass + 1, shots := 0, returns := 0, errSum := 0, cands := [], skips := 0 }
      if p.pass = 0 then s.modCalPort n fun p => fresh { p with
        latency := (p.latency + roundAway p.errSum (p.returns * unit)).toNat }
      else
        let e := p.errSum / (p.returns : Int)
        let claimed := p.cands.filterMap fun l =>
          (l.map fun d => d * 2 ^ 24).find? fun d => decide ((d - e).natAbs ≤ 1024 * unit)
        let ps := if claimed = [] then [] else [claimed.sum / (claimed.length : Int) - e]
        let s1 := s.modCalPort n fun p => fresh { p with es := p.es ++ [e], ps := p.ps ++ ps }
        if r.args.repeats ≤ p.pass then s1.finishElement n r.args.repeats else s1

/-- A calibration shot leaves the ledger: its return, its pickoffs, and the end of its pass (spec 19 R451). -/
def calCollect (i : Nat) (e : Entry) (s : State) : State :=
  match s.cal.run with
  | none => s
  | some r =>
    let n := elemPort e.element
    let p := s.calPort n
    if p.finished ∨ p.element ≠ e.element ∨ r.kind ≠ 5 then s
    else
      let tau := s.calFlight r.args e.element
      let errs := p.rets.map fun x => (x.1, ((x.2 * 2 ^ 32 : Nat) : Int) - tau)
      let near := errs.filter fun x => decide (x.2.natAbs ≤ 51200 * 2 ^ 32)
      let best := near.foldl (fun (m : Option (Nat × Int)) x => match m with
        | none => some x
        | some y => if y.1 < x.1 then some x else some y) none
      let diffs := (((s.chan e.refCh).pickoffs.filter fun z => z.2 ≤ 1).map fun z => z.1 - 16 * (e.planned : Int)).filter
        fun d => decide (d.natAbs ≤ 16 * ns 204)
      let s1 := (s.modCalPort n fun p => { p with
        rets := []
        returns := p.returns + best.isSome.toNat
        errSum := p.errSum + (best.map fun x => x.2).getD 0
        cands := if e.refOn ∧ e.refDecl then p.cands ++ [diffs] else p.cands }).calWarm
      let busy := s1.skein.any fun y => y.1 ≠ i && y.2.cal && onPort n y.2
      s1.cond (!busy && decide (1024 ≤ p.shots)) (endCalPass n)

/-- A calibration shot of a port is committed, or skipped (spec 19 R450). (DEDUCED, log 85.) -/
def calShot (n : Nat) (s : State) : State :=
  match s.cal.run with
  | none => s
  | some r =>
    let p := s.calPort n
    if r.kind ≠ 5 ∨ p.finished ∨ 1024 ≤ p.shots then s
    else match s.calDesc p.element with
      | none => s.failElement n 0x0060
      | some (b, d) =>
        let w := descField d 70 12
        let at_ := s.tdcInstant (if p.lastAt = 0 then s.now + us 2
          else max (p.lastAt + max (us 2) (ns (8 * w + 128))) (s.now + 16 * p.latency + ns 100))
        if p.lastAt ≠ 0 ∧ s.now + us 2 < at_ then s
        else
          let refOn := decide (descField d 69 1 = 1)
          let refCh := descField d 61 8
          let e : Entry :=
            { planned := at_, epoch := s.epochAt at_, element := p.element, bank := b, window := w
              lt := if s.spindle.hasTime then s.lineTimeAt at_ else s.spindle.last
              code := 0x80000, refCh := refCh, refOn := refOn, refDecl := refOn && s.declared refCh, cal := true
              windows := windowsOf (Store.read 0 (s.flyer b).sets (descField d 55 6)) refOn refCh
              holdover := decide (s.spindle.state = .holdover), freeRun := decide (s.spindle.state = .freeRunning)
              symbolAt := at_ - 16 * p.latency }
          let stream := s.streamGood n e.symbolAt
          let ok := (s.port n).state = .admitted && s.elementOn true e.element && s.spaced e.element at_ && stream
            && (s.roomFor e).isNone
          let s1 := s.calWarm
          if ok then (s1.takeEntry e).modCalPort n fun p => { p with shots := p.shots + 1, lastAt := at_ }
          else
            let s2 := s1.cond (!stream) (count Kind.streamSkip n 1)
            if 64 ≤ p.skips then s2.failElement n 0x0063
            else s2.modCalPort n fun p => { p with skips := p.skips + 1, lastAt := at_ }

/-- Kind 5 ends once every port has finished: passing values are written (spec 19 R453), and boards take their new
compensation (04 R104, R106). -/
def endEmitter (r : CalRun) (s : State) : State :=
  if (List.range 8).any fun n => !(s.calPort n).finished then s
  else
    let s1 := (s.calWarm).cond r.args.apply fun s =>
      let s1 := s.modCal fun c => { c with tables := { c.tables with
        latency := r.latency.foldl (fun m x => Store.write none m x.1 x.2) c.tables.latency
        path := r.path.foldl (fun m x => Store.write none m x.1 x.2) c.tables.path } }
      s1.each ((List.range 8).filter fun n => (calElements r.args n) ≠ []) fun n s => s.sendComps n
    s1.endKind (r.failedEl = 0)

/-- CALIBRATION_KIND_END: the kind in progress ends. -/
def kindEnd (ms : List CalMeasure) (s : State) : State :=
  match s.cal.run with
  | none => s
  | some r => if r.kind = 0 then s else if r.kind = 5 then s.endEmitter r else s.measuredKind r ms

/-! ## The command's checks (spec 19 R443) -/

/-- The first port of a named element that is not ADMITTED. -/
def calPortBad (s : State) (a : CalArgs) : Option Nat :=
  (List.range 8).find? fun n => calElements a n ≠ [] && (s.port n).state ≠ .admitted

/-- A channel that a requested kind cannot take: kinds 1, 2 and 4 need waveform with TDC; kind 3 takes no channel in
charge-integrating fallback. -/
def calChanBad (s : State) (a : CalArgs) : Bool :=
  (maskList 256 a.channels.toNat).any fun c =>
    ((a.kinds.getLsbD 0 || a.kinds.getLsbD 1 || a.kinds.getLsbD 3) && s.modeOf c ≠ 0)
      || (a.kinds.getLsbD 2 && s.modeOf c = 2)

/-- The checks of CALIBRATE; kind 5, which fires elements, is allowed in ARMED only (spec 15 Table 15-8). -/
def calCheck (a : CalArgs) (s : State) : Ack :=
  let five := a.kinds.getLsbD 4
  let els := (List.range 512).filter fun e => a.elements.getLsbD e
  if five ∧ s.dev ≠ .armed then .wrongState 0
  else match (if five then s.calPortBad a else none) with
  | some n => .wrongState (Src.port n)
  | none =>
    if a.kinds = 0 then .wrongArg 16
    else if a.repeats < 2 ∨ 8 < a.repeats then .wrongArg 17
    else if a.kinds.getLsbD 3 ∧ (a.width < 4 ∨ 32 < a.width) then .wrongArg 19
    else if five ∧ 1000 < a.index then .wrongArg 20
    else if a.kinds.toNat % 16 ≠ 0 ∧ (a.channels = 0 ∨ s.calChanBad a) then .wrongArg 24
    else if five ∧ (a.elements = 0 ∨ els.any fun e => (s.calDesc e).isNone) then .wrongArg 56
    else if five then
      match els.find? fun e => nth 0 a.distances (elemPort e) < 10000 || 3000000 < nth 0 a.distances (elemPort e) with
      | some e => .wrongArg (120 + 4 * elemPort e)
      | none => .accepted
    else .accepted

/-- The stale placeholder of a calibration shot on a channel (spec 13 R306, 19 R454). R454's cause 1 stands only on
channels that kinds 1 to 4 of the command name. (DEDUCED, log 138.) -/
def placeholder (c : Nat) (e : Entry) (s : State) : State :=
  match s.cal.run with
  | none => s
  | some r =>
    let cause := if (s.bank (c / 16)).mismatch then 2
      else if calNames r.args c && (r.failedCh.getLsbD c || !r.args.apply) then 1 else 3
    s.offer .main c (some e.lt.frame) [fun seq =>
      [0x03, BitVec.ofNat 8 c] ++ le 2 (e.element % 512 + flagBit 15 e.epoch) ++ le 4 seq ++ le 8 e.lt.field
        ++ [BitVec.ofNat 8 cause, 0, 0, 1] ++ le 2 r.handle ++ [0, 0]]

end State

/-! ## Meanings -/

/-- CALIBRATE: spec 19 R443, R444. -/
def execCalibrate (t : Tick) (h : Hdr) (args : CalArgs) (s : State) : Host.Outcome State Fault Refusal :=
  .next ((s.advance t).command 0x1301 h (State.calCheck args) (State.startCal args))

/-- CALIBRATION_SHOT: spec 19 R450. -/
def execCalibrationShot (t : Tick) (port : Nat) (s : State) : Host.Outcome State Fault Refusal :=
  .next ((s.advance t).calShot port)

/-- CALIBRATION_KIND_END: spec 19 R447-R453, R455. -/
def execCalibrationKindEnd (t : Tick) (measures : List CalMeasure) (s : State) : Host.Outcome State Fault Refusal :=
  .next ((s.advance t).kindEnd measures)

/-- HK_CONVERSION_DONE: spec 06 R155, R156, R161-R164; a calibration that waits for it starts. -/
def execHkConversionDone (t : Tick) (code : Nat) (outside : Option Bool) (s : State) :
    Host.Outcome State Fault Refusal :=
  .next ((s.advance t).hkDone code outside).calAwake

end Sys2Proof.Machine
end

