-- ==== Sys2Proof/Machine/Skein.lean ====
section
/-! DEFINITION. The life of a Skein entry after its commit (spec 03 R72, R86-R88): the fire symbol (04 R99, 16 R372), its
windows, the finalisation of its slots (09 R221, 10 R243, 19 R454) and its return to FREE. -/

namespace Sys2Proof.Machine

namespace State

/-- The fire symbol of a passed shot leaves, or the shot is cancelled at a closed gate (spec 03 R86, 04 R99, 16 R372). -/
def sendFire (i : Nat) (s : State) : State :=
  let e := s.entry i
  let n := elemPort e.element
  if e.state ≠ .passed ∨ s.now < e.symbolAt then s
  else if !s.gateOpen n then s.retire i (if (s.port n).state = .admitted then 0x21 else 0x25)
  else
    let s1 := ((s.modEntry i fun e => { e with state := .fired }).sendSymbol n e.symbolAt (e.element % 64)).modPort n
      fun p => { p with reserved := p.reserved.filter fun r => r.2 ≠ .fire i }
    s1.cond (!e.cal) fun s => (s.countFlyer e.bank 2).tally e.lt.frame fun f => { f with fired := f.fired + 1 }

/-- A window opens on a channel: its correlator slot, coherence line, Bobbin shot and gate (spec 03 R72, 09 R214, R227, 10
R243, 05 R129); a declared reference has no slot (R197). (DEDUCED, log 59.) -/
def openWindow (i c : Nat) (s : State) : State :=
  let e := s.entry i
  let close := e.planned + ns (8 * e.window)
  let s := (s.noteWindow c close).openGate c i (ns (8 * e.window))
  if s.declared c then s
  else
    let f := if e.cal then (false, s) else s.cohShot c e.element e.planned
    let s1 := (f.2.openSlot i c close f.1).modEntry i fun e => { e with unfinal := e.unfinal ++ [c] }
    let s2 := s1.cond (!e.refWindow c) (modCard c fun k => { k with
      openSince := if k.openCount = 0 then s.now else k.openSince, openCount := k.openCount + 1 })
    s2.cond (!e.cal) (bobShot i c)

/-- A shot whose pickoff no reference decides has its start from the outset (spec 08 R199, 19 R451). -/
def scheduledStart (e : Entry) : Entry :=
  if e.cal then { e with pickDecided := true }
  else if e.refOn && e.refDecl then e
  else { e with pickDecided := true, pickMissing := e.refOn }

/-- The windows of a fired shot open at its planned instant (spec 03 R72); a shot without one is complete.
(DEDUCED, log 59.) -/
def openWindows (i : Nat) (s : State) : State :=
  let e := s.entry i
  if e.state ≠ .fired ∨ e.opened ∨ s.now < e.planned then s
  else
    let s1 := s.modEntry i fun e => scheduledStart { e with opened := true }
    if e.windows = [] then s1.retire i 0
    else s1.each e.windows (openWindow i)

/-- A window of a fired shot closes (spec 03 R72, R86): with the last one the entry retires, complete. -/
def closeWindow (i c : Nat) (s : State) : State :=
  let e := s.entry i
  if e.state ≠ .fired ∨ !e.opened ∨ c ∉ e.windows ∨ s.now < e.planned + ns (8 * e.window) then s
  else
    let s1 := s.modEntry i fun e => { e with windows := e.windows.filter (· ≠ c) }
    let s2 := s1.cond (decide (c ∈ e.unfinal) && !e.refWindow c) (modCard c fun k => { k with
      openCount := k.openCount - 1
      openTime := if k.openCount = 1 then k.openTime + (s.now - k.openSince) else k.openTime })
    if (s2.entry i).windows = [] then (s2.retire i 0).retireDone else s2

/-- The slot of an entry on a channel is finalised 64 ns after its window has closed (spec 09 R221, 10 R243, 19 R454).
(DEDUCED, log 51.) -/
def finalise (i c : Nat) (s : State) : State :=
  let e := s.entry i
  if c ∉ e.unfinal ∨ s.now < e.planned + ns (8 * e.window + 64) then s
  else
    let s0 := s.settleSlot i c
    let w := ((s0.chan c).slots.find? fun w => w.entry = i).getD {}
    let s1 := (s0.closeSlot i c).modEntry i fun e => { e with unfinal := e.unfinal.filter (· ≠ c) }
    if e.cal then s1.placeholder c e
    else s1.cond w.firstShot (cohEntry c e.element w.tofs)

/-- Bobbin keeps what it needs of an entry that is freed while its samples still run (spec 09 R229). -/
def keepForBobbin (i : Nat) (e : Entry) (s : State) : State :=
  let has := fun (y : BobSlot) => y.inProgress.any fun z => z.1 = i && z.2.isNone
  let keep := fun (y : BobSlot) => { y with
    inProgress := y.inProgress.map fun z => if z.1 = i ∧ z.2.isNone then (i, some e) else z }
  let hit := s.chans.filter fun x => x.2.bobs.any fun y => has y.2
  s.each (hit.map fun x => x.1) fun c s => s.each [0, 1] fun k s => s.cond (has (s.bob c k)) (modBob c k keep)

/-- A retired entry whose slots are all finalised returns to FREE (spec 03 R88). (DEDUCED, log 60.) -/
def freeEntry (i : Nat) (s : State) : State :=
  let e := s.entry i
  if e.state ≠ .retired ∨ e.unfinal ≠ [] then s
  else
    let s1 := s.cond (e.cal && e.outcome = 0) (calCollect i e)
    let s2 := (s1.cond e.accumulate (keepForBobbin i e)).modEntry i fun _ => {}
    let gone := ((s2.chan e.refCh).pickoffs.filter fun z => !s2.pickWanted e.refCh z.1).length
    s2.cond (e.cal && e.refDecl && gone ≠ 0) fun s => (s.count Kind.unclaimed e.refCh gone).modChan e.refCh fun ch =>
      { ch with pickoffs := ch.pickoffs.filter fun z => s2.pickWanted e.refCh z.1 }

end State

/-! ## Meanings -/

/-- FIRE_SYMBOL_SEND: spec 03 R86, R87, 04 R99, 16 R372. -/
def execFireSymbolSend (t : Tick) (entry : Nat) (s : State) : Host.Outcome State Fault Refusal :=
  .next ((s.advance t).sendFire entry).retireDone

/-- WINDOW_OPEN: spec 03 R72, 09 R214. -/
def execWindowOpen (t : Tick) (entry : Nat) (s : State) : Host.Outcome State Fault Refusal :=
  .next ((s.advance t).openWindows entry).retireDone

/-- WINDOW_CLOSE: spec 03 R72, R86. -/
def execWindowClose (t : Tick) (entry c : Nat) (s : State) : Host.Outcome State Fault Refusal :=
  .next ((s.advance t).closeWindow entry c)

/-- SLOT_FINALISE: spec 09 R221, 10 R243, 19 R454. -/
def execSlotFinalise (t : Tick) (entry c : Nat) (s : State) : Host.Outcome State Fault Refusal :=
  .next ((s.advance t).finalise entry c)

/-- ENTRY_FREE: spec 03 R88, 19 R451. -/
def execEntryFree (t : Tick) (entry : Nat) (s : State) : Host.Outcome State Fault Refusal :=
  .next ((s.advance t).freeEntry entry)

end Sys2Proof.Machine
end

