-- ==== Sys2Proof/Machine/Emission.lean ====
section
/-! DEFINITION. Whorl's conditions (spec 16): the emission-arm loop, the latch, the reference clock and the core PLL, the
account store, the oscillator and WHORL STATUS. -/

namespace Sys2Proof.Machine

namespace State

/-- Whorl runs: in every state but OFF (spec 16 R369). -/
def whorlRuns (s : State) : Bool := s.dev ≠ .off

/-- What ARMLP_IN does after an edge of ARMLP_OUT breaks the loop (spec 16 R382): no transition within 40 ns, or a change of
level at any other time. -/
def loopBroken (changes : List Tick) : Bool :=
  match changes with
  | [d] => decide (ns 40 < d)
  | _ => true

/-- An edge of ARMLP_OUT is answered: an open loop is closing from then on (spec 16 Table 16-7). -/
def loopAnswers (s : State) : State := s.modWhorl fun w => { w with loop := if w.loop = 0 then 1 else w.loop }

/-- The arm loop is declared open (spec 16 R382, R383). -/
def loopOpens (s : State) : State :=
  let s1 := s.modWhorl fun w => { w with
    loop := 0, lastOpen := s.now, opens := (w.opens + 1) % 2 ^ 32, opensSince := w.opensSince + 1 }
  ((((s1.whorlStop).setInhibit 0 true).setFlag 4).event Src.whorl 0x40
    [(1, 0), (4, (s.whorl.opens + 1) % 2 ^ 32)]).disarmed

/-- The arm loop becomes closed after 10 ms in which it has not been open (spec 16 R382, R391). -/
def loopCloses (s : State) : State :=
  if s.whorl.loop = 2 ∨ s.now < s.whorl.lastOpen + us 10000 then s
  else
    let w := s.whorl
    let s1 := (s.modWhorl fun w => { w with loop := 2, opensSince := 0, firstClosed := true }).setInhibit 0 false
    let s2 := s1.cond w.firstClosed (event Src.whorl 0x40 [(1, 1), (4, w.opens)])
    s2.cond (2 ≤ w.opensSince) (health 0x0303 0 [(2, min w.opensSince 65535)] [])

/-- The latch is set (spec 16 R374, R387, R389, R390): once, and until VAUX33 fails. (DEDUCED, log 111.) -/
def setLatch (cause port : Nat) (s : State) : State :=
  if s.latch.set then s
  else
    let s1 := ((s.modLatch fun _ => ⟨true, cause, port⟩).whorlStop).setFlag 3
    let s2 := (s1.event Src.whorl 0x42 [(1, cause), (1, port)]).event Src.whorl 0x41 [(2, s1.inhibitMask)]
    (s2.each (List.range 8) fun n s => s.setPort n .off 4).faultCause (some 4)

/-- A fire symbol whose leading edge leaves a port now matches a passed, unfired shot (spec 16 R373): one whose own symbol
this is counts as unfired until it has left. (DEDUCED, log 136.) -/
def symbolPassed (s : State) (n payload : Nat) : Bool :=
  s.skein.any fun x => onPort n x.2 && x.2.element % 64 = payload % 64
    && ((x.2.state = .passed && s.now ≤ x.2.symbolAt + ns 4 && x.2.symbolAt ≤ s.now + ns 4)
      || (x.2.state = .fired && x.2.symbolAt = s.now))

/-- The monitor's finding is a Whorl clock fault (spec 16 R371): no edge for 100 ns, or more than 2 % from 200 MHz, in
ppm, while the core PLL is locked. -/
def clockFault (s : State) (ppm : Option Int) : Bool :=
  s.boot.plls.getLsbD 0 && ppm.all fun d => decide (20000 < d.natAbs)

/-- A reference fault is declared (spec 02 R56, 16 R386): for 1 us the deviation from the selected frequency, in ppb, has
been more than 500 ppm; a reference that has stopped deviates by -10^9. -/
def refFaulty (dev : Int) (s : State) : State :=
  if !s.spindle.refAccepted ∨ dev.natAbs ≤ 500000 then s
  else if s.whorl.faults.getLsbD 0 then s.modWhorl fun w => { w with refAt := s.now }
  else
    let s1 := (((s.modWhorl fun w => { w with refAt := s.now }).whorlStop).setInhibit 2 true).setFlag 5
    (s1.event Src.whorl 0x43 [(1, 1), (4, min (2 ^ 32 - 1) dev.natAbs)]).faultCause (some 0)

/-- REF_IN and the core PLL have been within limits for 10 ms (spec 16 R386, R390): neither fault persists. -/
def refGood (ppb : Int) (s : State) : State :=
  let was := s.whorl.faults.getLsbD 0
  if s.now < s.whorl.refAt + us 10000 ∨ 500000 < ppb.natAbs then s
  else
  let s1 := ((s.faultGone 0).faultGone 1).modBoot fun b => { b with
    plls := if s.whorl.faults.getLsbD 1 then b.plls ||| 1 else b.plls }
  s1.cond was (event Src.whorl 0x43 [(1, 0), (4, ppb.natAbs)])

/-- The core PLL loses lock (spec 16 R386). -/
def coreUnlocks (s : State) : State :=
  if !s.boot.plls.getLsbD 0 then s
  else ((((s.modBoot fun b => { b with plls := b.plls &&& 6 }).modWhorl fun w => { w with
    refAt := s.now }).whorlStop).setInhibit 3 true).faultCause (some 1)

/-- An account-store error (spec 16 R386, R391). -/
def accountError (n : Nat) (corrected : Bool) (s : State) : State :=
  if corrected then
    let k := Store.read 0 s.whorl.accountCorrected n + 1
    (s.modWhorl fun w => { w with accountCorrected := Store.write 0 w.accountCorrected n k }).health 0x0301 n
      [(4, min k (2 ^ 32 - 1))] []
  else (((s.fillAccounts n).whorlStop).setInhibit 6 true).faultCause none

/-- The Whorl oscillator's deviation against REF_IN (spec 16 R391, R392). -/
def oscillator (ppm : Int) (s : State) : State :=
  (s.modWhorl fun w => { w with deviation := clampInt (-32768) 32767 ppm }).cond (500 < ppm.natAbs)
    (health 0x0302 0 [(2, twos 2 (clampInt (-32768) 32767 ppm))] [])

/-- What remains of the watchdog's period in ms, 0 while Distaff is down (spec 16 Table 16-7, 21 Table 21-11). -/
def watchdogLeft (s : State) : Nat :=
  if s.dist.up then
    (quotOpen ((s.dist.restartAt + us (4000 * s.pnum Par.watchdog 0) - s.now : Nat) : Int) (us 1000)).toNat
  else 0

/-- WHORL STATUS (spec 16 R392; DESIGN CHOICE, log 20). -/
def whorlStatus (handle : Nat) (s2 : State) : State :=
  let w := s2.whorl
  let ports := (List.range 8).flatMap fun n =>
    let p := s2.port n
    [(1, p.gate.toNat + 2 * p.gateCause)]
      ++ [Kind.refused1, Kind.refused1 + 1, Kind.refused1 + 2, Kind.refused1 + 3, Kind.recharged].map
        (fun k => (4, s2.counter k n))
      ++ p.largest.map fun v => (1, v)
  s2.succeed handle (place 0 ([(1, w.loop), (4, w.opens), (2, s2.inhibitMask),
    (1, flagBit 0 s2.latch.set + 2 * s2.latch.cause)] ++ ports ++ [(2, twos 2 w.deviation), (2, s2.watchdogLeft)]))

end State

/-! ## Meanings -/

/-- ARM_LOOP_OPEN: spec 16 R382, R383. -/
def execArmLoopOpen (answer : LoopAnswer) (s : State) : Host.Outcome State Fault Refusal :=
  let s := s.advance answer.at_
  .next (if !s.whorlRuns then s else if State.loopBroken answer.changes then s.loopOpens else s.loopAnswers)

/-- ARM_LOOP_CLOSED: spec 16 R382, R391. -/
def execArmLoopClosed (t : Tick) (s : State) : Host.Outcome State Fault Refusal :=
  let s := s.advance t
  .next (if s.whorlRuns then s.loopCloses else s)

/-- LOCKSTEP_MISMATCH: spec 16 R370, R374. -/
def execLockstepMismatch (t : Tick) (s : State) : Host.Outcome State Fault Refusal :=
  let s := s.advance t
  .next (if s.whorlRuns then s.setLatch 0 0xFF else s)

/-- UNPASSED_FIRE_SYMBOL: spec 16 R373, R374. -/
def execUnpassedFireSymbol (t : Tick) (port payload : Nat) (s : State) : Host.Outcome State Fault Refusal :=
  let s := s.advance t
  .next (if s.whorlRuns && !s.symbolPassed port payload then s.setLatch 1 port else s)

/-- WHORL_CLOCK_FAULT: spec 16 R371, R374. -/
def execWhorlClockFault (finding : ClockFinding) (s : State) : Host.Outcome State Fault Refusal :=
  let s := s.advance finding.at_
  .next (if s.clockFault finding.ppm then s.setLatch 2 0xFF else s)

/-- REFERENCE_FAULT: spec 02 R56, 16 R386. -/
def execReferenceFault (t : Tick) (deviation : Int) (s : State) : Host.Outcome State Fault Refusal :=
  .next ((s.advance t).refFaulty deviation)

/-- REFERENCE_FAULT_CLEAR: spec 16 R386. -/
def execReferenceFaultClear (finding : ReferenceGood) (s : State) : Host.Outcome State Fault Refusal :=
  .next ((s.advance finding.at_).refGood finding.ppb)

/-- CORE_PLL_UNLOCK: spec 16 R386. -/
def execCorePllUnlock (t : Tick) (s : State) : Host.Outcome State Fault Refusal := .next (s.advance t).coreUnlocks

/-- ACCOUNT_STORE_ERROR: spec 16 R386, R391. -/
def execAccountStoreError (t : Tick) (port : Nat) (corrected : Bool) (s : State) : Host.Outcome State Fault Refusal :=
  let s := s.advance t
  .next (if s.whorlRuns then s.accountError port corrected else s)

/-- WHORL_OSCILLATOR_DEVIATION: spec 16 R391. -/
def execWhorlOscillatorDeviation (t : Tick) (ppm : Int) (s : State) : Host.Outcome State Fault Refusal :=
  .next ((s.advance t).oscillator ppm)

/-- WHORL_STATUS: spec 16 R392. -/
def execWhorlStatus (t : Tick) (h : Hdr) (s : State) : Host.Outcome State Fault Refusal :=
  .next ((s.advance t).command 0x1001 h State.noCheck State.whorlStatus)

end Sys2Proof.Machine
end

