-- ==== Sys2Proof/Machine/Loss.lean ====
section
/-! DEFINITION. The loss reporter (spec 13 R317, R318): runs that time out and the loss records that closed runs become. -/

namespace Sys2Proof.Machine

/-- The bytes of a loss record (spec 13 Table 13-12). -/
def LossRun.bytes (x : LossRun) (seq : Nat) : List Byte :=
  [0x09, BitVec.ofNat 8 x.cause] ++ le 2 x.src ++ le 4 seq ++ le 4 x.first ++ le 4 x.count ++ le 8 x.firstField
    ++ le 4 x.frame ++ [BitVec.ofNat 8 x.several.toNat, 0, 0, 0]

namespace State

/-- The open run of a source closes 10 us after its last loss, unless it is a fourth run held open (spec 13 R317). -/
def lossTimeout (src : Nat) (s : State) : State :=
  s.cond (!s.recs.heldOpen src) (modRecs fun r => r.closeRuns fun x =>
    x.src = src && decide (x.lastAt + us 10 ≤ s.now))

/-- The run that closed first becomes a loss record when the loss-only part has room (spec 13 R317). -/
def lossRecord (s : State) : State :=
  match s.recs.runs.find? fun x => x.closed with
  | none => s
  | some x =>
    if !s.recs.room .losses 32 then s
    else
      let seq := s.recs.seqOf Src.loss
      (s.modRecs fun r => ({ r with runs := r.runs.erase x }.bump Src.loss 1).push .losses
        [⟨Src.loss, seq, none, LossRun.bytes x seq, 0⟩]).setFlag 16

end State

/-! ## Meanings -/

/-- LOSS_RUN_TIMEOUT: spec 13 R317. -/
def execLossRunTimeout (t : Tick) (source : Nat) (s : State) : Host.Outcome State Fault Refusal :=
  .next ((s.advance t).lossTimeout source)

/-- LOSS_RECORD_QUEUE: spec 13 R317. -/
def execLossRecordQueue (t : Tick) (s : State) : Host.Outcome State Fault Refusal := .next (s.advance t).lossRecord

end Sys2Proof.Machine
end

