-- ==== Sys2Proof/Machine/Trust.lean ====
section
/-! DEFINITION. Trust (spec 17): tokens and key slots, attestation sessions with their digest chains, cuts and manifests,
debug unlock and the test access port. -/

namespace Sys2Proof.Machine

/-- Size of the token buffer (spec 17 R400), of a token's body, and of the certificate (Table 17-7). -/
def tokenSize : Nat := 17232
/-- Bytes of the certificate (spec 17 Table 17-7). -/
def certSize : Nat := 17568
/-- Bytes of a manifest record (spec 17 R410). -/
def manifestSize : Nat := 37032

/-- The device identification register (spec 17 R415). -/
def idcode : Word32 := 0x1725674B

/-- The kinds of a cut's manifest (spec 17 Table 17-8). -/
inductive CutKind where
  | opening | checkpoint | closing
  deriving DecidableEq, Repr

/-- Byte 2 of a manifest body. -/
def CutKind.code : CutKind → Nat
  | .opening => 0 | .checkpoint => 1 | .closing => 2

namespace State

/-! ## Tokens (spec 17 R400, R401) -/

/-- A chunk of phase 0: its length and place (spec 17 R400). -/
def chunkCheck (offset : Nat) (data : List Byte) : Ack :=
  if tokenSize < offset + data.length then .wrongArg 20
  else if data.length < 8 ∨ 4056 < data.length ∨ data.length % 8 ≠ 0 then .wrongArg 24
  else .accepted

/-- A byte field of the token in the buffer (spec 17 Table 17-5). -/
def tokenField (s : State) (i n : Nat) : Nat := num (Memory.load s.trust.token i n) 0 n

/-- The arguments of phase 1 for a token of a kind (check 5): the kind (spec 17 R400), and the encodings of Tables 17-4 and
17-5, of whose usages slot 1 has one. (DEDUCED, log 95.) -/
def tokenCheck (s : State) (kind : Nat) : Ack :=
  let slot := s.tokenField 3 1
  let okay := match kind with
    | 1 => decide (1 ≤ slot ∧ slot ≤ 5 ∧ 0 < s.tokenField 5 1 ∧ s.tokenField 5 1 < 16)
        && (slot ≠ 1 || s.tokenField 5 1 = 0xE)
    | 2 => decide (2 ≤ slot ∧ slot ≤ 5)
    | _ => decide (slot = 0 ∧ 1 ≤ s.tokenField 5 1 ∧ s.tokenField 5 1 ≤ 2)
  if s.tokenField 0 2 = 1 && s.tokenField 2 1 = kind && okay then .accepted else .wrongArg 0xFFFF

/-- A slot as the writes that are accepted leave it. -/
def slotNext (s : State) (i : Nat) : KeySlot := if i < 2 then s.keySlot i else Store.read {} s.countersNext.2.2 i

/-- The checks of R401 on the token in the buffer: the detail of the first that fails. -/
def tokenError (s : State) (kind : Nat) : Option Nat :=
  let buf := Memory.load s.trust.token 0 tokenSize
  let slot := num buf 3 1
  let signer := num buf 162 1
  let k := s.slotNext slot
  if num buf 6 9 ≠ Config.fusedIdentity.toNat % 2 ^ 72 then some 0x0050
  else if !s.signatureGood (if kind = 3 then 2 else 3) (buf.take 160) (buf.drop 160)
      ∨ (kind = 1 ∧ slot = 1 ∧ signer ≠ 0) then some 0x0051
  else if kind = 1 ∧ slot = 1 then (if k.written then some 0x0052 else none)
  else if kind = 1 ∧ (num buf 4 1 ≠ (k.generation + 1) % 256 ∨ num buf 5 1 &&& 9 ≠ 0) then some 0x0052
  else if kind = 2 ∧ num buf 4 1 ≠ k.generation then some 0x0052
  else none

/-- The slot as the token in the buffer leaves it (spec 17 R401). -/
def tokenSlot (s : State) (kind : Nat) : KeySlot :=
  let k := s.slotNext (s.tokenField 3 1)
  if kind = 2 then { k with revoked := true }
  else
    { rsa := BitVec.ofNat 384 (s.tokenField 16 48), slh := BitVec.ofNat 384 (s.tokenField 64 48)
      usage := BitVec.ofNat 4 (s.tokenField 5 1)
      generation := if s.tokenField 3 1 = 1 then 0 else s.tokenField 4 1
      revoked := false, written := true }

/-- The buffer is cleared and a challenge ends at each phase 1 (spec 17 R400, R413). (DEDUCED, log 95.) -/
def clearToken (s : State) : State := s.modTrust fun t => { t with token := [], challenge := none }

/-- A slot with a new content. -/
def setKeySlot (i : Nat) (k : KeySlot) (s : State) : State :=
  s.modTrust fun t => { t with slots := Store.write {} t.slots i k }

/-- KEY SLOT WRITE and KEY REVOKE, phase 1 (spec 17 R401): slot 1 is fused at once, slots 2-5 change when their journalled
write is done. -/
def keyToken (kind handle : Nat) (s : State) : State :=
  match s.tokenError kind with
  | some d => s.clearToken.failed handle d
  | none =>
    let i := s.tokenField 3 1
    let k := s.tokenSlot kind
    let s1 := s.clearToken
    if i = 1 then (s1.setKeySlot 1 k).succeed handle []
    else
      let c := s1.countersNext
      s1.nvWrite 1 (counterBytes c.1 c.2.1 (Store.write {} c.2.2 i k)) (some handle)

/-- The ports whose head was verified with a key of slot `i`. -/
def signedBy (s : State) (i : Nat) : List Nat :=
  (List.range 8).filter fun n => ((s.port n).state = .verified || (s.port n).state = .admitted)
    && (List.range (s.port n).chain).any fun b => (s.view n b).verified && (s.view n b).signer = i

/-- The rollback counter and slots 2-5 take what object 1 holds, once a write of it is done; heads of a revoked slot are
rejected (spec 17 R401, R404). -/
def takeSlots (s : State) : State :=
  match s.nvData 1 with
  | none => s
  | some b => (s.modTrust fun t => { t with rollback := max t.rollback (num b 0 2) }).each (List.range 4) fun j s =>
    let k := slotOf b j
    let old := s.keySlot (2 + j)
    if k = old then s
    else (s.setKeySlot (2 + j) k).cond (k.revoked && !old.revoked) fun s =>
      s.each (s.signedBy (2 + j)) fun n s => s.rejectHead n 0

/-- The checks of KEY SLOT WRITE and KEY REVOKE. -/
def keyCheck (kind phase offset : Nat) (data : List Byte) (s : State) : Ack :=
  match phase with
  | 0 => chunkCheck offset data
  | 1 => s.tokenCheck kind
  | _ => .wrongArg 16

/-- Phase 0: a chunk enters the buffer (spec 17 R400). -/
def putChunk (offset : Nat) (data : List Byte) (handle : Nat) (s : State) : State :=
  (s.modTrust fun t => { t with token := Memory.write t.token offset data }).succeed handle []

/-- KEY SLOT WRITE and KEY REVOKE. (DEDUCED, log 95.) -/
def keyCommand (kind phase offset : Nat) (data : List Byte) (handle : Nat) (s : State) : State :=
  if phase = 0 then s.putChunk offset data handle else s.keyToken kind handle

/-! ## Manifests (spec 17 R409-R411, Table 17-8) -/

/-- The signed octets of the descriptors of a port's boards as they were verified, in chain order. -/
def signedBytes (s : State) (n : Nat) : List Byte :=
  (List.range (s.port n).chain).flatMap fun b => (s.view n b).signed

/-- The 64 bytes of a port in a manifest body. (DEDUCED, log 98.) -/
def portManifest (s : State) (n : Nat) : List Byte :=
  le 1 (s.port n).state.code ++ le 1 (s.port n).chain ++ le 1 (s.view n 0).signer ++ le 5 0
    ++ le 8 (s.portHead n).toNat ++ le 48 (Config.sha384 (s.signedBytes n)).toNat

/-- A manifest body of a session at the present instant; `chains` are the counts and values that it states.
(DESIGN CHOICE, log 97.) -/
def manifestBody (s : State) (x : Session) (kind : CutKind) (flags : Nat) (nonce : List Byte)
    (chains : List (Nat × BitVec 384)) : List Byte :=
  let slot := fun i => s.keySlot (2 + i)
  padTo 944 (le 2 1 ++ le 1 kind.code
    ++ le 1 (flags + 2 * s.spindle.warm.toNat + flagBit 2 (s.spindle.state ≠ .locked))
    ++ le 4 s.trust.bootCount ++ le 2 x.index ++ le 2 0 ++ le 4 x.next ++ le 10 Config.fusedIdentity.toNat ++ le 2 0x7256
    ++ le 4 s.dist.version ++ le 2 s.dist.security ++ le 2 s.trust.rollback ++ le 4 x.skipped
    ++ le 48 s.dist.imageDigest.toNat ++ padTo 48 nonce ++ le 8 (s.devField s.now) ++ le 8 s.lineTime.field
    ++ le 48 x.previous.toNat ++ chains.flatMap (fun c => le 8 c.1 ++ le 48 c.2.toNat)
    ++ (List.range 8).flatMap s.portManifest ++ le 48 (Config.sha384 s.calValues).toNat
    ++ le 1 (maskOf ((List.range 4).filter fun i => (slot i).revoked) + flagBit 4 (s.keySlot 1).written)
    ++ (List.range 4).flatMap fun i => le 1 (slot i).generation)

/-- A cut of the open session (spec 17 R409): the body is formed and waits for its signatures. -/
def cut (kind : CutKind) (flags : Nat) (nonce : List Byte) (handle : Option Nat) (s : State) : State :=
  match s.trust.session with
  | none => s
  | some x =>
    let body := s.manifestBody x kind flags nonce x.chains
    s.modTrust fun t => { t with
      session := some { x with next := x.next + 1, skipped := 0, previous := Config.sha384 body }
      prep := t.prep ++ [{
        number := x.next, body := body, handle := handle, closing := decide (kind = .closing), cutAt := s.now }] }

/-- A session opens with its open manifest, from whose body every chain starts (spec 17 R407-R409); the chain values that
the open manifest itself states are open (DESIGN CHOICE, log 30). -/
def openSession (interval : Nat) (nonce : List Byte) (s : State) : State :=
  let (v, s1) := s.draw (2 ^ 384)
  let x : Session := { index := s1.trust.sessions, interval := interval, openAt := s1.now }
  let body := s1.manifestBody x .opening 0 nonce (List.replicate 3 (0, BitVec.ofNat 384 v))
  let d := Config.sha384 body
  s1.modTrust fun t => { t with
    session := some { x with next := 1, previous := d, chains := List.replicate 3 (0, d) }
    sessions := t.sessions + 1
    prep := t.prep ++ [{ number := 0, body := body, handle := none, closing := false, cutAt := s1.now }] }

/-- The session closes at a cut that forms its close manifest (spec 17 R412). -/
def closeSession (flags : Nat) (nonce : List Byte) (s : State) : State :=
  (s.cut .closing flags nonce none).modTrust fun t => { t with session := none }

/-- One step of a digest chain (spec 17 R408). -/
def chainNext (bytes : List Byte) (c : Nat × BitVec 384) : Nat × BitVec 384 :=
  (c.1 + 1, Config.sha384 (le 48 c.2.toNat ++ bytes))

/-- Bytes with others in their place from byte `i` on. -/
def splice (b : List Byte) (i : Nat) (new : List Byte) : List Byte := b.take i ++ new ++ b.drop (i + new.length)

/-- A manifest body with one more record in the chain of class `cls`, after a body of digest `previous` where that has
changed (spec 17 Table 17-8). -/
def recut (cls : Nat) (bytes : List Byte) (previous : Option (BitVec 384)) (body : List Byte) : List Byte :=
  let o := 200 + 56 * cls
  let c := chainNext bytes (num body o 8, BitVec.ofNat 384 (num body (o + 8) 48))
  let b := splice body o (le 8 c.1 ++ le 48 c.2.toNat)
  match previous with
  | some d => splice b 152 (le 48 d.toNat)
  | none => b

/-- A record whose last byte enters a frame in the cycle of a cut falls before it (spec 17 R409): the bodies cut now, in
order, and the digest of the last. (DEDUCED, log 137.) -/
def recutAll (now cls : Nat) (bytes : List Byte) : Option (BitVec 384) → List Prep → List Prep × Option (BitVec 384)
  | d, [] => ([], d)
  | d, p :: r =>
    if p.cutAt = now ∧ p.number ≠ 0 then
      let body := recut cls bytes d p.body
      let (l, e) := recutAll now cls bytes (some (Config.sha384 body)) r
      ({ p with body := body } :: l, e)
    else
      let (l, e) := recutAll now cls bytes d r
      (p :: l, e)

/-- A record's last byte enters a frame for the first time: the chain of its class steps (spec 17 R408), and it counts in
the cuts of this cycle but for the one that opens the session (R409). -/
def chainStep (cls : Nat) (bytes : List Byte) (s : State) : State :=
  if s.trust.session.any fun x => x.openAt = s.now then s
  else s.modTrust fun t =>
    let (l, d) := recutAll s.now cls bytes none t.prep
    { t with
      prep := l
      session := t.session.map fun x => { x with
        chains := nthMod x.chains cls (chainNext bytes), previous := d.getD x.previous } }

/-- Two manifests are in preparation (spec 17 R411). -/
def prepFull (s : State) : Bool := 2 ≤ s.trust.prep.length

/-- The bytes of a manifest record with a sequence number (spec 13 R313, 17 R410). -/
def manifestBytes (s : State) (p : Prep) (rsa slh : List Byte) (seq : Nat) : List Byte :=
  s.header 0x14 manifestSize Src.trust 0 0 s.lineTime seq ++ le 4 944 ++ le 2 384 ++ le 2 35664 ++ p.body
    ++ padTo 384 (rsa.take 384) ++ padTo 35664 (slh.take 35664)

/-! ## Debug unlock (spec 17 R413, R414) -/

/-- What level 2 clears beside the secrets: the on-die SRAM of Table 1-5 but for the energy accounts. (DEDUCED, log 100.) -/
def clearSram (s : State) : State :=
  let zero : CoefSet := { coefs := [0], shift := 0 }
  let s1 := s.each (s.chans.map fun x => x.1) fun c => modChan c fun ch => { ch with
    card := {}, slots := [], pastWins := [], bobs := ch.bobs.map fun b => (b.1, { b.2 with bins := [] }) }
  let s2 := s1.each (List.range 16) fun b s => (s.modBank b fun k => { k with copyA := zero, copyB := zero }).modFlyer b
    fun f => { f with shots := [], code := [], codes := [], sets := [] }
  let s3 := ((s2.modRecs fun r => { r with q0 := [], q1 := [], q2 := [], q3 := [] }).modLink fun l => { l with
    unacked := [], replay := [] }).modSkein fun _ => []
  let s4 := ((s3.discard fun _ => true).modDist fun d => { d with
    instr := [], data := [] }).each (List.range 16) fun g => modGroup g fun y => { y with read := y.read.map fun j => { j with got := [] } }
  (((s4.modCal fun c => { c with tables := {} }).modHk fun k => { k with queue := [] }).modSpindle fun p => {
    lines := p.lines, ackPulse := p.ackPulse, ratios := p.ratios, warm := p.warm, ocxo := p.ocxo, ref10 := p.ref10
    refAccepted := p.refAccepted }).originsGone

/-- The clearing of R414: trust working store, token buffer, decrypted keys, chain state and generators; the read path of
the device key is blocked. (DEDUCED, log 100.) -/
def clearSecrets (level : Nat) (s : State) : State :=
  let s1 := s.modTrust fun t => { t with
    token := [], challenge := none, session := none, prep := [], keys := [], entropy := [], keyLatched := true
    clearingDone := true }
  (s1.each (List.range 16) fun b => modFlyer b fun f => { f with gen := 0 }).cond (level = 2) clearSram

/-- The unlock proceeds once its close manifest has entered the queue (spec 17 R413 steps 2-4). -/
def unlock (level handle : Nat) (s : State) : State :=
  let s1 := (s.whorlStop.setInhibit 8 true).modWhorl fun w => { w with faults := w.faults ||| 32 }
  ((s1.enter .fault 0xE 0x21 2 (some handle)).clearSecrets level).modTrust (fun t => { t with
    unlocking := none, unlocked := level, unlockedAt := s.now }) |>.succeed handle []

/-- The first manifest in preparation enters the class-2 queue when it is signed and the queue has room (spec 13 R316,
17 R411). -/
def queueManifest (s : State) : State :=
  match s.trust.prep with
  | [] => s
  | p :: rest =>
    match p.sigs with
    | none => s
    | some (rsa, slh) =>
      if (s.recs.refusal .class2 Src.trust [manifestSize]).isSome then s
      else
        let seq := s.recs.seqOf Src.trust
        let s1 := (s.modTrust fun t => { t with prep := rest }).offer .class2 Src.trust none [s.manifestBytes p rsa slh]
        let s2 := match p.handle with
          | some h => s1.succeed h (le 4 p.number ++ le 4 seq)
          | none => s1
        match p.closing, s2.trust.unlocking with
        | true, some (level, handle) => s2.unlock level handle
        | _, _ => s2

/-- Every manifest that can enters the queue, in order. -/
def queueManifests (s : State) : State := s.each s.trust.prep fun _ s => s.queueManifest

/-- The signatures of a manifest's body are made with the attestation keys (spec 17 R396, R410, R411), of the first manifest
without them: RSASSA-PSS with a salt, and SLH-DSA hedged, with fresh octets from the entropy source, which stand in the
pool. -/
def manifestSigned (salt hedge : List Byte) (s : State) : State :=
  let k := s.trust.prep.findIdx fun p => p.sigs.isNone
  (s.modTrust fun t => { t with
    entropy := salt ++ hedge
    prep := nthMod t.prep k fun p => { p with
      sigs := some (Config.rsaSign t.keys p.body salt, Config.slhSign t.keys p.body hedge) } }).queueManifests

/-- DEBUG UNLOCK, phase 1 (spec 17 R413): the detail of a token that lacks the valid challenge is open (DESIGN CHOICE,
log 31). -/
def debugToken (handle : Nat) (s : State) : State :=
  let level := s.tokenField 5 1
  match s.tokenError 3 with
  | some d => s.clearToken.failed handle d
  | none =>
    if !s.trust.challenge.any fun c => decide (c.1.toNat = s.tokenField 112 32 ∧ s.now < c.2 + us 60000000) then
      s.clearToken.failedOpen handle
    else if s.trust.session.isSome then
      (s.clearToken.closeSession 8 []).modTrust fun t => { t with unlocking := some (level, handle) }
    else s.clearToken.unlock level handle

/-- DEBUG UNLOCK, phase 2: a challenge from the entropy source, whose value is open (DESIGN CHOICE, log 3). -/
def newChallenge (handle : Nat) (s : State) : State :=
  let (v, s1) := s.draw (2 ^ 256)
  (s1.modTrust fun t => { t with challenge := some (BitVec.ofNat 256 v, s.now), entropy := le 32 v }).succeed handle (le 32 v)

/-- The checks of DEBUG UNLOCK: its close manifest is one in preparation (spec 17 R411, R413; DEDUCED, log 96). -/
def debugCheck (phase offset : Nat) (data : List Byte) (s : State) : Ack :=
  match phase with
  | 0 => chunkCheck offset data
  | 1 =>
    match s.tokenCheck 3 with
    | .accepted => if s.prepFull && s.trust.session.isSome then .busy 1 else .accepted
    | a => a
  | 2 => .accepted
  | _ => .wrongArg 16

/-- DEBUG UNLOCK (spec 17 R400, R413). -/
def debugCommand (phase offset : Nat) (data : List Byte) (handle : Nat) (s : State) : State :=
  match phase with
  | 0 => s.putChunk offset data handle
  | 1 => s.debugToken handle
  | _ => s.newChallenge handle

/-! ## ATTESTATION CONTROL and MANIFEST -/

/-- The device has a certificate (spec 17 R406). (DESIGN CHOICE, log 96.) -/
def certified (s : State) : Bool := num s.trust.certificate 0 2 = 1

/-- The checks of ATTESTATION CONTROL (spec 17 R407, R411). (DEDUCED, log 96.) -/
def attestCheck (opening : Bool) (interval : Nat) (s : State) : Ack :=
  if opening = s.trust.session.isSome then .wrongState Src.trust
  else if 3600 < interval then .wrongArg 18
  else if s.prepFull then .busy 1
  else .accepted

/-- ATTESTATION CONTROL (spec 17 R406, R407, R412). -/
def attest (opening : Bool) (interval : Nat) (nonce : List Byte) (handle : Nat) (s : State) : State :=
  if opening then
    if s.trust.keyLatched then s.failedOpen handle
    else if s.certified then (s.openSession interval nonce).succeed handle [] else s.failed handle 0x0054
  else (s.closeSession 0 nonce).succeed handle []

/-- The checks of MANIFEST (spec 17 R411). -/
def manifestCheck (kind offset : Nat) (s : State) : Ack :=
  match kind with
  | 1 => if s.trust.session.isNone then .wrongState Src.trust else if s.prepFull then .busy 1 else .accepted
  | 3 => if offset % 8 ≠ 0 ∨ certSize ≤ offset then .wrongArg 20 else .accepted
  | _ => .wrongArg 16

/-- MANIFEST (spec 17 R411); a certificate read returns the total length in 8 bytes, then as many bytes as an entry holds
(DESIGN CHOICE, log 20). (DESIGN CHOICE, log 96.) -/
def manifestCommand (kind offset : Nat) (nonce : List Byte) (handle : Nat) (s : State) : State :=
  if kind = 1 then s.cut .checkpoint 0 nonce (some handle)
  else if s.certified then s.succeed handle (le 8 certSize ++ ((s.trust.certificate.take certSize).drop offset).take 4056)
  else s.failed handle 0x0054

/-- An automatic instant (spec 17 R409, R411, R412). -/
def automaticCut (s : State) : State :=
  match s.trust.session with
  | none => s
  | some x =>
    let span := us 1000000 * x.interval
    if x.interval = 0 ∨ s.now ≤ x.openAt ∨ (s.now - x.openAt) % span ≠ 0 then s
    else if s.prepFull || !s.dist.up then
      s.modTrust fun t => { t with session := some { x with skipped := x.skipped + 1 } }
    else s.cut .checkpoint 1 [] none

/-- The challenge expires 60 s after it was given (spec 17 R413). -/
def challengeExpires (s : State) : State :=
  s.cond (s.trust.challenge.any fun c => decide (c.2 + us 60000000 ≤ s.now)) (modTrust fun t => { t with challenge := none })

/-- The test-access instructions of the unlocked level open 1 ms after the completion (spec 17 R413). -/
def openAccess (s : State) : State :=
  s.cond (s.trust.unlocked ≠ 0 && decide (s.trust.unlockedAt + us 1000 ≤ s.now)) (modTrust fun t => { t with
    access := t.unlocked })

/-! ## Test access port (spec 17 R415) -/

/-- Whether the device admits an instruction: the four public ones from STANDBY on, the others by the unlocked level.
(DEDUCED, log 99.) -/
def tapAllowed (s : State) (i : TapInstr) : Bool :=
  s.dev ≠ .off && (match i with
    | .debug => decide (1 ≤ s.trust.access)
    | .scan => decide (2 ≤ s.trust.access) && s.trust.clearingDone
    | _ => true)

/-- EXTEST drives pins in STANDBY and BOOT only, and acts as BYPASS elsewhere (spec 17 R415). -/
def extestDrives (s : State) : Bool := s.trust.tap = .extest && (s.dev = .standby || s.dev = .boot)

/-- The pins that EXTEST holds low whatever the boundary register holds (spec 17 R415). -/
def heldLow (p : TapPin) : Bool := match p with | .other _ => false | _ => true

/-- What the boundary cells drive, none while they are released (spec 17 R415). -/
def cellsDrive (s : State) : Option (List (TapPin × Bool)) :=
  if s.extestDrives then some (s.trust.boundary.map fun c => (c.1, c.2 && !heldLow c.1)) else none

/-- The level of a pin that the model holds: of a cell that EXTEST drives, of HPn_EN and of EMIT_PERMIT; none of any other.
(DEDUCED, log 99.) -/
def pinLevel (s : State) (p : TapPin) : Option Bool :=
  match s.cellsDrive with
  | some l => if heldLow p then some false else (l.find? fun c => c.1 = p).map fun c => c.2
  | none =>
    match p with
    | .emitPermit => some s.emitPermit
    | .hpEn n =>
      let p := s.port n
      some (!s.latch.set && (p.state.sends || (p.state = .probing && decide (p.closedAt ≤ s.now ∧ s.now < p.probeEnd))))
    | _ => none

/-- An instruction takes effect: the data register of IDCODE and BYPASS is fixed; SAMPLE/PRELOAD takes the levels of the pins
whose cells are shifted in, and then these stand in the boundary register. (DEDUCED, log 99.) -/
def tapLoad (i : TapInstr) (s : State) : State :=
  s.cond (s.tapAllowed i) fun s =>
    let s1 := match i with
      | .samplePreload cells => s.modTrust fun t => { t with
          boundary := cells
          sampled := cells.filterMap fun (c : TapPin × Bool) => (s.pinLevel c.1).map fun v => (c.1, v) }
      | _ => s
    s1.modTrust fun t => { t with tap := i, tapData := if i = .idcode then idcode else 0 }

end State

/-! ## Meanings -/

/-- ATTESTATION_CONTROL: spec 17 R407, R412. -/
def execAttestationControl (t : Tick) (h : Hdr) (opening : Bool) (interval : Nat) (nonce : List Byte) (s : State) :
    Host.Outcome State Fault Refusal :=
  .next ((s.advance t).command 0x1101 h (State.attestCheck opening interval) (State.attest opening interval nonce))

/-- MANIFEST: spec 17 R411. -/
def execManifest (t : Tick) (h : Hdr) (kind offset : Nat) (nonce : List Byte) (s : State) :
    Host.Outcome State Fault Refusal :=
  .next ((s.advance t).command 0x1102 h (State.manifestCheck kind offset) (State.manifestCommand kind offset nonce))

/-- KEY_SLOT_WRITE: spec 17 R400, R401. -/
def execKeySlotWrite (t : Tick) (h : Hdr) (phase offset : Nat) (data : List Byte) (s : State) :
    Host.Outcome State Fault Refusal :=
  .next ((s.advance t).command 0x1103 h (State.keyCheck 1 phase offset data) (State.keyCommand 1 phase offset data))

/-- KEY_REVOKE: spec 17 R400, R401. -/
def execKeyRevoke (t : Tick) (h : Hdr) (phase offset : Nat) (data : List Byte) (s : State) :
    Host.Outcome State Fault Refusal :=
  .next ((s.advance t).command 0x1104 h (State.keyCheck 2 phase offset data) (State.keyCommand 2 phase offset data))

/-- DEBUG_UNLOCK: spec 17 R400, R413, R414. -/
def execDebugUnlock (t : Tick) (h : Hdr) (phase offset : Nat) (data : List Byte) (s : State) :
    Host.Outcome State Fault Refusal :=
  .next ((s.advance t).command 0x1105 h (State.debugCheck phase offset data) (State.debugCommand phase offset data))

/-- AUTOMATIC_CUT: spec 17 R409. -/
def execAutomaticCut (t : Tick) (s : State) : Host.Outcome State Fault Refusal := .next (s.advance t).automaticCut

/-- MANIFEST_SIGNED: spec 17 R410, R411. -/
def execManifestSigned (t : Tick) (salt hedge : List Byte) (s : State) : Host.Outcome State Fault Refusal :=
  .next ((s.advance t).manifestSigned salt hedge)

/-- CHALLENGE_EXPIRY: spec 17 R413. -/
def execChallengeExpiry (t : Tick) (s : State) : Host.Outcome State Fault Refusal := .next (s.advance t).challengeExpires

/-- DEBUG_ACCESS_OPEN: spec 17 R413. -/
def execDebugAccessOpen (t : Tick) (s : State) : Host.Outcome State Fault Refusal := .next (s.advance t).openAccess

/-- TEST_ACCESS_PORT_INSTRUCTION: spec 17 R415. -/
def execTestAccessPortInstruction (t : Tick) (instr : TapInstr) (s : State) : Host.Outcome State Fault Refusal :=
  .next ((s.advance t).tapLoad instr)

end Sys2Proof.Machine
end

