-- ==== Sys2Proof/Machine/Link.lean ====
section
/-! DEFINITION. The host link (spec 14): bring-up, capability exchange, recovery, frames with acknowledgement and replay,
credits, class arbitration, pattern test and the board table. -/

namespace Sys2Proof

namespace Machine

/-! ## Board table (spec 14 R338, Table 14-8) -/

/-- An entry lies within the ranges of Table 14-8. -/
def boardEntryGood (e : BoardEntry) : Bool :=
  -15 ≤ e.pre && e.pre ≤ 0 && 32 ≤ e.main && e.main ≤ 63 && -31 ≤ e.post && e.post ≤ 0 && e.ctle ≤ 15

/-- The lane groups, widest first, of one width the lowest first lane first: width and first lane (spec 14 R321). -/
def laneGroups : List (Nat × Nat) :=
  [(8, 0), (4, 0), (4, 4), (2, 0), (2, 2), (2, 4), (2, 6), (1, 0), (1, 1), (1, 2), (1, 3), (1, 4), (1, 5), (1, 6), (1, 7)]

/-- The lanes of a group as a mask. -/
def groupMask (width first : Nat) : BitVec 8 := BitVec.ofNat 8 ((2 ^ width - 1) * 2 ^ first)

/-- The group that R321 takes of the lanes that work. -/
def pickGroup (lanes : BitVec 8) : Option (Nat × Nat) :=
  laneGroups.find? fun g => groupMask g.1 g.2 &&& lanes = groupMask g.1 g.2

/-! ## Serial numbers of 12 bits (spec 14 R326, R330) -/

/-- Serial difference from `y` to `x`. -/
def serial12 (x y : Nat) : Int := signed 12 (x + 4096 - y % 4096)

/-! ## Frames (spec 14 R323-R325) -/

/-- A control block: its type and the 56-bit field of Table 14-3. -/
def controlBlock (type field : Nat) : List Byte := BitVec.ofNat 8 type :: le 7 field

/-- An SOF block: class, number, payload length in words, first-record offset. -/
def sofBlock (cls seq words first : Nat) : List Byte :=
  controlBlock 0x33 (cls + 4 * seq + 16384 * words + 2097152 * first)

/-- A frame's blocks: SOF, payload, EOF with the CRC over SOF bytes 1-7 and the payload. -/
def frameBytes (cls seq first : Nat) (payload : List Byte) : List Byte :=
  let sof := sofBlock cls seq (payload.length / 8) first
  sof ++ payload ++ controlBlock 0x4B (crc32c (sof.drop 1 ++ payload)).toNat

/-- Bytes in blocks of 8. -/
def inBlocks (b : List Byte) : List (List Byte) := (List.range ((b.length + 7) / 8)).map fun i => (b.drop (8 * i)).take 8

/-- A frame's blocks, each with whether it is a control block: the first and the last are. -/
def frameBlocks (b : List Byte) : List (Bool × List Byte) :=
  let l := inBlocks b
  (List.range l.length).map fun i => (i = 0 || i + 1 = l.length, l.getD i [])

/-- A block's 64 bits through the self-synchronising scrambler 1 + x^39 + x^58, bit 0 first (spec 14 R319): what goes on
the line, and the register after it, in which bit 57 is the newest line bit. The first 39 line bits follow from the
register alone, the last 25 from it and them. -/
def scramble (reg : BitVec 58) (x : BitVec 64) : BitVec 64 × BitVec 58 :=
  let r := reg.toNat
  let a := (x.toNat ^^^ r ^^^ (r / 2 ^ 19)) % 2 ^ 39
  let b := ((x.toNat / 2 ^ 39) ^^^ ((r + a * 2 ^ 58) / 2 ^ 39) ^^^ a) % 2 ^ 25
  let y := a + b * 2 ^ 39
  (BitVec.ofNat 64 y, BitVec.ofNat 58 (y / 2 ^ 6))

/-! ## Frames in (spec 14 R323-R325, 15 R353) -/

/-- The control blocks of Table 14-3. -/
def knownTypes : List Nat := [0x1E, 0x2D, 0x33, 0x4B, 0x55, 0x66, 0x78]

/-- Opcode and header of a command entry from its first bytes (spec 15 Table 15-2), of which `recv` bytes have arrived. -/
def headerOf (path : Path) (b : List Byte) (recv : Nat) : Nat × Hdr :=
  (State.num b 0 2, ⟨path, State.num b 4 2,
    if (State.num b 6 1).testBit 0 then some (State.num b 8 4, State.num b 12 2) else none, State.num b 2 2, recv⟩)

/-- The entries whose last byte stands among the bytes of class 3, and the bytes left of the entry that goes on. An entry
whose length cannot be ends with the bytes there are, and so does one that is still short where the next record begins
(`ends`). (DEDUCED, log 131.) -/
def entriesOf (ends : Bool) : Nat → List Byte → List (Nat × Hdr) × List Byte
  | 0, b => ([], b)
  | n + 1, b =>
    let len := State.num b 2 2
    if b = [] then ([], [])
    else if 4 ≤ b.length && (len < 16 || 4096 < len || len % 8 ≠ 0) then ([headerOf .link b b.length], [])
    else if len ≤ b.length then
      let (es, r) := entriesOf ends n (b.drop len)
      (headerOf .link b len :: es, r)
    else if ends then ([headerOf .link b b.length], [])
    else ([], b)

end Machine

open Machine

/-- The type of a control block. -/
def Block.type (b : Block) : Nat := State.num b.bytes 0 1

/-- A control block of no type of Table 14-3 (spec 14 R323). -/
def Block.unknown (b : Block) : Bool := b.control && b.type ∉ knownTypes

/-- The blocks of a frame, its EOF the last, without the ALIGN and IDLE blocks that may fall between them (spec 14 R324). -/
def FrameIn.own (f : FrameIn) : List Block :=
  let l := f.blocks.filter fun b => !(b.control && b.type ∈ [0x1E, 0x2D])
  l.take (l.findIdx (fun b => b.control && b.type = 0x4B) + 1)

/-- The SOF block's bytes 1-7. -/
def FrameIn.head (f : FrameIn) : List Byte := (f.own.head?.map fun b => b.bytes.drop 1).getD []

/-- The class that the SOF block states. -/
def FrameIn.cls (f : FrameIn) : Nat := bits (fromLe f.head) 0 2

/-- The frame sequence number that it states. -/
def FrameIn.seq (f : FrameIn) : Nat := bits (fromLe f.head) 2 12

/-- The payload length in words that it states. -/
def FrameIn.words (f : FrameIn) : Nat := bits (fromLe f.head) 14 7

/-- The first-record offset that it states. -/
def FrameIn.first (f : FrameIn) : Nat := bits (fromLe f.head) 21 7

/-- The payload: what stands between SOF and EOF. -/
def FrameIn.payload (f : FrameIn) : List Byte := (f.own.drop 1).dropLast.flatMap fun b => b.bytes

/-- A good frame (spec 14 R324, R325): SOF, 1 to 64 data blocks, at most 32 outside class 0, and EOF, with the length and
the CRC that its blocks have; no data block follows it. An unknown control block after the EOF is discarded alone (R323).
(DEDUCED, log 131.) -/
def FrameIn.good (f : FrameIn) : Bool :=
  let inner := (f.own.drop 1).dropLast
  (f.own.head?.any fun b => b.control && b.type = 0x33) && (f.own.getLast?.any fun b => b.control && b.type = 0x4B)
    && inner.all (fun b => !b.control) && inner.length = f.words && 1 ≤ f.words
    && (f.blocks.filter fun b => !b.control).length = inner.length
    && f.words ≤ (if f.cls = 0 then 64 else 32)
    && f.own.getLast?.any fun b => State.num b.bytes 1 4 = (crc32c (f.head ++ f.payload)).toNat

/-- The entries that a frame completes after the bytes already received of one, and what it begins (spec 14 R324). -/
def FrameIn.take (f : FrameIn) (begun : List Byte) : List (Nat × Hdr) × List Byte :=
  let p := f.payload
  if f.first = 127 then entriesOf false 512 (begun ++ p)
  else
    let (done, _) := entriesOf true 512 (begun ++ p.take (8 * f.first))
    let (es, r) := entriesOf false 512 (p.drop (8 * f.first))
    (done ++ es, r)

namespace Machine

/-! ## Pattern checkers (spec 14 R344) -/

/-- A lane's checker at some bit: where its run without errors began, where it locked, its counts over the bits before the
lock it holds, and the positions of the last errors in the lock. -/
structure Checker where
  start : Nat := 0
  lockedAt : Option Nat := none
  bits : Nat := 0
  errors : Nat := 0
  lockLosses : Nat := 0
  last : List Nat := []
  deriving DecidableEq, Repr

/-- An error while locked: the sixty-fourth within 1,024 bits loses the lock. -/
def Checker.fail (c : Checker) (lock p : Nat) : Checker :=
  let l := recent 64 (c.last ++ [p])
  if l.length = 64 ∧ p < l.headD 0 + 1024 then
    { start := p + 1, bits := c.bits + (p + 1 - lock), errors := c.errors + 1, lockLosses := c.lockLosses + 1 }
  else { c with lockedAt := some lock, errors := c.errors + 1, last := l }

/-- A bit in error at position `p`: 128 bits without one before it have locked the checker. -/
def Checker.error (c : Checker) (p : Nat) : Checker :=
  match c.lockedAt with
  | some k => c.fail k p
  | none => if c.start + 128 ≤ p then c.fail (c.start + 128) p else { c with start := p + 1 }

/-- Bits compared while locked, errors while locked and lock losses after `n` bits with errors at the given positions.
(DEDUCED, log 132.) -/
def checked (n : Nat) (errors : List Nat) : Nat × Nat × Nat :=
  let c := (errors.filter fun p => decide (p < n)).foldl Checker.error {}
  let lock := c.lockedAt.getD (c.start + 128)
  (c.bits + (n - lock), c.errors, c.lockLosses)

/-- The taps of a generator's polynomial (spec 14 Table 14-9). -/
def prbsTaps (gen : Nat) : Nat × Nat := nth (7, 6) [(7, 6), (7, 6), (15, 14), (31, 28)] gen

/-- `n` bits of a pattern after the last 31 of it, newest first (spec 14 Table 14-9): each is the exclusive or of the two
that
the polynomial names. -/
def prbs (taps : Nat × Nat) : Nat → List Bool → List Bool
  | 0, _ => []
  | n + 1, last =>
    let b := xor (nth false last (taps.1 - 1)) (nth false last (taps.2 - 1))
    b :: prbs taps n (b :: last.take 30)

/-- The first `n` raw bits of a lane in TEST (spec 14 R343, R344): the pattern from a seed, inverted where O.150 inverts
it, an
injected error inverting bit `at_`, or in periodic mode that bit of each period. Without a generator there are none. -/
def testBits (x : LaneTest) (seed at_ n : Nat) : List Bool :=
  if x.gen = 0 then []
  else
    let last := (List.range 31).map fun i => (1 + seed % (2 ^ (prbsTaps x.gen).1 - 1)).testBit i
    (prbs (prbsTaps x.gen) n last).mapIdx fun i b =>
      let hit := if x.inject = 1 then i = at_ else x.inject = 2 && i % x.period = at_ % x.period
      xor (xor b (Config.prbsInverted x.gen)) hit

/-- Raw bits of a lane in a time at a rate (spec 14 Table 14-2): 10.3125, 12.5 and 25.78125 Gb/s, in 1/32. -/
def laneBits (rate : Nat) (time : Tick) : Nat := time * nth 330 [330, 400, 825] rate / (32 * 4096)

/-- The 16,384 block times of 6.40, 5.28 and 2.56 ns between alignment columns, in ticks rounded up (spec 14 R320, R322). -/
def alignPeriod (rate : Nat) : Tick := nth 0 [429496730, 354334802, 171798692] rate

/-- A record is FRAME CLOSED. -/
def isFrameClosed (x : Rec) : Bool := x.src = Src.spindle && State.num x.bytes 6 2 = 0x25

/-- The first event of a class-0 queue that nothing holds back: FRAME CLOSED waits behind loss records queued before it
(spec 14 R332). -/
def nextEvent : Bool → List Rec → Option Rec
  | _, [] => none
  | lossSeen, x :: r =>
    if x.src = Src.loss then nextEvent true r
    else if lossSeen && isFrameClosed x then nextEvent lossSeen r
    else some x

/-- The class-0 record that leaves next: events ahead of loss records. -/
def next0 (q : List Rec) : Option Rec := (nextEvent false q).or (q.find? fun x => x.src = Src.loss)

/-- The whole records that a class-0 frame takes from a queue with `room` bytes left, at most `n` of them, and the queue that
is left. -/
def take0 : Nat → Nat → List Rec → List Rec → List Rec × List Rec
  | 0, _, acc, q => (acc, q)
  | n + 1, room, acc, q =>
    match next0 q with
    | none => (acc, q)
    | some x => if x.bytes.length ≤ room then take0 n (room - x.bytes.length) (acc ++ [x]) (q.erase x) else (acc, q)

/-- What a frame of classes 1-3 takes from a queue: payload, records whose last byte it holds, and the queue that is
left. -/
def takeBytes : Nat → List Rec → List Byte × List Rec × List Rec
  | _, [] => ([], [], [])
  | room, x :: r =>
    let rest := x.bytes.drop x.sent
    if room = 0 then ([], [], x :: r)
    else if rest.length ≤ room then
      let (p, d, q) := takeBytes (room - rest.length) r
      (rest ++ p, x :: d, q)
    else (rest.take room, [], { x with sent := x.sent + room } :: r)

/-- The first-record offset in words: where the first record begins that begins in the frame, or 127 (spec 14 R323). -/
def firstOffset (q : List Rec) : Nat :=
  match q with
  | [] => 127
  | x :: r => if x.sent = 0 then 0
    else if r ≠ [] ∧ x.bytes.length - x.sent < 256 then (x.bytes.length - x.sent) / 8 else 127

namespace State

/-! ## Rates and training (spec 14 R335, R339, R341) -/

/-- The board table's entry of a lane at a rate. -/
def boardEntry (s : State) (lane rate : Nat) : BoardEntry := Store.read factoryEntry s.link.table (3 * lane + rate)

/-- A rate is enabled for every lane, and the peer supports it. -/
def rateUsable (s : State) (r : Nat) : Bool :=
  ((List.range 8).all fun l => (s.boardEntry l r).enabled) && s.link.peerRates.getLsbD r

/-- The highest usable rate below `limit`. -/
def rateBelow (s : State) (limit : Nat) : Option Nat := [2, 1, 0].find? fun r => decide (r < limit) && s.rateUsable r

/-! ## What the transmit lanes carry (spec 14 R319, R321, R323) -/

/-- A block goes out on a lane: scrambled but for its header, and inverted where the board table says so (spec 14 R319,
R338). -/
def putBlock (lane : Nat) (control : Bool) (bytes : List Byte) (s : State) : State :=
  let (y, reg) := scramble (nth 0 s.link.scramblers lane) (BitVec.ofNat 64 (fromLe bytes))
  let inv := (s.boardEntry lane s.link.rate).txInvert
  let header := if control then 2 else 1
  s.modLink fun l => { l with
    scramblers := nthMod l.scramblers lane fun _ => reg
    wire := recent 128 (l.wire ++ [⟨lane, if inv then 3 - header else header, if inv then ~~~ y else y⟩]) }

/-- Blocks of the stream, each on the next lane of the group in turn (spec 14 R321). -/
def putStream (blocks : List (Bool × List Byte)) (s : State) : State :=
  s.each blocks fun b s => (s.putBlock (s.link.first + s.link.streamPos % s.link.width) b.1 b.2).modLink fun l => { l with
    streamPos := (l.streamPos + 1) % 8 }

/-- A column: one block on each lane of the group in one block slot, after IDLE blocks up to the slot (spec 14 R322).
(DEDUCED, log 133.) -/
def putColumn (block : Nat → List Byte) (s : State) : State :=
  let w := s.link.width
  let fill := (w - s.link.streamPos % w) % w
  s.putStream (List.replicate fill (true, controlBlock 0x1E 0) ++ (List.range w).map fun i => (true, block i))

/-- The ALIGN block of a lane of the group. -/
def alignBlock (s : State) (i : Nat) : List Byte :=
  controlBlock 0x2D (i + 8 * s.link.width + 128 * s.link.rate + 512 * (s.link.alignSent % 65536))

/-- The rates enabled for every lane. -/
def ownRates (s : State) : Nat :=
  ((List.range 3).map fun r => if (List.range 8).all fun l => (s.boardEntry l r).enabled then 2 ^ r else 0).sum

/-- The TRAIN block of a lane (spec 14 R323, R340), with the locked bit of its receiver. -/
def trainWord (s : State) (lane : Nat) : List Byte :=
  controlBlock 0x66 (lane + 8 * s.link.stage.code + 128 * s.link.rate + 512 * s.ownRates
    + 4096 * (s.link.rxLocked.getLsbD lane).toNat)

/-- The content of the CAP block of an index (spec 14 Table 14-6). -/
def capContent (s : State) (i : Nat) : Nat :=
  let fused := Config.fusedIdentity.toNat
  match i with
  | 0 => 1 + 2 ^ 16 + 0x7256 * 2 ^ 24 + bits fused 72 8 * 2 ^ 40
  | 1 => bits fused 0 48
  | 2 => bits fused 48 5 + bits fused 56 8 * 2 ^ 8 + bits fused 64 8 * 2 ^ 16
  | 3 => s.link.rate + 4 * s.link.width + 64 * s.link.first + s.link.locked.toNat * 2 ^ 16
  | 4 => 64 + 32 * 2 ^ 8 + 1024 * 2 ^ 16
  | 5 => s.link.rxGranted + s.dev.code * 2 ^ 16
  | 6 => (s.link.rxSeq + 4095) % 4096 + flagBit 12 (s.link.state = .recovery)
  | _ => 0

/-- The CAP blocks of some indices go out. -/
def putCaps (l : List Nat) (s : State) : State :=
  s.putStream (l.map fun i => (true, controlBlock 0x78 (i + 16 * s.capContent i)))

/-- The link goes to another stage of bring-up; in RECOVERY its state stays RECOVERY (spec 14 Table 14-4). -/
def toStage (st : LinkState) (s : State) : State :=
  if s.link.state = .recovery then s.modLink fun l => { l with stage := st, since := s.now } else s.setLink st

/-- The link goes DOWN (spec 14 Table 14-4); a retrain that waits for ACTIVE fails. (DEDUCED, log 93.) -/
def linkDown (s : State) : State :=
  let s1 := (s.setLink .down).modLink fun l => { l with
    stage := .down, width := 0, first := 0, retrain := none, test := none }
  match s.link.retrain with
  | some h => s1.failedOpen h
  | none => s1

/-- TRAIN starts on a set of lanes at a rate; without a rate left the link goes DOWN. -/
def startTrain (lanes : BitVec 8) (rate : Option Nat) (s : State) : State :=
  match rate with
  | none => s.linkDown
  | some r => ((s.modLink fun l => { l with
      rate := r, lanes := lanes, locked := 0, capMask := 0, caps := [], disagreed := false, aligned := false
      rxLocked := if l.rate = r ∧ l.state = .recovery then l.rxLocked else 0
      peerLocked := 0, alignAt := none, streamPos := 0 }).toStage .train).each
        ((List.range 8).filter fun i => lanes.getLsbD i) fun i s => s.putBlock i true (s.trainWord i)

/-- The stage fails: TRAIN at the next lower rate. -/
def stageFails (s : State) : State := s.startTrain s.link.lanes (s.rateBelow s.link.rate)

/-- TRAIN ends: the lanes that locked set the width (spec 14 R335, R321). -/
def endTrain (s : State) : State :=
  match pickGroup (s.link.locked &&& s.link.lanes) with
  | none => s.stageFails
  | some (w, f) => (s.modLink fun l => { l with width := w, first := f }).toStage .deskew

/-- The link enters RECOVERY on a set of lanes at a rate (spec 14 R339). (DEDUCED, log 88.) -/
def enterRecovery (lanes : BitVec 8) (rate : Option Nat) (s : State) : State :=
  ((s.setLink .recovery).modLink fun l => { l with
    recoverAt := s.now, replay := [], nakIn := none, nakAt := none }).startTrain lanes rate

/-- A lane loss or a TRAIN block: RECOVERY at the present rate on the present group. -/
def recoverLink (s : State) : State :=
  s.enterRecovery (groupMask s.link.width s.link.first) (some s.link.rate)

/-- A lane's receiver has lost its lock (spec 14 R339, R340). -/
def laneLost (lane : Nat) (s : State) : State :=
  (s.modLink fun l => { l with rxLocked := l.rxLocked &&& ~~~ BitVec.ofNat 8 (2 ^ lane) }).recoverLink

/-- A lane is of the present group. -/
def laneIn (s : State) (lane : Nat) : Bool := (groupMask s.link.width s.link.first).getLsbD lane && decide (lane < 8)

/-- DOWN has lasted 100 ms (spec 14 Table 14-4): bring-up needs the supply and the link PLL, and there is none in
SELF-TEST. -/
def downEnds (s : State) : State :=
  if s.link.state = .down ∧ s.link.since + us 100000 ≤ s.now ∧ s.powered ∧ s.boot.plls.getLsbD 2 ∧ s.dev ≠ .selfTest then
    s.linkDetect else s

/-- Receiver detect ends (spec 14 Table 14-4); with no lane it starts again 10 ms later. -/
def detectDone (lanes : BitVec 8) (s : State) : State :=
  if s.link.state ≠ .detect ∨ s.now < s.link.since + us 100 then s
  else if lanes = 0 then s.modLink fun l => { l with since := s.now + us 10000 }
  else (s.modLink fun l => { l with detected := lanes }).startTrain lanes (s.rateBelow 3)

/-- A lane has locked in both directions: its receiver has held bit lock and block lock for 1.0 ms, and the peer shows
its own
locked (spec 14 R335). (DEDUCED, log 134.) -/
def laneLocks (lane : Nat) (s : State) : State :=
  if s.link.stage ≠ .train ∨ !s.link.lanes.getLsbD lane ∨ !s.link.peerLocked.getLsbD lane
      ∨ !s.link.rxLocked.getLsbD lane ∨ s.now < nth 0 s.link.lockAt lane + us 1000 then s
  else
    let s1 := s.modLink fun l => { l with locked := l.locked ||| BitVec.ofNat 8 (2 ^ lane) }
    s1.cond (s1.link.locked &&& s1.link.lanes = s1.link.lanes) endTrain

/-- A stage's time has run out (spec 14 R335). -/
def stageTimeout (s : State) : State :=
  match s.link.stage with
  | .train => s.cond (decide (s.link.since + us 8000 ≤ s.now)) endTrain
  | .deskew => s.cond (decide (s.link.since + us 1000 ≤ s.now)) stageFails
  | .exchange => s.cond (decide (s.link.since + us 1000 ≤ s.now)) stageFails
  | _ => s

/-- The class-3 credit count that the device grants: 64 frames of intake from SAFE on, none further while responses for the
link wait (spec 14 R331, 15 R356). (DEDUCED, log 87.) -/
def grant (s : State) : Nat :=
  let held := s.dist.frames.length
  if !s.dev.fromSafe ∨ s.dist.waiting.any fun r => r.path = .link then s.link.rxGranted
  else
    let g := (s.link.rxAccepted + 64 - min 64 held) % 4096
    if 0 < serial12 g s.link.rxGranted then g else s.link.rxGranted

/-- At a bring-up the class-3 counts start anew: what the exchange states as granted (spec 14 R331, Table 14-6). -/
def grantAnew (s : State) : State :=
  let s1 := s.modLink fun l => { l with rxAccepted := 0, rxGranted := 0 }
  s1.modLink fun l => { l with rxGranted := s1.grant }

/-- The stream of blocks runs: from DESKEW on (spec 14 R321, R322, Table 14-4). -/
def streams (s : State) : Bool := s.link.stage ∈ [.deskew, .exchange, .active]

/-- An alignment column (spec 14 R322): up to 96 ns of skew is tolerated. -/
def alignLanes (skew count : Nat) (s : State) : State :=
  if s.link.stage = .deskew then
    if 96000 < skew then s
    else
      let s1 := (s.modLink fun l => { l with aligned := true, alignCount := count % 65536 }).toStage .exchange
      (s1.cond (s1.link.state ≠ .recovery) grantAnew).putCaps (List.range 16)
  else s.cond s.streams (modLink fun l => { l with
    aligned := decide (skew ≤ 96000), alignCount := count % 65536 })

/-- An alignment column goes out every 16,384 block times (spec 14 R322). -/
def alignSend (s : State) : State :=
  let l := s.link
  s.cond (s.streams && l.alignAt.all fun a => decide (a + alignPeriod l.rate ≤ s.now)) fun s =>
    (s.putColumn s.alignBlock).modLink fun l => { l with alignSent := (l.alignSent + 1) % 65536, alignAt := some s.now }

/-- An IDLE column goes out (spec 14 R322). -/
def idleSend (s : State) : State :=
  (s.putColumn fun _ => controlBlock 0x1E 0).modLink fun l => { l with idleSent := (l.idleSent + 1) % 2 ^ 32 }

/-- An IDLE column is deleted or repeated by the elastic buffers (spec 14 R322). -/
def idleColumn (delete : Bool) (s : State) : State :=
  s.modLink fun l => if delete then { l with idleDeleted := (l.idleDeleted + 1) % 2 ^ 32 }
    else { l with idleRepeated := (l.idleRepeated + 1) % 2 ^ 32 }

/-! ## Acknowledgement, replay and credits (spec 14 R327-R331) -/

/-- Handles whose completion the host has acknowledged retire (spec 15 R357). -/
def retireHandles (hs : List Nat) (s : State) : State :=
  s.cond (hs ≠ []) (modDist fun d => { d with live := d.live.filter fun x => x.handle ∉ hs })

/-- Frames up to and including a number are acknowledged (spec 14 R327). -/
def ackFrames (n : Nat) (s : State) : State :=
  let old := fun (f : TxFrame) => decide (serial12 f.seq n ≤ 0)
  let gone := s.link.unacked.filter old
  (s.modLink fun l => { l with
    unacked := l.unacked.filter fun f => !old f, replay := l.replay.filter fun f => !old f
    nakIn := l.nakIn.filter fun x => decide (0 < serial12 x.1 n) }).retireHandles (gone.flatMap fun f => f.handles)

/-- A NAK for a number (spec 14 R327-R329): every frame from it on is due for replay; the sixteenth for one number leads to
RECOVERY. (DEDUCED, log 94.) -/
def nakFrames (n : Nat) (s : State) : State :=
  if s.link.unacked.any fun f => f.seq = n then
    let k := match s.link.nakIn with
      | some (m, c) => if m = n then c + 1 else 1
      | none => 1
    if 16 ≤ k then s.recoverLink
    else s.modLink fun l => { l with
      nakIn := some (n, k), replay := l.unacked.filter fun f => decide (0 ≤ serial12 f.seq n) }
  else s

/-- A LINK block (spec 14 R327, R330): a frame decision in the same cycle still goes by the counts from before it. -/
def linkBlock (ack : Nat) (nak : Bool) (c1 c2 c3 : Nat) (s : State) : State :=
  if s.link.state ≠ .active then s
  else
    let s1 := s.modLink fun l => { l with
      credits := [c1 % 4096, c2 % 4096, c3 % 4096], creditsAt := some s.now
      creditsWas := if l.creditsAt = some s.now then l.creditsWas else l.credits }
    if nak then s1.nakFrames (ack % 4096) else s1.ackFrames (ack % 4096)

/-- A LINK block is sent (spec 14 R327). -/
def sendLink (nak : Bool) (s : State) : State :=
  let g := s.grant
  let ack := if nak then s.link.rxSeq else (s.link.rxSeq + 4095) % 4096
  (s.modLink fun l => { l with
    rxGranted := g, linkSent := (l.linkSent + 1) % 2 ^ 32, needAck := if nak then l.needAck else false
    nakAt := if nak then some s.now else l.nakAt
    links := recent 16 (l.links ++ [(ack, nak, g)]) }).putStream
      [(true, controlBlock 0x55 (ack + flagBit 12 nak + g * 2 ^ 37))]

/-- Invalid blocks are discarded and counted on their lanes (spec 14 R323). -/
def countInvalid (f : FrameIn) (s : State) : State :=
  s.each (f.blocks.filter Block.unknown) fun b => modLink fun l => { l with
    invalid := nthMod l.invalid b.lane fun n => (n + 1) % 2 ^ 32 }

/-- The number of a frame that is not the one expected goes back: the sender replays, and its replay comes out of sequence
(spec 14 R327). (DEDUCED, log 94.) -/
def replayAgain (s : State) (seq : Nat) : Bool := s.link.nakLast.any fun n => decide (serial12 seq n ≤ 0)

/-- The entries of a link frame arrive: ahead of the doorbells of the same cycle (spec 15 R352). -/
def arrive (es : List (Nat × Hdr)) (s : State) : State :=
  s.modDist fun d =>
    let same := fun (a : Arrival) => a.at_ = s.now && a.hdr.path ≠ .link
    { d with
      intake := d.intake.filter (fun a => !same a) ++ es.map (fun e => ⟨e.1, e.2, s.now⟩) ++ d.intake.filter same
      frames := d.frames ++ [es.length] }

/-- A host frame (spec 14 R325, R327, R331): accepted in order, or discarded with a NAK or as a protocol error.
(DEDUCED, log 87.) -/
def receiveFrame (f : FrameIn) (s : State) : State :=
  let s := s.countInvalid f
  let l := s.link
  if l.state ≠ .active then s
  else if f.good && f.seq = l.rxSeq then
    if f.cls ≠ 3 ∨ serial12 l.rxGranted l.rxAccepted ≤ 0 then
      s.modLink fun l => { l with protocolErrors := (l.protocolErrors + 1) % 2 ^ 32 }
    else
      let (es, rest) := f.take l.entry
      ((s.modLink fun l => { l with
        rxSeq := (l.rxSeq + 1) % 4096, rxAccepted := (l.rxAccepted + 1) % 4096, needAck := true
        nakAt := none, nakLast := none, entry := rest }).arrive es).answerFronts
  else (s.cond (l.nakAt.isNone || f.seq = l.rxSeq || s.replayAgain f.seq) (sendLink true)).modLink fun l => { l with
    nakLast := some f.seq }

/-- A further NAK for the same number after 10 us (spec 14 R327). (DEDUCED, log 94.) -/
def repeatNak (s : State) : State :=
  s.cond (s.link.state = .active && s.link.nakAt.any fun a => decide (a + us 10 ≤ s.now)) (sendLink true)

/-- The oldest unacknowledged frame has waited 100 us (spec 14 R329). (DEDUCED, log 90.) -/
def replayTimeout (s : State) : State :=
  match s.link.unacked with
  | [] => s
  | f :: _ => s.cond (s.link.state = .active && decide (f.at_ + us 100 ≤ s.now)) recoverLink

/-! ## Frames out (spec 14 R324, R326, R328, R330, R332) -/

/-- Bytes of the replay store in use. (DEDUCED, log 89.) -/
def replayUsed (s : State) : Nat := (s.link.unacked.map fun f => f.bytes.length).sum

/-- A new frame goes out and into the replay store. -/
def transmit (cls first : Nat) (payload : List Byte) (handles : List Nat) (s : State) : State :=
  let f : TxFrame := ⟨s.link.txSeq, cls, frameBytes cls s.link.txSeq first payload, s.now, handles⟩
  (s.modLink fun l => { l with
    txSeq := (l.txSeq + 1) % 4096, unacked := l.unacked ++ [f], out := recent 16 (l.out ++ [f]) }).putStream
      (frameBlocks f.bytes)

/-- The first frame due for replay is resent with its number; its wait starts again. (DEDUCED, log 90.) -/
def resend (s : State) : State :=
  match s.link.replay with
  | [] => s
  | f :: r =>
    (s.modLink fun l => { l with
      replay := r, out := recent 16 (l.out ++ [f])
      unacked := l.unacked.map fun x => if x.seq = f.seq then { x with at_ := s.now } else x }).putStream (frameBlocks f.bytes)

/-- A class-0 frame: whole records, events ahead of losses (spec 14 R324, R332). -/
def send0 (s : State) : State :=
  let (done, q) := take0 16 512 [] s.recs.q0
  let s1 := (s.modRecs fun r => { r with q0 := q }).transmit 0 0 (done.flatMap fun x => x.bytes) []
  s1.each done fun x s => s.chainStep 0 x.bytes

/-- The queue of a class. -/
def classQueue (s : State) (c : Nat) : List Rec :=
  if c = 1 then s.recs.q1 else if c = 2 then s.recs.q2 else s.recs.q3

/-- Changes the queue of a class. -/
def setClass (c : Nat) (q : List Rec) (s : State) : State :=
  s.modRecs fun r => if c = 1 then { r with q1 := q } else if c = 2 then { r with q2 := q } else { r with q3 := q }

/-- A frame of classes 1-3 (spec 14 R324, R330): it uses one credit; manifests that waited for room follow. -/
def sendClass (c : Nat) (s : State) : State :=
  let q := s.classQueue c
  let (payload, done, rest) := takeBytes 256 q
  let s1 := (s.setClass c rest).transmit c (firstOffset q) payload
    (if c = 3 then (done.map fun x => x.src).filter fun h => h ≠ 0 else [])
  let s2 := s1.modLink fun l => { l with
    sent := nthMod l.sent (c - 1) fun n => (n + 1) % 4096
    visit := (c, if l.visit.1 = c then l.visit.2 + 1 else 1) }
  (s2.cond (c ≠ 3) fun s => s.each done fun x s => s.chainStep c x.bytes).cond (c = 2) queueManifests

/-- The credit counts that a frame decision goes by: in the cycle of new ones, those from before it (spec 14 R330). -/
def creditsNow (s : State) : List Nat := if s.link.creditsAt = some s.now then s.link.creditsWas else s.link.credits

/-- A class has a record ready and a credit. -/
def classReady (s : State) (c : Nat) : Bool :=
  s.classQueue c ≠ [] && decide (0 < serial12 (nth 0 s.creditsNow (c - 1)) (nth 0 s.link.sent (c - 1)))

/-- The weight of a class (spec 14 R332). -/
def weight (s : State) (c : Nat) : Nat := s.pnum (Par.weight1 + c - 1) 0

/-- Weighted round robin: the class visited sends until it has used up its weight or has none ready; then the next ready
class in turn is visited (spec 14 R332; DEDUCED, log 32). -/
def robin (s : State) : State :=
  let c := s.link.visit.1
  if s.classReady c ∧ s.link.visit.2 < s.weight c then s.sendClass c
  else match [c % 3 + 1, (c + 1) % 3 + 1, c].find? s.classReady with
    | some d => (s.modLink fun l => { l with visit := (d, 0) }).sendClass d
    | none => s

/-- The next frame at a frame boundary (spec 14 R332): replay, class 0 while the store has room, then classes 1-3 while fewer
than 1,024 frames are unacknowledged and the store has room beside the 16 KiB reserve (R328). (DEDUCED, log 89.) -/
def sendFrameNext (s : State) : State :=
  if s.link.state ≠ .active then s
  else if s.link.replay ≠ [] then s.resend
  else if (next0 s.recs.q0).isSome ∧ s.replayUsed + 528 ≤ 524288 then s.send0
  else if 1024 ≤ s.link.unacked.length ∨ 524288 < s.replayUsed + 272 + 16384 then s
  else s.robin

/-! ## Capability exchange (spec 14 R336, Table 14-6) -/

/-- The link becomes ACTIVE: counts start anew after a bring-up and go on after a recovery; frames that the host has not
accepted are due for replay; the DFE taps are held (spec 14 R329, R330, R337). (DEDUCED, log 88; DESIGN CHOICE, log 92.) -/
def linkActive (s : State) : State :=
  let cap := fun i => (Store.read 0 s.link.caps i).toNat
  let again := s.link.state = .recovery
  let s1 := (s.setLink .active).modLink fun l => if again then { l with stage := .active } else { l with
    stage := .active, creditsAt := none
    credits := [bits (cap 5) 0 12, bits (cap 5) 12 12, bits (cap 5) 24 12], sent := [0, 0, 0], visit := (1, 0) }
  let s2 := s1.cond ((cap 6).testBit 12) (ackFrames (bits (cap 6) 0 12))
  let (taps, s3) := s2.draw (2 ^ 512)
  let g := s3.grant
  let s4 := s3.modLink fun l => { l with
    rxGranted := g, replay := l.unacked, nakAt := none, nakIn := none, taps := BitVec.ofNat 512 taps
    retrain := none, tested := none }
  let s5 := match s.link.retrain with
    | some h => s4.succeed h [BitVec.ofNat 8 s.link.rate, BitVec.ofNat 8 s.link.width]
    | none => s4
  match s.link.tested with
  | some (h, r) => s5.succeed h r
  | none => s5

/-- A disagreement of the index-3 fields: the lower rate and the narrower width, once (spec 14 R336). -/
def renegotiate (rate width : Nat) (s : State) : State :=
  if s.link.disagreed then s.stageFails
  else
    let w := min width s.link.width
    let f := ((laneGroups.find? fun g => g.1 = w && groupMask g.1 g.2 &&& s.link.locked = groupMask g.1 g.2).map
      fun g => g.2).getD s.link.first
    (s.modLink fun l => { l with
      disagreed := true, rate := min rate l.rate, width := w, first := f, capMask := l.capMask &&& 0xFFF7 }).putCaps [3]

/-- A CAP block (spec 14 R336). -/
def capBlock (index : Nat) (content : BitVec 48) (s : State) : State :=
  if s.link.stage ≠ .exchange ∨ 15 < index then s
  else
    let v := content.toNat
    let s1 := s.modLink fun l => { l with
      caps := Store.write 0 l.caps index content, capMask := l.capMask ||| BitVec.ofNat 16 (2 ^ index) }
    if index = 0 ∧ bits v 16 8 ≠ 1 then s1.stageFails
    else if index = 3 ∧ (bits v 0 2 ≠ s.link.rate ∨ bits v 2 4 ≠ s.link.width ∨ bits v 6 3 ≠ s.link.first) then
      s1.renegotiate (bits v 0 2) (bits v 2 4)
    else s1.cond (s1.link.capMask = 0xFFFF) linkActive

/-- What a TRAIN block shows: the rates that the peer supports, and its receiver's lock on the lane (spec 14 R335, R340).
A lane whose first TRAIN block arrives has its receiver locked, and shows it from then on. -/
def peerShows (lane : Nat) (locked : Bool) (rates : BitVec 3) (s : State) : State :=
  let bit := BitVec.ofNat 8 (2 ^ lane)
  let fresh := !s.link.rxLocked.getLsbD lane
  (s.modLink fun l => { l with
    peerRates := rates, rxLocked := l.rxLocked ||| bit
    lockAt := if fresh then nthMod l.lockAt lane fun _ => s.now else l.lockAt
    peerLocked := if locked then l.peerLocked ||| bit else l.peerLocked &&& ~~~ bit }).cond fresh fun s =>
      s.putBlock lane true (s.trainWord lane)

/-- A TRAIN block (spec 14 R335, R340): in ACTIVE, on a lane of the group, it leads to RECOVERY. -/
def trainSeen (lane : Nat) (locked : Bool) (rates : BitVec 3) (s : State) : State :=
  if s.link.state = .active then s.cond (s.laneIn lane) fun s => s.recoverLink.peerShows lane locked rates
  else s.cond (s.link.stage = .train && s.link.lanes.getLsbD lane) (peerShows lane locked rates)

/-! ## RECOVERY (spec 14 R339, R342) -/

/-- Records still waiting are discarded as losses; those that R317 keeps, and those of which a byte has entered a frame,
stay. -/
def discardQueue (q : List Rec) (s : State) : List Rec × State :=
  q.foldl (fun (a : List Rec × State) x =>
    let r := a.2.recs
    if x.sent ≠ 0 ∨ (r.heldOpen x.src ∧ !r.runs.any fun y => Records.LossRun.takes y x.src x.seq) then (a.1 ++ [x], a.2)
    else (a.1, a.2.modRecs fun r => r.lose x.src x.seq 6 s.now (s.devField s.now) x.frame s.lineTime.frame)) ([], s)

/-- 1 ms after leaving ACTIVE, classes 1 and 2 are discarded (spec 14 R342). -/
def recoveryDiscard (s : State) : State :=
  if s.link.state = .active ∨ s.link.discarded ∨ !s.link.leftAt.any fun a => decide (a + us 1000 ≤ s.now) then s
  else
    let (q1, s1) := s.discardQueue s.recs.q1
    let (q2, s2) := s1.discardQueue s1.recs.q2
    ((s2.modRecs fun r => { r with q1 := q1, q2 := q2 }).modLink fun l => { l with discarded := true }).queueManifests

/-- RECOVERY has lasted 30 ms (spec 14 R339). -/
def recoveryEnds (s : State) : State :=
  s.cond (s.link.state = .recovery && decide (s.link.recoverAt + us 30000 ≤ s.now)) linkDown

/-! ## Commands -/

/-- LINK STATUS (spec 14 R334, R337, R338; DESIGN CHOICE, log 20): state, rate, width, first lane, whether factory
defaults stand in, each lane's settings in force, the DFE taps and the counters. -/
def linkStatus (handle : Nat) (s : State) : State :=
  let l := s.link
  s.succeed handle (le 1 l.state.code ++ le 1 l.rate ++ le 1 l.width ++ le 1 l.first ++ le 1 l.substituted.toNat ++ le 3 0
    ++ (List.range 8).flatMap (fun n => boardEntryBytes (s.boardEntry n l.rate)) ++ le 64 l.taps.toNat
    ++ le 4 l.protocolErrors ++ le 4 l.idleDeleted ++ le 4 l.idleRepeated ++ le 4 0 ++ l.invalid.flatMap (le 4))

/-- The checks of LINK RETRAIN (spec 14 R341). -/
def linkRetrainCheck (s : State) : Ack :=
  if s.link.state = .recovery ∨ s.link.state = .test ∨ s.link.retrain.isSome then .busy 1 else .accepted

/-- LINK RETRAIN (spec 14 R341): where the link is not ACTIVE, a bring-up starts at the highest rate by itself. (DEDUCED,
log 134.) -/
def linkRetrain (handle : Nat) (s : State) : State :=
  (s.cond (s.link.state = .active) fun s =>
    (s.modLink fun l => { l with peerRates := 7 }).enterRecovery s.link.detected
      ((s.modLink fun l => { l with peerRates := 7 }).rateBelow 3)).modLink fun l => { l with retrain := some handle }

/-- A lane's pattern parameters lie in the ranges of Table 14-9. -/
def laneTestGood (x : LaneTest) : Bool :=
  x.gen ≤ 3 && x.chk ≤ 3 && x.inject ≤ 2 && (x.inject ≠ 2 || 1 ≤ x.period) && x.period < 2 ^ 32

/-- The checks of LINK TEST (spec 14 R343): an unlimited duration, 0, comes by the side port only. -/
def linkTestCheck (path : Path) (duration : Nat) (lanes : List LaneTest) (s : State) : Ack :=
  if 60000 < duration ∨ (duration = 0 ∧ path = .link) then .wrongArg 16
  else if lanes.length ≠ 8 ∨ !lanes.all laneTestGood then .wrongArg 0xFFFF
  else if s.link.state = .test ∨ !s.powered then .busy 1
  else .accepted

/-- LINK TEST (spec 14 R343): the generators start from seeds, and an injected error falls on a bit, that no rule states.
(DEDUCED, log 91; DESIGN CHOICE, log 153.) -/
def linkTest (duration : Nat) (lanes : List LaneTest) (handle : Nat) (s : State) : State :=
  let (free, s1) := s.draw (2 ^ 512)
  (s1.setLink .test).modLink fun l => { l with
    raw := lanes.mapIdx fun i x => testBits x (bits free (64 * i) 31) (bits free (64 * i + 32) 32) 128
    stage := .test, test := some (handle, if duration = 0 then none else some (s.now + us (1000 * duration)), lanes) }

/-- LINK TEST STOP ends an unlimited test (spec 14 R343). (DEDUCED, log 91.) -/
def linkTestStop (handle : Nat) (s : State) : State :=
  (s.modLink fun l => { l with test := l.test.map fun x => (x.1, some (x.2.1.getD s.now), x.2.2) }).succeed handle []

/-- The test ends (spec 14 R343, R344; DESIGN CHOICE, log 20): counts of every lane and the DFE taps held; bring-up starts
from DETECT. (DESIGN CHOICE, log 92.) -/
def linkTestEnd (errors : List (List Nat)) (s : State) : State :=
  match s.link.test with
  | some (h, some e, lanes) =>
    if s.now < e then s
    else
      let (taps, s1) := s.draw (2 ^ 512)
      let n := laneBits s.link.rate (e - s.link.since)
      let bytes := (List.range 8).flatMap (fun i =>
        let (compared, wrong, lost) := if (lanes.getD i ⟨0, 0, 0, 0⟩).chk = 0 then (0, 0, 0) else checked n (errors.getD i [])
        le 6 (compared % 2 ^ 48) ++ le 6 (wrong % 2 ^ 48) ++ le 4 (lost % 2 ^ 32)) ++ le 64 taps
      let side := (s.liveOf h).any fun l => decide (l.path ≠ .link)
      let s2 := (s1.modLink fun l => { l with taps := BitVec.ofNat 512 taps }).linkDetect
      if side then s2.succeed h bytes else s2.modLink fun l => { l with tested := some (h, bytes) }
  | _ => s

/-- The checks of WRITE BOARD TABLE (spec 14 R338). -/
def boardCheck (entries : List BoardEntry) (_ : State) : Ack :=
  if entries.length ≠ 24 then .wrongArg 0xFFFF
  else match entries.findIdx? fun e => !boardEntryGood e with
    | some i => .wrongArg (16 + 8 * i)
    | none => .accepted

/-- Once a write of object 2 is done, its table takes effect at the next bring-up (spec 14 R338). -/
def takeTable (before s : State) : State :=
  s.cond (before.nvObject 2 ≠ s.nvObject 2) (modLink fun l => { l with tableNext := s.storedTable })

end State

/-! ## Meanings -/

/-- DOWN_TIMEOUT: spec 14 R334. -/
def execDownTimeout (t : Tick) (s : State) : Host.Outcome State Fault Refusal := .next (s.advance t).downEnds

/-- RECEIVER_DETECT_DONE: spec 14 R334. -/
def execReceiverDetectDone (t : Tick) (lanes : BitVec 8) (s : State) : Host.Outcome State Fault Refusal :=
  .next ((s.advance t).detectDone lanes)

/-- LANE_LOCK: spec 14 R335. -/
def execLaneLock (t : Tick) (lane : Nat) (s : State) : Host.Outcome State Fault Refusal :=
  .next ((s.advance t).laneLocks lane)

/-- BRING_UP_STAGE_TIMEOUT: spec 14 R335. -/
def execBringUpStageTimeout (t : Tick) (s : State) : Host.Outcome State Fault Refusal := .next (s.advance t).stageTimeout

/-- ALIGN: spec 14 R322. -/
def execAlignColumn (t : Tick) (skew count : Nat) (s : State) : Host.Outcome State Fault Refusal :=
  .next ((s.advance t).alignLanes skew count)

/-- IDLE_COLUMN: spec 14 R322. -/
def execIdleColumn (t : Tick) (delete : Bool) (s : State) : Host.Outcome State Fault Refusal :=
  .next ((s.advance t).idleColumn delete)

/-- CAP: spec 14 R336. -/
def execCapBlock (t : Tick) (index : Nat) (content : BitVec 48) (s : State) : Host.Outcome State Fault Refusal :=
  .next ((s.advance t).capBlock index content)

/-- TRAIN: spec 14 R335, R340. -/
def execTrainBlock (t : Tick) (lane : Nat) (locked : Bool) (rates : BitVec 3) (s : State) :
    Host.Outcome State Fault Refusal :=
  .next ((s.advance t).trainSeen lane locked rates)

/-- LINK: spec 14 R327, R330. -/
def execLinkBlock (t : Tick) (ack : Nat) (nak : Bool) (credit1 credit2 credit3 : Nat) (s : State) :
    Host.Outcome State Fault Refusal :=
  .next ((s.advance t).linkBlock ack nak credit1 credit2 credit3)

/-- FRAME_RECEIVED: spec 14 R325, R327, R331, 15 R352. -/
def execFrameReceived (t : Tick) (frame : FrameIn) (s : State) : Host.Outcome State Fault Refusal :=
  .next ((s.advance t).receiveFrame frame)

/-- FRAME_SEND: spec 14 R324, R328, R330, R332. -/
def execFrameSend (t : Tick) (s : State) : Host.Outcome State Fault Refusal := .next (s.advance t).sendFrameNext

/-- ALIGN_COLUMN_SEND: spec 14 R322. -/
def execAlignColumnSend (t : Tick) (s : State) : Host.Outcome State Fault Refusal := .next (s.advance t).alignSend

/-- IDLE_COLUMN_SEND: spec 14 R322. -/
def execIdleColumnSend (t : Tick) (s : State) : Host.Outcome State Fault Refusal :=
  .next ((s.advance t).cond s.streams State.idleSend)

/-- LINK_BLOCK_SEND: spec 14 R327. -/
def execLinkBlockSend (t : Tick) (s : State) : Host.Outcome State Fault Refusal :=
  .next ((s.advance t).cond (s.link.state = .active) (State.sendLink false))

/-- NAK_REPEAT: spec 14 R327. -/
def execNakRepeat (t : Tick) (s : State) : Host.Outcome State Fault Refusal := .next (s.advance t).repeatNak

/-- REPLAY_TIMEOUT: spec 14 R329. -/
def execReplayTimeout (t : Tick) (s : State) : Host.Outcome State Fault Refusal := .next (s.advance t).replayTimeout

/-- LANE_LOSS: spec 14 R339: 16 invalid sync headers within 64 blocks. -/
def execLaneLoss (t : Tick) (errors : LaneErrors) (s : State) : Host.Outcome State Fault Refusal :=
  .next ((s.advance t).cond (s.link.state = .active && s.laneIn errors.lane && decide (16 ≤ errors.invalid))
    (State.laneLost errors.lane))

/-- RECOVERY_DISCARD: spec 14 R342. -/
def execRecoveryDiscard (t : Tick) (s : State) : Host.Outcome State Fault Refusal := .next (s.advance t).recoveryDiscard

/-- RECOVERY_TIMEOUT: spec 14 R339. -/
def execRecoveryTimeout (t : Tick) (s : State) : Host.Outcome State Fault Refusal := .next (s.advance t).recoveryEnds

/-- LINK_TEST_END: spec 14 R343, R344. -/
def execLinkTestEnd (t : Tick) (errors : List (List Nat)) (s : State) : Host.Outcome State Fault Refusal :=
  .next ((s.advance t).linkTestEnd errors)

/-- LINK_STATUS: spec 14 R334, R337. -/
def execLinkStatus (t : Tick) (h : Hdr) (s : State) : Host.Outcome State Fault Refusal :=
  .next ((s.advance t).command 0x0E01 h State.noCheck State.linkStatus)

/-- LINK_RETRAIN: spec 14 R341. -/
def execLinkRetrain (t : Tick) (h : Hdr) (s : State) : Host.Outcome State Fault Refusal :=
  .next ((s.advance t).command 0x0E02 h State.linkRetrainCheck State.linkRetrain)

/-- LINK_TEST: spec 14 R343. -/
def execLinkTest (t : Tick) (h : Hdr) (duration : Nat) (lanes : List LaneTest) (s : State) :
    Host.Outcome State Fault Refusal :=
  .next ((s.advance t).command 0x0E03 h (State.linkTestCheck h.path duration lanes) (State.linkTest duration lanes))

/-- LINK_TEST_STOP: spec 14 R343. -/
def execLinkTestStop (t : Tick) (h : Hdr) (s : State) : Host.Outcome State Fault Refusal :=
  .next ((s.advance t).command 0x0E04 h State.noCheck State.linkTestStop)

/-- WRITE_BOARD_TABLE: spec 14 R338. -/
def execWriteBoardTable (t : Tick) (h : Hdr) (entries : List BoardEntry) (s : State) :
    Host.Outcome State Fault Refusal :=
  .next ((s.advance t).command 0x0E05 h (State.boardCheck entries) fun handle s =>
    s.nvWrite 2 (entries.flatMap State.boardEntryBytes) (some handle))

end Machine

end Sys2Proof
end

