-- ==== Sys2Proof/Machine/Distaff.lean ====
section
/-! DEFINITION. Distaff (spec 15 R345, R346, R361-R364, R367, R368): Distaff down and up, the load figure, firmware
images and
slots, GET STATE, READ COUNTERS and CLEAR FLAGS. -/

namespace Sys2Proof.Machine

/-- Longest firmware image (spec 17 R402). -/
def imageLimit : Nat := 1015808

namespace State

/-! ## Firmware images (spec 17 R402, R403) -/

/-- The format of an image fails (spec 17 R402). -/
def imageMalformed (b : List Byte) : Bool :=
  let n := num b 4 4
  num b 0 2 ≠ 1 || imageLimit < n || n % 8 ≠ 0 || num b 16 4 % 8 ≠ 0 || num b 20 4 % 8 ≠ 0
    || 64 + num b 16 4 + num b 20 4 + sigLength ≠ n || b.length < n

/-- An image's signed bytes. -/
def imageSigned (b : List Byte) : List Byte := b.take (num b 4 4 - sigLength)

/-- The check that an image fails, as a boot cause: format, signature of slot 0 with firmware usage, security version
(spec 17
R402, R403, 21 Table 21-6). -/
def imageError (s : State) (b : List Byte) : Option Nat :=
  if imageMalformed b then some 2
  else if num b (num b 4 4 - sigLength + 2) 1 ≠ 0
      ∨ !s.signatureGood 0 (imageSigned b) ((b.drop (num b 4 4 - sigLength)).take sigLength) then some 3
  else if num b 8 2 < s.trust.rollback then some 4
  else none

/-- The boot slot by the selector records (spec 21 R477): B or A. -/
def bootSlotB (s : State) : Bool :=
  match s.dist.selA, s.dist.selB with
  | none, none => false
  | some a, none => a.1
  | none, some b => b.1
  | some a, some b => if 0 < serialDiff b.2 a.2 then b.1 else a.1

/-- The boot slot becomes `b`: the older selector sector takes a record of the next number (spec 21 R477). -/
def setBootSlot (b : Bool) (s : State) : State :=
  s.modDist fun d =>
    match d.selA, d.selB with
    | none, none => { d with selA := some (b, 1) }
    | some x, none => { d with selB := some (b, (x.2 + 1) % 2 ^ 32) }
    | none, some y => { d with selA := some (b, (y.2 + 1) % 2 ^ 32) }
    | some x, some y =>
      if 0 < serialDiff y.2 x.2 then { d with selA := some (b, (y.2 + 1) % 2 ^ 32) }
      else { d with selB := some (b, (x.2 + 1) % 2 ^ 32) }

/-- The boot source holds two slots (spec 21 Table 21-5). -/
def hasSlots (s : State) : Bool := s.boot.source ≤ 1

/-- The bytes that a slot holds, none where the device has neither read nor written it. -/
def slotBytes (s : State) (b : Bool) : Option (List Byte) := if b then s.dist.slotB else s.dist.slotA

/-- The slot that does not hold the running image (spec 15 R363). -/
def otherSlot (s : State) : Bool := !s.boot.slotB

/-- Changes a slot: its bytes and whether it is valid. -/
def setSlot (b : Bool) (bytes : Option (List Byte)) (valid : Bool) (s : State) : State :=
  s.modDist fun d => if b then { d with slotB := bytes, validB := valid } else { d with slotA := bytes, validA := valid }

/-! ## Distaff down and up (spec 15 R362, R364, 16 R388) -/

/-- Distaff goes down with a cause (spec 15 R362): live commands but `keep` complete ABORTED, shots are cancelled, Flyers
stop, and the device leaves READY, ARMED, RANGING and CALIBRATING for SAFE. (DEDUCED, log 110.) -/
def distaffDown (cause : Nat) (keep : Option Nat) (s : State) : State :=
  if !s.dist.up then s
  else
    let s0 := (s.modDist fun d => { d with up := false, downCause := cause }).setFlag 2
    let hit := s0.dist.live.filter fun l => !l.completed && some l.handle ≠ keep
    let s1 := s0.cond (s0.cal.run.isSome) calStop
    let s2 := s1.each hit fun l s => (s.dropJobs l.handle).aborted l.handle 3
    let s3 := (s2.whorlStop.setInhibit 1 true).event Src.device 0x11 [(1, cause), (2, hit.length)]
    let s4 := s3.transit 3 [.ready, .armed, .ranging, .calibrating] .safe 0x10 0x21 keep
    s4.each (List.range 16) fun b => modFlyer b fun f => { f with state := .stopped, issued := [] }

/-- The watchdog expires (spec 15 R362): firmware has not restarted its counter within the period. -/
def watchdog (s : State) : State :=
  s.cond (decide (s.dist.restartAt + us (4000 * s.pnum Par.watchdog 0) ≤ s.now)) (distaffDown 0 none)

/-- The rollback counter rises to the running image's security version with a write of its object; a raise that is refused is
tried again at the next DISTAFF UP (spec 17 R404). -/
def raiseRollback (s : State) : State :=
  let c := s.countersNext
  if s.dist.security ≤ c.1 then s else s.nvWrite 1 (counterBytes s.dist.security c.2.1 c.2.2) none

/-- Distaff runs an image, whose sections are loaded at address 0 of its memories (spec 15 R364, R368, 17 R402): DISTAFF UP,
and the Distaff-down inhibit cause clears. -/
def distaffUp (b : List Byte) (s : State) : State :=
  let s1 := s.modDist fun d => { d with
    up := true, version := num b 12 4, security := num b 8 2, imageDigest := Config.sha384 (imageSigned b)
    upAt := s.now, loadAt := s.now, restartAt := s.now, instr := (b.drop 64).take (num b 16 4)
    data := (b.drop (64 + num b 16 4)).take (num b 20 4), highRun := 0, lowRun := 0, loadHigh := false }
  ((s1.event Src.device 0x12 [(4, num b 12 4)]).setInhibit 1 false).raiseRollback

/-- Firmware restarts the watchdog counter (spec 15 R362): no other command tells it (DESIGN CHOICE, log 157). -/
def watchdogRestart (at_ : Option Tick) (s : State) : State :=
  s.cond s.dist.up (modDist fun d => { d with restartAt := max d.restartAt (min s.now (at_.getD d.restartAt)) })

/-- The load figure is updated every 2^20 ns (spec 15 R345, R361). -/
def loadUpdate (figure : LoadFigure) (corrected : Nat) (s : State) : State :=
  let s := s.watchdogRestart figure.restarted
  if !s.dist.up ∨ s.now < s.dist.loadAt + ns (2 ^ 20) then s
  else
    let n := min 200 figure.share
    let d := s.dist
    let high := if 180 ≤ n then min 4 (d.highRun + 1) else 0
    let low := if n ≤ 140 then min 4 (d.lowRun + 1) else 0
    let rise := !d.loadHigh && high = 4
    let fall := d.loadHigh && low = 4
    (s.modDist fun d => { d with
      loadAt := s.now, load := n, corrected := (d.corrected + corrected) % 2 ^ 32, highRun := high, lowRun := low
      loadHigh := (d.loadHigh || rise) && !fall }).cond (rise || fall) fun s =>
        s.event Src.device 0x13 [(1, n), (2, s.liveCount)]

/-! ## GET STATE, READ COUNTERS, CLEAR FLAGS -/

/-- GET STATE (spec 15 Table 15-8; DESIGN CHOICE, log 20). -/
def getState (handle : Nat) (s : State) : State :=
  s.succeed handle (place 0 [(1, s.dev.code), (1, s.spindle.state.code), (1, s.link.state.code), (1, s.dist.load),
    (2, s.liveCount), (4, if s.dist.up then s.dist.version else 0), (1, s.dist.downCause), (1, s.dist.up.toNat),
    (4, s.dist.corrected)])

/-- Counters of kinds `k` to `k + n - 1` and index `i`. (DESIGN CHOICE, log 101.) -/
def counterRun (s : State) (k n i : Nat) : List Byte := (List.range n).flatMap fun j => le 4 (s.counter (k + j) i)

/-- The codes of Table 3-7. -/
def outcomeCodes : List Nat :=
  [0x00, 0x10, 0x11, 0x12, 0x13, 0x14, 0x15, 0x16, 0x17, 0x20, 0x21, 0x22, 0x23, 0x24, 0x25,
   0x26]

/-- An element line of a channel (spec 10 R243). -/
def lineBytes (l : CohLine) : List Byte :=
  le 2 l.element ++ le 2 l.entries.length ++ l.entries.flatMap fun e => le 4 e.length ++ e.flatMap (le 4)

/-- What READ COUNTERS returns beside the counters of file 10 (spec 10 R253). -/
def cardingBytes (s : State) (c : Nat) : List Byte :=
  let d := (s.chan c).card
  s.counterRun Kind.class0 12 c ++ le 4 (s.counter Kind.hop 0) ++ le 4 (s.bank (c / 16)).weather ++ le 4 d.ambient ++ le 4 d.charge
    ++ (List.range 4).flatMap (fun r => le 4 (Store.read (0, 0) d.sigma r).1) ++ le 4 (s.levelOf c 0)
    ++ le 4 (s.anaLevelOf c)
    ++ le 4 (flagBit 0 (s.adaptiveUnavailable c) + flagBit 1 d.blinded + flagBit 2 d.interfered) ++ d.lines.flatMap lineBytes

/-- The counters of a file for a target (spec 15 R367; DESIGN CHOICE, log 20): a channel, bank, port or input; for file 11
groups stand after the channels; file 5 ends in the status bits clamp, open input, detection suspended, track limit and
servo saturation; for file 19 the 64-byte unit of Table 19-6 from which to read. None where the file keeps none. (DESIGN
CHOICE, log 101.) -/
def counterBlock (s : State) (file t : Nat) : Option (List Byte) :=
  let chan := fun (b : List Byte) => if t < 256 then some b else none
  match file with
  | 2 => some (le 4 s.spindle.strays ++ le 4 s.spindle.excursions ++ le 4 s.spindle.missings)
  | 3 => if 16 ≤ t then none
    else some (([0, 1, 2] ++ outcomeCodes.map fun o => 16 + o).flatMap fun k => le 4 (Store.read 0 (s.flyer t).counters k))
  | 4 => if 8 ≤ t then none else some (s.counterRun Kind.streamSkip 2 t)
  | 5 =>
    let f := (s.chan t).fe
    chan (s.counterRun Kind.clamp 2 t
      ++ le 4 (flagBit 0 f.clampFlag + flagBit 1 f.oiOpen + flagBit 2 (s.oiSuspended t) + flagBit 3 f.trackLimit
        + flagBit 4 f.saturated))
  | 6 => some (le 4 s.hk.overruns ++ le 4 s.hk.aborted ++ le 4 s.hk.dropped)
  | 7 => chan (s.counterRun Kind.evOverflow 3 t)
  | 8 => chan (s.counterRun Kind.deadTime 9 t)
  | 9 => chan (s.counterRun Kind.returns 6 t)
  | 10 => chan (s.cardingBytes t)
  | 11 => if t < 256 then some (s.counterRun Kind.trig 2 t ++ le 4 (s.trigLevelFault t).toNat)
    else if t < 272 then some (s.counterRun Kind.missedPost 3 (t - 256)) else none
  | 14 => some (le 4 s.link.protocolErrors ++ le 4 s.link.idleDeleted ++ le 4 s.link.idleRepeated)
  | 18 => some (le 4 s.power.ignored ++ le 4 s.boot.refused)
  | 19 => some ((s.calValues.drop (64 * t)).take 4064)
  | _ => none

/-- The targets of a scope: the device has one. -/
def counterTargets (l : List Nat) : List Nat := if l = [] then [0] else l

/-- The checks of READ COUNTERS: every target of the scope has counters of the file. -/
def countersCheck (file : Nat) (targets : List Nat) (s : State) : Ack :=
  if (counterTargets targets).all fun t => (s.counterBlock file t).isSome then .accepted else .wrongArg 16

/-- READ COUNTERS (spec 15 R367): the counters of each target of the scope in turn, as much as a completion holds. -/
def readCounters (file : Nat) (targets : List Nat) (handle : Nat) (s : State) : State :=
  s.succeed handle (((counterTargets targets).flatMap fun t => (s.counterBlock file t).getD []).take 4064)

/-- CLEAR FLAGS (spec 05 R120): bit 0 of the mask is the clamp flag. (DEDUCED, log 102.) -/
def clearFlagsOf (targets : List Nat) (mask handle : Nat) (s : State) : State :=
  (s.cond (mask.testBit 0) fun s => s.each targets clearClamp).succeed handle []

/-! ## Firmware update and reload (spec 15 R363, R364) -/

/-- The checks of FW BEGIN: the source holds slots, and the length is allowed. -/
def fwBeginCheck (length : Nat) (s : State) : Ack :=
  if !s.hasSlots ∨ imageLimit < length then .wrongArg 16 else .accepted

/-- FW BEGIN: the other slot is erased; an update in progress is abandoned. -/
def fwBegin (length handle : Nat) (s : State) : State :=
  ((s.setSlot s.otherSlot (some []) false).modDist fun d => { d with
    update := some (length, 0), verified := false }).succeed handle []

/-- The checks of FW DATA: each chunk follows the one before, within the image. -/
def fwDataCheck (offset : Nat) (data : List Byte) (s : State) : Ack :=
  match s.dist.update with
  | none => .wrongArg 16
  | some (n, k) => if offset ≠ k ∨ 4064 < data.length ∨ n < k + data.length then .wrongArg 16 else .accepted

/-- FW DATA. -/
def fwData (data : List Byte) (handle : Nat) (s : State) : State :=
  ((s.setSlot s.otherSlot (some ((s.slotBytes s.otherSlot).getD [] ++ data)) false).modDist fun d => { d with
    update := d.update.map fun u => (u.1, u.2 + data.length), verified := false }).succeed handle []

/-- FW VERIFY starts; one at a time. -/
def fwVerifyCheck (s : State) : Ack := if s.dist.verifying.isSome then .busy 1 else .accepted

/-- FW VERIFY ends with what the slot that is read back holds (spec 15 R363); whether a slot that the device has neither read
nor written verifies is open, as is the detail of a failure (DESIGN CHOICE, log 31). -/
def fwVerifyDone (s : State) : State :=
  match s.dist.verifying with
  | none => s
  | some h =>
    let b := s.slotBytes s.otherSlot
    let (v, s0) := s.draw 2
    let good := match b with | some b => (s.imageError b).isNone | none => decide (v = 1)
    let s1 := (s0.setSlot s.otherSlot b good).modDist fun d => { d with verifying := none, verified := good }
    if good then s1.succeed h [] else s1.failedOpen h

/-- A reload starts (spec 15 R364): it puts Distaff down. -/
def startReload (other activate : Bool) (handle : Nat) (s : State) : State :=
  (s.distaffDown 2 (some handle)).modDist fun d => { d with reload := some (handle, other, activate) }

/-- FW ACTIVATE (spec 15 R363): the verified slot becomes the boot slot and is reloaded. -/
def fwActivate (handle : Nat) (s : State) : State :=
  if !s.dist.verified then s.failedOpen handle
  else ((s.setBootSlot s.otherSlot).modDist fun d => { d with
    update := none, verified := false }).startReload false true handle

/-- A reload is in progress. -/
def reloadCheck (other : Bool) (s : State) : Ack :=
  if other ∧ !s.hasSlots then .wrongArg 16
  else if s.dist.reload.isSome then .busy 1
  else .accepted

/-- The boot load window (spec 21 R478). -/
def loadWindow (s : State) : List Byte := Memory.load s.side.mem 0x100000 (min imageLimit s.side.loadLen)

/-- What the boot flash answers when a slot is read: nothing, or what the slot holds, which is what was read or written
last, and of an erased slot no image; a slot that the device has neither read nor written holds what it is found to hold
(spec
15 R363, 21 R477). -/
def slotAnswer (s : State) (b : Bool) (image : List Byte) : List Byte :=
  if image = [] then [] else (s.slotBytes b).getD image

/-- A slot has been read. -/
def slotRead (b : Bool) (bytes : List Byte) (s : State) : State :=
  s.cond (bytes ≠ []) (setSlot b (some bytes) (if b then s.dist.validB else s.dist.validA))

/-- A reload ends (spec 15 R364): DISTAFF UP and SUCCESS, or Distaff stays down. -/
def reloadDone (image : List Byte) (s : State) : State :=
  match s.dist.reload with
  | none => s
  | some (h, other, _) =>
    let k := s.bootSlotB != other
    let b := if s.hasSlots then s.slotAnswer k image else s.loadWindow
    let s1 := (s.cond s.hasSlots (slotRead k b)).modDist fun d => { d with reload := none }
    match s1.imageError b with
    | none => ((s1.modBoot fun x => { x with
        slotB := s.hasSlots && k }).distaffUp b).succeed h []
    | some 3 => s1.failed h 0x0040
    | some 4 => s1.failed h 0x0041
    | some _ => s1.failedOpen h

end State

/-! ## Meanings -/

/-- WATCHDOG_EXPIRY: spec 15 R362. -/
def execWatchdogExpiry (t : Tick) (s : State) : Host.Outcome State Fault Refusal := .next (s.advance t).watchdog

/-- DISTAFF_MEMORY_ERROR: spec 15 R345, R362. -/
def execDistaffMemoryError (t : Tick) (s : State) : Host.Outcome State Fault Refusal :=
  .next ((s.advance t).distaffDown 1 none)

/-- LOAD_UPDATE: spec 15 R345, R361. -/
def execLoadUpdate (t : Tick) (figure : LoadFigure) (corrected : Nat) (s : State) : Host.Outcome State Fault Refusal :=
  .next ((s.advance t).loadUpdate figure corrected)

/-- FW_RELOAD_DONE: spec 15 R364. -/
def execFwReloadDone (t : Tick) (image : List Byte) (s : State) : Host.Outcome State Fault Refusal :=
  .next ((s.advance t).reloadDone image)

/-- FW_VERIFY_DONE: spec 15 R363. -/
def execFwVerifyDone (t : Tick) (s : State) : Host.Outcome State Fault Refusal := .next (s.advance t).fwVerifyDone

/-- GET_STATE: spec 15 R346, R367. -/
def execGetState (t : Tick) (h : Hdr) (s : State) : Host.Outcome State Fault Refusal :=
  .next ((s.advance t).command 0x0F01 h State.noCheck State.getState)

/-- READ_COUNTERS: spec 15 R367. -/
def execReadCounters (t : Tick) (h : Hdr) (file : Nat) (targets : List Nat) (s : State) : Host.Outcome State Fault Refusal :=
  .next ((s.advance t).command 0x0F12 h (State.countersCheck file targets) (State.readCounters file targets))

/-- CLEAR_FLAGS: spec 05 R120. -/
def execClearFlags (t : Tick) (h : Hdr) (targets : List Nat) (mask : Nat) (s : State) :
    Host.Outcome State Fault Refusal :=
  .next ((s.advance t).command 0x0F13 h State.noCheck (State.clearFlagsOf targets mask))

/-- FW_BEGIN: spec 15 R363. -/
def execFwBegin (t : Tick) (h : Hdr) (length : Nat) (s : State) : Host.Outcome State Fault Refusal :=
  .next ((s.advance t).command 0x0F20 h (State.fwBeginCheck length) (State.fwBegin length))

/-- FW_DATA: spec 15 R363. -/
def execFwData (t : Tick) (h : Hdr) (offset : Nat) (data : List Byte) (s : State) : Host.Outcome State Fault Refusal :=
  .next ((s.advance t).command 0x0F21 h (State.fwDataCheck offset data) (State.fwData data))

/-- FW_VERIFY: spec 15 R363. -/
def execFwVerify (t : Tick) (h : Hdr) (s : State) : Host.Outcome State Fault Refusal :=
  .next ((s.advance t).command 0x0F22 h State.fwVerifyCheck fun handle s =>
    s.modDist fun d => { d with verifying := some handle })

/-- FW_ACTIVATE: spec 15 R363. -/
def execFwActivate (t : Tick) (h : Hdr) (s : State) : Host.Outcome State Fault Refusal :=
  .next ((s.advance t).command 0x0F23 h State.noCheck State.fwActivate)

/-- FW_RELOAD: spec 15 R364. -/
def execFwReload (t : Tick) (h : Hdr) (other : Bool) (s : State) : Host.Outcome State Fault Refusal :=
  .next ((s.advance t).command 0x0F24 h (State.reloadCheck other) (State.startReload other false))

end Sys2Proof.Machine
end

