-- ==== Sys2Proof/Machine/Power.lean ====
section
/-! DEFINITION. Power and temperature (spec 18 R416-R432): rails and their sequence, sags, resets, the non-volatile write
threshold, the diode and its proxy, thermal levels, hardware shutdown, and the way to STANDBY and OFF. -/

namespace Sys2Proof.Machine

/-- The thresholds of a rail in 0.1 mV (spec 18 Table 18-2): good window, emission stop, reset; rails in order, from 0. -/
def railLimits (k : Nat) : Nat × Nat × Nat × Nat :=
  nth (0, 0, 0, 0) [(7275, 7725, 7000, 6600), (17100, 18900, 16500, 15500), (8550, 9450, 8300, 7800),
    (11400, 12600, 11000, 10400), (10450, 11550, 10100, 9500), (8550, 9450, 8300, 7800)] k

/-- A reading in mV lies in the rail's good window. -/
def railGood (k mv : Nat) : Bool := (railLimits k).1 ≤ 10 * mv && 10 * mv ≤ (railLimits k).2.1

/-- A reading in mV lies below the rail's emission-stop threshold. -/
def railStops (k mv : Nat) : Bool := 10 * mv < (railLimits k).2.2.1

/-- A reading in mV lies below the rail's reset threshold. -/
def railResets (k mv : Nat) : Bool := 10 * mv < (railLimits k).2.2.2

/-- Side-port contents that the fabric domain holds go with its supply (spec 21 R473); IRQ_MASK.FLAG, whose condition acts
from STANDBY (R482), keeps its value until power-good. (DEDUCED, log 140.) -/
def SidePort.unpowered (p : SidePort) : SidePort := { p with
  busy := 0, producer := 0, consumer := 0, irqRsp := false, mem := [], ring := [], snapshot := [] }

namespace State

/-- A rail (0 to 5). -/
def rail (s : State) (k : Nat) : Rail := Store.read {} s.power.rails k

/-- Changes a rail. -/
def modRail (k : Nat) (g : Rail → Rail) (s : State) : State :=
  s.modPower fun p => { p with rails := Store.modify {} p.rails k g }

/-- The last accepted reading in 2 bytes; 0 before the first. -/
def tempField (s : State) : Nat := twos 2 (s.power.temp.getD 0)

/-! ## STANDBY and OFF (spec 18 R417, R420, R441, 16 R381, 21 R473) -/

/-- What stays with the device without a supply: the non-volatile store, the fuses, the boot flash, and the model's clock and
queue. -/
def afterLoss (s : State) : State :=
  { State.reset with
    clock := { now := s.clock.now, fresh := s.clock.fresh }
    nv := s.nv
    trust := { slots := Store.write {} [] 1 (Store.read {} s.trust.slots 1), tap := .idcode }
    dist := { slotA := s.dist.slotA, slotB := s.dist.slotB, validA := s.dist.validA, validB := s.dist.validB
              selA := s.dist.selA, selB := s.dist.selB }
    pending := s.pending }

/-- What stays in STANDBY: beside that, the always-on island: Whorl, thermal and power, the store's machinery, the boot
status, the side port's registers there, and what lasts until OFF in trust. (DEDUCED, log 103.) The kept account buckets
bear numbers of the device time that ended here (16 R381); how they age against a new one no rule states, and the numbers
stay as they are (DESIGN CHOICE, log 161). -/
def afterRails (s : State) : State :=
  let t := s.afterLoss
  { t with
    dev := .standby
    whorl := { s.whorl with faults := s.whorl.faults &&& 0x30 }
    ports := s.ports.foldl (fun m x => Store.write {} m x.1 { windows := x.2.windows }) []
    latch := s.latch
    power := { s.power with rails := [], powerGood := false, disabling := none, shut := none, shutPage := false }
    nvCtl := { s.nvCtl with
      objects := [], jobs := s.nvCtl.jobs.filter fun j => decide (j.kind = 2)
      jobAt := max s.nvCtl.jobAt s.now, eraseAt := max s.nvCtl.eraseAt s.now }
    trust := { t.trust with
      slots := s.trust.slots, rollback := s.trust.rollback, bootCount := s.trust.bootCount, access := s.trust.access
      unlocked := s.trust.unlocked, unlockedAt := s.trust.unlockedAt, keyLatched := s.trust.keyLatched, tap := s.trust.tap
      tapData := s.trust.tapData, boundary := s.trust.boundary, sampled := s.trust.sampled
      clearingDone := s.trust.clearingDone }
    boot := { cause := s.boot.cause, fallback := s.boot.fallback, slotB := s.boot.slotB, source := s.boot.source
              slow := s.boot.slow, refused := s.boot.refused }
    side := SidePort.unpowered s.side
    counters := s.counters.filter fun c => Kind.refused1 ≤ c.1 / 1024 && c.1 / 1024 ≤ Kind.recharged }

/-- The device reaches STANDBY with a cause code of Table 15-1 (0: none): inhibit causes but an open loop and a debug
unlock go with the supplies. (DEDUCED, log 103.) -/
def toStandby (cause : Nat) (s : State) : State :=
  let s1 := if cause = 0 then s.setFlag 0
    else (s.event Src.device 0x10 [(1, s.dev.code), (1, 1), (1, cause)]).setFlag 0
  let s2 := s1.cond (s.dev = .boot && !s.boot.failed) (setFlag 20)
  (s2.each [1, 2, 3, 4, 5, 6] fun i s => s.setInhibit i false).afterRails

/-- Enables that are still to come are not made. -/
def cancelEnables (s : State) : State :=
  s.each (List.range 6) fun k s => s.cond (decide (s.now < (s.rail k).enabledAt)) (modRail k fun _ => {})

/-- The rails go off one after the other from `start` on (spec 18 R420). -/
def startDisabling (cause : Nat) (start : Tick) (s : State) : State :=
  s.cancelEnables.modPower fun p => { p with disabling := some cause, disableAt := start }

/-- The key slots with those that the valid copy of object 1 holds (spec 18 R434, 21 R480). -/
def storedSlots (s : State) : Store KeySlot :=
  match s.resolveCopy 1 with
  | none => s.trust.slots
  | some (b, _) =>
    (List.range 4).foldl (fun m i => Store.write {} m (2 + i) (slotOf (s.nvBytes 1 b) i)) s.trust.slots

/-- VAUX33 has stood at or above 3.00 V for 1 ms (spec 18 R417): STANDBY with the island at its reset values; the log's
numbers and the key slots are read from the store (21 R480). -/
def powerOn (mv : Nat) (s : State) : State :=
  if s.dev ≠ .off ∨ mv < 3000 then s
  else
    let pages := ((s.nv.map fun b => b.1 / 64).filter fun p => decide (2048 ≤ p)).dedup
    let good := pages.filter fun p => pageGood (s.nvPage p)
    let nums := good.map fun p => fromLe ((s.nvPage p).take 4)
    let newest := nums.foldl (fun a n => if 0 < serialDiff n a then n else a) (nums.headD 0)
    let oldest := nums.foldl (fun a n => if 0 < serialDiff a n then n else a) (nums.headD 0)
    let t := s.afterLoss
    { t with
      dev := .standby
      whorl := { t.whorl with inhibit := 1, lastOpen := s.now }
      power := { t.power with vaux := mv, nvAllowed := decide (3100 ≤ mv) }
      nvCtl := { t.nvCtl with oldest := oldest, next := if nums = [] then 0 else (newest + 1) % 2 ^ 32 }
      trust := { t.trust with slots := t.storedSlots } } |>.setFlag 0

/-- VAUX33 falls below 2.80 V (spec 18 R417): OFF. -/
def powerLoss (mv : Nat) (s : State) : State := if mv < 2800 then s.afterLoss else s

/-- A power-up request (spec 18 R418, R419, 21 R476): refused below 3.10 V or at 100.0 C and above, ignored outside
STANDBY. -/
def requestPower (bootsel : Nat) (s : State) : State :=
  if s.dev ≠ .standby then s
  else if s.power.vaux < 3100 ∨ s.power.temp.any fun t => decide (400 ≤ t) then
    s.modBoot fun b => { b with refused := (b.refused + 1) % 65536 }
  else
    let s1 := ((s.modDev fun _ => .boot).setFlag 0).modWhorl fun w => { w with accountCorrected := [] }
    (s1.modBoot fun b => { b with
      stage := 1, stageAt := s.now, fallback := false, slow := false, failed := false
      source := if s.side.override then s.side.src else bootsel % 4 }).modPower fun p => { p with
        autoDue := none, rails := Store.modify {} p.rails 0 fun r => { r with enabled := true, enabledAt := s.now } }

/-- A rail has been in its good window for 100 us (spec 18 R416, R419). In the sequence the next one is enabled 1 ms
later; the
last one's is power-good. -/
def railIsGood (k : Nat) (s : State) : State :=
  let r := s.rail k
  if !r.enabled ∨ r.good ∨ r.outside ∨ r.sag ∨ s.now < max r.enabledAt r.backAt + us 100 then s
  else
    let s1 := s.modRail k fun r => { r with good := true }
    if s.boot.stage ≠ 1 ∨ s.power.shut.isSome ∨ s.power.disabling.isSome then s1
    else if k < 5 then
      s1.cond (!(s.rail (k + 1)).enabled) (modRail (k + 1) fun r => { r with enabled := true, enabledAt := s.now + us 1000 })
    else
      let s2 := ((s1.modPower fun p => { p with powerGood := true }).modSide fun p => { p with irqFlag := false }).modBoot fun b =>
        { b with stage := 2, stageAt := s.now }
      s2.cond (s2.boot.plls.getLsbD 2 && s2.link.state = .down) linkDetect

/-- A rail is not good within 5 ms of its enable (spec 18 R419). (DEDUCED, log 110.) -/
def sequenceFails (k mv : Nat) (s : State) : State :=
  let r := s.rail k
  if s.boot.stage ≠ 1 ∨ !r.enabled ∨ r.good ∨ s.now < r.enabledAt + us 5000 then s
  else
    let s1 := (s.modPower fun p => { p with seqFail := k + 1 }).log Src.power 0x0406 (le 1 (k + 1) ++ le 1 0 ++ le 2 mv)
    ((s1.modBoot fun b => { b with stage := 0, failed := true }).setFlag 20).startDisabling 0 s.now

/-- The next rail goes off (spec 18 R420): from the first on the link is DOWN; after the last the device is in STANDBY, and a
reset shutdown's own request falls due 100 ms later (R422). -/
def railOff (s : State) : State :=
  match s.power.disabling with
  | none => s
  | some cause =>
    if s.now < s.power.disableAt then s
    else
      let on := (List.range 6).filter fun k => (s.rail k).enabled && decide ((s.rail k).enabledAt ≤ s.now)
      let s1 := s.cond (s.power.powerGood) fun s => (s.linkDown).modPower fun p => { p with powerGood := false }
      match on.reverse with
      | [] => s1.toStandby cause
      | k :: rest =>
        let s2 := (s1.modRail k fun _ => {}).modPower fun p => { p with disableAt := s.now + us 10 }
        if rest ≠ [] then s2
        else (s2.toStandby cause).modPower fun p => { p with
          autoDue := if s.power.shut.any fun x => x.1 = 1 then some (s.now + us 100000) else none }

/-- The device's own request after a reset shutdown, at most 3 in any 10 s (spec 18 R422). -/
def autoPowerUp (bootsel : Nat) (s : State) : State :=
  let auto := s.power.autoAt.filter fun t => s.now < t + us 10000000
  if !s.power.autoDue.any fun d => decide (d ≤ s.now) then s
  else if 3 ≤ auto.length then s.modPower fun p => { p with autoDue := none, autoAt := auto }
  else (s.modPower fun p => { p with autoDue := none, autoAt := auto ++ [s.now] }).requestPower bootsel

/-! ## Hardware shutdown (spec 18 R428, R435) -/

/-- The states in which a shutdown has something to shut down: a power-up or more is under way. -/
def anyPower (s : State) : Bool := s.dev ≠ .off && s.dev ≠ .standby

/-- A shutdown's cause: its inhibit cause, TSHUT_N and SHUTDOWN (spec 18 R428 step 1, R431). -/
def shutCause (cause : Nat) (s : State) : State :=
  let temp := if cause = 2 then (s.power.proxy.map fun p => p.1).getD 0 else s.power.temp.getD 0
  let s1 := (s.setInhibit (if cause = 1 then 4 else 5) true).event Src.power 0x54 [(1, cause), (2, twos 2 temp)]
  (s1.modNvCtl fun _ => s.nvCtl).modPower fun p => { p with
    shut := some (cause, temp, false), disableAt := s.now + us 2, disabling := none, tshut := p.tshut || cause = 0 }

/-- A shutdown is decided (spec 18 R428 step 1): 0 thermal, 1 reset, 2 proxy. Of the page writes only the one that has
started is left (step 2); rails that go off for another reason wait for the record. A thermal one gives its cause to a reset
that is decided in the same cycle. (DEDUCED, log 104.) -/
def shutdown (cause : Nat) (s : State) : State :=
  if !s.anyPower then s
  else match s.power.shut with
  | some (1, _, false) =>
    if cause = 0 ∧ s.power.disableAt = s.now + us 2 then (s.unsay Src.power 0x54).shutCause 0 else s
  | some _ => s
  | none =>
    let s1 := (s.cancelEnables.whorlStop.each (List.range 8) fun n s => s.setPort n .off 3).stopBias
    ((s1.modNvCtl fun c => { c with jobs := c.jobs.take (if s.pageStarted then 1 else 0) }).modPower fun p => { p with
      shutPage := s.pageStarted, recordFrom := s.now }).shutCause cause |>.modBoot fun b => { b with test := none }

/-- The next pre-erased reserve page (spec 18 R428). -/
def reservePage (s : State) : Nat :=
  ((List.range 16).map fun i => 680 + i).find? (fun p => decide (p ∉ s.nvCtl.erasing) && (s.nvPage p).all fun b => b = 0)
    |>.getD 695

/-- The shutdown record is written, 12 us from the decision or from the end of the page write in progress (spec 18 R428
step 3, R435), and the rails go off; where writes are refused there is no record (R424). The number that the record bears
is open (DESIGN CHOICE, log 33). (DEDUCED, log 104.) -/
def shutdownRecord (s : State) : State :=
  match s.power.shut with
  | some (cause, temp, false) =>
    if s.power.shutPage ∨ s.now < s.power.recordFrom + us 12 then s
    else
      let (n, s1) := s.draw (2 ^ 32)
      let page := logPage n 0 (s1.logBody Src.power 0x0054 (place 0 [(1, cause), (2, twos 2 temp)]))
      ((s1.cond s.power.nvAllowed (modNv fun m => Memory.write m (64 * s.reservePage) page)).modPower fun p => { p with
        shut := some (cause, temp, true) }).startDisabling 0x11 s.now
  | _ => s

/-! ## Sag, reset, windows and the write threshold (spec 18 R421-R424) -/

/-- A sag begins on a rail (spec 18 R421). -/
def sagBegins (k mv : Nat) (s : State) : State :=
  if !s.powered ∨ 6 ≤ k ∨ !railStops k mv ∨ (s.rail k).sag then s
  else
    let s1 := (s.modRail k fun r => { r with sag := true, sagAt := s.now, good := false }).cond (!s.anySag) fun s =>
      s.modMarks (addMark (some 0) .sag 3 s.now none)
    ((s1.whorlStop.setInhibit 4 true).setFlag 10).event Src.power 0x53 [(1, k), (1, 1), (2, mv)]

/-- A sag ends on a rail, with its lowest reading: the rail has read at least the threshold plus 10 mV for 10 us (spec 18
R421). The inhibit cause clears with the last one unless it is the cause of FAULT (16 R386). -/
def sagEnds (k mv reading : Nat) (s : State) : State :=
  if !(s.rail k).sag ∨ 10 * reading < (railLimits k).2.2.1 + 100 ∨ s.now < (s.rail k).sagAt + us 10 then s
  else
    let s1 := (s.modRail k fun r => { r with sag := false, backAt := s.now - us 10 }).event Src.power 0x53 [(1, k), (1, 0), (2, mv)]
    if s1.anySag then s1
    else ((s1.modMarks (endMark .sag s.now)).modPower fun p => { p with lastSagEnd := s.now }).cond
      (!s.whorl.faults.getLsbD 2 || s.dev ≠ .fault) fun s => s.setInhibit 4 false

/-- A sag that lasts 1 ms is a FAULT cause (spec 18 R421). -/
def sagFaults (s : State) : State :=
  s.cond (!s.whorl.faults.getLsbD 2 && s.power.rails.any fun r => r.2.sag && decide (r.2.sagAt + us 1000 ≤ s.now))
    (faultCause (some 2))

/-- No sag has existed for 10 ms: the FAULT cause no longer persists (spec 18 R421). -/
def sagFaultEnds (s : State) : State :=
  s.cond (!s.anySag && decide (s.power.lastSagEnd + us 10000 ≤ s.now)) (faultGone 2)

/-- A rail reads below its reset threshold (spec 18 R422). -/
def railReset (k mv : Nat) (s : State) : State :=
  s.cond (s.powered && decide (k < 6) && railResets k mv) (shutdown 1)

/-- A rail that has been good leaves its window in the sequence, or comes back: the next enable, where it is still to come,
waits anew (spec 18 R416, R419). -/
def railWaits (k mv : Nat) (s : State) : State :=
  if railGood k mv then
    s.cond (s.rail k).outside (modRail k fun r => { r with outside := false, backAt := s.now })
  else (s.modRail k fun r => { r with outside := true, good := false }).cond
    (decide (s.now < (s.rail (k + 1)).enabledAt)) (modRail (k + 1) fun _ => {})

/-- A rail leaves its good window for 10 us without a sag, or returns (spec 18 R423). (DEDUCED, log 114.) -/
def railWindow (k mv : Nat) (s : State) : State :=
  if 6 ≤ k ∨ !(s.rail k).enabled then s
  else if !s.powered then s.cond (s.boot.stage = 1) (railWaits k mv)
  else if railGood k mv then
    if (s.rail k).outside then (s.modRail k fun r => { r with outside := false, backAt := s.now }).health 0x0202 k [] []
    else s
  else if (s.rail k).outside ∨ railStops k mv then s
  else ((s.modRail k fun r => { r with outside := true, good := false }).setFlag 11).health 0x0201 k
    [(2, mv), (1, if 10 * mv < (railLimits k).1 then 0 else 1)] []

/-- VAUX33 crosses a write threshold (spec 18 R424). -/
def nvThreshold (mv : Nat) (s : State) : State :=
  let s1 := s.modPower fun p => { p with vaux := mv }
  if s.dev = .off then s
  else if mv < 3050 ∧ s.power.nvAllowed then
    ((s1.modPower fun p => { p with nvAllowed := false }).nvStop).event Src.power 0x55 [(1, 0), (2, mv)]
  else if 3100 ≤ mv ∧ !s.power.nvAllowed then
    ((s1.modPower fun p => { p with nvAllowed := true }).event Src.power 0x55 [(1, 1), (2, mv)]).nvResume
  else s1

/-! ## Temperature (spec 18 R425-R430) -/

/-- A proxy is valid: the diode is broken and a proxy's period has not ended (spec 18 R430). -/
def proxyValid (s : State) : Bool := s.power.broken && s.power.proxy.isSome

/-- The thermal level becomes `l` at a temperature (spec 18 R427, R431). -/
def setLevel (l : Nat) (temp : Int) (s : State) : State :=
  if l = s.power.level then s
  else
    let s1 := (s.modPower fun p => { p with level := l }).event Src.power 0x50 [(1, l), (2, twos 2 temp)]
    (s1.cond (s.power.level < l) (setFlag 8)).reducedNow

/-- The level follows a temperature in 0.25 C (spec 18 Table 18-3): an accepted reading, or a proxy, whose shutdown Distaff
carries out (R430). (DEDUCED, log 106.) -/
def levelAt (temp : Int) (cause : Nat) (s : State) : State :=
  let n := if 500 ≤ temp then s.power.hotRun + 1 else 0
  let s1 := s.modPower fun p => { p with hotRun := min 2 n, hotAt := if 440 < temp then s.now else p.hotAt }
  let l := s.power.level
  let s2 := s1.setLevel (if 460 ≤ temp ∨ l = 2 then 2 else if 440 ≤ temp then 1 else if l = 1 ∧ 420 < temp then 1 else 0)
    temp
  s2.cond (decide (2 ≤ n) && (cause ≠ 2 || s.dist.up)) (shutdown cause)

/-- The temperature that the thermal level follows: the last accepted reading, or the proxy that stands (spec 18 R427,
R430); none in the blind-thermal state, where the level stays (R429). -/
def levelTemp (s : State) : Option Int :=
  if s.proxyValid then s.power.proxy.map fun p => p.1 else if s.power.broken then none else some (s.power.temp.getD 0)

/-- A proxy above 110.0 C stands up to now. -/
def proxyWasHot (s : State) : State :=
  s.cond (s.proxyValid && s.power.proxy.any fun p => decide (440 < p.1)) (modPower fun p => { p with hotAt := s.now })

/-- Every temperature has been at or below 110.0 C for 10 ms: throttle ends (spec 18 Table 18-3). -/
def throttleEnds (s : State) : State :=
  match s.levelTemp with
  | some t =>
    if s.power.level ≠ 2 ∨ s.now < s.power.hotAt + us 10000 ∨ 440 < t then s else s.setLevel (if 420 < t then 1 else 0) t
  | none => s

/-- The device enters the blind-thermal state (spec 18 R429): writing groups stop with the thermal flag, and refresh is
doubled. -/
def blindBegins (s : State) : State :=
  let s1 := ((s.stopCaptures 4).refreshStep).reducedNow
  match s1.dram.pass with
  | some p => s1.cond ((List.range 16).all fun i => !(s1.dramCh i).training) (endIfDone p)
  | none => s1

/-- A reading passes the tests of R425: range, and at most 20 C/ms from the last accepted reading. -/
def readingGood (s : State) (v : Int) : Bool :=
  -240 ≤ v && v ≤ 720 && s.power.temp.all fun t => decide ((v - t).natAbs * us 1000 ≤ 80 * (s.now - s.power.tempAt))

/-- A reading becomes the accepted one (spec 18 R425, R428). -/
def acceptReading (v : Int) (s : State) : State :=
  s.modPower fun p => { p with
    temp := some v, tempAt := s.now, ignoredRun := 0, tshut := p.tshut && decide (400 ≤ v) }

/-- The diode is declared broken (spec 18 R426). -/
def diodeBreaks (v : Int) (s : State) : State :=
  let s1 := ((s.modPower fun p => { p with broken := true, goodRun := 0, hotRun := 0 }).setFlag 9).event Src.power 0x51
    [(1, 1), (2, twos 2 v)]
  if s1.power.proxy.isNone then s1.blindBegins
  else s1.levelAt ((s1.power.proxy.map fun p => p.1).getD 0) 2

/-- A reading while the diode is broken (spec 18 R426): 2,000 in range and within 1.0 C of each other restore it. -/
def brokenReading (v : Int) (s : State) : State :=
  let inRange := -240 ≤ v && v ≤ 720
  let steady := inRange && s.power.lastRaw.any fun r => decide ((v - r).natAbs ≤ 4)
  let n := if steady then s.power.goodRun + 1 else 0
  let s1 := s.modPower fun p => { p with
    goodRun := n, lastRaw := some v, ignored := if s.readingGood v then p.ignored else (p.ignored + 1) % 2 ^ 32 }
  if n < 2000 then s1.dramReading none
  else
    let s2 := (s1.proxyWasHot.acceptReading v).modPower fun p => { p with
      broken := false, goodRun := 0, proxy := none, hotRun := 0
      restoredAt := some s.now }
    (((s2.event Src.power 0x51 [(1, 0), (2, twos 2 v)]).dramReading (some v)).levelAt v 0).reducedNow

/-- A diode reading in 0.25 C is judged (spec 18 R425-R427). -/
def judgeReading (v : Int) (s : State) : State :=
  if s.power.broken then s.brokenReading v
  else if s.readingGood v then
    (((s.acceptReading v).modPower fun p => { p with lastRaw := some v }).dramReading (some v)).levelAt v 0
  else
    let n := s.power.ignoredRun + 1
    let s1 := s.modPower fun p => { p with lastRaw := some v, ignoredRun := n, ignored := (p.ignored + 1) % 2 ^ 32 }
    (s1.dramReading none).cond (decide (4 ≤ n)) (diodeBreaks v)

/-- A diode reading, every 50 us in every state from STANDBY (spec 18 R425); `patterns` is the DRAM traffic of training and
self-test patterns since the last one, by channel (12 R287, R297). -/
def diodeReading (v : Int) (patterns : List (Nat × Nat)) (s : State) : State :=
  if s.dev = .off ∨ s.power.readAt.any fun x => decide (s.now < x + us 50) then s
  else ((s.notePatterns patterns).modPower fun p => { p with readAt := some s.now }).judgeReading v

/-- PROXY TEMPERATURE (spec 18 R430): in the cycle in which the diode is restored it is discarded. (DEDUCED, log 106.) -/
def proxyTemp (temp : Int) (seconds handle : Nat) (s : State) : State :=
  if s.power.restoredAt = some s.now then s.succeed handle [] else
  let s1 := (s.proxyWasHot.modPower fun p => { p with proxy := some (temp, s.now + us (1000000 * seconds)) }).event Src.power 0x52
    [(1, 1), (2, twos 2 temp)]
  ((s1.cond s.power.broken fun s => (s.levelAt temp 2).reducedNow).succeed handle [])

/-- A proxy's period ends (spec 18 R430). -/
def proxyExpires (s : State) : State :=
  match s.power.proxy with
  | none => s
  | some (temp, e) =>
    if s.now < e then s
    else ((s.proxyWasHot.modPower fun p => { p with proxy := none }).event Src.power 0x52 [(1, 0), (2, twos 2 temp)]).cond
      s.power.broken blindBegins

/-- The checks of PROXY TEMPERATURE. -/
def proxyCheck (temp : Int) (seconds : Nat) (_ : State) : Ack :=
  if temp < -240 ∨ 720 < temp then .wrongArg 16 else if seconds = 0 ∨ 60 < seconds then .wrongArg 18 else .accepted

end State

/-! ## Meanings -/

/-- POWER_ON: spec 18 R417. -/
def execPowerOn (t : Tick) (millivolts : Nat) (s : State) : Host.Outcome State Fault Refusal :=
  .next ((s.advance t).powerOn millivolts)

/-- POWER_LOSS: spec 18 R417, 16 R374. -/
def execPowerLoss (t : Tick) (millivolts : Nat) (s : State) : Host.Outcome State Fault Refusal :=
  .next ((s.advance t).powerLoss millivolts)

/-- POWER_UP_REQUEST: spec 18 R418, R419. -/
def execPowerUpRequest (t : Tick) (bootsel : Nat) (s : State) : Host.Outcome State Fault Refusal :=
  .next ((s.advance t).requestPower bootsel)

/-- RAIL_GOOD: spec 18 R416, R419. -/
def execRailGood (t : Tick) (rail : Nat) (s : State) : Host.Outcome State Fault Refusal :=
  .next ((s.advance t).railIsGood rail)

/-- RAIL_SEQUENCE_FAILURE: spec 18 R419. -/
def execRailSequenceFailure (t : Tick) (rail millivolts : Nat) (s : State) : Host.Outcome State Fault Refusal :=
  .next ((s.advance t).sequenceFails rail millivolts)

/-- RAIL_DISABLE: spec 18 R419, R420. -/
def execRailDisable (t : Tick) (s : State) : Host.Outcome State Fault Refusal := .next (s.advance t).railOff

/-- SUPPLY_SAG: spec 18 R421. -/
def execSupplySag (t : Tick) (rail millivolts : Nat) (s : State) : Host.Outcome State Fault Refusal :=
  .next ((s.advance t).sagBegins rail millivolts)

/-- SAG_END: spec 18 R421. -/
def execSagEnd (t : Tick) (rail : Nat) (readings : SagReadings) (s : State) : Host.Outcome State Fault Refusal :=
  .next ((s.advance t).sagEnds rail readings.lowest readings.present)

/-- SAG_FAULT: spec 18 R421. -/
def execSagFault (t : Tick) (s : State) : Host.Outcome State Fault Refusal := .next (s.advance t).sagFaults

/-- SAG_FAULT_CLEAR: spec 18 R421. -/
def execSagFaultClear (t : Tick) (s : State) : Host.Outcome State Fault Refusal := .next (s.advance t).sagFaultEnds

/-- RESET_SHUTDOWN: spec 18 R422. -/
def execResetShutdown (t : Tick) (rail millivolts : Nat) (s : State) : Host.Outcome State Fault Refusal :=
  .next ((s.advance t).railReset rail millivolts)

/-- AUTO_POWER_UP: spec 18 R422. -/
def execAutoPowerUp (t : Tick) (bootsel : Nat) (s : State) : Host.Outcome State Fault Refusal :=
  .next ((s.advance t).autoPowerUp bootsel)

/-- RAIL_WINDOW_EXIT: spec 18 R423. -/
def execRailWindowExit (t : Tick) (rail millivolts : Nat) (s : State) : Host.Outcome State Fault Refusal :=
  .next ((s.advance t).railWindow rail millivolts)

/-- NV_WRITE_THRESHOLD: spec 18 R424. -/
def execNvWriteThreshold (t : Tick) (millivolts : Nat) (s : State) : Host.Outcome State Fault Refusal :=
  .next ((s.advance t).nvThreshold millivolts)

/-- DIODE_READING: spec 18 R425-R427, 12 R287. -/
def execDiodeReading (t : Tick) (temp : Int) (patterns : List (Nat × Nat)) (s : State) : Host.Outcome State Fault Refusal :=
  .next ((s.advance t).diodeReading temp patterns)

/-- THROTTLE_EXIT: spec 18 R427. -/
def execThrottleExit (t : Tick) (s : State) : Host.Outcome State Fault Refusal := .next (s.advance t).throttleEnds

/-- SHUTDOWN_RECORD_WRITE: spec 18 R428, R435. -/
def execShutdownRecordWrite (t : Tick) (s : State) : Host.Outcome State Fault Refusal :=
  .next (s.advance t).shutdownRecord

/-- PROXY_TEMPERATURE: spec 18 R430. -/
def execProxyTemperature (t : Tick) (h : Hdr) (temp : Int) (seconds : Nat) (s : State) :
    Host.Outcome State Fault Refusal :=
  .next ((s.advance t).command 0x1201 h (State.proxyCheck temp seconds) (State.proxyTemp temp seconds))

/-- PROXY_EXPIRY: spec 18 R430. -/
def execProxyExpiry (t : Tick) (s : State) : Host.Outcome State Fault Refusal := .next (s.advance t).proxyExpires

end Sys2Proof.Machine
end

