-- ==== Sys2Proof/Machine/Startup.lean ====
section
/-! DEFINITION. BOOT and self-test (spec 02 R55, R58, 12 R290, 17 R403, R404, 18 R434, R435, R438-R440, 21 R476-R479): from
power-good to SAFE, and the orderly shutdown. -/

namespace Sys2Proof.Machine

namespace State

/-! ## BOOT -/

/-- This attempt ends without SAFE (spec 21 R479, 18 Table 18-8); a slow path that has no image for its DRAM boot test to run
beside is reported then (18 R440; DEDUCED, log 109). -/
def bootFails (cause : Nat) (s : State) : State :=
  let s := s.cond (s.boot.slow && !s.boot.dramTested && (s.boot.stage = 4 || s.boot.stage = 5))
    (health 0x0220 0 [(1, 1), (1, s.boot.verdict), (1, s.boot.bootTest)] [])
  ((s.modBoot fun b => { b with cause := cause, failed := true }).setFlag 20).log Src.power 0x0402
    [BitVec.ofNat 8 cause, BitVec.ofNat 8 s.boot.fallback.toNat, BitVec.ofNat 8 s.boot.slotB.toNat]

/-- BOOT goes to a stage (spec 21 Table 21-7). (DEDUCED, log 108.) -/
def toBootStage (k : Nat) (s : State) : State := s.modBoot fun b => { b with stage := k, stageAt := s.now }

/-- REF_IN is measured (spec 02 R55): within 1,000 ppm of 100 MHz or 10 MHz, or the device stays in BOOT. -/
def measureRef (hz : Nat) (s : State) : State :=
  if s.dev ≠ .boot ∨ s.boot.refSeen then s
  else
    let near := fun (f : Nat) => decide (((hz : Int) - f).natAbs * 1000 ≤ f)
    let s1 := s.modBoot fun b => { b with refSeen := true }
    if near 100000000 || near 10000000 then s1.modSpindle fun p => { p with refAccepted := true, ref10 := near 10000000 }
    else (s1.log Src.power 0x0403 (le 4 hz)).bootFails 6

/-- A PLL locks (spec 02 R58, 12 R290, 14 R334): 0 core, 1 DRAM, 2 link, 3 sample. The core PLL's first lock in BOOT starts
device time; the link PLL's starts bring-up. -/
def pllLocks (which : Nat) (s : State) : State :=
  if s.dev ≠ .boot ∨ !s.spindle.refAccepted then s
  else if which = 3 then s.modPllLocked fun _ => true
  else if 3 < which ∨ s.boot.plls.getLsbD which then s
  else
    let s1 := s.modBoot fun b => { b with plls := b.plls ||| BitVec.ofNat 3 (2 ^ which) }
    let s2 := s1.cond (which = 0 && s1.clock.lockedAt.isNone) (modClock fun c => { c with lockedAt := some s.now, epoch := false })
    s2.cond (which = 2 && s2.powered && s2.link.state = .down) linkDetect

/-- The journalled objects are resolved; a copy found invalid is reported with the copy used (spec 18 R434).
(DESIGN CHOICE, log 36.) -/
def resolveObjects (s : State) : State :=
  s.each (List.range 5) fun k s =>
    match s.resolveCopy k with
    | none => s
    | some (b, n) =>
      (s.modNvCtl fun c => { c with objects := Store.write (false, 0, false) c.objects k (b, n, true) }).cond
        (s.copyBroken k (!b)) (health 0x0211 k [(1, b.toNat)] [])

/-- The reserve pages that hold a shutdown record. -/
def recordPages (s : State) : List Nat := ((List.range 16).map fun i => 680 + i).filter fun p => pageGood (s.nvPage p)

/-- Every shutdown record is copied into the log, and the reserve pages are erased (spec 18 R435). -/
def copyReserve (s : State) : State :=
  let used := ((List.range 16).map fun i => 680 + i).filter fun p => (s.nvPage p).any fun b => b ≠ 0
  (s.each s.recordPages fun p s => s.log Src.power 0x0404 ((s.nvPage p).take 24)).queueErases used

/-- BOOT takes the fast path (spec 18 R440). -/
def fastPath (s : State) : Bool :=
  match s.nvData 3 with
  | none => false
  | some v => num v 0 1 = 0 && (num v 2 1 = 0 || num v 2 1 = 2) && num v 4 4 = s.trust.bootCount && s.recordPages = []

/-- What object 0 holds: the certificate and the encrypted keys, which BOOT decrypts unless they are locked away (spec 17
R406, R414; DESIGN CHOICE, log 26). -/
def loadTrust (s : State) : State :=
  match s.nvData 0 with
  | none => s
  | some b => s.modTrust fun t => { t with
      certificate := b.take certSize, keys := if t.keyLatched then [] else Config.attestationKeys Config.deviceKey (b.drop certSize) }

/-- The store has been read (spec 17 R403, 18 R434, R435, R440, 14 R338, 19 R458): a port's saved latencies are held for
the saved head until another one verifies. (DESIGN CHOICE, log 36; DEDUCED, log 138.) -/
def storeRead (s : State) : State :=
  if s.boot.stage ≠ 2 ∨ !s.spindle.refAccepted ∨ s.boot.failed then s
  else
    let s1 := s.resolveObjects
    if !Config.fusesGood ∨ (s1.nvData 0).isNone ∨ (s1.nvData 1).isNone then s1.bootFails 1
    else
      let s2 := (s1.loadCounters.loadTrust).modLink fun l => { l with tableNext := s1.storedTable }
      let fast := s2.fastPath
      let verdict := match s2.nvData 3 with | some v => num v 0 1 | none => 2
      let s3 := (s2.modBoot fun b => { b with
        slow := !fast, verdict := verdict, bootTest := 2, slotB := s2.bootSlotB, triedOther := false, image := []
        passed := false, dramTested := false }).calApply s2.savedPorts
      let s4 := s3.cond fast (health 0x0220 0 [(1, 0), (1, verdict), (1, 2)] [])
      (s4.copyReserve).toBootStage (if fast then 4 else 3)

/-- Training is done and the image has been read: what follows (spec 21 Tables 21-5, 21-7). (DEDUCED, log 108.) -/
def afterTraining (s : State) : State :=
  if s.boot.source = 3 then s.bootFails 7
  else if s.boot.source = 2 then s.toBootStage 6
  else if s.boot.image ≠ [] then s.toBootStage 7
  else s.toBootStage 5

/-- Start-up training ends: in BOOT, after VDD_DRAM is good and the DRAM PLL has locked (spec 12 R290), or that of a retest
(R293). -/
def trainingDone (eyes : List (List LaneEye)) (s : State) : State :=
  if s.boot.stage ≠ 4 ∨ !s.boot.plls.getLsbD 1 then s.retestTrained eyes else (s.trainAll eyes).afterTraining

/-- An image has been read from the flash, beside training or after it; an empty one means that the flash does not answer
(spec 17 R403, 18 Table 18-10, 21 Table 21-6). -/
def imageRead (image : List Byte) (s : State) : State :=
  if (s.boot.stage ≠ 4 ∧ s.boot.stage ≠ 5) ∨ !s.hasSlots ∨ s.boot.failed then s
  else if image = [] then s.bootFails 7
  else
    let b := s.slotAnswer s.boot.slotB image
    ((s.slotRead s.boot.slotB b).modBoot fun x => { x with image := b }).cond (s.boot.stage = 5) (toBootStage 7)

/-- The device reaches SAFE (spec 15 Table 15-1, 17 R403, R404, 03 R80, 02 R42): the boot count increments, Distaff runs, the
generators take a seed from the entropy source, and Spindle starts. A cause that arose before SAFE and stands then takes the
device on to FAULT (15 R347, 16 R386, R389; DEDUCED, log 158). -/
def bootSafe (s : State) : State :=
  let s1 := (s.modTrust fun t => { t with bootCount := (t.bootCount + 1) % 2 ^ 32, sessions := 0, token := [] }).modBoot fun b =>
    { b with cause := 0, fallback := b.triedOther, stage := 0 }
  let c := s1.countersNext
  let s2 := s1.nvWrite 1 (counterBytes c.1 c.2.1 c.2.2) none
  let (seed, s3) := s2.draw (2 ^ 64)
  let s4 := (s3.setSeed (BitVec.ofNat 64 seed)).distaffUp s.boot.image
  let s5 := (s4.enter .safe 2 0x26 3 none).enterAcquiring.log Src.power 0x0402
    [0, BitVec.ofNat 8 s1.boot.fallback.toNat, BitVec.ofNat 8 s1.boot.slotB.toNat]
  s5.cond s5.faultStands (faultCause none)

/-- The boot test of DRAM follows where the slow path still owes it; else the device reaches SAFE. (DEDUCED, log 109.) -/
def afterVerify (s : State) : State := if s.boot.slow && !s.boot.dramTested then s.toBootStage 8 else s.bootSafe

/-- The checks of the image are done (spec 17 R403, 21 R478): the other slot is tried once; a host load waits for another
LOAD_DONE. SAFE waits until the shutdown records are copied and erased (18 R435). (DEDUCED, log 109.) -/
def imageVerified (s : State) : State :=
  if s.boot.stage ≠ 7 ∨ s.boot.failed then s
  else match s.imageError s.boot.image with
    | none =>
      s.cond (s.boot.slow && !s.boot.dramTested || s.reserveClear) fun s =>
        (s.modBoot fun b => { b with passed := true }).afterVerify
    | some c =>
      if !s.hasSlots then s.modBoot fun b => { b with stage := 6, cause := c, image := [] }
      else if s.boot.triedOther then
        (s.modBoot fun b => { b with slotB := s.bootSlotB }).bootFails s.boot.cause
      else (s.modBoot fun b => { b with
        cause := c, triedOther := true, slotB := !s.bootSlotB, image := [] }).toBootStage 5

/-- A boot test ends (spec 18 R440): SRAM failure ends the attempt; DRAM channels that fail are mapped out, with a lane
and an eye that the test does not tell (DESIGN CHOICE, log 3). -/
def bootTestDone (dram : Bool) (r : TestResult) (s : State) : State :=
  if !s.boot.slow then s
  else if !dram then
    if s.boot.stage ≠ 3 ∨ s.boot.failed then s
    else if r.failingRows ≠ 0 then
      ((s.modBoot fun b => { b with bootTest := 1 }).health 0x0220 0 [(1, 1), (1, s.boot.verdict), (1, 1)] []).bootFails 5
    else (s.modBoot fun b => { b with bootTest := 0 }).toBootStage 4
  else if s.boot.dramTested ∨ !s.boot.trained ∨ (s.boot.stage ≠ 7 ∧ s.boot.stage ≠ 8)
      ∨ (s.boot.stage = 8 ∧ !s.reserveClear) then s
  else
    let bad := maskList 16 r.failingDram.toNat
    let s1 := s.each bad fun ch s =>
      let (v, s1) := s.draw (8 * 2 * 129)
      s1.mapOut ch (v % 8, v / 8 % 2, v / 16)
    let n := if bad = [] then 0 else 1
    let s2 := (s1.modBoot fun b => { b with dramTested := true, bootTest := n }).health 0x0220 0
      [(1, 1), (1, s.boot.verdict), (1, n)] []
    s2.cond (s.boot.stage = 8 && !s.boot.failed) bootSafe

/-- No LOAD_DONE within 60 s of entry into stage 6 (spec 21 R478). -/
def hostLoadTimeout (s : State) : State :=
  s.cond (s.boot.stage = 6 && !s.boot.failed && !s.boot.loaded && decide (s.boot.stageAt + us 60000000 ≤ s.now)) (bootFails 8)

/-- LOAD_DONE (spec 21 R478): the window's content is verified; outside stage 6, or with too long an image, it is ignored and
flagged. -/
def loadDone (s : State) : State :=
  if s.boot.stage ≠ 6 ∨ imageLimit < s.side.loadLen then s.setFlag 22
  else s.modBoot fun b => { b with image := s.loadWindow, stage := 7, failed := false, loaded := true }

/-! ## Self-test at shutdown (spec 18 R438, R439) -/

/-- The checks of SHUTDOWN: the DRAM region lies in the 8 GiB. -/
def shutdownCheck (start length : Nat) (_ : State) : Ack := if 8192 < start + length then .wrongArg 16 else .accepted

/-- SHUTDOWN (spec 18 R438): the command completes, then SELF-TEST begins: head switches open, bias and captures stop. -/
def shutdownCommand (start length handle : Nat) (s : State) : State :=
  let s1 := (s.succeed handle []).enter .selfTest 0xC 0x26 3 (some handle)
  ((s1.each (List.range 8) fun n s => s.setPort n .off 0).stopBias).modBoot fun b => { b with
    test := some (false, start, length, s.now) }

/-- The verdict record (spec 18 Table 18-9). (DESIGN CHOICE, log 107.) -/
def verdictBytes (s : State) (verdict reason : Nat) (r : TestResult) (start length : Nat) (since : Tick) (ran : Bool) :
    List Byte :=
  let dram := if length = 0 then 2 else if s.dramAbsent ∨ !ran then 3 else if r.failingDram = 0 then 0 else 1
  padTo 64 (le 1 verdict ++ le 1 reason ++ le 1 dram ++ le 1 0 ++ le 4 s.trust.bootCount ++ le 8 (s.devField since)
    ++ le 4 r.failingRows ++ le 4 r.firstAddress ++ le 4 r.sramSignature ++ le 4 r.dramSignature ++ le 4 start
    ++ le 4 length ++ le 2 r.failingDram.toNat ++ le 4 ((s.now - since) / us 1))

/-- The verdict is written; the rails go off when the write is done, or at once where it is refused. -/
def writeVerdict (verdict reason : Nat) (r : TestResult) (ran : Bool) (s : State) : State :=
  match s.boot.test with
  | none => s
  | some (_, start, length, since) =>
    let b := s.verdictBytes verdict reason r start length since ran
    let s1 := (s.modBoot fun b => { b with test := none }).nvWrite 3 b none
    let s2 := s1.log Src.power 0x0405 (b.take 32)
    if s.power.nvAllowed then s2 else s2.startDisabling 0xD s.now

/-- What stands for results that a test which did not run does not have. -/
def noResult : TestResult := ⟨0, 0, 0, 0, 0⟩

/-- The condition of R439 that fails: 1 core clock (locked at 1.000 GHz within 1 %, measured in kHz), 2 VDD_CORE (mV). -/
def testBlocked (s : State) (kilohertz mv : Nat) : Option Nat :=
  if !s.boot.plls.getLsbD 0 ∨ kilohertz < 990000 ∨ 1010000 < kilohertz then some 1
  else if mv < 730 ∨ 790 < mv then some 2 else none

/-- The test engine starts (spec 18 R438, R439), once the class-0 buffer is empty or after 1 ms: the link goes DOWN and
Distaff is held in reset. -/
def testStarts (kilohertz mv : Nat) (s : State) : State :=
  match s.boot.test with
  | some (false, start, length, since) =>
    if s.recs.q0 ≠ [] ∧ s.now < since + us 1000 then s else
    let s1 := (s.linkDown).modDist fun d => { d with up := false }
    let s2 := s1.modBoot fun b => { b with test := some (true, start, length, s.now), checkAt := s.now }
    match s.testBlocked kilohertz mv with
    | some r => s2.writeVerdict 2 r noResult false
    | none => s2
  | _ => s

/-- A check of R439, every 1 ms while the test runs. -/
def testChecks (kilohertz mv : Nat) (s : State) : State :=
  match s.boot.test with
  | some (true, _, _, _) =>
    if s.now < s.boot.checkAt + us 1000 then s
    else match s.testBlocked kilohertz mv with
      | some r => s.writeVerdict 2 r noResult false
      | none => s.modBoot fun b => { b with checkAt := s.now }
  | _ => s

/-- The test ends (spec 18 R438): the verdict is fail where a row or a channel failed. -/
def testEnds (r : TestResult) (s : State) : State :=
  match s.boot.test with
  | some (true, _, _, _) => s.writeVerdict (if r.failingRows = 0 ∧ r.failingDram = 0 then 0 else 1) 0 r true
  | _ => s

/-- Once the verdict record is committed, the rails go off (spec 18 R438). -/
def verdictWritten (before s : State) : State :=
  s.cond (s.dev = .selfTest && s.power.shut.isNone && before.nvObject 3 ≠ s.nvObject 3) (startDisabling 0xD s.now)

end State

/-! ## Meanings -/

/-- NV_PAGE_WRITE_DONE: spec 18 R433, R434, R438, 17 R401, 14 R338. -/
def execNvPageWriteDone (t : Tick) (s : State) : Host.Outcome State Fault Refusal :=
  let s := s.advance t
  .next (s.verdictWritten (s.takeTable s.nvPageDone.takeSlots))

/-- REF_IN_MEASUREMENT: spec 02 R55. -/
def execRefInMeasurement (t : Tick) (hertz : Nat) (s : State) : Host.Outcome State Fault Refusal :=
  .next ((s.advance t).measureRef hertz)

/-- PLL_LOCK: spec 02 R58, 12 R290, 14 R334. -/
def execPllLock (t : Tick) (which : Nat) (s : State) : Host.Outcome State Fault Refusal :=
  .next ((s.advance t).pllLocks which)

/-- NV_STORE_READ_DONE: spec 18 R434, R435, R440. -/
def execNvStoreReadDone (t : Tick) (s : State) : Host.Outcome State Fault Refusal := .next (s.advance t).storeRead

/-- DRAM_TRAINING_DONE: spec 12 R290. -/
def execDramTrainingDone (t : Tick) (eyes : List (List LaneEye)) (s : State) : Host.Outcome State Fault Refusal :=
  .next ((s.advance t).trainingDone eyes)

/-- IMAGE_READ_DONE: spec 17 R403. -/
def execImageReadDone (t : Tick) (image : List Byte) (s : State) : Host.Outcome State Fault Refusal :=
  .next ((s.advance t).imageRead image)

/-- IMAGE_VERIFY_DONE: spec 17 R403. -/
def execImageVerifyDone (t : Tick) (s : State) : Host.Outcome State Fault Refusal := .next (s.advance t).imageVerified

/-- BOOT_TEST_DONE: spec 18 R440. -/
def execBootTestDone (t : Tick) (dram : Bool) (result : TestResult) (s : State) : Host.Outcome State Fault Refusal :=
  .next ((s.advance t).bootTestDone dram result)

/-- HOST_LOAD_TIMEOUT: spec 21 R478. -/
def execHostLoadTimeout (t : Tick) (s : State) : Host.Outcome State Fault Refusal := .next (s.advance t).hostLoadTimeout

/-- LOAD_DONE: spec 21 R478. -/
def execLoadDone (t : Tick) (s : State) : Host.Outcome State Fault Refusal := .next (s.advance t).loadDone

/-- SHUTDOWN: spec 18 R438. -/
def execShutdown (t : Tick) (h : Hdr) (start length : Nat) (s : State) : Host.Outcome State Fault Refusal :=
  .next ((s.advance t).command 0x0F09 h (State.shutdownCheck start length) (State.shutdownCommand start length))

/-- SELF_TEST_START: spec 18 R438, R439. -/
def execSelfTestStart (t : Tick) (kilohertz millivolts : Nat) (s : State) : Host.Outcome State Fault Refusal :=
  .next ((s.advance t).testStarts kilohertz millivolts)

/-- SELF_TEST_CHECK: spec 18 R439. -/
def execSelfTestCheck (t : Tick) (kilohertz millivolts : Nat) (s : State) : Host.Outcome State Fault Refusal :=
  .next ((s.advance t).testChecks kilohertz millivolts)

/-- SELF_TEST_END: spec 18 R438. -/
def execSelfTestEnd (t : Tick) (result : TestResult) (s : State) : Host.Outcome State Fault Refusal :=
  .next ((s.advance t).testEnds result)

end Sys2Proof.Machine
end

