-- ==== Sys2Proof/Machine/Side.lean ====
section
/-! DEFINITION. The side port (spec 21): frames, registers and their snapshots, the command window with its doorbell, the
response ring, flags, the event-store window; and the delivery of responses on both paths (15 R356, R357). -/

namespace Sys2Proof.Machine

namespace State

/-! ## Responses (spec 15 R356, R357, 21 R481) -/

/-- Bytes of the class-3 queue (spec 13 R314). -/
def class3Size : Nat := 196608

/-- The class-3 queue has room for an entry. -/
def linkRoom (s : State) (r : Resp) : Bool :=
  s.powered && decide (s.recs.q3.foldl (fun n x => n + x.bytes.length) 0 + r.bytes.length ≤ class3Size)

/-- Ring slots that an entry takes. -/
def ringSlots (r : Resp) : Nat := (r.bytes.length + 63) / 64

/-- Ring slots that hold responses not yet consumed. -/
def ringUsed (s : State) : Nat := (s.side.producer + 512 - s.side.consumer) % 512

/-- The ring has room for an entry. -/
def ringRoom (s : State) (r : Resp) : Bool := s.powered && decide (s.ringUsed + ringSlots r ≤ 256)

/-- An entry waits on the link path. -/
def Resp.onLink (r : Resp) : Bool := decide (r.path = .link)

/-- The first waiting entry of a path that finds room: entries of a path wait in order (spec 15 R356). -/
def deliverable (s : State) : Option Resp :=
  let l := s.dist.waiting
  match l.find? Resp.onLink with
  | some r => if s.linkRoom r then some r else (l.find? fun r => !Resp.onLink r).filter s.ringRoom
  | none => (l.find? fun r => !Resp.onLink r).filter s.ringRoom

/-- An entry is written whole into the ring, and the producer index then passes its last slot; an acknowledgement frees its
command slot (spec 21 R481). -/
def writeRing (r : Resp) (s : State) : State :=
  let n := ringSlots r
  let b := padTo (64 * n) r.bytes
  s.modSide fun p => { p with
    mem := (List.range n).foldl (fun m i =>
      Memory.write m (0x020000 + 64 * ((p.producer + i) % 256)) ((b.drop (64 * i)).take 64)) p.mem
    producer := (p.producer + n) % 512
    ring := if r.handle = 0 then p.ring else p.ring ++ [((p.producer + n + 511) % 512, r.handle)]
    busy := match r.ack, r.path with
      | true, .side k => p.busy &&& ~~~ BitVec.ofNat 16 (2 ^ k)
      | _, _ => p.busy }

/-- A waiting acknowledgement or completion is delivered (spec 15 R356). -/
def deliver (s : State) : State :=
  let s := s.answerFronts
  match s.deliverable with
  | none => s
  | some r =>
    let s1 := s.modDist fun d => { d with waiting := d.waiting.erase r }
    if Resp.onLink r then s1.modRecs fun q => { q with q3 := q.q3 ++ [⟨r.handle, 0, none, r.bytes, 0⟩] }
    else s1.writeRing r

/-- The response consumer index is written (spec 21 R481): completions whose last slot it passes retire; an index past the
producer is ignored and flagged. -/
def setConsumer (i : Nat) (s : State) : State :=
  if !s.powered then s
  else
    let p := s.side
    let step := (i % 512 + 512 - p.consumer) % 512
    if s.ringUsed < step then s.setFlag 21
    else
      let passed := fun (x : Nat × Nat) => decide ((x.1 + 512 - p.consumer) % 512 < step)
      let hs := (p.ring.filter passed).map fun x => x.2
      (s.modSide fun p => { p with
        consumer := i % 512, ring := p.ring.filter fun x => !passed x }).retireHandles hs

/-! ## Commands (spec 15 R352, 21 R481) -/

/-- The header of the entry in a command slot (spec 15 Table 15-2): what arrives is the length that it states. -/
def slotHeader (s : State) (slot : Nat) : Nat × Hdr :=
  let b := Memory.load s.side.mem (0x010000 + 4096 * slot) 16
  headerOf (.side slot) b (num b 2 2)

/-- CMD_DOORBELL (spec 21 R481): the slot is busy and its command joins the intake; a busy slot, or any doorbell before
SAFE or in SELF-TEST, is ignored and flagged. -/
def doorbell (slot : Nat) (s : State) : State :=
  let k := slot % 16
  if !s.powered then s
  else if s.side.busy.getLsbD k || !s.dev.fromSafe || s.dev = .selfTest then s.setFlag 21
  else ((s.modSide fun p => { p with busy := p.busy ||| BitVec.ofNat 16 (2 ^ k) }).modDist fun d => { d with
    intake := d.intake ++ [⟨(s.slotHeader k).1, (s.slotHeader k).2, s.now⟩] }).answerFronts

/-! ## Flags and the event-store window (spec 21 R483, R484) -/

/-- FLAGS: written ones clear (spec 21 Table 21-9), but a flag whose event occurs in the same cycle stays set (spec 00
R12, 21 R483; DEDUCED, log 116). -/
def clearSideFlags (v : Word32) (s : State) : State :=
  s.modSide fun p => { p with
    flags := p.flags &&& (~~~ v.setWidth 23 ||| if p.flagsAt = s.now then p.flagsNew else 0) }

/-- LOG_SELECT: a load starts, again where one is under way (spec 21 R484). -/
def selectLog (v : Word32) (s : State) : State := s.cond (s.dev ≠ .off) (modSide fun p =>
  { p with logSelect := v, logFrom := p.logSource, logBusy := true, logValid := false, logAbsent := false })

/-- The window holds the selected page (spec 21 R484). -/
def windowLoaded (s : State) : State :=
  if !s.side.logBusy then s
  else
    let n := s.side.logSelect.toNat
    let page := s.nvPage (if s.side.logFrom then 680 + n % 16 else 2048 + n % 2048)
    let good := pageGood page && (s.side.logFrom || decide (fromLe (page.take 4) = n))
    let absent := if s.side.logFrom then !good
      else decide (serialDiff n s.nvCtl.oldest < 0 ∨ serialDiff s.logNewest n < 0)
    s.modSide fun p => { p with
      logBusy := false, logAbsent := absent, logValid := good && !absent
      window := if absent then List.replicate 64 0 else page }

/-! ## Reading registers (spec 21 Tables 21-7 to 21-14) -/

/-- A word of fields (place, value), lowest first. -/
def fields (l : List (Nat × Nat)) : Nat := l.foldl (fun w f => w + f.2 * 2 ^ f.1) 0

/-- A value where the fabric and core domains have their supply, 0 elsewhere (spec 21 R472, R473). -/
def ifPowered (s : State) (v : Nat) : Nat := if s.powered then v else 0

/-- A response is available (spec 21 Table 21-3). -/
def responseReady (s : State) : Bool := s.powered && s.side.producer ≠ s.side.consumer

/-- A flag is set whose FLAGS_IRQ bit is set. -/
def flagReady (s : State) : Bool := s.side.flags &&& s.side.flagsIrq ≠ 0

/-- SP_IRQ_N is low (spec 21 R482). -/
def irqLow (s : State) : Bool := s.dev ≠ .off && (s.side.irqRsp && s.responseReady || s.side.irqFlag && s.flagReady)

/-- The status byte (spec 21 Table 21-3). -/
def statusByte (s : State) : Nat :=
  fields [(0, s.responseReady.toNat), (1, s.flagReady.toNat), (2, s.powered.toNat), (3, s.side.frameError.toNat),
    (4, s.dev.code)]

/-- The live status register (spec 21 Table 21-9). -/
def liveStatus (s : State) : Nat :=
  fields [(0, s.dev.code), (4, s.ifPowered s.link.state.code), (8, s.ifPowered s.link.width), (12, s.ifPowered s.link.rate),
    (14, s.ifPowered s.memoryMode), (16, if s.blindThermal then 2 else if s.power.level = 2 then 1 else 0),
    (18, s.ifPowered s.spindle.warm.toNat), (19, s.ifPowered s.trust.session.isSome.toNat), (20, s.dist.up.toNat),
    (21, s.ifPowered s.dist.load)]

/-- The identity and boot registers (spec 21 Table 21-7). -/
def bootWord (s : State) (a : Nat) : Option Nat :=
  let id := Config.fusedIdentity.toNat
  match a with
  | 0x000 => some (0x7256 + bits id 72 8 * 65536)
  | 0x004 => some (bits id 0 32)
  | 0x008 => some (bits id 32 16 + bits id 48 5 * 65536)
  | 0x00C => some (bits id 56 16)
  | 0x010 => some idcode.toNat
  | 0x014 => some (if s.dist.up then s.dist.version else 0)
  | 0x018 => some ((s.keySlot 1).written.toNat + 2 * maskOf ((List.range 4).filter fun i => (s.keySlot (2 + i)).revoked))
  | 0x100 => some (fields [(2, s.side.src), (4, s.side.override.toNat), (5, s.side.flashDiv)])
  | 0x104 => some (fields [(0, s.boot.cause), (8, s.boot.fallback.toNat), (9, s.boot.slotB.toNat), (10, s.boot.source),
      (12, s.boot.slow.toNat), (16, s.boot.refused)])
  | 0x108 => some s.boot.stage
  | 0x10C => some s.side.loadLen
  | _ => none

/-- The doorbell and ring registers, flags, counters and live status (spec 21 Tables 21-8, 21-9). -/
def flagWord (s : State) (a : Nat) : Option Nat :=
  match a with
  | 0x200 => some 0
  | 0x204 => some (s.ifPowered s.side.busy.toNat)
  | 0x208 => some (s.ifPowered s.side.producer)
  | 0x20C => some (s.ifPowered s.side.consumer)
  | 0x210 => some (s.ifPowered (s.side.irqRsp.toNat + 2 * s.side.irqFlag.toNat))
  | 0x300 => some s.side.flags.toNat
  | 0x304 => some s.side.flagsIrq.toNat
  | 0x308 => some s.liveStatus
  | _ => if 0x340 ≤ a ∧ a ≤ 0x398 then some (Store.read 0 s.side.counts ((a - 0x340) / 4)) else none

/-- The Spindle status registers (spec 21 Table 21-11). -/
def spindleWord (s : State) (a : Nat) : Option Nat :=
  let p := s.spindle
  (match a with
    | 0x400 => some (fields [(0, p.state.code), (3, s.timingMode), (5, p.warm.toNat), (6, p.ocxo.toNat), (7, p.ref10.toNat),
        (16, min p.coast 65535)])
    | 0x404 => some s.lineTime.frame
    | 0x408 => some (s.lineTime.line + 65536 * s.lineTime.frac)
    | 0x40C => some (s.linePeriod % 2 ^ 32)
    | 0x410 => some (s.linePeriod / 2 ^ 32 % 65536)
    | 0x414 => some (fields ((List.range 8).map fun n => (2 * n, (Store.read {} p.scanners n : Scanner).state)))
    | 0x418 => some ((p.drift.map fun d => min d (2 ^ 32 - 1)).getD (2 ^ 32 - 1))
    | 0x41C => some p.strays
    | 0x420 => some p.excursions
    | 0x424 => some p.missings
    | _ => none).map s.ifPowered

/-- The Whorl status registers (spec 21 Table 21-12). -/
def whorlWord (s : State) (a : Nat) : Option Nat :=
  match a with
  | 0x500 => some (fields [(0, s.whorl.loop), (2, s.latch.set.toNat), (3, s.latch.cause), (5, s.emitPermit.toNat), (16, s.inhibitMask)])
  | 0x504 => some (fields (((List.range 8).map fun n => (n, (s.port n).gate.toNat))
      ++ (List.range 8).map fun n => (8 + 3 * n, (s.port n).gateCause)))
  | 0x508 => some s.whorl.opens
  | 0x50C => some s.watchdogLeft
  | 0x510 => some (if s.spindle.refAccepted then twos 2 s.whorl.deviation else 0)
  | _ => none

/-- The thermal and power registers (spec 21 Table 21-13). -/
def thermalWord (s : State) (a : Nat) : Option Nat :=
  let p := s.power
  match a with
  | 0x600 => some (fields [(0, s.tempField), (16, p.broken.toNat), (17, s.proxyValid.toNat), (18, p.level), (20, p.tshut.toNat),
      (21, s.blindThermal.toNat)])
  | 0x604 => some (match p.proxy with
      | some (t, e) => if s.proxyValid then twos 2 t + 65536 * ((e - s.now) / us 1000000) else 0
      | none => 0)
  | 0x608 => some p.ignored
  | 0x60C => some (s.ifPowered ((s.dram.tdram.map (twos 2)).getD 0x8000 + 65536 * s.dram.doubled.toNat))
  | 0x610 => some (fields [(0, maskOf ((List.range 6).filter fun k => (s.rail k).good)),
      (8, maskOf ((List.range 6).filter fun k => (s.rail k).sag)), (16, p.nvAllowed.toNat), (24, p.seqFail)])
  | _ => none

/-- The event-store registers (spec 21 Table 21-14). -/
def logWord (s : State) (a : Nat) : Option Nat :=
  match a with
  | 0x700 => some s.nvCtl.oldest
  | 0x704 => some s.logNewest
  | 0x708 => some s.side.logSelect.toNat
  | 0x70C => some (fields [(0, s.side.logSource.toNat), (8, s.side.logBusy.toNat), (9, s.side.logValid.toNat),
      (10, s.side.logAbsent.toNat)])
  | _ => none

/-- The word at an address, none where the address is unmapped (spec 21 Table 21-4). -/
def regWord (s : State) (a : Nat) : Option Nat :=
  if a < 0x200 then s.bootWord a
  else if a < 0x400 then s.flagWord a
  else if a < 0x500 then s.spindleWord a
  else if a < 0x600 then s.whorlWord a
  else if a < 0x700 then s.thermalWord a
  else if a < 0x800 then s.logWord a
  else if (0x10000 ≤ a ∧ a < 0x20000) ∨ (0x20000 ≤ a ∧ a < 0x24000) then
    some (if s.dev.fromSafe then fromLe (Memory.load s.side.mem a 4) else 0)
  else if 0x30000 ≤ a ∧ a < 0x30040 then some (fromLe ((s.side.window.drop (a - 0x30000)).take 4))
  else if 0x100000 ≤ a ∧ a < 0x200000 then some 0
  else none

/-- The registers of the snapshot groups, lowest first (spec 21 R474). -/
def spindleGroup : List Nat := [0x400, 0x404, 0x408, 0x40C, 0x410]
/-- LOG_OLDEST and LOG_NEWEST. -/
def logGroup : List Nat := [0x700, 0x704]

/-- The words of a group at this instant. -/
def groupWords (s : State) (g : List Nat) : List Word32 := g.map fun a => BitVec.ofNat 32 ((s.regWord a).getD 0)

/-- The word that a read gives (spec 21 R472, R474): of a snapshot group the latched word. -/
def sideWord (a : Nat) (s : State) : Word32 :=
  if s.dev = .off then 0
  else if a ∈ spindleGroup.drop 1 then if s.powered then nth 0 s.side.snapshot ((a - 0x400) / 4) else 0
  else if a = 0x704 then nth 0 s.side.logSnapshot 1
  else BitVec.ofNat 32 ((s.regWord a).getD 0)

/-- A read of an address (spec 21 R474): the lowest offset of a group latches the group. -/
def readSide (a : Nat) (s : State) : State :=
  let s1 := if a = 0x400 then s.modSide fun p => { p with snapshot := s.groupWords spindleGroup }
    else if a = 0x700 then s.modSide fun p => { p with logSnapshot := s.groupWords logGroup } else s
  s1.modSide fun p => { p with readData := s1.sideWord a }

/-! ## Writing registers (spec 21 R471, R472) -/

/-- A region's supply is missing, so that a write there is a frame error (spec 21 R472, Table 21-4). -/
def regionDark (s : State) (a : Nat) : Bool :=
  if 0x200 ≤ a ∧ a < 0x300 ∨ 0x400 ≤ a ∧ a < 0x500 then !s.powered
  else if 0x10000 ≤ a ∧ a < 0x24000 then !s.dev.fromSafe
  else if 0x100000 ≤ a ∧ a < 0x200000 then !s.powered
  else s.dev = .off

/-- BOOT_CTRL (spec 21 Table 21-7): the fields, then a power-up request, whose straps the write does not tell (DESIGN
CHOICE, log 34), or LOAD_DONE. -/
def writeBootCtrl (v : Nat) (s : State) : State :=
  let s1 := s.modSide fun p => { p with src := bits v 2 2, override := v.testBit 4, flashDiv := bits v 5 2 }
  let (straps, s2) := s1.draw 4
  (s2.cond (v.testBit 0) (requestPower straps)).cond (v.testBit 1) loadDone

/-- A complete word is written (spec 21 R471, R480); read-only fields and unmapped addresses change nothing. -/
def writeWord (a : Nat) (w : Word32) (s : State) : State :=
  let v := w.toNat
  if s.regionDark a then s
  else if 0x10000 ≤ a ∧ a < 0x20000 then s.modSide fun p => { p with mem := Memory.write p.mem a (le 4 v) }
  else if 0x100000 ≤ a ∧ a < 0x200000 then
    s.cond (s.boot.stage = 6 || s.dev.fromSafe && !s.dist.up) (modSide fun p => { p with
      mem := Memory.write p.mem a (le 4 v) })
  else match a with
    | 0x100 => s.writeBootCtrl v
    | 0x10C => s.modSide fun p => { p with loadLen := bits v 0 20 }
    | 0x200 => s.doorbell (bits v 0 4)
    | 0x20C => s.setConsumer (bits v 0 9)
    | 0x210 => s.modSide fun p => { p with irqRsp := v.testBit 0, irqFlag := v.testBit 1 }
    | 0x300 => s.clearSideFlags w
    | 0x304 => s.modSide fun p => { p with flagsIrq := w.setWidth 23 }
    | 0x708 => s.selectLog w
    | 0x70C => s.modSide fun p => { p with logSource := v.testBit 0 }
    | _ => s

/-- The complete words of a write frame from an address on, in order (spec 21 R475). -/
def writeWords : Nat → List Byte → State → State
  | a, b0 :: b1 :: b2 :: b3 :: r, s => writeWords (a + 4) r (s.writeWord a (BitVec.ofNat 32 (fromLe [b0, b1, b2, b3])))
  | _, _, s => s

/-- The addresses that the complete words of a frame name. -/
def frameWords (a : Nat) (data : List Byte) : List Nat := (List.range (data.length / 4)).map fun i => a + 4 * i

/-- A frame error (spec 21 R472). -/
def frameFails (s : State) (opcode : Byte) (a : Nat) (data : List Byte) : Bool :=
  (opcode ≠ 0x02 && opcode ≠ 0x0B) || a % 4 ≠ 0 || data.length % 4 ≠ 0
    || (opcode = 0x02 && (frameWords a data).any fun x => (s.regWord x).isNone || s.regionDark x)

/-- The words at addresses are read in turn: the bytes that SPMISO gives (spec 21 R471). -/
def readWords : List Nat → State → List Byte × State
  | [], s => ([], s)
  | a :: r, s =>
    let s1 := s.readSide a
    let x := readWords r s1
    (le 4 s1.side.readData.toNat ++ x.1, x.2)

/-- A frame of the side port (spec 21 R471, R472): the status byte answers the opcode, and in a read frame the words read
follow the dummy byte; words are written even where the frame has an error; an address that is no multiple of 4 is taken
down to one (DESIGN CHOICE, log 34). -/
def sideFrame (opcode : Byte) (a : Nat) (data : List Byte) (s : State) : State :=
  if s.dev = .off then s
  else
    let bad := s.frameFails opcode a data
    let x := if opcode = 0x02 then ([], writeWords (a / 4 * 4) data s)
      else if opcode = 0x0B then readWords (frameWords (a / 4 * 4) data) s else ([], s)
    (x.2.modSide fun p => { p with frameError := bad, miso := le 1 s.statusByte ++ x.1 }).cond bad (setFlag 22)

end State

/-! ## Meanings -/

/-- RESPONSE_DELIVERY: spec 15 R356. -/
def execResponseDelivery (t : Tick) (s : State) : Host.Outcome State Fault Refusal := .next (s.advance t).deliver

/-- PWR_REQ: spec 18 R418, 21 Table 21-7. -/
def execPwrReq (t : Tick) (bootsel : Nat) (s : State) : Host.Outcome State Fault Refusal :=
  .next ((s.advance t).requestPower bootsel)

/-- CMD_DOORBELL: spec 21 R481. -/
def execCmdDoorbell (t : Tick) (slot : Nat) (s : State) : Host.Outcome State Fault Refusal :=
  .next ((s.advance t).doorbell slot)

/-- RSP_CONSUMER: spec 21 R481. -/
def execRspConsumer (t : Tick) (index : Nat) (s : State) : Host.Outcome State Fault Refusal :=
  .next ((s.advance t).setConsumer index)

/-- FLAGS: spec 21 R483. -/
def execFlagsWrite (t : Tick) (value : Word32) (s : State) : Host.Outcome State Fault Refusal :=
  .next ((s.advance t).clearSideFlags value)

/-- LOG_SELECT: spec 21 R484. -/
def execLogSelect (t : Tick) (value : Word32) (s : State) : Host.Outcome State Fault Refusal :=
  .next ((s.advance t).selectLog value)

/-- LOG_WINDOW_LOADED: spec 21 R484. -/
def execLogWindowLoaded (t : Tick) (s : State) : Host.Outcome State Fault Refusal := .next (s.advance t).windowLoaded

/-- REGISTER_WRITE: spec 21 R471, R472. -/
def execRegisterWrite (t : Tick) (opcode : Byte) (address : Nat) (data : List Byte) (s : State) :
    Host.Outcome State Fault Refusal :=
  .next ((s.advance t).sideFrame opcode address data)

/-- SNAPSHOT_READ: spec 21 R474. -/
def execSnapshotRead (t : Tick) (address : Nat) (s : State) : Host.Outcome State Fault Refusal :=
  .next ((s.advance t).readSide address)

end Sys2Proof.Machine
end

