-- ==== Sys2Proof/Machine/Dispatch.lean ====
section
/-! DEFINITION. The dispatch of commands to their meanings, one arm per constructor of Instr. -/

namespace Sys2Proof.Machine

def exec (i : Instr) (s : State) : Host.Outcome State Fault Refusal :=
  match i with
  | .frameStrobeEdge t => Sys2Proof.Machine.execFrameStrobeEdge t s
  | .lineStrobeEdge t => Sys2Proof.Machine.execLineStrobeEdge t s
  | .acceptanceWindowClose t => Sys2Proof.Machine.execAcceptanceWindowClose t s
  | .lineBoundary t => Sys2Proof.Machine.execLineBoundary t s
  | .frameAckPulse t => Sys2Proof.Machine.execFrameAckPulse t s
  | .frameClosed t frame => Sys2Proof.Machine.execFrameClosed t frame s
  | .driftMeasurement t ocxo ratio => Sys2Proof.Machine.execDriftMeasurement t ocxo ratio s
  | .ocxoReadyFall t => Sys2Proof.Machine.execOcxoReadyFall t s
  | .epochWrap t => Sys2Proof.Machine.execEpochWrap t s
  | .scannerWord t port word => Sys2Proof.Machine.execScannerWord t port word s
  | .scannerCrossingMissing t port => Sys2Proof.Machine.execScannerCrossingMissing t port s
  | .refInMeasurement t hertz => Sys2Proof.Machine.execRefInMeasurement t hertz s
  | .referenceFault t deviation => Sys2Proof.Machine.execReferenceFault t deviation s
  | .referenceFaultClear finding => Sys2Proof.Machine.execReferenceFaultClear finding s
  | .flyerRun t bank => Sys2Proof.Machine.execFlyerRun t bank s
  | .flyerStop t bank => Sys2Proof.Machine.execFlyerStop t bank s
  | .flyerShot t bank d => Sys2Proof.Machine.execFlyerShot t bank d s
  | .flyerBurst t bank d n => Sys2Proof.Machine.execFlyerBurst t bank d n s
  | .flyerNextline t bank n => Sys2Proof.Machine.execFlyerNextline t bank n s
  | .flyerSetline t bank l => Sys2Proof.Machine.execFlyerSetline t bank l s
  | .flyerWaitframe t bank => Sys2Proof.Machine.execFlyerWaitframe t bank s
  | .flyerLoop t bank c => Sys2Proof.Machine.execFlyerLoop t bank c s
  | .flyerEndloop t bank => Sys2Proof.Machine.execFlyerEndloop t bank s
  | .flyerJump t bank a => Sys2Proof.Machine.execFlyerJump t bank a s
  | .flyerNop t bank => Sys2Proof.Machine.execFlyerNop t bank s
  | .commit t bank => Sys2Proof.Machine.execCommit t bank s
  | .whorlVerdict t entry => Sys2Proof.Machine.execWhorlVerdict t entry s
  | .fireSymbolSend t entry => Sys2Proof.Machine.execFireSymbolSend t entry s
  | .windowOpen t entry => Sys2Proof.Machine.execWindowOpen t entry s
  | .windowClose t entry c => Sys2Proof.Machine.execWindowClose t entry c s
  | .slotFinalise t entry c => Sys2Proof.Machine.execSlotFinalise t entry c s
  | .entryFree t entry => Sys2Proof.Machine.execEntryFree t entry s
  | .probe t head => Sys2Proof.Machine.execProbe t head s
  | .presence t port current => Sys2Proof.Machine.execPresence t port current s
  | .portTrip t port current => Sys2Proof.Machine.execPortTrip t port current s
  | .headRemoved t port removal => Sys2Proof.Machine.execHeadRemoved t port removal s
  | .removedEnd t port => Sys2Proof.Machine.execRemovedEnd t port s
  | .noTelemetryTimeout t port => Sys2Proof.Machine.execNoTelemetryTimeout t port s
  | .readingTimeout t port => Sys2Proof.Machine.execReadingTimeout t port s
  | .telemetryStatus t port word => Sys2Proof.Machine.execTelemetryStatus t port word s
  | .boardTemperatureStale t port board => Sys2Proof.Machine.execBoardTemperatureStale t port board s
  | .descriptorWord t port word => Sys2Proof.Machine.execDescriptorWord t port word s
  | .descriptorCheckDone t port board => Sys2Proof.Machine.execDescriptorCheckDone t port board s
  | .keepAlivePlace t port => Sys2Proof.Machine.execKeepAlivePlace t port s
  | .keepAliveSend t port => Sys2Proof.Machine.execKeepAliveSend t port s
  | .broadcastSyncSend t port => Sys2Proof.Machine.execBroadcastSyncSend t port s
  | .boardFire t port board bits => Sys2Proof.Machine.execBoardFire t port board bits s
  | .boardSyncApply t port board mark => Sys2Proof.Machine.execBoardSyncApply t port board mark s
  | .boardKeepAlive t port board bits => Sys2Proof.Machine.execBoardKeepAlive t port board bits s
  | .keepAliveTimeout t port board => Sys2Proof.Machine.execKeepAliveTimeout t port board s
  | .dataFrame t port board pulses => Sys2Proof.Machine.execDataFrame t port board pulses s
  | .elementEnable t port board mask => Sys2Proof.Machine.execElementEnable t port board mask s
  | .driveCode t port board element code => Sys2Proof.Machine.execDriveCode t port board element code s
  | .indicatorBrightness t port board percent => Sys2Proof.Machine.execIndicatorBrightness t port board percent s
  | .emission t port board value => Sys2Proof.Machine.execEmission t port board value s
  | .syncCompensation t port board c => Sys2Proof.Machine.execSyncCompensation t port board c s
  | .descriptorRead t port board => Sys2Proof.Machine.execDescriptorRead t port board s
  | .scannerReports t port board value => Sys2Proof.Machine.execScannerReports t port board value s
  | .shareCounterReset t port board => Sys2Proof.Machine.execShareCounterReset t port board s
  | .boardTemperatureSend t port board temp => Sys2Proof.Machine.execBoardTemperatureSend t port board temp s
  | .boardOverTemperature t port board temp => Sys2Proof.Machine.execBoardOverTemperature t port board temp s
  | .driverFault t port board => Sys2Proof.Machine.execDriverFault t port board s
  | .clampEvent t clamp => Sys2Proof.Machine.execClampEvent t clamp s
  | .clampEnd t c => Sys2Proof.Machine.execClampEnd t c s
  | .rangeBoundary t c deviation overRange servo => Sys2Proof.Machine.execRangeBoundary t c deviation overRange servo s
  | .ambientGateOpen t c => Sys2Proof.Machine.execAmbientGateOpen t c s
  | .gateClose t c sum overRange => Sys2Proof.Machine.execGateClose t c sum overRange s
  | .biasSettled t line => Sys2Proof.Machine.execBiasSettled t line s
  | .biasFault t bank force => Sys2Proof.Machine.execBiasFault t bank force s
  | .senseLineOpen t bank lines => Sys2Proof.Machine.execSenseLineOpen t bank lines s
  | .openInputSubBlock t c sums samples invalid => Sys2Proof.Machine.execOpenInputSubBlock t c sums samples invalid s
  | .samplePllUnlock t => Sys2Proof.Machine.execSamplePllUnlock t s
  | .samplePllRelock t => Sys2Proof.Machine.execSamplePllRelock t s
  | .trackingBlockEnd t c stages squares => Sys2Proof.Machine.execTrackingBlockEnd t c stages squares s
  | .hkTimerEvent t => Sys2Proof.Machine.execHkTimerEvent t s
  | .hktrigPulse t high width => Sys2Proof.Machine.execHktrigPulse t high width s
  | .hkRunStart t pulse => Sys2Proof.Machine.execHkRunStart t pulse s
  | .hkConversionDone t code outside => Sys2Proof.Machine.execHkConversionDone t code outside s
  | .referenceSettled t => Sys2Proof.Machine.execReferenceSettled t s
  | .externalReferenceFault t millivolts => Sys2Proof.Machine.execExternalReferenceFault t millivolts s
  | .leadingCrossing t c k raw => Sys2Proof.Machine.execLeadingCrossing t c k raw s
  | .trailingCrossing t c k raw => Sys2Proof.Machine.execTrailingCrossing t c k raw s
  | .eventTruncation t c k raw => Sys2Proof.Machine.execEventTruncation t c k raw s
  | .detectorWindowEnd t c raw => Sys2Proof.Machine.execDetectorWindowEnd t c raw s
  | .comparatorCrossing t c tot => Sys2Proof.Machine.execComparatorCrossing t c tot s
  | .stampHandoff t c => Sys2Proof.Machine.execStampHandoff t c s
  | .interpolatorExchange t lin => Sys2Proof.Machine.execInterpolatorExchange t lin s
  | .pickoffDecision t entry => Sys2Proof.Machine.execPickoffDecision t entry s
  | .eventPairing t c => Sys2Proof.Machine.execEventPairing t c s
  | .intervalTimeout t run => Sys2Proof.Machine.execIntervalTimeout t run s
  | .statisticsTimeout t run => Sys2Proof.Machine.execStatisticsTimeout t run s
  | .frequencyGateEnd t input => Sys2Proof.Machine.execFrequencyGateEnd t input s
  | .clusterResolution t c => Sys2Proof.Machine.execClusterResolution t c s
  | .cardingDecision t c => Sys2Proof.Machine.execCardingDecision t c s
  | .bobbinShotComplete t c slot entry raw => Sys2Proof.Machine.execBobbinShotComplete t c slot entry raw s
  | .spillDone t c slot => Sys2Proof.Machine.execSpillDone t c slot s
  | .secondPass t c slot => Sys2Proof.Machine.execSecondPass t c slot s
  | .histogramBlockSend t c slot => Sys2Proof.Machine.execHistogramBlockSend t c slot s
  | .assessmentPeriodEnd t => Sys2Proof.Machine.execAssessmentPeriodEnd t s
  | .quietTimeout t c => Sys2Proof.Machine.execQuietTimeout t c s
  | .heldTimeout t c => Sys2Proof.Machine.execHeldTimeout t c s
  | .triggerDecision t group => Sys2Proof.Machine.execTriggerDecision t group s
  | .scheduledTrigger t group => Sys2Proof.Machine.execScheduledTrigger t group s
  | .armEffect t group => Sys2Proof.Machine.execArmEffect t group s
  | .ringFilled t group => Sys2Proof.Machine.execRingFilled t group s
  | .postTriggerEnd t group words => Sys2Proof.Machine.execPostTriggerEnd t group words s
  | .rearmEnd t group => Sys2Proof.Machine.execRearmEnd t group s
  | .segmentClose t group words => Sys2Proof.Machine.execSegmentClose t group words s
  | .captureOverflow t lost words => Sys2Proof.Machine.execCaptureOverflow t lost words s
  | .waveformBlockSend t group => Sys2Proof.Machine.execWaveformBlockSend t group s
  | .refresh t ch bank postpone => Sys2Proof.Machine.execRefresh t ch bank postpone s
  | .refreshRateReturn t => Sys2Proof.Machine.execRefreshRateReturn t s
  | .rowIdleClose t ch bank => Sys2Proof.Machine.execRowIdleClose t ch bank s
  | .dramTrainingDone t eyes => Sys2Proof.Machine.execDramTrainingDone t eyes s
  | .retrainChannelStart t => Sys2Proof.Machine.execRetrainChannelStart t s
  | .retrainChannelEnd t eyes => Sys2Proof.Machine.execRetrainChannelEnd t eyes s
  | .lossRunTimeout t source => Sys2Proof.Machine.execLossRunTimeout t source s
  | .lossRecordQueue t => Sys2Proof.Machine.execLossRecordQueue t s
  | .downTimeout t => Sys2Proof.Machine.execDownTimeout t s
  | .receiverDetectDone t lanes => Sys2Proof.Machine.execReceiverDetectDone t lanes s
  | .laneLock t lane => Sys2Proof.Machine.execLaneLock t lane s
  | .bringUpStageTimeout t => Sys2Proof.Machine.execBringUpStageTimeout t s
  | .alignColumn t skew count => Sys2Proof.Machine.execAlignColumn t skew count s
  | .idleColumn t delete => Sys2Proof.Machine.execIdleColumn t delete s
  | .capBlock t index content => Sys2Proof.Machine.execCapBlock t index content s
  | .trainBlock t lane locked rates => Sys2Proof.Machine.execTrainBlock t lane locked rates s
  | .linkBlock t ack nak credit1 credit2 credit3 => Sys2Proof.Machine.execLinkBlock t ack nak credit1 credit2 credit3 s
  | .frameReceived t frame => Sys2Proof.Machine.execFrameReceived t frame s
  | .frameSend t => Sys2Proof.Machine.execFrameSend t s
  | .alignColumnSend t => Sys2Proof.Machine.execAlignColumnSend t s
  | .idleColumnSend t => Sys2Proof.Machine.execIdleColumnSend t s
  | .linkBlockSend t => Sys2Proof.Machine.execLinkBlockSend t s
  | .nakRepeat t => Sys2Proof.Machine.execNakRepeat t s
  | .replayTimeout t => Sys2Proof.Machine.execReplayTimeout t s
  | .laneLoss t errors => Sys2Proof.Machine.execLaneLoss t errors s
  | .recoveryDiscard t => Sys2Proof.Machine.execRecoveryDiscard t s
  | .recoveryTimeout t => Sys2Proof.Machine.execRecoveryTimeout t s
  | .linkTestEnd t errors => Sys2Proof.Machine.execLinkTestEnd t errors s
  | .watchdogExpiry t => Sys2Proof.Machine.execWatchdogExpiry t s
  | .distaffMemoryError t => Sys2Proof.Machine.execDistaffMemoryError t s
  | .loadUpdate t figure corrected => Sys2Proof.Machine.execLoadUpdate t figure corrected s
  | .responseDelivery t => Sys2Proof.Machine.execResponseDelivery t s
  | .fwReloadDone t image => Sys2Proof.Machine.execFwReloadDone t image s
  | .getState t H => Sys2Proof.Machine.execGetState t H s
  | .goReady t H => Sys2Proof.Machine.execGoReady t H s
  | .goSafe t H => Sys2Proof.Machine.execGoSafe t H s
  | .arm t H => Sys2Proof.Machine.execArm t H s
  | .disarm t H => Sys2Proof.Machine.execDisarm t H s
  | .rangingStart t H frame mask => Sys2Proof.Machine.execRangingStart t H frame mask s
  | .rangingStop t H => Sys2Proof.Machine.execRangingStop t H s
  | .clearFault t H => Sys2Proof.Machine.execClearFault t H s
  | .shutdown t H start length => Sys2Proof.Machine.execShutdown t H start length s
  | .abort t H handle => Sys2Proof.Machine.execAbort t H handle s
  | .setParameters t H scope targets items => Sys2Proof.Machine.execSetParameters t H scope targets items s
  | .getParameters t H scope targets ids => Sys2Proof.Machine.execGetParameters t H scope targets ids s
  | .readCounters t H file target => Sys2Proof.Machine.execReadCounters t H file target s
  | .clearFlags t H targets mask => Sys2Proof.Machine.execClearFlags t H targets mask s
  | .fwBegin t H length => Sys2Proof.Machine.execFwBegin t H length s
  | .fwData t H offset data => Sys2Proof.Machine.execFwData t H offset data s
  | .fwVerify t H => Sys2Proof.Machine.execFwVerify t H s
  | .fwActivate t H => Sys2Proof.Machine.execFwActivate t H s
  | .fwReload t H other => Sys2Proof.Machine.execFwReload t H other s
  | .loadShotTable t H bank first descriptors => Sys2Proof.Machine.execLoadShotTable t H bank first descriptors s
  | .loadMicrocode t H bank first words => Sys2Proof.Machine.execLoadMicrocode t H bank first words s
  | .loadCodeTable t H bank first codes => Sys2Proof.Machine.execLoadCodeTable t H bank first codes s
  | .loadListeningSets t H bank first sets => Sys2Proof.Machine.execLoadListeningSets t H bank first sets s
  | .loadSeed t H seed => Sys2Proof.Machine.execLoadSeed t H seed s
  | .portEnable t H port => Sys2Proof.Machine.execPortEnable t H port s
  | .portDisable t H port => Sys2Proof.Machine.execPortDisable t H port s
  | .admitHead t H port identity => Sys2Proof.Machine.execAdmitHead t H port identity s
  | .boardSettings t H port msgs => Sys2Proof.Machine.execBoardSettings t H port msgs s
  | .clearLatencies t H ports => Sys2Proof.Machine.execClearLatencies t H ports s
  | .biasSenseRestore t H bank readings => Sys2Proof.Machine.execBiasSenseRestore t H bank readings s
  | .inject t H input => Sys2Proof.Machine.execInject t H input s
  | .readHousekeepingQueue t H count => Sys2Proof.Machine.execReadHousekeepingQueue t H count s
  | .loadCoefficients t H banks image => Sys2Proof.Machine.execLoadCoefficients t H banks image s
  | .swapCoefficients t H banks => Sys2Proof.Machine.execSwapCoefficients t H banks s
  | .readDetectors t H c => Sys2Proof.Machine.execReadDetectors t H c s
  | .statistics t H kind order timeout => Sys2Proof.Machine.execStatistics t H kind order timeout s
  | .measureFrequency t H input gate => Sys2Proof.Machine.execMeasureFrequency t H input gate s
  | .bobbinStart t H c slot params => Sys2Proof.Machine.execBobbinStart t H c slot params s
  | .bobbinFlush t H c slot => Sys2Proof.Machine.execBobbinFlush t H c slot s
  | .captureArm t H group params => Sys2Proof.Machine.execCaptureArm t H group params s
  | .captureStop t H group => Sys2Proof.Machine.execCaptureStop t H group s
  | .hostTrigger t H group => Sys2Proof.Machine.execHostTrigger t H group s
  | .captureRead t H group firstSeg lastSeg channels lo hi => Sys2Proof.Machine.execCaptureRead t H group firstSeg lastSeg channels lo hi s
  | .dramStatus t H => Sys2Proof.Machine.execDramStatus t H s
  | .dramRetrain t H retest => Sys2Proof.Machine.execDramRetrain t H retest s
  | .linkStatus t H => Sys2Proof.Machine.execLinkStatus t H s
  | .linkRetrain t H => Sys2Proof.Machine.execLinkRetrain t H s
  | .linkTest t H duration lanes => Sys2Proof.Machine.execLinkTest t H duration lanes s
  | .linkTestStop t H => Sys2Proof.Machine.execLinkTestStop t H s
  | .writeBoardTable t H entries => Sys2Proof.Machine.execWriteBoardTable t H entries s
  | .whorlStatus t H => Sys2Proof.Machine.execWhorlStatus t H s
  | .attestationControl t H opening interval nonce => Sys2Proof.Machine.execAttestationControl t H opening interval nonce s
  | .manifest t H kind offset nonce => Sys2Proof.Machine.execManifest t H kind offset nonce s
  | .keySlotWrite t H phase offset data => Sys2Proof.Machine.execKeySlotWrite t H phase offset data s
  | .keyRevoke t H phase offset data => Sys2Proof.Machine.execKeyRevoke t H phase offset data s
  | .debugUnlock t H phase offset data => Sys2Proof.Machine.execDebugUnlock t H phase offset data s
  | .proxyTemperature t H temp seconds => Sys2Proof.Machine.execProxyTemperature t H temp seconds s
  | .readEventLog t H first count => Sys2Proof.Machine.execReadEventLog t H first count s
  | .calibrate t H args => Sys2Proof.Machine.execCalibrate t H args s
  | .saveCalibration t H => Sys2Proof.Machine.execSaveCalibration t H s
  | .restoreCalibration t H => Sys2Proof.Machine.execRestoreCalibration t H s
  | .calibrationShot t port => Sys2Proof.Machine.execCalibrationShot t port s
  | .calibrationKindEnd t measures => Sys2Proof.Machine.execCalibrationKindEnd t measures s
  | .armLoopOpen answer => Sys2Proof.Machine.execArmLoopOpen answer s
  | .armLoopClosed t => Sys2Proof.Machine.execArmLoopClosed t s
  | .lockstepMismatch t => Sys2Proof.Machine.execLockstepMismatch t s
  | .unpassedFireSymbol t port payload => Sys2Proof.Machine.execUnpassedFireSymbol t port payload s
  | .whorlClockFault finding => Sys2Proof.Machine.execWhorlClockFault finding s
  | .corePllUnlock t => Sys2Proof.Machine.execCorePllUnlock t s
  | .accountStoreError t port corrected => Sys2Proof.Machine.execAccountStoreError t port corrected s
  | .powerOn t millivolts => Sys2Proof.Machine.execPowerOn t millivolts s
  | .powerLoss t millivolts => Sys2Proof.Machine.execPowerLoss t millivolts s
  | .powerUpRequest t bootsel => Sys2Proof.Machine.execPowerUpRequest t bootsel s
  | .pwrReq t bootsel => Sys2Proof.Machine.execPwrReq t bootsel s
  | .railGood t rail => Sys2Proof.Machine.execRailGood t rail s
  | .railSequenceFailure t rail millivolts => Sys2Proof.Machine.execRailSequenceFailure t rail millivolts s
  | .railDisable t => Sys2Proof.Machine.execRailDisable t s
  | .supplySag t rail millivolts => Sys2Proof.Machine.execSupplySag t rail millivolts s
  | .sagEnd t rail readings => Sys2Proof.Machine.execSagEnd t rail readings s
  | .sagFault t => Sys2Proof.Machine.execSagFault t s
  | .resetShutdown t rail millivolts => Sys2Proof.Machine.execResetShutdown t rail millivolts s
  | .autoPowerUp t bootsel => Sys2Proof.Machine.execAutoPowerUp t bootsel s
  | .railWindowExit t rail millivolts => Sys2Proof.Machine.execRailWindowExit t rail millivolts s
  | .nvWriteThreshold t millivolts => Sys2Proof.Machine.execNvWriteThreshold t millivolts s
  | .nvPageWriteDone t => Sys2Proof.Machine.execNvPageWriteDone t s
  | .nvEraseDone t => Sys2Proof.Machine.execNvEraseDone t s
  | .diodeReading t temp patterns => Sys2Proof.Machine.execDiodeReading t temp patterns s
  | .throttleExit t => Sys2Proof.Machine.execThrottleExit t s
  | .shutdownRecordWrite t => Sys2Proof.Machine.execShutdownRecordWrite t s
  | .proxyExpiry t => Sys2Proof.Machine.execProxyExpiry t s
  | .selfTestStart t kilohertz millivolts => Sys2Proof.Machine.execSelfTestStart t kilohertz millivolts s
  | .selfTestCheck t kilohertz millivolts => Sys2Proof.Machine.execSelfTestCheck t kilohertz millivolts s
  | .selfTestEnd t result => Sys2Proof.Machine.execSelfTestEnd t result s
  | .nvStoreReadDone t => Sys2Proof.Machine.execNvStoreReadDone t s
  | .bootTestDone t dram result => Sys2Proof.Machine.execBootTestDone t dram result s
  | .imageReadDone t image => Sys2Proof.Machine.execImageReadDone t image s
  | .imageVerifyDone t => Sys2Proof.Machine.execImageVerifyDone t s
  | .hostLoadTimeout t => Sys2Proof.Machine.execHostLoadTimeout t s
  | .loadDone t => Sys2Proof.Machine.execLoadDone t s
  | .automaticCut t => Sys2Proof.Machine.execAutomaticCut t s
  | .manifestSigned t rsa slh => Sys2Proof.Machine.execManifestSigned t rsa slh s
  | .challengeExpiry t => Sys2Proof.Machine.execChallengeExpiry t s
  | .debugAccessOpen t => Sys2Proof.Machine.execDebugAccessOpen t s
  | .cmdDoorbell t slot => Sys2Proof.Machine.execCmdDoorbell t slot s
  | .rspConsumer t index => Sys2Proof.Machine.execRspConsumer t index s
  | .flagsWrite t value => Sys2Proof.Machine.execFlagsWrite t value s
  | .logSelect t value => Sys2Proof.Machine.execLogSelect t value s
  | .logWindowLoaded t => Sys2Proof.Machine.execLogWindowLoaded t s
  | .registerWrite t opcode address data => Sys2Proof.Machine.execRegisterWrite t opcode address data s
  | .pllLock t which => Sys2Proof.Machine.execPllLock t which s
  | .sagFaultClear t => Sys2Proof.Machine.execSagFaultClear t s
  | .whorlOscillatorDeviation t ppm => Sys2Proof.Machine.execWhorlOscillatorDeviation t ppm s
  | .auxfEdge t input => Sys2Proof.Machine.execAuxfEdge t input s
  | .snapshotRead t address => Sys2Proof.Machine.execSnapshotRead t address s
  | .testAccessPortInstruction t instr => Sys2Proof.Machine.execTestAccessPortInstruction t instr s
  | .fwVerifyDone t => Sys2Proof.Machine.execFwVerifyDone t s
  | .indicatorPatternTimeout t port board => Sys2Proof.Machine.execIndicatorPatternTimeout t port board s

end Sys2Proof.Machine
end

