-- ==== Sys2Proof/Machine/Step.lean ====
section
/-! DEFINITION. One step of the block: the command at the front of the queue, or a turn of the DRAM controller where none
waits (DESIGN
CHOICE, log 1, log 25). -/

namespace Sys2Proof.Machine

/-- Takes the command at the front of the queue and carries it out on the state with the queue's rest; where the queue is
empty the block idles but for a turn of the DRAM controller (spec 12 R281, R282; DESIGN CHOICE, log 1, log 25, log 37). -/
def step (s : State) : Host.Outcome State Fault Refusal :=
  match s.pending with
  | [] => .next s.dramTurn
  | c :: rest => exec c (s.modPending fun _ => rest)

/-- `s` with the command that a word spells put at the front of its queue; `s` where the word spells none.
(DESIGN CHOICE, log 37.) -/
def State.withFetchWord (s : State) (nbits w : Nat) : State :=
  match decodeTableWord nbits w with
  | none => s
  | some c => s.modPending fun q => c :: q

end Sys2Proof.Machine
end

