-- ==== Sys2Proof/WellFormed.lean ====
section
/-! DEFINITION. Well-formed commands: every operand lies in the range that the interface carrying it has. An operand of a
Dreid command is held to the width of its field only; a value that fits its field and breaks a rule is for the command's
own checks, which answer WRONG_ARG (spec 15 Table 15-3). -/

namespace Sys2Proof

/-- `v` fits a field of `w` bits in two's complement. -/
def isInt (w : Nat) (v : Int) : Bool := decide (-(2 ^ (w - 1) : Int) ≤ v) && decide (v < 2 ^ (w - 1))

/-- A side-port command slot has a number below 16 (spec 15 R352). -/
def Path.wf : Path → Bool
  | .link => true
  | .side slot => decide (slot < 16)

/-- The header's fields (spec 15 Table 15-2). -/
def Hdr.wf (h : Hdr) : Bool :=
  h.path.wf && decide (h.tag < 65536) && decide (h.len < 65536) && decide (h.recv ≤ 4096)
    && h.boundary.all fun b => decide (b.1 < 2 ^ 32) && decide (b.2 < 65536)

/-- The fields of an item (spec 15 R365). -/
def Item.wf (i : Item) : Bool := decide (i.id < 65536) && decide (i.opt < 65536) && isInt 64 i.num

/-- The values of Table 4-6 (spec 04 R103). -/
def BoardMsg.wf : BoardMsg → Bool
  | .elementEnable _ => true
  | .driveCode element code => decide (element < 256) && decide (code < 256)
  | .brightness percent => decide (percent < 256)
  | .emission _ => true
  | .syncCompensation c => decide (c < 65536)
  | .descriptorRead => true
  | .scannerReports _ => true
  | .shareCounterReset => true

/-- The fields of Table 7-2 (spec 07 R172). -/
def CoefImage.wf (x : CoefImage) : Bool :=
  decide (x.format < 65536) && decide (x.mode < 4) && decide (x.phase < 2) && decide (x.taps < 65536)
    && decide (x.shift < 16) && decide (x.delay < 2 ^ 20) && decide (x.tag < 2 ^ 32) && x.coefs.all (isInt 16)

/-- A timing source that exists (spec 08 R207). -/
def Source.wf : Source → Bool
  | .channel c => decide (c < 256)
  | .auxf i => decide (i < 4)
  | .frameStrobe => true
  | .lineStrobe => true

/-- What a STATISTICS command may name (spec 08 R207). -/
def StatKind.wf : StatKind → Bool
  | .interval start stop => start.wf && stop.wf
  | .tof c element index => decide (c < 65536) && (element.all fun e => decide (e < 65536)) && decide (index < 256)

/-- A pin that the device has (spec 04 R93, 05 R118). -/
def TapPin.wf : TapPin → Bool
  | .hpEn n | .hpTx n => decide (n < 8)
  | .biasGate b => decide (b < 16)
  | .emitPermit | .other _ => true

/-- Boundary cells of pins that exist, each once (spec 17 R415). -/
def TapInstr.wf : TapInstr → Bool
  | .samplePreload cells => (cells.all fun c => c.1.wf) && decide (cells.map fun c => c.1).Nodup
  | _ => true

/-- The fields of Table 9-4 (spec 09 R226). -/
def BobbinParams.wf (p : BobbinParams) : Bool :=
  (p.element.all fun e => decide (e < 65536)) && decide (p.offset < 65536) && decide (p.width < 4)
    && decide (p.target < 2 ^ 32) && decide (p.output < 4) && decide (p.multiplier < 256)
    && decide (p.separation < 256)

/-- The fields of Table 11-4 (spec 11 R259). -/
def CaptureParams.wf (p : CaptureParams) : Bool :=
  decide (p.regionStart < 65536) && decide (p.regionSize < 65536) && decide (p.segments < 65536)
    && decide (p.pre < 2 ^ 32) && decide (p.post < 2 ^ 32)
    && p.scheduled.all fun x => decide (x.1 < 2 ^ 32) && decide (x.2.1 < 65536) && decide (x.2.2 < 65536)

/-- A sample as its stage gives it: a code of 8 bits, and 256 more where it is flagged, whose code is then 0 or 255 (spec
06 R149). -/
def sampleWf (r : Nat) : Bool := decide (r < 256 ∨ r = 256 ∨ r = 511)

/-- A capture word has 8 samples (spec 11 R260). -/
def RawWord.wf (x : RawWord) : Bool :=
  decide (x.channel < 256) && decide (x.samples.length = 8)
    && x.samples.all sampleWf

/-- A group and its words (spec 11 R260). -/
def GroupWords.wf (x : GroupWords) : Bool := decide (x.group < 16) && x.words.all RawWord.wf

/-- The codes of a lane's test (spec 14 Table 14-9). -/
def LaneTest.wf (x : LaneTest) : Bool :=
  decide (x.gen < 256) && decide (x.chk < 256) && decide (x.inject < 256) && decide (x.period < 2 ^ 32)

/-- The fields of Table 14-8 (spec 14 R338). -/
def BoardEntry.wf (x : BoardEntry) : Bool := isInt 8 x.pre && isInt 8 x.main && isInt 8 x.post && decide (x.ctle < 256)

/-- The fields of Table 19-2 (spec 19 R443). -/
def CalArgs.wf (x : CalArgs) : Bool :=
  decide (x.repeats < 256) && decide (x.width < 65536) && decide (x.index < 256) && decide (x.distances.length = 8)
    && x.distances.all fun d => decide (d < 2 ^ 32)

/-- A value of Table 19-1 that exists. -/
def CalKey.wf : CalKey → Bool
  | .interOffset c stage => decide (c < 256) && decide (stage < 8)
  | .interGain c stage => decide (c < 256) && decide (stage < 8)
  | .interSkew c stage => decide (c < 256) && decide (stage < 8)
  | .gainRatio c range => decide (c < 256) && decide (range < 4)
  | .floor c range => decide (c < 256) && decide (range < 4)
  | .ratio c range => decide (c < 256) && decide (range < 4)
  | .timing c => decide (c < 256)
  | .analogue c => decide (c < 256)
  | .walk b range i => decide (b < 16) && decide (range < 4) && decide (i < 64)
  | .width b i => decide (b < 16) && decide (i < 256)
  | .groupDelay b c => decide (b < 16) && decide (c < 256)

/-- The results of a value over its repeats: at least one. -/
def CalMeasure.wf (x : CalMeasure) : Bool := x.key.wf && decide (x.results ≠ [])

/-- A block has 8 bytes and comes on one of 8 lanes (spec 14 R319, R323). -/
def FrameIn.wf (x : FrameIn) : Bool := x.blocks.all fun b => decide (b.lane < 8) && decide (b.bytes.length = 8)

/-- The results of a self-test (spec 18 R438-R440). -/
def TestResult.wf (x : TestResult) : Bool :=
  decide (x.failingRows < 2 ^ 32) && decide (x.firstAddress < 2 ^ 64) && decide (x.sramSignature < 2 ^ 32)
    && decide (x.dramSignature < 2 ^ 32)

/-- Whether a command's operands lie in the ranges of the interface that carries them (DESIGN CHOICE, log 35). -/
def Instr.wf : Instr → Bool
  | .frameStrobeEdge _ => true
  | .lineStrobeEdge _ => true
  | .acceptanceWindowClose _ => true
  | .lineBoundary _ => true
  | .frameAckPulse _ => true
  | .frameClosed _ frame => decide (frame < 2 ^ 32)
  | .driftMeasurement _ _ _ => true
  | .ocxoReadyFall _ => true
  | .epochWrap _ => true
  | .scannerWord _ port _ => decide (port < 8)
  | .scannerCrossingMissing _ port => decide (port < 8)
  | .refInMeasurement _ _ => true
  | .referenceFault _ _ => true
  | .referenceFaultClear _ => true
  | .flyerRun _ bank => decide (bank < 16)
  | .flyerStop _ bank => decide (bank < 16)
  | .flyerShot _ bank _ => decide (bank < 16)
  | .flyerBurst _ bank _ _ => decide (bank < 16)
  | .flyerNextline _ bank _ => decide (bank < 16)
  | .flyerSetline _ bank _ => decide (bank < 16)
  | .flyerWaitframe _ bank => decide (bank < 16)
  | .flyerLoop _ bank _ => decide (bank < 16)
  | .flyerEndloop _ bank => decide (bank < 16)
  | .flyerJump _ bank _ => decide (bank < 16)
  | .flyerNop _ bank => decide (bank < 16)
  | .commit _ bank => decide (bank < 16)
  | .whorlVerdict _ entry => decide (entry < 8192)
  | .fireSymbolSend _ entry => decide (entry < 8192)
  | .windowOpen _ entry => decide (entry < 8192)
  | .windowClose _ entry c => decide (entry < 8192) && decide (c < 256)
  | .slotFinalise _ entry c => decide (entry < 8192) && decide (c < 256)
  | .entryFree _ entry => decide (entry < 8192)
  | .probe _ head => decide (head.port < 8) && decide (head.boards.length ≤ 4) && head.boards.all fun x => decide (x.length ≤ 21504)
  | .presence _ port _ => decide (port < 8)
  | .portTrip _ port _ => decide (port < 8)
  | .headRemoved t port x => decide (port < 8) && decide (x.cause < 4) && x.last.all fun x => decide (x ≤ t)
  | .removedEnd _ port => decide (port < 8)
  | .noTelemetryTimeout _ port => decide (port < 8)
  | .readingTimeout _ port => decide (port < 8)
  | .telemetryStatus _ port _ => decide (port < 8)
  | .boardTemperatureStale _ port board => decide (port < 8) && decide (board < 4)
  | .descriptorWord _ port _ => decide (port < 8)
  | .descriptorCheckDone _ port board => decide (port < 8) && decide (board < 4)
  | .keepAlivePlace _ port => decide (port < 8)
  | .keepAliveSend _ port => decide (port < 8)
  | .broadcastSyncSend _ port => decide (port < 8)
  | .boardFire _ port board _ => decide (port < 8) && decide (board < 4)
  | .boardSyncApply t port board x => decide (port < 8) && decide (board < 4) && decide (x.arrival ≤ t)
  | .boardKeepAlive _ port board _ => decide (port < 8) && decide (board < 4)
  | .keepAliveTimeout _ port board => decide (port < 8) && decide (board < 4)
  | .dataFrame _ port board pulses => decide (port < 8) && decide (board < 4) && decide (1 ≤ pulses.length)
  | .elementEnable _ port board _ => decide (port < 8) && decide (board < 4)
  | .driveCode _ port board element code => decide (port < 8) && decide (board < 4) && decide (element < 256)
    && decide (code < 256)
  | .indicatorBrightness _ port board percent => decide (port < 8) && decide (board < 4) && decide (percent < 256)
  | .emission _ port board _ => decide (port < 8) && decide (board < 4)
  | .syncCompensation _ port board c => decide (port < 8) && decide (board < 4) && decide (c < 65536)
  | .descriptorRead _ port board => decide (port < 8) && decide (board < 4)
  | .scannerReports _ port board _ => decide (port < 8) && decide (board < 4)
  | .shareCounterReset _ port board => decide (port < 8) && decide (board < 4)
  | .boardTemperatureSend _ port board temp => decide (port < 8) && decide (board < 4) && decide (temp < 512)
  | .boardOverTemperature _ port board temp => decide (port < 8) && decide (board < 4) && decide (temp < 512)
  | .driverFault _ port board => decide (port < 8) && decide (board < 4)
  | .clampEvent _ x => decide (x.channel < 256)
  | .clampEnd _ c => decide (c < 256)
  | .rangeBoundary _ c _ _ servo => decide (c < 256) && decide (servo < 4096)
  | .ambientGateOpen _ c => decide (c < 256)
  | .gateClose _ c x _ => decide (c < 256) && decide (x.integral < 256)
  | .biasSettled _ x => decide (x.bank < 16) && decide (x.readings.length = 8)
  | .biasFault t bank x => decide (bank < 16) && decide (x.since ≤ t)
  | .senseLineOpen _ bank x => decide (bank < 16) && decide (x.pairs.length = 3) && decide (x.earlier.length = 64)
  | .openInputSubBlock _ c sums _ _ => decide (c < 256) && decide (sums.length = 4)
  | .samplePllUnlock _ => true
  | .samplePllRelock _ => true
  | .trackingBlockEnd _ c x squares => decide (c < 256) && decide (x.counts.length = 8) && decide (x.means.length = 8)
    && decide (squares.length = 8)
  | .hkTimerEvent _ => true
  | .hktrigPulse _ _ _ => true
  | .hkRunStart _ _ => true
  | .hkConversionDone _ code _ => decide (code < 65536)
  | .referenceSettled _ => true
  | .externalReferenceFault _ _ => true
  | .leadingCrossing _ c k raw => decide (c < 256) && decide (k < 2) && raw.all sampleWf
  | .trailingCrossing _ c k raw => decide (c < 256) && decide (k < 2) && raw.all sampleWf
  | .eventTruncation _ c k raw => decide (c < 256) && decide (k < 2) && raw.all sampleWf
  | .detectorWindowEnd _ c raw => decide (c < 256) && raw.all sampleWf
  | .comparatorCrossing _ c _ => decide (c < 256)
  | .stampHandoff _ c => decide (c < 256)
  | .interpolatorExchange _ x => decide (x.channel < 256) && decide (x.hits.length = 256)
  | .pickoffDecision _ entry => decide (entry < 8192)
  | .eventPairing _ c => decide (c < 256)
  | .intervalTimeout _ _ => true
  | .statisticsTimeout _ _ => true
  | .frequencyGateEnd _ input => decide (input < 4)
  | .clusterResolution _ c => decide (c < 256)
  | .cardingDecision _ c => decide (c < 256)
  | .bobbinShotComplete _ c slot entry raw => decide (c < 256) && decide (slot < 2) && decide (entry < 8192)
    && raw.all sampleWf
  | .spillDone _ c slot => decide (c < 256) && decide (slot < 2)
  | .secondPass _ c slot => decide (c < 256) && decide (slot < 2)
  | .histogramBlockSend _ c slot => decide (c < 256) && decide (slot < 2)
  | .assessmentPeriodEnd _ => true
  | .quietTimeout _ c => decide (c < 256)
  | .heldTimeout _ c => decide (c < 256)
  | .triggerDecision _ ring => ring.wf
  | .scheduledTrigger _ group => decide (group < 16)
  | .armEffect _ group => decide (group < 16)
  | .ringFilled _ ring => ring.wf
  | .postTriggerEnd _ group words => decide (group < 16) && words.all RawWord.wf
  | .rearmEnd _ group => decide (group < 16)
  | .segmentClose _ group words => decide (group < 16) && words.all RawWord.wf
  | .captureOverflow _ lost words => decide (lost < 65536) && words.all RawWord.wf
  | .waveformBlockSend _ group => decide (group < 16)
  | .refresh _ ch bank _ => decide (ch < 16) && decide (bank < 16)
  | .refreshRateReturn _ => true
  | .rowIdleClose _ ch bank => decide (ch < 16) && decide (bank < 16)
  | .dramTrainingDone _ eyes => decide (eyes.length = 16) && eyes.all fun e => e.length = 8
  | .retrainChannelStart _ => true
  | .retrainChannelEnd _ eyes => decide (eyes.length = 8)
  | .lossRunTimeout _ source => decide (source < 65536)
  | .lossRecordQueue _ => true
  | .downTimeout _ => true
  | .receiverDetectDone _ _ => true
  | .laneLock _ lane => decide (lane < 8)
  | .bringUpStageTimeout _ => true
  | .alignColumn _ _ count => decide (count < 65536)
  | .idleColumn _ _ => true
  | .capBlock _ index _ => decide (index < 16)
  | .trainBlock _ lane _ _ => decide (lane < 8)
  | .linkBlock _ ack _ credit1 credit2 credit3 => decide (ack < 4096) && decide (credit1 < 4096)
    && decide (credit2 < 4096) && decide (credit3 < 4096)
  | .frameReceived _ frame => frame.wf
  | .frameSend _ => true
  | .alignColumnSend _ => true
  | .idleColumnSend _ => true
  | .linkBlockSend _ => true
  | .nakRepeat _ => true
  | .replayTimeout _ => true
  | .laneLoss _ x => decide (x.lane < 8) && decide (x.invalid ≤ 64)
  | .recoveryDiscard _ => true
  | .recoveryTimeout _ => true
  | .linkTestEnd _ errors => decide (errors.length = 8) && errors.all fun l => decide (l.Pairwise (· < ·))
  | .watchdogExpiry _ => true
  | .distaffMemoryError _ => true
  | .loadUpdate t figure _ => decide (figure.share ≤ 200) && figure.restarted.all fun r => decide (r ≤ t)
  | .responseDelivery _ => true
  | .fwReloadDone _ _ => true
  | .getState _ h => h.wf
  | .goReady _ h => h.wf
  | .goSafe _ h => h.wf
  | .arm _ h => h.wf
  | .disarm _ h => h.wf
  | .rangingStart _ h frame _ => h.wf && decide (frame < 2 ^ 32)
  | .rangingStop _ h => h.wf
  | .clearFault _ h => h.wf
  | .shutdown _ h start length => h.wf && decide (start < 2 ^ 64) && decide (length < 2 ^ 64)
  | .abort _ h handle => h.wf && decide (handle < 65536)
  | .setParameters _ h scope targets items => h.wf && decide (scope < 256) && (targets.all fun x => x < 65536)
    && items.all Item.wf
  | .getParameters _ h scope targets ids => h.wf && decide (scope < 256) && (targets.all fun x => x < 65536)
    && ids.all fun x => x < 65536
  | .readCounters _ h file targets => h.wf && decide (file < 256) && targets.all fun x => decide (x < 65536)
  | .clearFlags _ h targets mask => h.wf && (targets.all fun x => x < 65536) && decide (mask < 2 ^ 32)
  | .fwBegin _ h length => h.wf && decide (length < 2 ^ 64)
  | .fwData _ h offset data => h.wf && decide (offset < 2 ^ 32) && decide (data.length ≤ 4096)
  | .fwVerify _ h => h.wf
  | .fwActivate _ h => h.wf
  | .fwReload _ h _ => h.wf
  | .loadShotTable _ h bank first _ => h.wf && decide (bank < 256) && decide (first < 65536)
  | .loadMicrocode _ h bank first _ => h.wf && decide (bank < 256) && decide (first < 65536)
  | .loadCodeTable _ h bank first _ => h.wf && decide (bank < 256) && decide (first < 65536)
  | .loadListeningSets _ h bank first _ => h.wf && decide (bank < 256) && decide (first < 65536)
  | .loadSeed _ h _ => h.wf
  | .portEnable _ h port => h.wf && decide (port < 256)
  | .portDisable _ h port => h.wf && decide (port < 256)
  | .admitHead _ h port _ => h.wf && decide (port < 256)
  | .boardSettings _ h port msgs => h.wf && decide (port < 256) && msgs.all fun m => m.1 < 256 && m.2.wf
  | .clearLatencies _ h _ => h.wf
  | .biasSenseRestore _ h bank _ => h.wf && decide (bank < 256)
  | .inject _ h input => h.wf && decide (input < 256)
  | .readHousekeepingQueue _ h count => h.wf && decide (count < 256)
  | .loadCoefficients _ h _ image => h.wf && image.wf
  | .swapCoefficients _ h _ => h.wf
  | .readDetectors _ h c => h.wf && decide (c < 65536)
  | .statistics _ h kind order timeout => h.wf && kind.wf && decide (order < 256) && decide (timeout < 2 ^ 32)
  | .measureFrequency _ h input gate => h.wf && decide (input < 256) && decide (gate < 2 ^ 32)
  | .bobbinStart _ h c slot params => h.wf && decide (c < 65536) && decide (slot < 256) && params.wf
  | .bobbinFlush _ h c slot => h.wf && decide (c < 65536) && decide (slot < 256)
  | .captureArm _ h group params => h.wf && decide (group < 256) && params.wf
  | .captureStop _ h group => h.wf && decide (group < 256)
  | .hostTrigger _ h group => h.wf && decide (group < 256)
  | .captureRead _ h group firstSeg lastSeg _ lo hi => h.wf && decide (group < 256) && decide (firstSeg < 65536)
    && decide (lastSeg < 65536) && isInt 32 lo && isInt 32 hi
  | .dramStatus _ h => h.wf
  | .dramRetrain _ h _ => h.wf
  | .linkStatus _ h => h.wf
  | .linkRetrain _ h => h.wf
  | .linkTest _ h duration lanes => h.wf && decide (duration < 2 ^ 32) && lanes.all LaneTest.wf
  | .linkTestStop _ h => h.wf
  | .writeBoardTable _ h entries => h.wf && entries.all BoardEntry.wf
  | .whorlStatus _ h => h.wf
  | .attestationControl _ h _ interval nonce => h.wf && decide (interval < 2 ^ 32) && decide (nonce.length = 32)
  | .manifest _ h kind offset nonce => h.wf && decide (kind < 256) && decide (offset < 2 ^ 32)
    && decide (nonce.length = 32)
  | .keySlotWrite _ h phase offset data => h.wf && decide (phase < 256) && decide (offset < 2 ^ 32)
    && decide (data.length ≤ 4096)
  | .keyRevoke _ h phase offset data => h.wf && decide (phase < 256) && decide (offset < 2 ^ 32)
    && decide (data.length ≤ 4096)
  | .debugUnlock _ h phase offset data => h.wf && decide (phase < 256) && decide (offset < 2 ^ 32)
    && decide (data.length ≤ 4096)
  | .proxyTemperature _ h temp seconds => h.wf && isInt 16 temp && decide (seconds < 256)
  | .readEventLog _ h first count => h.wf && decide (first < 2 ^ 32) && decide (count < 65536)
  | .calibrate _ h args => h.wf && args.wf
  | .saveCalibration _ h => h.wf
  | .restoreCalibration _ h => h.wf
  | .calibrationShot _ port => decide (port < 8)
  | .calibrationKindEnd _ measures => measures.all CalMeasure.wf
  | .armLoopOpen _ => true
  | .armLoopClosed _ => true
  | .lockstepMismatch _ => true
  | .unpassedFireSymbol _ port payload => decide (port < 8) && decide (payload < 256)
  | .whorlClockFault _ => true
  | .corePllUnlock _ => true
  | .accountStoreError _ port _ => decide (port < 8)
  | .powerOn _ _ => true
  | .powerLoss _ _ => true
  | .powerUpRequest _ _ => true
  | .pwrReq _ _ => true
  | .railGood _ rail => decide (rail < 6)
  | .railSequenceFailure _ rail _ => decide (rail < 6)
  | .railDisable _ => true
  | .supplySag _ rail _ => decide (rail < 6)
  | .sagEnd _ rail _ => decide (rail < 6)
  | .sagFault _ => true
  | .resetShutdown _ rail _ => decide (rail < 6)
  | .autoPowerUp _ _ => true
  | .railWindowExit _ rail _ => decide (rail < 6)
  | .nvWriteThreshold _ _ => true
  | .nvPageWriteDone _ => true
  | .nvEraseDone _ => true
  | .diodeReading _ temp patterns => isInt 16 temp && patterns.all fun x => decide (x.1 < 16)
  | .throttleExit _ => true
  | .shutdownRecordWrite _ => true
  | .proxyExpiry _ => true
  | .selfTestStart _ _ _ => true
  | .selfTestCheck _ _ _ => true
  | .selfTestEnd _ result => result.wf
  | .nvStoreReadDone _ => true
  | .bootTestDone _ _ result => result.wf
  | .imageReadDone _ _ => true
  | .imageVerifyDone _ => true
  | .hostLoadTimeout _ => true
  | .loadDone _ => true
  | .automaticCut _ => true
  | .manifestSigned _ salt _ => decide (salt.length = 48)
  | .challengeExpiry _ => true
  | .debugAccessOpen _ => true
  | .cmdDoorbell _ slot => decide (slot < 16)
  | .rspConsumer _ index => decide (index < 512)
  | .flagsWrite _ _ => true
  | .logSelect _ _ => true
  | .logWindowLoaded _ => true
  | .registerWrite _ _ address _ => decide (address < 2 ^ 24)
  | .pllLock _ which => decide (which < 4)
  | .sagFaultClear _ => true
  | .whorlOscillatorDeviation _ ppm => isInt 16 ppm
  | .auxfEdge _ input => decide (input < 4)
  | .snapshotRead _ address => decide (address < 2 ^ 24)
  | .testAccessPortInstruction _ i => i.wf
  | .fwVerifyDone _ => true
  | .indicatorPatternTimeout _ port board => decide (port < 8) && decide (board < 4)

end Sys2Proof
end

