-- ==== Sys2Proof/Safety.lean ====
section
/-! DEFINITION. What counts as a sound state and a safe run, in the terms the statements use: stores and memories in
canonical form, the emission-inhibit latch held, the queue left alone, time that never runs backward. -/

namespace Sys2Proof.Machine

namespace State

/-- The byte memories are in canonical form: the non-volatile store, the stacked DRAM, the side port's windows and the
token buffer. -/
def memWf (s : State) : Bool :=
  Memory.wf s.nv && Memory.wf s.dramMem && Memory.wf s.side.mem && Memory.wf s.trust.token

/-- The keyed parts of the state are in canonical form. -/
def partsWf (s : State) : Bool :=
  Store.wf {} s.flyers && Store.wf {} s.skein && Store.wf {} s.ports && Store.wf {} s.lamps && Store.wf {} s.chans
    && Store.wf {} s.banks && Store.wf {} s.auxf && Store.wf {} s.groups && Store.wf 0 s.counters

/-- A sound state: everything that is kept by key stands in canonical form. -/
def wf (s : State) : Bool := s.memWf && s.partsWf

/-- The front end accepts a command but for the command's own checks (spec 15 Table 15-3, checks 1 to 4 and the handles of
check 6; R356): it is its turn, its structure is good, its opcode is known on its path and allowed in the device state,
Distaff is up where it must be, and a handle is free. -/
def takes (s : State) (op : Nat) (h : Hdr) : Bool :=
  s.itsTurn op h && opKnown op h.path && decide (s.dev ≠ .selfTest) && structureGood h && s.nextIndex.isSome
    && ((opRow op).map fun r => (s.dist.up || r.down) && decide (s.dev.code ∈ r.states)).getD false

/-- The handle that the next accepted command bears: a free index with its next generation (spec 15 R357). -/
def nextHandle (s : State) : Nat := let i := s.nextIndex.getD 0; i + 4096 * s.nextGeneration i

/-- Where an accepted command's effect starts at `t`: its entry taken, its handle issued, its acknowledgement placed. -/
def startOf (t : Tick) (op : Nat) (h : Hdr) (s : State) : State :=
  let s := (s.advance t).takeIntake
  let x := s.issue op h (s.nextIndex.getD 0)
  x.2.ackWith h .accepted x.1

/-- In `u`, the command with handle `n` whose effect started in `b` has been acknowledged and has completed, at the
present instant and in the present device state, with a status, a detail and a result (spec 15 R360, Table 15-5). -/
abbrev answered (u b : State) (op : Nat) (h : Hdr) (n status detail : Nat) (result : List Byte) : Prop :=
  b.dist.waiting <+: u.dist.waiting ∧ u.liveOf n = none
    ∧ ⟨h.path, n, false, u.completionBytes ⟨n, h.tag, op, h.path, b.dist.arrivedAt, false, false⟩ status detail 0 none result⟩
      ∈ u.dist.waiting

/-- In `u`, the command with handle `n` whose effect started in `b` has been acknowledged and is not complete. -/
abbrev waits (u b : State) (n : Nat) : Prop := b.dist.waiting <+: u.dist.waiting ∧ (u.liveOf n).isSome

/-- The emission-inhibit latch is set (spec 16 R374). -/
def latched (s : State) : Bool := s.latch.set

end State

/-- What every operation of the block leaves as it is, or keeps: the queue of waiting commands, a latch that is set
(spec 16 R374), canonical form, and the order of time. -/
structure Kept (s s' : State) : Prop where
  pending : s'.pending = s.pending
  latched : s.latched = true → s'.latched = true
  wf : s.wf = true → s'.wf = true
  time : s.now ≤ s'.now

/-- A state from which nothing lets light out: no gate is open, no port says that emission is enabled, and no shot
waits that Whorl has passed (spec 16 R372, R386). -/
def State.dark (s : State) : Bool :=
  (List.range 8).all (fun n => !(s.port n).gate && !(s.port n).emit) && s.skein.all fun x => x.2.state ≠ .passed

end Sys2Proof.Machine
end

