-- ==== Sys2Proof/Certificates/Slice0/Obligations.lean ====
section
/-! DEFINITION. The statements for the provers. Each says which rules of the spec it rests on; names of states and operations
are the model's. -/

open Sys2Proof Sys2Proof.Machine

/-- Where a command is at the front of the queue, a step is that command on the state with the queue's rest; where none
waits, the block idles but for a turn of the DRAM controller (the model's choice, DESIGN CHOICE, log 1 and 25). -/
def Obligations.StepRunsFrontCommand : Prop :=
  (∀ (c : Instr) (rest : List Instr) (s : State), s.pending = c :: rest →
    step s = exec c (s.modPending fun _ => rest))
  ∧ ∀ s : State, s.pending = [] → step s = .next s.dramTurn

/-- The device at reset stands without a supply: OFF, the latch clear, nothing charged, nothing waiting, every store in
canonical form (spec 00 Table 0-3, 16 R374; the rest is the model's choice, DESIGN CHOICE, log 13). -/
def Obligations.ResetStandsWithoutSupply : Prop :=
  State.reset.dev = .off ∧ State.reset.power.powerGood = false ∧ State.reset.latched = false
    ∧ State.reset.whorl.accounts = [] ∧ State.reset.pending = [] ∧ State.reset.wf = true ∧ State.reset.dark = true

/-- Every command completes, with the queue as it was and with time no earlier: a step takes exactly the front command
from the queue, whatever instant that command names (spec 21 R472 gives even a bad access a result; the order of the queue
and the rule of time are the model's choice, DESIGN CHOICE, log 1 and 2). -/
def Obligations.EveryStepTakesOneCommandForward : Prop :=
  (∀ (c : Instr) (s : State), ∃ u, exec c s = .next u ∧ u.pending = s.pending ∧ s.now ≤ u.now)
  ∧ ∀ (c : Instr) (rest : List Instr) (s : State), s.pending = c :: rest → ∃ u, step s = .next u ∧ u.pending = rest

/-- No command and no state change clears the emission-inhibit latch: only VAUX33 below 2.80 V does, and the device is then
OFF (spec 16 R374, 18 R417; in OFF the latch is clear, so POWER_ON there is left out). -/
def Obligations.LatchOutlastsEverythingButPowerLoss : Prop :=
  (∀ (c : Instr) (s u : State), s.latched = true → s.dev ≠ .off → (∀ t mv, c = .powerLoss t mv → 2800 ≤ mv) →
    exec c s = .next u → u.latched = true)
  ∧ ∀ (t : Tick) (mv : Nat) (s : State), mv < 2800 → ∃ u, exec (.powerLoss t mv) s = .next u
    ∧ u.latched = false ∧ u.dev = .off

/-- Every command keeps each store and byte memory of the state in canonical form. -/
def Obligations.CanonicalFormKept : Prop :=
  ∀ (c : Instr) (s u : State), s.wf = true → exec c s = .next u → u.wf = true

/-- Strobe mode, no interval run on the strobes: a FRAME_STROBE edge 4.0 us or more after the last makes the next line strobe
line 0 and owes FRAME_ACK its answer, decided at the edge; one that comes earlier is stray and only counted (spec 02 R33,
R34, R41; that the Flyers' plans within the horizon are fixed first is the model's reading, DEDUCED, log 143). -/
def Obligations.FrameStrobeAnsweredOrStray : Prop :=
  ∀ (t : Tick) (s : State), s.now ≤ t → s.timingMode = 0 → s.spindle.state ≠ .idle → s.runs = [] →
    ((s.spindle.lastFrameEdge.all fun l => decide (l + ns 4000 ≤ t)) = true →
      (s.spindle.hasTime = true → (s.advance t).linesSeen t = s.spindle.lines) →
      ∃ u, exec (.frameStrobeEdge t) s = .next u ∧ u.spindle.restart = some t ∧ u.spindle.lastFrameEdge = some t
        ∧ u.spindle.frameSeen = true ∧ u.spindle.strays = s.spindle.strays
        ∧ (s.dev.fromSafe = true → u.spindle.ack = some (t, (s.advance t).answersDepth s.spindle.nextFrame))
        ∧ u = { s with clock := u.clock, spindle := u.spindle, flyers := (s.advance t).fixPlans.flyers })
    ∧ ((s.spindle.lastFrameEdge.any fun l => decide (t < l + ns 4000)) = true →
      exec (.frameStrobeEdge t) s = .next ((s.advance t).modSpindle fun p =>
        { p with strays := (p.strays + 1) % 2 ^ 32 }))

/-- A line strobe in strobe mode: the first edge of ACQUIRING becomes the seed's candidate and counts as a line, line 0
where a FRAME_STROBE came 5 ns or more before; an edge in LOCKED that lies on its prediction, inside the frame, moves the
tracked line on; an edge outside the acceptance window is stray, and only counted (spec 02 R33, R37, R43, R44, R45; the
fixed plans of Flyers are
the model's reading, DEDUCED, log 143). -/
def Obligations.LineStrobeTracked : Prop :=
  ∀ (t : Tick) (s : State), s.now ≤ t → s.timingMode = 0 → s.runs = [] →
    (s.spindle.state = .acquiring → s.spindle.seeded = false → s.spindle.candidate = none →
      exec (.lineStrobeEdge t) s = .next ((s.advance t).modSpindle fun p =>
        { p with
          seeded := false, candidate := some t, run := 0, strayRun := 0
          gridLine := if s.frameDue t then 0 else p.gridLine + 1, restart := if s.frameDue t then none else p.restart }))
    ∧ (s.spindle.state = .locked → s.phaseError t = 0 → s.frameDue t = false →
      s.spindle.gridLine + 1 < s.spindle.lines → s.rateGood s.spindle.period = true →
      ∃ u, exec (.lineStrobeEdge t) s = .next u ∧ u.spindle.state = .locked ∧ u.spindle.phase = fine t
        ∧ u.spindle.period = s.spindle.period ∧ u.spindle.gridLine = s.spindle.gridLine + 1
        ∧ u.spindle.strayRun = 0
        ∧ u = { s with clock := u.clock, spindle := u.spindle, flyers := (s.advance t).fixPlans.flyers })
    ∧ ((s.spindle.state = .locked ∨ s.spindle.state = .holdover ∨ (s.spindle.state = .acquiring ∧ s.spindle.seeded = true)) →
      s.acceptance < (s.phaseError t).natAbs → s.spindle.strayRun < 15 →
      exec (.lineStrobeEdge t) s = .next ((s.advance t).fixPlans.modSpindle fun p =>
        { p with strays := (p.strays + 1) % 2 ^ 32, strayRun := p.strayRun + 1 }))

/-- Where the acceptance window closes without an edge: in ACQUIRING the seed is given up, and prediction takes the edge's
place as a line; in LOCKED, strobe mode, holdover begins with prediction in the edge's place and one line coasted (spec 02
R37, R43, R45, R46, R48; the fixed plans of Flyers are the model's reading, DEDUCED, log 143). -/
def Obligations.MissingEdgeCoasts : Prop :=
  ∀ (t : Tick) (s : State), (s.advance t).windowClosed = true →
    (s.spindle.state = .acquiring →
      exec (.acceptanceWindowClose t) s = .next ((s.advance t).modSpindle fun p =>
        { p with
          missings := (p.missings + 1) % 2 ^ 32, seeded := false, candidate := none, run := 0, strayRun := 0
          gridLine := if decide (s.timingMode = 1) || s.frameDue (s.predicted / 4096) then 0 else p.gridLine + 1
          restart := if decide (s.timingMode = 1) || s.frameDue (s.predicted / 4096) then none else p.restart }))
    ∧ (s.spindle.state = .locked → s.timingMode = 0 → s.spindle.gridLine + 1 < s.spindle.lines → s.spindle.restart = none →
      1 ≤ s.pnum Par.holdoverCount 0 →
      ∃ u, exec (.acceptanceWindowClose t) s = .next u ∧ u.spindle.state = .holdover ∧ u.spindle.coast = 1
        ∧ u.spindle.coasting = true ∧ u.spindle.phase = s.spindle.phase + s.spindle.period
        ∧ u.spindle.missings = (s.spindle.missings + 1) % 2 ^ 32 ∧ u.spindle.gridLine = s.spindle.gridLine + 1
        ∧ u = { s with
          clock := u.clock, spindle := u.spindle, flyers := (s.advance t).fixPlans.flyers, recs := u.recs
          nvCtl := u.nvCtl, side := u.side })

/-- Pulses, closings, wraps and measurements of the time base: FRAME_ACK is driven for 16 ns with depth and 48 ns without,
100 ns or more after its strobe; a frame without anything outstanding is closed once; a wrap of the coarse count turns the
epoch bit; OCXO_READY falling ends the warm state; a line boundary moves the present line, applies what is staged for it and
begins a frame with its first line; a drift measurement without a ratio empties the history and the device is not warm, and a
sixteenth ratio with OCXO_READY high, all within the limit, makes it warm; with an AUXF input chosen the ratio is that of its
last gate (spec 01 R16, 02 R34-R37, R57, R58, R64, 08 R212). -/
def Obligations.TimeBaseEventsTakeEffect : Prop :=
  ((∀ (t a : Tick) (d : Bool) (s : State), s.spindle.ack = some (a, d) → a + ns 100 ≤ t → s.now ≤ t →
     s.dev.fromSafe = true → s.timingMode ≠ 2 →
     exec (.frameAckPulse t) s = .next ((s.advance t).modSpindle fun p =>
       { p with ack := none, ackPulse := some (t, if d then 16 else 48) }))
   ∧ (∀ (t : Tick) (f : Nat) (s : State), s.spindle.numbered = true → (Store.read {} s.spindle.frames f).closed = false →
     (s.advance t).frameDone f = true → (s.recs.runs.all fun x => !x.frames.contains f) = true →
     Store.wf {} s.spindle.frames = true → -4096 < serialDiff f s.spindle.frame →
     ∃ u, exec (.frameClosed t f) s = .next u ∧ (Store.read {} u.spindle.frames f).closed = true
       ∧ u = { s with clock := u.clock, spindle := u.spindle, recs := u.recs })
   ∧ (∀ (t : Tick) (s : State), (s.advance t).epochAt (max s.now t) ≠ s.clock.epoch →
     ∃ u, exec (.epochWrap t) s = .next u ∧ u.clock.epoch = !s.clock.epoch
       ∧ u = { s with clock := u.clock, recs := u.recs })
   ∧ ∀ (t : Tick) (s : State), s.spindle.warm = true →
     ∃ u, exec (.ocxoReadyFall t) s = .next u ∧ u.spindle.ocxo = false ∧ u.spindle.warm = false
       ∧ u = { s with clock := u.clock, spindle := u.spindle, recs := u.recs })
  ∧ (∀ (t : Tick) (f l : Nat) (s : State), s.spindle.state = .locked → s.timingMode = 0 →
     s.spindle.phase ≤ fine (max s.now t) → s.strobeLine (max s.now t) = (f, l) →
     (∀ n, n < 8 → (s.port n).owed = none ∧ (s.port n).asked = none) → (∀ b, b < 16 → (s.bank b).forced = s.reduced) →
     (s.cal.run.all fun r => r.reduced4 || !decide (r.kind = 4)) = true →
     (f = s.spindle.frame → s.dist.staged = [] →
       exec (.lineBoundary t) s = .next ((s.advance t).modSpindle fun p => { p with line := l }))
     ∧ (f ≠ s.spindle.frame → s.dist.staged = [] →
       ∃ u, exec (.lineBoundary t) s = .next u ∧ u.spindle.frame = f ∧ u.spindle.line = l ∧ u.spindle.load = none
         ∧ (Store.wf {} s.spindle.frames = true → (Store.read {} u.spindle.frames f).begun = true)
         ∧ u = { s with clock := u.clock, spindle := u.spindle, recs := u.recs })
     ∧ (∀ h b first words at_, f = s.spindle.frame → s.wf = true → b < 16 → at_ ≤ l →
       s.dist.staged = [⟨f, at_, false, some h, [.codes b first words], none⟩] →
       ∃ u, exec (.lineBoundary t) s = .next u ∧ u.dist.staged = [] ∧ u.spindle.line = l
         ∧ (u.flyer b).codes = State.putWords 0 first words (s.flyer b).codes
         ∧ u = { s with clock := u.clock, spindle := u.spindle, flyers := u.flyers, dist := u.dist }))
  ∧ ∀ (t : Tick) (s : State), (∀ x, s.spindle.driftAt = some x → x + us 1000000 ≤ max s.now t) →
     (∀ ocxo, s.popt Par.driftSource 0 = 0 → ∃ u, exec (.driftMeasurement t ocxo none) s = .next u
       ∧ u.spindle.ocxo = ocxo ∧ u.spindle.warm = false ∧ u.spindle.ratios = [] ∧ u.spindle.drift = none
       ∧ u.spindle.driftAt = some (max s.now t) ∧ u = { s with clock := u.clock, spindle := u.spindle, recs := u.recs })
     ∧ (∀ r, 0 < r → s.popt Par.driftSource 0 = 0 → s.spindle.state = .locked → s.spindle.ratios = List.replicate 15 r →
       ∃ u, exec (.driftMeasurement t true (some r)) s = .next u ∧ u.spindle.warm = true
         ∧ u.spindle.ratios = List.replicate 16 r ∧ u.spindle.drift = some 0
         ∧ u = { s with clock := u.clock, spindle := u.spindle, recs := u.recs })
     ∧ ∀ i ocxo ratio m d, s.popt Par.driftSource 0 = i + 1 → (s.aux i).driftDone = some (m, d) → s.spindle.ratios = [] →
       s.wf = true → ∃ u, exec (.driftMeasurement t ocxo ratio) s = .next u ∧ (u.aux i).driftDone = none
         ∧ u.spindle.ratios = [(quotOpen (2 ^ 32 * d : Nat) (max 1 (m * s.prescale i))).toNat]
         ∧ u = { s with clock := u.clock, spindle := u.spindle, auxf := u.auxf, recs := u.recs }

/-- The port states of a head's arrival and departure: presence confirmed in the probe takes PROBING to READING; a current
above the trip threshold takes a port whose switch is closed to TRIPPED; removal takes it to REMOVED, by the heartbeat
rule 1.5 us after the last transition, and the end of REMOVED back to PROBING; no telemetry for 50 ms, or no verified head
for 2 s, in READING takes it to REJECTED. No other port changes its state, and the device state stays (spec 04 R94, R95,
R115, R116). -/
def Obligations.PortStatesFollowTheHead : Prop :=
  ∀ (t : Tick) (n : Nat) (s : State), n < 8 → s.now ≤ t → s.wf = true →
    (∀ current, (s.port n).state = .probing → (s.port n).closedAt + us 100 ≤ t → t < (s.port n).probeEnd →
      t ≤ (s.port n).closedAt + us 2000 → 10 * s.pnum Par.presThreshold n ≤ current →
      ∃ u, exec (.presence t n current) s = .next u ∧ (u.port n).state = .reading ∧ u.dev = s.dev
        ∧ ∀ m, m ≠ n → (u.port m).state = (s.port m).state)
    ∧ (∀ current, (s.advance t).switchClosed n = true → (s.advance t).tripLevel n < current →
      ∃ u, exec (.portTrip t n current) s = .next u ∧ (u.port n).state = .tripped ∧ u.dev = s.dev
        ∧ ∀ m, m ≠ n → (u.port m).state = (s.port m).state)
    ∧ (∀ cause last, (s.port n).state.closed = true → (cause = 1 → ∃ l, last = some l ∧ l + ns 1500 ≤ t) →
      ∃ u, exec (.headRemoved t n ⟨cause, last⟩) s = .next u ∧ (u.port n).state = .removed ∧ u.dev = s.dev
        ∧ ∀ m, m ≠ n → (u.port m).state = (s.port m).state)
    ∧ ((s.port n).state = .removed → (s.port n).enteredAt + us 250000 ≤ t →
      ∃ u, exec (.removedEnd t n) s = .next u ∧ (u.port n).state = .probing ∧ u.dev = s.dev
        ∧ ∀ m, m ≠ n → (u.port m).state = (s.port m).state)
    ∧ ((s.port n).state = .reading → (s.port n).seen = false → (s.port n).enteredAt + us 50000 ≤ t →
      ∃ u, exec (.noTelemetryTimeout t n) s = .next u ∧ (u.port n).state = .rejected ∧ u.dev = s.dev
        ∧ ∀ m, m ≠ n → (u.port m).state = (s.port m).state)
    ∧ ((s.port n).state = .reading → (s.port n).enteredAt + us 2000000 ≤ t →
      ∃ u, exec (.readingTimeout t n) s = .next u ∧ (u.port n).state = .rejected ∧ u.dev = s.dev
        ∧ ∀ m, m ≠ n → (u.port m).state = (s.port m).state)

/-- A port's switch closes for a probe of 2.0 ms, and the boards of the head on it are powered, board 0 sending the chain
length; at the keep-alive times of a sending port a keep-alive is reserved for the next period at the first opening, and
when its instant has come it leaves as the symbol of type 2 with its number, unless the latch is set; a reserved sync
leaves with its application delay, and what it brings comes into force; of telemetry words of even parity from a port
whose switch is closed, a temperature is noted with its instant, before the board's descriptor is known, a descriptor's
first word starts the board's bytes anew, and the first scanner word of a mirror that is acquiring notes its crossing; a
word of odd parity is counted and discarded (spec 02 R53, 04 R95, R101, R104, R107-R109, R113, R504; when a scanner word
stands before the others of board 0 is the model's reading, DEDUCED, log 145). -/
def Obligations.PortSymbolsAndWords : Prop :=
  ((∀ (t : Tick) (n : Nat) (s : State), n < 8 → s.now ≤ t → s.wf = true → (s.port n).state = .probing →
     (s.port n).probeEnd = 0 → ∀ head, ∃ u, exec (.probe t ⟨n, head⟩) s = .next u ∧ (u.port n).closedAt = t
       ∧ (u.port n).probeEnd = t + us 2000 ∧ (∀ b, b < 4 → (u.lamp (4 * n + b)).powered = decide (b < head.length))
       ∧ (head ≠ [] → (u.lamp (4 * n)).up = [(t, State.statusBits 0 2 head.length)])
       ∧ u = { s with clock := u.clock, ports := u.ports, lamps := u.lamps })
   ∧ (∀ (t x : Tick) (n : Nat) (s : State), n < 8 → s.wf = true → (s.port n).state.sends = true →
     (s.advance t).kaPlaced n ((s.advance t).periodOf (max s.now t) + 1) = false →
     firstOpening (s.port n).reserved ((s.advance t).periodStart ((s.advance t).periodOf (max s.now t) + 1))
       ((s.advance t).periodStart ((s.advance t).periodOf (max s.now t) + 1) + kaPeriod) (max s.now t) = some x →
     (s.port n).asked = none → (s.port n).recap = []
       → exec (.keepAlivePlace t n) s = .next ((s.advance t).modPort n fun p => { p with
       reserved := p.reserved ++ [(x, .keepAlive (((s.advance t).periodOf (max s.now t) + 1) % 64))] }))
   ∧ (∀ (t x : Tick) (n k : Nat) (s : State), n < 8 → s.wf = true → x ≤ t → s.latch.set = false →
     (s.port n).reserved = [(x, .keepAlive k)] → (s.port n).asked = none →
     ∃ u, exec (.keepAliveSend t n) s = .next u ∧ (u.port n).reserved = []
       ∧ (u.port n).symbols.getLast? = some (x, shortBits (128 + k % 64))
       ∧ (u.port n).sent.getLast? = some (k, x) ∧ u = { s with clock := u.clock, ports := u.ports })
   ∧ ∀ (t x b : Tick) (n a : Nat) (s : State), n < 8 → s.wf = true → x ≤ t → s.latch.set = false →
     (s.port n).reserved = [(x, .sync a b)] → (s.port n).syncFor = some (b, none) →
     (s.port n).asked = none → (s.port n).recap = [] → ∃ u, exec (.broadcastSyncSend t n) s = .next u
       ∧ (u.port n).reserved = [] ∧ (u.port n).syncFor = none
       ∧ (u.port n).symbols.getLast? = some (x, shortBits (64 + a % 64))
       ∧ (Store.wf {} (s.port n).boards = true → ∀ k, k < 4 → (s.view n k).faults.getLsbD 4 = false
         → (u.view n k).codes = (s.view n k).next)
       ∧ u = { s with clock := u.clock, ports := u.ports })
  ∧ (∀ (t : Tick) (n : Nat) (w : BitVec 18) (s : State), n < 8 → s.now ≤ t → s.wf = true →
     (s.port n).state.closed = true →
     (State.wordGood w = true → bits w.toNat 16 2 = 0 → bits w.toNat 10 4 = 0 → (s.view n (bits w.toNat 14 2)).desc = none →
       Store.wf {} (s.port n).boards = true →
       ∃ u, exec (.telemetryStatus t n w) s = .next u ∧ (u.view n (bits w.toNat 14 2)).temp = some (bits w.toNat 1 9)
         ∧ (u.view n (bits w.toNat 14 2)).tempAt = t ∧ (u.port n).seen = true
         ∧ u = { s with clock := u.clock, ports := u.ports, lamps := u.lamps })
     ∧ (State.wordGood w = true → bits w.toNat 16 2 = 1 → w.toNat.testBit 13 = true → Store.wf {} (s.port n).boards = true →
       (s.lamp (4 * n + bits w.toNat 14 2)).sending = true → w = s.descriptorWord n (bits w.toNat 14 2) →
       (∀ b, b < 4 → ∀ x ∈ (s.lamp (4 * n + b)).up, t ≤ x.1 + us 20) →
       ∃ u, exec (.descriptorWord t n w) s = .next u ∧ (u.view n (bits w.toNat 14 2)).bytes.length = 1
         ∧ (u.view n (bits w.toNat 14 2)).part.length = 4 ∧ (u.port n).seen = true
         ∧ u = { s with clock := u.clock, ports := u.ports, lamps := u.lamps })
     ∧ (∀ y, State.wordGood w = true → bits w.toNat 16 2 = 2 → s.reportsOn n = true → (s.scanner n).state = 1 →
       (s.scanner n).last = none → Store.wf {} s.spindle.scanners = true → (s.advance t).scannerFirst n w = true →
       ((s.port n).sent.filter fun y => y.1 = bits w.toNat 10 6 && decide (t ≤ y.2 + ns 65536)).getLast? = some y →
       let b := ((List.range 4).find? fun b => (s.boardDesc n b).scanner).getD 0
       ∃ u, exec (.scannerWord t n w) s = .next u ∧ (u.port n).seen = true
         ∧ (u.scanner n).last = some ((y.2 + ns (4 * bits w.toNat 1 9) : Nat) + 16 * s.boardDelay n b).toNat
         ∧ u = { s with clock := u.clock, spindle := u.spindle, ports := u.ports, lamps := u.lamps })
     ∧ (State.wordGood w = false → bits w.toNat 16 2 = 2 → (s.advance t).scannerFirst n w = true →
       ∃ u, exec (.scannerWord t n w) s = .next u ∧ u.counter Kind.parity n = (s.counter Kind.parity n + 1) % 2 ^ 32
         ∧ u = { s with clock := u.clock, ports := u.ports, lamps := u.lamps, counters := u.counters }))

/-- What each board message and each short symbol does to a powered board: staged values wait for the sync, the others
take effect at once; emission is enabled only where the board's temperature stands below its derating stop; a fire symbol
fires the element it names only where the board is ENABLED and the element is enabled; a sync brings the staged values
into force once 4a ns less the compensation have passed since its marker; a keep-alive is noted, and 4.0 us without one
silence the board. No other board and nothing but the boards changes (spec 04 R97, R99, R103, R104, R113, Table 4-6). -/
def Obligations.BoardMessagesAndSymbolsTakeEffect : Prop :=
  (∀ (t : Tick) (n b : Nat) (s : State), n < 8 → b < 4 → s.now ≤ t → s.wf = true → (s.lamp (4 * n + b)).powered = true →
     let only := fun (u : State) => u = { s with clock := u.clock, lamps := u.lamps }
       ∧ ∀ j, j ≠ 4 * n + b → u.lamp j = s.lamp j
     (∀ mask, ∃ u, exec (.elementEnable t n b mask) s = .next u ∧ (u.lamp (4 * n + b)).stagedEnables = some mask
       ∧ (u.lamp (4 * n + b)).enables = (s.lamp (4 * n + b)).enables ∧ only u)
     ∧ (∀ e c, e < 16 → c < 256 → Store.wf none (s.lamp (4 * n + b)).stagedCodes = true →
       ∃ u, exec (.driveCode t n b e c) s = .next u ∧ Store.read none (u.lamp (4 * n + b)).stagedCodes e = some c
       ∧ (u.lamp (4 * n + b)).codes = (s.lamp (4 * n + b)).codes ∧ only u)
     ∧ (∀ p, ∃ u, exec (.indicatorBrightness t n b p) s = .next u ∧ (u.lamp (4 * n + b)).stagedBrightness = some p
       ∧ (u.lamp (4 * n + b)).brightness = (s.lamp (4 * n + b)).brightness ∧ only u)
     ∧ (State.tooHot (s.lamp (4 * n + b)) = false →
       ∃ u, exec (.emission t n b 0xA5) s = .next u ∧ (u.lamp (4 * n + b)).enabled = true ∧ only u)
     ∧ (∃ u, exec (.emission t n b 0x00) s = .next u ∧ (u.lamp (4 * n + b)).enabled = false ∧ only u)
     ∧ (∀ v, v ≠ 0xA5 → v ≠ 0x00 → ∃ u, exec (.emission t n b v) s = .next u
       ∧ (u.lamp (4 * n + b)).enabled = (s.lamp (4 * n + b)).enabled ∧ only u)
     ∧ (∀ c, ∃ u, exec (.syncCompensation t n b c) s = .next u ∧ (u.lamp (4 * n + b)).comp = c ∧ only u)
     ∧ (∃ u, exec (.descriptorRead t n b) s = .next u ∧ (u.lamp (4 * n + b)).sending = true ∧ only u)
     ∧ (∃ u, exec (.scannerReports t n b 0x01) s = .next u ∧ (u.lamp (4 * n + b)).reports = true ∧ only u)
     ∧ ∃ u, exec (.shareCounterReset t n b) s = .next u ∧ (u.lamp (4 * n + b)).shares = 0 ∧ only u)
  ∧ (∀ (t : Tick) (n b : Nat) (s : State), n < 8 → b < 4 → s.now ≤ t → s.wf = true → (s.lamp (4 * n + b)).powered = true →
     let only := fun (u : State) => u = { s with clock := u.clock, lamps := u.lamps }
       ∧ ∀ j, j ≠ 4 * n + b → u.lamp j = s.lamp j
     (∀ e, e < 16 → (s.lamp (4 * n + b)).enabled = true → (s.lamp (4 * n + b)).enables.getLsbD e = true →
       ∃ u, exec (.boardFire t n b (shortBits (16 * b + e))) s = .next u
         ∧ (u.lamp (4 * n + b)).fired.getLast? = some (t, e) ∧ only u)
     ∧ (∀ x, (s.lamp (4 * n + b)).enabled = false →
       ∃ u, exec (.boardFire t n b x) s = .next u
         ∧ (u.lamp (4 * n + b)).fired = (s.lamp (4 * n + b)).fired ∧ only u)
     ∧ (∀ a arrival, a < 64 → (s.lamp (4 * n + b)).shareFail = false →
       State.syncDue arrival a (s.lamp (4 * n + b)).comp ≤ t →
       ∃ u, exec (.boardSyncApply t n b ⟨shortBits (64 + a), arrival⟩) s = .next u
         ∧ (u.lamp (4 * n + b)).enables = (s.lamp (4 * n + b)).stagedEnables.getD (s.lamp (4 * n + b)).enables
         ∧ (u.lamp (4 * n + b)).brightness = (s.lamp (4 * n + b)).stagedBrightness.getD (s.lamp (4 * n + b)).brightness
         ∧ (u.lamp (4 * n + b)).stagedEnables = none ∧ only u)
     ∧ (∀ k, k < 64 → ∃ u, exec (.boardKeepAlive t n b (shortBits (128 + k))) s = .next u
         ∧ (u.lamp (4 * n + b)).lastKeepAlive = t ∧ (u.lamp (4 * n + b)).keepAlive = k ∧ only u)
     ∧ ((s.lamp (4 * n + b)).enabled = true → (s.lamp (4 * n + b)).lastKeepAlive + ns 4000 ≤ t →
       ∃ u, exec (.keepAliveTimeout t n b) s = .next u ∧ (u.lamp (4 * n + b)).enabled = false
         ∧ (u.lamp (4 * n + b)).faults.getLsbD 2 = true ∧ only u))

/-- What happens to a powered board of itself, and what the device concludes about one: its temperature goes upstream with
the check errors counted anew; over temperature or with a driver fault it goes SILENT with the fault bit set; its
indicator takes the pattern of Table 4-10; an empty share is counted as good, a share's message takes effect where the CRC
agrees, and a frame of count 0 is a violation, as is each pulse outside the accepted classes, for which the frame is
discarded; a board whose temperature has been silent for 10 ms is stopped as at its derating stop; a whole descriptor, in
its turn, is verified with its signer, or its head is rejected (spec 04 R95, R96, R102, R108, R110, R112-R114, 17 R405).
-/
def Obligations.BoardConditionsAndViews : Prop :=
  (∀ (t : Tick) (n b : Nat) (s : State), n < 8 → b < 4 → s.now ≤ t → s.wf = true → (s.lamp (4 * n + b)).powered = true →
     let only := fun (u : State) => u = { s with clock := u.clock, lamps := u.lamps }
       ∧ ∀ j, j ≠ 4 * n + b → u.lamp j = s.lamp j
     (∀ temp, ((s.lamp (4 * n + b)).tempAt.all fun x => decide (x + us 900 ≤ t)) = true →
       ∃ u, exec (.boardTemperatureSend t n b temp) s = .next u ∧ (u.lamp (4 * n + b)).temp = temp
       ∧ (t, State.statusBits b 0 temp) ∈ (u.lamp (4 * n + b)).up ∧ (u.lamp (4 * n + b)).checkErrors = 0 ∧ only u)
     ∧ (∀ temp : Nat, ((s.boardOwn n b).derateStop : Int) ≤ (temp : Int) - 80 →
       ∃ u, exec (.boardOverTemperature t n b temp) s = .next u ∧ (u.lamp (4 * n + b)).enabled = false
         ∧ (u.lamp (4 * n + b)).faults.getLsbD 1 = true ∧ only u)
     ∧ (∃ u, exec (.driverFault t n b) s = .next u ∧ (u.lamp (4 * n + b)).enabled = false
         ∧ (u.lamp (4 * n + b)).faults.getLsbD 3 = true ∧ only u)
     ∧ (∃ u, exec (.indicatorPatternTimeout t n b) s = .next u
         ∧ (u.lamp (4 * n + b)).pattern = State.patternOf (s.lamp (4 * n + b)) t ∧ only u)
     ∧ (∃ u, exec (.dataFrame t n b (State.cellsOf [1, 0])) s = .next u ∧ (u.lamp (4 * n + b)).shareGood = true
         ∧ (u.lamp (4 * n + b)).shares = ((s.lamp (4 * n + b)).shares + 1) % 16 ∧ only u)
     ∧ (∀ c₁ c₂, State.shareGood [2, 0x04, 0x00, c₁, c₂] = true →
       ∃ u, exec (.dataFrame t n b (State.cellsOf [1, 2, 0x04, 0x00, c₁, c₂])) s = .next u
         ∧ (u.lamp (4 * n + b)).enabled = false ∧ only u)
     ∧ (∃ u, exec (.dataFrame t n b (State.cellsOf [0])) s = .next u
         ∧ (u.lamp (4 * n + b)).violations = (s.lamp (4 * n + b)).violations + 1 ∧ only u)
     ∧ ∀ pulses : List Nat, pulses.any (fun h => (State.cellOf h).isNone) = true →
       ∃ u, exec (.dataFrame t n b pulses) s = .next u ∧ (u.lamp (4 * n + b)).shares = (s.lamp (4 * n + b)).shares
         ∧ (u.lamp (4 * n + b)).violations = (s.lamp (4 * n + b)).violations
           + (pulses.filter fun h => (State.cellOf h).isNone).length ∧ only u)
  ∧ (∀ (t : Tick) (n b : Nat) (s : State), n < 8 → b < 4 → s.now ≤ t → s.wf = true → b < (s.port n).chain →
     Store.wf {} (s.port n).boards = true →
     ((s.port n).state.closed = true → (s.view n b).desc.isSome = true → (s.view n b).tempAt + us 10000 ≤ t →
       ∃ u, exec (.boardTemperatureStale t n b) s = .next u ∧ (u.view n b).stopped = true ∧ u.dev = s.dev
         ∧ ((s.boardDesc n b).derateStart < (s.boardDesc n b).derateStop → (u.view n b).cap = 0)
         ∧ u.whorl.inhibit = s.whorl.inhibit ∧ u.latch = s.latch)
     ∧ ((s.port n).state = .reading → (s.view n b).verified = false → 4 ≤ (s.view n b).bytes.length →
       State.num (s.view n b).bytes 2 2 + State.sigLength ≤ (s.view n b).bytes.length →
       (List.range b).all (fun k => (s.view n k).verified) = true →
       let whole := (s.view n b).bytes.take (State.num (s.view n b).bytes 2 2 + State.sigLength)
       let fault := s.descriptorFault b whole (if b = 0 then none else some (s.headDesc n))
       ∃ u, exec (.descriptorCheckDone t n b) s = .next u ∧ u.dev = s.dev ∧ (∀ m, m ≠ n → (u.port m).state = (s.port m).state)
         ∧ (match fault with
           | none => (u.view n b).verified = true
             ∧ (u.view n b).desc = some (State.descriptorOf (whole.take (State.num whole 2 2)))
           | some _ => (u.port n).state = .rejected)))

/-- Flyer instructions that act on the Flyer alone: with the instruction at the program counter of a running Flyer that waits
for no shot, STOP leaves it DONE; NEXTLINE, SETLINE and WAITFRAME move its line pointer, NEXTLINE with carry into the frame
number, which with no number load and no free-running setting pending is by the declared lines per frame; LOOP opens a loop;
ENDLOOP goes back while times remain, and on when they do not; JUMP and NOP move the program counter. Nothing but the Flyer
changes (spec 02 R36, R40, 03 R70, R73, R75). -/
def Obligations.FlyerInstructionsMoveTheFlyer : Prop :=
  ∀ (t : Tick) (b v : Nat) (s : State), b < 16 → s.wf = true → s.flyerWord b = some v → (s.flyer b).pc < 2047 →
    (bits v 28 4 = 0 → exec (.flyerStop t b) s = .next ((s.advance t).modFlyer b fun f => { f with state := .done }))
    ∧ (∀ n : BitVec 16, bits v 28 4 = 3 → bits v 0 16 = n.toNat →
      exec (.flyerNextline t b n) s = .next ((s.advance t).modFlyer b fun f => { f with
        frame := (s.carry f.frame ((f.line + n.toNat : Nat) : Int)).1
        line := (s.carry f.frame ((f.line + n.toNat : Nat) : Int)).2, pc := f.pc + 1 }))
    ∧ (∀ f l, s.spindle.load = none → s.spindle.freePending = [] → 0 < s.spindle.lines →
      s.carry f (l : Nat) = ((f + l / s.spindle.lines) % 2 ^ 32, l % s.spindle.lines))
    ∧ (∀ l : BitVec 16, bits v 28 4 = 4 → bits v 0 16 = l.toNat → l.toNat < s.spindle.lines →
      exec (.flyerSetline t b l) s = .next ((s.advance t).modFlyer b fun f => { f with pc := f.pc + 1, line := l.toNat }))
    ∧ (bits v 28 4 = 5 → exec (.flyerWaitframe t b) s = .next ((s.advance t).modFlyer b fun f => { f with
        frame := if f.line = 0 then f.frame else s.spindle.frameAfter f.frame 1, line := 0, pc := f.pc + 1 }))
    ∧ (∀ c : BitVec 24, bits v 28 4 = 6 → bits v 0 24 = c.toNat → (s.flyer b).loops.length < 4 →
      exec (.flyerLoop t b c) s = .next ((s.advance t).modFlyer b fun f => { f with
        pc := f.pc + 1, loops := (f.pc + 1, c.toNat) :: f.loops }))
    ∧ (∀ a k rest, bits v 28 4 = 7 → (s.flyer b).loops = (a, k) :: rest →
      exec (.flyerEndloop t b) s = .next ((s.advance t).modFlyer b fun f =>
        if 1 < k then { f with pc := a, loops := (a, k - 1) :: rest } else { f with pc := f.pc + 1, loops := rest }))
    ∧ (∀ a : BitVec 11, bits v 28 4 = 8 → bits v 0 11 = a.toNat →
      exec (.flyerJump t b a) s = .next ((s.advance t).modFlyer b fun f => { f with pc := a.toNat }))
    ∧ (bits v 28 4 = 9 → exec (.flyerNop t b) s = .next ((s.advance t).modFlyer b fun f => { f with pc := f.pc + 1 }))

/-- Microcode faults: SETLINE at or beyond the declared lines, a fifth nested LOOP, ENDLOOP with no open loop, and a shot
index beyond the table leave the Flyer DONE with the fault's address, and no shot issued (spec 03 R73). -/
def Obligations.FlyerFaultsEndTheFlyer : Prop :=
  ∀ (t : Tick) (b v : Nat) (s : State), b < 16 → s.wf = true → s.flyerWord b = some v →
    let faulted := fun (u : State) => (u.flyer b).state = .done ∧ (u.flyer b).fault = some (s.flyer b).pc
      ∧ (u.flyer b).issued = [] ∧ (∀ k, k ≠ b → u.flyer k = s.flyer k)
      ∧ u = { s with clock := u.clock, flyers := u.flyers, recs := u.recs, nvCtl := u.nvCtl, side := u.side }
    (∀ l : BitVec 16, bits v 28 4 = 4 → bits v 0 16 = l.toNat → s.spindle.lines ≤ l.toNat →
      ∃ u, exec (.flyerSetline t b l) s = .next u ∧ faulted u)
    ∧ (∀ c : BitVec 24, bits v 28 4 = 6 → bits v 0 24 = c.toNat → 4 ≤ (s.flyer b).loops.length →
      ∃ u, exec (.flyerLoop t b c) s = .next u ∧ faulted u)
    ∧ (bits v 28 4 = 7 → (s.flyer b).loops = [] → ∃ u, exec (.flyerEndloop t b) s = .next u ∧ faulted u)
    ∧ (∀ d : BitVec 12, bits v 28 4 = 1 → bits v 0 12 = d.toNat → 3072 ≤ d.toNat →
      ∃ u, exec (.flyerShot t b d) s = .next u ∧ faulted u)

/-- SHOT and BURST issue the descriptors they name at the line pointer, in order; a Flyer whose line 0 has come within the
horizon runs (spec 03 R73-R75). -/
def Obligations.FlyersIssueShots : Prop :=
  ∀ (t : Tick) (b v : Nat) (s : State), b < 16 → s.wf = true →
    (∀ d : BitVec 12, s.flyerWord b = some v → bits v 28 4 = 1 → bits v 0 12 = d.toNat → d.toNat < 3072 →
      exec (.flyerShot t b d) s = .next ((s.advance t).modFlyer b fun f => { f with
        pc := f.pc + 1, headAt := max s.now t, plan := none, issued := [s.shotOf f d.toNat] }))
    ∧ (∀ d n : BitVec 12, s.flyerWord b = some v → bits v 28 4 = 2 → bits v 0 12 = d.toNat → bits v 12 12 = n.toNat →
      0 < n.toNat → d.toNat + n.toNat ≤ 3072 →
      exec (.flyerBurst t b d n) s = .next ((s.advance t).modFlyer b fun f => { f with
        pc := f.pc + 1, headAt := max s.now t, plan := none
        issued := (List.range n.toNat).map fun i => s.shotOf f (d.toNat + i) }))
    ∧ ((s.flyer b).state = .waiting → (s.flyer b).placed = true → s.spindle.hasTime = true →
      s.plannedInstant ⟨(s.flyer b).frame, (s.flyer b).line, 0⟩ ≤ max s.now t + ns 8192 →
      exec (.flyerRun t b) s = .next ((s.advance t).modFlyer b fun f => { f with state := .running }))

/-- A shot that is ready, whose turn it is among the Flyers and that passes every check is committed: it takes the lowest
free Skein entry, and its fire symbol is reserved on its port at the planned instant less the element's latency; one that
fails a check takes no entry and is counted by its outcome (spec 03 R74, R82-R86, R92, 04 R100; a fixed code, so that the
generator stays). -/
def Obligations.CommitTakesAnEntry : Prop :=
  ∀ (t ready : Tick) (b : Nat) (x : Shot) (rest : List Shot) (s : State), b < 16 → s.now ≤ t → s.wf = true →
    (∀ n, n < 8 → (s.port n).asked = none) →
    let a := s.advance t
    let e := a.entryOf b x
    (s.flyer b).issued = x :: rest → rest ≠ [] ∨ (s.flyer b).pc < 2048 → a.readyAt b = some ready → a.mayCommit b = true →
    (a.firstChecks e x.desc (max ready (t - ns 8)) = none → descField x.desc 41 2 = 0 →
      codeValid ((Store.read 0 (s.flyer b).codes (descField x.desc 43 8)).setWidth 20) = true → a.roomFor e = none →
      ∃ u, exec (.commit t b) s = .next u ∧ (u.flyer b).issued = rest
        ∧ (u.entry (firstGap 0 s.skein)).state = .committed ∧ (u.entry (firstGap 0 s.skein)).planned = e.planned
        ∧ (u.entry (firstGap 0 s.skein)).element = e.element ∧ (u.entry (firstGap 0 s.skein)).order = s.order
        ∧ (e.symbolAt, Reserved.fire (firstGap 0 s.skein)) ∈ (u.port (elemPort e.element)).reserved
        ∧ u.order = s.order + 1 ∧ u.dev = s.dev ∧ u.latch = s.latch ∧ u.whorl = s.whorl)
    ∧ (∀ out stream, a.firstChecks e x.desc (max ready (t - ns 8)) = some (out, stream) →
      Store.wf 0 (s.flyer b).counters = true →
      ∃ u, exec (.commit t b) s = .next u ∧ (u.flyer b).issued = rest ∧ u.skein = s.skein ∧ u.order = s.order
        ∧ Store.read 0 (u.flyer b).counters (State.outcomeKey out)
          = (Store.read 0 (s.flyer b).counters (State.outcomeKey out) + 1) % 2 ^ 32
        ∧ u.ports = s.ports ∧ u.dev = s.dev ∧ u.latch = s.latch ∧ u.whorl = s.whorl)

/-- A committed shot that Whorl lets pass is charged and PASSED; one met by an inhibit cause, by a closed gate, by limits
that are not loaded or by an account without room retires with outcome 0x20, is counted by that cause, the first of these
in this order, and charges nothing (spec 16 R379, R387). -/
def Obligations.WhorlPassesOrRefuses : Prop :=
  ∀ (t : Tick) (i : Nat) (s : State), s.now ≤ t → s.wf = true → (s.entry i).state = .committed →
    let n := elemPort (s.entry i).element
    let a := s.advance t
    let refused := fun (k : Nat) => ∃ u, exec (.whorlVerdict t i) s = .next u ∧ (u.entry i).state = .retired
      ∧ (u.entry i).outcome = 0x20 ∧ u.whorl.accounts = s.whorl.accounts
      ∧ u.counter (Kind.refused1 + k) n = (s.counter (Kind.refused1 + k) n + 1) % 2 ^ 32
      ∧ (∀ j, j ≠ i → u.entry j = s.entry j) ∧ u.latch = s.latch
    (s.inhibited = false → s.gateOpen n = true → s.limitsLoaded (s.entry i).element = true →
      a.overLimit (s.entry i).element (s.entry i).planned (a.chargeOf (s.entry i)) = [] →
      ∃ u, exec (.whorlVerdict t i) s = .next u ∧ (u.entry i).state = .passed
        ∧ (u.entry i).charge = a.chargeOf (s.entry i) ∧ (∀ j, j ≠ i → u.entry j = s.entry j) ∧ u.latch = s.latch)
    ∧ (s.inhibited = true → refused 0)
    ∧ (s.inhibited = false → s.gateOpen n = false → refused 1)
    ∧ (s.inhibited = false → s.gateOpen n = true → s.limitsLoaded (s.entry i).element = false → refused 2)
    ∧ (s.inhibited = false → s.gateOpen n = true → s.limitsLoaded (s.entry i).element = true →
      a.overLimit (s.entry i).element (s.entry i).planned (a.chargeOf (s.entry i)) ≠ [] → refused 3)

/-- The fire symbol of a passed shot leaves through an open gate with the element's six bits, and the shot is FIRED; at a
closed gate no symbol leaves, and the shot retires with outcome 0x21 (spec 03 R86, 04 R99, 16 R372). -/
def Obligations.FireSymbolLeavesOnlyThroughAnOpenGate : Prop :=
  ∀ (t : Tick) (i : Nat) (s : State), s.now ≤ t → s.wf = true → (s.entry i).state = .passed → (s.entry i).symbolAt ≤ t →
    let n := elemPort (s.entry i).element
    (s.gateOpen n = true → s.latch.set = false →
      ∃ u, exec (.fireSymbolSend t i) s = .next u ∧ (u.entry i).state = .fired
        ∧ (u.port n).symbols.getLast? = some ((s.entry i).symbolAt, shortBits ((s.entry i).element % 64))
        ∧ (∀ j, j ≠ i → u.entry j = s.entry j) ∧ (∀ m, m ≠ n → u.port m = s.port m))
    ∧ (s.gateOpen n = false → (s.port n).state = .admitted →
      ∃ u, exec (.fireSymbolSend t i) s = .next u ∧ (u.entry i).state = .retired ∧ (u.entry i).outcome = 0x21
        ∧ (∀ m, (u.port m).symbols = (s.port m).symbols) ∧ (∀ j, j ≠ i → u.entry j = s.entry j))

/-- A fired shot's windows open at its planned instant and close at their length, the last retiring it complete; a
slot is finalised 64 ns later; a retired entry with nothing left to finalise is FREE again (spec 03 R72, R86, R88,
09 R221). -/
def Obligations.WindowsOpenCloseAndFree : Prop :=
  ∀ (t : Tick) (i c : Nat) (s : State), s.now ≤ t → s.wf = true →
    ((s.entry i).state = .fired → (s.entry i).opened = false → (s.entry i).planned ≤ t → (s.entry i).windows = [c] →
      ∃ u, exec (.windowOpen t i) s = .next u ∧ (u.entry i).opened = true ∧ (u.entry i).state = .fired
        ∧ (∀ j, j ≠ i → u.entry j = s.entry j) ∧ u.whorl = s.whorl)
    ∧ ((s.entry i).state = .fired → (s.entry i).opened = true → (s.entry i).windows = [c] →
      (s.entry i).planned + ns (8 * (s.entry i).window) ≤ t →
      ∃ u, exec (.windowClose t i c) s = .next u ∧ (u.entry i).state = .retired ∧ (u.entry i).outcome = 0
        ∧ (u.entry i).windows = [] ∧ (∀ j, j ≠ i → u.entry j = s.entry j) ∧ u.whorl = s.whorl)
    ∧ (c ∈ (s.entry i).unfinal → (s.entry i).planned + ns (8 * (s.entry i).window + 64) ≤ t → (s.entry i).cal = false →
      ∃ u, exec (.slotFinalise t i c) s = .next u ∧ c ∉ (u.entry i).unfinal ∧ u.whorl = s.whorl)
    ∧ ((s.entry i).state = .retired → (s.entry i).unfinal = [] → (s.entry i).cal = false →
      ∃ u, exec (.entryFree t i) s = .next u ∧ u.entry i = {} ∧ (∀ j, j ≠ i → u.entry j = s.entry j)
        ∧ u.whorl = s.whorl)

/-- The front end's clamp and gates: a clamp event is counted and sets the flag, and in auto-ranging mode the channel
stands in range 0 at once; its end lets the mark run 10 ns more and the servo hold its current 1.0 us more; in fallback an
idle integrator opens an ambient gate of 4,096 ns where no window is opening; a measuring gate that closes gives one
return with its integral, which stage 0 corrects, one of a calibration shot or of a declared channel none, nor an ambient
gate, and it counts towards the return from fallback
where its mean current is below 1.0 mA (spec 05 R120, R121, R123, R126, R129-R131, 06 R151). -/
def Obligations.ClampAndGatesTakeEffect : Prop :=
  ∀ (t : Tick) (c : Nat) (s : State), s.now ≤ t → s.wf = true →
    (∀ servo, ∃ u, exec (.clampEvent t ⟨c, servo⟩) s = .next u ∧ (u.chan c).fe.clamping = true
      ∧ (u.chan c).fe.clampFlag = true
      ∧ u.counter Kind.clamp c = (s.counter Kind.clamp c + 1) % 2 ^ 32
      ∧ (s.autoRanging c = true → (u.chan c).fe.range = 0)
      ∧ (s.autoRanging c = false → (u.chan c).fe.range = (s.chan c).fe.range)
      ∧ (∀ k, k ≠ c → u.chan k = s.chan k)
      ∧ u = { s with clock := u.clock, chans := u.chans, counters := u.counters })
    ∧ ((s.chan c).fe.clamping = true →
      exec (.clampEnd t c) s = .next ((s.advance t).modChan c fun ch => { ch with
        fe := { ch.fe with clamping := false, servoUntil := t + us 1 }, marks := endMark .clamp (t + ns 10) ch.marks }))
    ∧ (s.modeOf c = 2 → (s.chan c).fe.gate = none → (s.chan c).fe.lastGateEnd + ns 8 ≤ t →
      (s.advance t).windowOpening c = false
        → exec (.ambientGateOpen t c) s = .next ((s.advance t).modChan c fun ch => { ch with
        fe := { ch.fe with gate := some ⟨none, t + ns 4096⟩ } }))
    ∧ (∀ (i x integral current : Nat) (ovr : Bool), (s.chan c).fe.gate = some ⟨some i, x⟩ → x ≤ t →
      ((s.entry i).cal = true ∨ s.declared c = true →
        ∃ u, exec (.gateClose t c ⟨integral, current⟩ ovr) s = .next u ∧ (u.chan c).fe.gate = none
          ∧ (u.chan c).card.inbox = (s.chan c).card.inbox ∧ (∀ k, k ≠ c → u.chan k = s.chan k)
          ∧ u = { s with clock := u.clock, chans := u.chans, counters := u.counters })
      ∧ ((s.entry i).cal = false → s.declared c = false →
      let v := Store.read (0, 0, 0) (s.chan c).fe.inter 0
      ∃ u r, exec (.gateClose t c ⟨integral, current⟩ ovr) s = .next u ∧ (u.chan c).fe.gate = none
        ∧ (u.chan c).card.inbox = (s.chan c).card.inbox ++ [r] ∧ r.charge = true ∧ r.cls = 3
        ∧ r.amplitude = (correct integral v.1 v.2.1).toNat
        ∧ r.element = (s.entry i).element ∧ r.lt = (s.entry i).lt ∧ r.c = c ∧ r.tag = (s.chan c).fe.range
        ∧ u.counter Kind.returns c = (s.counter Kind.returns c + 1) % 2 ^ 32 ∧ (∀ k, k ≠ c → u.chan k = s.chan k)
        ∧ u = { s with clock := u.clock, chans := u.chans, counters := u.counters }))
    ∧ (∀ (x integral current : Nat) (ovr : Bool), (s.chan c).fe.gate = some ⟨none, x⟩ → x ≤ t →
      ∃ u, exec (.gateClose t c ⟨integral, current⟩ ovr) s = .next u ∧ (u.chan c).fe.gate = none
        ∧ (u.chan c).fe.fbGood = (if current < 2000 then (s.chan c).fe.fbGood + 1 else 0)
        ∧ (u.chan c).card.inbox = (s.chan c).card.inbox ∧ (∀ k, k ≠ c → u.chan k = s.chan k)
        ∧ u = { s with
            clock := u.clock, chans := u.chans, counters := u.counters, recs := u.recs, nvCtl := u.nvCtl, side := u.side })

/-- A range boundary of an auto-ranging waveform channel, automatic fallback off: a deviation of 204 or more, or an
over-range sample, takes it one range down, and leaves range 0; 43 or less, with no clamp event in the period and no
over-range sample above range 0, counts towards the way up, and at the count it goes one range up; no rescue switch has
been made since the last boundary. It falls 8 ns before a window or at a whole idle period (spec 05 R124-R126). -/
def Obligations.AutoRangingMovesOneRange : Prop :=
  ∀ (t : Tick) (c dev servo : Nat) (ovr : Bool) (s : State), s.now ≤ t → s.wf = true → s.modeOf c = 0 →
    s.autoRanging c = true → s.popt Par.autoFallback c = 0 → (s.chan c).fe.rescuedAt = none →
    (s.advance t).atBoundary c = true →
    ∃ u, exec (.rangeBoundary t c dev ovr servo) s = .next u ∧ (u.chan c).fe.lastBoundary = some t
      ∧ ((204 ≤ dev ∨ ovr = true) → 0 < (s.chan c).fe.range → (u.chan c).fe.range = (s.chan c).fe.range - 1)
      ∧ (dev ≤ 43 → (ovr = false ∨ (s.chan c).fe.range = 0) → (s.chan c).fe.clampInPeriod = false →
        (s.chan c).fe.range < 3 →
        (s.pnum Par.downCount c ≤ (s.chan c).fe.down + 1 → (u.chan c).fe.range = (s.chan c).fe.range + 1)
        ∧ ((s.chan c).fe.down + 1 < s.pnum Par.downCount c →
          (u.chan c).fe.range = (s.chan c).fe.range ∧ (u.chan c).fe.down = (s.chan c).fe.down + 1))
      ∧ (43 < dev → (dev < 204 ∧ ovr = false) ∨ (s.chan c).fe.range = 0 →
        (u.chan c).fe.range = (s.chan c).fe.range ∧ (u.chan c).fe.down = 0)
      ∧ (∀ k, k ≠ c → u.chan k = s.chan k)
      ∧ u = { s with
          clock := u.clock, chans := u.chans, counters := u.counters, recs := u.recs, nvCtl := u.nvCtl, side := u.side }

/-- The detector bias of a bank: a change settles at the eighth reading in succession within 0.1 % of the target, which
ends the marks of the change and of a bank bias fault; a force reading above 1.02 times the ceiling for 1.0 us, above 255 V,
or of 1.250 V at the ball, stops the gate, clears the enable and marks samples; force and sense
readings that differ by more than 5 V three times put the bank in force-only regulation with the mean of the 64 earlier
differences held, and it regulates anew to the same target (spec 05 R133, R136, R138, 22 R491). -/
def Obligations.BiasEventsTakeEffect : Prop :=
  ∀ (t : Tick) (b : Nat) (s : State), s.now ≤ t → s.wf = true →
    (∀ readings : List Nat, (s.bank b).bias.moving = true → readings.length = 8 → readings.all (s.biasNear b) = true →
      ∃ u, exec (.biasSettled t ⟨b, readings⟩) s = .next u
        ∧ (u.bank b).bias = { (s.bank b).bias with moving := false, settled := true }
        ∧ (u.bank b).marks = endMark .biasFault t (endMark .bias t (s.bank b).marks)
        ∧ (∀ k, k ≠ b → u.bank k = s.bank k) ∧ u = { s with clock := u.clock, banks := u.banks })
    ∧ (∀ (force : Nat) (since : Tick), (102 * s.pnum Par.ceiling b < 100 * force ∧ since + us 1 ≤ t) ∨ 25500 < force
        ∨ 125 * s.pnum Par.dividerRatios b ≤ 4096 * force →
      Store.wf none s.dist.params = true →
      ∃ u, exec (.biasFault t b ⟨force, since⟩) s = .next u ∧ (u.bank b).bias.gateOn = false
        ∧ (u.bank b).bias.faulted = true
        ∧ u.param Par.biasEnable b = ⟨0, 0⟩ ∧ (∀ k, k ≠ b → u.bank k = s.bank k)
        ∧ u = { s with
            clock := u.clock, banks := u.banks, dist := u.dist, recs := u.recs, nvCtl := u.nvCtl, side := u.side })
    ∧ (∀ (readings : List (Nat × Nat)) (earlier : List Int), (s.bank b).bias.senseOpen = false → readings.length = 3 →
      (∀ r ∈ readings, 500 < ((r.1 : Int) - r.2).natAbs) → earlier.length = 64 →
      ∃ u, exec (.senseLineOpen t b ⟨readings, earlier⟩) s = .next u ∧ (u.bank b).bias.forceOnly = true
        ∧ (u.bank b).bias.lead = quotOpen earlier.sum 64
        ∧ (u.bank b).bias.target = (s.bank b).bias.target ∧ (u.bank b).bias.moving = true
        ∧ (∀ k, k ≠ b → u.bank k = s.bank k)
        ∧ u = { s with clock := u.clock, banks := u.banks, recs := u.recs, nvCtl := u.nvCtl, side := u.side })

/-- Sub-blocks, the sample PLL and background tracking: the fifteenth failing sub-block in succession declares an open
input; the sample PLL's loss of lock and its return are taken; a tracking block moves an offset down one unit where its
stage's mean stands more than 1/16 LSB above the mean of all, up one unit where it stands as far below, and leaves the
stage's skew (spec 05 R141, R142, 06 R145, R147; that agreement means a lower offset for a higher mean is the model's
reading, DEDUCED, log 47). -/
def Obligations.ConverterEventsTakeEffect : Prop :=
  (∀ (t : Tick) (c samples invalid : Nat) (sums : List (Nat × Nat)) (s : State), s.wf = true → s.openInputRuns c = true →
    (s.advance t).subBlockEnds c = true →
    8 * invalid ≤ samples → s.rmsFails c sums = true → (s.chan c).fe.oiFails = 14 → (s.chan c).fe.oiOpen = false →
    ∃ u, exec (.openInputSubBlock t c sums samples invalid) s = .next u ∧ (u.chan c).fe.oiOpen = true
      ∧ (∀ k, k ≠ c → u.chan k = s.chan k)
      ∧ u = { s with clock := u.clock, chans := u.chans, recs := u.recs, nvCtl := u.nvCtl, side := u.side })
  ∧ (∀ (t : Tick) (s : State), s.now ≤ t → s.pllLocked = true →
    ∃ u, exec (.samplePllUnlock t) s = .next u ∧ u.pllLocked = false ∧ u.marks = addMark (some 0) .pll 3 t none s.marks
      ∧ u = { s with
          clock := u.clock, pllLocked := false, marks := u.marks, recs := u.recs, nvCtl := u.nvCtl, side := u.side })
  ∧ (∀ (t : Tick) (s : State), s.now ≤ t → s.pllLocked = false →
    ∃ u, exec (.samplePllRelock t) s = .next u ∧ u.pllLocked = true ∧ u.marks = endMark .pll (t + us 10) s.marks
      ∧ u = { s with
          clock := u.clock, pllLocked := true, marks := u.marks, recs := u.recs, nvCtl := u.nvCtl, side := u.side })
  ∧ ∀ (t : Tick) (c : Nat) (counts : List Nat) (means squares : List Int) (s : State), s.wf = true → s.tracks c = true →
    (s.advance t).blockDone c counts = true → means.length = 8 → squares.length = 8
      → Store.wf (0, 0, 0) (s.chan c).fe.inter = true →
    ∃ u, exec (.trackingBlockEnd t c ⟨counts, means⟩ squares) s = .next u ∧ (∀ k, k ≠ c → u.chan k = s.chan k)
      ∧ u = { s with clock := u.clock, chans := u.chans }
      ∧ ∀ k, k < 8 →
        let v := Store.read (0, 0, 0) (s.chan c).fe.inter k
        let w := Store.read (0, 0, 0) (u.chan c).fe.inter k
        w.2.2 = v.2.2
        ∧ (32768 < 8 * nth 0 means k - means.sum → -128 < v.1 → w.1 = v.1 - 1)
        ∧ (8 * nth 0 means k - means.sum < -32768 → v.1 < 127 → w.1 = v.1 + 1)
        ∧ ((8 * nth 0 means k - means.sum).natAbs ≤ 32768 → w.1 = v.1)

/-- The frequency reference and the scanner: REF_IN within 1,000 ppm of 100 MHz or 10 MHz is accepted once in BOOT, and
one far off keeps the device there with cause 6; a deviation above 500 ppm is a reference fault, which inhibits emission
and persists until REF_IN and the core PLL have been within limits for 10 ms; a crossing that does not come is missing,
its predicted instant stands in its place, and the fourth running loses the mirror (spec 02 R53, R55, R56, 16 R386). -/
def Obligations.ReferenceAndScannerEventsTakeEffect : Prop :=
  (∀ (t : Tick) (hz : Nat) (s : State), s.dev = .boot → s.boot.refSeen = false →
    ((99900000 ≤ hz ∧ hz ≤ 100100000) →
      exec (.refInMeasurement t hz) s = .next (((s.advance t).modBoot fun b => { b with refSeen := true }).modSpindle
        fun p => { p with refAccepted := true, ref10 := false }))
    ∧ ((9990000 ≤ hz ∧ hz ≤ 10010000) →
      exec (.refInMeasurement t hz) s = .next (((s.advance t).modBoot fun b => { b with refSeen := true }).modSpindle
        fun p => { p with refAccepted := true, ref10 := true }))
    ∧ ((hz < 9990000 ∨ (10010000 < hz ∧ hz < 99900000) ∨ 100100000 < hz) →
      ∃ u, exec (.refInMeasurement t hz) s = .next u ∧ u.boot.cause = 6 ∧ u.boot.failed = true ∧ u.dev = .boot
        ∧ u.spindle = s.spindle))
  ∧ (∀ (t : Tick) (d : Int) (s : State), s.spindle.refAccepted = true → s.whorl.faults.getLsbD 0 = false →
    500000 < d.natAbs → ∃ u, exec (.referenceFault t d) s = .next u ∧ u.whorl.inhibit.getLsbD 2 = true
      ∧ u.whorl.faults.getLsbD 0 = true
      ∧ u.inhibited = true ∧ u.latch = s.latch)
  ∧ (∀ (t : Tick) (d : Int) (s : State), s.whorl.refAt + us 10000 ≤ max s.now t → d.natAbs ≤ 500000 →
    ∃ u, exec (.referenceFaultClear ⟨t, d⟩) s = .next u ∧ u.whorl.faults.getLsbD 0 = false
      ∧ u.whorl.faults.getLsbD 1 = false ∧ u.latch = s.latch ∧ u.spindle = s.spindle)
  ∧ ∀ (t l : Tick) (n : Nat) (s : State), Store.wf {} s.spindle.scanners = true →
    let m := Store.read {} s.spindle.scanners n
    (m.state = 1 ∨ m.state = 2) → m.period ≠ 0 → m.last = some l → 5 * m.period ≤ 4 * (t - l) →
    ∃ u, exec (.scannerCrossingMissing t n) s = .next u
      ∧ Store.read {} u.spindle.scanners n = { m with
          run := 0, missing := m.missing + 1, last := some (l + m.period), state := if 4 ≤ m.missing + 1 then 3 else m.state }
      ∧ (∀ k, k ≠ n → Store.read {} u.spindle.scanners k = Store.read {} s.spindle.scanners k)

/-- The housekeeping converter: a timer event, whole periods after the last, and an HKTRIG pulse whose width in steps of 2
ns fits each give a delayed start, and a second one is refused and counted; a start that falls due begins a run at slot 0
under a new run number; a conversion that completes, 1.0 us after its start, leaves its entry at the end of the queue, and
a settling one is converted again; the settled reference and HKREF's voltage are taken (spec 06 R154, R156, R158, R159,
R163, R166). -/
def Obligations.HousekeepingConverts : Prop :=
  (∀ (t : Tick) (s : State), s.now ≤ t → s.hk.running = true → s.popt Par.hkTimer 0 ≠ 0 → (s.advance t).hkTimerDue = true →
    (s.hk.timerDue = none → exec (.hkTimerEvent t) s = .next ((s.advance t).modHk fun k => { k with
      timerFrom := t, timerPeriod := s.pnum Par.hkPeriod 0, timerDue := some (t + us (s.pnum Par.hkTimerDelay 0)) }))
    ∧ (s.hk.timerDue.isSome = true → exec (.hkTimerEvent t) s = .next ((s.advance t).modHk fun k => { k with
      timerFrom := t, timerPeriod := s.pnum Par.hkPeriod 0, overruns := (k.overruns + 1) % 2 ^ 32, overrun := true })))
  ∧ (∀ (t : Tick) (high : Bool) (w : Nat) (s : State), s.now ≤ t → s.hk.running = true → s.popt Par.hkPulse 0 ≠ 0 →
    (high = true ↔ s.popt Par.hkPolarity 0 = 0) → 10 * s.pnum Par.hkPulseMin 0 ≤ 2 * (w / 2) →
    2 * (w / 2) ≤ 10 * s.pnum Par.hkPulseMax 0 →
    (s.hk.pulseDue = none → exec (.hktrigPulse t high w) s = .next ((s.advance t).modHk fun k => { k with
      pulseDue := some (t + us (s.pnum Par.hkPulseDelay 0)) }))
    ∧ (s.hk.pulseDue.isSome = true → exec (.hktrigPulse t high w) s = .next ((s.advance t).modHk fun k => { k with
      overruns := (k.overruns + 1) % 2 ^ 32, overrun := true })))
  ∧ (∀ (t d : Tick) (s : State), d ≤ t → s.hk.run = none → s.hk.conv = none → s.hk.timerDue = some d →
    1 ≤ s.pnum Par.hkLength 0 →
    ∃ u, exec (.hkRunStart t false) s = .next u ∧ u.hk.timerDue = none ∧ u.hk.run = some 0
      ∧ u.hk.runNumber = (s.hk.runNumber + 1) % 2 ^ 32 ∧ u.hk.seq.length = s.pnum Par.hkLength 0
      ∧ (∀ i, i < s.pnum Par.hkLength 0 → u.hk.seq[i]? = some (s.paramAt Par.hkSlotInput i 0).num.toNat)
      ∧ (u.hk.conv.map fun c => (c.input, c.slot, c.source)) = some ((s.paramAt Par.hkSlotInput 0 0).num.toNat, 0, 0)
      ∧ u = { s with clock := u.clock, hk := u.hk })
  ∧ (∀ (t : Tick) (code i : Nat) (c : HkConv) (s : State), code < 65536 → s.hk.conv = some c → c.source = 0 →
    s.hk.run = some i → s.hk.queue.length < 256 → s.cal.run = none →
    c.startedAt + us 1 ≤ t →
    ∃ u, exec (.hkConversionDone t code none) s = .next u
      ∧ u.hk.queue = s.hk.queue ++ [(s.advance t).hkEntry c code ((s.advance t).hkValidity c.settling none)]
      ∧ (c.settling = true → u.hk.conv = some { c with settling := false, startedAt := max s.now t } ∧ u.hk.run = some i)
      ∧ (c.settling = false → u.hk.run = if c.slot + 1 < s.hk.seq.length then some (c.slot + 1) else none)
      ∧ u = { s with clock := u.clock, hk := u.hk, banks := u.banks })
  ∧ (∀ (t : Tick) (s : State), s.hk.running = true → s.hk.settleAt ≤ t →
    exec (.referenceSettled t) s = .next ((s.advance t).modHk fun k => { k with settled := true }))
  ∧ ∀ (t : Tick) (mv : Nat) (s : State),
    ∃ u, exec (.externalReferenceFault t mv) s = .next u ∧ u.hk.hkref = mv ∧ u = { s with clock := u.clock, hk := u.hk }
      ∧ (s.popt Par.hkReference 0 = 1 → (s.hk.hkref < 950 ∨ 3400 < s.hk.hkref) → 950 ≤ mv → mv ≤ 3400 →
        u.hk.settled = false ∧ u.hk.settleAt = max s.now t + us 200)

/-- The filter output's comparators: an armed comparator whose output rises to its level opens an event and is counted; the
fall below the level closes it, and where the comparator feeds Ply an event is stored; an event without a trailing
crossing after 1,024 outputs is closed (spec 07 R177, R182). -/
def Obligations.CrossingsOpenAndCloseEvents : Prop :=
  ∀ (t : Tick) (c k : Nat) (raw : List Nat) (s : State), s.wf = true → k < 2 → s.modeOf c = 0 →
    let a := s.advance t
    let ys := a.outs c a.now raw
    let only := fun (u : State) => (∀ j, j ≠ c → u.chan j = s.chan j)
      ∧ u = { s with clock := u.clock, chans := u.chans, banks := u.banks, counters := u.counters }
    (2 ≤ ys.length → (s.cmp c k).inEvent = false → a.cmpArmed c k ys = true →
      (nth {} ys 1).y < s.levelOf c k → (s.levelOf c k : Int) ≤ (nth {} ys 0).y →
      ∃ u, exec (.leadingCrossing t c k raw) s = .next u ∧ (u.cmp c k).inEvent = true ∧ (u.cmp c k).armed = false
        ∧ (u.cmp c k).above = true ∧ (u.cmp c k).level = s.levelOf c k ∧ (u.cmp c k).leadOut = (nth {} ys 0).at_
        ∧ u.counter (Kind.started0 + k) c = (s.counter (Kind.started0 + k) c + 1) % 2 ^ 32
        ∧ (u.chan c).events = (s.chan c).events ∧ only u)
    ∧ (2 ≤ ys.length → (s.cmp c k).inEvent = true → (s.cmp c k).above = true →
      (nth {} ys 0).y < (s.cmp c k).level → ((s.cmp c k).level : Int) ≤ (nth {} ys 1).y →
      ∃ u, exec (.trailingCrossing t c k raw) s = .next u ∧ (u.cmp c k).inEvent = false ∧ (u.cmp c k).above = false
        ∧ (s.popt Par.plySource c = k → (s.chan c).evBusy ≤ a.now →
          ∃ e, (u.chan c).events = (s.chan c).events ++ [e] ∧ e.cmp = k ∧ e.lead = (s.cmp c k).lead ∧ e.truncated = false)
        ∧ (s.popt Par.plySource c ≠ k → (u.chan c).events = (s.chan c).events) ∧ only u)
    ∧ ((s.cmp c k).inEvent = true → 1025 ≤ (ys.filter fun o => (s.cmp c k).leadOut < o.at_).length →
      ∃ u, exec (.eventTruncation t c k raw) s = .next u ∧ (u.cmp c k).inEvent = false
        ∧ (u.cmp c k).above = (s.cmp c k).above
        ∧ (s.popt Par.plySource c = k → (s.chan c).evBusy ≤ a.now →
          ∃ e, (u.chan c).events = (s.chan c).events ++ [e] ∧ e.cmp = k ∧ e.lead = (s.cmp c k).lead ∧ e.truncated = true)
        ∧ only u)

/-- Detector readings and TDC stamps: a detector window's end forms the reading and starts the next one; a comparator
crossing takes a stamp at the nearest TDC LSB, with its time over threshold held at 255, and one before the comparator has
fallen again is lost and counted; the first stamp leaves the front end 24 ns after its crossing, and not before its
trailing one; the interpolators exchange roles while no pulse is in progress, the one that has been linearised over 2^20
hits taking over with its new table (spec 07 R183, R185, 08 R191-R194). -/
def Obligations.ReadingsAndStampsAreTaken : Prop :=
  ∀ (t : Tick) (c : Nat) (s : State), s.now ≤ t → s.wf = true →
    (∀ raw z, s.modeOf c = 0 → (s.advance t).detectorEnd c = some z →
      ∃ u, exec (.detectorWindowEnd t c raw) s = .next u ∧ (u.chan c).reading = some ((s.advance t).readingOf c z raw).1
        ∧ (u.chan c).readsAt = z ∧ (u.chan c).readCut = none ∧ (∀ k, k ≠ c → u.chan k = s.chan k)
        ∧ u = { s with clock := u.clock, chans := u.chans })
    ∧ (∀ tot, s.modeOf c ≠ 2 → (s.chan c).fallsAt ≤ t → (s.chan c).lastLead = none → (s.chan c).stBusy ≤ t → s.runs = [] →
      ∃ u z, exec (.comparatorCrossing t c tot) s = .next u ∧ (u.chan c).forming = (s.chan c).forming ++ [z]
        ∧ z.lead = s.tdcInstant t ∧ z.tot = min tot 255 ∧ (u.chan c).lastLead = some t
        ∧ (∀ k, k ≠ c → u.chan k = s.chan k) ∧ u = { s with clock := u.clock, chans := u.chans })
    ∧ (∀ tot, s.modeOf c ≠ 2 → t < (s.chan c).fallsAt → s.runs = [] →
      exec (.comparatorCrossing t c tot) s = .next ((s.advance t).count Kind.deadTime c 1))
    ∧ (∀ z rest, (s.chan c).forming = z :: rest → z.lead + max (ns 24) (1024 * z.tot) ≤ t →
      ∃ u, exec (.stampHandoff t c) s = .next u ∧ (u.chan c).forming = rest ∧ (∀ k, k ≠ c → u.chan k = s.chan k)
        ∧ u = { s with
            clock := u.clock, chans := u.chans, counters := u.counters, recs := u.recs, nvCtl := u.nvCtl, side := u.side })
    ∧ (∀ hits : List Nat, (s.chan c).fallsAt ≤ t → (s.chan c).exchangedAt + us 900000 ≤ t → hits.length = 256 →
      hits.sum = 2 ^ 20 →
      exec (.interpolatorExchange t ⟨c, hits⟩) s = .next ((s.advance t).modChan c fun ch =>
        { ch with
          interpolator := !ch.interpolator, exchangedAt := t
          linear := Store.write [] ch.linear (!ch.interpolator).toNat (State.densityTable hits) }))

/-- Ply's decisions: at its decision instant a fired shot claims a pickoff stamp within its tolerance, or goes on without
one, marked missing; the oldest event is paired and leaves; a lone pulse of a one-pulse code whose deadline has come gives
the shot's return at its delay (spec 08 R198-R203, 09 R217-R223). -/
def Obligations.PlyDecides : Prop :=
  ∀ (t : Tick) (c : Nat) (s : State), s.now ≤ t → s.wf = true →
    (∀ i, (s.entry i).state = .fired → (s.entry i).pickDecided = false → s.pickDecideAt (s.entry i) ≤ t →
      (s.entry i).refCh = c →
      ((s.chan c).pickoffs = [] →
        ∃ u, exec (.pickoffDecision t i) s = .next u ∧ (u.entry i).pickDecided = true ∧ (u.entry i).pickMissing = true
          ∧ (u.entry i).fireOff = (s.entry i).fireOff ∧ (∀ k, k ≠ i → u.entry k = s.entry k)
          ∧ u = { s with clock := u.clock, skein := u.skein, chans := u.chans, counters := u.counters })
      ∧ (∀ z, (s.chan c).pickoffs = [z] → (s.advance t).pickMine c i (s.entry i) z = true →
        ∃ u, exec (.pickoffDecision t i) s = .next u ∧ (u.entry i).pickDecided = true ∧ (u.entry i).pickoff = true
          ∧ (u.entry i).fireOff = roundAway (z.1 - 16 * s.pickExpected (s.entry i)) 256
          ∧ (u.entry i).pickValidity = z.2 ∧ (u.chan c).pickoffs = [] ∧ (∀ k, k ≠ i → u.entry k = s.entry k)
          ∧ u = { s with clock := u.clock, skein := u.skein, chans := u.chans, counters := u.counters }))
    ∧ (∀ e rest, (s.chan c).events = e :: rest → (s.chan c).forming = [] →
      ∃ u, exec (.eventPairing t c) s = .next u ∧ (u.chan c).events = rest ∧ (∀ k, k ≠ c → u.chan k = s.chan k)
        ∧ u = { s with
            clock := u.clock, chans := u.chans, counters := u.counters, recs := u.recs, nvCtl := u.nvCtl, side := u.side })
    ∧ (∀ w p tof near atRes, (s.chan c).slots = [w] → w.pulses = [p] → w.offs = [0] → w.k = 1 → w.noHyp = false →
      w.decided = true → w.kept = [] → w.rest = [] → w.passed = 0 → 0 < w.maxReturns → (s.entry w.entry).cal = false →
      s.runs = [] → 12 * p.stop + (12 * (8192 * w.tol + 16 * s.allowance c) : Nat) ≤ (192 * t : Nat) →
      flightOf (12 * (p.stop - 16 * w.start)) 3072 = .flight tof near atRes →
      ∃ u r, exec (.clusterResolution t c) s = .next u ∧ (u.chan c).card.inbox = (s.chan c).card.inbox ++ [r]
        ∧ r.tof = tof ∧ r.near = near ∧ r.element = w.element ∧ r.c = c ∧ r.index = 0
        ∧ (u.chan c).slots.map (fun y => (y.pulses, y.passed)) = [([], 1)]
        ∧ u.counter Kind.returns c = (s.counter Kind.returns c + 1) % 2 ^ 32
        ∧ u = { s with clock := u.clock, chans := u.chans, counters := u.counters })

/-- Statistics runs and AUXF inputs: a pending start that nothing closes is given up and counted; a run whose timeout has
come ends; an edge is counted by the prescaler and by an open gate; a gate without two edges ends with no signal (spec 08
R208-R211). -/
def Obligations.RunsAndGatesEnd : Prop :=
  (∀ (t o : Tick) (i : Nat) (r : StatRun) (s : State), s.runs[i]? = some r → r.open_ = some o →
    o + 16 * (2 ^ 24 - 1) < t →
    ∃ u, exec (.intervalTimeout t i) s = .next u ∧ u.runs[i]? = some { r with open_ := none, overflows := r.overflows + 1 }
      ∧ (∀ k, k ≠ i → u.runs[k]? = s.runs[k]?) ∧ u = { s with clock := u.clock, runs := u.runs })
  ∧ (∀ (t : Tick) (i : Nat) (r : StatRun) (l : Live) (s : State), s.runs[i]? = some r → r.deadline ≤ t →
    s.liveOf r.handle = some l →
    ∃ u, exec (.statisticsTimeout t i) s = .next u ∧ u.runs = s.runs.filter (fun x => x.handle ≠ r.handle)
      ∧ u.liveOf r.handle = none ∧ u.dist.waiting.length = s.dist.waiting.length + 1
      ∧ u = { s with clock := u.clock, runs := u.runs, dist := u.dist })
  ∧ (∀ (t : Tick) (i : Nat) (s : State), s.now ≤ t → s.wf = true → s.runs = [] →
    (s.popt Par.prescaler i ≠ 0 → (s.aux i).prescale < 15 →
      exec (.auxfEdge t i) s = .next ((s.advance t).modAux i fun a => { a with prescale := a.prescale + 1 }))
    ∧ (∀ g, s.popt Par.prescaler i = 0 → s.popt Par.driftSource 0 ≠ i + 1 → (s.aux i).gate = some g →
      g.opens ≤ s.tdcInstant t → s.tdcInstant t < g.closes → (s.aux i).first = none →
      exec (.auxfEdge t i) s = .next ((s.advance t).modAux i fun a => { a with
        first := some (s.tdcInstant t), counted := 0, inGate := 1 }))
    ∧ (∀ g l, (s.aux i).gate = some g → g.closes ≠ 0 → g.closes ≤ t → (s.aux i).inGate < 2 → s.liveOf g.handle = some l →
      ∃ u, exec (.frequencyGateEnd t i) s = .next u ∧ (u.aux i).gate = none ∧ u.liveOf g.handle = none
        ∧ u.dist.waiting.length = s.dist.waiting.length + 1
        ∧ u = { s with clock := u.clock, auxf := u.auxf, dist := u.dist }))

/-- Bobbin: a shot in progress on one slot that nothing excludes is accumulated, and counted on it; a spill whose sums
have all been written clears the slot's bins; the second pass of a finished slot keeps its peaks; its block is offered
once its returns have left, and the slot is idle again (spec 09 R229-R234, 12 R280). -/
def Obligations.BobbinAccumulatesAndFinishes : Prop :=
  ∀ (t : Tick) (c k : Nat) (s : State), k < 2 → s.wf = true → Store.wf {} (s.chan c).bobs = true →
    (∀ i raw, (s.bob c k).inProgress = [(i, none)] → State.bobLong (s.bob c k) = false → (s.bob c k).spilled = false →
      (s.advance t).bobCause c k (((s.advance t).bobAlign (s.entry i)).1 + sample * (State.bobParams (s.bob c k)).offset)
        (codeOffsets (s.entry i).code) = none →
      ∃ u, exec (.bobbinShotComplete t c k i raw) s = .next u ∧ (u.bob c k).all.count = (s.bob c k).all.count + 1
        ∧ (u.bob c k).own.count = (s.bob c k).own.count + 1 ∧ (u.bob c k).inProgress = []
        ∧ (u.bob c k).state = (s.bob c k).state ∧ (∀ j, j ≠ c → u.chan j = s.chan j)
        ∧ u = { s with clock := u.clock, chans := u.chans })
    ∧ ((s.bob c k).spilling = true → s.requested (State.spillOf c k) = false →
      ∃ u, exec (.spillDone t c k) s = .next u ∧ (u.bob c k).bins = [] ∧ (u.bob c k).spilling = false
        ∧ (u.bob c k).own.count = 0 ∧ (u.bob c k).here = 0 ∧ (u.bob c (s.spillMaster c k)).spilled = true
        ∧ (∀ j, j ≠ c → u.chan j = s.chan j) ∧ ((s.bob c (s.spillMaster c k)).state ≠ .finishing → u.dram = s.dram)
        ∧ u = { s with clock := u.clock, chans := u.chans, dram := u.dram })
    ∧ ((s.bob c k).state = .finishing → (s.bob c k).passDone = false → (s.bob c k).inProgress = [] →
      (s.bob c k).spilling = false → State.bobLong (s.bob c k) = false → (State.bobParams (s.bob c k)).output = 0 →
      s.binsCame c k = true →
      ∃ u, exec (.secondPass t c k) s = .next u ∧ (u.bob c k).passDone = true
        ∧ (u.bob c k).peaks = State.bobPeaks (State.bobParams (s.bob c k)) (s.bobTally c k).count (s.bobTally c k).images
            ((List.range 2048).map fun b => (s.bobSum c k b : Int) - 16 * (s.bobTally c k).count)
        ∧ (u.chan c).card = (s.chan c).card ∧ (∀ j, j ≠ c → u.chan j = s.chan j)
        ∧ ((s.bob c k).spilled = false → u.dram = s.dram)
        ∧ u = { s with clock := u.clock, chans := u.chans, dram := u.dram })
    ∧ ((s.bob c k).passDone = true → (State.bobParams (s.bob c k)).output = 0 →
      (State.bobParams (s.bob c k)).continuous = false → ((s.chan c).card.inbox.any fun r => r.histogram) = false →
      s.binsCame c k = true → s.recs.room .class2 (s.blockLength c k) = true →
      ∃ u, exec (.histogramBlockSend t c k) s = .next u ∧ u.bob c k = {} ∧ (∀ j, j ≠ c → u.chan j = s.chan j)
        ∧ u = { s with clock := u.clock, chans := u.chans, recs := u.recs, dist := u.dist })

/-- Carding decides the return it received first, which is counted in the class that it took as it was received, and in no
other, and is dropped or offered; the end of an assessment period, where the coarse count is a multiple of 2^20, starts
every bank's and every channel's counts anew and takes one from the hop hold (spec 10 R246, R248, R250, R252, R253). -/
def Obligations.CardingDecidesAndAssesses : Prop :=
  (∀ (t : Tick) (c : Nat) (r : Ret) (rest : List Ret) (s : State), s.wf = true → c < 256 →
    (s.chan c).card.inbox = r :: rest → r.cls < 4 →
    ∃ u, exec (.cardingDecision t c) s = .next u ∧ (u.chan c).card.inbox = rest
      ∧ u.counter (Kind.class0 + r.cls) c = (s.counter (Kind.class0 + r.cls) c + 1) % 2 ^ 32
      ∧ (∀ k, k < 4 → k ≠ r.cls → u.counter (Kind.class0 + k) c = s.counter (Kind.class0 + k) c)
      ∧ (r.dropped = true → u.recs = s.recs) ∧ (∀ j, j ≠ c → u.chan j = s.chan j)
      ∧ u = { s with clock := u.clock, chans := u.chans, banks := u.banks, counters := u.counters, recs := u.recs })
  ∧ ∀ (t : Tick) (s : State), s.wf = true → (s.advance t).atPeriodEnd = true →
    ∃ u, exec (.assessmentPeriodEnd t) s = .next u ∧ u.clock.periodAt = max s.now t ∧ (s.hopHold ≠ 0
      → u.hopHold = s.hopHold - 1 ∧ u.hop = s.hop)
      ∧ (∀ b, b < 16 → (u.bank b).n = 0 ∧ (u.bank b).c1 = 0 ∧ (u.bank b).diffuse = 0 ∧ (u.bank b).cge1 = 0)
      ∧ (∀ c, (u.chan c).card.unmatched = 0 ∧ (u.chan c).card.openTime = 0)
      ∧ u.ports = s.ports ∧ u.skein = s.skein ∧ u.flyers = s.flyers ∧ u.dev = s.dev ∧ u.latch = s.latch

/-- Trigger units and groups: a quiet or a held timeout of an ungated unit gives its channel one trigger; the arm takes
effect at a word boundary, and the ring is filled after P / 8 words; a trigger that a waiting group sees, or its scheduled
one, is accepted at its own instant and the group enters POST; the last post-trigger word closes the capture, whose words
go to capture staging, and REARM begins; REARM ends in DONE after the last capture, else in the next ring
(spec 11 R255-R257, R263-R267). -/
def Obligations.GroupsCaptureOnTriggers : Prop :=
  ∀ (t : Tick) (s : State), s.now ≤ t → s.wf = true →
    (∀ c, s.modeOf c = 0 → s.popt Par.trigType c = 4 → s.sense c 1 = false → s.popt Par.windowGate c = 0 →
      s.popt Par.validGate c = 0 → ¬ ((s.cmp c (s.popt Par.trigCmp c)).inEvent = true
        ∧ max (s.cmp c (s.popt Par.trigCmp c)).lastTrail
        (s.chan c).trig.appliedAt ≤ (s.cmp c (s.popt Par.trigCmp c)).lead) → (s.chan c).trig.quietDone = false →
      max (s.cmp c (s.popt Par.trigCmp c)).lastTrail (s.chan c).trig.appliedAt + ns (8 * s.pnum Par.trigTimeout c) ≤ t →
      ∃ u, exec (.quietTimeout t c) s = .next u ∧ (u.chan c).trig.quietDone = true
        ∧ u.counter Kind.trig c = (s.counter Kind.trig c + 1) % 2 ^ 32 ∧ (∀ k, k ≠ c → u.chan k = s.chan k)
        ∧ (u.bank (c / 16)).fresh = (s.bank (c / 16)).fresh ++ [(c, max (s.cmp c (s.popt Par.trigCmp c)).lastTrail
            (s.chan c).trig.appliedAt + ns (8 * s.pnum Par.trigTimeout c))]
        ∧ u = { s with clock := u.clock, chans := u.chans, banks := u.banks, counters := u.counters })
    ∧ (∀ c, s.modeOf c = 0 → s.popt Par.trigType c = 4 → s.sense c 1 = true → s.popt Par.windowGate c = 0 →
      s.popt Par.validGate c = 0 → (s.cmp c (s.popt Par.trigCmp c)).above = true → (s.chan c).trig.heldDone = false →
      s.trigCurrent c (s.popt Par.trigCmp c) = true →
      (s.cmp c (s.popt Par.trigCmp c)).lead + ns (8 * s.pnum Par.trigTimeout c) ≤ t →
      ∃ u, exec (.heldTimeout t c) s = .next u ∧ (u.chan c).trig.heldDone = true
        ∧ u.counter Kind.trig c = (s.counter Kind.trig c + 1) % 2 ^ 32 ∧ (∀ k, k ≠ c → u.chan k = s.chan k)
        ∧ (u.bank (c / 16)).fresh = (s.bank (c / 16)).fresh
            ++ [(c, (s.cmp c (s.popt Par.trigCmp c)).lead + ns (8 * s.pnum Par.trigTimeout c))]
        ∧ u = { s with clock := u.clock, chans := u.chans, banks := u.banks, counters := u.counters })
    ∧ ∀ g,
      ((s.group g).armPending = true → (s.group g).closing = none → (s.advance t).atWord = true →
        ∃ u, exec (.armEffect t g) s = .next u ∧ (u.group g).armPending = false ∧ (u.group g).ringAt = t
          ∧ (u.group g).state = (if (State.groupParams (s.group g)).continuous then .continuous
            else if (State.groupParams (s.group g)).pre = 0 then .waiting else .filling)
          ∧ (∀ k, k ≠ g → u.group k = s.group k) ∧ u = { s with clock := u.clock, groups := u.groups })
      ∧ (∀ parts, let r := s.request (writesOf 2 (.capture g)
          (parts.flatMap fun p => p.2.mapIdx fun j v => (State.regionAddr (s.group g) (p.1 + j), v)))
        r.stagedBytes ≤ stagingSize → s.stageBytes g parts = r ∧ r = { s with dram := r.dram })
      ∧ (∀ words, (s.group g).state = .filling →
        (s.group g).ringAt + wordTime * ((State.groupParams (s.group g)).pre / 8) ≤ t →
        exec (.ringFilled t ⟨g, words⟩) s = .next (((s.advance t).layWords g words).modGroup g fun y => { y with
          state := .waiting }))
      ∧ (∀ words x src ch, let b := (s.advance t).layWords g words
        (b.group g).seen = [(x, src, ch)] → (b.group g).state = .waiting → (b.group g).closing = none →
        (b.group g).ringAt ≤ x → (∀ i, i < 16 → (b.bank i).fresh = []) → b.wf = true →
        ∃ u, exec (.triggerDecision t ⟨g, words⟩) s = .next u ∧ (u.group g).state = .post ∧ (u.group g).seen = []
          ∧ ((u.group g).trigger.map fun a => (a.instant, a.source, a.channel)) = some (x, src, ch)
          ∧ (∀ k, k ≠ g → u.group k = b.group k) ∧ (∀ i, u.bank i = b.bank i)
          ∧ u = { b with groups := u.groups, banks := u.banks })
      ∧ (∀ f l q, (State.groupParams (s.group g)).scheduled = some (f, l, q) → (s.group g).schedDone = false →
        (s.group g).state = .waiting → (s.group g).closing = none → s.spindle.hasTime = true →
        s.plannedInstant ⟨f, l, q⟩ ≤ t → (s.group g).ringAt ≤ s.plannedInstant ⟨f, l, q⟩ →
        ∃ u, exec (.scheduledTrigger t g) s = .next u ∧ (u.group g).state = .post ∧ (u.group g).schedDone = true
          ∧ ((u.group g).trigger.map fun a => (a.instant, a.source)) = some (s.plannedInstant ⟨f, l, q⟩, 2 ^ 17)
          ∧ (∀ k, k ≠ g → u.group k = s.group k) ∧ u = { s with clock := u.clock, groups := u.groups })
      ∧ (∀ a words, let b := (s.advance t).layWords g words
        (b.group g).state = .post → (b.group g).trigger = some a → (b.group g).closing = none → b.wf = true →
        (b.group g).ringAt + wordTime * ((a.instant - (b.group g).ringAt) / wordTime + (b.group g).postWords) ≤ t →
        ∃ u p, exec (.postTriggerEnd t g words) s = .next u ∧ (u.group g).state = .rearm ∧ (u.group g).trigger = none
          ∧ (u.group g).captures = ((b.storeHeads g p).group g).captures.filter (fun c => c.segment ≠ (b.group g).segment) ++ [p]
          ∧ p.trigger = a.instant ∧ p.source = a.source ∧ p.words = a.pre + (b.group g).postWords
          ∧ p.segment = (b.group g).segment ∧ (u.group g).made = ((b.storeHeads g p).group g).made + 1
          ∧ (∀ k, k ≠ g → u.group k = (b.storeHeads g p).group k) ∧ u = { b.storeHeads g p with groups := u.groups })
      ∧ ((s.group g).state = .rearm → (s.group g).closing = none → (s.advance t).atWord = true →
        ∃ u, exec (.rearmEnd t g) s = .next u
          ∧ ((State.groupParams (s.group g)).wrap = false → (State.groupParams (s.group g)).segments ≤ (s.group g).made →
            (u.group g).state = .done)
          ∧ (((State.groupParams (s.group g)).wrap = true ∨ (s.group g).made < (State.groupParams (s.group g)).segments) →
            (u.group g).ringAt = t
            ∧ (u.group g).state = (if (State.groupParams (s.group g)).pre = 0 then .waiting else .filling)
            ∧ (u.group g).segment = ((s.group g).segment + 1) % max 1 (State.groupParams (s.group g)).segments)
          ∧ (∀ k, k ≠ g → u.group k = s.group k) ∧ u = { s with clock := u.clock, groups := u.groups })

/-- A stopped group closes its segment at the word boundary and is STOPPED, its waiting ring kept as a capture (DEDUCED,
log 24); an overflow closes the writing group with the highest number, counts it and sets the flag; a block of a read
whose bursts have been read back and that finds room leaves, and the last one ends the read (spec 11 R270, R272, R275). -/
def Obligations.CapturesCloseAndAreRead : Prop :=
  ∀ (t : Tick) (g : Nat) (s : State), s.now ≤ t → s.wf = true →
    (∀ c words, let b := (s.advance t).layWords g words
      (s.group g).closing = some c → (s.advance t).wordAfter c.since ≤ t → (b.group g).state = .waiting → b.wf = true →
      ∃ u p, exec (.segmentClose t g words) s = .next u ∧ (u.group g).state = .stopped ∧ (u.group g).closing = none
        ∧ (u.group g).captures = ((b.storeHeads g p).group g).captures.filter (fun c => c.segment ≠ (b.group g).segment) ++ [p]
        ∧ p.trigger = c.since ∧ p.source = 0 ∧ (∀ k, k ≠ g → u.group k = (b.storeHeads g p).group k)
        ∧ u = { b.storeHeads g p with groups := u.groups, dist := u.dist })
    ∧ (∀ lost words, g < 16 → (s.group g).state.writes = true →
      (∀ k, g < k → k < 16 → (s.group k).state.writes = false) → s.captureGuarantee < s.armedLoad →
      let b := (((s.advance t).undoTrigger g false).uncountMisses g).layWords g words
      b.wf = true → (b.group g).state.writes = true →
      ∃ u p, exec (.captureOverflow t lost words) s = .next u ∧ (u.group g).state = .stopped
        ∧ u.counter Kind.overflow g = (s.counter Kind.overflow g + 1) % 2 ^ 32 ∧ u.side.flags.getLsbD 15 = true
        ∧ (∀ k, k ≠ g → u.group k = (b.storeHeads g p).group k)
        ∧ u = { b.storeHeads g p with
            groups := u.groups, dist := u.dist, counters := u.counters, recs := u.recs, nvCtl := u.nvCtl, side := u.side })
    ∧ (∀ j b rest, (s.group g).read = some j → j.blocks = b :: rest → s.recs.room .class2 (State.blockLen b) = true →
      (∀ n ∈ s.blockBursts (s.group g) b, ∃ x ∈ j.got, x.1 = n) →
      ∃ u, exec (.waveformBlockSend t g) s = .next u
        ∧ (u.group g).read = (if rest = [] then none else some { j with blocks := rest, got := [] })
        ∧ (∀ k, k ≠ g → u.group k = s.group k)
        ∧ u = { s with clock := u.clock, groups := u.groups, dram := u.dram, dist := u.dist, recs := u.recs })

/-- The DRAM controller: a refresh that nothing holds up closes the bank's row and makes good what was postponed, and one
that class 2 holds up may be postponed, up to eight, and is then forced; the doubled rate ends after 10 ms below the
limit; a row whose bank has had no request for 1.0 us is closed; a write burst stores the bytes of its mask and no others;
a channel of a retraining pass leaves service and returns to it with its new eyes (spec 12 R281, R284, R286, R288, R291).
-/
def Obligations.DramControllerWorks : Prop :=
  ∀ (t : Tick) (ch k : Nat) (s : State), s.now ≤ t → s.wf = true → Store.wf {} s.dram.chans = true →
    (s.refreshes ch = true → (s.dramBank (ch * 16 + k)).dueAt + s.refreshInterval ≤ t →
      (∀ x, (s.dramCh ch).refreshedAt = some x → x + s.refreshInterval / 16 ≤ t) →
      (∀ postpone, s.capturesWait ch = false →
        exec (.refresh t ch k postpone) s = .next (((s.advance t).modDramBank (ch * 16 + k) fun b => { b with
          row := none, dueAt := t, busyUntil := t + ns (90 * (b.postponed + 1))
          refreshes := (b.refreshes + (b.postponed + 1)) % 2 ^ 32, postponed := 0 }).modDramCh ch fun d => { d with
            refreshedAt := some t }))
      ∧ (s.capturesWait ch = true → (s.dramBank (ch * 16 + k)).postponed < 8 →
        exec (.refresh t ch k true) s = .next ((s.advance t).modDramBank (ch * 16 + k) fun b => { b with
          postponed := b.postponed + 1, dueAt := t }))
      ∧ (s.capturesWait ch = true → (s.dramBank (ch * 16 + k)).postponed < 8 →
        exec (.refresh t ch k false) s = .next (((s.advance t).modDramBank (ch * 16 + k) fun b => { b with
          row := none, dueAt := t, busyUntil := t + ns 90, refreshes := (b.refreshes + 1) % 2 ^ 32 }).modDramCh ch
            fun d => { d with refreshedAt := some t }))
      ∧ (∀ postpone, s.capturesWait ch = true → 8 ≤ (s.dramBank (ch * 16 + k)).postponed →
        exec (.refresh t ch k postpone) s = .next ((((s.advance t).modDramBank (ch * 16 + k) fun b => { b with
          row := none, dueAt := t, busyUntil := t + ns 90, refreshes := (b.refreshes + 1) % 2 ^ 32 }).modDramCh ch
            fun d => { d with refreshedAt := some t }).modDramCh ch fun d => { d with forced := (d.forced + 1) % 2 ^ 32 })))
    ∧ (∀ r a, r.write = true → Memory.read (State.burstEffect r s).dramMem a =
      if a / 64 = r.burst ∧ r.mask.getLsbD (a % 64) = true then nth 0 r.data (a % 64) else Memory.read s.dramMem a)
    ∧ (s.dram.doubled = true → s.blindThermal = false → (∀ c, s.dram.coolSince = some c → c + us 10000 ≤ t) →
      s.dram.coolSince.isSome = true →
      exec (.refreshRateReturn t) s = .next ((s.advance t).modDram fun d => { d with doubled := false }))
    ∧ ((s.dramBank (ch * 16 + k)).queue = [] → (s.dramBank (ch * 16 + k)).lastAt + us 1 ≤ t →
      exec (.rowIdleClose t ch k) s = .next ((s.advance t).modDramBank (ch * 16 + k) fun b => { b with row := none }))
    ∧ (∀ p, s.dram.pass = some p → (∀ i, i < 16 → (s.dramCh i).training = false) →
      (∀ r, p.returnedAt = some r → r + us 100 ≤ t) → (0 < p.next → s.capturesWait (p.next - 1) = false) →
      s.nextTrain p = some ch → (p.handle = none → s.blindThermal = false) →
      exec (.retrainChannelStart t) s = .next ((s.advance t).modDramCh ch fun d => { d with training := true }))
    ∧ (∀ p eyes, s.dram.pass = some p → ch < 15 → (s.dramCh ch).training = true → (∀ i, i < ch
      → (s.dramCh i).training = false) →
      (s.dramCh ch).mapped = none → p.startUp = [] → (p.handle = none → s.blindThermal = false) → s.dramAbsent = false →
      (s.dramCh (ch + 1)).mapped = none → failingLane eyes = none →
      ∃ u, exec (.retrainChannelEnd t eyes) s = .next u ∧ (u.dramCh ch).training = false ∧ (u.dramCh ch).lanes = eyes
        ∧ (u.dramCh ch).mapped = none ∧ (u.dramCh ch).trainings = ((s.dramCh ch).trainings + 1) % 2 ^ 32
        ∧ u.dram.pass = some { p with next := ch + 1, returnedAt := some t } ∧ (∀ i, i ≠ ch → u.dramCh i = s.dramCh i)
        ∧ u = { s with clock := u.clock, dram := u.dram })

/-- Runs of losses: a run that has not grown for 10 us closes, the fourth of a source excepted; the run that closed first
becomes a loss record as soon as the loss-only part has room, and sets the loss flag (spec 13 R317). -/
def Obligations.LossRunsBecomeRecords : Prop :=
  (∀ (t : Tick) (src : Nat) (s : State), s.recs.heldOpen src = false →
    exec (.lossRunTimeout t src) s = .next ((s.advance t).modRecs fun r => r.closeRuns fun x =>
      x.src = src && decide (x.lastAt + us 10 ≤ max s.now t)))
  ∧ ∀ (t : Tick) (x : LossRun) (s : State), s.recs.runs.find? (fun y => y.closed) = some x →
    s.recs.room .losses 32 = true →
    ∃ u r, exec (.lossRecordQueue t) s = .next u ∧ u.recs.runs = s.recs.runs.erase x ∧ u.recs.q0 = s.recs.q0 ++ [r]
      ∧ r.src = Src.loss ∧ r.seq = s.recs.seqOf Src.loss ∧ r.bytes.length = 32 ∧ u.recs.q1 = s.recs.q1
      ∧ u.recs.q2 = s.recs.q2 ∧ u.side.flags.getLsbD 16 = true
      ∧ u = { s with clock := u.clock, recs := u.recs, side := u.side }

/-- The stages of BOOT: a PLL's lock is noted, and the core PLL's first starts device time; a store that has been read
leads to the fast or the slow path, and one that cannot serve ends the attempt with cause 1; the DRAM's training, the boot
tests, the image's reading and its checks lead each to the stage that follows, and the last of them to SAFE once the
shutdown records are copied and erased (spec 02 R58, 12 R290, 17 R403, 18 R435, R440, 21 R478). -/
def Obligations.BootStagesFollow : Prop :=
  ∀ (t : Tick) (s : State), s.now ≤ t → s.dev = .boot → s.boot.failed = false → s.spindle.refAccepted = true →
    (s.boot.plls.getLsbD 0 = false → s.clock.lockedAt = none →
      exec (.pllLock t 0) s = .next (((s.advance t).modBoot fun b => { b with plls := b.plls ||| 1 }).modClock fun c =>
        { c with lockedAt := some t, epoch := false }))
    ∧ exec (.pllLock t 3) s = .next ((s.advance t).modPllLocked fun _ => true)
    ∧ (s.boot.stage = 2 →
      ∃ u, exec (.nvStoreReadDone t) s = .next u ∧ u.dev = .boot
        ∧ (if Config.fusesGood && ((s.advance t).resolveObjects.nvData 0).isSome
            && ((s.advance t).resolveObjects.nvData 1).isSome
          then u.boot.stage = (if u.boot.slow then 3 else 4) ∧ u.boot.failed = false
          else u.boot.cause = 1 ∧ u.boot.failed = true))
    ∧ (∀ eyes, s.boot.stage = 4 → s.boot.plls.getLsbD 1 = true → s.boot.source ≤ 2 → Store.wf {} s.dram.chans = true →
      ∃ u, exec (.dramTrainingDone t eyes) s = .next u ∧ u.dev = .boot ∧ u.boot.trained = true
        ∧ u.boot.stage = (if s.boot.source = 2 then 6 else if s.boot.image ≠ [] then 7 else 5)
        ∧ ∀ i, i < 16 → (u.dramCh i).lanes = nth [] eyes i)
    ∧ (∀ image, s.boot.stage = 5 → s.boot.source ≤ 1 → image ≠ [] →
      ∃ u, exec (.imageReadDone t image) s = .next u ∧ u.boot = { s.boot with
          image := (s.slotBytes s.boot.slotB).getD image, stage := 7, stageAt := t }
        ∧ u.slotBytes s.boot.slotB = some u.boot.image ∧ u.slotBytes (!s.boot.slotB) = s.slotBytes (!s.boot.slotB)
        ∧ u = { s with clock := u.clock, boot := u.boot, dist := u.dist })
    ∧ (s.boot.stage = 7 → s.boot.slow = true → s.boot.dramTested = false →
      ∃ u, exec (.imageVerifyDone t) s = .next u ∧ u.dev = .boot
        ∧ u.boot.stage = (if (s.imageError s.boot.image).isNone then 8 else if 1 < s.boot.source then 6
          else if s.boot.triedOther then 7 else 5)
        ∧ u.boot.passed = (s.boot.passed || (s.imageError s.boot.image).isNone))
    ∧ (s.boot.stage = 7 → s.boot.slow = false → s.faultStands = false → s.reserveClear = true →
      ∃ u, exec (.imageVerifyDone t) s = .next u
        ∧ u.dev = (if (s.imageError s.boot.image).isNone then .safe else .boot))
    ∧ (∀ r, s.boot.stage = 3 → s.boot.slow = true →
      ∃ u, exec (.bootTestDone t false r) s = .next u ∧ u.dev = .boot
        ∧ (r.failingRows = 0 → u.boot.stage = 4 ∧ u.boot.bootTest = 0)
        ∧ (r.failingRows ≠ 0 → u.boot.failed = true ∧ u.boot.cause = 5))
    ∧ (∀ r, s.boot.stage = 8 → s.boot.slow = true → s.boot.dramTested = false → s.boot.trained = true →
      s.faultStands = false → s.reserveClear = true →
      ∃ u, exec (.bootTestDone t true r) s = .next u ∧ u.dev = .safe)
    ∧ (s.boot.stage = 6 → s.boot.loaded = false → s.boot.stageAt + us 60000000 ≤ t →
      ∃ u, exec (.hostLoadTimeout t) s = .next u ∧ u.dev = .boot ∧ u.boot.failed = true ∧ u.boot.cause = 8)
    ∧ (s.boot.stage = 6 → s.side.loadLen ≤ imageLimit →
      exec (.loadDone t) s = .next ((s.advance t).modBoot fun b =>
        { b with image := s.loadWindow, stage := 7, failed := false, loaded := true }))

/-- Bring-up of the link: DOWN lasts 100 ms and ends in receiver detect; detect leads to training at the highest usable
rate; the last lane's lock, held for 1.0 ms and shown by the peer, ends training with the width that the
lanes allow, and so does the stage's time; an alignment column within 96 ns of skew ends deskew; the last CAP block makes
the link ACTIVE; a TRAIN block tells the peer's rates and its lock on the lane; a test that has run its time leads back to
detect (spec 14 R321, R322, R334-R336, R340, R343). -/
def Obligations.LinkBringUpFollows : Prop :=
  ∀ (t : Tick) (s : State), s.now ≤ t →
    (s.link.state = .down → s.link.since + us 100000 ≤ t → s.powered = true → s.boot.plls.getLsbD 2 = true →
      s.dev ≠ .selfTest →
      ∃ u, exec (.downTimeout t) s = .next u ∧ u.link.state = .detect ∧ u.link.detected = 0 ∧ u.dev = s.dev
        ∧ u = { s with clock := u.clock, link := u.link, recs := u.recs, nvCtl := u.nvCtl, side := u.side })
    ∧ (∀ lanes r, s.link.state = .detect → s.link.since + us 100 ≤ t → lanes ≠ 0 → s.rateBelow 3 = some r →
      ∃ u, exec (.receiverDetectDone t lanes) s = .next u ∧ u.link.state = .train ∧ u.link.detected = lanes
        ∧ u.link.lanes = lanes ∧ u.link.rate = r ∧ u.link.locked = 0
        ∧ u = { s with clock := u.clock, link := u.link, recs := u.recs, nvCtl := u.nvCtl, side := u.side })
    ∧ (∀ lane w f, s.link.state = .train → s.link.stage = .train → lane < 8 → s.link.lanes.getLsbD lane = true →
      s.link.peerLocked.getLsbD lane = true → s.link.rxLocked.getLsbD lane = true →
      nth 0 s.link.lockAt lane + us 1000 ≤ t
        → (s.link.locked ||| BitVec.ofNat 8 (2 ^ lane)) &&& s.link.lanes = s.link.lanes
        → pickGroup s.link.lanes = some (w, f) →
      ∃ u, exec (.laneLock t lane) s = .next u ∧ u.link.state = .deskew ∧ u.link.width = w ∧ u.link.first = f
        ∧ u.link.rate = s.link.rate
        ∧ u = { s with clock := u.clock, link := u.link, recs := u.recs, nvCtl := u.nvCtl, side := u.side })
    ∧ (∀ w f, s.link.state = .train → s.link.stage = .train → s.link.since + us 8000 ≤ t →
      pickGroup (s.link.locked &&& s.link.lanes) = some (w, f) →
      ∃ u, exec (.bringUpStageTimeout t) s = .next u ∧ u.link.state = .deskew ∧ u.link.width = w ∧ u.link.first = f
        ∧ u = { s with clock := u.clock, link := u.link, recs := u.recs, nvCtl := u.nvCtl, side := u.side })
    ∧ (∀ skew count, s.link.state = .deskew → s.link.stage = .deskew → skew ≤ 96000 →
      ∃ u, exec (.alignColumn t skew count) s = .next u ∧ u.link.state = .exchange ∧ u.link.aligned = true
        ∧ u.link.alignCount = count % 65536 ∧ u.link.rxAccepted = 0
        ∧ u = { s with clock := u.clock, link := u.link, recs := u.recs, nvCtl := u.nvCtl, side := u.side })
    ∧ (∀ (i : Nat) (v : BitVec 48), s.link.state = .exchange → s.link.stage = .exchange → i < 16 → i ≠ 0 → i ≠ 3 →
      s.link.capMask ||| BitVec.ofNat 16 (2 ^ i) = 0xFFFF → s.link.retrain = none → s.link.tested = none →
      ∃ u, exec (.capBlock t i v) s = .next u ∧ u.link.state = .active ∧ u.link.sent = [0, 0, 0]
        ∧ u.link.rxAccepted = s.link.rxAccepted ∧ u.link.rate = s.link.rate ∧ u.link.width = s.link.width ∧ u.dev = s.dev
        ∧ u.ports = s.ports ∧ u.skein = s.skein ∧ u.whorl = s.whorl ∧ u.latch = s.latch)
    ∧ (∀ lane locked rates, s.link.state = .train → s.link.stage = .train → lane < 8 → s.link.lanes.getLsbD lane = true →
      ∃ u, exec (.trainBlock t lane locked rates) s = .next u ∧ u.link.peerRates = rates
        ∧ u.link.peerLocked.getLsbD lane = locked ∧ u.link.rxLocked.getLsbD lane = true
        ∧ (∀ i, i < 8 → i ≠ lane → u.link.peerLocked.getLsbD i = s.link.peerLocked.getLsbD i)
        ∧ u = { s with clock := u.clock, link := u.link })
    ∧ (∀ results h e x, s.link.test = some (h, some e, x) → e ≤ t → s.link.state = .test →
      ∃ u, exec (.linkTestEnd t results) s = .next u ∧ u.link.state = .detect ∧ u.link.test = none ∧ u.dev = s.dev
        ∧ u.ports = s.ports ∧ u.skein = s.skein ∧ u.whorl = s.whorl ∧ u.latch = s.latch)

/-- The link in ACTIVE: a LINK block's credits are taken, and its acknowledgement frees the frames up to its number; a
class-3 frame in order is accepted with its entries, and one out of order asks for a replay; with nothing to resend a
class-0 record goes out first, in the next number's frame; columns and LINK blocks are sent and counted; a NAK is repeated
after 10 us (spec 14 R322, R324-R332). -/
def Obligations.LinkExchangesFrames : Prop :=
  ∀ (t : Tick) (s : State), s.now ≤ t → s.link.state = .active →
    (∀ ack c1 c2 c3, ∃ u, exec (.linkBlock t ack false c1 c2 c3) s = .next u
      ∧ u.link.credits = [c1 % 4096, c2 % 4096, c3 % 4096]
      ∧ u.link.unacked = s.link.unacked.filter (fun f => decide (0 < serial12 f.seq (ack % 4096)))
      ∧ u.link.state = .active ∧ u = { s with clock := u.clock, link := u.link, dist := u.dist })
    ∧ (∀ f : FrameIn, f.good = true → f.seq = s.link.rxSeq → f.cls = 3 → 0 < serial12 s.link.rxGranted s.link.rxAccepted →
      (∀ a ∈ s.dist.intake, a.at_ ≠ t ∨ a.hdr.path = .link) →
      let all := s.dist.intake ++ (f.take s.link.entry).1.map fun e => ⟨e.1, e.2, t⟩
      (∀ a, all.head? = some a → opKnown a.op a.hdr.path = true) →
      ∃ u, exec (.frameReceived t f) s = .next u ∧ u.link.rxSeq = (s.link.rxSeq + 1) % 4096
        ∧ u.link.rxAccepted = (s.link.rxAccepted + 1) % 4096 ∧ u.link.needAck = true
        ∧ u.dist.intake = all ∧ u.link.entry = (f.take s.link.entry).2
        ∧ u.dist.frames = s.dist.frames ++ [(f.take s.link.entry).1.length]
          ∧ u = { s with clock := u.clock, link := u.link, dist := u.dist })
    ∧ (∀ f : FrameIn, f.seq ≠ s.link.rxSeq → s.link.nakAt = none →
      ∃ u, exec (.frameReceived t f) s = .next u ∧ u.link.nakAt = some t ∧ u.link.rxSeq = s.link.rxSeq
        ∧ (u.link.links.getLast?.map fun x => (x.1, x.2.1)) = some (s.link.rxSeq, true)
        ∧ u = { s with clock := u.clock, link := u.link })
    ∧ (∀ x rest, s.link.replay = [] → s.recs.q0 = x :: rest → x.src ≠ Src.loss → x.bytes.length ≤ 512 →
      s.replayUsed + 528 ≤ 524288 →
      ∃ u f, exec (.frameSend t) s = .next u ∧ u.link.txSeq = (s.link.txSeq + 1) % 4096
        ∧ u.link.unacked = s.link.unacked ++ [f] ∧ f.cls = 0 ∧ f.seq = s.link.txSeq ∧ f.at_ = t
        ∧ u.link.out.getLast? = some f ∧ u.recs.q1 = s.recs.q1 ∧ u.recs.q2 = s.recs.q2 ∧ u.recs.q3 = s.recs.q3
        ∧ u.recs.q0.length < s.recs.q0.length
        ∧ u = { s with clock := u.clock, link := u.link, recs := u.recs, trust := u.trust })
    ∧ (s.streams = true → (∀ a, s.link.alignAt = some a → a + alignPeriod s.link.rate ≤ t) →
      ∃ u, exec (.alignColumnSend t) s = .next u ∧ u.link.alignSent = (s.link.alignSent + 1) % 65536
        ∧ u.link.alignAt = some t ∧ u.link.wire = ((s.advance t).putColumn s.alignBlock).link.wire
        ∧ u = { s with clock := u.clock, link := u.link })
    ∧ (s.streams = true → ∃ u, exec (.idleColumnSend t) s = .next u ∧ u.link.idleSent = (s.link.idleSent + 1) % 2 ^ 32
        ∧ u.link.wire = ((s.advance t).putColumn fun _ => controlBlock 0x1E 0).link.wire
        ∧ u = { s with clock := u.clock, link := u.link })
    ∧ (∃ u, exec (.linkBlockSend t) s = .next u ∧ u.link.linkSent = (s.link.linkSent + 1) % 2 ^ 32 ∧ u.link.needAck = false
        ∧ (u.link.links.getLast?.map fun x => (x.1, x.2.1)) = some ((s.link.rxSeq + 4095) % 4096, false)
        ∧ u = { s with clock := u.clock, link := u.link })
    ∧ (∀ a, s.link.nakAt = some a → a + us 10 ≤ t →
      ∃ u, exec (.nakRepeat t) s = .next u ∧ u.link.nakAt = some t
        ∧ (u.link.links.getLast?.map fun x => (x.1, x.2.1)) = some (s.link.rxSeq, true)
        ∧ u = { s with clock := u.clock, link := u.link })
    ∧ (∀ delete, exec (.idleColumn t delete) s = .next ((s.advance t).modLink fun l =>
        if delete then { l with idleDeleted := (l.idleDeleted + 1) % 2 ^ 32 }
        else { l with idleRepeated := (l.idleRepeated + 1) % 2 ^ 32 }))

/-- RECOVERY: the loss of a lane of the present group, 16 invalid sync headers within 64 blocks, or a frame that waits 100
us for its acknowledgement, takes an ACTIVE link to RECOVERY at its rate, with every unacknowledged frame kept; 30 ms of
it take the link DOWN; 1 ms after ACTIVE the records of classes 1 and 2 that no frame holds and no run must keep are lost
(spec 14 R329, R339, R342). -/
def Obligations.LinkRecoversOrGoesDown : Prop :=
  ∀ (t : Tick) (s : State), s.now ≤ t →
    (∀ lane invalid, s.link.state = .active → lane < 8 → (groupMask s.link.width s.link.first).getLsbD lane = true →
      16 ≤ invalid → ∃ u, exec (.laneLoss t ⟨lane, invalid⟩) s = .next u ∧ u.link.state = .recovery ∧ u.link.stage = .train
        ∧ u.link.rate = s.link.rate ∧ u.link.unacked = s.link.unacked ∧ u.link.recoverAt = t
        ∧ u = { s with clock := u.clock, link := u.link, recs := u.recs, nvCtl := u.nvCtl, side := u.side })
    ∧ (∀ f rest, s.link.state = .active → s.link.unacked = f :: rest → f.at_ + us 100 ≤ t →
      ∃ u, exec (.replayTimeout t) s = .next u ∧ u.link.state = .recovery ∧ u.link.unacked = s.link.unacked
        ∧ u = { s with clock := u.clock, link := u.link, recs := u.recs, nvCtl := u.nvCtl, side := u.side })
    ∧ (s.link.state = .recovery → s.link.recoverAt + us 30000 ≤ t → s.link.retrain = none →
      ∃ u, exec (.recoveryTimeout t) s = .next u ∧ u.link.state = .down
        ∧ u = { s with clock := u.clock, link := u.link, recs := u.recs, nvCtl := u.nvCtl, side := u.side })
    ∧ (∀ a src, s.link.state ≠ .active → s.link.discarded = false → s.link.leftAt = some a → a + us 1000 ≤ t →
      s.trust.prep = [] → s.recs.runs = [] → s.recs.q2 = [] → (∀ x ∈ s.recs.q1, x.sent = 0 ∧ x.src = src) →
      s.recs.q1.length ≤ 3 →
      ∃ u, exec (.recoveryDiscard t) s = .next u ∧ u.link.discarded = true ∧ u.recs.q1 = [] ∧ u.recs.q2 = []
        ∧ u.recs.q0 = s.recs.q0 ∧ (u.recs.runs.map fun x => x.count).sum = s.recs.q1.length
        ∧ u = { s with clock := u.clock, link := u.link, recs := u.recs })

/-- Distaff: the watchdog's expiry, its period after the last restart of its counter at the earliest, and an
uncorrectable memory error
put it down with their causes, inhibit emission, stop every Flyer, abort every live command and bring the device out of
READY, ARMED, RANGING and CALIBRATING to SAFE; the load figure is kept; what waits on the link is delivered in order where
there is room; a reload's image that verifies brings Distaff up again, and a verification marks its slot (spec 15 R345,
R356, R361-R364, 16 R388). -/
def Obligations.DistaffGoesDownAndUp : Prop :=
  ∀ (t : Tick) (s : State), s.now ≤ t → s.wf = true →
    (s.dist.up = true → s.dev ∈ [.safe, .ready, .armed, .ranging, .calibrating] →
      (s.dist.restartAt + us (4000 * s.pnum Par.watchdog 0) ≤ t → ∃ u, exec (.watchdogExpiry t) s = .next u
        ∧ u.dist.up = false ∧ u.dist.downCause = 0 ∧ u.dev = .safe
        ∧ u.whorl.inhibit.getLsbD 1 = true ∧ u.inhibited = true ∧ (∀ l ∈ u.dist.live, l.completed = true)
        ∧ (∀ b, b < 16 → (u.flyer b).state = .stopped) ∧ u.latch = s.latch)
      ∧ (∃ u, exec (.distaffMemoryError t) s = .next u ∧ u.dist.up = false ∧ u.dist.downCause = 1 ∧ u.dev = .safe
        ∧ u.whorl.inhibit.getLsbD 1 = true ∧ u.inhibited = true ∧ (∀ l ∈ u.dist.live, l.completed = true)
        ∧ (∀ b, b < 16 → (u.flyer b).state = .stopped) ∧ u.latch = s.latch))
    ∧ (∀ share restarted corrected, s.dist.up = true → s.dist.loadAt + ns (2 ^ 20) ≤ t →
      ∃ u, exec (.loadUpdate t ⟨share, restarted⟩ corrected) s = .next u ∧ u.dist.load = min 200 share
        ∧ u.dist.restartAt = max s.dist.restartAt (min t (restarted.getD s.dist.restartAt))
        ∧ u.dist.corrected = (s.dist.corrected + corrected) % 2 ^ 32
        ∧ u = { s with clock := u.clock, dist := u.dist, recs := u.recs, nvCtl := u.nvCtl, side := u.side })
    ∧ (∀ r rest, s.dist.waiting = r :: rest → r.path = .link → s.linkRoom r = true →
      exec (.responseDelivery t) s = .next (((s.advance t).modDist fun d => { d with waiting := rest }).modRecs fun q =>
        { q with q3 := q.q3 ++ [⟨r.handle, 0, none, r.bytes, 0⟩] }))
    ∧ (∀ image h l other act, s.dist.reload = some (h, other, act) → s.dist.up = false → s.boot.source ≤ 1 →
      s.liveOf h = some l →
      ∃ u, exec (.fwReloadDone t image) s = .next u ∧ u.dist.reload = none ∧ u.liveOf h = none
        ∧ u.dist.up = (s.imageError (s.slotAnswer (s.bootSlotB != other) image)).isNone ∧ u.dev = s.dev ∧ u.latch = s.latch)
    ∧ (∀ h l, s.dist.verifying = some h → s.liveOf h = some l →
      ∃ u, exec (.fwVerifyDone t) s = .next u ∧ u.dist.verifying = none ∧ u.liveOf h = none
        ∧ (∀ b, s.slotBytes s.otherSlot = some b → u.dist.verified = (s.imageError b).isNone)
        ∧ u.slotBytes s.otherSlot = s.slotBytes s.otherSlot ∧ u = { s with clock := u.clock, dist := u.dist })

/-- The side port: a doorbell makes its slot busy and takes its entry in, and one before SAFE only raises the flag; a
consumer index takes entries out of the ring; written ones clear flags but those set in the same cycle; LOG_SELECT starts
a load, and a selected page stands in the window when it is done; a write frame writes the word it names and no other
byte; a read leaves the word it gives, and one of a group's lowest offset latches the group (spec 21 R471, R472, R474,
R475, R481, R483, R484). -/
def Obligations.SidePortTakesEffect : Prop :=
  ∀ (t : Tick) (s : State), s.now ≤ t →
    (∀ k, k < 16 → s.powered = true → s.side.busy.getLsbD k = false → s.dev.fromSafe = true → s.dev ≠ .selfTest →
      exec (.cmdDoorbell t k) s = .next ((((s.advance t).modSide fun p => { p with
        busy := p.busy ||| BitVec.ofNat 16 (2 ^ k) }).modDist fun d => { d with
          intake := d.intake ++ [⟨(s.slotHeader k).1, (s.slotHeader k).2, t⟩] }).answerFronts))
    ∧ (∀ a rest, s.dist.intake = a :: rest → s.dev ≠ .selfTest →
      (opKnown a.op a.hdr.path = true → s.answerFronts = s)
      ∧ (opKnown a.op a.hdr.path = false →
        s.answerFront = s.takeIntake.ackWith a.hdr (if structureGood a.hdr then .unknown else .malformed) 0))
    ∧ (∀ k, s.powered = true → s.dev.fromSafe = false → exec (.cmdDoorbell t k) s = .next ((s.advance t).setFlag 21))
    ∧ (∀ i, i < 512 → s.powered = true → s.side.ring = [] → (i + 512 - s.side.consumer) % 512 ≤ s.ringUsed →
      ∃ u, exec (.rspConsumer t i) s = .next u ∧ u.side.consumer = i ∧ u.side.producer = s.side.producer
        ∧ u = { s with clock := u.clock, side := u.side })
    ∧ (∀ v, exec (.flagsWrite t v) s = .next ((s.advance t).modSide fun p => { p with
        flags := p.flags &&& (~~~ v.setWidth 23 ||| if p.flagsAt = t then p.flagsNew else 0) }))
    ∧ (∀ v, s.dev ≠ .off → exec (.logSelect t v) s = .next ((s.advance t).modSide fun p => { p with
        logSelect := v, logFrom := p.logSource, logBusy := true, logValid := false, logAbsent := false }))
    ∧ (s.side.logBusy = true →
      ∃ u, exec (.logWindowLoaded t) s = .next u ∧ u.side.logBusy = false
        ∧ (u.side.logValid = true → u.side.logAbsent = false) ∧ u = { s with clock := u.clock, side := u.side })
    ∧ (∀ a b0 b1 b2 b3, Memory.wf s.side.mem = true → s.dev.fromSafe = true → 0x10000 ≤ a → a < 0x20000 → a % 4 = 0 →
      ∃ u, exec (.registerWrite t 0x02 a [b0, b1, b2, b3]) s = .next u ∧ u.side.frameError = false
        ∧ Memory.load u.side.mem a 4 = [b0, b1, b2, b3]
        ∧ (∀ d, (d < a ∨ a + 4 ≤ d) → Memory.read u.side.mem d = Memory.read s.side.mem d)
        ∧ u.side.miso = le 1 (s.advance t).statusByte ∧ u.side.flags = s.side.flags
        ∧ u = { s with clock := u.clock, side := u.side })
    ∧ (∀ a, s.dev ≠ .off → a ∈ [0x404, 0x408, 0x40C, 0x410] →
      exec (.snapshotRead t a) s = .next ((s.advance t).modSide fun p => { p with
        readData := if s.powered then nth 0 p.snapshot ((a - 0x400) / 4) else 0 }))
    ∧ (s.dev ≠ .off → exec (.snapshotRead t 0x704) s = .next ((s.advance t).modSide fun p => { p with
        readData := nth 0 p.logSnapshot 1 }))
    ∧ (∀ a, s.dev ≠ .off → a ∉ [0x400, 0x404, 0x408, 0x40C, 0x410, 0x700, 0x704] →
      exec (.snapshotRead t a) s = .next ((s.advance t).modSide fun p => { p with
        readData := BitVec.ofNat 32 (((s.advance t).regWord a).getD 0) }))
    ∧ (s.dev ≠ .off → ∃ u, exec (.snapshotRead t 0x400) s = .next u
      ∧ u.side.snapshot = (s.advance t).groupWords State.spindleGroup
      ∧ u.side.readData = BitVec.ofNat 32 (((s.advance t).regWord 0x400).getD 0)
      ∧ u = { s with clock := u.clock, side := u.side })
    ∧ (s.dev ≠ .off → ∃ u, exec (.snapshotRead t 0x700) s = .next u
      ∧ u.side.logSnapshot = (s.advance t).groupWords State.logGroup
      ∧ u.side.readData = BitVec.ofNat 32 (((s.advance t).regWord 0x700).getD 0)
      ∧ u = { s with clock := u.clock, side := u.side })

/-- Whorl's conditions: an arm loop that answers an edge of its output within 40 ns is closing where it was open; one
that answers with no change
of level, with one later than 40 ns or with more than one is open, which counts, inhibits emission with
every gate closed, cancels every committed and passed shot, and takes the device from ARMED, RANGING or CALIBRATING to
READY; where it is in none of these, nothing else changes. A core PLL that loses lock inhibits emission with a FAULT
cause; an account-store error is counted where it was corrected, and else inhibits; the oscillator's deviation is kept
(spec 16 R382, R383, R386, R391, R392). -/
def Obligations.WhorlConditionsStopEmission : Prop :=
  (∀ (t d : Tick) (s : State), s.dev ≠ .off → d ≤ ns 40 →
     exec (.armLoopOpen ⟨t, [d]⟩) s = .next ((s.advance t).modWhorl fun w => { w with loop := if w.loop = 0 then 1 else w.loop }))
  ∧ (∀ (t : Tick) (changes : List Tick) (s : State), s.now ≤ t → s.wf = true → s.dev ≠ .off →
     (∀ d, changes = [d] → ns 40 < d) → ∃ u, exec (.armLoopOpen ⟨t, changes⟩) s = .next u ∧ u.whorl.loop = 0
       ∧ u.whorl.lastOpen = t
       ∧ u.whorl.opens = (s.whorl.opens + 1) % 2 ^ 32 ∧ u.whorl.inhibit = s.whorl.inhibit ||| 1 ∧ u.latch = s.latch
       ∧ (∀ i, (u.entry i).waiting = false) ∧ (s.inhibited = false → ∀ n, n < 8 → (u.port n).gate = false)
       ∧ (s.dev ∈ [DevState.armed, .ranging, .calibrating] → u.dev = .ready)
       ∧ (s.dev ∉ [DevState.armed, .ranging, .calibrating] → (s.advance t).devFor 4 = s.dev → u = { s with
           clock := u.clock, whorl := u.whorl, skein := u.skein, ports := u.ports, flyers := u.flyers, spindle := u.spindle
           counters := u.counters, recs := u.recs, nvCtl := u.nvCtl, side := u.side }))
  ∧ (∀ (t : Tick) (s : State), s.now ≤ t → s.wf = true →
     (s.boot.plls.getLsbD 0 = true →
       ∃ u, exec (.corePllUnlock t) s = .next u ∧ u.boot = { s.boot with plls := s.boot.plls &&& 6 }
         ∧ u.whorl.inhibit = s.whorl.inhibit ||| 8 ∧ u.whorl.faults = s.whorl.faults ||| 2
           ∧ (∀ i, (u.entry i).waiting = false)
         ∧ (s.dev ∈ [DevState.safe, .ready, .armed, .ranging, .calibrating] → u.dev = .fault) ∧ u.latch = s.latch)
     ∧ (∀ n, s.dev ≠ .off → Store.wf 0 s.whorl.accountCorrected = true →
       ∃ u, exec (.accountStoreError t n true) s = .next u ∧ u.whorl.inhibit = s.whorl.inhibit
         ∧ Store.read 0 u.whorl.accountCorrected n = Store.read 0 s.whorl.accountCorrected n + 1
         ∧ u = { s with clock := u.clock, whorl := u.whorl, recs := u.recs, nvCtl := u.nvCtl, side := u.side })
     ∧ (∀ n, n < 8 → s.dev ≠ .off →
       ∃ u, exec (.accountStoreError t n false) s = .next u ∧ u.whorl.inhibit = s.whorl.inhibit ||| 64
         ∧ u.whorl.faults = s.whorl.faults ∧ (∀ i, (u.entry i).waiting = false)
         ∧ (s.dev ∈ [DevState.safe, .ready, .armed, .ranging, .calibrating] → u.dev = .fault) ∧ u.latch = s.latch)
     ∧ (∀ ppm : Int, ∃ u, exec (.whorlOscillatorDeviation t ppm) s = .next u
         ∧ u.whorl = { s.whorl with deviation := max (-32768) (min 32767 ppm) }
         ∧ u = { s with clock := u.clock, whorl := u.whorl, recs := u.recs, nvCtl := u.nvCtl, side := u.side }))

/-- Closing the loop again arms nothing: the state of the device, the latch and the shots stay, only the loop's inhibit cause
goes; and until the loop is closed, ARM fails with 0x0020 (spec 16 R384). -/
def Obligations.ClosingTheLoopArmsNothing : Prop :=
  ∀ (t : Tick) (s : State), s.now ≤ t →
    (s.whorl.loop ≠ 2 → s.whorl.lastOpen + us 10000 ≤ t → s.dev ≠ .off →
      ∃ u, exec (.armLoopClosed t) s = .next u ∧ u.whorl.loop = 2 ∧ u.whorl.inhibit = s.whorl.inhibit &&& 0x1FE
        ∧ u.whorl.firstClosed = true ∧ u.whorl.opens = s.whorl.opens ∧ u.dev = s.dev
        ∧ u = { s with clock := u.clock, whorl := u.whorl, ports := u.ports, recs := u.recs, nvCtl := u.nvCtl, side := u.side })
    ∧ (s.whorl.loop ≠ 2 → t < s.whorl.lastOpen + us 10000 → exec (.armLoopClosed t) s = .next (s.advance t))
    ∧ (∀ h, s.takes 0x0F04 h = true → s.whorl.loop ≠ 2 →
      ∃ u a l, exec (.arm t h) s = .next u ∧ l.tag = h.tag ∧ l.opcode = 0x0F04 ∧ l.path = h.path
        ∧ l.at_ = (s.dist.intake.head?.map fun x => x.at_).getD t
        ∧ u.dist.waiting = s.dist.waiting ++ [a, ⟨h.path, l.handle, false, (s.advance t).completionBytes l 1 0x0020 0 none []⟩]
        ∧ a.ack = true ∧ a.path = h.path ∧ u = { s with clock := u.clock, dist := u.dist })

/-- The three causes of the emission-inhibit latch: a lockstep mismatch, a fire symbol that matches no passed shot, and a
Whorl clock fault, no edge or more than 2 % from 200 MHz, while the core PLL is locked set a clear latch with their cause,
hold every port OFF, and take the device to FAULT from any state between SAFE and CALIBRATING (spec 16 R370, R371, R373,
R374, R386). -/
def Obligations.LatchIsSetByItsThreeCauses : Prop :=
  ∀ (t : Tick) (s : State), s.now ≤ t → s.wf = true → s.latch.set = false → s.dev ≠ .off →
    let latched := fun (cause port : Nat) (u : State) => u.latch = ⟨true, cause, port⟩
      ∧ (∀ n, n < 8 → (u.port n).state = .off ∧ (u.port n).gate = false) ∧ (∀ i, (u.entry i).waiting = false)
      ∧ u.whorl.inhibit = s.whorl.inhibit ∧ u.nv = s.nv ∧ u.power = s.power
      ∧ (s.dev ∈ [DevState.safe, .ready, .armed, .ranging, .calibrating] → u.dev = .fault)
      ∧ (s.dev ∉ [DevState.safe, .ready, .armed, .ranging, .calibrating] → (s.advance t).devFor 2 = s.dev → u.dev = s.dev)
    (∃ u, exec (.lockstepMismatch t) s = .next u ∧ latched 0 0xFF u)
    ∧ (∀ n payload, n < 8 → (s.advance t).symbolPassed n payload = false →
      ∃ u, exec (.unpassedFireSymbol t n payload) s = .next u ∧ latched 1 n u)
    ∧ (∀ ppm : Option Int, s.boot.plls.getLsbD 0 = true → (∀ d, ppm = some d → 20000 < d.natAbs) →
      ∃ u, exec (.whorlClockFault ⟨t, ppm⟩) s = .next u ∧ latched 2 0xFF u)

/-- VAUX33 gives the device its island: from OFF it enters STANDBY at 3.00 V and stays OFF below; below 2.80 V it returns
to OFF from any state with the latch clear, and from 2.80 V on POWER_LOSS does nothing; the non-volatile store stays in
both (spec 18 R417, 16 R374). -/
def Obligations.StandbyAndOffFollowTheAuxiliarySupply : Prop :=
  ∀ (t : Tick) (mv : Nat) (s : State), s.now ≤ t →
    (s.dev = .off → 3000 ≤ mv →
      ∃ u, exec (.powerOn t mv) s = .next u ∧ u.dev = .standby ∧ u.power.vaux = mv ∧ u.power.powerGood = false
        ∧ u.whorl.inhibit = 1 ∧ u.whorl.loop = 0 ∧ u.latch.set = false ∧ u.nv = s.nv ∧ u.pending = s.pending ∧ u.dark = true)
    ∧ (s.dev = .off → mv < 3000 → exec (.powerOn t mv) s = .next (s.advance t))
    ∧ (mv < 2800 → ∃ u, exec (.powerLoss t mv) s = .next u ∧ u.dev = .off ∧ u.latch.set = false ∧ u.nv = s.nv
        ∧ u.pending = s.pending ∧ u.dark = true)
    ∧ (2800 ≤ mv → exec (.powerLoss t mv) s = .next (s.advance t))

/-- From STANDBY to power-good and back: an accepted request enters BOOT with the first rail enabled, by the pin, by the
side port or by the device itself, which makes no fourth request in 10 s; a rail that is good enables the next one 1 ms
later, and the last one is power-good, with which the link goes to DETECT where its PLL is locked; a rail that is not good
in 5 ms ends the attempt; rails go off from the last to the first, and after the first the device is in STANDBY (spec 18
R416, R418-R420, R422, 21 R476, 14 R334). -/
def Obligations.PowerSequenceFollows : Prop :=
  ∀ (t : Tick) (s : State), s.now ≤ t → Store.wf {} s.power.rails = true →
    let booted := fun (u : State) => u.dev = .boot ∧ u.boot.stage = 1 ∧ (u.rail 0).enabled = true ∧ (u.rail 0).enabledAt = t
      ∧ (∀ k, k ≠ 0 → u.rail k = s.rail k)
      ∧ u = { s with clock := u.clock, dev := u.dev, boot := u.boot, power := u.power, side := u.side
                     whorl := { s.whorl with accountCorrected := [] } }
    let recent := s.power.autoAt.filter fun x => t < x + us 10000000
    (∀ b, s.dev = .standby → 3100 ≤ s.power.vaux → (∀ x, s.power.temp = some x → x < 400) →
      (∃ u, exec (.powerUpRequest t b) s = .next u ∧ booted u ∧ (s.side.override = false → u.boot.source = b % 4))
      ∧ (∃ u, exec (.pwrReq t b) s = .next u ∧ booted u)
      ∧ (∀ d, s.power.autoDue = some d → d ≤ t → recent.length < 3 → ∃ u, exec (.autoPowerUp t b) s = .next u ∧ booted u
          ∧ u.power.autoAt = recent ++ [t] ∧ u.power.autoDue = none))
    ∧ (∀ b d, s.power.autoDue = some d → d ≤ t → 3 ≤ recent.length →
      exec (.autoPowerUp t b) s = .next ((s.advance t).modPower fun p => { p with autoDue := none, autoAt := recent }))
    ∧ (∀ b, s.dev = .standby → (s.power.vaux < 3100 ∨ ∃ x, s.power.temp = some x ∧ 400 ≤ x) →
      exec (.powerUpRequest t b) s = .next ((s.advance t).modBoot fun y => { y with refused := (y.refused + 1) % 65536 }))
    ∧ (∀ k, k < 6 → (s.rail k).enabled = true → (s.rail k).good = false → (s.rail k).outside = false →
      (s.rail k).sag = false → max (s.rail k).enabledAt (s.rail k).backAt + us 100 ≤ t →
      (s.boot.stage ≠ 1 → exec (.railGood t k) s = .next ((s.advance t).modRail k fun r => { r with good := true }))
      ∧ (s.boot.stage = 1 → s.power.shut = none → s.power.disabling = none →
        ∃ u, exec (.railGood t k) s = .next u ∧ (u.rail k).good = true
          ∧ (k < 5 → u.boot = s.boot ∧ ((s.rail (k + 1)).enabled = false → (u.rail (k + 1)).enabled = true
              ∧ (u.rail (k + 1)).enabledAt = t + us 1000) ∧ ((s.rail (k + 1)).enabled = true
                → u.rail (k + 1) = s.rail (k + 1)))
          ∧ (k = 5 → u.power.powerGood = true ∧ u.boot.stage = 2 ∧ u.boot.stageAt = t)
          ∧ u.side = { s.side with irqFlag := s.side.irqFlag && decide (k ≠ 5) }
          ∧ (k = 5 → s.boot.plls.getLsbD 2 = true → s.link.state = .down → u.link.state = .detect)
          ∧ (k < 5 ∨ s.boot.plls.getLsbD 2 = false ∨ s.link.state ≠ .down →
            u = { s with clock := u.clock, power := u.power, boot := u.boot, side := u.side })))
    ∧ (∀ k mv, s.boot.stage = 1 → (s.rail k).enabled = true → (s.rail k).good = false →
      (s.rail k).enabledAt + us 5000 ≤ t →
      ∃ u, exec (.railSequenceFailure t k mv) s = .next u ∧ u.power.seqFail = k + 1 ∧ u.power.disabling = some 0
        ∧ u.power.disableAt = t ∧ u.boot.stage = 0 ∧ u.boot.failed = true ∧ u.boot.cause = s.boot.cause
        ∧ u = { s with clock := u.clock, power := u.power, boot := u.boot, recs := u.recs, nvCtl := u.nvCtl, side := u.side })
    ∧ (∀ c k j rest, s.power.disabling = some c → s.power.disableAt ≤ t → s.power.powerGood = false →
      ((List.range 6).filter fun i => (s.rail i).enabled && decide ((s.rail i).enabledAt ≤ t)).reverse = k :: j :: rest →
      ∃ u, exec (.railDisable t) s = .next u ∧ u.rail k = {} ∧ (∀ i, i ≠ k → u.rail i = s.rail i)
        ∧ u.power.disableAt = t + us 10 ∧ u = { s with clock := u.clock, power := u.power })
    ∧ (∀ c k, s.power.disabling = some c → s.power.disableAt ≤ t → s.power.powerGood = false →
      (List.range 6).filter (fun i => (s.rail i).enabled && decide ((s.rail i).enabledAt ≤ t)) = [k] →
      ∃ u, exec (.railDisable t) s = .next u ∧ u.dev = .standby ∧ u.power.rails = [] ∧ u.power.disabling = none
        ∧ u.latch = s.latch ∧ u.nv = s.nv ∧ u.pending = s.pending ∧ u.skein = [] ∧ u.dark = true)

/-- The rails are watched: the first sag inhibits emission and cancels what is committed or passed, its end, 10 us at 10
mV above the threshold, clears the cause unless FAULT holds it, and 1 ms of it is a FAULT cause that lasts until 10 ms
without one; a rail below its reset threshold shuts the device down; a rail that leaves its window is no longer good, and
its return takes 100 us more to make it so, while in the sequence the next enable waits anew; the write threshold admits
page writes or leaves only the one that has started (spec 18 R416, R419, R421-R424). -/
def Obligations.RailsAreWatched : Prop :=
  ∀ (t : Tick) (k mv : Nat) (s : State), s.now ≤ t → s.wf = true → Store.wf {} s.power.rails = true → k < 6 →
    (s.powered = true → railStops k mv = true → (s.rail k).sag = false →
      ∃ u, exec (.supplySag t k mv) s = .next u ∧ (u.rail k).sag = true ∧ (u.rail k).sagAt = t
        ∧ (u.rail k).good = false ∧ u.whorl.inhibit = s.whorl.inhibit ||| 16 ∧ (∀ i, (u.entry i).waiting = false)
          ∧ u.dev = s.dev ∧ u.latch = s.latch
        ∧ (∀ j, j ≠ k → u.rail j = s.rail j))
    ∧ (∀ reading, s.power.rails.filter (fun x => x.2.sag) = [(k, s.rail k)] → (s.rail k).sagAt + us 10 ≤ t →
      (railLimits k).2.2.1 + 100 ≤ 10 * reading → ∃ u, exec (.sagEnd t k ⟨mv, reading⟩) s = .next u ∧ u.anySag = false
        ∧ u.power.lastSagEnd = t ∧ u.dev = s.dev
        ∧ u.whorl.inhibit = (if s.whorl.faults.getLsbD 2 = false ∨ s.dev ≠ .fault then s.whorl.inhibit &&& 0x1EF
            else s.whorl.inhibit)
        ∧ u.skein = s.skein ∧ u.latch = s.latch)
    ∧ ((s.rail k).sag = true → (s.rail k).sagAt + us 1000 ≤ t → s.whorl.faults.getLsbD 2 = false →
      ∃ u, exec (.sagFault t) s = .next u ∧ u.whorl.faults = s.whorl.faults ||| 4
        ∧ (s.dev ∈ [DevState.safe, .ready, .armed, .ranging, .calibrating] → u.dev = .fault)
        ∧ (s.dev ∉ [DevState.safe, .ready, .armed, .ranging, .calibrating] → (s.advance t).devFor 2 = s.dev → u.dev = s.dev)
        ∧ u.latch = s.latch)
    ∧ (s.anySag = false → s.power.lastSagEnd + us 10000 ≤ t →
      exec (.sagFaultClear t) s = .next ((s.advance t).modWhorl fun w => { w with faults := w.faults &&& 0x3B }))
    ∧ (s.powered = true → railResets k mv = true → s.dev ≠ .off → s.dev ≠ .standby → s.power.shut = none →
      ∃ u, exec (.resetShutdown t k mv) s = .next u ∧ (u.power.shut.map fun x => (x.1, x.2.2)) = some (1, false)
        ∧ u.power.disableAt = t + us 2 ∧ u.whorl.inhibit = s.whorl.inhibit ||| 16 ∧ (∀ i, (u.entry i).waiting = false)
        ∧ (∀ n, n < 8 → (u.port n).state = .off) ∧ (∀ b, b < 16 → (u.bias b).gateOn = false)
        ∧ u.nvCtl.jobs = s.nvCtl.jobs.take (if s.pageStarted then 1 else 0) ∧ u.boot.test = none
          ∧ u.power.tshut = s.power.tshut ∧ u.dev = s.dev
        ∧ u.latch = s.latch ∧ u.nv = s.nv)
    ∧ (s.powered = true → (s.rail k).enabled = true → railGood k mv = false → railStops k mv = false →
      (s.rail k).outside = false →
      ∃ u, exec (.railWindowExit t k mv) s = .next u ∧ (u.rail k).outside = true ∧ (u.rail k).good = false
        ∧ (∀ j, j ≠ k → u.rail j = s.rail j)
        ∧ u = { s with clock := u.clock, power := u.power, recs := u.recs, nvCtl := u.nvCtl, side := u.side })
    ∧ (s.powered = true → (s.rail k).enabled = true → railGood k mv = true → (s.rail k).outside = true →
      ∃ u, exec (.railWindowExit t k mv) s = .next u ∧ u.rail k = { s.rail k with outside := false, backAt := t }
        ∧ (∀ j, j ≠ k → u.rail j = s.rail j)
        ∧ u = { s with clock := u.clock, power := u.power, recs := u.recs, nvCtl := u.nvCtl, side := u.side })
    ∧ (s.powered = false → s.boot.stage = 1 → (s.rail k).enabled = true → railGood k mv = false →
      ∃ u, exec (.railWindowExit t k mv) s = .next u ∧ (u.rail k).outside = true ∧ (u.rail k).good = false
        ∧ (t < (s.rail (k + 1)).enabledAt → u.rail (k + 1) = {}) ∧ ((s.rail (k + 1)).enabledAt ≤ t
          → u.rail (k + 1) = s.rail (k + 1))
        ∧ (∀ j, j ≠ k → j ≠ k + 1 → u.rail j = s.rail j) ∧ u = { s with clock := u.clock, power := u.power })
    ∧ (s.dev ≠ .off → mv < 3050 → s.power.nvAllowed = true →
      ∃ u, exec (.nvWriteThreshold t mv) s = .next u ∧ u.power.nvAllowed = false ∧ u.power.vaux = mv ∧ u.dev = s.dev
        ∧ u.nvCtl.jobs = s.nvCtl.jobs.take (if s.pageStarted then 1 else 0)
        ∧ u.nv = s.nv)
    ∧ (s.dev ≠ .off → 3100 ≤ mv → s.power.nvAllowed = false →
      ∃ u, exec (.nvWriteThreshold t mv) s = .next u ∧ u.power.nvAllowed = true ∧ u.power.vaux = mv ∧ u.dev = s.dev
        ∧ u.nv = s.nv)

/-- The diode, read every 50 us: the fourth consecutive ignored reading declares it broken, and no earlier one does; while
it is broken, the last of 2,000 consecutive readings, each in range and within 1.0 C of the one before it, restores it and
becomes the accepted reading, and no earlier one does; an accepted reading of an unbroken diode ends the run of ignored
ones (spec 18 R425, R426). -/
def Obligations.DiodeBreaksAndIsRestored : Prop :=
  ∀ (t : Tick) (v : Int) (patterns : List (Nat × Nat)) (s : State), s.now ≤ t → s.dev ≠ .off
    → (∀ x, s.power.readAt = some x → x + us 50 ≤ t) →
    (s.power.broken = false → (s.advance t).readingGood v = false →
      ∃ u, exec (.diodeReading t v patterns) s = .next u ∧ u.power.ignoredRun = s.power.ignoredRun + 1
        ∧ u.power.broken = decide (4 ≤ s.power.ignoredRun + 1) ∧ u.power.temp = s.power.temp
        ∧ u.power.ignored = (s.power.ignored + 1) % 2 ^ 32)
    ∧ (s.power.broken = false → (s.advance t).readingGood v = true →
      ∃ u, exec (.diodeReading t v patterns) s = .next u ∧ u.power.ignoredRun = 0 ∧ u.power.broken = false
        ∧ u.power.temp = some v
        ∧ u.power.tempAt = t)
    ∧ (∀ r, s.power.broken = true → -240 ≤ v → v ≤ 720 → s.power.lastRaw = some r → (v - r).natAbs ≤ 4 →
      ∃ u, exec (.diodeReading t v patterns) s = .next u
        ∧ (s.power.goodRun + 1 < 2000 → u.power.broken = true ∧ u.power.goodRun = s.power.goodRun + 1
            ∧ u.power.temp = s.power.temp)
        ∧ (2000 ≤ s.power.goodRun + 1 → u.power.broken = false ∧ u.power.temp = some v ∧ u.power.tempAt = t))
    ∧ (∀ r, s.power.broken = true → s.power.lastRaw = some r → 4 < (v - r).natAbs ∨ v < -240 ∨ 720 < v →
      ∃ u, exec (.diodeReading t v patterns) s = .next u ∧ u.power.broken = true ∧ u.power.goodRun = 0
        ∧ u.power.temp = s.power.temp)

/-- The thermal level and the proxy: an accepted reading moves the level as Table 18-3 has it; throttle ends after 10 ms
at or below 110.0 C of the temperature that the level follows, for warn above 105.0 C and else for normal, and stays where
there is none; a proxy's end takes it away; the shutdown record, 12 us after the decision or after the page write in
progress, where page writes are allowed, takes a reserve page and only that, and the rails go off after it (spec 18
R427-R430, R435). -/
def Obligations.TemperatureIsActedOn : Prop :=
  ∀ (t : Tick) (s : State), s.now ≤ t →
    (∀ v patterns, s.dev ≠ .off → (∀ x, s.power.readAt = some x → x + us 50 ≤ t) → s.power.broken = false →
      (s.advance t).readingGood v = true → v < 500 →
      ∃ u, exec (.diodeReading t v patterns) s = .next u ∧ u.dev = s.dev ∧ u.latch = s.latch
        ∧ (s.power.level < 2 → 460 ≤ v → u.power.level = 2) ∧ (s.power.level < 2 → 440 ≤ v → v < 460 → u.power.level = 1)
        ∧ (s.power.level = 1 → 420 < v → v < 440 → u.power.level = 1)
        ∧ (s.power.level < 2 → v ≤ 420 → u.power.level = 0) ∧ (s.power.level = 0 → v < 440 → u.power.level = 0)
        ∧ (s.power.level = 2 → u.power.level = 2))
    ∧ (s.levelTemp = none → exec (.throttleExit t) s = .next (s.advance t))
    ∧ (∀ v, s.power.level = 2 → s.power.hotAt + us 10000 ≤ t → s.levelTemp = some v → v ≤ 440 →
      ∃ u, exec (.throttleExit t) s = .next u ∧ u.power.level = (if 420 < v then 1 else 0) ∧ u.power.temp = s.power.temp
        ∧ u.dev = s.dev)
    ∧ (∀ v e, s.power.proxy = some (v, e) → e ≤ t →
      ∃ u, exec (.proxyExpiry t) s = .next u ∧ u.power.proxy = none ∧ u.power.broken = s.power.broken ∧ u.dev = s.dev
        ∧ u.power.level = s.power.level)
    ∧ (∀ c v, s.power.shut = some (c, v, false) → s.power.shutPage = false → s.power.recordFrom + us 12 ≤ t →
      ∃ u, exec (.shutdownRecordWrite t) s = .next u ∧ u.power.shut = some (c, v, true) ∧ u.power.disabling = some 0x11
        ∧ u.power.disableAt = t ∧ (s.power.nvAllowed = false → u.nv = s.nv)
        ∧ (∀ a, a < 64 * s.reservePage ∨ 64 * s.reservePage + 64 ≤ a → Memory.read u.nv a = Memory.read s.nv a)
        ∧ 680 ≤ s.reservePage ∧ s.reservePage < 696
        ∧ u = { s with clock := u.clock, power := u.power, nv := u.nv })

/-- The non-volatile store and the test at shutdown: a page write that is done, 12 us from its start, fills its own
page and no other byte, and a commit makes its copy the active one; an erase clears one page in 100 us, one of the
shutdown reserve once its records are copied; the test starts with the core clock within 1 % and VDD_CORE within
730-790 mV, takes the link DOWN with Distaff in reset, and its verdict is written as object 3 (spec 18 R433, R434,
R438, R439). -/
def Obligations.StoreWritesAndSelfTest : Prop :=
  ∀ (t : Tick) (s : State), s.now ≤ t → s.wf = true →
    (∀ j rest, s.nvCtl.jobs = j :: rest → j.kind ≠ 1 → j.bytes.length = 64 → s.jobPage j ∉ s.nvCtl.erasing →
      s.nvCtl.jobAt + us 12 ≤ t → s.power.shut = none →
      ∃ u, exec (.nvPageWriteDone t) s = .next u ∧ u.nvCtl.jobs.take rest.length = rest ∧ u.dev = s.dev
        ∧ (∀ a, a < 64 * s.jobPage j ∨ 64 * s.jobPage j + 64 ≤ a → Memory.read u.nv a = Memory.read s.nv a)
        ∧ (∀ i, i < 64 → Memory.read u.nv (64 * s.jobPage j + i) = j.bytes.getD i 0)
        ∧ u.nvCtl.objects = s.nvCtl.objects)
    ∧ (∀ j rest, s.nvCtl.jobs = j :: rest → j.kind = 1 → s.jobPage j ∉ s.nvCtl.erasing → s.nvCtl.jobAt + us 12 ≤ t
      → s.power.shut = none →
      Store.wf (false, 0, false) s.nvCtl.objects = true →
      ∃ u, exec (.nvPageWriteDone t) s = .next u ∧ u.dev = s.dev
        ∧ (s.dev = .selfTest → j.object = 3 → u.power.disabling = some 0xD)
        ∧ u.nvObject j.object = (s.nvTarget j.object, ((s.nvObject j.object).2.1 + 1) % 2 ^ 32, true)
        ∧ (∀ k, k ≠ j.object → u.nvObject k = s.nvObject k)
        ∧ (∀ a, a < 64 * s.jobPage j ∨ 64 * s.jobPage j + 64 ≤ a → Memory.read u.nv a = Memory.read s.nv a))
    ∧ (∀ p rest, s.nvCtl.erasing = p :: rest → s.nvCtl.eraseAt + us 100 ≤ t → s.power.shut = none →
      (State.inReserve p = true → s.copying = false) →
      ∃ u, exec (.nvEraseDone t) s = .next u ∧ u.nvCtl.erasing = rest ∧ (∀ i, i < 64 → Memory.read u.nv (64 * p + i) = 0)
        ∧ (∀ a, a < 64 * p ∨ 64 * p + 64 ≤ a → Memory.read u.nv a = Memory.read s.nv a)
        ∧ u = { s with clock := u.clock, nv := u.nv, nvCtl := u.nvCtl })
    ∧ (∀ start length since khz mv, s.boot.test = some (false, start, length, since) →
      s.recs.q0 = [] ∨ since + us 1000 ≤ t → s.boot.plls.getLsbD 0 = true → 990000 ≤ khz → khz ≤ 1010000 → 730 ≤ mv
        → mv ≤ 790 →
      ∃ u, exec (.selfTestStart t khz mv) s = .next u ∧ u.boot.test = some (true, start, length, t) ∧ u.dist.up = false
        ∧ u.link.state = .down ∧ u.dev = s.dev ∧ u.nv = s.nv)
    ∧ (∀ start length since khz mv r, s.boot.test = some (true, start, length, since) → s.power.nvAllowed = true →
      s.boot.checkAt + us 1000 ≤ t → s.testBlocked khz mv = some r →
      ∃ u, exec (.selfTestCheck t khz mv) s = .next u ∧ u.boot.test = none ∧ u.dev = s.dev ∧ u.nv = s.nv
        ∧ (∃ j, u.nvCtl.jobs.take (s.nvCtl.jobs.length + 1) = s.nvCtl.jobs ++ [j] ∧ j.object = 3 ∧ j.kind = 0
          ∧ j.bytes.take 2 = [2, BitVec.ofNat 8 r]))
    ∧ (∀ start length since khz mv, s.boot.test = some (true, start, length, since) → s.boot.checkAt + us 1000 ≤ t →
      s.boot.plls.getLsbD 0 = true → 990000 ≤ khz → khz ≤ 1010000 → 730 ≤ mv → mv ≤ 790 →
      exec (.selfTestCheck t khz mv) s = .next ((s.advance t).modBoot fun b => { b with checkAt := t }))
    ∧ (∀ start length since r, s.boot.test = some (true, start, length, since) → s.power.nvAllowed = true →
      ∃ u, exec (.selfTestEnd t r) s = .next u ∧ u.boot.test = none ∧ u.dev = s.dev ∧ u.nv = s.nv
        ∧ (∃ j, u.nvCtl.jobs.take (s.nvCtl.jobs.length + 1) = s.nvCtl.jobs ++ [j] ∧ j.object = 3 ∧ j.kind = 0
          ∧ j.bytes.take 2 = [if r.failingRows = 0 ∧ r.failingDram = 0 then 0 else 1, 0]))

/-- Trust and calibration events: an automatic instant takes a cut, or is skipped and counted while two manifests are in
preparation; a challenge ends after 60 s; the unlocked level's access opens 1 ms after it; the test access port takes the
instructions it admits; the first manifest without signatures takes them; a calibration shot is committed and counted; and
the last kind to end, with every value passed, returns the device to where it came from (spec 17 R409-R415, 19 R444, R450,
R455). -/
def Obligations.TrustAndCalibrationEventsTakeEffect : Prop :=
  ∀ (t : Tick) (s : State), s.now ≤ t →
    (∀ x, s.trust.session = some x → 0 < x.interval → x.openAt < t → (t - x.openAt) % (us 1000000 * x.interval) = 0 →
      (s.trust.prep.length < 2 → s.dist.up = true →
        ∃ u y p, exec (.automaticCut t) s = .next u ∧ u.trust.session = some y ∧ y.next = x.next + 1 ∧ y.skipped = 0
          ∧ y.index = x.index ∧ y.interval = x.interval ∧ y.chains = x.chains
          ∧ u.trust.prep = s.trust.prep ++ [p] ∧ p.number = x.next ∧ p.handle = none ∧ p.closing = false
          ∧ p.sigs = none ∧ u = { s with clock := u.clock, trust := u.trust })
      ∧ (2 ≤ s.trust.prep.length → exec (.automaticCut t) s = .next ((s.advance t).modTrust fun z => { z with
          session := some { x with skipped := x.skipped + 1 } })))
    ∧ (∀ salt hedge p, s.trust.prep = [p] → p.sigs = none → p.handle = none → p.closing = false → s.trust.unlocking = none →
      ∃ u, exec (.manifestSigned t salt hedge) s = .next u
        ∧ (∀ y, y ∈ u.trust.prep → y = { p with
            sigs := some (Config.rsaSign s.trust.keys p.body salt, Config.slhSign s.trust.keys p.body hedge) })
        ∧ u.trust.entropy = salt ++ hedge
        ∧ ((s.recs.refusal .class2 Src.trust [manifestSize]).isNone → u.trust.prep = []
            ∧ u.recs.seqOf Src.trust = (s.recs.seqOf Src.trust + 1) % 2 ^ 32)
        ∧ u = { s with clock := u.clock, trust := u.trust, recs := u.recs })
    ∧ (∀ c a, s.trust.challenge = some (c, a) → a + us 60000000 ≤ t →
      exec (.challengeExpiry t) s = .next ((s.advance t).modTrust fun z => { z with challenge := none }))
    ∧ (s.trust.unlocked ≠ 0 → s.trust.unlockedAt + us 1000 ≤ t →
      exec (.debugAccessOpen t) s = .next ((s.advance t).modTrust fun z => { z with access := z.unlocked }))
    ∧ (∀ i, s.tapAllowed i = true → (∀ cells, i ≠ .samplePreload cells) →
      exec (.testAccessPortInstruction t i) s = .next ((s.advance t).modTrust fun z =>
        { z with tap := i, tapData := if i = .idcode then 0x1725674B else 0 }))
    ∧ (∀ cells, s.tapAllowed (.samplePreload cells) = true →
      ∃ u, exec (.testAccessPortInstruction t (.samplePreload cells)) s = .next u
        ∧ u.trust = { s.trust with
            tap := .samplePreload cells, tapData := 0, boundary := cells
            sampled := cells.filterMap fun (c : TapPin × Bool) => ((s.advance t).pinLevel c.1).map fun v => (c.1, v) }
        ∧ u = { s with clock := u.clock, trust := u.trust })
    ∧ (∀ i, s.tapAllowed i = false → exec (.testAccessPortInstruction t i) s = .next (s.advance t))
    ∧ (∀ r n b d, s.cal.run = some r → r.kind = 5 → n < 8 → Store.wf {} r.ports = true → s.wf = true →
      (s.calPort n).finished = false → (s.calPort n).shots < 1024 → (s.calPort n).lastAt = 0 →
      s.calDesc (s.calPort n).element = some (b, d) → elemPort (s.calPort n).element = n → (s.port n).state = .admitted →
      s.elementOn true (s.calPort n).element = true → s.skein = [] →
      (s.advance t).streamGood n (s.tdcInstant (t + us 2) - 16 * (s.calPort n).latency) = true →
      ∃ u, exec (.calibrationShot t n) s = .next u ∧ (u.entry 0).state = .committed ∧ (u.entry 0).cal = true
        ∧ (u.entry 0).element = (s.calPort n).element ∧ (u.calPort n).shots = (s.calPort n).shots + 1
        ∧ (u.calPort n).lastAt = (u.entry 0).planned ∧ u.dev = s.dev ∧ u.latch = s.latch)
    ∧ (∀ r, s.cal.run = some r → r.kind = 5 → (List.range 8).all (fun n => (s.calPort n).finished) = true →
      r.args.apply = false → r.failedEl = 0 → r.args.kinds = 16 → r.passed = 0 → s.dev = .calibrating →
      r.came = .ready ∨ r.came = .armed →
      ∃ u, exec (.calibrationKindEnd t []) s = .next u ∧ u.dev = r.came ∧ u.cal.run = none ∧ u.cal.tables = s.cal.tables
        ∧ u.latch = s.latch)

/-- The command front end: an accepted command gets a handle of a free index with that index's next generation, an
acknowledgement with status 0 on its path, and one completion entry; a command that the device state does not allow, that is
malformed, or that finds Distaff down is acknowledged so and changes nothing else; and a command whose turn it is not yet,
an earlier arrival with a known opcode standing before it, changes nothing (GO READY stands for the commands; spec 15 R350,
R353-R357, R360, R362; that such a command is not carried out is the model's choice, log 155). -/
def Obligations.CommandsAreAcknowledgedAndAnswered : Prop :=
  ∀ (t : Tick) (h : Hdr) (s : State), s.now ≤ t →
    let refused := fun (u : State) (status detail : Nat) => u.dist.live = s.dist.live ∧ u.dist.waiting = s.dist.waiting ++
        [⟨h.path, 0, true, place 0 [(1, 1), (1, status), (2, h.tag), (2, 0), (1, s.dev.code), (1, s.dist.load),
          (2, s.dist.live.length), (2, detail), (4, 0)]⟩]
      ∧ u = { s with clock := u.clock, dist := u.dist }
    (∀ op, s.takes op h = true →
      let n := s.nextHandle
      let b := s.startOf t op h
      (∀ l ∈ s.dist.live, l.handle % 4096 ≠ n % 4096) ∧ 4096 ≤ n
        ∧ n / 4096 = (if Store.read 0 s.dist.generations (n % 4096) = 15 then 1
            else Store.read 0 s.dist.generations (n % 4096) + 1)
        ∧ b.dist.waiting = s.dist.waiting ++ [⟨h.path, 0, true, place 0 [(1, 1), (1, 0), (2, h.tag), (2, n), (1, s.dev.code),
            (1, s.dist.load), (2, s.dist.live.length + 1), (2, 0), (4, 0)]⟩]
        ∧ b.dist.live = s.dist.live ++ [⟨n, h.tag, op, h.path, (s.dist.intake.head?.map fun a => a.at_).getD t, false, false⟩]
        ∧ b.dist.intake = s.dist.intake.tail
        ∧ b = { s with clock := b.clock, dist := b.dist }
        ∧ ∀ result, (b.succeed n result).answered b op h n 0 0 result
          ∧ (b.succeed n result).dist.waiting.length = b.dist.waiting.length + 1
          ∧ b.succeed n result = { b with dist := (b.succeed n result).dist })
    ∧ (s.itsTurn 0x0F02 h = true →
      (structureGood h = true → s.dist.up = true → s.dev ≠ .safe → ∃ u, exec (.goReady t h) s = .next u ∧ refused u 1 0)
      ∧ (structureGood h = false → s.dev ≠ .selfTest → ∃ u, exec (.goReady t h) s = .next u ∧ refused u 5 0)
      ∧ (structureGood h = true → s.dist.up = false → s.dev ≠ .selfTest →
        ∃ u, exec (.goReady t h) s = .next u ∧ refused u 6 s.dist.downCause))
    ∧ (∀ a rest, s.dist.intake = a :: rest → opKnown a.op a.hdr.path = true → s.itsTurn 0x0F02 h = false →
      exec (.goReady t h) s = .next (s.advance t))

/-- Commands that read: each is answered with what it reads and changes nothing else but the housekeeping entries that are
read away (spec 06 R163, 07 R185, 12 R297, 14 R337, 15 R346, R365, R367, 16 R392, 18 R437). -/
def Obligations.ReadingCommandsAnswer : Prop :=
  ∀ (t : Tick) (h : Hdr) (s : State), s.now ≤ t →
    let n := s.nextHandle
    (s.takes 0x0F01 h = true → exec (.getState t h) s = .next ((s.startOf t 0x0F01 h).succeed n (place 0 [(1, s.dev.code),
        (1, s.spindle.state.code), (1, s.link.state.code), (1, s.dist.load), (2, s.dist.live.length + 1),
        (4, if s.dist.up then s.dist.version else 0), (1, s.dist.downCause), (1, s.dist.up.toNat), (4, s.dist.corrected)])))
    ∧ (∀ file targets, s.takes 0x0F12 h = true →
      (∀ x, x ∈ State.counterTargets targets → ((s.advance t).counterBlock file x).isSome = true) →
      exec (.readCounters t h file targets) s = .next ((s.startOf t 0x0F12 h).succeed n
        (((State.counterTargets targets).flatMap fun x => ((s.advance t).counterBlock file x).getD []).take 4064)))
    ∧ (∀ c, s.takes 0x0703 h = true → c < 256 →
      exec (.readDetectors t h c) s
        = .next ((s.startOf t 0x0703 h).succeed n ((s.advance t).readingBytes ((s.chan c).reading.getD {}))))
    ∧ (∀ count, s.takes 0x0602 h = true → count ≤ 64 →
      exec (.readHousekeepingQueue t h count) s = .next (((s.startOf t 0x0602 h).modHk fun k => { k with
        queue := s.hk.queue.drop count }).succeed n (s.hk.queue.take count).flatten))
    ∧ (∀ first count, s.takes 0x1202 h = true → 0 < count → count ≤ 63 →
      exec (.readEventLog t h first count) s = .next ((s.startOf t 0x1202 h).succeed n (le 4 s.nvCtl.oldest
        ++ le 4 ((s.nvCtl.next + 2 ^ 32 - 1) % 2 ^ 32) ++ le 8 0 ++ (s.logEntries first count).flatten)))
    ∧ (∀ scope targets ids, s.takes 0x0F11 h = true → State.getCheck scope targets ids = .accepted →
      exec (.getParameters t h scope targets ids) s
        = .next ((s.startOf t 0x0F11 h).succeed n ((s.startOf t 0x0F11 h).getResult scope targets ids)))
    ∧ (s.takes 0x0E01 h = true → ∃ r, exec (.linkStatus t h) s = .next ((s.startOf t 0x0E01 h).succeed n r)
        ∧ r.take 5 = le 1 s.link.state.code ++ le 1 s.link.rate ++ le 1 s.link.width ++ le 1 s.link.first
          ++ le 1 s.link.substituted.toNat)
    ∧ (s.takes 0x1001 h = true → ∃ r, exec (.whorlStatus t h) s = .next ((s.startOf t 0x1001 h).succeed n r)
        ∧ r.take 1 = le 1 s.whorl.loop ∧ (r.drop 4).take 6 = le 4 s.whorl.opens ++ le 2 s.inhibitMask
        ∧ r.drop (r.length - 2) = le 2 (s.advance t).watchdogLeft)
    ∧ (s.takes 0x0C01 h = true → ∃ r, exec (.dramStatus t h) s = .next ((s.startOf t 0x0C01 h).succeed n r)
        ∧ (r.drop 2).take 6 = le 2 s.mappedMask ++ le 2 s.captureGuarantee
          ++ le 2 (match s.dram.tdram with | some x => twos 2 x | none => 0x8000))

/-- Commands that move the device: GO READY, GO SAFE, ARM with a closed loop and nothing inhibited, DISARM, RANGING START and
STOP, CLEAR FAULT, SHUTDOWN and CALIBRATE take it where Table 15-1 says; what is committed or passed is gone when it leaves
RANGING; ABORT ends its target (spec 15 R347, R349, R360, 16 R386, R389, 18 R438, 19 R444). -/
def Obligations.StateCommandsMoveTheDevice : Prop :=
  ∀ (t : Tick) (h : Hdr) (s : State), s.now ≤ t → s.wf = true →
    let n := s.nextHandle
    let kept := fun (u : State) => u.latch = s.latch ∧ u.nv = s.nv ∧ u.power = s.power ∧ u.boot = s.boot
    let stopped := fun (u : State) => (∀ i, (u.entry i).waiting = false)
      ∧ (∀ b, b < 16 → (u.flyer b).state = .stopped ∧ (u.flyer b).issued = [])
    (s.takes 0x0F02 h = true → ∃ u, exec (.goReady t h) s = .next u ∧ u.dev = .ready
        ∧ u.answered (s.startOf t 0x0F02 h) 0x0F02 h n 0 0 [] ∧ kept u ∧ u.whorl = s.whorl ∧ u.skein = s.skein)
    ∧ (s.takes 0x0F03 h = true → (∀ x, x ∈ s.dist.staged → x.handle ≠ some n) →
      ∃ u, exec (.goSafe t h) s = .next u ∧ u.dev = .safe
        ∧ u.answered (s.startOf t 0x0F03 h) 0x0F03 h n 0 0 [] ∧ kept u ∧ u.whorl.inhibit = s.whorl.inhibit)
    ∧ (s.takes 0x0F04 h = true → s.whorl.loop = 2 → s.inhibited = false →
      ∃ u, exec (.arm t h) s = .next u ∧ u.dev = .armed
        ∧ u.answered (s.startOf t 0x0F04 h) 0x0F04 h n 0 0 [] ∧ kept u ∧ u.whorl = s.whorl ∧ u.skein = s.skein)
    ∧ (s.takes 0x0F04 h = true → s.whorl.loop = 2 → s.inhibited = true →
      ∃ u, exec (.arm t h) s = .next u ∧ u.dev = s.dev ∧ u.answered (s.startOf t 0x0F04 h) 0x0F04 h n 1 0x0021 []
        ∧ u = { s with clock := u.clock, dist := u.dist })
    ∧ (s.takes 0x0F05 h = true → ∃ u, exec (.disarm t h) s = .next u ∧ u.dev = .ready ∧ kept u
        ∧ (s.dev = .ranging → stopped u)
        ∧ (u.skein.any (fun x => x.2.unretired) = false → u.answered (s.startOf t 0x0F05 h) 0x0F05 h n 0 0 [])
        ∧ (u.skein.any (fun x => x.2.unretired) = true → u.waits (s.startOf t 0x0F05 h) n ∧ n ∈ u.dist.awaitRetire))
    ∧ (∀ frame mask, s.takes 0x0F06 h = true → s.spindle.hasTime = false →
      ∃ u, exec (.rangingStart t h frame mask) s = .next u ∧ u.dev = .ranging
        ∧ u.answered (s.startOf t 0x0F06 h) 0x0F06 h n 0 0 [] ∧ kept u ∧ u.skein = s.skein
        ∧ (∀ b, b < 16 → mask.getLsbD b = true → (u.flyer b).state = .waiting ∧ (u.flyer b).pc = 0
            ∧ (u.flyer b).frame = frame % 2 ^ 32 ∧ (u.flyer b).line = 0 ∧ (u.flyer b).placed = false
            ∧ (u.flyer b).fault = none)
        ∧ (∀ b, mask.getLsbD b = false → u.flyer b = s.flyer b))
    ∧ (s.takes 0x0F07 h = true → ∃ u, exec (.rangingStop t h) s = .next u ∧ u.dev = .armed ∧ kept u ∧ stopped u
        ∧ (u.skein.any (fun x => x.2.unretired) = false → u.answered (s.startOf t 0x0F07 h) 0x0F07 h n 0 0 []))
    ∧ (s.takes 0x0F08 h = true → s.faultPersists = false → s.anySag = false → (∀ x, x ∈ s.dist.staged → x.handle ≠ some n) →
      ∃ u, exec (.clearFault t h) s = .next u ∧ u.dev = .safe ∧ u.answered (s.startOf t 0x0F08 h) 0x0F08 h n 0 0 [] ∧ kept u
        ∧ u.whorl.inhibit = s.whorl.inhibit &&& 0x0A3)
    ∧ (s.takes 0x0F08 h = true → s.faultPersists = true →
      ∃ u, exec (.clearFault t h) s = .next u ∧ u.dev = s.dev ∧ u.answered (s.startOf t 0x0F08 h) 0x0F08 h n 1 0x0030 []
        ∧ u = { s with clock := u.clock, dist := u.dist })
    ∧ (∀ target l, s.takes 0x0F0A h = true → s.liveOf target = some l → State.abortable l.opcode = true → s.cal.run = none →
      ∃ u, exec (.abort t h target) s = .next u ∧ u.liveOf target = none ∧ u.dev = s.dev ∧ kept u
        ∧ u.answered (s.startOf t 0x0F0A h) 0x0F0A h n 0 0 []
        ∧ ⟨l.path, target, false, u.completionBytes l 2 2 0 none []⟩ ∈ u.dist.waiting)
    ∧ (∀ start length, s.takes 0x0F09 h = true → start + length ≤ 8192 →
      ∃ u, exec (.shutdown t h start length) s = .next u ∧ u.dev = .selfTest ∧ u.boot.test = some (false, start, length, t)
        ∧ (∀ k, k < 8 → (u.port k).state = .off ∧ (u.port k).gate = false) ∧ (∀ b, b < 16 → (u.bias b).gateOn = false)
        ∧ u.liveOf n = none ∧ ⟨h.path, n, false, (s.advance t).completionBytes
            ⟨n, h.tag, 0x0F09, h.path, (s.dist.intake.head?.map fun a => a.at_).getD t, false, false⟩ 0 0 0 none []⟩ ∈ u.dist.waiting
        ∧ u.latch = s.latch ∧ u.nv = s.nv ∧ u.power = s.power)
    ∧ (∀ args, s.takes 0x1301 h = true → State.calCheck args s = .accepted →
      ∃ u r, exec (.calibrate t h args) s = .next u ∧ u.dev = .calibrating ∧ u.cal.run = some r ∧ r.args = args
        ∧ r.handle = n ∧ r.came = s.dev ∧ u.waits (s.startOf t 0x1301 h) n ∧ kept u ∧ u.cal.tables = s.cal.tables)

/-- Loads and settings where nothing is staged, and their staging where it is: the tables of a Flyer take the words that a
load carries from its first entry on and keep the others; a seed sets all 16 generators; coefficients enter the copies
that are not active and a swap makes them so; a parameter takes its value; flags clear; calibration values are saved,
restored or cleared (spec 01 R16, 03 R71, R73, R76, R78, R80, 04 R118, 05 R120, 07 R172, R173, 15 R365, 19 R456, R457). -/
def Obligations.LoadsAndSettingsTakeEffect : Prop :=
  ∀ (t : Tick) (h : Hdr) (s : State), s.now ≤ t → s.wf = true →
    let n := s.nextHandle
    let inReach := ∀ b, h.boundary = some b → 0 ≤ s.spindle.named b.1 ∧ s.spindle.named b.1 ≤ 65536 ∧ b.2 < s.spindle.lines
    (∀ bank first (ds : List (BitVec 128)), s.takes 0x0301 h = true → bank < 16 →
      (s.flyer bank).state = .stopped ∨ (s.flyer bank).state = .done → ds ≠ [] → first + ds.length ≤ 3072 →
      ds.all descGood = true → Store.wf 0 (s.flyer bank).shots = true →
      ∃ u, exec (.loadShotTable t h bank first ds) s = .next u ∧ u.answered (s.startOf t 0x0301 h) 0x0301 h n 0 0 []
        ∧ (∀ i, i < ds.length → Store.read 0 (u.flyer bank).shots (first + i) = ds.getD i 0)
        ∧ (∀ j, j < first ∨ first + ds.length ≤ j → Store.read 0 (u.flyer bank).shots j = Store.read 0 (s.flyer bank).shots j)
        ∧ (u.flyer bank).code = (s.flyer bank).code ∧ (∀ k, k ≠ bank → u.flyer k = s.flyer k)
        ∧ u = { s with clock := u.clock, dist := u.dist, flyers := u.flyers })
    ∧ (∀ bank first (ws : List Word32), s.takes 0x0302 h = true → bank < 16 →
      (s.flyer bank).state = .stopped ∨ (s.flyer bank).state = .done → ws ≠ [] → first + ws.length ≤ 2048 →
      ws.all microGood = true → Store.wf 0 (s.flyer bank).code = true →
      ∃ u, exec (.loadMicrocode t h bank first ws) s = .next u ∧ u.answered (s.startOf t 0x0302 h) 0x0302 h n 0 0 []
        ∧ (∀ i, i < ws.length → Store.read 0 (u.flyer bank).code (first + i) = ws.getD i 0)
        ∧ (∀ j, j < first ∨ first + ws.length ≤ j → Store.read 0 (u.flyer bank).code j = Store.read 0 (s.flyer bank).code j)
        ∧ (u.flyer bank).shots = (s.flyer bank).shots ∧ (∀ k, k ≠ bank → u.flyer k = s.flyer k)
        ∧ u = { s with clock := u.clock, dist := u.dist, flyers := u.flyers })
    ∧ (∀ bank first (cs : List Word32), s.takes 0x0303 h = true → bank < 16 → cs ≠ [] → first + cs.length ≤ 256 →
      cs.all State.codeGood = true →
      (s.stages = false → inReach → Store.wf 0 (s.flyer bank).codes = true →
        ∃ u, exec (.loadCodeTable t h bank first cs) s = .next u ∧ u.answered (s.startOf t 0x0303 h) 0x0303 h n 0 0 []
          ∧ (∀ i, i < cs.length → Store.read 0 (u.flyer bank).codes (first + i) = cs.getD i 0)
          ∧ (∀ j, j < first ∨ first + cs.length ≤ j →
            Store.read 0 (u.flyer bank).codes j = Store.read 0 (s.flyer bank).codes j)
          ∧ (∀ k, k ≠ bank → u.flyer k = s.flyer k) ∧ u = { s with clock := u.clock, dist := u.dist, flyers := u.flyers })
      ∧ (s.stages = true → h.boundary = none → (s.dist.staged.filter fun x => x.handle.isSome).length < 64 →
        ∃ u, exec (.loadCodeTable t h bank first cs) s = .next u ∧ u.waits (s.startOf t 0x0303 h) n
          ∧ u.dist.staged = s.dist.staged ++ [⟨s.spindle.frame, s.spindle.line, true, some n, [.codes bank first cs], none⟩]
          ∧ u = { s with clock := u.clock, dist := u.dist }))
    ∧ (∀ bank first (xs : List (BitVec 256)), s.takes 0x0304 h = true → bank < 16 → xs ≠ [] → first + xs.length ≤ 64 →
      xs.all State.setGood = true → s.stages = false → inReach → Store.wf 0 (s.flyer bank).sets = true →
      ∃ u, exec (.loadListeningSets t h bank first xs) s = .next u ∧ u.answered (s.startOf t 0x0304 h) 0x0304 h n 0 0 []
        ∧ (∀ i, i < xs.length → Store.read 0 (u.flyer bank).sets (first + i) = xs.getD i 0)
        ∧ (∀ j, j < first ∨ first + xs.length ≤ j → Store.read 0 (u.flyer bank).sets j = Store.read 0 (s.flyer bank).sets j)
        ∧ (∀ k, k ≠ bank → u.flyer k = s.flyer k) ∧ u = { s with clock := u.clock, dist := u.dist, flyers := u.flyers })
    ∧ (∀ seed : BitVec 64, s.takes 0x0305 h = true →
      ∃ u, exec (.loadSeed t h seed) s = .next u ∧ u.answered (s.startOf t 0x0305 h) 0x0305 h n 0 0 []
        ∧ (∀ b, b < 16 → (u.flyer b).gen
            = (let g := seed ^^^ (BitVec.ofNat 64 (b + 1) * 0x9E3779B97F4A7C15); if g = 0 then 1 else g))
        ∧ (∀ b, { u.flyer b with gen := 0 } = { s.flyer b with gen := 0 })
        ∧ u = { s with clock := u.clock, dist := u.dist, flyers := u.flyers })
    ∧ (∀ (banks : BitVec 16) image, s.takes 0x0701 h = true → banks ≠ 0 → imageGood image = true →
      (∀ b, b < 16 → (s.bank b).swapStaged = false) →
      ∃ u, exec (.loadCoefficients t h banks image) s = .next u ∧ u.answered (s.startOf t 0x0701 h) 0x0701 h n 0 0 []
        ∧ (∀ b, b < 16 → u.bank b = if banks.getLsbD b then
            (if (s.bank b).activeB then { s.bank b with copyA := imageSet image } else { s.bank b with copyB := imageSet image })
          else s.bank b)
        ∧ u = { s with clock := u.clock, dist := u.dist, banks := u.banks })
    ∧ (∀ banks : BitVec 16, s.takes 0x0702 h = true → banks ≠ 0 → s.spindle.hasTime = false → inReach →
      (∀ b, b < 16 → (s.bank b).swapStaged = false) →
      ∃ u, exec (.swapCoefficients t h banks) s = .next u ∧ u.answered (s.startOf t 0x0702 h) 0x0702 h n 0 0 []
        ∧ (∀ b, b < 16 → (u.bank b).activeB = ((s.bank b).activeB ^^ banks.getLsbD b) ∧ (u.bank b).copyA = (s.bank b).copyA
            ∧ (u.bank b).copyB = (s.bank b).copyB)
        ∧ u = { s with clock := u.clock, dist := u.dist, banks := u.banks })
    ∧ (∀ scope targets items, s.takes 0x0F10 h = true → State.setCheck h scope targets items s = .accepted →
      (s.stages = true → State.anyStaged items = true → h.boundary = none → s.waitsForOrigin items = false →
        items.all (fun i => !State.stopsBias i) = true →
        ∃ u, exec (.setParameters t h scope targets items) s = .next u ∧ u.waits (s.startOf t 0x0F10 h) n
          ∧ u.dist.staged = s.dist.staged
            ++ [⟨s.spindle.frame, s.spindle.line, true, some n, State.setChanges scope targets items, none⟩]
          ∧ u = { s with clock := u.clock, dist := u.dist })
      ∧ (∀ b v, s.stages = false → scope = 2 → targets = [b] → items = [⟨Par.reportLevel, 0, v⟩] →
        Store.wf none s.dist.params = true → (∀ x, x ∈ s.dist.staged → x.free = none) →
        ∃ u, exec (.setParameters t h scope targets items) s = .next u ∧ u.answered (s.startOf t 0x0F10 h) 0x0F10 h n 0 0 []
          ∧ u.pnum Par.reportLevel b = v.toNat
          ∧ (∀ id x, (id, x) ≠ (Par.reportLevel, b) → x < 256 → u.param id x = s.param id x)
          ∧ u = { s with clock := u.clock, dist := u.dist }))
    ∧ (∀ targets (mask : Nat), s.takes 0x0F13 h = true → mask.testBit 0 = true →
      ∃ u, exec (.clearFlags t h targets mask) s = .next u ∧ u.answered (s.startOf t 0x0F13 h) 0x0F13 h n 0 0 []
        ∧ (∀ c, c ∈ targets → u.chan c = { s.chan c with fe := { (s.chan c).fe with
            clampFlag := (s.chan c).fe.clampFlag && decide ((s.chan c).fe.clampAt = some t) } })
        ∧ (∀ c, c ∉ targets → u.chan c = s.chan c) ∧ u = { s with clock := u.clock, dist := u.dist, chans := u.chans })
    ∧ (s.takes 0x1302 h = true → s.power.nvAllowed = true →
      ∃ u jobs, exec (.saveCalibration t h) s = .next u ∧ u.waits (s.startOf t 0x1302 h) n
        ∧ u.nvCtl.jobs = s.nvCtl.jobs ++ jobs ∧ jobs.length = 429 ∧ (∀ j, j ∈ jobs → j.object = 4)
        ∧ (jobs.getLast?.map fun j => (j.kind, j.handle)) = some (1, some n)
        ∧ u = { s with clock := u.clock, dist := u.dist, nvCtl := u.nvCtl })
    ∧ (s.takes 0x1302 h = true → s.power.nvAllowed = false →
      ∃ u, exec (.saveCalibration t h) s = .next u ∧ u.answered (s.startOf t 0x1302 h) 0x1302 h n 1 0x0053 []
        ∧ u.nv = s.nv ∧ u.nvCtl.jobs = s.nvCtl.jobs)
    ∧ (s.takes 0x1303 h = true → s.stages = false → inReach →
      ∃ u, exec (.restoreCalibration t h) s = .next u ∧ u.dev = s.dev ∧ u.nv = s.nv ∧ u.latch = s.latch
        ∧ (match s.restoreError with
          | some d => u.answered (s.startOf t 0x1303 h) 0x1303 h n 1 d [] ∧ u = { s with clock := u.clock, dist := u.dist }
          | none => u.answered (s.startOf t 0x1303 h) 0x1303 h n 0 0 [BitVec.ofNat 8 s.restorePorts]
            ∧ ∀ bytes, s.nvData 4 = some bytes → u.cal.tables = State.calLoad s.cal.tables bytes s.restorePorts))
    ∧ (∀ ports : BitVec 8, s.takes 0x0405 h = true →
      ∃ u, exec (.clearLatencies t h ports) s = .next u ∧ u.answered (s.startOf t 0x0405 h) 0x0405 h n 0 0 []
        ∧ (∀ e, elemPort e < 8 → Store.read none u.cal.tables.latency e
            = if ports.getLsbD (elemPort e) then none else Store.read none s.cal.tables.latency e)
        ∧ u.cal.tables.timing = s.cal.tables.timing
        ∧ (∀ p, p < 8 → ports.getLsbD p = false → u.port p = s.port p)
        ∧ (∀ p, p < 8 → ports.getLsbD p = true → (s.port p).state = .verified ∨ (s.port p).state = .admitted →
            s.latch.set = false → 0 < (s.port p).chain → (u.port p).frames = (s.port p).frames
              ++ [State.headFrame ((List.range (s.port p).chain).map fun b => 0x05 :: le 2 (u.boardComp p b))])
        ∧ u = { s with clock := u.clock, dist := u.dist, cal := u.cal, ports := u.ports })

/-- Commands that start a measurement, a capture or a training: each is acknowledged and waits for its end, or is answered at
once where there is nothing to wait for; a flush of spilled bins asks the DRAM for them, an arm ends a read of the group (the
model's choice, log 160), and a retest trains what is mapped out at once, in DRAM-absent every channel; bias returns to
Kelvin regulation only where every reading is within 1 V of the held
lead offset; a proxy replaces the one before (spec 05 R139, 06 R160, 08 R207, R211, 09 R226, R227, 11 R259-R264, R270, R275,
12 R292, 18 R430). -/
def Obligations.MeasurementCommandsStart : Prop :=
  ∀ (t : Tick) (h : Hdr) (s : State), s.now ≤ t → s.wf = true →
    let n := s.nextHandle
    (∀ input, s.takes 0x0601 h = true → input < 48 → (∀ c, s.hk.conv = some c → c.source = 0) →
      ∃ u, exec (.inject t h input) s = .next u ∧ u.waits (s.startOf t 0x0601 h) n
        ∧ (u.hk.conv.map fun c => (c.input, c.slot, c.source, c.handle)) = some (input, 0xFF, 1, n) ∧ u.hk.mux = some input
        ∧ u.hk.aborted = (if s.hk.conv.isSome then (s.hk.aborted + 1) % 2 ^ 32 else s.hk.aborted)
        ∧ u.hk.queue = s.hk.queue ∧ u = { s with clock := u.clock, dist := u.dist, hk := u.hk })
    ∧ (∀ kind order timeout, s.takes 0x0801 h = true → s.statCheck kind order timeout = .accepted →
      ∃ u, exec (.statistics t h kind order timeout) s = .next u ∧ u.waits (s.startOf t 0x0801 h) n
        ∧ u.runs = s.runs ++ [{ handle := n, kind := kind, order := order, deadline := t + us (1000 * timeout) }]
        ∧ u = { s with clock := u.clock, dist := u.dist, runs := u.runs })
    ∧ (∀ i gate, s.takes 0x0802 h = true → i < 4 → 0 < gate → gate ≤ 10000 → (s.aux i).gate = none →
      ∃ u, exec (.measureFrequency t h i gate) s = .next u ∧ u.waits (s.startOf t 0x0802 h) n
        ∧ (u.aux i).gate = some ⟨n, t, if s.isDriftSource i then 0 else t + us (1000 * gate), s.isDriftSource i⟩
        ∧ (u.aux i).first = none ∧ (u.aux i).inGate = 0 ∧ (∀ k, k ≠ i → u.aux k = s.aux k)
        ∧ u = { s with clock := u.clock, dist := u.dist, auxf := u.auxf })
    ∧ (∀ c k p, s.takes 0x0901 h = true → s.bobCheck c k p = .accepted → Store.wf {} (s.chan c).bobs = true →
      ∃ u, exec (.bobbinStart t h c k p) s = .next u ∧ u.waits (s.startOf t 0x0901 h) n ∧ (u.bob c k).state = .collecting
        ∧ (u.bob c k).params = some p ∧ (u.bob c k).handle = n ∧ (u.bob c k).startedAt = t
        ∧ u.bob c (1 - k) = s.bob c (1 - k) ∧ (∀ j, j ≠ c → u.chan j = s.chan j)
        ∧ u = { s with clock := u.clock, dist := u.dist, chans := u.chans })
    ∧ (∀ c k, s.takes 0x0902 h = true → c < 256 → k < 2 → (s.bob c k).flushHandle = none →
      Store.wf {} (s.chan c).bobs = true →
      ((s.bob c k).state = .idle → exec (.bobbinFlush t h c k) s = .next ((s.startOf t 0x0902 h).succeed n []))
      ∧ ((s.bob c k).state = .collecting →
        ∃ u, exec (.bobbinFlush t h c k) s = .next u ∧ u.waits (s.startOf t 0x0902 h) n
          ∧ (u.bob c k).state = .finishing ∧ (u.bob c k).flushHandle = some n
          ∧ u.bob c k = { s.bob c k with
              state := .finishing, part := true, flushed := true, flushHandle := some n, back := (u.bob c k).back }
          ∧ ((s.bob c k).spilled = false → (u.bob c k).back = (s.bob c k).back ∧ u.dram = s.dram)
          ∧ (∀ j, j ≠ c → u.chan j = s.chan j)
          ∧ u = { s with clock := u.clock, dist := u.dist, chans := u.chans, dram := u.dram }))
    ∧ (∀ retest, s.takes 0x0C02 h = true → s.retrainCheck retest = .accepted → Store.wf {} s.dram.chans = true →
      let l := if retest then (List.range 16).filter fun i => s.dramAbsent || (s.dramCh i).mapped.isSome else []
      (retest = true ∨ s.dramAbsent = false →
        ∃ u, exec (.dramRetrain t h retest) s = .next u ∧ u.waits (s.startOf t 0x0C02 h) n
          ∧ u.dram = { s.dram with pass := some ⟨some n, retest, l, 0, none⟩, chans := u.dram.chans }
          ∧ (∀ i, i ∈ l → u.dramCh i = { s.dramCh i with training := true }) ∧ (∀ i, i ∉ l → u.dramCh i = s.dramCh i)
          ∧ u = { s with clock := u.clock, dist := u.dist, dram := u.dram })
      ∧ (retest = false → s.dramAbsent = true →
        exec (.dramRetrain t h retest) s = .next ((s.startOf t 0x0C02 h).succeed n
          (le 2 s.mappedMask ++ (List.range 16).flatMap fun i => State.trainReport (s.dramCh i)))))
    ∧ (∀ g p, s.takes 0x0B01 h = true → s.armCheck g p = .accepted → (∀ j, (s.group g).read = some j → j.handle ≠ n) →
      ∃ u r, exec (.captureArm t h g p) s = .next u ∧ u.answered (s.startOf t 0x0B01 h) 0x0B01 h n 0 0 r
        ∧ r.take 4 = le 4 (State.capacityOf p s.liveChans.length) ∧ (u.group g).armPending = true
          ∧ (u.group g).params = some p
        ∧ (u.group g).capacity = State.capacityOf p s.liveChans.length ∧ (u.group g).captures = [] ∧ (u.group g).made = 0
        ∧ (u.group g).read = none ∧ (∀ j, (s.group g).read = some j → u.liveOf j.handle = none)
        ∧ ((s.group g).read = none → u.dram = s.dram)
        ∧ u = { s with clock := u.clock, dist := u.dist, groups := u.groups, dram := u.dram })
    ∧ (∀ g, s.takes 0x0B02 h = true → g < 16 → (s.group g).closing = none →
      (s.groupBusy g = false → exec (.captureStop t h g) s = .next ((s.startOf t 0x0B02 h).succeed n []))
      ∧ (s.groupBusy g = true →
        ∃ u, exec (.captureStop t h g) s = .next u ∧ u.waits (s.startOf t 0x0B02 h) n
          ∧ (u.group g).closing = some ⟨t, some n, BitVec.ofNat 10 8⟩ ∧ (∀ k, k ≠ g → u.group k = s.group k)
          ∧ u = { s with clock := u.clock, dist := u.dist, groups := u.groups, counters := u.counters }))
    ∧ (∀ g, s.takes 0x0B03 h = true → g < 16 →
      ((s.group g).state.watches = false ∨ (State.groupParams (s.group g)).host = false →
        exec (.hostTrigger t h g) s = .next ((s.startOf t 0x0B03 h).succeed n []))
      ∧ ((s.group g).state = .waiting → (State.groupParams (s.group g)).host = true → (s.group g).closing = none →
        (s.group g).ringAt ≤ t →
        ∃ u a, exec (.hostTrigger t h g) s = .next u ∧ u.answered (s.startOf t 0x0B03 h) 0x0B03 h n 0 0 []
          ∧ (u.group g).state = .post ∧ (u.group g).trigger = some a ∧ a.instant = t ∧ a.source = 2 ^ 16 ∧ a.channel = 0xFF
          ∧ (∀ k, k ≠ g → u.group k = s.group k) ∧ u = { s with clock := u.clock, dist := u.dist, groups := u.groups }))
    ∧ (∀ g first last channels lo hi, s.takes 0x0B04 h = true → g < 16 → first ≤ last → last < 4096 → lo ≤ hi →
      s.dramAbsent = false → s.groupBusy g = false → (s.group g).read = none →
      (State.readBlocks (s.group g) first last channels lo hi = [] →
        exec (.captureRead t h g first last channels lo hi) s = .next ((s.startOf t 0x0B04 h).succeed n []))
      ∧ (State.readBlocks (s.group g) first last channels lo hi ≠ [] →
        ∃ u, exec (.captureRead t h g first last channels lo hi) s = .next u ∧ u.waits (s.startOf t 0x0B04 h) n
          ∧ (u.group g).read = some ⟨n, State.readBlocks (s.group g) first last channels lo hi, []⟩
          ∧ (u.group g).captures = (s.group g).captures ∧ (∀ k, k ≠ g → u.group k = s.group k)
          ∧ u = { s with clock := u.clock, dist := u.dist, groups := u.groups, dram := u.dram }))
    ∧ (∀ b (rs : List Int), s.takes 0x0501 h = true → b < 16 →
      (rs.length = 16 → (∀ r, r ∈ rs → (r - (s.bias b).lead).natAbs ≤ 100) → (s.bias b).forceOnly = false →
        exec (.biasSenseRestore t h b rs) s = .next ((s.startOf t 0x0501 h).succeed n []))
      ∧ (rs.length = 16 → (∀ r, r ∈ rs → (r - (s.bias b).lead).natAbs ≤ 100) → (s.bias b).forceOnly = true →
        ∃ u, exec (.biasSenseRestore t h b rs) s = .next u ∧ u.answered (s.startOf t 0x0501 h) 0x0501 h n 0 0 []
          ∧ (u.bias b).forceOnly = false ∧ (u.bias b).senseOpen = false ∧ (u.bias b).moving = true
          ∧ (u.bias b).target = (s.bias b).target ∧ (∀ k, k ≠ b → u.bank k = s.bank k)
          ∧ u = { s with clock := u.clock, dist := u.dist, banks := u.banks })
      ∧ (∀ r, r ∈ rs → 100 < (r - (s.bias b).lead).natAbs →
        ∃ u d, exec (.biasSenseRestore t h b rs) s = .next u ∧ u.answered (s.startOf t 0x0501 h) 0x0501 h n 1 d []
          ∧ u = { s with clock := u.clock, dist := u.dist }))
    ∧ (∀ (v : Int) k, s.takes 0x1201 h = true → -240 ≤ v → v ≤ 720 → 1 ≤ k → k ≤ 60 → s.power.broken = false →
      s.power.restoredAt ≠ some t →
      ∃ u, exec (.proxyTemperature t h v k) s = .next u ∧ u.answered (s.startOf t 0x1201 h) 0x1201 h n 0 0 []
        ∧ u.power = { s.power with proxy := some (v, t + us (1000000 * k)) } ∧ u.dev = s.dev
        ∧ u = { s with clock := u.clock, dist := u.dist, power := u.power, recs := u.recs, nvCtl := u.nvCtl, side := u.side })

/-- Commands to the ports and the link: enable and disable move a port, admission admits the verified head that is named,
board settings send their frames, and once these have been sent their sync is reserved and the command acknowledged after
the boundary before the one that the sync names, or BUSY where no opening is left, what the boards hold staged staying
there (the model's choice, log 146); LINK RETRAIN leaves an ACTIVE link in RECOVERY and waits; LINK TEST takes it to TEST
until its time, or until LINK TEST STOP; a board table is written as object 2 (spec 04 R95, R104, R105, R118, 14 R338,
R341, R343). -/
def Obligations.PortAndLinkCommandsTakeEffect : Prop :=
  ∀ (t : Tick) (h : Hdr) (s : State), s.now ≤ t → s.wf = true →
    let n := s.nextHandle
    let unused := fun p => (∀ x, (s.port p).syncFor = some x → x.2 ≠ some n) ∧ (∀ x, (s.port p).owed = some x → x.2.1 ≠ n)
      ∧ (∀ q, (s.port p).asked = some q → q.handle ≠ n)
    (∀ p, s.takes 0x0401 h = true → p < 8 → s.latch.set = true →
      ∃ u d, exec (.portEnable t h p) s = .next u ∧ u.answered (s.startOf t 0x0401 h) 0x0401 h n 1 d []
        ∧ u = { s with clock := u.clock, dist := u.dist })
    ∧ (∀ p, s.takes 0x0401 h = true → p < 8 → s.latch.set = false → unused p →
      ∃ u, exec (.portEnable t h p) s = .next u ∧ u.answered (s.startOf t 0x0401 h) 0x0401 h n 0 0 []
        ∧ ((s.port p).state = .off ∨ (s.port p).state = .tripped → (u.port p).state = .probing ∧ (u.port p).enteredAt = t)
        ∧ ((s.port p).state ≠ .off → (s.port p).state ≠ .tripped → u.port p = s.port p)
        ∧ (∀ k, k ≠ p → u.port k = s.port k) ∧ u.dev = s.dev ∧ u.skein = s.skein ∧ u.latch = s.latch)
    ∧ (∀ p, s.takes 0x0402 h = true → p < 8 → unused p →
      ∃ u, exec (.portDisable t h p) s = .next u ∧ u.answered (s.startOf t 0x0402 h) 0x0402 h n 0 0 []
        ∧ (u.port p).state = .off ∧ (u.port p).gate = false ∧ (∀ k, k ≠ p → u.port k = s.port k)
        ∧ (∀ i, (u.entry i).waiting = true → u.entry i = s.entry i) ∧ u.dev = s.dev ∧ u.latch = s.latch
        ∧ ((s.port p).state = .admitted → ∀ i, (u.entry i).waiting = true → elemPort (u.entry i).element ≠ p))
    ∧ (∀ p (id : BitVec 64), s.takes 0x0403 h = true → p < 8 → (s.port p).state = .verified → (s.port p).head = id →
      ∃ u, exec (.admitHead t h p id) s = .next u ∧ u.answered (s.startOf t 0x0403 h) 0x0403 h n 0 0 []
        ∧ (u.port p).state = .admitted ∧ (u.port p).head = id
        ∧ (u.port p).gate = ((s.port p).limits && !s.inhibited) ∧ (∀ k, k ≠ p → u.port k = s.port k) ∧ u.dev = s.dev
        ∧ u.skein = s.skein ∧ u.latch = s.latch)
    ∧ (∀ p msgs, s.takes 0x0404 h = true → (s.advance t).settingsCheck p msgs = .accepted →
      ∃ u q, exec (.boardSettings t h p msgs) s = .next u ∧ (u.liveOf n).isSome ∧ u.dist.waiting = s.dist.waiting
        ∧ (u.port p).asked = some q ∧ q.hdr = h ∧ q.handle = n ∧ q.limit = t + us 18 ∧ q.msgs = msgs
        ∧ (u.port p).syncFor = none ∧ (∀ k, k ≠ p → u.port k = s.port k) ∧ (u.port p).state = (s.port p).state
        ∧ (s.latch.set = false →
            (u.port p).frames = (s.port p).frames ++ ((s.advance t).msgFrames p msgs).map State.headFrame)
        ∧ u = { s with clock := u.clock, dist := u.dist, ports := u.ports })
    ∧ (∀ p q, p < 8 → (s.port p).asked = some q → (s.port p).owed = none → (s.port p).recap = [] → s.skein = [] →
      (s.advance t).dataEnd p [] ≤ t →
      (∀ x a, (s.advance t).chooseSync p q.limit t = some (x, a) →
        let b := x + ns (4 * a)
        ∃ u, exec (.keepAlivePlace t p) s = .next u ∧ (u.port p).asked = none ∧ (u.port p).syncFor = some (b, some q.handle)
          ∧ (x, Reserved.sync a b) ∈ (u.port p).reserved ∧ (∀ k, k ≠ p → u.port k = s.port k) ∧ u.dev = s.dev
          ∧ (if (s.advance t).boundaryNext b then (u.port p).owed = none
              ∧ ∃ y, u.dist.waiting = s.dist.waiting ++ [y] ∧ y.ack = true ∧ y.path = q.hdr.path
            else (u.port p).owed = some (q.hdr, q.handle, b, (s.advance t).lineTimeAt b, false)
              ∧ u.dist.waiting = s.dist.waiting))
      ∧ ((s.advance t).chooseSync p q.limit t = none →
        ∃ u y, exec (.keepAlivePlace t p) s = .next u ∧ (u.port p).asked = none ∧ (u.port p).syncFor = (s.port p).syncFor
          ∧ u.dist.live = s.dist.live.filter (fun l => l.handle ≠ q.handle)
          ∧ u.dist.waiting = s.dist.waiting ++ [y] ∧ y.ack = true ∧ y.path = q.hdr.path
          ∧ (∀ k, k ≠ p → u.port k = s.port k) ∧ u.dev = s.dev))
    ∧ (s.takes 0x0E02 h = true → s.link.state ≠ .recovery → s.link.state ≠ .test → s.link.retrain = none →
      ∃ u, exec (.linkRetrain t h) s = .next u ∧ u.waits (s.startOf t 0x0E02 h) n ∧ u.link.retrain = some n
        ∧ (∀ r, s.link.state = .active → (s.modLink fun l => { l with peerRates := 7 }).rateBelow 3 = some r →
            u.link.state = .recovery ∧ u.link.stage = .train ∧ u.link.lanes = s.link.detected ∧ u.link.rate = r
            ∧ u.link.recoverAt = t)
        ∧ (s.link.state ≠ .active → u = { s with clock := u.clock, dist := u.dist, link := u.link }) ∧ u.dev = s.dev
        ∧ u.link.unacked = s.link.unacked)
    ∧ (∀ duration lanes, s.takes 0x0E03 h = true → State.linkTestCheck h.path duration lanes s = .accepted →
      ∃ u, exec (.linkTest t h duration lanes) s = .next u ∧ u.waits (s.startOf t 0x0E03 h) n ∧ u.link.state = .test
        ∧ u.link.test = some (n, if duration = 0 then none else some (t + us (1000 * duration)), lanes)
        ∧ u.link.unacked = s.link.unacked
        ∧ u = { s with clock := u.clock, dist := u.dist, link := u.link, recs := u.recs, nvCtl := u.nvCtl, side := u.side })
    ∧ (∀ o k x, s.takes 0x0E04 h = true → h.path ≠ .link → s.link.test = some (o, k, x) →
      exec (.linkTestStop t h) s = .next (((s.startOf t 0x0E04 h).modLink fun l => { l with
        test := some (o, some (k.getD t), x) }).succeed n []))
    ∧ (∀ entries : List BoardEntry, s.takes 0x0E05 h = true → State.boardCheck entries s = .accepted →
      s.power.nvAllowed = true →
      ∃ u jobs, exec (.writeBoardTable t h entries) s = .next u ∧ u.waits (s.startOf t 0x0E05 h) n
        ∧ u.nvCtl.jobs = s.nvCtl.jobs ++ jobs ∧ jobs.length = 4 ∧ (∀ j, j ∈ jobs → j.object = 2)
        ∧ (jobs.flatMap fun j => j.bytes) = entries.flatMap State.boardEntryBytes
        ∧ (jobs.getLast?.map fun j => (j.kind, j.handle)) = some (1, some n)
        ∧ u = { s with clock := u.clock, dist := u.dist, nvCtl := u.nvCtl })

/-- Trust and firmware commands: a session opens with its open manifest in preparation and closes with its close manifest;
a checkpoint waits for its record; the chunks of phase 0 enter the token buffer; phase 2 gives a challenge; a token that
is not for this device or not signed ends with the detail of its first failing check and leaves the slots; an update takes
its chunks in order, and a reload puts Distaff down (spec 15 R362-R364, 17 R400, R401, R407-R413). -/
def Obligations.TrustAndFirmwareCommandsTakeEffect : Prop :=
  ∀ (t : Tick) (h : Hdr) (s : State), s.now ≤ t → s.wf = true →
    let n := s.nextHandle
    (∀ interval nonce, s.takes 0x1101 h = true → interval ≤ 3600 → s.trust.prep.length < 2 → s.trust.session = none →
      s.trust.keyLatched = false → s.certified = true →
      ∃ u x p, exec (.attestationControl t h true interval nonce) s = .next u
        ∧ u.answered (s.startOf t 0x1101 h) 0x1101 h n 0 0 [] ∧ u.trust.session = some x ∧ x.index = s.trust.sessions
        ∧ x.interval = interval ∧ x.openAt = t ∧ x.next = 1 ∧ u.trust.sessions = s.trust.sessions + 1
        ∧ u.trust.prep = s.trust.prep ++ [p] ∧ p.number = 0 ∧ p.closing = false
        ∧ x.chains = List.replicate 3 (0, Config.sha384 p.body) ∧ x.previous = Config.sha384 p.body
        ∧ u = { s with clock := u.clock, dist := u.dist, trust := u.trust })
    ∧ (∀ interval nonce x, s.takes 0x1101 h = true → interval ≤ 3600 → s.trust.prep.length < 2 → s.trust.session = some x →
      ∃ u p, exec (.attestationControl t h false interval nonce) s = .next u
        ∧ u.answered (s.startOf t 0x1101 h) 0x1101 h n 0 0 [] ∧ u.trust.session = none
        ∧ u.trust.prep = s.trust.prep ++ [p] ∧ p.number = x.next ∧ p.closing = true ∧ u.trust.sessions = s.trust.sessions
        ∧ u = { s with clock := u.clock, dist := u.dist, trust := u.trust })
    ∧ (∀ offset nonce x, s.takes 0x1102 h = true → s.trust.session = some x → s.trust.prep.length < 2 →
      ∃ u p y, exec (.manifest t h 1 offset nonce) s = .next u ∧ u.waits (s.startOf t 0x1102 h) n
        ∧ u.trust.prep = s.trust.prep ++ [p] ∧ p.number = x.next ∧ p.handle = some n ∧ p.closing = false
        ∧ u.trust.session = some y ∧ y.next = x.next + 1 ∧ y.chains = x.chains
        ∧ u = { s with clock := u.clock, dist := u.dist, trust := u.trust })
    ∧ (∀ offset nonce, s.takes 0x1102 h = true → offset % 8 = 0 → offset < certSize → s.certified = true →
      exec (.manifest t h 3 offset nonce) s = .next ((s.startOf t 0x1102 h).succeed n
        (le 8 17568 ++ ((s.trust.certificate.take 17568).drop offset).take 4056)))
    ∧ (∀ offset (data : List Byte), offset + data.length ≤ 17232 → 8 ≤ data.length → data.length ≤ 4056 →
      data.length % 8 = 0 →
      let chunk := fun (op : Nat) (u : State) => u.answered (s.startOf t op h) op h n 0 0 []
        ∧ (∀ i, i < data.length → Memory.read u.trust.token (offset + i) = data.getD i 0)
        ∧ (∀ a, a < offset ∨ offset + data.length ≤ a → Memory.read u.trust.token a = Memory.read s.trust.token a)
        ∧ u.trust = { s.trust with token := u.trust.token }
          ∧ u = { s with clock := u.clock, dist := u.dist, trust := u.trust }
      (s.takes 0x1103 h = true → ∃ u, exec (.keySlotWrite t h 0 offset data) s = .next u ∧ chunk 0x1103 u)
      ∧ (s.takes 0x1104 h = true → ∃ u, exec (.keyRevoke t h 0 offset data) s = .next u ∧ chunk 0x1104 u)
      ∧ (s.takes 0x1105 h = true → ∃ u, exec (.debugUnlock t h 0 offset data) s = .next u ∧ chunk 0x1105 u))
    ∧ (∀ offset data, s.tokenCheck 1 = .accepted → s.takes 0x1103 h = true → s.power.nvAllowed = true →
      ∃ u, exec (.keySlotWrite t h 1 offset data) s = .next u ∧ u.trust.token = [] ∧ u.trust.challenge = none
        ∧ u = { s with clock := u.clock, dist := u.dist, trust := u.trust, nvCtl := u.nvCtl }
        ∧ (match s.tokenError 1 with
          | some d => u.answered (s.startOf t 0x1103 h) 0x1103 h n 1 d [] ∧ u.trust.slots = s.trust.slots ∧ u.nvCtl = s.nvCtl
          | none => if s.tokenField 3 1 = 1 then
              u.answered (s.startOf t 0x1103 h) 0x1103 h n 0 0 [] ∧ u.nvCtl = s.nvCtl
                ∧ u.trust.slots = Store.write {} s.trust.slots 1 (s.tokenSlot 1)
            else u.waits (s.startOf t 0x1103 h) n ∧ u.trust.slots = s.trust.slots
              ∧ (u.nvCtl.jobs.getLast?.map fun j => (j.object, j.kind, j.handle)) = some (1, 1, some n)))
    ∧ (∀ offset data, s.tokenCheck 2 = .accepted → s.takes 0x1104 h = true → s.power.nvAllowed = true →
      ∃ u, exec (.keyRevoke t h 1 offset data) s = .next u ∧ u.trust = { s.trust with token := [], challenge := none }
        ∧ u = { s with clock := u.clock, dist := u.dist, trust := u.trust, nvCtl := u.nvCtl }
        ∧ (match s.tokenError 2 with
          | some d => u.answered (s.startOf t 0x1104 h) 0x1104 h n 1 d [] ∧ u.nvCtl = s.nvCtl
          | none => u.waits (s.startOf t 0x1104 h) n
              ∧ (u.nvCtl.jobs.getLast?.map fun j => (j.object, j.kind, j.handle)) = some (1, 1, some n)))
    ∧ (∀ offset data, s.tokenCheck 3 = .accepted → s.takes 0x1105 h = true → s.trust.prep.length < 2 →
      s.trust.session = none →
      ∃ u, exec (.debugUnlock t h 1 offset data) s = .next u ∧ u.trust.token = [] ∧ u.trust.challenge = none
        ∧ u.trust.slots = s.trust.slots ∧ u.latch = s.latch
        ∧ (match s.tokenError 3 with
          | some d => u.answered (s.startOf t 0x1105 h) 0x1105 h n 1 d [] ∧ u.dev = s.dev
          | none => if s.trust.challenge.any fun c => decide (c.1.toNat = s.tokenField 112 32 ∧ t < c.2 + us 60000000) then
              ((s.advance t).overtaken 2 = none → (∀ x, x ∈ s.dist.staged → x.handle ≠ some n) →
                u.answered (s.startOf t 0x1105 h) 0x1105 h n 0 0 []) ∧ u.dev = .fault ∧ u.trust.unlocked = s.tokenField 5 1
                ∧ u.trust.unlockedAt = t ∧ u.trust.keys = [] ∧ u.trust.keyLatched = true
                ∧ u.whorl.inhibit.getLsbD 8 = true ∧ u.whorl.faults.getLsbD 5 = true
            else (∃ d, u.answered (s.startOf t 0x1105 h) 0x1105 h n 1 d []) ∧ u.dev = s.dev))
    ∧ (∀ offset data, s.takes 0x1105 h = true →
      ∃ u v, exec (.debugUnlock t h 2 offset data) s = .next u ∧ u.answered (s.startOf t 0x1105 h) 0x1105 h n 0 0 (le 32 v)
        ∧ u.trust = { s.trust with challenge := some (BitVec.ofNat 256 v, t) }
        ∧ u = { s with clock := u.clock, dist := u.dist, trust := u.trust })
    ∧ (∀ length, s.takes 0x0F20 h = true → s.hasSlots = true → length ≤ imageLimit →
      ∃ u, exec (.fwBegin t h length) s = .next u ∧ u.answered (s.startOf t 0x0F20 h) 0x0F20 h n 0 0 []
        ∧ u.dist.update = some (length, 0) ∧ u.dist.verified = false ∧ u.slotBytes (!s.boot.slotB) = some []
        ∧ u.slotBytes s.boot.slotB = s.slotBytes s.boot.slotB ∧ u = { s with clock := u.clock, dist := u.dist })
    ∧ (∀ (data : List Byte) total at_, s.takes 0x0F21 h = true → s.dist.update = some (total, at_) →
      at_ + data.length ≤ total → data.length ≤ 4064 →
      ∃ u, exec (.fwData t h at_ data) s = .next u ∧ u.answered (s.startOf t 0x0F21 h) 0x0F21 h n 0 0 []
        ∧ u.dist.update = some (total, at_ + data.length)
        ∧ u.slotBytes (!s.boot.slotB) = some ((s.slotBytes (!s.boot.slotB)).getD [] ++ data)
        ∧ u.slotBytes s.boot.slotB = s.slotBytes s.boot.slotB ∧ u = { s with clock := u.clock, dist := u.dist })
    ∧ (s.takes 0x0F22 h = true → s.dist.verifying = none →
      ∃ u, exec (.fwVerify t h) s = .next u ∧ u.waits (s.startOf t 0x0F22 h) n ∧ u.dist.verifying = some n
        ∧ u = { s with clock := u.clock, dist := u.dist })
    ∧ (s.takes 0x0F23 h = true → s.dist.verified = true → (s.advance t).overtaken 3 = none →
      ∃ u, exec (.fwActivate t h) s = .next u ∧ u.dist.reload = some (n, false, true) ∧ u.dist.up = false
        ∧ u.dist.downCause = 2 ∧ u.dist.update = none ∧ u.liveOf n ≠ none ∧ u.whorl.inhibit.getLsbD 1 = true ∧ u.dev = s.dev)
    ∧ (∀ other, s.takes 0x0F24 h = true → s.dist.up = true → s.dist.reload = none → other = false ∨ s.hasSlots = true →
      (s.advance t).overtaken 3 = none →
      ∃ u, exec (.fwReload t h other) s = .next u ∧ u.dist.reload = some (n, other, false) ∧ u.dist.up = false
        ∧ u.dist.downCause = 2 ∧ u.liveOf n ≠ none ∧ u.whorl.inhibit.getLsbD 1 = true ∧ u.dev = s.dev ∧ u.latch = s.latch)
end

