-- ==== Sys2Proof/Laws/State.lean ====
section
/-! SUPPORT. What each setter of State does to each field, and what a step's clock does: no later proof unfolds a record
update. -/

namespace Sys2Proof.Machine.State

@[simp] theorem modClock_clock (g : Clock → Clock) (s : State) : (s.modClock g).clock = g s.clock := rfl
@[simp] theorem modClock_dev (g : Clock → Clock) (s : State) : (s.modClock g).dev = s.dev := rfl
@[simp] theorem modClock_spindle (g : Clock → Clock) (s : State) : (s.modClock g).spindle = s.spindle := rfl
@[simp] theorem modClock_flyers (g : Clock → Clock) (s : State) : (s.modClock g).flyers = s.flyers := rfl
@[simp] theorem modClock_skein (g : Clock → Clock) (s : State) : (s.modClock g).skein = s.skein := rfl
@[simp] theorem modClock_arb (g : Clock → Clock) (s : State) : (s.modClock g).arb = s.arb := rfl
@[simp] theorem modClock_order (g : Clock → Clock) (s : State) : (s.modClock g).order = s.order := rfl
@[simp] theorem modClock_hop (g : Clock → Clock) (s : State) : (s.modClock g).hop = s.hop := rfl
@[simp] theorem modClock_hopHold (g : Clock → Clock) (s : State) : (s.modClock g).hopHold = s.hopHold := rfl
@[simp] theorem modClock_ports (g : Clock → Clock) (s : State) : (s.modClock g).ports = s.ports := rfl
@[simp] theorem modClock_lamps (g : Clock → Clock) (s : State) : (s.modClock g).lamps = s.lamps := rfl
@[simp] theorem modClock_chans (g : Clock → Clock) (s : State) : (s.modClock g).chans = s.chans := rfl
@[simp] theorem modClock_banks (g : Clock → Clock) (s : State) : (s.modClock g).banks = s.banks := rfl
@[simp] theorem modClock_pllLocked (g : Clock → Clock) (s : State) : (s.modClock g).pllLocked = s.pllLocked := rfl
@[simp] theorem modClock_marks (g : Clock → Clock) (s : State) : (s.modClock g).marks = s.marks := rfl
@[simp] theorem modClock_hk (g : Clock → Clock) (s : State) : (s.modClock g).hk = s.hk := rfl
@[simp] theorem modClock_runs (g : Clock → Clock) (s : State) : (s.modClock g).runs = s.runs := rfl
@[simp] theorem modClock_auxf (g : Clock → Clock) (s : State) : (s.modClock g).auxf = s.auxf := rfl
@[simp] theorem modClock_groups (g : Clock → Clock) (s : State) : (s.modClock g).groups = s.groups := rfl
@[simp] theorem modClock_dram (g : Clock → Clock) (s : State) : (s.modClock g).dram = s.dram := rfl
@[simp] theorem modClock_dramMem (g : Clock → Clock) (s : State) : (s.modClock g).dramMem = s.dramMem := rfl
@[simp] theorem modClock_recs (g : Clock → Clock) (s : State) : (s.modClock g).recs = s.recs := rfl
@[simp] theorem modClock_link (g : Clock → Clock) (s : State) : (s.modClock g).link = s.link := rfl
@[simp] theorem modClock_dist (g : Clock → Clock) (s : State) : (s.modClock g).dist = s.dist := rfl
@[simp] theorem modClock_whorl (g : Clock → Clock) (s : State) : (s.modClock g).whorl = s.whorl := rfl
@[simp] theorem modClock_latch (g : Clock → Clock) (s : State) : (s.modClock g).latch = s.latch := rfl
@[simp] theorem modClock_trust (g : Clock → Clock) (s : State) : (s.modClock g).trust = s.trust := rfl
@[simp] theorem modClock_power (g : Clock → Clock) (s : State) : (s.modClock g).power = s.power := rfl
@[simp] theorem modClock_nv (g : Clock → Clock) (s : State) : (s.modClock g).nv = s.nv := rfl
@[simp] theorem modClock_nvCtl (g : Clock → Clock) (s : State) : (s.modClock g).nvCtl = s.nvCtl := rfl
@[simp] theorem modClock_boot (g : Clock → Clock) (s : State) : (s.modClock g).boot = s.boot := rfl
@[simp] theorem modClock_cal (g : Clock → Clock) (s : State) : (s.modClock g).cal = s.cal := rfl
@[simp] theorem modClock_side (g : Clock → Clock) (s : State) : (s.modClock g).side = s.side := rfl
@[simp] theorem modClock_counters (g : Clock → Clock) (s : State) : (s.modClock g).counters = s.counters := rfl
@[simp] theorem modClock_pending (g : Clock → Clock) (s : State) : (s.modClock g).pending = s.pending := rfl

@[simp] theorem modDev_clock (g : DevState → DevState) (s : State) : (s.modDev g).clock = s.clock := rfl
@[simp] theorem modDev_dev (g : DevState → DevState) (s : State) : (s.modDev g).dev = g s.dev := rfl
@[simp] theorem modDev_spindle (g : DevState → DevState) (s : State) : (s.modDev g).spindle = s.spindle := rfl
@[simp] theorem modDev_flyers (g : DevState → DevState) (s : State) : (s.modDev g).flyers = s.flyers := rfl
@[simp] theorem modDev_skein (g : DevState → DevState) (s : State) : (s.modDev g).skein = s.skein := rfl
@[simp] theorem modDev_arb (g : DevState → DevState) (s : State) : (s.modDev g).arb = s.arb := rfl
@[simp] theorem modDev_order (g : DevState → DevState) (s : State) : (s.modDev g).order = s.order := rfl
@[simp] theorem modDev_hop (g : DevState → DevState) (s : State) : (s.modDev g).hop = s.hop := rfl
@[simp] theorem modDev_hopHold (g : DevState → DevState) (s : State) : (s.modDev g).hopHold = s.hopHold := rfl
@[simp] theorem modDev_ports (g : DevState → DevState) (s : State) : (s.modDev g).ports = s.ports := rfl
@[simp] theorem modDev_lamps (g : DevState → DevState) (s : State) : (s.modDev g).lamps = s.lamps := rfl
@[simp] theorem modDev_chans (g : DevState → DevState) (s : State) : (s.modDev g).chans = s.chans := rfl
@[simp] theorem modDev_banks (g : DevState → DevState) (s : State) : (s.modDev g).banks = s.banks := rfl
@[simp] theorem modDev_pllLocked (g : DevState → DevState) (s : State) : (s.modDev g).pllLocked = s.pllLocked := rfl
@[simp] theorem modDev_marks (g : DevState → DevState) (s : State) : (s.modDev g).marks = s.marks := rfl
@[simp] theorem modDev_hk (g : DevState → DevState) (s : State) : (s.modDev g).hk = s.hk := rfl
@[simp] theorem modDev_runs (g : DevState → DevState) (s : State) : (s.modDev g).runs = s.runs := rfl
@[simp] theorem modDev_auxf (g : DevState → DevState) (s : State) : (s.modDev g).auxf = s.auxf := rfl
@[simp] theorem modDev_groups (g : DevState → DevState) (s : State) : (s.modDev g).groups = s.groups := rfl
@[simp] theorem modDev_dram (g : DevState → DevState) (s : State) : (s.modDev g).dram = s.dram := rfl
@[simp] theorem modDev_dramMem (g : DevState → DevState) (s : State) : (s.modDev g).dramMem = s.dramMem := rfl
@[simp] theorem modDev_recs (g : DevState → DevState) (s : State) : (s.modDev g).recs = s.recs := rfl
@[simp] theorem modDev_link (g : DevState → DevState) (s : State) : (s.modDev g).link = s.link := rfl
@[simp] theorem modDev_dist (g : DevState → DevState) (s : State) : (s.modDev g).dist = s.dist := rfl
@[simp] theorem modDev_whorl (g : DevState → DevState) (s : State) : (s.modDev g).whorl = s.whorl := rfl
@[simp] theorem modDev_latch (g : DevState → DevState) (s : State) : (s.modDev g).latch = s.latch := rfl
@[simp] theorem modDev_trust (g : DevState → DevState) (s : State) : (s.modDev g).trust = s.trust := rfl
@[simp] theorem modDev_power (g : DevState → DevState) (s : State) : (s.modDev g).power = s.power := rfl
@[simp] theorem modDev_nv (g : DevState → DevState) (s : State) : (s.modDev g).nv = s.nv := rfl
@[simp] theorem modDev_nvCtl (g : DevState → DevState) (s : State) : (s.modDev g).nvCtl = s.nvCtl := rfl
@[simp] theorem modDev_boot (g : DevState → DevState) (s : State) : (s.modDev g).boot = s.boot := rfl
@[simp] theorem modDev_cal (g : DevState → DevState) (s : State) : (s.modDev g).cal = s.cal := rfl
@[simp] theorem modDev_side (g : DevState → DevState) (s : State) : (s.modDev g).side = s.side := rfl
@[simp] theorem modDev_counters (g : DevState → DevState) (s : State) : (s.modDev g).counters = s.counters := rfl
@[simp] theorem modDev_pending (g : DevState → DevState) (s : State) : (s.modDev g).pending = s.pending := rfl

@[simp] theorem modSpindle_clock (g : Spindle → Spindle) (s : State) : (s.modSpindle g).clock = s.clock := rfl
@[simp] theorem modSpindle_dev (g : Spindle → Spindle) (s : State) : (s.modSpindle g).dev = s.dev := rfl
@[simp] theorem modSpindle_spindle (g : Spindle → Spindle) (s : State) : (s.modSpindle g).spindle = g s.spindle := rfl
@[simp] theorem modSpindle_flyers (g : Spindle → Spindle) (s : State) : (s.modSpindle g).flyers = s.flyers := rfl
@[simp] theorem modSpindle_skein (g : Spindle → Spindle) (s : State) : (s.modSpindle g).skein = s.skein := rfl
@[simp] theorem modSpindle_arb (g : Spindle → Spindle) (s : State) : (s.modSpindle g).arb = s.arb := rfl
@[simp] theorem modSpindle_order (g : Spindle → Spindle) (s : State) : (s.modSpindle g).order = s.order := rfl
@[simp] theorem modSpindle_hop (g : Spindle → Spindle) (s : State) : (s.modSpindle g).hop = s.hop := rfl
@[simp] theorem modSpindle_hopHold (g : Spindle → Spindle) (s : State) : (s.modSpindle g).hopHold = s.hopHold := rfl
@[simp] theorem modSpindle_ports (g : Spindle → Spindle) (s : State) : (s.modSpindle g).ports = s.ports := rfl
@[simp] theorem modSpindle_lamps (g : Spindle → Spindle) (s : State) : (s.modSpindle g).lamps = s.lamps := rfl
@[simp] theorem modSpindle_chans (g : Spindle → Spindle) (s : State) : (s.modSpindle g).chans = s.chans := rfl
@[simp] theorem modSpindle_banks (g : Spindle → Spindle) (s : State) : (s.modSpindle g).banks = s.banks := rfl
@[simp] theorem modSpindle_pllLocked (g : Spindle → Spindle) (s : State) :
    (s.modSpindle g).pllLocked = s.pllLocked := rfl
@[simp] theorem modSpindle_marks (g : Spindle → Spindle) (s : State) : (s.modSpindle g).marks = s.marks := rfl
@[simp] theorem modSpindle_hk (g : Spindle → Spindle) (s : State) : (s.modSpindle g).hk = s.hk := rfl
@[simp] theorem modSpindle_runs (g : Spindle → Spindle) (s : State) : (s.modSpindle g).runs = s.runs := rfl
@[simp] theorem modSpindle_auxf (g : Spindle → Spindle) (s : State) : (s.modSpindle g).auxf = s.auxf := rfl
@[simp] theorem modSpindle_groups (g : Spindle → Spindle) (s : State) : (s.modSpindle g).groups = s.groups := rfl
@[simp] theorem modSpindle_dram (g : Spindle → Spindle) (s : State) : (s.modSpindle g).dram = s.dram := rfl
@[simp] theorem modSpindle_dramMem (g : Spindle → Spindle) (s : State) : (s.modSpindle g).dramMem = s.dramMem := rfl
@[simp] theorem modSpindle_recs (g : Spindle → Spindle) (s : State) : (s.modSpindle g).recs = s.recs := rfl
@[simp] theorem modSpindle_link (g : Spindle → Spindle) (s : State) : (s.modSpindle g).link = s.link := rfl
@[simp] theorem modSpindle_dist (g : Spindle → Spindle) (s : State) : (s.modSpindle g).dist = s.dist := rfl
@[simp] theorem modSpindle_whorl (g : Spindle → Spindle) (s : State) : (s.modSpindle g).whorl = s.whorl := rfl
@[simp] theorem modSpindle_latch (g : Spindle → Spindle) (s : State) : (s.modSpindle g).latch = s.latch := rfl
@[simp] theorem modSpindle_trust (g : Spindle → Spindle) (s : State) : (s.modSpindle g).trust = s.trust := rfl
@[simp] theorem modSpindle_power (g : Spindle → Spindle) (s : State) : (s.modSpindle g).power = s.power := rfl
@[simp] theorem modSpindle_nv (g : Spindle → Spindle) (s : State) : (s.modSpindle g).nv = s.nv := rfl
@[simp] theorem modSpindle_nvCtl (g : Spindle → Spindle) (s : State) : (s.modSpindle g).nvCtl = s.nvCtl := rfl
@[simp] theorem modSpindle_boot (g : Spindle → Spindle) (s : State) : (s.modSpindle g).boot = s.boot := rfl
@[simp] theorem modSpindle_cal (g : Spindle → Spindle) (s : State) : (s.modSpindle g).cal = s.cal := rfl
@[simp] theorem modSpindle_side (g : Spindle → Spindle) (s : State) : (s.modSpindle g).side = s.side := rfl
@[simp] theorem modSpindle_counters (g : Spindle → Spindle) (s : State) : (s.modSpindle g).counters = s.counters := rfl
@[simp] theorem modSpindle_pending (g : Spindle → Spindle) (s : State) : (s.modSpindle g).pending = s.pending := rfl

@[simp] theorem modFlyers_clock (g : Store Flyer → Store Flyer) (s : State) : (s.modFlyers g).clock = s.clock := rfl
@[simp] theorem modFlyers_dev (g : Store Flyer → Store Flyer) (s : State) : (s.modFlyers g).dev = s.dev := rfl
@[simp] theorem modFlyers_spindle (g : Store Flyer → Store Flyer) (s : State) :
    (s.modFlyers g).spindle = s.spindle := rfl
@[simp] theorem modFlyers_flyers (g : Store Flyer → Store Flyer) (s : State) :
    (s.modFlyers g).flyers = g s.flyers := rfl
@[simp] theorem modFlyers_skein (g : Store Flyer → Store Flyer) (s : State) : (s.modFlyers g).skein = s.skein := rfl
@[simp] theorem modFlyers_arb (g : Store Flyer → Store Flyer) (s : State) : (s.modFlyers g).arb = s.arb := rfl
@[simp] theorem modFlyers_order (g : Store Flyer → Store Flyer) (s : State) : (s.modFlyers g).order = s.order := rfl
@[simp] theorem modFlyers_hop (g : Store Flyer → Store Flyer) (s : State) : (s.modFlyers g).hop = s.hop := rfl
@[simp] theorem modFlyers_hopHold (g : Store Flyer → Store Flyer) (s : State) :
    (s.modFlyers g).hopHold = s.hopHold := rfl
@[simp] theorem modFlyers_ports (g : Store Flyer → Store Flyer) (s : State) : (s.modFlyers g).ports = s.ports := rfl
@[simp] theorem modFlyers_lamps (g : Store Flyer → Store Flyer) (s : State) : (s.modFlyers g).lamps = s.lamps := rfl
@[simp] theorem modFlyers_chans (g : Store Flyer → Store Flyer) (s : State) : (s.modFlyers g).chans = s.chans := rfl
@[simp] theorem modFlyers_banks (g : Store Flyer → Store Flyer) (s : State) : (s.modFlyers g).banks = s.banks := rfl
@[simp] theorem modFlyers_pllLocked (g : Store Flyer → Store Flyer) (s : State) :
    (s.modFlyers g).pllLocked = s.pllLocked := rfl
@[simp] theorem modFlyers_marks (g : Store Flyer → Store Flyer) (s : State) : (s.modFlyers g).marks = s.marks := rfl
@[simp] theorem modFlyers_hk (g : Store Flyer → Store Flyer) (s : State) : (s.modFlyers g).hk = s.hk := rfl
@[simp] theorem modFlyers_runs (g : Store Flyer → Store Flyer) (s : State) : (s.modFlyers g).runs = s.runs := rfl
@[simp] theorem modFlyers_auxf (g : Store Flyer → Store Flyer) (s : State) : (s.modFlyers g).auxf = s.auxf := rfl
@[simp] theorem modFlyers_groups (g : Store Flyer → Store Flyer) (s : State) : (s.modFlyers g).groups = s.groups := rfl
@[simp] theorem modFlyers_dram (g : Store Flyer → Store Flyer) (s : State) : (s.modFlyers g).dram = s.dram := rfl
@[simp] theorem modFlyers_dramMem (g : Store Flyer → Store Flyer) (s : State) :
    (s.modFlyers g).dramMem = s.dramMem := rfl
@[simp] theorem modFlyers_recs (g : Store Flyer → Store Flyer) (s : State) : (s.modFlyers g).recs = s.recs := rfl
@[simp] theorem modFlyers_link (g : Store Flyer → Store Flyer) (s : State) : (s.modFlyers g).link = s.link := rfl
@[simp] theorem modFlyers_dist (g : Store Flyer → Store Flyer) (s : State) : (s.modFlyers g).dist = s.dist := rfl
@[simp] theorem modFlyers_whorl (g : Store Flyer → Store Flyer) (s : State) : (s.modFlyers g).whorl = s.whorl := rfl
@[simp] theorem modFlyers_latch (g : Store Flyer → Store Flyer) (s : State) : (s.modFlyers g).latch = s.latch := rfl
@[simp] theorem modFlyers_trust (g : Store Flyer → Store Flyer) (s : State) : (s.modFlyers g).trust = s.trust := rfl
@[simp] theorem modFlyers_power (g : Store Flyer → Store Flyer) (s : State) : (s.modFlyers g).power = s.power := rfl
@[simp] theorem modFlyers_nv (g : Store Flyer → Store Flyer) (s : State) : (s.modFlyers g).nv = s.nv := rfl
@[simp] theorem modFlyers_nvCtl (g : Store Flyer → Store Flyer) (s : State) : (s.modFlyers g).nvCtl = s.nvCtl := rfl
@[simp] theorem modFlyers_boot (g : Store Flyer → Store Flyer) (s : State) : (s.modFlyers g).boot = s.boot := rfl
@[simp] theorem modFlyers_cal (g : Store Flyer → Store Flyer) (s : State) : (s.modFlyers g).cal = s.cal := rfl
@[simp] theorem modFlyers_side (g : Store Flyer → Store Flyer) (s : State) : (s.modFlyers g).side = s.side := rfl
@[simp] theorem modFlyers_counters (g : Store Flyer → Store Flyer) (s : State) :
    (s.modFlyers g).counters = s.counters := rfl
@[simp] theorem modFlyers_pending (g : Store Flyer → Store Flyer) (s : State) :
    (s.modFlyers g).pending = s.pending := rfl

@[simp] theorem modSkein_clock (g : Store Entry → Store Entry) (s : State) : (s.modSkein g).clock = s.clock := rfl
@[simp] theorem modSkein_dev (g : Store Entry → Store Entry) (s : State) : (s.modSkein g).dev = s.dev := rfl
@[simp] theorem modSkein_spindle (g : Store Entry → Store Entry) (s : State) : (s.modSkein g).spindle = s.spindle := rfl
@[simp] theorem modSkein_flyers (g : Store Entry → Store Entry) (s : State) : (s.modSkein g).flyers = s.flyers := rfl
@[simp] theorem modSkein_skein (g : Store Entry → Store Entry) (s : State) : (s.modSkein g).skein = g s.skein := rfl
@[simp] theorem modSkein_arb (g : Store Entry → Store Entry) (s : State) : (s.modSkein g).arb = s.arb := rfl
@[simp] theorem modSkein_order (g : Store Entry → Store Entry) (s : State) : (s.modSkein g).order = s.order := rfl
@[simp] theorem modSkein_hop (g : Store Entry → Store Entry) (s : State) : (s.modSkein g).hop = s.hop := rfl
@[simp] theorem modSkein_hopHold (g : Store Entry → Store Entry) (s : State) : (s.modSkein g).hopHold = s.hopHold := rfl
@[simp] theorem modSkein_ports (g : Store Entry → Store Entry) (s : State) : (s.modSkein g).ports = s.ports := rfl
@[simp] theorem modSkein_lamps (g : Store Entry → Store Entry) (s : State) : (s.modSkein g).lamps = s.lamps := rfl
@[simp] theorem modSkein_chans (g : Store Entry → Store Entry) (s : State) : (s.modSkein g).chans = s.chans := rfl
@[simp] theorem modSkein_banks (g : Store Entry → Store Entry) (s : State) : (s.modSkein g).banks = s.banks := rfl
@[simp] theorem modSkein_pllLocked (g : Store Entry → Store Entry) (s : State) :
    (s.modSkein g).pllLocked = s.pllLocked := rfl
@[simp] theorem modSkein_marks (g : Store Entry → Store Entry) (s : State) : (s.modSkein g).marks = s.marks := rfl
@[simp] theorem modSkein_hk (g : Store Entry → Store Entry) (s : State) : (s.modSkein g).hk = s.hk := rfl
@[simp] theorem modSkein_runs (g : Store Entry → Store Entry) (s : State) : (s.modSkein g).runs = s.runs := rfl
@[simp] theorem modSkein_auxf (g : Store Entry → Store Entry) (s : State) : (s.modSkein g).auxf = s.auxf := rfl
@[simp] theorem modSkein_groups (g : Store Entry → Store Entry) (s : State) : (s.modSkein g).groups = s.groups := rfl
@[simp] theorem modSkein_dram (g : Store Entry → Store Entry) (s : State) : (s.modSkein g).dram = s.dram := rfl
@[simp] theorem modSkein_dramMem (g : Store Entry → Store Entry) (s : State) : (s.modSkein g).dramMem = s.dramMem := rfl
@[simp] theorem modSkein_recs (g : Store Entry → Store Entry) (s : State) : (s.modSkein g).recs = s.recs := rfl
@[simp] theorem modSkein_link (g : Store Entry → Store Entry) (s : State) : (s.modSkein g).link = s.link := rfl
@[simp] theorem modSkein_dist (g : Store Entry → Store Entry) (s : State) : (s.modSkein g).dist = s.dist := rfl
@[simp] theorem modSkein_whorl (g : Store Entry → Store Entry) (s : State) : (s.modSkein g).whorl = s.whorl := rfl
@[simp] theorem modSkein_latch (g : Store Entry → Store Entry) (s : State) : (s.modSkein g).latch = s.latch := rfl
@[simp] theorem modSkein_trust (g : Store Entry → Store Entry) (s : State) : (s.modSkein g).trust = s.trust := rfl
@[simp] theorem modSkein_power (g : Store Entry → Store Entry) (s : State) : (s.modSkein g).power = s.power := rfl
@[simp] theorem modSkein_nv (g : Store Entry → Store Entry) (s : State) : (s.modSkein g).nv = s.nv := rfl
@[simp] theorem modSkein_nvCtl (g : Store Entry → Store Entry) (s : State) : (s.modSkein g).nvCtl = s.nvCtl := rfl
@[simp] theorem modSkein_boot (g : Store Entry → Store Entry) (s : State) : (s.modSkein g).boot = s.boot := rfl
@[simp] theorem modSkein_cal (g : Store Entry → Store Entry) (s : State) : (s.modSkein g).cal = s.cal := rfl
@[simp] theorem modSkein_side (g : Store Entry → Store Entry) (s : State) : (s.modSkein g).side = s.side := rfl
@[simp] theorem modSkein_counters (g : Store Entry → Store Entry) (s : State) :
    (s.modSkein g).counters = s.counters := rfl
@[simp] theorem modSkein_pending (g : Store Entry → Store Entry) (s : State) : (s.modSkein g).pending = s.pending := rfl

@[simp] theorem modArb_clock (g : Arbiter → Arbiter) (s : State) : (s.modArb g).clock = s.clock := rfl
@[simp] theorem modArb_dev (g : Arbiter → Arbiter) (s : State) : (s.modArb g).dev = s.dev := rfl
@[simp] theorem modArb_spindle (g : Arbiter → Arbiter) (s : State) : (s.modArb g).spindle = s.spindle := rfl
@[simp] theorem modArb_flyers (g : Arbiter → Arbiter) (s : State) : (s.modArb g).flyers = s.flyers := rfl
@[simp] theorem modArb_skein (g : Arbiter → Arbiter) (s : State) : (s.modArb g).skein = s.skein := rfl
@[simp] theorem modArb_arb (g : Arbiter → Arbiter) (s : State) : (s.modArb g).arb = g s.arb := rfl
@[simp] theorem modArb_order (g : Arbiter → Arbiter) (s : State) : (s.modArb g).order = s.order := rfl
@[simp] theorem modArb_hop (g : Arbiter → Arbiter) (s : State) : (s.modArb g).hop = s.hop := rfl
@[simp] theorem modArb_hopHold (g : Arbiter → Arbiter) (s : State) : (s.modArb g).hopHold = s.hopHold := rfl
@[simp] theorem modArb_ports (g : Arbiter → Arbiter) (s : State) : (s.modArb g).ports = s.ports := rfl
@[simp] theorem modArb_lamps (g : Arbiter → Arbiter) (s : State) : (s.modArb g).lamps = s.lamps := rfl
@[simp] theorem modArb_chans (g : Arbiter → Arbiter) (s : State) : (s.modArb g).chans = s.chans := rfl
@[simp] theorem modArb_banks (g : Arbiter → Arbiter) (s : State) : (s.modArb g).banks = s.banks := rfl
@[simp] theorem modArb_pllLocked (g : Arbiter → Arbiter) (s : State) : (s.modArb g).pllLocked = s.pllLocked := rfl
@[simp] theorem modArb_marks (g : Arbiter → Arbiter) (s : State) : (s.modArb g).marks = s.marks := rfl
@[simp] theorem modArb_hk (g : Arbiter → Arbiter) (s : State) : (s.modArb g).hk = s.hk := rfl
@[simp] theorem modArb_runs (g : Arbiter → Arbiter) (s : State) : (s.modArb g).runs = s.runs := rfl
@[simp] theorem modArb_auxf (g : Arbiter → Arbiter) (s : State) : (s.modArb g).auxf = s.auxf := rfl
@[simp] theorem modArb_groups (g : Arbiter → Arbiter) (s : State) : (s.modArb g).groups = s.groups := rfl
@[simp] theorem modArb_dram (g : Arbiter → Arbiter) (s : State) : (s.modArb g).dram = s.dram := rfl
@[simp] theorem modArb_dramMem (g : Arbiter → Arbiter) (s : State) : (s.modArb g).dramMem = s.dramMem := rfl
@[simp] theorem modArb_recs (g : Arbiter → Arbiter) (s : State) : (s.modArb g).recs = s.recs := rfl
@[simp] theorem modArb_link (g : Arbiter → Arbiter) (s : State) : (s.modArb g).link = s.link := rfl
@[simp] theorem modArb_dist (g : Arbiter → Arbiter) (s : State) : (s.modArb g).dist = s.dist := rfl
@[simp] theorem modArb_whorl (g : Arbiter → Arbiter) (s : State) : (s.modArb g).whorl = s.whorl := rfl
@[simp] theorem modArb_latch (g : Arbiter → Arbiter) (s : State) : (s.modArb g).latch = s.latch := rfl
@[simp] theorem modArb_trust (g : Arbiter → Arbiter) (s : State) : (s.modArb g).trust = s.trust := rfl
@[simp] theorem modArb_power (g : Arbiter → Arbiter) (s : State) : (s.modArb g).power = s.power := rfl
@[simp] theorem modArb_nv (g : Arbiter → Arbiter) (s : State) : (s.modArb g).nv = s.nv := rfl
@[simp] theorem modArb_nvCtl (g : Arbiter → Arbiter) (s : State) : (s.modArb g).nvCtl = s.nvCtl := rfl
@[simp] theorem modArb_boot (g : Arbiter → Arbiter) (s : State) : (s.modArb g).boot = s.boot := rfl
@[simp] theorem modArb_cal (g : Arbiter → Arbiter) (s : State) : (s.modArb g).cal = s.cal := rfl
@[simp] theorem modArb_side (g : Arbiter → Arbiter) (s : State) : (s.modArb g).side = s.side := rfl
@[simp] theorem modArb_counters (g : Arbiter → Arbiter) (s : State) : (s.modArb g).counters = s.counters := rfl
@[simp] theorem modArb_pending (g : Arbiter → Arbiter) (s : State) : (s.modArb g).pending = s.pending := rfl

@[simp] theorem modOrder_clock (g : Nat → Nat) (s : State) : (s.modOrder g).clock = s.clock := rfl
@[simp] theorem modOrder_dev (g : Nat → Nat) (s : State) : (s.modOrder g).dev = s.dev := rfl
@[simp] theorem modOrder_spindle (g : Nat → Nat) (s : State) : (s.modOrder g).spindle = s.spindle := rfl
@[simp] theorem modOrder_flyers (g : Nat → Nat) (s : State) : (s.modOrder g).flyers = s.flyers := rfl
@[simp] theorem modOrder_skein (g : Nat → Nat) (s : State) : (s.modOrder g).skein = s.skein := rfl
@[simp] theorem modOrder_arb (g : Nat → Nat) (s : State) : (s.modOrder g).arb = s.arb := rfl
@[simp] theorem modOrder_order (g : Nat → Nat) (s : State) : (s.modOrder g).order = g s.order := rfl
@[simp] theorem modOrder_hop (g : Nat → Nat) (s : State) : (s.modOrder g).hop = s.hop := rfl
@[simp] theorem modOrder_hopHold (g : Nat → Nat) (s : State) : (s.modOrder g).hopHold = s.hopHold := rfl
@[simp] theorem modOrder_ports (g : Nat → Nat) (s : State) : (s.modOrder g).ports = s.ports := rfl
@[simp] theorem modOrder_lamps (g : Nat → Nat) (s : State) : (s.modOrder g).lamps = s.lamps := rfl
@[simp] theorem modOrder_chans (g : Nat → Nat) (s : State) : (s.modOrder g).chans = s.chans := rfl
@[simp] theorem modOrder_banks (g : Nat → Nat) (s : State) : (s.modOrder g).banks = s.banks := rfl
@[simp] theorem modOrder_pllLocked (g : Nat → Nat) (s : State) : (s.modOrder g).pllLocked = s.pllLocked := rfl
@[simp] theorem modOrder_marks (g : Nat → Nat) (s : State) : (s.modOrder g).marks = s.marks := rfl
@[simp] theorem modOrder_hk (g : Nat → Nat) (s : State) : (s.modOrder g).hk = s.hk := rfl
@[simp] theorem modOrder_runs (g : Nat → Nat) (s : State) : (s.modOrder g).runs = s.runs := rfl
@[simp] theorem modOrder_auxf (g : Nat → Nat) (s : State) : (s.modOrder g).auxf = s.auxf := rfl
@[simp] theorem modOrder_groups (g : Nat → Nat) (s : State) : (s.modOrder g).groups = s.groups := rfl
@[simp] theorem modOrder_dram (g : Nat → Nat) (s : State) : (s.modOrder g).dram = s.dram := rfl
@[simp] theorem modOrder_dramMem (g : Nat → Nat) (s : State) : (s.modOrder g).dramMem = s.dramMem := rfl
@[simp] theorem modOrder_recs (g : Nat → Nat) (s : State) : (s.modOrder g).recs = s.recs := rfl
@[simp] theorem modOrder_link (g : Nat → Nat) (s : State) : (s.modOrder g).link = s.link := rfl
@[simp] theorem modOrder_dist (g : Nat → Nat) (s : State) : (s.modOrder g).dist = s.dist := rfl
@[simp] theorem modOrder_whorl (g : Nat → Nat) (s : State) : (s.modOrder g).whorl = s.whorl := rfl
@[simp] theorem modOrder_latch (g : Nat → Nat) (s : State) : (s.modOrder g).latch = s.latch := rfl
@[simp] theorem modOrder_trust (g : Nat → Nat) (s : State) : (s.modOrder g).trust = s.trust := rfl
@[simp] theorem modOrder_power (g : Nat → Nat) (s : State) : (s.modOrder g).power = s.power := rfl
@[simp] theorem modOrder_nv (g : Nat → Nat) (s : State) : (s.modOrder g).nv = s.nv := rfl
@[simp] theorem modOrder_nvCtl (g : Nat → Nat) (s : State) : (s.modOrder g).nvCtl = s.nvCtl := rfl
@[simp] theorem modOrder_boot (g : Nat → Nat) (s : State) : (s.modOrder g).boot = s.boot := rfl
@[simp] theorem modOrder_cal (g : Nat → Nat) (s : State) : (s.modOrder g).cal = s.cal := rfl
@[simp] theorem modOrder_side (g : Nat → Nat) (s : State) : (s.modOrder g).side = s.side := rfl
@[simp] theorem modOrder_counters (g : Nat → Nat) (s : State) : (s.modOrder g).counters = s.counters := rfl
@[simp] theorem modOrder_pending (g : Nat → Nat) (s : State) : (s.modOrder g).pending = s.pending := rfl

@[simp] theorem modHop_clock (g : Nat → Nat) (s : State) : (s.modHop g).clock = s.clock := rfl
@[simp] theorem modHop_dev (g : Nat → Nat) (s : State) : (s.modHop g).dev = s.dev := rfl
@[simp] theorem modHop_spindle (g : Nat → Nat) (s : State) : (s.modHop g).spindle = s.spindle := rfl
@[simp] theorem modHop_flyers (g : Nat → Nat) (s : State) : (s.modHop g).flyers = s.flyers := rfl
@[simp] theorem modHop_skein (g : Nat → Nat) (s : State) : (s.modHop g).skein = s.skein := rfl
@[simp] theorem modHop_arb (g : Nat → Nat) (s : State) : (s.modHop g).arb = s.arb := rfl
@[simp] theorem modHop_order (g : Nat → Nat) (s : State) : (s.modHop g).order = s.order := rfl
@[simp] theorem modHop_hop (g : Nat → Nat) (s : State) : (s.modHop g).hop = g s.hop := rfl
@[simp] theorem modHop_hopHold (g : Nat → Nat) (s : State) : (s.modHop g).hopHold = s.hopHold := rfl
@[simp] theorem modHop_ports (g : Nat → Nat) (s : State) : (s.modHop g).ports = s.ports := rfl
@[simp] theorem modHop_lamps (g : Nat → Nat) (s : State) : (s.modHop g).lamps = s.lamps := rfl
@[simp] theorem modHop_chans (g : Nat → Nat) (s : State) : (s.modHop g).chans = s.chans := rfl
@[simp] theorem modHop_banks (g : Nat → Nat) (s : State) : (s.modHop g).banks = s.banks := rfl
@[simp] theorem modHop_pllLocked (g : Nat → Nat) (s : State) : (s.modHop g).pllLocked = s.pllLocked := rfl
@[simp] theorem modHop_marks (g : Nat → Nat) (s : State) : (s.modHop g).marks = s.marks := rfl
@[simp] theorem modHop_hk (g : Nat → Nat) (s : State) : (s.modHop g).hk = s.hk := rfl
@[simp] theorem modHop_runs (g : Nat → Nat) (s : State) : (s.modHop g).runs = s.runs := rfl
@[simp] theorem modHop_auxf (g : Nat → Nat) (s : State) : (s.modHop g).auxf = s.auxf := rfl
@[simp] theorem modHop_groups (g : Nat → Nat) (s : State) : (s.modHop g).groups = s.groups := rfl
@[simp] theorem modHop_dram (g : Nat → Nat) (s : State) : (s.modHop g).dram = s.dram := rfl
@[simp] theorem modHop_dramMem (g : Nat → Nat) (s : State) : (s.modHop g).dramMem = s.dramMem := rfl
@[simp] theorem modHop_recs (g : Nat → Nat) (s : State) : (s.modHop g).recs = s.recs := rfl
@[simp] theorem modHop_link (g : Nat → Nat) (s : State) : (s.modHop g).link = s.link := rfl
@[simp] theorem modHop_dist (g : Nat → Nat) (s : State) : (s.modHop g).dist = s.dist := rfl
@[simp] theorem modHop_whorl (g : Nat → Nat) (s : State) : (s.modHop g).whorl = s.whorl := rfl
@[simp] theorem modHop_latch (g : Nat → Nat) (s : State) : (s.modHop g).latch = s.latch := rfl
@[simp] theorem modHop_trust (g : Nat → Nat) (s : State) : (s.modHop g).trust = s.trust := rfl
@[simp] theorem modHop_power (g : Nat → Nat) (s : State) : (s.modHop g).power = s.power := rfl
@[simp] theorem modHop_nv (g : Nat → Nat) (s : State) : (s.modHop g).nv = s.nv := rfl
@[simp] theorem modHop_nvCtl (g : Nat → Nat) (s : State) : (s.modHop g).nvCtl = s.nvCtl := rfl
@[simp] theorem modHop_boot (g : Nat → Nat) (s : State) : (s.modHop g).boot = s.boot := rfl
@[simp] theorem modHop_cal (g : Nat → Nat) (s : State) : (s.modHop g).cal = s.cal := rfl
@[simp] theorem modHop_side (g : Nat → Nat) (s : State) : (s.modHop g).side = s.side := rfl
@[simp] theorem modHop_counters (g : Nat → Nat) (s : State) : (s.modHop g).counters = s.counters := rfl
@[simp] theorem modHop_pending (g : Nat → Nat) (s : State) : (s.modHop g).pending = s.pending := rfl

@[simp] theorem modHopHold_clock (g : Nat → Nat) (s : State) : (s.modHopHold g).clock = s.clock := rfl
@[simp] theorem modHopHold_dev (g : Nat → Nat) (s : State) : (s.modHopHold g).dev = s.dev := rfl
@[simp] theorem modHopHold_spindle (g : Nat → Nat) (s : State) : (s.modHopHold g).spindle = s.spindle := rfl
@[simp] theorem modHopHold_flyers (g : Nat → Nat) (s : State) : (s.modHopHold g).flyers = s.flyers := rfl
@[simp] theorem modHopHold_skein (g : Nat → Nat) (s : State) : (s.modHopHold g).skein = s.skein := rfl
@[simp] theorem modHopHold_arb (g : Nat → Nat) (s : State) : (s.modHopHold g).arb = s.arb := rfl
@[simp] theorem modHopHold_order (g : Nat → Nat) (s : State) : (s.modHopHold g).order = s.order := rfl
@[simp] theorem modHopHold_hop (g : Nat → Nat) (s : State) : (s.modHopHold g).hop = s.hop := rfl
@[simp] theorem modHopHold_hopHold (g : Nat → Nat) (s : State) : (s.modHopHold g).hopHold = g s.hopHold := rfl
@[simp] theorem modHopHold_ports (g : Nat → Nat) (s : State) : (s.modHopHold g).ports = s.ports := rfl
@[simp] theorem modHopHold_lamps (g : Nat → Nat) (s : State) : (s.modHopHold g).lamps = s.lamps := rfl
@[simp] theorem modHopHold_chans (g : Nat → Nat) (s : State) : (s.modHopHold g).chans = s.chans := rfl
@[simp] theorem modHopHold_banks (g : Nat → Nat) (s : State) : (s.modHopHold g).banks = s.banks := rfl
@[simp] theorem modHopHold_pllLocked (g : Nat → Nat) (s : State) : (s.modHopHold g).pllLocked = s.pllLocked := rfl
@[simp] theorem modHopHold_marks (g : Nat → Nat) (s : State) : (s.modHopHold g).marks = s.marks := rfl
@[simp] theorem modHopHold_hk (g : Nat → Nat) (s : State) : (s.modHopHold g).hk = s.hk := rfl
@[simp] theorem modHopHold_runs (g : Nat → Nat) (s : State) : (s.modHopHold g).runs = s.runs := rfl
@[simp] theorem modHopHold_auxf (g : Nat → Nat) (s : State) : (s.modHopHold g).auxf = s.auxf := rfl
@[simp] theorem modHopHold_groups (g : Nat → Nat) (s : State) : (s.modHopHold g).groups = s.groups := rfl
@[simp] theorem modHopHold_dram (g : Nat → Nat) (s : State) : (s.modHopHold g).dram = s.dram := rfl
@[simp] theorem modHopHold_dramMem (g : Nat → Nat) (s : State) : (s.modHopHold g).dramMem = s.dramMem := rfl
@[simp] theorem modHopHold_recs (g : Nat → Nat) (s : State) : (s.modHopHold g).recs = s.recs := rfl
@[simp] theorem modHopHold_link (g : Nat → Nat) (s : State) : (s.modHopHold g).link = s.link := rfl
@[simp] theorem modHopHold_dist (g : Nat → Nat) (s : State) : (s.modHopHold g).dist = s.dist := rfl
@[simp] theorem modHopHold_whorl (g : Nat → Nat) (s : State) : (s.modHopHold g).whorl = s.whorl := rfl
@[simp] theorem modHopHold_latch (g : Nat → Nat) (s : State) : (s.modHopHold g).latch = s.latch := rfl
@[simp] theorem modHopHold_trust (g : Nat → Nat) (s : State) : (s.modHopHold g).trust = s.trust := rfl
@[simp] theorem modHopHold_power (g : Nat → Nat) (s : State) : (s.modHopHold g).power = s.power := rfl
@[simp] theorem modHopHold_nv (g : Nat → Nat) (s : State) : (s.modHopHold g).nv = s.nv := rfl
@[simp] theorem modHopHold_nvCtl (g : Nat → Nat) (s : State) : (s.modHopHold g).nvCtl = s.nvCtl := rfl
@[simp] theorem modHopHold_boot (g : Nat → Nat) (s : State) : (s.modHopHold g).boot = s.boot := rfl
@[simp] theorem modHopHold_cal (g : Nat → Nat) (s : State) : (s.modHopHold g).cal = s.cal := rfl
@[simp] theorem modHopHold_side (g : Nat → Nat) (s : State) : (s.modHopHold g).side = s.side := rfl
@[simp] theorem modHopHold_counters (g : Nat → Nat) (s : State) : (s.modHopHold g).counters = s.counters := rfl
@[simp] theorem modHopHold_pending (g : Nat → Nat) (s : State) : (s.modHopHold g).pending = s.pending := rfl

@[simp] theorem modPorts_clock (g : Store Port → Store Port) (s : State) : (s.modPorts g).clock = s.clock := rfl
@[simp] theorem modPorts_dev (g : Store Port → Store Port) (s : State) : (s.modPorts g).dev = s.dev := rfl
@[simp] theorem modPorts_spindle (g : Store Port → Store Port) (s : State) : (s.modPorts g).spindle = s.spindle := rfl
@[simp] theorem modPorts_flyers (g : Store Port → Store Port) (s : State) : (s.modPorts g).flyers = s.flyers := rfl
@[simp] theorem modPorts_skein (g : Store Port → Store Port) (s : State) : (s.modPorts g).skein = s.skein := rfl
@[simp] theorem modPorts_arb (g : Store Port → Store Port) (s : State) : (s.modPorts g).arb = s.arb := rfl
@[simp] theorem modPorts_order (g : Store Port → Store Port) (s : State) : (s.modPorts g).order = s.order := rfl
@[simp] theorem modPorts_hop (g : Store Port → Store Port) (s : State) : (s.modPorts g).hop = s.hop := rfl
@[simp] theorem modPorts_hopHold (g : Store Port → Store Port) (s : State) : (s.modPorts g).hopHold = s.hopHold := rfl
@[simp] theorem modPorts_ports (g : Store Port → Store Port) (s : State) : (s.modPorts g).ports = g s.ports := rfl
@[simp] theorem modPorts_lamps (g : Store Port → Store Port) (s : State) : (s.modPorts g).lamps = s.lamps := rfl
@[simp] theorem modPorts_chans (g : Store Port → Store Port) (s : State) : (s.modPorts g).chans = s.chans := rfl
@[simp] theorem modPorts_banks (g : Store Port → Store Port) (s : State) : (s.modPorts g).banks = s.banks := rfl
@[simp] theorem modPorts_pllLocked (g : Store Port → Store Port) (s : State) :
    (s.modPorts g).pllLocked = s.pllLocked := rfl
@[simp] theorem modPorts_marks (g : Store Port → Store Port) (s : State) : (s.modPorts g).marks = s.marks := rfl
@[simp] theorem modPorts_hk (g : Store Port → Store Port) (s : State) : (s.modPorts g).hk = s.hk := rfl
@[simp] theorem modPorts_runs (g : Store Port → Store Port) (s : State) : (s.modPorts g).runs = s.runs := rfl
@[simp] theorem modPorts_auxf (g : Store Port → Store Port) (s : State) : (s.modPorts g).auxf = s.auxf := rfl
@[simp] theorem modPorts_groups (g : Store Port → Store Port) (s : State) : (s.modPorts g).groups = s.groups := rfl
@[simp] theorem modPorts_dram (g : Store Port → Store Port) (s : State) : (s.modPorts g).dram = s.dram := rfl
@[simp] theorem modPorts_dramMem (g : Store Port → Store Port) (s : State) : (s.modPorts g).dramMem = s.dramMem := rfl
@[simp] theorem modPorts_recs (g : Store Port → Store Port) (s : State) : (s.modPorts g).recs = s.recs := rfl
@[simp] theorem modPorts_link (g : Store Port → Store Port) (s : State) : (s.modPorts g).link = s.link := rfl
@[simp] theorem modPorts_dist (g : Store Port → Store Port) (s : State) : (s.modPorts g).dist = s.dist := rfl
@[simp] theorem modPorts_whorl (g : Store Port → Store Port) (s : State) : (s.modPorts g).whorl = s.whorl := rfl
@[simp] theorem modPorts_latch (g : Store Port → Store Port) (s : State) : (s.modPorts g).latch = s.latch := rfl
@[simp] theorem modPorts_trust (g : Store Port → Store Port) (s : State) : (s.modPorts g).trust = s.trust := rfl
@[simp] theorem modPorts_power (g : Store Port → Store Port) (s : State) : (s.modPorts g).power = s.power := rfl
@[simp] theorem modPorts_nv (g : Store Port → Store Port) (s : State) : (s.modPorts g).nv = s.nv := rfl
@[simp] theorem modPorts_nvCtl (g : Store Port → Store Port) (s : State) : (s.modPorts g).nvCtl = s.nvCtl := rfl
@[simp] theorem modPorts_boot (g : Store Port → Store Port) (s : State) : (s.modPorts g).boot = s.boot := rfl
@[simp] theorem modPorts_cal (g : Store Port → Store Port) (s : State) : (s.modPorts g).cal = s.cal := rfl
@[simp] theorem modPorts_side (g : Store Port → Store Port) (s : State) : (s.modPorts g).side = s.side := rfl
@[simp] theorem modPorts_counters (g : Store Port → Store Port) (s : State) :
    (s.modPorts g).counters = s.counters := rfl
@[simp] theorem modPorts_pending (g : Store Port → Store Port) (s : State) : (s.modPorts g).pending = s.pending := rfl

@[simp] theorem modLamps_clock (g : Store Board → Store Board) (s : State) : (s.modLamps g).clock = s.clock := rfl
@[simp] theorem modLamps_dev (g : Store Board → Store Board) (s : State) : (s.modLamps g).dev = s.dev := rfl
@[simp] theorem modLamps_spindle (g : Store Board → Store Board) (s : State) : (s.modLamps g).spindle = s.spindle := rfl
@[simp] theorem modLamps_flyers (g : Store Board → Store Board) (s : State) : (s.modLamps g).flyers = s.flyers := rfl
@[simp] theorem modLamps_skein (g : Store Board → Store Board) (s : State) : (s.modLamps g).skein = s.skein := rfl
@[simp] theorem modLamps_arb (g : Store Board → Store Board) (s : State) : (s.modLamps g).arb = s.arb := rfl
@[simp] theorem modLamps_order (g : Store Board → Store Board) (s : State) : (s.modLamps g).order = s.order := rfl
@[simp] theorem modLamps_hop (g : Store Board → Store Board) (s : State) : (s.modLamps g).hop = s.hop := rfl
@[simp] theorem modLamps_hopHold (g : Store Board → Store Board) (s : State) : (s.modLamps g).hopHold = s.hopHold := rfl
@[simp] theorem modLamps_ports (g : Store Board → Store Board) (s : State) : (s.modLamps g).ports = s.ports := rfl
@[simp] theorem modLamps_lamps (g : Store Board → Store Board) (s : State) : (s.modLamps g).lamps = g s.lamps := rfl
@[simp] theorem modLamps_chans (g : Store Board → Store Board) (s : State) : (s.modLamps g).chans = s.chans := rfl
@[simp] theorem modLamps_banks (g : Store Board → Store Board) (s : State) : (s.modLamps g).banks = s.banks := rfl
@[simp] theorem modLamps_pllLocked (g : Store Board → Store Board) (s : State) :
    (s.modLamps g).pllLocked = s.pllLocked := rfl
@[simp] theorem modLamps_marks (g : Store Board → Store Board) (s : State) : (s.modLamps g).marks = s.marks := rfl
@[simp] theorem modLamps_hk (g : Store Board → Store Board) (s : State) : (s.modLamps g).hk = s.hk := rfl
@[simp] theorem modLamps_runs (g : Store Board → Store Board) (s : State) : (s.modLamps g).runs = s.runs := rfl
@[simp] theorem modLamps_auxf (g : Store Board → Store Board) (s : State) : (s.modLamps g).auxf = s.auxf := rfl
@[simp] theorem modLamps_groups (g : Store Board → Store Board) (s : State) : (s.modLamps g).groups = s.groups := rfl
@[simp] theorem modLamps_dram (g : Store Board → Store Board) (s : State) : (s.modLamps g).dram = s.dram := rfl
@[simp] theorem modLamps_dramMem (g : Store Board → Store Board) (s : State) : (s.modLamps g).dramMem = s.dramMem := rfl
@[simp] theorem modLamps_recs (g : Store Board → Store Board) (s : State) : (s.modLamps g).recs = s.recs := rfl
@[simp] theorem modLamps_link (g : Store Board → Store Board) (s : State) : (s.modLamps g).link = s.link := rfl
@[simp] theorem modLamps_dist (g : Store Board → Store Board) (s : State) : (s.modLamps g).dist = s.dist := rfl
@[simp] theorem modLamps_whorl (g : Store Board → Store Board) (s : State) : (s.modLamps g).whorl = s.whorl := rfl
@[simp] theorem modLamps_latch (g : Store Board → Store Board) (s : State) : (s.modLamps g).latch = s.latch := rfl
@[simp] theorem modLamps_trust (g : Store Board → Store Board) (s : State) : (s.modLamps g).trust = s.trust := rfl
@[simp] theorem modLamps_power (g : Store Board → Store Board) (s : State) : (s.modLamps g).power = s.power := rfl
@[simp] theorem modLamps_nv (g : Store Board → Store Board) (s : State) : (s.modLamps g).nv = s.nv := rfl
@[simp] theorem modLamps_nvCtl (g : Store Board → Store Board) (s : State) : (s.modLamps g).nvCtl = s.nvCtl := rfl
@[simp] theorem modLamps_boot (g : Store Board → Store Board) (s : State) : (s.modLamps g).boot = s.boot := rfl
@[simp] theorem modLamps_cal (g : Store Board → Store Board) (s : State) : (s.modLamps g).cal = s.cal := rfl
@[simp] theorem modLamps_side (g : Store Board → Store Board) (s : State) : (s.modLamps g).side = s.side := rfl
@[simp] theorem modLamps_counters (g : Store Board → Store Board) (s : State) :
    (s.modLamps g).counters = s.counters := rfl
@[simp] theorem modLamps_pending (g : Store Board → Store Board) (s : State) : (s.modLamps g).pending = s.pending := rfl

@[simp] theorem modChans_clock (g : Store Channel → Store Channel) (s : State) : (s.modChans g).clock = s.clock := rfl
@[simp] theorem modChans_dev (g : Store Channel → Store Channel) (s : State) : (s.modChans g).dev = s.dev := rfl
@[simp] theorem modChans_spindle (g : Store Channel → Store Channel) (s : State) :
    (s.modChans g).spindle = s.spindle := rfl
@[simp] theorem modChans_flyers (g : Store Channel → Store Channel) (s : State) :
    (s.modChans g).flyers = s.flyers := rfl
@[simp] theorem modChans_skein (g : Store Channel → Store Channel) (s : State) : (s.modChans g).skein = s.skein := rfl
@[simp] theorem modChans_arb (g : Store Channel → Store Channel) (s : State) : (s.modChans g).arb = s.arb := rfl
@[simp] theorem modChans_order (g : Store Channel → Store Channel) (s : State) : (s.modChans g).order = s.order := rfl
@[simp] theorem modChans_hop (g : Store Channel → Store Channel) (s : State) : (s.modChans g).hop = s.hop := rfl
@[simp] theorem modChans_hopHold (g : Store Channel → Store Channel) (s : State) :
    (s.modChans g).hopHold = s.hopHold := rfl
@[simp] theorem modChans_ports (g : Store Channel → Store Channel) (s : State) : (s.modChans g).ports = s.ports := rfl
@[simp] theorem modChans_lamps (g : Store Channel → Store Channel) (s : State) : (s.modChans g).lamps = s.lamps := rfl
@[simp] theorem modChans_chans (g : Store Channel → Store Channel) (s : State) : (s.modChans g).chans = g s.chans := rfl
@[simp] theorem modChans_banks (g : Store Channel → Store Channel) (s : State) : (s.modChans g).banks = s.banks := rfl
@[simp] theorem modChans_pllLocked (g : Store Channel → Store Channel) (s : State) :
    (s.modChans g).pllLocked = s.pllLocked := rfl
@[simp] theorem modChans_marks (g : Store Channel → Store Channel) (s : State) : (s.modChans g).marks = s.marks := rfl
@[simp] theorem modChans_hk (g : Store Channel → Store Channel) (s : State) : (s.modChans g).hk = s.hk := rfl
@[simp] theorem modChans_runs (g : Store Channel → Store Channel) (s : State) : (s.modChans g).runs = s.runs := rfl
@[simp] theorem modChans_auxf (g : Store Channel → Store Channel) (s : State) : (s.modChans g).auxf = s.auxf := rfl
@[simp] theorem modChans_groups (g : Store Channel → Store Channel) (s : State) :
    (s.modChans g).groups = s.groups := rfl
@[simp] theorem modChans_dram (g : Store Channel → Store Channel) (s : State) : (s.modChans g).dram = s.dram := rfl
@[simp] theorem modChans_dramMem (g : Store Channel → Store Channel) (s : State) :
    (s.modChans g).dramMem = s.dramMem := rfl
@[simp] theorem modChans_recs (g : Store Channel → Store Channel) (s : State) : (s.modChans g).recs = s.recs := rfl
@[simp] theorem modChans_link (g : Store Channel → Store Channel) (s : State) : (s.modChans g).link = s.link := rfl
@[simp] theorem modChans_dist (g : Store Channel → Store Channel) (s : State) : (s.modChans g).dist = s.dist := rfl
@[simp] theorem modChans_whorl (g : Store Channel → Store Channel) (s : State) : (s.modChans g).whorl = s.whorl := rfl
@[simp] theorem modChans_latch (g : Store Channel → Store Channel) (s : State) : (s.modChans g).latch = s.latch := rfl
@[simp] theorem modChans_trust (g : Store Channel → Store Channel) (s : State) : (s.modChans g).trust = s.trust := rfl
@[simp] theorem modChans_power (g : Store Channel → Store Channel) (s : State) : (s.modChans g).power = s.power := rfl
@[simp] theorem modChans_nv (g : Store Channel → Store Channel) (s : State) : (s.modChans g).nv = s.nv := rfl
@[simp] theorem modChans_nvCtl (g : Store Channel → Store Channel) (s : State) : (s.modChans g).nvCtl = s.nvCtl := rfl
@[simp] theorem modChans_boot (g : Store Channel → Store Channel) (s : State) : (s.modChans g).boot = s.boot := rfl
@[simp] theorem modChans_cal (g : Store Channel → Store Channel) (s : State) : (s.modChans g).cal = s.cal := rfl
@[simp] theorem modChans_side (g : Store Channel → Store Channel) (s : State) : (s.modChans g).side = s.side := rfl
@[simp] theorem modChans_counters (g : Store Channel → Store Channel) (s : State) :
    (s.modChans g).counters = s.counters := rfl
@[simp] theorem modChans_pending (g : Store Channel → Store Channel) (s : State) :
    (s.modChans g).pending = s.pending := rfl

@[simp] theorem modBanks_clock (g : Store Bank → Store Bank) (s : State) : (s.modBanks g).clock = s.clock := rfl
@[simp] theorem modBanks_dev (g : Store Bank → Store Bank) (s : State) : (s.modBanks g).dev = s.dev := rfl
@[simp] theorem modBanks_spindle (g : Store Bank → Store Bank) (s : State) : (s.modBanks g).spindle = s.spindle := rfl
@[simp] theorem modBanks_flyers (g : Store Bank → Store Bank) (s : State) : (s.modBanks g).flyers = s.flyers := rfl
@[simp] theorem modBanks_skein (g : Store Bank → Store Bank) (s : State) : (s.modBanks g).skein = s.skein := rfl
@[simp] theorem modBanks_arb (g : Store Bank → Store Bank) (s : State) : (s.modBanks g).arb = s.arb := rfl
@[simp] theorem modBanks_order (g : Store Bank → Store Bank) (s : State) : (s.modBanks g).order = s.order := rfl
@[simp] theorem modBanks_hop (g : Store Bank → Store Bank) (s : State) : (s.modBanks g).hop = s.hop := rfl
@[simp] theorem modBanks_hopHold (g : Store Bank → Store Bank) (s : State) : (s.modBanks g).hopHold = s.hopHold := rfl
@[simp] theorem modBanks_ports (g : Store Bank → Store Bank) (s : State) : (s.modBanks g).ports = s.ports := rfl
@[simp] theorem modBanks_lamps (g : Store Bank → Store Bank) (s : State) : (s.modBanks g).lamps = s.lamps := rfl
@[simp] theorem modBanks_chans (g : Store Bank → Store Bank) (s : State) : (s.modBanks g).chans = s.chans := rfl
@[simp] theorem modBanks_banks (g : Store Bank → Store Bank) (s : State) : (s.modBanks g).banks = g s.banks := rfl
@[simp] theorem modBanks_pllLocked (g : Store Bank → Store Bank) (s : State) :
    (s.modBanks g).pllLocked = s.pllLocked := rfl
@[simp] theorem modBanks_marks (g : Store Bank → Store Bank) (s : State) : (s.modBanks g).marks = s.marks := rfl
@[simp] theorem modBanks_hk (g : Store Bank → Store Bank) (s : State) : (s.modBanks g).hk = s.hk := rfl
@[simp] theorem modBanks_runs (g : Store Bank → Store Bank) (s : State) : (s.modBanks g).runs = s.runs := rfl
@[simp] theorem modBanks_auxf (g : Store Bank → Store Bank) (s : State) : (s.modBanks g).auxf = s.auxf := rfl
@[simp] theorem modBanks_groups (g : Store Bank → Store Bank) (s : State) : (s.modBanks g).groups = s.groups := rfl
@[simp] theorem modBanks_dram (g : Store Bank → Store Bank) (s : State) : (s.modBanks g).dram = s.dram := rfl
@[simp] theorem modBanks_dramMem (g : Store Bank → Store Bank) (s : State) : (s.modBanks g).dramMem = s.dramMem := rfl
@[simp] theorem modBanks_recs (g : Store Bank → Store Bank) (s : State) : (s.modBanks g).recs = s.recs := rfl
@[simp] theorem modBanks_link (g : Store Bank → Store Bank) (s : State) : (s.modBanks g).link = s.link := rfl
@[simp] theorem modBanks_dist (g : Store Bank → Store Bank) (s : State) : (s.modBanks g).dist = s.dist := rfl
@[simp] theorem modBanks_whorl (g : Store Bank → Store Bank) (s : State) : (s.modBanks g).whorl = s.whorl := rfl
@[simp] theorem modBanks_latch (g : Store Bank → Store Bank) (s : State) : (s.modBanks g).latch = s.latch := rfl
@[simp] theorem modBanks_trust (g : Store Bank → Store Bank) (s : State) : (s.modBanks g).trust = s.trust := rfl
@[simp] theorem modBanks_power (g : Store Bank → Store Bank) (s : State) : (s.modBanks g).power = s.power := rfl
@[simp] theorem modBanks_nv (g : Store Bank → Store Bank) (s : State) : (s.modBanks g).nv = s.nv := rfl
@[simp] theorem modBanks_nvCtl (g : Store Bank → Store Bank) (s : State) : (s.modBanks g).nvCtl = s.nvCtl := rfl
@[simp] theorem modBanks_boot (g : Store Bank → Store Bank) (s : State) : (s.modBanks g).boot = s.boot := rfl
@[simp] theorem modBanks_cal (g : Store Bank → Store Bank) (s : State) : (s.modBanks g).cal = s.cal := rfl
@[simp] theorem modBanks_side (g : Store Bank → Store Bank) (s : State) : (s.modBanks g).side = s.side := rfl
@[simp] theorem modBanks_counters (g : Store Bank → Store Bank) (s : State) :
    (s.modBanks g).counters = s.counters := rfl
@[simp] theorem modBanks_pending (g : Store Bank → Store Bank) (s : State) : (s.modBanks g).pending = s.pending := rfl

@[simp] theorem modPllLocked_clock (g : Bool → Bool) (s : State) : (s.modPllLocked g).clock = s.clock := rfl
@[simp] theorem modPllLocked_dev (g : Bool → Bool) (s : State) : (s.modPllLocked g).dev = s.dev := rfl
@[simp] theorem modPllLocked_spindle (g : Bool → Bool) (s : State) : (s.modPllLocked g).spindle = s.spindle := rfl
@[simp] theorem modPllLocked_flyers (g : Bool → Bool) (s : State) : (s.modPllLocked g).flyers = s.flyers := rfl
@[simp] theorem modPllLocked_skein (g : Bool → Bool) (s : State) : (s.modPllLocked g).skein = s.skein := rfl
@[simp] theorem modPllLocked_arb (g : Bool → Bool) (s : State) : (s.modPllLocked g).arb = s.arb := rfl
@[simp] theorem modPllLocked_order (g : Bool → Bool) (s : State) : (s.modPllLocked g).order = s.order := rfl
@[simp] theorem modPllLocked_hop (g : Bool → Bool) (s : State) : (s.modPllLocked g).hop = s.hop := rfl
@[simp] theorem modPllLocked_hopHold (g : Bool → Bool) (s : State) : (s.modPllLocked g).hopHold = s.hopHold := rfl
@[simp] theorem modPllLocked_ports (g : Bool → Bool) (s : State) : (s.modPllLocked g).ports = s.ports := rfl
@[simp] theorem modPllLocked_lamps (g : Bool → Bool) (s : State) : (s.modPllLocked g).lamps = s.lamps := rfl
@[simp] theorem modPllLocked_chans (g : Bool → Bool) (s : State) : (s.modPllLocked g).chans = s.chans := rfl
@[simp] theorem modPllLocked_banks (g : Bool → Bool) (s : State) : (s.modPllLocked g).banks = s.banks := rfl
@[simp] theorem modPllLocked_pllLocked (g : Bool → Bool) (s : State) :
    (s.modPllLocked g).pllLocked = g s.pllLocked := rfl
@[simp] theorem modPllLocked_marks (g : Bool → Bool) (s : State) : (s.modPllLocked g).marks = s.marks := rfl
@[simp] theorem modPllLocked_hk (g : Bool → Bool) (s : State) : (s.modPllLocked g).hk = s.hk := rfl
@[simp] theorem modPllLocked_runs (g : Bool → Bool) (s : State) : (s.modPllLocked g).runs = s.runs := rfl
@[simp] theorem modPllLocked_auxf (g : Bool → Bool) (s : State) : (s.modPllLocked g).auxf = s.auxf := rfl
@[simp] theorem modPllLocked_groups (g : Bool → Bool) (s : State) : (s.modPllLocked g).groups = s.groups := rfl
@[simp] theorem modPllLocked_dram (g : Bool → Bool) (s : State) : (s.modPllLocked g).dram = s.dram := rfl
@[simp] theorem modPllLocked_dramMem (g : Bool → Bool) (s : State) : (s.modPllLocked g).dramMem = s.dramMem := rfl
@[simp] theorem modPllLocked_recs (g : Bool → Bool) (s : State) : (s.modPllLocked g).recs = s.recs := rfl
@[simp] theorem modPllLocked_link (g : Bool → Bool) (s : State) : (s.modPllLocked g).link = s.link := rfl
@[simp] theorem modPllLocked_dist (g : Bool → Bool) (s : State) : (s.modPllLocked g).dist = s.dist := rfl
@[simp] theorem modPllLocked_whorl (g : Bool → Bool) (s : State) : (s.modPllLocked g).whorl = s.whorl := rfl
@[simp] theorem modPllLocked_latch (g : Bool → Bool) (s : State) : (s.modPllLocked g).latch = s.latch := rfl
@[simp] theorem modPllLocked_trust (g : Bool → Bool) (s : State) : (s.modPllLocked g).trust = s.trust := rfl
@[simp] theorem modPllLocked_power (g : Bool → Bool) (s : State) : (s.modPllLocked g).power = s.power := rfl
@[simp] theorem modPllLocked_nv (g : Bool → Bool) (s : State) : (s.modPllLocked g).nv = s.nv := rfl
@[simp] theorem modPllLocked_nvCtl (g : Bool → Bool) (s : State) : (s.modPllLocked g).nvCtl = s.nvCtl := rfl
@[simp] theorem modPllLocked_boot (g : Bool → Bool) (s : State) : (s.modPllLocked g).boot = s.boot := rfl
@[simp] theorem modPllLocked_cal (g : Bool → Bool) (s : State) : (s.modPllLocked g).cal = s.cal := rfl
@[simp] theorem modPllLocked_side (g : Bool → Bool) (s : State) : (s.modPllLocked g).side = s.side := rfl
@[simp] theorem modPllLocked_counters (g : Bool → Bool) (s : State) : (s.modPllLocked g).counters = s.counters := rfl
@[simp] theorem modPllLocked_pending (g : Bool → Bool) (s : State) : (s.modPllLocked g).pending = s.pending := rfl

@[simp] theorem modMarks_clock (g : List Mark → List Mark) (s : State) : (s.modMarks g).clock = s.clock := rfl
@[simp] theorem modMarks_dev (g : List Mark → List Mark) (s : State) : (s.modMarks g).dev = s.dev := rfl
@[simp] theorem modMarks_spindle (g : List Mark → List Mark) (s : State) : (s.modMarks g).spindle = s.spindle := rfl
@[simp] theorem modMarks_flyers (g : List Mark → List Mark) (s : State) : (s.modMarks g).flyers = s.flyers := rfl
@[simp] theorem modMarks_skein (g : List Mark → List Mark) (s : State) : (s.modMarks g).skein = s.skein := rfl
@[simp] theorem modMarks_arb (g : List Mark → List Mark) (s : State) : (s.modMarks g).arb = s.arb := rfl
@[simp] theorem modMarks_order (g : List Mark → List Mark) (s : State) : (s.modMarks g).order = s.order := rfl
@[simp] theorem modMarks_hop (g : List Mark → List Mark) (s : State) : (s.modMarks g).hop = s.hop := rfl
@[simp] theorem modMarks_hopHold (g : List Mark → List Mark) (s : State) : (s.modMarks g).hopHold = s.hopHold := rfl
@[simp] theorem modMarks_ports (g : List Mark → List Mark) (s : State) : (s.modMarks g).ports = s.ports := rfl
@[simp] theorem modMarks_lamps (g : List Mark → List Mark) (s : State) : (s.modMarks g).lamps = s.lamps := rfl
@[simp] theorem modMarks_chans (g : List Mark → List Mark) (s : State) : (s.modMarks g).chans = s.chans := rfl
@[simp] theorem modMarks_banks (g : List Mark → List Mark) (s : State) : (s.modMarks g).banks = s.banks := rfl
@[simp] theorem modMarks_pllLocked (g : List Mark → List Mark) (s : State) :
    (s.modMarks g).pllLocked = s.pllLocked := rfl
@[simp] theorem modMarks_marks (g : List Mark → List Mark) (s : State) : (s.modMarks g).marks = g s.marks := rfl
@[simp] theorem modMarks_hk (g : List Mark → List Mark) (s : State) : (s.modMarks g).hk = s.hk := rfl
@[simp] theorem modMarks_runs (g : List Mark → List Mark) (s : State) : (s.modMarks g).runs = s.runs := rfl
@[simp] theorem modMarks_auxf (g : List Mark → List Mark) (s : State) : (s.modMarks g).auxf = s.auxf := rfl
@[simp] theorem modMarks_groups (g : List Mark → List Mark) (s : State) : (s.modMarks g).groups = s.groups := rfl
@[simp] theorem modMarks_dram (g : List Mark → List Mark) (s : State) : (s.modMarks g).dram = s.dram := rfl
@[simp] theorem modMarks_dramMem (g : List Mark → List Mark) (s : State) : (s.modMarks g).dramMem = s.dramMem := rfl
@[simp] theorem modMarks_recs (g : List Mark → List Mark) (s : State) : (s.modMarks g).recs = s.recs := rfl
@[simp] theorem modMarks_link (g : List Mark → List Mark) (s : State) : (s.modMarks g).link = s.link := rfl
@[simp] theorem modMarks_dist (g : List Mark → List Mark) (s : State) : (s.modMarks g).dist = s.dist := rfl
@[simp] theorem modMarks_whorl (g : List Mark → List Mark) (s : State) : (s.modMarks g).whorl = s.whorl := rfl
@[simp] theorem modMarks_latch (g : List Mark → List Mark) (s : State) : (s.modMarks g).latch = s.latch := rfl
@[simp] theorem modMarks_trust (g : List Mark → List Mark) (s : State) : (s.modMarks g).trust = s.trust := rfl
@[simp] theorem modMarks_power (g : List Mark → List Mark) (s : State) : (s.modMarks g).power = s.power := rfl
@[simp] theorem modMarks_nv (g : List Mark → List Mark) (s : State) : (s.modMarks g).nv = s.nv := rfl
@[simp] theorem modMarks_nvCtl (g : List Mark → List Mark) (s : State) : (s.modMarks g).nvCtl = s.nvCtl := rfl
@[simp] theorem modMarks_boot (g : List Mark → List Mark) (s : State) : (s.modMarks g).boot = s.boot := rfl
@[simp] theorem modMarks_cal (g : List Mark → List Mark) (s : State) : (s.modMarks g).cal = s.cal := rfl
@[simp] theorem modMarks_side (g : List Mark → List Mark) (s : State) : (s.modMarks g).side = s.side := rfl
@[simp] theorem modMarks_counters (g : List Mark → List Mark) (s : State) : (s.modMarks g).counters = s.counters := rfl
@[simp] theorem modMarks_pending (g : List Mark → List Mark) (s : State) : (s.modMarks g).pending = s.pending := rfl

@[simp] theorem modHk_clock (g : Housekeeping → Housekeeping) (s : State) : (s.modHk g).clock = s.clock := rfl
@[simp] theorem modHk_dev (g : Housekeeping → Housekeeping) (s : State) : (s.modHk g).dev = s.dev := rfl
@[simp] theorem modHk_spindle (g : Housekeeping → Housekeeping) (s : State) : (s.modHk g).spindle = s.spindle := rfl
@[simp] theorem modHk_flyers (g : Housekeeping → Housekeeping) (s : State) : (s.modHk g).flyers = s.flyers := rfl
@[simp] theorem modHk_skein (g : Housekeeping → Housekeeping) (s : State) : (s.modHk g).skein = s.skein := rfl
@[simp] theorem modHk_arb (g : Housekeeping → Housekeeping) (s : State) : (s.modHk g).arb = s.arb := rfl
@[simp] theorem modHk_order (g : Housekeeping → Housekeeping) (s : State) : (s.modHk g).order = s.order := rfl
@[simp] theorem modHk_hop (g : Housekeeping → Housekeeping) (s : State) : (s.modHk g).hop = s.hop := rfl
@[simp] theorem modHk_hopHold (g : Housekeeping → Housekeeping) (s : State) : (s.modHk g).hopHold = s.hopHold := rfl
@[simp] theorem modHk_ports (g : Housekeeping → Housekeeping) (s : State) : (s.modHk g).ports = s.ports := rfl
@[simp] theorem modHk_lamps (g : Housekeeping → Housekeeping) (s : State) : (s.modHk g).lamps = s.lamps := rfl
@[simp] theorem modHk_chans (g : Housekeeping → Housekeeping) (s : State) : (s.modHk g).chans = s.chans := rfl
@[simp] theorem modHk_banks (g : Housekeeping → Housekeeping) (s : State) : (s.modHk g).banks = s.banks := rfl
@[simp] theorem modHk_pllLocked (g : Housekeeping → Housekeeping) (s : State) :
    (s.modHk g).pllLocked = s.pllLocked := rfl
@[simp] theorem modHk_marks (g : Housekeeping → Housekeeping) (s : State) : (s.modHk g).marks = s.marks := rfl
@[simp] theorem modHk_hk (g : Housekeeping → Housekeeping) (s : State) : (s.modHk g).hk = g s.hk := rfl
@[simp] theorem modHk_runs (g : Housekeeping → Housekeeping) (s : State) : (s.modHk g).runs = s.runs := rfl
@[simp] theorem modHk_auxf (g : Housekeeping → Housekeeping) (s : State) : (s.modHk g).auxf = s.auxf := rfl
@[simp] theorem modHk_groups (g : Housekeeping → Housekeeping) (s : State) : (s.modHk g).groups = s.groups := rfl
@[simp] theorem modHk_dram (g : Housekeeping → Housekeeping) (s : State) : (s.modHk g).dram = s.dram := rfl
@[simp] theorem modHk_dramMem (g : Housekeeping → Housekeeping) (s : State) : (s.modHk g).dramMem = s.dramMem := rfl
@[simp] theorem modHk_recs (g : Housekeeping → Housekeeping) (s : State) : (s.modHk g).recs = s.recs := rfl
@[simp] theorem modHk_link (g : Housekeeping → Housekeeping) (s : State) : (s.modHk g).link = s.link := rfl
@[simp] theorem modHk_dist (g : Housekeeping → Housekeeping) (s : State) : (s.modHk g).dist = s.dist := rfl
@[simp] theorem modHk_whorl (g : Housekeeping → Housekeeping) (s : State) : (s.modHk g).whorl = s.whorl := rfl
@[simp] theorem modHk_latch (g : Housekeeping → Housekeeping) (s : State) : (s.modHk g).latch = s.latch := rfl
@[simp] theorem modHk_trust (g : Housekeeping → Housekeeping) (s : State) : (s.modHk g).trust = s.trust := rfl
@[simp] theorem modHk_power (g : Housekeeping → Housekeeping) (s : State) : (s.modHk g).power = s.power := rfl
@[simp] theorem modHk_nv (g : Housekeeping → Housekeeping) (s : State) : (s.modHk g).nv = s.nv := rfl
@[simp] theorem modHk_nvCtl (g : Housekeeping → Housekeeping) (s : State) : (s.modHk g).nvCtl = s.nvCtl := rfl
@[simp] theorem modHk_boot (g : Housekeeping → Housekeeping) (s : State) : (s.modHk g).boot = s.boot := rfl
@[simp] theorem modHk_cal (g : Housekeeping → Housekeeping) (s : State) : (s.modHk g).cal = s.cal := rfl
@[simp] theorem modHk_side (g : Housekeeping → Housekeeping) (s : State) : (s.modHk g).side = s.side := rfl
@[simp] theorem modHk_counters (g : Housekeeping → Housekeeping) (s : State) : (s.modHk g).counters = s.counters := rfl
@[simp] theorem modHk_pending (g : Housekeeping → Housekeeping) (s : State) : (s.modHk g).pending = s.pending := rfl

@[simp] theorem modRuns_clock (g : List StatRun → List StatRun) (s : State) : (s.modRuns g).clock = s.clock := rfl
@[simp] theorem modRuns_dev (g : List StatRun → List StatRun) (s : State) : (s.modRuns g).dev = s.dev := rfl
@[simp] theorem modRuns_spindle (g : List StatRun → List StatRun) (s : State) : (s.modRuns g).spindle = s.spindle := rfl
@[simp] theorem modRuns_flyers (g : List StatRun → List StatRun) (s : State) : (s.modRuns g).flyers = s.flyers := rfl
@[simp] theorem modRuns_skein (g : List StatRun → List StatRun) (s : State) : (s.modRuns g).skein = s.skein := rfl
@[simp] theorem modRuns_arb (g : List StatRun → List StatRun) (s : State) : (s.modRuns g).arb = s.arb := rfl
@[simp] theorem modRuns_order (g : List StatRun → List StatRun) (s : State) : (s.modRuns g).order = s.order := rfl
@[simp] theorem modRuns_hop (g : List StatRun → List StatRun) (s : State) : (s.modRuns g).hop = s.hop := rfl
@[simp] theorem modRuns_hopHold (g : List StatRun → List StatRun) (s : State) : (s.modRuns g).hopHold = s.hopHold := rfl
@[simp] theorem modRuns_ports (g : List StatRun → List StatRun) (s : State) : (s.modRuns g).ports = s.ports := rfl
@[simp] theorem modRuns_lamps (g : List StatRun → List StatRun) (s : State) : (s.modRuns g).lamps = s.lamps := rfl
@[simp] theorem modRuns_chans (g : List StatRun → List StatRun) (s : State) : (s.modRuns g).chans = s.chans := rfl
@[simp] theorem modRuns_banks (g : List StatRun → List StatRun) (s : State) : (s.modRuns g).banks = s.banks := rfl
@[simp] theorem modRuns_pllLocked (g : List StatRun → List StatRun) (s : State) :
    (s.modRuns g).pllLocked = s.pllLocked := rfl
@[simp] theorem modRuns_marks (g : List StatRun → List StatRun) (s : State) : (s.modRuns g).marks = s.marks := rfl
@[simp] theorem modRuns_hk (g : List StatRun → List StatRun) (s : State) : (s.modRuns g).hk = s.hk := rfl
@[simp] theorem modRuns_runs (g : List StatRun → List StatRun) (s : State) : (s.modRuns g).runs = g s.runs := rfl
@[simp] theorem modRuns_auxf (g : List StatRun → List StatRun) (s : State) : (s.modRuns g).auxf = s.auxf := rfl
@[simp] theorem modRuns_groups (g : List StatRun → List StatRun) (s : State) : (s.modRuns g).groups = s.groups := rfl
@[simp] theorem modRuns_dram (g : List StatRun → List StatRun) (s : State) : (s.modRuns g).dram = s.dram := rfl
@[simp] theorem modRuns_dramMem (g : List StatRun → List StatRun) (s : State) : (s.modRuns g).dramMem = s.dramMem := rfl
@[simp] theorem modRuns_recs (g : List StatRun → List StatRun) (s : State) : (s.modRuns g).recs = s.recs := rfl
@[simp] theorem modRuns_link (g : List StatRun → List StatRun) (s : State) : (s.modRuns g).link = s.link := rfl
@[simp] theorem modRuns_dist (g : List StatRun → List StatRun) (s : State) : (s.modRuns g).dist = s.dist := rfl
@[simp] theorem modRuns_whorl (g : List StatRun → List StatRun) (s : State) : (s.modRuns g).whorl = s.whorl := rfl
@[simp] theorem modRuns_latch (g : List StatRun → List StatRun) (s : State) : (s.modRuns g).latch = s.latch := rfl
@[simp] theorem modRuns_trust (g : List StatRun → List StatRun) (s : State) : (s.modRuns g).trust = s.trust := rfl
@[simp] theorem modRuns_power (g : List StatRun → List StatRun) (s : State) : (s.modRuns g).power = s.power := rfl
@[simp] theorem modRuns_nv (g : List StatRun → List StatRun) (s : State) : (s.modRuns g).nv = s.nv := rfl
@[simp] theorem modRuns_nvCtl (g : List StatRun → List StatRun) (s : State) : (s.modRuns g).nvCtl = s.nvCtl := rfl
@[simp] theorem modRuns_boot (g : List StatRun → List StatRun) (s : State) : (s.modRuns g).boot = s.boot := rfl
@[simp] theorem modRuns_cal (g : List StatRun → List StatRun) (s : State) : (s.modRuns g).cal = s.cal := rfl
@[simp] theorem modRuns_side (g : List StatRun → List StatRun) (s : State) : (s.modRuns g).side = s.side := rfl
@[simp] theorem modRuns_counters (g : List StatRun → List StatRun) (s : State) :
    (s.modRuns g).counters = s.counters := rfl
@[simp] theorem modRuns_pending (g : List StatRun → List StatRun) (s : State) : (s.modRuns g).pending = s.pending := rfl

@[simp] theorem modAuxf_clock (g : Store Auxf → Store Auxf) (s : State) : (s.modAuxf g).clock = s.clock := rfl
@[simp] theorem modAuxf_dev (g : Store Auxf → Store Auxf) (s : State) : (s.modAuxf g).dev = s.dev := rfl
@[simp] theorem modAuxf_spindle (g : Store Auxf → Store Auxf) (s : State) : (s.modAuxf g).spindle = s.spindle := rfl
@[simp] theorem modAuxf_flyers (g : Store Auxf → Store Auxf) (s : State) : (s.modAuxf g).flyers = s.flyers := rfl
@[simp] theorem modAuxf_skein (g : Store Auxf → Store Auxf) (s : State) : (s.modAuxf g).skein = s.skein := rfl
@[simp] theorem modAuxf_arb (g : Store Auxf → Store Auxf) (s : State) : (s.modAuxf g).arb = s.arb := rfl
@[simp] theorem modAuxf_order (g : Store Auxf → Store Auxf) (s : State) : (s.modAuxf g).order = s.order := rfl
@[simp] theorem modAuxf_hop (g : Store Auxf → Store Auxf) (s : State) : (s.modAuxf g).hop = s.hop := rfl
@[simp] theorem modAuxf_hopHold (g : Store Auxf → Store Auxf) (s : State) : (s.modAuxf g).hopHold = s.hopHold := rfl
@[simp] theorem modAuxf_ports (g : Store Auxf → Store Auxf) (s : State) : (s.modAuxf g).ports = s.ports := rfl
@[simp] theorem modAuxf_lamps (g : Store Auxf → Store Auxf) (s : State) : (s.modAuxf g).lamps = s.lamps := rfl
@[simp] theorem modAuxf_chans (g : Store Auxf → Store Auxf) (s : State) : (s.modAuxf g).chans = s.chans := rfl
@[simp] theorem modAuxf_banks (g : Store Auxf → Store Auxf) (s : State) : (s.modAuxf g).banks = s.banks := rfl
@[simp] theorem modAuxf_pllLocked (g : Store Auxf → Store Auxf) (s : State) :
    (s.modAuxf g).pllLocked = s.pllLocked := rfl
@[simp] theorem modAuxf_marks (g : Store Auxf → Store Auxf) (s : State) : (s.modAuxf g).marks = s.marks := rfl
@[simp] theorem modAuxf_hk (g : Store Auxf → Store Auxf) (s : State) : (s.modAuxf g).hk = s.hk := rfl
@[simp] theorem modAuxf_runs (g : Store Auxf → Store Auxf) (s : State) : (s.modAuxf g).runs = s.runs := rfl
@[simp] theorem modAuxf_auxf (g : Store Auxf → Store Auxf) (s : State) : (s.modAuxf g).auxf = g s.auxf := rfl
@[simp] theorem modAuxf_groups (g : Store Auxf → Store Auxf) (s : State) : (s.modAuxf g).groups = s.groups := rfl
@[simp] theorem modAuxf_dram (g : Store Auxf → Store Auxf) (s : State) : (s.modAuxf g).dram = s.dram := rfl
@[simp] theorem modAuxf_dramMem (g : Store Auxf → Store Auxf) (s : State) : (s.modAuxf g).dramMem = s.dramMem := rfl
@[simp] theorem modAuxf_recs (g : Store Auxf → Store Auxf) (s : State) : (s.modAuxf g).recs = s.recs := rfl
@[simp] theorem modAuxf_link (g : Store Auxf → Store Auxf) (s : State) : (s.modAuxf g).link = s.link := rfl
@[simp] theorem modAuxf_dist (g : Store Auxf → Store Auxf) (s : State) : (s.modAuxf g).dist = s.dist := rfl
@[simp] theorem modAuxf_whorl (g : Store Auxf → Store Auxf) (s : State) : (s.modAuxf g).whorl = s.whorl := rfl
@[simp] theorem modAuxf_latch (g : Store Auxf → Store Auxf) (s : State) : (s.modAuxf g).latch = s.latch := rfl
@[simp] theorem modAuxf_trust (g : Store Auxf → Store Auxf) (s : State) : (s.modAuxf g).trust = s.trust := rfl
@[simp] theorem modAuxf_power (g : Store Auxf → Store Auxf) (s : State) : (s.modAuxf g).power = s.power := rfl
@[simp] theorem modAuxf_nv (g : Store Auxf → Store Auxf) (s : State) : (s.modAuxf g).nv = s.nv := rfl
@[simp] theorem modAuxf_nvCtl (g : Store Auxf → Store Auxf) (s : State) : (s.modAuxf g).nvCtl = s.nvCtl := rfl
@[simp] theorem modAuxf_boot (g : Store Auxf → Store Auxf) (s : State) : (s.modAuxf g).boot = s.boot := rfl
@[simp] theorem modAuxf_cal (g : Store Auxf → Store Auxf) (s : State) : (s.modAuxf g).cal = s.cal := rfl
@[simp] theorem modAuxf_side (g : Store Auxf → Store Auxf) (s : State) : (s.modAuxf g).side = s.side := rfl
@[simp] theorem modAuxf_counters (g : Store Auxf → Store Auxf) (s : State) : (s.modAuxf g).counters = s.counters := rfl
@[simp] theorem modAuxf_pending (g : Store Auxf → Store Auxf) (s : State) : (s.modAuxf g).pending = s.pending := rfl

@[simp] theorem modGroups_clock (g : Store Group → Store Group) (s : State) : (s.modGroups g).clock = s.clock := rfl
@[simp] theorem modGroups_dev (g : Store Group → Store Group) (s : State) : (s.modGroups g).dev = s.dev := rfl
@[simp] theorem modGroups_spindle (g : Store Group → Store Group) (s : State) :
    (s.modGroups g).spindle = s.spindle := rfl
@[simp] theorem modGroups_flyers (g : Store Group → Store Group) (s : State) : (s.modGroups g).flyers = s.flyers := rfl
@[simp] theorem modGroups_skein (g : Store Group → Store Group) (s : State) : (s.modGroups g).skein = s.skein := rfl
@[simp] theorem modGroups_arb (g : Store Group → Store Group) (s : State) : (s.modGroups g).arb = s.arb := rfl
@[simp] theorem modGroups_order (g : Store Group → Store Group) (s : State) : (s.modGroups g).order = s.order := rfl
@[simp] theorem modGroups_hop (g : Store Group → Store Group) (s : State) : (s.modGroups g).hop = s.hop := rfl
@[simp] theorem modGroups_hopHold (g : Store Group → Store Group) (s : State) :
    (s.modGroups g).hopHold = s.hopHold := rfl
@[simp] theorem modGroups_ports (g : Store Group → Store Group) (s : State) : (s.modGroups g).ports = s.ports := rfl
@[simp] theorem modGroups_lamps (g : Store Group → Store Group) (s : State) : (s.modGroups g).lamps = s.lamps := rfl
@[simp] theorem modGroups_chans (g : Store Group → Store Group) (s : State) : (s.modGroups g).chans = s.chans := rfl
@[simp] theorem modGroups_banks (g : Store Group → Store Group) (s : State) : (s.modGroups g).banks = s.banks := rfl
@[simp] theorem modGroups_pllLocked (g : Store Group → Store Group) (s : State) :
    (s.modGroups g).pllLocked = s.pllLocked := rfl
@[simp] theorem modGroups_marks (g : Store Group → Store Group) (s : State) : (s.modGroups g).marks = s.marks := rfl
@[simp] theorem modGroups_hk (g : Store Group → Store Group) (s : State) : (s.modGroups g).hk = s.hk := rfl
@[simp] theorem modGroups_runs (g : Store Group → Store Group) (s : State) : (s.modGroups g).runs = s.runs := rfl
@[simp] theorem modGroups_auxf (g : Store Group → Store Group) (s : State) : (s.modGroups g).auxf = s.auxf := rfl
@[simp] theorem modGroups_groups (g : Store Group → Store Group) (s : State) :
    (s.modGroups g).groups = g s.groups := rfl
@[simp] theorem modGroups_dram (g : Store Group → Store Group) (s : State) : (s.modGroups g).dram = s.dram := rfl
@[simp] theorem modGroups_dramMem (g : Store Group → Store Group) (s : State) :
    (s.modGroups g).dramMem = s.dramMem := rfl
@[simp] theorem modGroups_recs (g : Store Group → Store Group) (s : State) : (s.modGroups g).recs = s.recs := rfl
@[simp] theorem modGroups_link (g : Store Group → Store Group) (s : State) : (s.modGroups g).link = s.link := rfl
@[simp] theorem modGroups_dist (g : Store Group → Store Group) (s : State) : (s.modGroups g).dist = s.dist := rfl
@[simp] theorem modGroups_whorl (g : Store Group → Store Group) (s : State) : (s.modGroups g).whorl = s.whorl := rfl
@[simp] theorem modGroups_latch (g : Store Group → Store Group) (s : State) : (s.modGroups g).latch = s.latch := rfl
@[simp] theorem modGroups_trust (g : Store Group → Store Group) (s : State) : (s.modGroups g).trust = s.trust := rfl
@[simp] theorem modGroups_power (g : Store Group → Store Group) (s : State) : (s.modGroups g).power = s.power := rfl
@[simp] theorem modGroups_nv (g : Store Group → Store Group) (s : State) : (s.modGroups g).nv = s.nv := rfl
@[simp] theorem modGroups_nvCtl (g : Store Group → Store Group) (s : State) : (s.modGroups g).nvCtl = s.nvCtl := rfl
@[simp] theorem modGroups_boot (g : Store Group → Store Group) (s : State) : (s.modGroups g).boot = s.boot := rfl
@[simp] theorem modGroups_cal (g : Store Group → Store Group) (s : State) : (s.modGroups g).cal = s.cal := rfl
@[simp] theorem modGroups_side (g : Store Group → Store Group) (s : State) : (s.modGroups g).side = s.side := rfl
@[simp] theorem modGroups_counters (g : Store Group → Store Group) (s : State) :
    (s.modGroups g).counters = s.counters := rfl
@[simp] theorem modGroups_pending (g : Store Group → Store Group) (s : State) :
    (s.modGroups g).pending = s.pending := rfl

@[simp] theorem modDram_clock (g : Dram → Dram) (s : State) : (s.modDram g).clock = s.clock := rfl
@[simp] theorem modDram_dev (g : Dram → Dram) (s : State) : (s.modDram g).dev = s.dev := rfl
@[simp] theorem modDram_spindle (g : Dram → Dram) (s : State) : (s.modDram g).spindle = s.spindle := rfl
@[simp] theorem modDram_flyers (g : Dram → Dram) (s : State) : (s.modDram g).flyers = s.flyers := rfl
@[simp] theorem modDram_skein (g : Dram → Dram) (s : State) : (s.modDram g).skein = s.skein := rfl
@[simp] theorem modDram_arb (g : Dram → Dram) (s : State) : (s.modDram g).arb = s.arb := rfl
@[simp] theorem modDram_order (g : Dram → Dram) (s : State) : (s.modDram g).order = s.order := rfl
@[simp] theorem modDram_hop (g : Dram → Dram) (s : State) : (s.modDram g).hop = s.hop := rfl
@[simp] theorem modDram_hopHold (g : Dram → Dram) (s : State) : (s.modDram g).hopHold = s.hopHold := rfl
@[simp] theorem modDram_ports (g : Dram → Dram) (s : State) : (s.modDram g).ports = s.ports := rfl
@[simp] theorem modDram_lamps (g : Dram → Dram) (s : State) : (s.modDram g).lamps = s.lamps := rfl
@[simp] theorem modDram_chans (g : Dram → Dram) (s : State) : (s.modDram g).chans = s.chans := rfl
@[simp] theorem modDram_banks (g : Dram → Dram) (s : State) : (s.modDram g).banks = s.banks := rfl
@[simp] theorem modDram_pllLocked (g : Dram → Dram) (s : State) : (s.modDram g).pllLocked = s.pllLocked := rfl
@[simp] theorem modDram_marks (g : Dram → Dram) (s : State) : (s.modDram g).marks = s.marks := rfl
@[simp] theorem modDram_hk (g : Dram → Dram) (s : State) : (s.modDram g).hk = s.hk := rfl
@[simp] theorem modDram_runs (g : Dram → Dram) (s : State) : (s.modDram g).runs = s.runs := rfl
@[simp] theorem modDram_auxf (g : Dram → Dram) (s : State) : (s.modDram g).auxf = s.auxf := rfl
@[simp] theorem modDram_groups (g : Dram → Dram) (s : State) : (s.modDram g).groups = s.groups := rfl
@[simp] theorem modDram_dram (g : Dram → Dram) (s : State) : (s.modDram g).dram = g s.dram := rfl
@[simp] theorem modDram_dramMem (g : Dram → Dram) (s : State) : (s.modDram g).dramMem = s.dramMem := rfl
@[simp] theorem modDram_recs (g : Dram → Dram) (s : State) : (s.modDram g).recs = s.recs := rfl
@[simp] theorem modDram_link (g : Dram → Dram) (s : State) : (s.modDram g).link = s.link := rfl
@[simp] theorem modDram_dist (g : Dram → Dram) (s : State) : (s.modDram g).dist = s.dist := rfl
@[simp] theorem modDram_whorl (g : Dram → Dram) (s : State) : (s.modDram g).whorl = s.whorl := rfl
@[simp] theorem modDram_latch (g : Dram → Dram) (s : State) : (s.modDram g).latch = s.latch := rfl
@[simp] theorem modDram_trust (g : Dram → Dram) (s : State) : (s.modDram g).trust = s.trust := rfl
@[simp] theorem modDram_power (g : Dram → Dram) (s : State) : (s.modDram g).power = s.power := rfl
@[simp] theorem modDram_nv (g : Dram → Dram) (s : State) : (s.modDram g).nv = s.nv := rfl
@[simp] theorem modDram_nvCtl (g : Dram → Dram) (s : State) : (s.modDram g).nvCtl = s.nvCtl := rfl
@[simp] theorem modDram_boot (g : Dram → Dram) (s : State) : (s.modDram g).boot = s.boot := rfl
@[simp] theorem modDram_cal (g : Dram → Dram) (s : State) : (s.modDram g).cal = s.cal := rfl
@[simp] theorem modDram_side (g : Dram → Dram) (s : State) : (s.modDram g).side = s.side := rfl
@[simp] theorem modDram_counters (g : Dram → Dram) (s : State) : (s.modDram g).counters = s.counters := rfl
@[simp] theorem modDram_pending (g : Dram → Dram) (s : State) : (s.modDram g).pending = s.pending := rfl

@[simp] theorem modDramMem_clock (g : Mem → Mem) (s : State) : (s.modDramMem g).clock = s.clock := rfl
@[simp] theorem modDramMem_dev (g : Mem → Mem) (s : State) : (s.modDramMem g).dev = s.dev := rfl
@[simp] theorem modDramMem_spindle (g : Mem → Mem) (s : State) : (s.modDramMem g).spindle = s.spindle := rfl
@[simp] theorem modDramMem_flyers (g : Mem → Mem) (s : State) : (s.modDramMem g).flyers = s.flyers := rfl
@[simp] theorem modDramMem_skein (g : Mem → Mem) (s : State) : (s.modDramMem g).skein = s.skein := rfl
@[simp] theorem modDramMem_arb (g : Mem → Mem) (s : State) : (s.modDramMem g).arb = s.arb := rfl
@[simp] theorem modDramMem_order (g : Mem → Mem) (s : State) : (s.modDramMem g).order = s.order := rfl
@[simp] theorem modDramMem_hop (g : Mem → Mem) (s : State) : (s.modDramMem g).hop = s.hop := rfl
@[simp] theorem modDramMem_hopHold (g : Mem → Mem) (s : State) : (s.modDramMem g).hopHold = s.hopHold := rfl
@[simp] theorem modDramMem_ports (g : Mem → Mem) (s : State) : (s.modDramMem g).ports = s.ports := rfl
@[simp] theorem modDramMem_lamps (g : Mem → Mem) (s : State) : (s.modDramMem g).lamps = s.lamps := rfl
@[simp] theorem modDramMem_chans (g : Mem → Mem) (s : State) : (s.modDramMem g).chans = s.chans := rfl
@[simp] theorem modDramMem_banks (g : Mem → Mem) (s : State) : (s.modDramMem g).banks = s.banks := rfl
@[simp] theorem modDramMem_pllLocked (g : Mem → Mem) (s : State) : (s.modDramMem g).pllLocked = s.pllLocked := rfl
@[simp] theorem modDramMem_marks (g : Mem → Mem) (s : State) : (s.modDramMem g).marks = s.marks := rfl
@[simp] theorem modDramMem_hk (g : Mem → Mem) (s : State) : (s.modDramMem g).hk = s.hk := rfl
@[simp] theorem modDramMem_runs (g : Mem → Mem) (s : State) : (s.modDramMem g).runs = s.runs := rfl
@[simp] theorem modDramMem_auxf (g : Mem → Mem) (s : State) : (s.modDramMem g).auxf = s.auxf := rfl
@[simp] theorem modDramMem_groups (g : Mem → Mem) (s : State) : (s.modDramMem g).groups = s.groups := rfl
@[simp] theorem modDramMem_dram (g : Mem → Mem) (s : State) : (s.modDramMem g).dram = s.dram := rfl
@[simp] theorem modDramMem_dramMem (g : Mem → Mem) (s : State) : (s.modDramMem g).dramMem = g s.dramMem := rfl
@[simp] theorem modDramMem_recs (g : Mem → Mem) (s : State) : (s.modDramMem g).recs = s.recs := rfl
@[simp] theorem modDramMem_link (g : Mem → Mem) (s : State) : (s.modDramMem g).link = s.link := rfl
@[simp] theorem modDramMem_dist (g : Mem → Mem) (s : State) : (s.modDramMem g).dist = s.dist := rfl
@[simp] theorem modDramMem_whorl (g : Mem → Mem) (s : State) : (s.modDramMem g).whorl = s.whorl := rfl
@[simp] theorem modDramMem_latch (g : Mem → Mem) (s : State) : (s.modDramMem g).latch = s.latch := rfl
@[simp] theorem modDramMem_trust (g : Mem → Mem) (s : State) : (s.modDramMem g).trust = s.trust := rfl
@[simp] theorem modDramMem_power (g : Mem → Mem) (s : State) : (s.modDramMem g).power = s.power := rfl
@[simp] theorem modDramMem_nv (g : Mem → Mem) (s : State) : (s.modDramMem g).nv = s.nv := rfl
@[simp] theorem modDramMem_nvCtl (g : Mem → Mem) (s : State) : (s.modDramMem g).nvCtl = s.nvCtl := rfl
@[simp] theorem modDramMem_boot (g : Mem → Mem) (s : State) : (s.modDramMem g).boot = s.boot := rfl
@[simp] theorem modDramMem_cal (g : Mem → Mem) (s : State) : (s.modDramMem g).cal = s.cal := rfl
@[simp] theorem modDramMem_side (g : Mem → Mem) (s : State) : (s.modDramMem g).side = s.side := rfl
@[simp] theorem modDramMem_counters (g : Mem → Mem) (s : State) : (s.modDramMem g).counters = s.counters := rfl
@[simp] theorem modDramMem_pending (g : Mem → Mem) (s : State) : (s.modDramMem g).pending = s.pending := rfl

@[simp] theorem modRecs_clock (g : Records → Records) (s : State) : (s.modRecs g).clock = s.clock := rfl
@[simp] theorem modRecs_dev (g : Records → Records) (s : State) : (s.modRecs g).dev = s.dev := rfl
@[simp] theorem modRecs_spindle (g : Records → Records) (s : State) : (s.modRecs g).spindle = s.spindle := rfl
@[simp] theorem modRecs_flyers (g : Records → Records) (s : State) : (s.modRecs g).flyers = s.flyers := rfl
@[simp] theorem modRecs_skein (g : Records → Records) (s : State) : (s.modRecs g).skein = s.skein := rfl
@[simp] theorem modRecs_arb (g : Records → Records) (s : State) : (s.modRecs g).arb = s.arb := rfl
@[simp] theorem modRecs_order (g : Records → Records) (s : State) : (s.modRecs g).order = s.order := rfl
@[simp] theorem modRecs_hop (g : Records → Records) (s : State) : (s.modRecs g).hop = s.hop := rfl
@[simp] theorem modRecs_hopHold (g : Records → Records) (s : State) : (s.modRecs g).hopHold = s.hopHold := rfl
@[simp] theorem modRecs_ports (g : Records → Records) (s : State) : (s.modRecs g).ports = s.ports := rfl
@[simp] theorem modRecs_lamps (g : Records → Records) (s : State) : (s.modRecs g).lamps = s.lamps := rfl
@[simp] theorem modRecs_chans (g : Records → Records) (s : State) : (s.modRecs g).chans = s.chans := rfl
@[simp] theorem modRecs_banks (g : Records → Records) (s : State) : (s.modRecs g).banks = s.banks := rfl
@[simp] theorem modRecs_pllLocked (g : Records → Records) (s : State) : (s.modRecs g).pllLocked = s.pllLocked := rfl
@[simp] theorem modRecs_marks (g : Records → Records) (s : State) : (s.modRecs g).marks = s.marks := rfl
@[simp] theorem modRecs_hk (g : Records → Records) (s : State) : (s.modRecs g).hk = s.hk := rfl
@[simp] theorem modRecs_runs (g : Records → Records) (s : State) : (s.modRecs g).runs = s.runs := rfl
@[simp] theorem modRecs_auxf (g : Records → Records) (s : State) : (s.modRecs g).auxf = s.auxf := rfl
@[simp] theorem modRecs_groups (g : Records → Records) (s : State) : (s.modRecs g).groups = s.groups := rfl
@[simp] theorem modRecs_dram (g : Records → Records) (s : State) : (s.modRecs g).dram = s.dram := rfl
@[simp] theorem modRecs_dramMem (g : Records → Records) (s : State) : (s.modRecs g).dramMem = s.dramMem := rfl
@[simp] theorem modRecs_recs (g : Records → Records) (s : State) : (s.modRecs g).recs = g s.recs := rfl
@[simp] theorem modRecs_link (g : Records → Records) (s : State) : (s.modRecs g).link = s.link := rfl
@[simp] theorem modRecs_dist (g : Records → Records) (s : State) : (s.modRecs g).dist = s.dist := rfl
@[simp] theorem modRecs_whorl (g : Records → Records) (s : State) : (s.modRecs g).whorl = s.whorl := rfl
@[simp] theorem modRecs_latch (g : Records → Records) (s : State) : (s.modRecs g).latch = s.latch := rfl
@[simp] theorem modRecs_trust (g : Records → Records) (s : State) : (s.modRecs g).trust = s.trust := rfl
@[simp] theorem modRecs_power (g : Records → Records) (s : State) : (s.modRecs g).power = s.power := rfl
@[simp] theorem modRecs_nv (g : Records → Records) (s : State) : (s.modRecs g).nv = s.nv := rfl
@[simp] theorem modRecs_nvCtl (g : Records → Records) (s : State) : (s.modRecs g).nvCtl = s.nvCtl := rfl
@[simp] theorem modRecs_boot (g : Records → Records) (s : State) : (s.modRecs g).boot = s.boot := rfl
@[simp] theorem modRecs_cal (g : Records → Records) (s : State) : (s.modRecs g).cal = s.cal := rfl
@[simp] theorem modRecs_side (g : Records → Records) (s : State) : (s.modRecs g).side = s.side := rfl
@[simp] theorem modRecs_counters (g : Records → Records) (s : State) : (s.modRecs g).counters = s.counters := rfl
@[simp] theorem modRecs_pending (g : Records → Records) (s : State) : (s.modRecs g).pending = s.pending := rfl

@[simp] theorem modLink_clock (g : Link → Link) (s : State) : (s.modLink g).clock = s.clock := rfl
@[simp] theorem modLink_dev (g : Link → Link) (s : State) : (s.modLink g).dev = s.dev := rfl
@[simp] theorem modLink_spindle (g : Link → Link) (s : State) : (s.modLink g).spindle = s.spindle := rfl
@[simp] theorem modLink_flyers (g : Link → Link) (s : State) : (s.modLink g).flyers = s.flyers := rfl
@[simp] theorem modLink_skein (g : Link → Link) (s : State) : (s.modLink g).skein = s.skein := rfl
@[simp] theorem modLink_arb (g : Link → Link) (s : State) : (s.modLink g).arb = s.arb := rfl
@[simp] theorem modLink_order (g : Link → Link) (s : State) : (s.modLink g).order = s.order := rfl
@[simp] theorem modLink_hop (g : Link → Link) (s : State) : (s.modLink g).hop = s.hop := rfl
@[simp] theorem modLink_hopHold (g : Link → Link) (s : State) : (s.modLink g).hopHold = s.hopHold := rfl
@[simp] theorem modLink_ports (g : Link → Link) (s : State) : (s.modLink g).ports = s.ports := rfl
@[simp] theorem modLink_lamps (g : Link → Link) (s : State) : (s.modLink g).lamps = s.lamps := rfl
@[simp] theorem modLink_chans (g : Link → Link) (s : State) : (s.modLink g).chans = s.chans := rfl
@[simp] theorem modLink_banks (g : Link → Link) (s : State) : (s.modLink g).banks = s.banks := rfl
@[simp] theorem modLink_pllLocked (g : Link → Link) (s : State) : (s.modLink g).pllLocked = s.pllLocked := rfl
@[simp] theorem modLink_marks (g : Link → Link) (s : State) : (s.modLink g).marks = s.marks := rfl
@[simp] theorem modLink_hk (g : Link → Link) (s : State) : (s.modLink g).hk = s.hk := rfl
@[simp] theorem modLink_runs (g : Link → Link) (s : State) : (s.modLink g).runs = s.runs := rfl
@[simp] theorem modLink_auxf (g : Link → Link) (s : State) : (s.modLink g).auxf = s.auxf := rfl
@[simp] theorem modLink_groups (g : Link → Link) (s : State) : (s.modLink g).groups = s.groups := rfl
@[simp] theorem modLink_dram (g : Link → Link) (s : State) : (s.modLink g).dram = s.dram := rfl
@[simp] theorem modLink_dramMem (g : Link → Link) (s : State) : (s.modLink g).dramMem = s.dramMem := rfl
@[simp] theorem modLink_recs (g : Link → Link) (s : State) : (s.modLink g).recs = s.recs := rfl
@[simp] theorem modLink_link (g : Link → Link) (s : State) : (s.modLink g).link = g s.link := rfl
@[simp] theorem modLink_dist (g : Link → Link) (s : State) : (s.modLink g).dist = s.dist := rfl
@[simp] theorem modLink_whorl (g : Link → Link) (s : State) : (s.modLink g).whorl = s.whorl := rfl
@[simp] theorem modLink_latch (g : Link → Link) (s : State) : (s.modLink g).latch = s.latch := rfl
@[simp] theorem modLink_trust (g : Link → Link) (s : State) : (s.modLink g).trust = s.trust := rfl
@[simp] theorem modLink_power (g : Link → Link) (s : State) : (s.modLink g).power = s.power := rfl
@[simp] theorem modLink_nv (g : Link → Link) (s : State) : (s.modLink g).nv = s.nv := rfl
@[simp] theorem modLink_nvCtl (g : Link → Link) (s : State) : (s.modLink g).nvCtl = s.nvCtl := rfl
@[simp] theorem modLink_boot (g : Link → Link) (s : State) : (s.modLink g).boot = s.boot := rfl
@[simp] theorem modLink_cal (g : Link → Link) (s : State) : (s.modLink g).cal = s.cal := rfl
@[simp] theorem modLink_side (g : Link → Link) (s : State) : (s.modLink g).side = s.side := rfl
@[simp] theorem modLink_counters (g : Link → Link) (s : State) : (s.modLink g).counters = s.counters := rfl
@[simp] theorem modLink_pending (g : Link → Link) (s : State) : (s.modLink g).pending = s.pending := rfl

@[simp] theorem modDist_clock (g : Distaff → Distaff) (s : State) : (s.modDist g).clock = s.clock := rfl
@[simp] theorem modDist_dev (g : Distaff → Distaff) (s : State) : (s.modDist g).dev = s.dev := rfl
@[simp] theorem modDist_spindle (g : Distaff → Distaff) (s : State) : (s.modDist g).spindle = s.spindle := rfl
@[simp] theorem modDist_flyers (g : Distaff → Distaff) (s : State) : (s.modDist g).flyers = s.flyers := rfl
@[simp] theorem modDist_skein (g : Distaff → Distaff) (s : State) : (s.modDist g).skein = s.skein := rfl
@[simp] theorem modDist_arb (g : Distaff → Distaff) (s : State) : (s.modDist g).arb = s.arb := rfl
@[simp] theorem modDist_order (g : Distaff → Distaff) (s : State) : (s.modDist g).order = s.order := rfl
@[simp] theorem modDist_hop (g : Distaff → Distaff) (s : State) : (s.modDist g).hop = s.hop := rfl
@[simp] theorem modDist_hopHold (g : Distaff → Distaff) (s : State) : (s.modDist g).hopHold = s.hopHold := rfl
@[simp] theorem modDist_ports (g : Distaff → Distaff) (s : State) : (s.modDist g).ports = s.ports := rfl
@[simp] theorem modDist_lamps (g : Distaff → Distaff) (s : State) : (s.modDist g).lamps = s.lamps := rfl
@[simp] theorem modDist_chans (g : Distaff → Distaff) (s : State) : (s.modDist g).chans = s.chans := rfl
@[simp] theorem modDist_banks (g : Distaff → Distaff) (s : State) : (s.modDist g).banks = s.banks := rfl
@[simp] theorem modDist_pllLocked (g : Distaff → Distaff) (s : State) : (s.modDist g).pllLocked = s.pllLocked := rfl
@[simp] theorem modDist_marks (g : Distaff → Distaff) (s : State) : (s.modDist g).marks = s.marks := rfl
@[simp] theorem modDist_hk (g : Distaff → Distaff) (s : State) : (s.modDist g).hk = s.hk := rfl
@[simp] theorem modDist_runs (g : Distaff → Distaff) (s : State) : (s.modDist g).runs = s.runs := rfl
@[simp] theorem modDist_auxf (g : Distaff → Distaff) (s : State) : (s.modDist g).auxf = s.auxf := rfl
@[simp] theorem modDist_groups (g : Distaff → Distaff) (s : State) : (s.modDist g).groups = s.groups := rfl
@[simp] theorem modDist_dram (g : Distaff → Distaff) (s : State) : (s.modDist g).dram = s.dram := rfl
@[simp] theorem modDist_dramMem (g : Distaff → Distaff) (s : State) : (s.modDist g).dramMem = s.dramMem := rfl
@[simp] theorem modDist_recs (g : Distaff → Distaff) (s : State) : (s.modDist g).recs = s.recs := rfl
@[simp] theorem modDist_link (g : Distaff → Distaff) (s : State) : (s.modDist g).link = s.link := rfl
@[simp] theorem modDist_dist (g : Distaff → Distaff) (s : State) : (s.modDist g).dist = g s.dist := rfl
@[simp] theorem modDist_whorl (g : Distaff → Distaff) (s : State) : (s.modDist g).whorl = s.whorl := rfl
@[simp] theorem modDist_latch (g : Distaff → Distaff) (s : State) : (s.modDist g).latch = s.latch := rfl
@[simp] theorem modDist_trust (g : Distaff → Distaff) (s : State) : (s.modDist g).trust = s.trust := rfl
@[simp] theorem modDist_power (g : Distaff → Distaff) (s : State) : (s.modDist g).power = s.power := rfl
@[simp] theorem modDist_nv (g : Distaff → Distaff) (s : State) : (s.modDist g).nv = s.nv := rfl
@[simp] theorem modDist_nvCtl (g : Distaff → Distaff) (s : State) : (s.modDist g).nvCtl = s.nvCtl := rfl
@[simp] theorem modDist_boot (g : Distaff → Distaff) (s : State) : (s.modDist g).boot = s.boot := rfl
@[simp] theorem modDist_cal (g : Distaff → Distaff) (s : State) : (s.modDist g).cal = s.cal := rfl
@[simp] theorem modDist_side (g : Distaff → Distaff) (s : State) : (s.modDist g).side = s.side := rfl
@[simp] theorem modDist_counters (g : Distaff → Distaff) (s : State) : (s.modDist g).counters = s.counters := rfl
@[simp] theorem modDist_pending (g : Distaff → Distaff) (s : State) : (s.modDist g).pending = s.pending := rfl

@[simp] theorem modWhorl_clock (g : Whorl → Whorl) (s : State) : (s.modWhorl g).clock = s.clock := rfl
@[simp] theorem modWhorl_dev (g : Whorl → Whorl) (s : State) : (s.modWhorl g).dev = s.dev := rfl
@[simp] theorem modWhorl_spindle (g : Whorl → Whorl) (s : State) : (s.modWhorl g).spindle = s.spindle := rfl
@[simp] theorem modWhorl_flyers (g : Whorl → Whorl) (s : State) : (s.modWhorl g).flyers = s.flyers := rfl
@[simp] theorem modWhorl_skein (g : Whorl → Whorl) (s : State) : (s.modWhorl g).skein = s.skein := rfl
@[simp] theorem modWhorl_arb (g : Whorl → Whorl) (s : State) : (s.modWhorl g).arb = s.arb := rfl
@[simp] theorem modWhorl_order (g : Whorl → Whorl) (s : State) : (s.modWhorl g).order = s.order := rfl
@[simp] theorem modWhorl_hop (g : Whorl → Whorl) (s : State) : (s.modWhorl g).hop = s.hop := rfl
@[simp] theorem modWhorl_hopHold (g : Whorl → Whorl) (s : State) : (s.modWhorl g).hopHold = s.hopHold := rfl
@[simp] theorem modWhorl_ports (g : Whorl → Whorl) (s : State) : (s.modWhorl g).ports = s.ports := rfl
@[simp] theorem modWhorl_lamps (g : Whorl → Whorl) (s : State) : (s.modWhorl g).lamps = s.lamps := rfl
@[simp] theorem modWhorl_chans (g : Whorl → Whorl) (s : State) : (s.modWhorl g).chans = s.chans := rfl
@[simp] theorem modWhorl_banks (g : Whorl → Whorl) (s : State) : (s.modWhorl g).banks = s.banks := rfl
@[simp] theorem modWhorl_pllLocked (g : Whorl → Whorl) (s : State) : (s.modWhorl g).pllLocked = s.pllLocked := rfl
@[simp] theorem modWhorl_marks (g : Whorl → Whorl) (s : State) : (s.modWhorl g).marks = s.marks := rfl
@[simp] theorem modWhorl_hk (g : Whorl → Whorl) (s : State) : (s.modWhorl g).hk = s.hk := rfl
@[simp] theorem modWhorl_runs (g : Whorl → Whorl) (s : State) : (s.modWhorl g).runs = s.runs := rfl
@[simp] theorem modWhorl_auxf (g : Whorl → Whorl) (s : State) : (s.modWhorl g).auxf = s.auxf := rfl
@[simp] theorem modWhorl_groups (g : Whorl → Whorl) (s : State) : (s.modWhorl g).groups = s.groups := rfl
@[simp] theorem modWhorl_dram (g : Whorl → Whorl) (s : State) : (s.modWhorl g).dram = s.dram := rfl
@[simp] theorem modWhorl_dramMem (g : Whorl → Whorl) (s : State) : (s.modWhorl g).dramMem = s.dramMem := rfl
@[simp] theorem modWhorl_recs (g : Whorl → Whorl) (s : State) : (s.modWhorl g).recs = s.recs := rfl
@[simp] theorem modWhorl_link (g : Whorl → Whorl) (s : State) : (s.modWhorl g).link = s.link := rfl
@[simp] theorem modWhorl_dist (g : Whorl → Whorl) (s : State) : (s.modWhorl g).dist = s.dist := rfl
@[simp] theorem modWhorl_whorl (g : Whorl → Whorl) (s : State) : (s.modWhorl g).whorl = g s.whorl := rfl
@[simp] theorem modWhorl_latch (g : Whorl → Whorl) (s : State) : (s.modWhorl g).latch = s.latch := rfl
@[simp] theorem modWhorl_trust (g : Whorl → Whorl) (s : State) : (s.modWhorl g).trust = s.trust := rfl
@[simp] theorem modWhorl_power (g : Whorl → Whorl) (s : State) : (s.modWhorl g).power = s.power := rfl
@[simp] theorem modWhorl_nv (g : Whorl → Whorl) (s : State) : (s.modWhorl g).nv = s.nv := rfl
@[simp] theorem modWhorl_nvCtl (g : Whorl → Whorl) (s : State) : (s.modWhorl g).nvCtl = s.nvCtl := rfl
@[simp] theorem modWhorl_boot (g : Whorl → Whorl) (s : State) : (s.modWhorl g).boot = s.boot := rfl
@[simp] theorem modWhorl_cal (g : Whorl → Whorl) (s : State) : (s.modWhorl g).cal = s.cal := rfl
@[simp] theorem modWhorl_side (g : Whorl → Whorl) (s : State) : (s.modWhorl g).side = s.side := rfl
@[simp] theorem modWhorl_counters (g : Whorl → Whorl) (s : State) : (s.modWhorl g).counters = s.counters := rfl
@[simp] theorem modWhorl_pending (g : Whorl → Whorl) (s : State) : (s.modWhorl g).pending = s.pending := rfl

@[simp] theorem modLatch_clock (g : Latch → Latch) (s : State) : (s.modLatch g).clock = s.clock := rfl
@[simp] theorem modLatch_dev (g : Latch → Latch) (s : State) : (s.modLatch g).dev = s.dev := rfl
@[simp] theorem modLatch_spindle (g : Latch → Latch) (s : State) : (s.modLatch g).spindle = s.spindle := rfl
@[simp] theorem modLatch_flyers (g : Latch → Latch) (s : State) : (s.modLatch g).flyers = s.flyers := rfl
@[simp] theorem modLatch_skein (g : Latch → Latch) (s : State) : (s.modLatch g).skein = s.skein := rfl
@[simp] theorem modLatch_arb (g : Latch → Latch) (s : State) : (s.modLatch g).arb = s.arb := rfl
@[simp] theorem modLatch_order (g : Latch → Latch) (s : State) : (s.modLatch g).order = s.order := rfl
@[simp] theorem modLatch_hop (g : Latch → Latch) (s : State) : (s.modLatch g).hop = s.hop := rfl
@[simp] theorem modLatch_hopHold (g : Latch → Latch) (s : State) : (s.modLatch g).hopHold = s.hopHold := rfl
@[simp] theorem modLatch_ports (g : Latch → Latch) (s : State) : (s.modLatch g).ports = s.ports := rfl
@[simp] theorem modLatch_lamps (g : Latch → Latch) (s : State) : (s.modLatch g).lamps = s.lamps := rfl
@[simp] theorem modLatch_chans (g : Latch → Latch) (s : State) : (s.modLatch g).chans = s.chans := rfl
@[simp] theorem modLatch_banks (g : Latch → Latch) (s : State) : (s.modLatch g).banks = s.banks := rfl
@[simp] theorem modLatch_pllLocked (g : Latch → Latch) (s : State) : (s.modLatch g).pllLocked = s.pllLocked := rfl
@[simp] theorem modLatch_marks (g : Latch → Latch) (s : State) : (s.modLatch g).marks = s.marks := rfl
@[simp] theorem modLatch_hk (g : Latch → Latch) (s : State) : (s.modLatch g).hk = s.hk := rfl
@[simp] theorem modLatch_runs (g : Latch → Latch) (s : State) : (s.modLatch g).runs = s.runs := rfl
@[simp] theorem modLatch_auxf (g : Latch → Latch) (s : State) : (s.modLatch g).auxf = s.auxf := rfl
@[simp] theorem modLatch_groups (g : Latch → Latch) (s : State) : (s.modLatch g).groups = s.groups := rfl
@[simp] theorem modLatch_dram (g : Latch → Latch) (s : State) : (s.modLatch g).dram = s.dram := rfl
@[simp] theorem modLatch_dramMem (g : Latch → Latch) (s : State) : (s.modLatch g).dramMem = s.dramMem := rfl
@[simp] theorem modLatch_recs (g : Latch → Latch) (s : State) : (s.modLatch g).recs = s.recs := rfl
@[simp] theorem modLatch_link (g : Latch → Latch) (s : State) : (s.modLatch g).link = s.link := rfl
@[simp] theorem modLatch_dist (g : Latch → Latch) (s : State) : (s.modLatch g).dist = s.dist := rfl
@[simp] theorem modLatch_whorl (g : Latch → Latch) (s : State) : (s.modLatch g).whorl = s.whorl := rfl
@[simp] theorem modLatch_latch (g : Latch → Latch) (s : State) : (s.modLatch g).latch = g s.latch := rfl
@[simp] theorem modLatch_trust (g : Latch → Latch) (s : State) : (s.modLatch g).trust = s.trust := rfl
@[simp] theorem modLatch_power (g : Latch → Latch) (s : State) : (s.modLatch g).power = s.power := rfl
@[simp] theorem modLatch_nv (g : Latch → Latch) (s : State) : (s.modLatch g).nv = s.nv := rfl
@[simp] theorem modLatch_nvCtl (g : Latch → Latch) (s : State) : (s.modLatch g).nvCtl = s.nvCtl := rfl
@[simp] theorem modLatch_boot (g : Latch → Latch) (s : State) : (s.modLatch g).boot = s.boot := rfl
@[simp] theorem modLatch_cal (g : Latch → Latch) (s : State) : (s.modLatch g).cal = s.cal := rfl
@[simp] theorem modLatch_side (g : Latch → Latch) (s : State) : (s.modLatch g).side = s.side := rfl
@[simp] theorem modLatch_counters (g : Latch → Latch) (s : State) : (s.modLatch g).counters = s.counters := rfl
@[simp] theorem modLatch_pending (g : Latch → Latch) (s : State) : (s.modLatch g).pending = s.pending := rfl

@[simp] theorem modTrust_clock (g : Trust → Trust) (s : State) : (s.modTrust g).clock = s.clock := rfl
@[simp] theorem modTrust_dev (g : Trust → Trust) (s : State) : (s.modTrust g).dev = s.dev := rfl
@[simp] theorem modTrust_spindle (g : Trust → Trust) (s : State) : (s.modTrust g).spindle = s.spindle := rfl
@[simp] theorem modTrust_flyers (g : Trust → Trust) (s : State) : (s.modTrust g).flyers = s.flyers := rfl
@[simp] theorem modTrust_skein (g : Trust → Trust) (s : State) : (s.modTrust g).skein = s.skein := rfl
@[simp] theorem modTrust_arb (g : Trust → Trust) (s : State) : (s.modTrust g).arb = s.arb := rfl
@[simp] theorem modTrust_order (g : Trust → Trust) (s : State) : (s.modTrust g).order = s.order := rfl
@[simp] theorem modTrust_hop (g : Trust → Trust) (s : State) : (s.modTrust g).hop = s.hop := rfl
@[simp] theorem modTrust_hopHold (g : Trust → Trust) (s : State) : (s.modTrust g).hopHold = s.hopHold := rfl
@[simp] theorem modTrust_ports (g : Trust → Trust) (s : State) : (s.modTrust g).ports = s.ports := rfl
@[simp] theorem modTrust_lamps (g : Trust → Trust) (s : State) : (s.modTrust g).lamps = s.lamps := rfl
@[simp] theorem modTrust_chans (g : Trust → Trust) (s : State) : (s.modTrust g).chans = s.chans := rfl
@[simp] theorem modTrust_banks (g : Trust → Trust) (s : State) : (s.modTrust g).banks = s.banks := rfl
@[simp] theorem modTrust_pllLocked (g : Trust → Trust) (s : State) : (s.modTrust g).pllLocked = s.pllLocked := rfl
@[simp] theorem modTrust_marks (g : Trust → Trust) (s : State) : (s.modTrust g).marks = s.marks := rfl
@[simp] theorem modTrust_hk (g : Trust → Trust) (s : State) : (s.modTrust g).hk = s.hk := rfl
@[simp] theorem modTrust_runs (g : Trust → Trust) (s : State) : (s.modTrust g).runs = s.runs := rfl
@[simp] theorem modTrust_auxf (g : Trust → Trust) (s : State) : (s.modTrust g).auxf = s.auxf := rfl
@[simp] theorem modTrust_groups (g : Trust → Trust) (s : State) : (s.modTrust g).groups = s.groups := rfl
@[simp] theorem modTrust_dram (g : Trust → Trust) (s : State) : (s.modTrust g).dram = s.dram := rfl
@[simp] theorem modTrust_dramMem (g : Trust → Trust) (s : State) : (s.modTrust g).dramMem = s.dramMem := rfl
@[simp] theorem modTrust_recs (g : Trust → Trust) (s : State) : (s.modTrust g).recs = s.recs := rfl
@[simp] theorem modTrust_link (g : Trust → Trust) (s : State) : (s.modTrust g).link = s.link := rfl
@[simp] theorem modTrust_dist (g : Trust → Trust) (s : State) : (s.modTrust g).dist = s.dist := rfl
@[simp] theorem modTrust_whorl (g : Trust → Trust) (s : State) : (s.modTrust g).whorl = s.whorl := rfl
@[simp] theorem modTrust_latch (g : Trust → Trust) (s : State) : (s.modTrust g).latch = s.latch := rfl
@[simp] theorem modTrust_trust (g : Trust → Trust) (s : State) : (s.modTrust g).trust = g s.trust := rfl
@[simp] theorem modTrust_power (g : Trust → Trust) (s : State) : (s.modTrust g).power = s.power := rfl
@[simp] theorem modTrust_nv (g : Trust → Trust) (s : State) : (s.modTrust g).nv = s.nv := rfl
@[simp] theorem modTrust_nvCtl (g : Trust → Trust) (s : State) : (s.modTrust g).nvCtl = s.nvCtl := rfl
@[simp] theorem modTrust_boot (g : Trust → Trust) (s : State) : (s.modTrust g).boot = s.boot := rfl
@[simp] theorem modTrust_cal (g : Trust → Trust) (s : State) : (s.modTrust g).cal = s.cal := rfl
@[simp] theorem modTrust_side (g : Trust → Trust) (s : State) : (s.modTrust g).side = s.side := rfl
@[simp] theorem modTrust_counters (g : Trust → Trust) (s : State) : (s.modTrust g).counters = s.counters := rfl
@[simp] theorem modTrust_pending (g : Trust → Trust) (s : State) : (s.modTrust g).pending = s.pending := rfl

@[simp] theorem modPower_clock (g : Power → Power) (s : State) : (s.modPower g).clock = s.clock := rfl
@[simp] theorem modPower_dev (g : Power → Power) (s : State) : (s.modPower g).dev = s.dev := rfl
@[simp] theorem modPower_spindle (g : Power → Power) (s : State) : (s.modPower g).spindle = s.spindle := rfl
@[simp] theorem modPower_flyers (g : Power → Power) (s : State) : (s.modPower g).flyers = s.flyers := rfl
@[simp] theorem modPower_skein (g : Power → Power) (s : State) : (s.modPower g).skein = s.skein := rfl
@[simp] theorem modPower_arb (g : Power → Power) (s : State) : (s.modPower g).arb = s.arb := rfl
@[simp] theorem modPower_order (g : Power → Power) (s : State) : (s.modPower g).order = s.order := rfl
@[simp] theorem modPower_hop (g : Power → Power) (s : State) : (s.modPower g).hop = s.hop := rfl
@[simp] theorem modPower_hopHold (g : Power → Power) (s : State) : (s.modPower g).hopHold = s.hopHold := rfl
@[simp] theorem modPower_ports (g : Power → Power) (s : State) : (s.modPower g).ports = s.ports := rfl
@[simp] theorem modPower_lamps (g : Power → Power) (s : State) : (s.modPower g).lamps = s.lamps := rfl
@[simp] theorem modPower_chans (g : Power → Power) (s : State) : (s.modPower g).chans = s.chans := rfl
@[simp] theorem modPower_banks (g : Power → Power) (s : State) : (s.modPower g).banks = s.banks := rfl
@[simp] theorem modPower_pllLocked (g : Power → Power) (s : State) : (s.modPower g).pllLocked = s.pllLocked := rfl
@[simp] theorem modPower_marks (g : Power → Power) (s : State) : (s.modPower g).marks = s.marks := rfl
@[simp] theorem modPower_hk (g : Power → Power) (s : State) : (s.modPower g).hk = s.hk := rfl
@[simp] theorem modPower_runs (g : Power → Power) (s : State) : (s.modPower g).runs = s.runs := rfl
@[simp] theorem modPower_auxf (g : Power → Power) (s : State) : (s.modPower g).auxf = s.auxf := rfl
@[simp] theorem modPower_groups (g : Power → Power) (s : State) : (s.modPower g).groups = s.groups := rfl
@[simp] theorem modPower_dram (g : Power → Power) (s : State) : (s.modPower g).dram = s.dram := rfl
@[simp] theorem modPower_dramMem (g : Power → Power) (s : State) : (s.modPower g).dramMem = s.dramMem := rfl
@[simp] theorem modPower_recs (g : Power → Power) (s : State) : (s.modPower g).recs = s.recs := rfl
@[simp] theorem modPower_link (g : Power → Power) (s : State) : (s.modPower g).link = s.link := rfl
@[simp] theorem modPower_dist (g : Power → Power) (s : State) : (s.modPower g).dist = s.dist := rfl
@[simp] theorem modPower_whorl (g : Power → Power) (s : State) : (s.modPower g).whorl = s.whorl := rfl
@[simp] theorem modPower_latch (g : Power → Power) (s : State) : (s.modPower g).latch = s.latch := rfl
@[simp] theorem modPower_trust (g : Power → Power) (s : State) : (s.modPower g).trust = s.trust := rfl
@[simp] theorem modPower_power (g : Power → Power) (s : State) : (s.modPower g).power = g s.power := rfl
@[simp] theorem modPower_nv (g : Power → Power) (s : State) : (s.modPower g).nv = s.nv := rfl
@[simp] theorem modPower_nvCtl (g : Power → Power) (s : State) : (s.modPower g).nvCtl = s.nvCtl := rfl
@[simp] theorem modPower_boot (g : Power → Power) (s : State) : (s.modPower g).boot = s.boot := rfl
@[simp] theorem modPower_cal (g : Power → Power) (s : State) : (s.modPower g).cal = s.cal := rfl
@[simp] theorem modPower_side (g : Power → Power) (s : State) : (s.modPower g).side = s.side := rfl
@[simp] theorem modPower_counters (g : Power → Power) (s : State) : (s.modPower g).counters = s.counters := rfl
@[simp] theorem modPower_pending (g : Power → Power) (s : State) : (s.modPower g).pending = s.pending := rfl

@[simp] theorem modNv_clock (g : Mem → Mem) (s : State) : (s.modNv g).clock = s.clock := rfl
@[simp] theorem modNv_dev (g : Mem → Mem) (s : State) : (s.modNv g).dev = s.dev := rfl
@[simp] theorem modNv_spindle (g : Mem → Mem) (s : State) : (s.modNv g).spindle = s.spindle := rfl
@[simp] theorem modNv_flyers (g : Mem → Mem) (s : State) : (s.modNv g).flyers = s.flyers := rfl
@[simp] theorem modNv_skein (g : Mem → Mem) (s : State) : (s.modNv g).skein = s.skein := rfl
@[simp] theorem modNv_arb (g : Mem → Mem) (s : State) : (s.modNv g).arb = s.arb := rfl
@[simp] theorem modNv_order (g : Mem → Mem) (s : State) : (s.modNv g).order = s.order := rfl
@[simp] theorem modNv_hop (g : Mem → Mem) (s : State) : (s.modNv g).hop = s.hop := rfl
@[simp] theorem modNv_hopHold (g : Mem → Mem) (s : State) : (s.modNv g).hopHold = s.hopHold := rfl
@[simp] theorem modNv_ports (g : Mem → Mem) (s : State) : (s.modNv g).ports = s.ports := rfl
@[simp] theorem modNv_lamps (g : Mem → Mem) (s : State) : (s.modNv g).lamps = s.lamps := rfl
@[simp] theorem modNv_chans (g : Mem → Mem) (s : State) : (s.modNv g).chans = s.chans := rfl
@[simp] theorem modNv_banks (g : Mem → Mem) (s : State) : (s.modNv g).banks = s.banks := rfl
@[simp] theorem modNv_pllLocked (g : Mem → Mem) (s : State) : (s.modNv g).pllLocked = s.pllLocked := rfl
@[simp] theorem modNv_marks (g : Mem → Mem) (s : State) : (s.modNv g).marks = s.marks := rfl
@[simp] theorem modNv_hk (g : Mem → Mem) (s : State) : (s.modNv g).hk = s.hk := rfl
@[simp] theorem modNv_runs (g : Mem → Mem) (s : State) : (s.modNv g).runs = s.runs := rfl
@[simp] theorem modNv_auxf (g : Mem → Mem) (s : State) : (s.modNv g).auxf = s.auxf := rfl
@[simp] theorem modNv_groups (g : Mem → Mem) (s : State) : (s.modNv g).groups = s.groups := rfl
@[simp] theorem modNv_dram (g : Mem → Mem) (s : State) : (s.modNv g).dram = s.dram := rfl
@[simp] theorem modNv_dramMem (g : Mem → Mem) (s : State) : (s.modNv g).dramMem = s.dramMem := rfl
@[simp] theorem modNv_recs (g : Mem → Mem) (s : State) : (s.modNv g).recs = s.recs := rfl
@[simp] theorem modNv_link (g : Mem → Mem) (s : State) : (s.modNv g).link = s.link := rfl
@[simp] theorem modNv_dist (g : Mem → Mem) (s : State) : (s.modNv g).dist = s.dist := rfl
@[simp] theorem modNv_whorl (g : Mem → Mem) (s : State) : (s.modNv g).whorl = s.whorl := rfl
@[simp] theorem modNv_latch (g : Mem → Mem) (s : State) : (s.modNv g).latch = s.latch := rfl
@[simp] theorem modNv_trust (g : Mem → Mem) (s : State) : (s.modNv g).trust = s.trust := rfl
@[simp] theorem modNv_power (g : Mem → Mem) (s : State) : (s.modNv g).power = s.power := rfl
@[simp] theorem modNv_nv (g : Mem → Mem) (s : State) : (s.modNv g).nv = g s.nv := rfl
@[simp] theorem modNv_nvCtl (g : Mem → Mem) (s : State) : (s.modNv g).nvCtl = s.nvCtl := rfl
@[simp] theorem modNv_boot (g : Mem → Mem) (s : State) : (s.modNv g).boot = s.boot := rfl
@[simp] theorem modNv_cal (g : Mem → Mem) (s : State) : (s.modNv g).cal = s.cal := rfl
@[simp] theorem modNv_side (g : Mem → Mem) (s : State) : (s.modNv g).side = s.side := rfl
@[simp] theorem modNv_counters (g : Mem → Mem) (s : State) : (s.modNv g).counters = s.counters := rfl
@[simp] theorem modNv_pending (g : Mem → Mem) (s : State) : (s.modNv g).pending = s.pending := rfl

@[simp] theorem modNvCtl_clock (g : NvCtl → NvCtl) (s : State) : (s.modNvCtl g).clock = s.clock := rfl
@[simp] theorem modNvCtl_dev (g : NvCtl → NvCtl) (s : State) : (s.modNvCtl g).dev = s.dev := rfl
@[simp] theorem modNvCtl_spindle (g : NvCtl → NvCtl) (s : State) : (s.modNvCtl g).spindle = s.spindle := rfl
@[simp] theorem modNvCtl_flyers (g : NvCtl → NvCtl) (s : State) : (s.modNvCtl g).flyers = s.flyers := rfl
@[simp] theorem modNvCtl_skein (g : NvCtl → NvCtl) (s : State) : (s.modNvCtl g).skein = s.skein := rfl
@[simp] theorem modNvCtl_arb (g : NvCtl → NvCtl) (s : State) : (s.modNvCtl g).arb = s.arb := rfl
@[simp] theorem modNvCtl_order (g : NvCtl → NvCtl) (s : State) : (s.modNvCtl g).order = s.order := rfl
@[simp] theorem modNvCtl_hop (g : NvCtl → NvCtl) (s : State) : (s.modNvCtl g).hop = s.hop := rfl
@[simp] theorem modNvCtl_hopHold (g : NvCtl → NvCtl) (s : State) : (s.modNvCtl g).hopHold = s.hopHold := rfl
@[simp] theorem modNvCtl_ports (g : NvCtl → NvCtl) (s : State) : (s.modNvCtl g).ports = s.ports := rfl
@[simp] theorem modNvCtl_lamps (g : NvCtl → NvCtl) (s : State) : (s.modNvCtl g).lamps = s.lamps := rfl
@[simp] theorem modNvCtl_chans (g : NvCtl → NvCtl) (s : State) : (s.modNvCtl g).chans = s.chans := rfl
@[simp] theorem modNvCtl_banks (g : NvCtl → NvCtl) (s : State) : (s.modNvCtl g).banks = s.banks := rfl
@[simp] theorem modNvCtl_pllLocked (g : NvCtl → NvCtl) (s : State) : (s.modNvCtl g).pllLocked = s.pllLocked := rfl
@[simp] theorem modNvCtl_marks (g : NvCtl → NvCtl) (s : State) : (s.modNvCtl g).marks = s.marks := rfl
@[simp] theorem modNvCtl_hk (g : NvCtl → NvCtl) (s : State) : (s.modNvCtl g).hk = s.hk := rfl
@[simp] theorem modNvCtl_runs (g : NvCtl → NvCtl) (s : State) : (s.modNvCtl g).runs = s.runs := rfl
@[simp] theorem modNvCtl_auxf (g : NvCtl → NvCtl) (s : State) : (s.modNvCtl g).auxf = s.auxf := rfl
@[simp] theorem modNvCtl_groups (g : NvCtl → NvCtl) (s : State) : (s.modNvCtl g).groups = s.groups := rfl
@[simp] theorem modNvCtl_dram (g : NvCtl → NvCtl) (s : State) : (s.modNvCtl g).dram = s.dram := rfl
@[simp] theorem modNvCtl_dramMem (g : NvCtl → NvCtl) (s : State) : (s.modNvCtl g).dramMem = s.dramMem := rfl
@[simp] theorem modNvCtl_recs (g : NvCtl → NvCtl) (s : State) : (s.modNvCtl g).recs = s.recs := rfl
@[simp] theorem modNvCtl_link (g : NvCtl → NvCtl) (s : State) : (s.modNvCtl g).link = s.link := rfl
@[simp] theorem modNvCtl_dist (g : NvCtl → NvCtl) (s : State) : (s.modNvCtl g).dist = s.dist := rfl
@[simp] theorem modNvCtl_whorl (g : NvCtl → NvCtl) (s : State) : (s.modNvCtl g).whorl = s.whorl := rfl
@[simp] theorem modNvCtl_latch (g : NvCtl → NvCtl) (s : State) : (s.modNvCtl g).latch = s.latch := rfl
@[simp] theorem modNvCtl_trust (g : NvCtl → NvCtl) (s : State) : (s.modNvCtl g).trust = s.trust := rfl
@[simp] theorem modNvCtl_power (g : NvCtl → NvCtl) (s : State) : (s.modNvCtl g).power = s.power := rfl
@[simp] theorem modNvCtl_nv (g : NvCtl → NvCtl) (s : State) : (s.modNvCtl g).nv = s.nv := rfl
@[simp] theorem modNvCtl_nvCtl (g : NvCtl → NvCtl) (s : State) : (s.modNvCtl g).nvCtl = g s.nvCtl := rfl
@[simp] theorem modNvCtl_boot (g : NvCtl → NvCtl) (s : State) : (s.modNvCtl g).boot = s.boot := rfl
@[simp] theorem modNvCtl_cal (g : NvCtl → NvCtl) (s : State) : (s.modNvCtl g).cal = s.cal := rfl
@[simp] theorem modNvCtl_side (g : NvCtl → NvCtl) (s : State) : (s.modNvCtl g).side = s.side := rfl
@[simp] theorem modNvCtl_counters (g : NvCtl → NvCtl) (s : State) : (s.modNvCtl g).counters = s.counters := rfl
@[simp] theorem modNvCtl_pending (g : NvCtl → NvCtl) (s : State) : (s.modNvCtl g).pending = s.pending := rfl

@[simp] theorem modBoot_clock (g : Boot → Boot) (s : State) : (s.modBoot g).clock = s.clock := rfl
@[simp] theorem modBoot_dev (g : Boot → Boot) (s : State) : (s.modBoot g).dev = s.dev := rfl
@[simp] theorem modBoot_spindle (g : Boot → Boot) (s : State) : (s.modBoot g).spindle = s.spindle := rfl
@[simp] theorem modBoot_flyers (g : Boot → Boot) (s : State) : (s.modBoot g).flyers = s.flyers := rfl
@[simp] theorem modBoot_skein (g : Boot → Boot) (s : State) : (s.modBoot g).skein = s.skein := rfl
@[simp] theorem modBoot_arb (g : Boot → Boot) (s : State) : (s.modBoot g).arb = s.arb := rfl
@[simp] theorem modBoot_order (g : Boot → Boot) (s : State) : (s.modBoot g).order = s.order := rfl
@[simp] theorem modBoot_hop (g : Boot → Boot) (s : State) : (s.modBoot g).hop = s.hop := rfl
@[simp] theorem modBoot_hopHold (g : Boot → Boot) (s : State) : (s.modBoot g).hopHold = s.hopHold := rfl
@[simp] theorem modBoot_ports (g : Boot → Boot) (s : State) : (s.modBoot g).ports = s.ports := rfl
@[simp] theorem modBoot_lamps (g : Boot → Boot) (s : State) : (s.modBoot g).lamps = s.lamps := rfl
@[simp] theorem modBoot_chans (g : Boot → Boot) (s : State) : (s.modBoot g).chans = s.chans := rfl
@[simp] theorem modBoot_banks (g : Boot → Boot) (s : State) : (s.modBoot g).banks = s.banks := rfl
@[simp] theorem modBoot_pllLocked (g : Boot → Boot) (s : State) : (s.modBoot g).pllLocked = s.pllLocked := rfl
@[simp] theorem modBoot_marks (g : Boot → Boot) (s : State) : (s.modBoot g).marks = s.marks := rfl
@[simp] theorem modBoot_hk (g : Boot → Boot) (s : State) : (s.modBoot g).hk = s.hk := rfl
@[simp] theorem modBoot_runs (g : Boot → Boot) (s : State) : (s.modBoot g).runs = s.runs := rfl
@[simp] theorem modBoot_auxf (g : Boot → Boot) (s : State) : (s.modBoot g).auxf = s.auxf := rfl
@[simp] theorem modBoot_groups (g : Boot → Boot) (s : State) : (s.modBoot g).groups = s.groups := rfl
@[simp] theorem modBoot_dram (g : Boot → Boot) (s : State) : (s.modBoot g).dram = s.dram := rfl
@[simp] theorem modBoot_dramMem (g : Boot → Boot) (s : State) : (s.modBoot g).dramMem = s.dramMem := rfl
@[simp] theorem modBoot_recs (g : Boot → Boot) (s : State) : (s.modBoot g).recs = s.recs := rfl
@[simp] theorem modBoot_link (g : Boot → Boot) (s : State) : (s.modBoot g).link = s.link := rfl
@[simp] theorem modBoot_dist (g : Boot → Boot) (s : State) : (s.modBoot g).dist = s.dist := rfl
@[simp] theorem modBoot_whorl (g : Boot → Boot) (s : State) : (s.modBoot g).whorl = s.whorl := rfl
@[simp] theorem modBoot_latch (g : Boot → Boot) (s : State) : (s.modBoot g).latch = s.latch := rfl
@[simp] theorem modBoot_trust (g : Boot → Boot) (s : State) : (s.modBoot g).trust = s.trust := rfl
@[simp] theorem modBoot_power (g : Boot → Boot) (s : State) : (s.modBoot g).power = s.power := rfl
@[simp] theorem modBoot_nv (g : Boot → Boot) (s : State) : (s.modBoot g).nv = s.nv := rfl
@[simp] theorem modBoot_nvCtl (g : Boot → Boot) (s : State) : (s.modBoot g).nvCtl = s.nvCtl := rfl
@[simp] theorem modBoot_boot (g : Boot → Boot) (s : State) : (s.modBoot g).boot = g s.boot := rfl
@[simp] theorem modBoot_cal (g : Boot → Boot) (s : State) : (s.modBoot g).cal = s.cal := rfl
@[simp] theorem modBoot_side (g : Boot → Boot) (s : State) : (s.modBoot g).side = s.side := rfl
@[simp] theorem modBoot_counters (g : Boot → Boot) (s : State) : (s.modBoot g).counters = s.counters := rfl
@[simp] theorem modBoot_pending (g : Boot → Boot) (s : State) : (s.modBoot g).pending = s.pending := rfl

@[simp] theorem modCal_clock (g : Cal → Cal) (s : State) : (s.modCal g).clock = s.clock := rfl
@[simp] theorem modCal_dev (g : Cal → Cal) (s : State) : (s.modCal g).dev = s.dev := rfl
@[simp] theorem modCal_spindle (g : Cal → Cal) (s : State) : (s.modCal g).spindle = s.spindle := rfl
@[simp] theorem modCal_flyers (g : Cal → Cal) (s : State) : (s.modCal g).flyers = s.flyers := rfl
@[simp] theorem modCal_skein (g : Cal → Cal) (s : State) : (s.modCal g).skein = s.skein := rfl
@[simp] theorem modCal_arb (g : Cal → Cal) (s : State) : (s.modCal g).arb = s.arb := rfl
@[simp] theorem modCal_order (g : Cal → Cal) (s : State) : (s.modCal g).order = s.order := rfl
@[simp] theorem modCal_hop (g : Cal → Cal) (s : State) : (s.modCal g).hop = s.hop := rfl
@[simp] theorem modCal_hopHold (g : Cal → Cal) (s : State) : (s.modCal g).hopHold = s.hopHold := rfl
@[simp] theorem modCal_ports (g : Cal → Cal) (s : State) : (s.modCal g).ports = s.ports := rfl
@[simp] theorem modCal_lamps (g : Cal → Cal) (s : State) : (s.modCal g).lamps = s.lamps := rfl
@[simp] theorem modCal_chans (g : Cal → Cal) (s : State) : (s.modCal g).chans = s.chans := rfl
@[simp] theorem modCal_banks (g : Cal → Cal) (s : State) : (s.modCal g).banks = s.banks := rfl
@[simp] theorem modCal_pllLocked (g : Cal → Cal) (s : State) : (s.modCal g).pllLocked = s.pllLocked := rfl
@[simp] theorem modCal_marks (g : Cal → Cal) (s : State) : (s.modCal g).marks = s.marks := rfl
@[simp] theorem modCal_hk (g : Cal → Cal) (s : State) : (s.modCal g).hk = s.hk := rfl
@[simp] theorem modCal_runs (g : Cal → Cal) (s : State) : (s.modCal g).runs = s.runs := rfl
@[simp] theorem modCal_auxf (g : Cal → Cal) (s : State) : (s.modCal g).auxf = s.auxf := rfl
@[simp] theorem modCal_groups (g : Cal → Cal) (s : State) : (s.modCal g).groups = s.groups := rfl
@[simp] theorem modCal_dram (g : Cal → Cal) (s : State) : (s.modCal g).dram = s.dram := rfl
@[simp] theorem modCal_dramMem (g : Cal → Cal) (s : State) : (s.modCal g).dramMem = s.dramMem := rfl
@[simp] theorem modCal_recs (g : Cal → Cal) (s : State) : (s.modCal g).recs = s.recs := rfl
@[simp] theorem modCal_link (g : Cal → Cal) (s : State) : (s.modCal g).link = s.link := rfl
@[simp] theorem modCal_dist (g : Cal → Cal) (s : State) : (s.modCal g).dist = s.dist := rfl
@[simp] theorem modCal_whorl (g : Cal → Cal) (s : State) : (s.modCal g).whorl = s.whorl := rfl
@[simp] theorem modCal_latch (g : Cal → Cal) (s : State) : (s.modCal g).latch = s.latch := rfl
@[simp] theorem modCal_trust (g : Cal → Cal) (s : State) : (s.modCal g).trust = s.trust := rfl
@[simp] theorem modCal_power (g : Cal → Cal) (s : State) : (s.modCal g).power = s.power := rfl
@[simp] theorem modCal_nv (g : Cal → Cal) (s : State) : (s.modCal g).nv = s.nv := rfl
@[simp] theorem modCal_nvCtl (g : Cal → Cal) (s : State) : (s.modCal g).nvCtl = s.nvCtl := rfl
@[simp] theorem modCal_boot (g : Cal → Cal) (s : State) : (s.modCal g).boot = s.boot := rfl
@[simp] theorem modCal_cal (g : Cal → Cal) (s : State) : (s.modCal g).cal = g s.cal := rfl
@[simp] theorem modCal_side (g : Cal → Cal) (s : State) : (s.modCal g).side = s.side := rfl
@[simp] theorem modCal_counters (g : Cal → Cal) (s : State) : (s.modCal g).counters = s.counters := rfl
@[simp] theorem modCal_pending (g : Cal → Cal) (s : State) : (s.modCal g).pending = s.pending := rfl

@[simp] theorem modSide_clock (g : SidePort → SidePort) (s : State) : (s.modSide g).clock = s.clock := rfl
@[simp] theorem modSide_dev (g : SidePort → SidePort) (s : State) : (s.modSide g).dev = s.dev := rfl
@[simp] theorem modSide_spindle (g : SidePort → SidePort) (s : State) : (s.modSide g).spindle = s.spindle := rfl
@[simp] theorem modSide_flyers (g : SidePort → SidePort) (s : State) : (s.modSide g).flyers = s.flyers := rfl
@[simp] theorem modSide_skein (g : SidePort → SidePort) (s : State) : (s.modSide g).skein = s.skein := rfl
@[simp] theorem modSide_arb (g : SidePort → SidePort) (s : State) : (s.modSide g).arb = s.arb := rfl
@[simp] theorem modSide_order (g : SidePort → SidePort) (s : State) : (s.modSide g).order = s.order := rfl
@[simp] theorem modSide_hop (g : SidePort → SidePort) (s : State) : (s.modSide g).hop = s.hop := rfl
@[simp] theorem modSide_hopHold (g : SidePort → SidePort) (s : State) : (s.modSide g).hopHold = s.hopHold := rfl
@[simp] theorem modSide_ports (g : SidePort → SidePort) (s : State) : (s.modSide g).ports = s.ports := rfl
@[simp] theorem modSide_lamps (g : SidePort → SidePort) (s : State) : (s.modSide g).lamps = s.lamps := rfl
@[simp] theorem modSide_chans (g : SidePort → SidePort) (s : State) : (s.modSide g).chans = s.chans := rfl
@[simp] theorem modSide_banks (g : SidePort → SidePort) (s : State) : (s.modSide g).banks = s.banks := rfl
@[simp] theorem modSide_pllLocked (g : SidePort → SidePort) (s : State) : (s.modSide g).pllLocked = s.pllLocked := rfl
@[simp] theorem modSide_marks (g : SidePort → SidePort) (s : State) : (s.modSide g).marks = s.marks := rfl
@[simp] theorem modSide_hk (g : SidePort → SidePort) (s : State) : (s.modSide g).hk = s.hk := rfl
@[simp] theorem modSide_runs (g : SidePort → SidePort) (s : State) : (s.modSide g).runs = s.runs := rfl
@[simp] theorem modSide_auxf (g : SidePort → SidePort) (s : State) : (s.modSide g).auxf = s.auxf := rfl
@[simp] theorem modSide_groups (g : SidePort → SidePort) (s : State) : (s.modSide g).groups = s.groups := rfl
@[simp] theorem modSide_dram (g : SidePort → SidePort) (s : State) : (s.modSide g).dram = s.dram := rfl
@[simp] theorem modSide_dramMem (g : SidePort → SidePort) (s : State) : (s.modSide g).dramMem = s.dramMem := rfl
@[simp] theorem modSide_recs (g : SidePort → SidePort) (s : State) : (s.modSide g).recs = s.recs := rfl
@[simp] theorem modSide_link (g : SidePort → SidePort) (s : State) : (s.modSide g).link = s.link := rfl
@[simp] theorem modSide_dist (g : SidePort → SidePort) (s : State) : (s.modSide g).dist = s.dist := rfl
@[simp] theorem modSide_whorl (g : SidePort → SidePort) (s : State) : (s.modSide g).whorl = s.whorl := rfl
@[simp] theorem modSide_latch (g : SidePort → SidePort) (s : State) : (s.modSide g).latch = s.latch := rfl
@[simp] theorem modSide_trust (g : SidePort → SidePort) (s : State) : (s.modSide g).trust = s.trust := rfl
@[simp] theorem modSide_power (g : SidePort → SidePort) (s : State) : (s.modSide g).power = s.power := rfl
@[simp] theorem modSide_nv (g : SidePort → SidePort) (s : State) : (s.modSide g).nv = s.nv := rfl
@[simp] theorem modSide_nvCtl (g : SidePort → SidePort) (s : State) : (s.modSide g).nvCtl = s.nvCtl := rfl
@[simp] theorem modSide_boot (g : SidePort → SidePort) (s : State) : (s.modSide g).boot = s.boot := rfl
@[simp] theorem modSide_cal (g : SidePort → SidePort) (s : State) : (s.modSide g).cal = s.cal := rfl
@[simp] theorem modSide_side (g : SidePort → SidePort) (s : State) : (s.modSide g).side = g s.side := rfl
@[simp] theorem modSide_counters (g : SidePort → SidePort) (s : State) : (s.modSide g).counters = s.counters := rfl
@[simp] theorem modSide_pending (g : SidePort → SidePort) (s : State) : (s.modSide g).pending = s.pending := rfl

@[simp] theorem modCounters_clock (g : Store Nat → Store Nat) (s : State) : (s.modCounters g).clock = s.clock := rfl
@[simp] theorem modCounters_dev (g : Store Nat → Store Nat) (s : State) : (s.modCounters g).dev = s.dev := rfl
@[simp] theorem modCounters_spindle (g : Store Nat → Store Nat) (s : State) :
    (s.modCounters g).spindle = s.spindle := rfl
@[simp] theorem modCounters_flyers (g : Store Nat → Store Nat) (s : State) : (s.modCounters g).flyers = s.flyers := rfl
@[simp] theorem modCounters_skein (g : Store Nat → Store Nat) (s : State) : (s.modCounters g).skein = s.skein := rfl
@[simp] theorem modCounters_arb (g : Store Nat → Store Nat) (s : State) : (s.modCounters g).arb = s.arb := rfl
@[simp] theorem modCounters_order (g : Store Nat → Store Nat) (s : State) : (s.modCounters g).order = s.order := rfl
@[simp] theorem modCounters_hop (g : Store Nat → Store Nat) (s : State) : (s.modCounters g).hop = s.hop := rfl
@[simp] theorem modCounters_hopHold (g : Store Nat → Store Nat) (s : State) :
    (s.modCounters g).hopHold = s.hopHold := rfl
@[simp] theorem modCounters_ports (g : Store Nat → Store Nat) (s : State) : (s.modCounters g).ports = s.ports := rfl
@[simp] theorem modCounters_lamps (g : Store Nat → Store Nat) (s : State) : (s.modCounters g).lamps = s.lamps := rfl
@[simp] theorem modCounters_chans (g : Store Nat → Store Nat) (s : State) : (s.modCounters g).chans = s.chans := rfl
@[simp] theorem modCounters_banks (g : Store Nat → Store Nat) (s : State) : (s.modCounters g).banks = s.banks := rfl
@[simp] theorem modCounters_pllLocked (g : Store Nat → Store Nat) (s : State) :
    (s.modCounters g).pllLocked = s.pllLocked := rfl
@[simp] theorem modCounters_marks (g : Store Nat → Store Nat) (s : State) : (s.modCounters g).marks = s.marks := rfl
@[simp] theorem modCounters_hk (g : Store Nat → Store Nat) (s : State) : (s.modCounters g).hk = s.hk := rfl
@[simp] theorem modCounters_runs (g : Store Nat → Store Nat) (s : State) : (s.modCounters g).runs = s.runs := rfl
@[simp] theorem modCounters_auxf (g : Store Nat → Store Nat) (s : State) : (s.modCounters g).auxf = s.auxf := rfl
@[simp] theorem modCounters_groups (g : Store Nat → Store Nat) (s : State) : (s.modCounters g).groups = s.groups := rfl
@[simp] theorem modCounters_dram (g : Store Nat → Store Nat) (s : State) : (s.modCounters g).dram = s.dram := rfl
@[simp] theorem modCounters_dramMem (g : Store Nat → Store Nat) (s : State) :
    (s.modCounters g).dramMem = s.dramMem := rfl
@[simp] theorem modCounters_recs (g : Store Nat → Store Nat) (s : State) : (s.modCounters g).recs = s.recs := rfl
@[simp] theorem modCounters_link (g : Store Nat → Store Nat) (s : State) : (s.modCounters g).link = s.link := rfl
@[simp] theorem modCounters_dist (g : Store Nat → Store Nat) (s : State) : (s.modCounters g).dist = s.dist := rfl
@[simp] theorem modCounters_whorl (g : Store Nat → Store Nat) (s : State) : (s.modCounters g).whorl = s.whorl := rfl
@[simp] theorem modCounters_latch (g : Store Nat → Store Nat) (s : State) : (s.modCounters g).latch = s.latch := rfl
@[simp] theorem modCounters_trust (g : Store Nat → Store Nat) (s : State) : (s.modCounters g).trust = s.trust := rfl
@[simp] theorem modCounters_power (g : Store Nat → Store Nat) (s : State) : (s.modCounters g).power = s.power := rfl
@[simp] theorem modCounters_nv (g : Store Nat → Store Nat) (s : State) : (s.modCounters g).nv = s.nv := rfl
@[simp] theorem modCounters_nvCtl (g : Store Nat → Store Nat) (s : State) : (s.modCounters g).nvCtl = s.nvCtl := rfl
@[simp] theorem modCounters_boot (g : Store Nat → Store Nat) (s : State) : (s.modCounters g).boot = s.boot := rfl
@[simp] theorem modCounters_cal (g : Store Nat → Store Nat) (s : State) : (s.modCounters g).cal = s.cal := rfl
@[simp] theorem modCounters_side (g : Store Nat → Store Nat) (s : State) : (s.modCounters g).side = s.side := rfl
@[simp] theorem modCounters_counters (g : Store Nat → Store Nat) (s : State) :
    (s.modCounters g).counters = g s.counters := rfl
@[simp] theorem modCounters_pending (g : Store Nat → Store Nat) (s : State) :
    (s.modCounters g).pending = s.pending := rfl

@[simp] theorem modPending_clock (g : List Instr → List Instr) (s : State) : (s.modPending g).clock = s.clock := rfl
@[simp] theorem modPending_dev (g : List Instr → List Instr) (s : State) : (s.modPending g).dev = s.dev := rfl
@[simp] theorem modPending_spindle (g : List Instr → List Instr) (s : State) :
    (s.modPending g).spindle = s.spindle := rfl
@[simp] theorem modPending_flyers (g : List Instr → List Instr) (s : State) : (s.modPending g).flyers = s.flyers := rfl
@[simp] theorem modPending_skein (g : List Instr → List Instr) (s : State) : (s.modPending g).skein = s.skein := rfl
@[simp] theorem modPending_arb (g : List Instr → List Instr) (s : State) : (s.modPending g).arb = s.arb := rfl
@[simp] theorem modPending_order (g : List Instr → List Instr) (s : State) : (s.modPending g).order = s.order := rfl
@[simp] theorem modPending_hop (g : List Instr → List Instr) (s : State) : (s.modPending g).hop = s.hop := rfl
@[simp] theorem modPending_hopHold (g : List Instr → List Instr) (s : State) :
    (s.modPending g).hopHold = s.hopHold := rfl
@[simp] theorem modPending_ports (g : List Instr → List Instr) (s : State) : (s.modPending g).ports = s.ports := rfl
@[simp] theorem modPending_lamps (g : List Instr → List Instr) (s : State) : (s.modPending g).lamps = s.lamps := rfl
@[simp] theorem modPending_chans (g : List Instr → List Instr) (s : State) : (s.modPending g).chans = s.chans := rfl
@[simp] theorem modPending_banks (g : List Instr → List Instr) (s : State) : (s.modPending g).banks = s.banks := rfl
@[simp] theorem modPending_pllLocked (g : List Instr → List Instr) (s : State) :
    (s.modPending g).pllLocked = s.pllLocked := rfl
@[simp] theorem modPending_marks (g : List Instr → List Instr) (s : State) : (s.modPending g).marks = s.marks := rfl
@[simp] theorem modPending_hk (g : List Instr → List Instr) (s : State) : (s.modPending g).hk = s.hk := rfl
@[simp] theorem modPending_runs (g : List Instr → List Instr) (s : State) : (s.modPending g).runs = s.runs := rfl
@[simp] theorem modPending_auxf (g : List Instr → List Instr) (s : State) : (s.modPending g).auxf = s.auxf := rfl
@[simp] theorem modPending_groups (g : List Instr → List Instr) (s : State) : (s.modPending g).groups = s.groups := rfl
@[simp] theorem modPending_dram (g : List Instr → List Instr) (s : State) : (s.modPending g).dram = s.dram := rfl
@[simp] theorem modPending_dramMem (g : List Instr → List Instr) (s : State) :
    (s.modPending g).dramMem = s.dramMem := rfl
@[simp] theorem modPending_recs (g : List Instr → List Instr) (s : State) : (s.modPending g).recs = s.recs := rfl
@[simp] theorem modPending_link (g : List Instr → List Instr) (s : State) : (s.modPending g).link = s.link := rfl
@[simp] theorem modPending_dist (g : List Instr → List Instr) (s : State) : (s.modPending g).dist = s.dist := rfl
@[simp] theorem modPending_whorl (g : List Instr → List Instr) (s : State) : (s.modPending g).whorl = s.whorl := rfl
@[simp] theorem modPending_latch (g : List Instr → List Instr) (s : State) : (s.modPending g).latch = s.latch := rfl
@[simp] theorem modPending_trust (g : List Instr → List Instr) (s : State) : (s.modPending g).trust = s.trust := rfl
@[simp] theorem modPending_power (g : List Instr → List Instr) (s : State) : (s.modPending g).power = s.power := rfl
@[simp] theorem modPending_nv (g : List Instr → List Instr) (s : State) : (s.modPending g).nv = s.nv := rfl
@[simp] theorem modPending_nvCtl (g : List Instr → List Instr) (s : State) : (s.modPending g).nvCtl = s.nvCtl := rfl
@[simp] theorem modPending_boot (g : List Instr → List Instr) (s : State) : (s.modPending g).boot = s.boot := rfl
@[simp] theorem modPending_cal (g : List Instr → List Instr) (s : State) : (s.modPending g).cal = s.cal := rfl
@[simp] theorem modPending_side (g : List Instr → List Instr) (s : State) : (s.modPending g).side = s.side := rfl
@[simp] theorem modPending_counters (g : List Instr → List Instr) (s : State) :
    (s.modPending g).counters = s.counters := rfl
@[simp] theorem modPending_pending (g : List Instr → List Instr) (s : State) :
    (s.modPending g).pending = g s.pending := rfl

@[simp] theorem advance_dev (t : Tick) (s : State) : (s.advance t).dev = s.dev := rfl
@[simp] theorem advance_spindle (t : Tick) (s : State) : (s.advance t).spindle = s.spindle := rfl
@[simp] theorem advance_flyers (t : Tick) (s : State) : (s.advance t).flyers = s.flyers := rfl
@[simp] theorem advance_skein (t : Tick) (s : State) : (s.advance t).skein = s.skein := rfl
@[simp] theorem advance_arb (t : Tick) (s : State) : (s.advance t).arb = s.arb := rfl
@[simp] theorem advance_order (t : Tick) (s : State) : (s.advance t).order = s.order := rfl
@[simp] theorem advance_hop (t : Tick) (s : State) : (s.advance t).hop = s.hop := rfl
@[simp] theorem advance_hopHold (t : Tick) (s : State) : (s.advance t).hopHold = s.hopHold := rfl
@[simp] theorem advance_ports (t : Tick) (s : State) : (s.advance t).ports = s.ports := rfl
@[simp] theorem advance_lamps (t : Tick) (s : State) : (s.advance t).lamps = s.lamps := rfl
@[simp] theorem advance_chans (t : Tick) (s : State) : (s.advance t).chans = s.chans := rfl
@[simp] theorem advance_banks (t : Tick) (s : State) : (s.advance t).banks = s.banks := rfl
@[simp] theorem advance_pllLocked (t : Tick) (s : State) : (s.advance t).pllLocked = s.pllLocked := rfl
@[simp] theorem advance_marks (t : Tick) (s : State) : (s.advance t).marks = s.marks := rfl
@[simp] theorem advance_hk (t : Tick) (s : State) : (s.advance t).hk = s.hk := rfl
@[simp] theorem advance_runs (t : Tick) (s : State) : (s.advance t).runs = s.runs := rfl
@[simp] theorem advance_auxf (t : Tick) (s : State) : (s.advance t).auxf = s.auxf := rfl
@[simp] theorem advance_groups (t : Tick) (s : State) : (s.advance t).groups = s.groups := rfl
@[simp] theorem advance_dram (t : Tick) (s : State) : (s.advance t).dram = s.dram := rfl
@[simp] theorem advance_dramMem (t : Tick) (s : State) : (s.advance t).dramMem = s.dramMem := rfl
@[simp] theorem advance_recs (t : Tick) (s : State) : (s.advance t).recs = s.recs := rfl
@[simp] theorem advance_link (t : Tick) (s : State) : (s.advance t).link = s.link := rfl
@[simp] theorem advance_dist (t : Tick) (s : State) : (s.advance t).dist = s.dist := rfl
@[simp] theorem advance_whorl (t : Tick) (s : State) : (s.advance t).whorl = s.whorl := rfl
@[simp] theorem advance_latch (t : Tick) (s : State) : (s.advance t).latch = s.latch := rfl
@[simp] theorem advance_trust (t : Tick) (s : State) : (s.advance t).trust = s.trust := rfl
@[simp] theorem advance_power (t : Tick) (s : State) : (s.advance t).power = s.power := rfl
@[simp] theorem advance_nv (t : Tick) (s : State) : (s.advance t).nv = s.nv := rfl
@[simp] theorem advance_nvCtl (t : Tick) (s : State) : (s.advance t).nvCtl = s.nvCtl := rfl
@[simp] theorem advance_boot (t : Tick) (s : State) : (s.advance t).boot = s.boot := rfl
@[simp] theorem advance_cal (t : Tick) (s : State) : (s.advance t).cal = s.cal := rfl
@[simp] theorem advance_side (t : Tick) (s : State) : (s.advance t).side = s.side := rfl
@[simp] theorem advance_counters (t : Tick) (s : State) : (s.advance t).counters = s.counters := rfl
@[simp] theorem advance_pending (t : Tick) (s : State) : (s.advance t).pending = s.pending := rfl
@[simp] theorem draw_dev (s : State) (n : Nat) : (s.draw n).2.dev = s.dev := rfl
@[simp] theorem draw_spindle (s : State) (n : Nat) : (s.draw n).2.spindle = s.spindle := rfl
@[simp] theorem draw_flyers (s : State) (n : Nat) : (s.draw n).2.flyers = s.flyers := rfl
@[simp] theorem draw_skein (s : State) (n : Nat) : (s.draw n).2.skein = s.skein := rfl
@[simp] theorem draw_arb (s : State) (n : Nat) : (s.draw n).2.arb = s.arb := rfl
@[simp] theorem draw_order (s : State) (n : Nat) : (s.draw n).2.order = s.order := rfl
@[simp] theorem draw_hop (s : State) (n : Nat) : (s.draw n).2.hop = s.hop := rfl
@[simp] theorem draw_hopHold (s : State) (n : Nat) : (s.draw n).2.hopHold = s.hopHold := rfl
@[simp] theorem draw_ports (s : State) (n : Nat) : (s.draw n).2.ports = s.ports := rfl
@[simp] theorem draw_lamps (s : State) (n : Nat) : (s.draw n).2.lamps = s.lamps := rfl
@[simp] theorem draw_chans (s : State) (n : Nat) : (s.draw n).2.chans = s.chans := rfl
@[simp] theorem draw_banks (s : State) (n : Nat) : (s.draw n).2.banks = s.banks := rfl
@[simp] theorem draw_pllLocked (s : State) (n : Nat) : (s.draw n).2.pllLocked = s.pllLocked := rfl
@[simp] theorem draw_marks (s : State) (n : Nat) : (s.draw n).2.marks = s.marks := rfl
@[simp] theorem draw_hk (s : State) (n : Nat) : (s.draw n).2.hk = s.hk := rfl
@[simp] theorem draw_runs (s : State) (n : Nat) : (s.draw n).2.runs = s.runs := rfl
@[simp] theorem draw_auxf (s : State) (n : Nat) : (s.draw n).2.auxf = s.auxf := rfl
@[simp] theorem draw_groups (s : State) (n : Nat) : (s.draw n).2.groups = s.groups := rfl
@[simp] theorem draw_dram (s : State) (n : Nat) : (s.draw n).2.dram = s.dram := rfl
@[simp] theorem draw_dramMem (s : State) (n : Nat) : (s.draw n).2.dramMem = s.dramMem := rfl
@[simp] theorem draw_recs (s : State) (n : Nat) : (s.draw n).2.recs = s.recs := rfl
@[simp] theorem draw_link (s : State) (n : Nat) : (s.draw n).2.link = s.link := rfl
@[simp] theorem draw_dist (s : State) (n : Nat) : (s.draw n).2.dist = s.dist := rfl
@[simp] theorem draw_whorl (s : State) (n : Nat) : (s.draw n).2.whorl = s.whorl := rfl
@[simp] theorem draw_latch (s : State) (n : Nat) : (s.draw n).2.latch = s.latch := rfl
@[simp] theorem draw_trust (s : State) (n : Nat) : (s.draw n).2.trust = s.trust := rfl
@[simp] theorem draw_power (s : State) (n : Nat) : (s.draw n).2.power = s.power := rfl
@[simp] theorem draw_nv (s : State) (n : Nat) : (s.draw n).2.nv = s.nv := rfl
@[simp] theorem draw_nvCtl (s : State) (n : Nat) : (s.draw n).2.nvCtl = s.nvCtl := rfl
@[simp] theorem draw_boot (s : State) (n : Nat) : (s.draw n).2.boot = s.boot := rfl
@[simp] theorem draw_cal (s : State) (n : Nat) : (s.draw n).2.cal = s.cal := rfl
@[simp] theorem draw_side (s : State) (n : Nat) : (s.draw n).2.side = s.side := rfl
@[simp] theorem draw_counters (s : State) (n : Nat) : (s.draw n).2.counters = s.counters := rfl
@[simp] theorem draw_pending (s : State) (n : Nat) : (s.draw n).2.pending = s.pending := rfl
@[simp] theorem advance_clock (t : Tick) (s : State) :
    (s.advance t).clock = { s.clock with now := max s.clock.now t } := rfl
@[simp] theorem advance_now (t : Tick) (s : State) : (s.advance t).now = max s.now t := rfl

end Sys2Proof.Machine.State
end

