-- ==== Sys2Proof/Laws/Report.lean ====
section
/-! SUPPORT. What the reporting operations (events, health records, log entries, side-port flags) and the acknowledgement and
completion of commands leave alone: every field but those that hold records, log and flags, or responses. -/

namespace Sys2Proof.Machine.State

theorem cond_eq (b : Bool) (f : State → State) (s : State) : s.cond b f = if b then f s else s := rfl

@[simp] theorem offer_clock (l : Lane) (src : Nat) (frame : Option Nat) (mk : List (Nat → List Byte)) (s : State) :
    (offer l src frame mk s).clock = s.clock := rfl
@[simp] theorem offer_dev (l : Lane) (src : Nat) (frame : Option Nat) (mk : List (Nat → List Byte)) (s : State) :
    (offer l src frame mk s).dev = s.dev := rfl
@[simp] theorem offer_spindle (l : Lane) (src : Nat) (frame : Option Nat) (mk : List (Nat → List Byte)) (s : State) :
    (offer l src frame mk s).spindle = s.spindle := rfl
@[simp] theorem offer_flyers (l : Lane) (src : Nat) (frame : Option Nat) (mk : List (Nat → List Byte)) (s : State) :
    (offer l src frame mk s).flyers = s.flyers := rfl
@[simp] theorem offer_skein (l : Lane) (src : Nat) (frame : Option Nat) (mk : List (Nat → List Byte)) (s : State) :
    (offer l src frame mk s).skein = s.skein := rfl
@[simp] theorem offer_arb (l : Lane) (src : Nat) (frame : Option Nat) (mk : List (Nat → List Byte)) (s : State) :
    (offer l src frame mk s).arb = s.arb := rfl
@[simp] theorem offer_order (l : Lane) (src : Nat) (frame : Option Nat) (mk : List (Nat → List Byte)) (s : State) :
    (offer l src frame mk s).order = s.order := rfl
@[simp] theorem offer_hop (l : Lane) (src : Nat) (frame : Option Nat) (mk : List (Nat → List Byte)) (s : State) :
    (offer l src frame mk s).hop = s.hop := rfl
@[simp] theorem offer_hopHold (l : Lane) (src : Nat) (frame : Option Nat) (mk : List (Nat → List Byte)) (s : State) :
    (offer l src frame mk s).hopHold = s.hopHold := rfl
@[simp] theorem offer_ports (l : Lane) (src : Nat) (frame : Option Nat) (mk : List (Nat → List Byte)) (s : State) :
    (offer l src frame mk s).ports = s.ports := rfl
@[simp] theorem offer_lamps (l : Lane) (src : Nat) (frame : Option Nat) (mk : List (Nat → List Byte)) (s : State) :
    (offer l src frame mk s).lamps = s.lamps := rfl
@[simp] theorem offer_chans (l : Lane) (src : Nat) (frame : Option Nat) (mk : List (Nat → List Byte)) (s : State) :
    (offer l src frame mk s).chans = s.chans := rfl
@[simp] theorem offer_banks (l : Lane) (src : Nat) (frame : Option Nat) (mk : List (Nat → List Byte)) (s : State) :
    (offer l src frame mk s).banks = s.banks := rfl
@[simp] theorem offer_pllLocked (l : Lane) (src : Nat) (frame : Option Nat) (mk : List (Nat → List Byte)) (s : State) :
    (offer l src frame mk s).pllLocked = s.pllLocked := rfl
@[simp] theorem offer_marks (l : Lane) (src : Nat) (frame : Option Nat) (mk : List (Nat → List Byte)) (s : State) :
    (offer l src frame mk s).marks = s.marks := rfl
@[simp] theorem offer_hk (l : Lane) (src : Nat) (frame : Option Nat) (mk : List (Nat → List Byte)) (s : State) :
    (offer l src frame mk s).hk = s.hk := rfl
@[simp] theorem offer_runs (l : Lane) (src : Nat) (frame : Option Nat) (mk : List (Nat → List Byte)) (s : State) :
    (offer l src frame mk s).runs = s.runs := rfl
@[simp] theorem offer_auxf (l : Lane) (src : Nat) (frame : Option Nat) (mk : List (Nat → List Byte)) (s : State) :
    (offer l src frame mk s).auxf = s.auxf := rfl
@[simp] theorem offer_groups (l : Lane) (src : Nat) (frame : Option Nat) (mk : List (Nat → List Byte)) (s : State) :
    (offer l src frame mk s).groups = s.groups := rfl
@[simp] theorem offer_dram (l : Lane) (src : Nat) (frame : Option Nat) (mk : List (Nat → List Byte)) (s : State) :
    (offer l src frame mk s).dram = s.dram := rfl
@[simp] theorem offer_dramMem (l : Lane) (src : Nat) (frame : Option Nat) (mk : List (Nat → List Byte)) (s : State) :
    (offer l src frame mk s).dramMem = s.dramMem := rfl
@[simp] theorem offer_link (l : Lane) (src : Nat) (frame : Option Nat) (mk : List (Nat → List Byte)) (s : State) :
    (offer l src frame mk s).link = s.link := rfl
@[simp] theorem offer_dist (l : Lane) (src : Nat) (frame : Option Nat) (mk : List (Nat → List Byte)) (s : State) :
    (offer l src frame mk s).dist = s.dist := rfl
@[simp] theorem offer_whorl (l : Lane) (src : Nat) (frame : Option Nat) (mk : List (Nat → List Byte)) (s : State) :
    (offer l src frame mk s).whorl = s.whorl := rfl
@[simp] theorem offer_latch (l : Lane) (src : Nat) (frame : Option Nat) (mk : List (Nat → List Byte)) (s : State) :
    (offer l src frame mk s).latch = s.latch := rfl
@[simp] theorem offer_trust (l : Lane) (src : Nat) (frame : Option Nat) (mk : List (Nat → List Byte)) (s : State) :
    (offer l src frame mk s).trust = s.trust := rfl
@[simp] theorem offer_power (l : Lane) (src : Nat) (frame : Option Nat) (mk : List (Nat → List Byte)) (s : State) :
    (offer l src frame mk s).power = s.power := rfl
@[simp] theorem offer_nv (l : Lane) (src : Nat) (frame : Option Nat) (mk : List (Nat → List Byte)) (s : State) :
    (offer l src frame mk s).nv = s.nv := rfl
@[simp] theorem offer_nvCtl (l : Lane) (src : Nat) (frame : Option Nat) (mk : List (Nat → List Byte)) (s : State) :
    (offer l src frame mk s).nvCtl = s.nvCtl := rfl
@[simp] theorem offer_boot (l : Lane) (src : Nat) (frame : Option Nat) (mk : List (Nat → List Byte)) (s : State) :
    (offer l src frame mk s).boot = s.boot := rfl
@[simp] theorem offer_cal (l : Lane) (src : Nat) (frame : Option Nat) (mk : List (Nat → List Byte)) (s : State) :
    (offer l src frame mk s).cal = s.cal := rfl
@[simp] theorem offer_side (l : Lane) (src : Nat) (frame : Option Nat) (mk : List (Nat → List Byte)) (s : State) :
    (offer l src frame mk s).side = s.side := rfl
@[simp] theorem offer_counters (l : Lane) (src : Nat) (frame : Option Nat) (mk : List (Nat → List Byte)) (s : State) :
    (offer l src frame mk s).counters = s.counters := rfl
@[simp] theorem offer_pending (l : Lane) (src : Nat) (frame : Option Nat) (mk : List (Nat → List Byte)) (s : State) :
    (offer l src frame mk s).pending = s.pending := rfl

@[simp] theorem setFlag_clock (n : Nat) (s : State) :
    (setFlag n s).clock = s.clock := rfl
@[simp] theorem setFlag_dev (n : Nat) (s : State) :
    (setFlag n s).dev = s.dev := rfl
@[simp] theorem setFlag_spindle (n : Nat) (s : State) :
    (setFlag n s).spindle = s.spindle := rfl
@[simp] theorem setFlag_flyers (n : Nat) (s : State) :
    (setFlag n s).flyers = s.flyers := rfl
@[simp] theorem setFlag_skein (n : Nat) (s : State) :
    (setFlag n s).skein = s.skein := rfl
@[simp] theorem setFlag_arb (n : Nat) (s : State) :
    (setFlag n s).arb = s.arb := rfl
@[simp] theorem setFlag_order (n : Nat) (s : State) :
    (setFlag n s).order = s.order := rfl
@[simp] theorem setFlag_hop (n : Nat) (s : State) :
    (setFlag n s).hop = s.hop := rfl
@[simp] theorem setFlag_hopHold (n : Nat) (s : State) :
    (setFlag n s).hopHold = s.hopHold := rfl
@[simp] theorem setFlag_ports (n : Nat) (s : State) :
    (setFlag n s).ports = s.ports := rfl
@[simp] theorem setFlag_lamps (n : Nat) (s : State) :
    (setFlag n s).lamps = s.lamps := rfl
@[simp] theorem setFlag_chans (n : Nat) (s : State) :
    (setFlag n s).chans = s.chans := rfl
@[simp] theorem setFlag_banks (n : Nat) (s : State) :
    (setFlag n s).banks = s.banks := rfl
@[simp] theorem setFlag_pllLocked (n : Nat) (s : State) :
    (setFlag n s).pllLocked = s.pllLocked := rfl
@[simp] theorem setFlag_marks (n : Nat) (s : State) :
    (setFlag n s).marks = s.marks := rfl
@[simp] theorem setFlag_hk (n : Nat) (s : State) :
    (setFlag n s).hk = s.hk := rfl
@[simp] theorem setFlag_runs (n : Nat) (s : State) :
    (setFlag n s).runs = s.runs := rfl
@[simp] theorem setFlag_auxf (n : Nat) (s : State) :
    (setFlag n s).auxf = s.auxf := rfl
@[simp] theorem setFlag_groups (n : Nat) (s : State) :
    (setFlag n s).groups = s.groups := rfl
@[simp] theorem setFlag_dram (n : Nat) (s : State) :
    (setFlag n s).dram = s.dram := rfl
@[simp] theorem setFlag_dramMem (n : Nat) (s : State) :
    (setFlag n s).dramMem = s.dramMem := rfl
@[simp] theorem setFlag_recs (n : Nat) (s : State) :
    (setFlag n s).recs = s.recs := rfl
@[simp] theorem setFlag_link (n : Nat) (s : State) :
    (setFlag n s).link = s.link := rfl
@[simp] theorem setFlag_dist (n : Nat) (s : State) :
    (setFlag n s).dist = s.dist := rfl
@[simp] theorem setFlag_whorl (n : Nat) (s : State) :
    (setFlag n s).whorl = s.whorl := rfl
@[simp] theorem setFlag_latch (n : Nat) (s : State) :
    (setFlag n s).latch = s.latch := rfl
@[simp] theorem setFlag_trust (n : Nat) (s : State) :
    (setFlag n s).trust = s.trust := rfl
@[simp] theorem setFlag_power (n : Nat) (s : State) :
    (setFlag n s).power = s.power := rfl
@[simp] theorem setFlag_nv (n : Nat) (s : State) :
    (setFlag n s).nv = s.nv := rfl
@[simp] theorem setFlag_nvCtl (n : Nat) (s : State) :
    (setFlag n s).nvCtl = s.nvCtl := rfl
@[simp] theorem setFlag_boot (n : Nat) (s : State) :
    (setFlag n s).boot = s.boot := rfl
@[simp] theorem setFlag_cal (n : Nat) (s : State) :
    (setFlag n s).cal = s.cal := rfl
@[simp] theorem setFlag_counters (n : Nat) (s : State) :
    (setFlag n s).counters = s.counters := rfl
@[simp] theorem setFlag_pending (n : Nat) (s : State) :
    (setFlag n s).pending = s.pending := rfl

@[simp] theorem logWrite_clock (body : List Byte) (s : State) :
    (logWrite body s).clock = s.clock := rfl
@[simp] theorem logWrite_dev (body : List Byte) (s : State) :
    (logWrite body s).dev = s.dev := rfl
@[simp] theorem logWrite_spindle (body : List Byte) (s : State) :
    (logWrite body s).spindle = s.spindle := rfl
@[simp] theorem logWrite_flyers (body : List Byte) (s : State) :
    (logWrite body s).flyers = s.flyers := rfl
@[simp] theorem logWrite_skein (body : List Byte) (s : State) :
    (logWrite body s).skein = s.skein := rfl
@[simp] theorem logWrite_arb (body : List Byte) (s : State) :
    (logWrite body s).arb = s.arb := rfl
@[simp] theorem logWrite_order (body : List Byte) (s : State) :
    (logWrite body s).order = s.order := rfl
@[simp] theorem logWrite_hop (body : List Byte) (s : State) :
    (logWrite body s).hop = s.hop := rfl
@[simp] theorem logWrite_hopHold (body : List Byte) (s : State) :
    (logWrite body s).hopHold = s.hopHold := rfl
@[simp] theorem logWrite_ports (body : List Byte) (s : State) :
    (logWrite body s).ports = s.ports := rfl
@[simp] theorem logWrite_lamps (body : List Byte) (s : State) :
    (logWrite body s).lamps = s.lamps := rfl
@[simp] theorem logWrite_chans (body : List Byte) (s : State) :
    (logWrite body s).chans = s.chans := rfl
@[simp] theorem logWrite_banks (body : List Byte) (s : State) :
    (logWrite body s).banks = s.banks := rfl
@[simp] theorem logWrite_pllLocked (body : List Byte) (s : State) :
    (logWrite body s).pllLocked = s.pllLocked := rfl
@[simp] theorem logWrite_marks (body : List Byte) (s : State) :
    (logWrite body s).marks = s.marks := rfl
@[simp] theorem logWrite_hk (body : List Byte) (s : State) :
    (logWrite body s).hk = s.hk := rfl
@[simp] theorem logWrite_runs (body : List Byte) (s : State) :
    (logWrite body s).runs = s.runs := rfl
@[simp] theorem logWrite_auxf (body : List Byte) (s : State) :
    (logWrite body s).auxf = s.auxf := rfl
@[simp] theorem logWrite_groups (body : List Byte) (s : State) :
    (logWrite body s).groups = s.groups := rfl
@[simp] theorem logWrite_dram (body : List Byte) (s : State) :
    (logWrite body s).dram = s.dram := rfl
@[simp] theorem logWrite_dramMem (body : List Byte) (s : State) :
    (logWrite body s).dramMem = s.dramMem := rfl
@[simp] theorem logWrite_recs (body : List Byte) (s : State) :
    (logWrite body s).recs = s.recs := rfl
@[simp] theorem logWrite_link (body : List Byte) (s : State) :
    (logWrite body s).link = s.link := rfl
@[simp] theorem logWrite_dist (body : List Byte) (s : State) :
    (logWrite body s).dist = s.dist := rfl
@[simp] theorem logWrite_whorl (body : List Byte) (s : State) :
    (logWrite body s).whorl = s.whorl := rfl
@[simp] theorem logWrite_latch (body : List Byte) (s : State) :
    (logWrite body s).latch = s.latch := rfl
@[simp] theorem logWrite_trust (body : List Byte) (s : State) :
    (logWrite body s).trust = s.trust := rfl
@[simp] theorem logWrite_power (body : List Byte) (s : State) :
    (logWrite body s).power = s.power := rfl
@[simp] theorem logWrite_nv (body : List Byte) (s : State) :
    (logWrite body s).nv = s.nv := rfl
@[simp] theorem logWrite_boot (body : List Byte) (s : State) :
    (logWrite body s).boot = s.boot := rfl
@[simp] theorem logWrite_cal (body : List Byte) (s : State) :
    (logWrite body s).cal = s.cal := rfl
@[simp] theorem logWrite_side (body : List Byte) (s : State) :
    (logWrite body s).side = s.side := rfl
@[simp] theorem logWrite_counters (body : List Byte) (s : State) :
    (logWrite body s).counters = s.counters := rfl
@[simp] theorem logWrite_pending (body : List Byte) (s : State) :
    (logWrite body s).pending = s.pending := rfl

@[simp] theorem logOne_clock (body : List Byte) (s : State) :
    (logOne body s).clock = s.clock := by
  unfold logOne; dsimp only; split <;> [skip; split] <;> simp
@[simp] theorem logOne_dev (body : List Byte) (s : State) :
    (logOne body s).dev = s.dev := by
  unfold logOne; dsimp only; split <;> [skip; split] <;> simp
@[simp] theorem logOne_spindle (body : List Byte) (s : State) :
    (logOne body s).spindle = s.spindle := by
  unfold logOne; dsimp only; split <;> [skip; split] <;> simp
@[simp] theorem logOne_flyers (body : List Byte) (s : State) :
    (logOne body s).flyers = s.flyers := by
  unfold logOne; dsimp only; split <;> [skip; split] <;> simp
@[simp] theorem logOne_skein (body : List Byte) (s : State) :
    (logOne body s).skein = s.skein := by
  unfold logOne; dsimp only; split <;> [skip; split] <;> simp
@[simp] theorem logOne_arb (body : List Byte) (s : State) :
    (logOne body s).arb = s.arb := by
  unfold logOne; dsimp only; split <;> [skip; split] <;> simp
@[simp] theorem logOne_order (body : List Byte) (s : State) :
    (logOne body s).order = s.order := by
  unfold logOne; dsimp only; split <;> [skip; split] <;> simp
@[simp] theorem logOne_hop (body : List Byte) (s : State) :
    (logOne body s).hop = s.hop := by
  unfold logOne; dsimp only; split <;> [skip; split] <;> simp
@[simp] theorem logOne_hopHold (body : List Byte) (s : State) :
    (logOne body s).hopHold = s.hopHold := by
  unfold logOne; dsimp only; split <;> [skip; split] <;> simp
@[simp] theorem logOne_ports (body : List Byte) (s : State) :
    (logOne body s).ports = s.ports := by
  unfold logOne; dsimp only; split <;> [skip; split] <;> simp
@[simp] theorem logOne_lamps (body : List Byte) (s : State) :
    (logOne body s).lamps = s.lamps := by
  unfold logOne; dsimp only; split <;> [skip; split] <;> simp
@[simp] theorem logOne_chans (body : List Byte) (s : State) :
    (logOne body s).chans = s.chans := by
  unfold logOne; dsimp only; split <;> [skip; split] <;> simp
@[simp] theorem logOne_banks (body : List Byte) (s : State) :
    (logOne body s).banks = s.banks := by
  unfold logOne; dsimp only; split <;> [skip; split] <;> simp
@[simp] theorem logOne_pllLocked (body : List Byte) (s : State) :
    (logOne body s).pllLocked = s.pllLocked := by
  unfold logOne; dsimp only; split <;> [skip; split] <;> simp
@[simp] theorem logOne_marks (body : List Byte) (s : State) :
    (logOne body s).marks = s.marks := by
  unfold logOne; dsimp only; split <;> [skip; split] <;> simp
@[simp] theorem logOne_hk (body : List Byte) (s : State) :
    (logOne body s).hk = s.hk := by
  unfold logOne; dsimp only; split <;> [skip; split] <;> simp
@[simp] theorem logOne_runs (body : List Byte) (s : State) :
    (logOne body s).runs = s.runs := by
  unfold logOne; dsimp only; split <;> [skip; split] <;> simp
@[simp] theorem logOne_auxf (body : List Byte) (s : State) :
    (logOne body s).auxf = s.auxf := by
  unfold logOne; dsimp only; split <;> [skip; split] <;> simp
@[simp] theorem logOne_groups (body : List Byte) (s : State) :
    (logOne body s).groups = s.groups := by
  unfold logOne; dsimp only; split <;> [skip; split] <;> simp
@[simp] theorem logOne_dram (body : List Byte) (s : State) :
    (logOne body s).dram = s.dram := by
  unfold logOne; dsimp only; split <;> [skip; split] <;> simp
@[simp] theorem logOne_dramMem (body : List Byte) (s : State) :
    (logOne body s).dramMem = s.dramMem := by
  unfold logOne; dsimp only; split <;> [skip; split] <;> simp
@[simp] theorem logOne_recs (body : List Byte) (s : State) :
    (logOne body s).recs = s.recs := by
  unfold logOne; dsimp only; split <;> [skip; split] <;> simp
@[simp] theorem logOne_link (body : List Byte) (s : State) :
    (logOne body s).link = s.link := by
  unfold logOne; dsimp only; split <;> [skip; split] <;> simp
@[simp] theorem logOne_dist (body : List Byte) (s : State) :
    (logOne body s).dist = s.dist := by
  unfold logOne; dsimp only; split <;> [skip; split] <;> simp
@[simp] theorem logOne_whorl (body : List Byte) (s : State) :
    (logOne body s).whorl = s.whorl := by
  unfold logOne; dsimp only; split <;> [skip; split] <;> simp
@[simp] theorem logOne_latch (body : List Byte) (s : State) :
    (logOne body s).latch = s.latch := by
  unfold logOne; dsimp only; split <;> [skip; split] <;> simp
@[simp] theorem logOne_trust (body : List Byte) (s : State) :
    (logOne body s).trust = s.trust := by
  unfold logOne; dsimp only; split <;> [skip; split] <;> simp
@[simp] theorem logOne_power (body : List Byte) (s : State) :
    (logOne body s).power = s.power := by
  unfold logOne; dsimp only; split <;> [skip; split] <;> simp
@[simp] theorem logOne_nv (body : List Byte) (s : State) :
    (logOne body s).nv = s.nv := by
  unfold logOne; dsimp only; split <;> [skip; split] <;> simp
@[simp] theorem logOne_boot (body : List Byte) (s : State) :
    (logOne body s).boot = s.boot := by
  unfold logOne; dsimp only; split <;> [skip; split] <;> simp
@[simp] theorem logOne_cal (body : List Byte) (s : State) :
    (logOne body s).cal = s.cal := by
  unfold logOne; dsimp only; split <;> [skip; split] <;> simp
@[simp] theorem logOne_counters (body : List Byte) (s : State) :
    (logOne body s).counters = s.counters := by
  unfold logOne; dsimp only; split <;> [skip; split] <;> simp
@[simp] theorem logOne_pending (body : List Byte) (s : State) :
    (logOne body s).pending = s.pending := by
  unfold logOne; dsimp only; split <;> [skip; split] <;> simp

@[simp] theorem healthOnly_clock (code : Nat) (subject : Nat) (details : List (Nat × Nat)) (seqs : List Nat) (s : State) :
    (healthOnly code subject details seqs s).clock = s.clock := by
  unfold healthOnly; try simp only [cond_eq]; repeat' split
  all_goals rfl
@[simp] theorem healthOnly_dev (code : Nat) (subject : Nat) (details : List (Nat × Nat)) (seqs : List Nat) (s : State) :
    (healthOnly code subject details seqs s).dev = s.dev := by
  unfold healthOnly; try simp only [cond_eq]; repeat' split
  all_goals rfl
@[simp] theorem healthOnly_spindle (code : Nat) (subject : Nat) (details : List (Nat × Nat)) (seqs : List Nat) (s : State) :
    (healthOnly code subject details seqs s).spindle = s.spindle := by
  unfold healthOnly; try simp only [cond_eq]; repeat' split
  all_goals rfl
@[simp] theorem healthOnly_flyers (code : Nat) (subject : Nat) (details : List (Nat × Nat)) (seqs : List Nat) (s : State) :
    (healthOnly code subject details seqs s).flyers = s.flyers := by
  unfold healthOnly; try simp only [cond_eq]; repeat' split
  all_goals rfl
@[simp] theorem healthOnly_skein (code : Nat) (subject : Nat) (details : List (Nat × Nat)) (seqs : List Nat) (s : State) :
    (healthOnly code subject details seqs s).skein = s.skein := by
  unfold healthOnly; try simp only [cond_eq]; repeat' split
  all_goals rfl
@[simp] theorem healthOnly_arb (code : Nat) (subject : Nat) (details : List (Nat × Nat)) (seqs : List Nat) (s : State) :
    (healthOnly code subject details seqs s).arb = s.arb := by
  unfold healthOnly; try simp only [cond_eq]; repeat' split
  all_goals rfl
@[simp] theorem healthOnly_order (code : Nat) (subject : Nat) (details : List (Nat × Nat)) (seqs : List Nat) (s : State) :
    (healthOnly code subject details seqs s).order = s.order := by
  unfold healthOnly; try simp only [cond_eq]; repeat' split
  all_goals rfl
@[simp] theorem healthOnly_hop (code : Nat) (subject : Nat) (details : List (Nat × Nat)) (seqs : List Nat) (s : State) :
    (healthOnly code subject details seqs s).hop = s.hop := by
  unfold healthOnly; try simp only [cond_eq]; repeat' split
  all_goals rfl
@[simp] theorem healthOnly_hopHold (code : Nat) (subject : Nat) (details : List (Nat × Nat)) (seqs : List Nat) (s : State) :
    (healthOnly code subject details seqs s).hopHold = s.hopHold := by
  unfold healthOnly; try simp only [cond_eq]; repeat' split
  all_goals rfl
@[simp] theorem healthOnly_ports (code : Nat) (subject : Nat) (details : List (Nat × Nat)) (seqs : List Nat) (s : State) :
    (healthOnly code subject details seqs s).ports = s.ports := by
  unfold healthOnly; try simp only [cond_eq]; repeat' split
  all_goals rfl
@[simp] theorem healthOnly_lamps (code : Nat) (subject : Nat) (details : List (Nat × Nat)) (seqs : List Nat) (s : State) :
    (healthOnly code subject details seqs s).lamps = s.lamps := by
  unfold healthOnly; try simp only [cond_eq]; repeat' split
  all_goals rfl
@[simp] theorem healthOnly_chans (code : Nat) (subject : Nat) (details : List (Nat × Nat)) (seqs : List Nat) (s : State) :
    (healthOnly code subject details seqs s).chans = s.chans := by
  unfold healthOnly; try simp only [cond_eq]; repeat' split
  all_goals rfl
@[simp] theorem healthOnly_banks (code : Nat) (subject : Nat) (details : List (Nat × Nat)) (seqs : List Nat) (s : State) :
    (healthOnly code subject details seqs s).banks = s.banks := by
  unfold healthOnly; try simp only [cond_eq]; repeat' split
  all_goals rfl
@[simp] theorem healthOnly_pllLocked (code : Nat) (subject : Nat) (details : List (Nat × Nat)) (seqs : List Nat) (s : State) :
    (healthOnly code subject details seqs s).pllLocked = s.pllLocked := by
  unfold healthOnly; try simp only [cond_eq]; repeat' split
  all_goals rfl
@[simp] theorem healthOnly_marks (code : Nat) (subject : Nat) (details : List (Nat × Nat)) (seqs : List Nat) (s : State) :
    (healthOnly code subject details seqs s).marks = s.marks := by
  unfold healthOnly; try simp only [cond_eq]; repeat' split
  all_goals rfl
@[simp] theorem healthOnly_hk (code : Nat) (subject : Nat) (details : List (Nat × Nat)) (seqs : List Nat) (s : State) :
    (healthOnly code subject details seqs s).hk = s.hk := by
  unfold healthOnly; try simp only [cond_eq]; repeat' split
  all_goals rfl
@[simp] theorem healthOnly_runs (code : Nat) (subject : Nat) (details : List (Nat × Nat)) (seqs : List Nat) (s : State) :
    (healthOnly code subject details seqs s).runs = s.runs := by
  unfold healthOnly; try simp only [cond_eq]; repeat' split
  all_goals rfl
@[simp] theorem healthOnly_auxf (code : Nat) (subject : Nat) (details : List (Nat × Nat)) (seqs : List Nat) (s : State) :
    (healthOnly code subject details seqs s).auxf = s.auxf := by
  unfold healthOnly; try simp only [cond_eq]; repeat' split
  all_goals rfl
@[simp] theorem healthOnly_groups (code : Nat) (subject : Nat) (details : List (Nat × Nat)) (seqs : List Nat) (s : State) :
    (healthOnly code subject details seqs s).groups = s.groups := by
  unfold healthOnly; try simp only [cond_eq]; repeat' split
  all_goals rfl
@[simp] theorem healthOnly_dram (code : Nat) (subject : Nat) (details : List (Nat × Nat)) (seqs : List Nat) (s : State) :
    (healthOnly code subject details seqs s).dram = s.dram := by
  unfold healthOnly; try simp only [cond_eq]; repeat' split
  all_goals rfl
@[simp] theorem healthOnly_dramMem (code : Nat) (subject : Nat) (details : List (Nat × Nat)) (seqs : List Nat) (s : State) :
    (healthOnly code subject details seqs s).dramMem = s.dramMem := by
  unfold healthOnly; try simp only [cond_eq]; repeat' split
  all_goals rfl
@[simp] theorem healthOnly_link (code : Nat) (subject : Nat) (details : List (Nat × Nat)) (seqs : List Nat) (s : State) :
    (healthOnly code subject details seqs s).link = s.link := by
  unfold healthOnly; try simp only [cond_eq]; repeat' split
  all_goals rfl
@[simp] theorem healthOnly_dist (code : Nat) (subject : Nat) (details : List (Nat × Nat)) (seqs : List Nat) (s : State) :
    (healthOnly code subject details seqs s).dist = s.dist := by
  unfold healthOnly; try simp only [cond_eq]; repeat' split
  all_goals rfl
@[simp] theorem healthOnly_whorl (code : Nat) (subject : Nat) (details : List (Nat × Nat)) (seqs : List Nat) (s : State) :
    (healthOnly code subject details seqs s).whorl = s.whorl := by
  unfold healthOnly; try simp only [cond_eq]; repeat' split
  all_goals rfl
@[simp] theorem healthOnly_latch (code : Nat) (subject : Nat) (details : List (Nat × Nat)) (seqs : List Nat) (s : State) :
    (healthOnly code subject details seqs s).latch = s.latch := by
  unfold healthOnly; try simp only [cond_eq]; repeat' split
  all_goals rfl
@[simp] theorem healthOnly_trust (code : Nat) (subject : Nat) (details : List (Nat × Nat)) (seqs : List Nat) (s : State) :
    (healthOnly code subject details seqs s).trust = s.trust := by
  unfold healthOnly; try simp only [cond_eq]; repeat' split
  all_goals rfl
@[simp] theorem healthOnly_power (code : Nat) (subject : Nat) (details : List (Nat × Nat)) (seqs : List Nat) (s : State) :
    (healthOnly code subject details seqs s).power = s.power := by
  unfold healthOnly; try simp only [cond_eq]; repeat' split
  all_goals rfl
@[simp] theorem healthOnly_nv (code : Nat) (subject : Nat) (details : List (Nat × Nat)) (seqs : List Nat) (s : State) :
    (healthOnly code subject details seqs s).nv = s.nv := by
  unfold healthOnly; try simp only [cond_eq]; repeat' split
  all_goals rfl
@[simp] theorem healthOnly_nvCtl (code : Nat) (subject : Nat) (details : List (Nat × Nat)) (seqs : List Nat) (s : State) :
    (healthOnly code subject details seqs s).nvCtl = s.nvCtl := by
  unfold healthOnly; try simp only [cond_eq]; repeat' split
  all_goals rfl
@[simp] theorem healthOnly_boot (code : Nat) (subject : Nat) (details : List (Nat × Nat)) (seqs : List Nat) (s : State) :
    (healthOnly code subject details seqs s).boot = s.boot := by
  unfold healthOnly; try simp only [cond_eq]; repeat' split
  all_goals rfl
@[simp] theorem healthOnly_cal (code : Nat) (subject : Nat) (details : List (Nat × Nat)) (seqs : List Nat) (s : State) :
    (healthOnly code subject details seqs s).cal = s.cal := by
  unfold healthOnly; try simp only [cond_eq]; repeat' split
  all_goals rfl
@[simp] theorem healthOnly_side (code : Nat) (subject : Nat) (details : List (Nat × Nat)) (seqs : List Nat) (s : State) :
    (healthOnly code subject details seqs s).side = s.side := by
  unfold healthOnly; try simp only [cond_eq]; repeat' split
  all_goals rfl
@[simp] theorem healthOnly_counters (code : Nat) (subject : Nat) (details : List (Nat × Nat)) (seqs : List Nat) (s : State) :
    (healthOnly code subject details seqs s).counters = s.counters := by
  unfold healthOnly; try simp only [cond_eq]; repeat' split
  all_goals rfl
@[simp] theorem healthOnly_pending (code : Nat) (subject : Nat) (details : List (Nat × Nat)) (seqs : List Nat) (s : State) :
    (healthOnly code subject details seqs s).pending = s.pending := by
  unfold healthOnly; try simp only [cond_eq]; repeat' split
  all_goals rfl

@[simp] theorem log_clock (src : Nat) (code : Nat) (detail : List Byte) (s : State) :
    (log src code detail s).clock = s.clock := by
  unfold log logBy; dsimp only; split <;> simp
@[simp] theorem log_dev (src : Nat) (code : Nat) (detail : List Byte) (s : State) :
    (log src code detail s).dev = s.dev := by
  unfold log logBy; dsimp only; split <;> simp
@[simp] theorem log_spindle (src : Nat) (code : Nat) (detail : List Byte) (s : State) :
    (log src code detail s).spindle = s.spindle := by
  unfold log logBy; dsimp only; split <;> simp
@[simp] theorem log_flyers (src : Nat) (code : Nat) (detail : List Byte) (s : State) :
    (log src code detail s).flyers = s.flyers := by
  unfold log logBy; dsimp only; split <;> simp
@[simp] theorem log_skein (src : Nat) (code : Nat) (detail : List Byte) (s : State) :
    (log src code detail s).skein = s.skein := by
  unfold log logBy; dsimp only; split <;> simp
@[simp] theorem log_arb (src : Nat) (code : Nat) (detail : List Byte) (s : State) :
    (log src code detail s).arb = s.arb := by
  unfold log logBy; dsimp only; split <;> simp
@[simp] theorem log_order (src : Nat) (code : Nat) (detail : List Byte) (s : State) :
    (log src code detail s).order = s.order := by
  unfold log logBy; dsimp only; split <;> simp
@[simp] theorem log_hop (src : Nat) (code : Nat) (detail : List Byte) (s : State) :
    (log src code detail s).hop = s.hop := by
  unfold log logBy; dsimp only; split <;> simp
@[simp] theorem log_hopHold (src : Nat) (code : Nat) (detail : List Byte) (s : State) :
    (log src code detail s).hopHold = s.hopHold := by
  unfold log logBy; dsimp only; split <;> simp
@[simp] theorem log_ports (src : Nat) (code : Nat) (detail : List Byte) (s : State) :
    (log src code detail s).ports = s.ports := by
  unfold log logBy; dsimp only; split <;> simp
@[simp] theorem log_lamps (src : Nat) (code : Nat) (detail : List Byte) (s : State) :
    (log src code detail s).lamps = s.lamps := by
  unfold log logBy; dsimp only; split <;> simp
@[simp] theorem log_chans (src : Nat) (code : Nat) (detail : List Byte) (s : State) :
    (log src code detail s).chans = s.chans := by
  unfold log logBy; dsimp only; split <;> simp
@[simp] theorem log_banks (src : Nat) (code : Nat) (detail : List Byte) (s : State) :
    (log src code detail s).banks = s.banks := by
  unfold log logBy; dsimp only; split <;> simp
@[simp] theorem log_pllLocked (src : Nat) (code : Nat) (detail : List Byte) (s : State) :
    (log src code detail s).pllLocked = s.pllLocked := by
  unfold log logBy; dsimp only; split <;> simp
@[simp] theorem log_marks (src : Nat) (code : Nat) (detail : List Byte) (s : State) :
    (log src code detail s).marks = s.marks := by
  unfold log logBy; dsimp only; split <;> simp
@[simp] theorem log_hk (src : Nat) (code : Nat) (detail : List Byte) (s : State) :
    (log src code detail s).hk = s.hk := by
  unfold log logBy; dsimp only; split <;> simp
@[simp] theorem log_runs (src : Nat) (code : Nat) (detail : List Byte) (s : State) :
    (log src code detail s).runs = s.runs := by
  unfold log logBy; dsimp only; split <;> simp
@[simp] theorem log_auxf (src : Nat) (code : Nat) (detail : List Byte) (s : State) :
    (log src code detail s).auxf = s.auxf := by
  unfold log logBy; dsimp only; split <;> simp
@[simp] theorem log_groups (src : Nat) (code : Nat) (detail : List Byte) (s : State) :
    (log src code detail s).groups = s.groups := by
  unfold log logBy; dsimp only; split <;> simp
@[simp] theorem log_dram (src : Nat) (code : Nat) (detail : List Byte) (s : State) :
    (log src code detail s).dram = s.dram := by
  unfold log logBy; dsimp only; split <;> simp
@[simp] theorem log_dramMem (src : Nat) (code : Nat) (detail : List Byte) (s : State) :
    (log src code detail s).dramMem = s.dramMem := by
  unfold log logBy; dsimp only; split <;> simp
@[simp] theorem log_link (src : Nat) (code : Nat) (detail : List Byte) (s : State) :
    (log src code detail s).link = s.link := by
  unfold log logBy; dsimp only; split <;> simp
@[simp] theorem log_dist (src : Nat) (code : Nat) (detail : List Byte) (s : State) :
    (log src code detail s).dist = s.dist := by
  unfold log logBy; dsimp only; split <;> simp
@[simp] theorem log_whorl (src : Nat) (code : Nat) (detail : List Byte) (s : State) :
    (log src code detail s).whorl = s.whorl := by
  unfold log logBy; dsimp only; split <;> simp
@[simp] theorem log_latch (src : Nat) (code : Nat) (detail : List Byte) (s : State) :
    (log src code detail s).latch = s.latch := by
  unfold log logBy; dsimp only; split <;> simp
@[simp] theorem log_trust (src : Nat) (code : Nat) (detail : List Byte) (s : State) :
    (log src code detail s).trust = s.trust := by
  unfold log logBy; dsimp only; split <;> simp
@[simp] theorem log_power (src : Nat) (code : Nat) (detail : List Byte) (s : State) :
    (log src code detail s).power = s.power := by
  unfold log logBy; dsimp only; split <;> simp
@[simp] theorem log_nv (src : Nat) (code : Nat) (detail : List Byte) (s : State) :
    (log src code detail s).nv = s.nv := by
  unfold log logBy; dsimp only; split <;> simp
@[simp] theorem log_boot (src : Nat) (code : Nat) (detail : List Byte) (s : State) :
    (log src code detail s).boot = s.boot := by
  unfold log logBy; dsimp only; split <;> simp
@[simp] theorem log_cal (src : Nat) (code : Nat) (detail : List Byte) (s : State) :
    (log src code detail s).cal = s.cal := by
  unfold log logBy; dsimp only; split <;> simp
@[simp] theorem log_counters (src : Nat) (code : Nat) (detail : List Byte) (s : State) :
    (log src code detail s).counters = s.counters := by
  unfold log logBy; dsimp only; split <;> simp
@[simp] theorem log_pending (src : Nat) (code : Nat) (detail : List Byte) (s : State) :
    (log src code detail s).pending = s.pending := by
  unfold log logBy; dsimp only; split <;> simp

@[simp] theorem eventOf_clock (src : Nat) (code : Nat) (srcState : Nat) (payload : List (Nat × Nat)) (s : State) :
    (eventOf src code srcState payload s).clock = s.clock := by
  unfold eventOf; try simp only [cond_eq]; repeat' split
  all_goals first | rfl | simp
@[simp] theorem eventOf_dev (src : Nat) (code : Nat) (srcState : Nat) (payload : List (Nat × Nat)) (s : State) :
    (eventOf src code srcState payload s).dev = s.dev := by
  unfold eventOf; try simp only [cond_eq]; repeat' split
  all_goals first | rfl | simp
@[simp] theorem eventOf_spindle (src : Nat) (code : Nat) (srcState : Nat) (payload : List (Nat × Nat)) (s : State) :
    (eventOf src code srcState payload s).spindle = s.spindle := by
  unfold eventOf; try simp only [cond_eq]; repeat' split
  all_goals first | rfl | simp
@[simp] theorem eventOf_flyers (src : Nat) (code : Nat) (srcState : Nat) (payload : List (Nat × Nat)) (s : State) :
    (eventOf src code srcState payload s).flyers = s.flyers := by
  unfold eventOf; try simp only [cond_eq]; repeat' split
  all_goals first | rfl | simp
@[simp] theorem eventOf_skein (src : Nat) (code : Nat) (srcState : Nat) (payload : List (Nat × Nat)) (s : State) :
    (eventOf src code srcState payload s).skein = s.skein := by
  unfold eventOf; try simp only [cond_eq]; repeat' split
  all_goals first | rfl | simp
@[simp] theorem eventOf_arb (src : Nat) (code : Nat) (srcState : Nat) (payload : List (Nat × Nat)) (s : State) :
    (eventOf src code srcState payload s).arb = s.arb := by
  unfold eventOf; try simp only [cond_eq]; repeat' split
  all_goals first | rfl | simp
@[simp] theorem eventOf_order (src : Nat) (code : Nat) (srcState : Nat) (payload : List (Nat × Nat)) (s : State) :
    (eventOf src code srcState payload s).order = s.order := by
  unfold eventOf; try simp only [cond_eq]; repeat' split
  all_goals first | rfl | simp
@[simp] theorem eventOf_hop (src : Nat) (code : Nat) (srcState : Nat) (payload : List (Nat × Nat)) (s : State) :
    (eventOf src code srcState payload s).hop = s.hop := by
  unfold eventOf; try simp only [cond_eq]; repeat' split
  all_goals first | rfl | simp
@[simp] theorem eventOf_hopHold (src : Nat) (code : Nat) (srcState : Nat) (payload : List (Nat × Nat)) (s : State) :
    (eventOf src code srcState payload s).hopHold = s.hopHold := by
  unfold eventOf; try simp only [cond_eq]; repeat' split
  all_goals first | rfl | simp
@[simp] theorem eventOf_ports (src : Nat) (code : Nat) (srcState : Nat) (payload : List (Nat × Nat)) (s : State) :
    (eventOf src code srcState payload s).ports = s.ports := by
  unfold eventOf; try simp only [cond_eq]; repeat' split
  all_goals first | rfl | simp
@[simp] theorem eventOf_lamps (src : Nat) (code : Nat) (srcState : Nat) (payload : List (Nat × Nat)) (s : State) :
    (eventOf src code srcState payload s).lamps = s.lamps := by
  unfold eventOf; try simp only [cond_eq]; repeat' split
  all_goals first | rfl | simp
@[simp] theorem eventOf_chans (src : Nat) (code : Nat) (srcState : Nat) (payload : List (Nat × Nat)) (s : State) :
    (eventOf src code srcState payload s).chans = s.chans := by
  unfold eventOf; try simp only [cond_eq]; repeat' split
  all_goals first | rfl | simp
@[simp] theorem eventOf_banks (src : Nat) (code : Nat) (srcState : Nat) (payload : List (Nat × Nat)) (s : State) :
    (eventOf src code srcState payload s).banks = s.banks := by
  unfold eventOf; try simp only [cond_eq]; repeat' split
  all_goals first | rfl | simp
@[simp] theorem eventOf_pllLocked (src : Nat) (code : Nat) (srcState : Nat) (payload : List (Nat × Nat)) (s : State) :
    (eventOf src code srcState payload s).pllLocked = s.pllLocked := by
  unfold eventOf; try simp only [cond_eq]; repeat' split
  all_goals first | rfl | simp
@[simp] theorem eventOf_marks (src : Nat) (code : Nat) (srcState : Nat) (payload : List (Nat × Nat)) (s : State) :
    (eventOf src code srcState payload s).marks = s.marks := by
  unfold eventOf; try simp only [cond_eq]; repeat' split
  all_goals first | rfl | simp
@[simp] theorem eventOf_hk (src : Nat) (code : Nat) (srcState : Nat) (payload : List (Nat × Nat)) (s : State) :
    (eventOf src code srcState payload s).hk = s.hk := by
  unfold eventOf; try simp only [cond_eq]; repeat' split
  all_goals first | rfl | simp
@[simp] theorem eventOf_runs (src : Nat) (code : Nat) (srcState : Nat) (payload : List (Nat × Nat)) (s : State) :
    (eventOf src code srcState payload s).runs = s.runs := by
  unfold eventOf; try simp only [cond_eq]; repeat' split
  all_goals first | rfl | simp
@[simp] theorem eventOf_auxf (src : Nat) (code : Nat) (srcState : Nat) (payload : List (Nat × Nat)) (s : State) :
    (eventOf src code srcState payload s).auxf = s.auxf := by
  unfold eventOf; try simp only [cond_eq]; repeat' split
  all_goals first | rfl | simp
@[simp] theorem eventOf_groups (src : Nat) (code : Nat) (srcState : Nat) (payload : List (Nat × Nat)) (s : State) :
    (eventOf src code srcState payload s).groups = s.groups := by
  unfold eventOf; try simp only [cond_eq]; repeat' split
  all_goals first | rfl | simp
@[simp] theorem eventOf_dram (src : Nat) (code : Nat) (srcState : Nat) (payload : List (Nat × Nat)) (s : State) :
    (eventOf src code srcState payload s).dram = s.dram := by
  unfold eventOf; try simp only [cond_eq]; repeat' split
  all_goals first | rfl | simp
@[simp] theorem eventOf_dramMem (src : Nat) (code : Nat) (srcState : Nat) (payload : List (Nat × Nat)) (s : State) :
    (eventOf src code srcState payload s).dramMem = s.dramMem := by
  unfold eventOf; try simp only [cond_eq]; repeat' split
  all_goals first | rfl | simp
@[simp] theorem eventOf_link (src : Nat) (code : Nat) (srcState : Nat) (payload : List (Nat × Nat)) (s : State) :
    (eventOf src code srcState payload s).link = s.link := by
  unfold eventOf; try simp only [cond_eq]; repeat' split
  all_goals first | rfl | simp
@[simp] theorem eventOf_dist (src : Nat) (code : Nat) (srcState : Nat) (payload : List (Nat × Nat)) (s : State) :
    (eventOf src code srcState payload s).dist = s.dist := by
  unfold eventOf; try simp only [cond_eq]; repeat' split
  all_goals first | rfl | simp
@[simp] theorem eventOf_whorl (src : Nat) (code : Nat) (srcState : Nat) (payload : List (Nat × Nat)) (s : State) :
    (eventOf src code srcState payload s).whorl = s.whorl := by
  unfold eventOf; try simp only [cond_eq]; repeat' split
  all_goals first | rfl | simp
@[simp] theorem eventOf_latch (src : Nat) (code : Nat) (srcState : Nat) (payload : List (Nat × Nat)) (s : State) :
    (eventOf src code srcState payload s).latch = s.latch := by
  unfold eventOf; try simp only [cond_eq]; repeat' split
  all_goals first | rfl | simp
@[simp] theorem eventOf_trust (src : Nat) (code : Nat) (srcState : Nat) (payload : List (Nat × Nat)) (s : State) :
    (eventOf src code srcState payload s).trust = s.trust := by
  unfold eventOf; try simp only [cond_eq]; repeat' split
  all_goals first | rfl | simp
@[simp] theorem eventOf_power (src : Nat) (code : Nat) (srcState : Nat) (payload : List (Nat × Nat)) (s : State) :
    (eventOf src code srcState payload s).power = s.power := by
  unfold eventOf; try simp only [cond_eq]; repeat' split
  all_goals first | rfl | simp
@[simp] theorem eventOf_nv (src : Nat) (code : Nat) (srcState : Nat) (payload : List (Nat × Nat)) (s : State) :
    (eventOf src code srcState payload s).nv = s.nv := by
  unfold eventOf; try simp only [cond_eq]; repeat' split
  all_goals first | rfl | simp
@[simp] theorem eventOf_boot (src : Nat) (code : Nat) (srcState : Nat) (payload : List (Nat × Nat)) (s : State) :
    (eventOf src code srcState payload s).boot = s.boot := by
  unfold eventOf; try simp only [cond_eq]; repeat' split
  all_goals first | rfl | simp
@[simp] theorem eventOf_cal (src : Nat) (code : Nat) (srcState : Nat) (payload : List (Nat × Nat)) (s : State) :
    (eventOf src code srcState payload s).cal = s.cal := by
  unfold eventOf; try simp only [cond_eq]; repeat' split
  all_goals first | rfl | simp
@[simp] theorem eventOf_counters (src : Nat) (code : Nat) (srcState : Nat) (payload : List (Nat × Nat)) (s : State) :
    (eventOf src code srcState payload s).counters = s.counters := by
  unfold eventOf; try simp only [cond_eq]; repeat' split
  all_goals first | rfl | simp
@[simp] theorem eventOf_pending (src : Nat) (code : Nat) (srcState : Nat) (payload : List (Nat × Nat)) (s : State) :
    (eventOf src code srcState payload s).pending = s.pending := by
  unfold eventOf; try simp only [cond_eq]; repeat' split
  all_goals first | rfl | simp

@[simp] theorem event_clock (src : Nat) (code : Nat) (payload : List (Nat × Nat)) (s : State) :
    (event src code payload s).clock = s.clock := by
  unfold event
  all_goals first | rfl | simp
@[simp] theorem event_dev (src : Nat) (code : Nat) (payload : List (Nat × Nat)) (s : State) :
    (event src code payload s).dev = s.dev := by
  unfold event
  all_goals first | rfl | simp
@[simp] theorem event_spindle (src : Nat) (code : Nat) (payload : List (Nat × Nat)) (s : State) :
    (event src code payload s).spindle = s.spindle := by
  unfold event
  all_goals first | rfl | simp
@[simp] theorem event_flyers (src : Nat) (code : Nat) (payload : List (Nat × Nat)) (s : State) :
    (event src code payload s).flyers = s.flyers := by
  unfold event
  all_goals first | rfl | simp
@[simp] theorem event_skein (src : Nat) (code : Nat) (payload : List (Nat × Nat)) (s : State) :
    (event src code payload s).skein = s.skein := by
  unfold event
  all_goals first | rfl | simp
@[simp] theorem event_arb (src : Nat) (code : Nat) (payload : List (Nat × Nat)) (s : State) :
    (event src code payload s).arb = s.arb := by
  unfold event
  all_goals first | rfl | simp
@[simp] theorem event_order (src : Nat) (code : Nat) (payload : List (Nat × Nat)) (s : State) :
    (event src code payload s).order = s.order := by
  unfold event
  all_goals first | rfl | simp
@[simp] theorem event_hop (src : Nat) (code : Nat) (payload : List (Nat × Nat)) (s : State) :
    (event src code payload s).hop = s.hop := by
  unfold event
  all_goals first | rfl | simp
@[simp] theorem event_hopHold (src : Nat) (code : Nat) (payload : List (Nat × Nat)) (s : State) :
    (event src code payload s).hopHold = s.hopHold := by
  unfold event
  all_goals first | rfl | simp
@[simp] theorem event_ports (src : Nat) (code : Nat) (payload : List (Nat × Nat)) (s : State) :
    (event src code payload s).ports = s.ports := by
  unfold event
  all_goals first | rfl | simp
@[simp] theorem event_lamps (src : Nat) (code : Nat) (payload : List (Nat × Nat)) (s : State) :
    (event src code payload s).lamps = s.lamps := by
  unfold event
  all_goals first | rfl | simp
@[simp] theorem event_chans (src : Nat) (code : Nat) (payload : List (Nat × Nat)) (s : State) :
    (event src code payload s).chans = s.chans := by
  unfold event
  all_goals first | rfl | simp
@[simp] theorem event_banks (src : Nat) (code : Nat) (payload : List (Nat × Nat)) (s : State) :
    (event src code payload s).banks = s.banks := by
  unfold event
  all_goals first | rfl | simp
@[simp] theorem event_pllLocked (src : Nat) (code : Nat) (payload : List (Nat × Nat)) (s : State) :
    (event src code payload s).pllLocked = s.pllLocked := by
  unfold event
  all_goals first | rfl | simp
@[simp] theorem event_marks (src : Nat) (code : Nat) (payload : List (Nat × Nat)) (s : State) :
    (event src code payload s).marks = s.marks := by
  unfold event
  all_goals first | rfl | simp
@[simp] theorem event_hk (src : Nat) (code : Nat) (payload : List (Nat × Nat)) (s : State) :
    (event src code payload s).hk = s.hk := by
  unfold event
  all_goals first | rfl | simp
@[simp] theorem event_runs (src : Nat) (code : Nat) (payload : List (Nat × Nat)) (s : State) :
    (event src code payload s).runs = s.runs := by
  unfold event
  all_goals first | rfl | simp
@[simp] theorem event_auxf (src : Nat) (code : Nat) (payload : List (Nat × Nat)) (s : State) :
    (event src code payload s).auxf = s.auxf := by
  unfold event
  all_goals first | rfl | simp
@[simp] theorem event_groups (src : Nat) (code : Nat) (payload : List (Nat × Nat)) (s : State) :
    (event src code payload s).groups = s.groups := by
  unfold event
  all_goals first | rfl | simp
@[simp] theorem event_dram (src : Nat) (code : Nat) (payload : List (Nat × Nat)) (s : State) :
    (event src code payload s).dram = s.dram := by
  unfold event
  all_goals first | rfl | simp
@[simp] theorem event_dramMem (src : Nat) (code : Nat) (payload : List (Nat × Nat)) (s : State) :
    (event src code payload s).dramMem = s.dramMem := by
  unfold event
  all_goals first | rfl | simp
@[simp] theorem event_link (src : Nat) (code : Nat) (payload : List (Nat × Nat)) (s : State) :
    (event src code payload s).link = s.link := by
  unfold event
  all_goals first | rfl | simp
@[simp] theorem event_dist (src : Nat) (code : Nat) (payload : List (Nat × Nat)) (s : State) :
    (event src code payload s).dist = s.dist := by
  unfold event
  all_goals first | rfl | simp
@[simp] theorem event_whorl (src : Nat) (code : Nat) (payload : List (Nat × Nat)) (s : State) :
    (event src code payload s).whorl = s.whorl := by
  unfold event
  all_goals first | rfl | simp
@[simp] theorem event_latch (src : Nat) (code : Nat) (payload : List (Nat × Nat)) (s : State) :
    (event src code payload s).latch = s.latch := by
  unfold event
  all_goals first | rfl | simp
@[simp] theorem event_trust (src : Nat) (code : Nat) (payload : List (Nat × Nat)) (s : State) :
    (event src code payload s).trust = s.trust := by
  unfold event
  all_goals first | rfl | simp
@[simp] theorem event_power (src : Nat) (code : Nat) (payload : List (Nat × Nat)) (s : State) :
    (event src code payload s).power = s.power := by
  unfold event
  all_goals first | rfl | simp
@[simp] theorem event_nv (src : Nat) (code : Nat) (payload : List (Nat × Nat)) (s : State) :
    (event src code payload s).nv = s.nv := by
  unfold event
  all_goals first | rfl | simp
@[simp] theorem event_boot (src : Nat) (code : Nat) (payload : List (Nat × Nat)) (s : State) :
    (event src code payload s).boot = s.boot := by
  unfold event
  all_goals first | rfl | simp
@[simp] theorem event_cal (src : Nat) (code : Nat) (payload : List (Nat × Nat)) (s : State) :
    (event src code payload s).cal = s.cal := by
  unfold event
  all_goals first | rfl | simp
@[simp] theorem event_counters (src : Nat) (code : Nat) (payload : List (Nat × Nat)) (s : State) :
    (event src code payload s).counters = s.counters := by
  unfold event
  all_goals first | rfl | simp
@[simp] theorem event_pending (src : Nat) (code : Nat) (payload : List (Nat × Nat)) (s : State) :
    (event src code payload s).pending = s.pending := by
  unfold event
  all_goals first | rfl | simp

@[simp] theorem portEvent_clock (n : Nat) (code : Nat) (payload : List (Nat × Nat)) (s : State) :
    (portEvent n code payload s).clock = s.clock := by
  unfold portEvent
  all_goals first | rfl | simp
@[simp] theorem portEvent_dev (n : Nat) (code : Nat) (payload : List (Nat × Nat)) (s : State) :
    (portEvent n code payload s).dev = s.dev := by
  unfold portEvent
  all_goals first | rfl | simp
@[simp] theorem portEvent_spindle (n : Nat) (code : Nat) (payload : List (Nat × Nat)) (s : State) :
    (portEvent n code payload s).spindle = s.spindle := by
  unfold portEvent
  all_goals first | rfl | simp
@[simp] theorem portEvent_flyers (n : Nat) (code : Nat) (payload : List (Nat × Nat)) (s : State) :
    (portEvent n code payload s).flyers = s.flyers := by
  unfold portEvent
  all_goals first | rfl | simp
@[simp] theorem portEvent_skein (n : Nat) (code : Nat) (payload : List (Nat × Nat)) (s : State) :
    (portEvent n code payload s).skein = s.skein := by
  unfold portEvent
  all_goals first | rfl | simp
@[simp] theorem portEvent_arb (n : Nat) (code : Nat) (payload : List (Nat × Nat)) (s : State) :
    (portEvent n code payload s).arb = s.arb := by
  unfold portEvent
  all_goals first | rfl | simp
@[simp] theorem portEvent_order (n : Nat) (code : Nat) (payload : List (Nat × Nat)) (s : State) :
    (portEvent n code payload s).order = s.order := by
  unfold portEvent
  all_goals first | rfl | simp
@[simp] theorem portEvent_hop (n : Nat) (code : Nat) (payload : List (Nat × Nat)) (s : State) :
    (portEvent n code payload s).hop = s.hop := by
  unfold portEvent
  all_goals first | rfl | simp
@[simp] theorem portEvent_hopHold (n : Nat) (code : Nat) (payload : List (Nat × Nat)) (s : State) :
    (portEvent n code payload s).hopHold = s.hopHold := by
  unfold portEvent
  all_goals first | rfl | simp
@[simp] theorem portEvent_ports (n : Nat) (code : Nat) (payload : List (Nat × Nat)) (s : State) :
    (portEvent n code payload s).ports = s.ports := by
  unfold portEvent
  all_goals first | rfl | simp
@[simp] theorem portEvent_lamps (n : Nat) (code : Nat) (payload : List (Nat × Nat)) (s : State) :
    (portEvent n code payload s).lamps = s.lamps := by
  unfold portEvent
  all_goals first | rfl | simp
@[simp] theorem portEvent_chans (n : Nat) (code : Nat) (payload : List (Nat × Nat)) (s : State) :
    (portEvent n code payload s).chans = s.chans := by
  unfold portEvent
  all_goals first | rfl | simp
@[simp] theorem portEvent_banks (n : Nat) (code : Nat) (payload : List (Nat × Nat)) (s : State) :
    (portEvent n code payload s).banks = s.banks := by
  unfold portEvent
  all_goals first | rfl | simp
@[simp] theorem portEvent_pllLocked (n : Nat) (code : Nat) (payload : List (Nat × Nat)) (s : State) :
    (portEvent n code payload s).pllLocked = s.pllLocked := by
  unfold portEvent
  all_goals first | rfl | simp
@[simp] theorem portEvent_marks (n : Nat) (code : Nat) (payload : List (Nat × Nat)) (s : State) :
    (portEvent n code payload s).marks = s.marks := by
  unfold portEvent
  all_goals first | rfl | simp
@[simp] theorem portEvent_hk (n : Nat) (code : Nat) (payload : List (Nat × Nat)) (s : State) :
    (portEvent n code payload s).hk = s.hk := by
  unfold portEvent
  all_goals first | rfl | simp
@[simp] theorem portEvent_runs (n : Nat) (code : Nat) (payload : List (Nat × Nat)) (s : State) :
    (portEvent n code payload s).runs = s.runs := by
  unfold portEvent
  all_goals first | rfl | simp
@[simp] theorem portEvent_auxf (n : Nat) (code : Nat) (payload : List (Nat × Nat)) (s : State) :
    (portEvent n code payload s).auxf = s.auxf := by
  unfold portEvent
  all_goals first | rfl | simp
@[simp] theorem portEvent_groups (n : Nat) (code : Nat) (payload : List (Nat × Nat)) (s : State) :
    (portEvent n code payload s).groups = s.groups := by
  unfold portEvent
  all_goals first | rfl | simp
@[simp] theorem portEvent_dram (n : Nat) (code : Nat) (payload : List (Nat × Nat)) (s : State) :
    (portEvent n code payload s).dram = s.dram := by
  unfold portEvent
  all_goals first | rfl | simp
@[simp] theorem portEvent_dramMem (n : Nat) (code : Nat) (payload : List (Nat × Nat)) (s : State) :
    (portEvent n code payload s).dramMem = s.dramMem := by
  unfold portEvent
  all_goals first | rfl | simp
@[simp] theorem portEvent_link (n : Nat) (code : Nat) (payload : List (Nat × Nat)) (s : State) :
    (portEvent n code payload s).link = s.link := by
  unfold portEvent
  all_goals first | rfl | simp
@[simp] theorem portEvent_dist (n : Nat) (code : Nat) (payload : List (Nat × Nat)) (s : State) :
    (portEvent n code payload s).dist = s.dist := by
  unfold portEvent
  all_goals first | rfl | simp
@[simp] theorem portEvent_whorl (n : Nat) (code : Nat) (payload : List (Nat × Nat)) (s : State) :
    (portEvent n code payload s).whorl = s.whorl := by
  unfold portEvent
  all_goals first | rfl | simp
@[simp] theorem portEvent_latch (n : Nat) (code : Nat) (payload : List (Nat × Nat)) (s : State) :
    (portEvent n code payload s).latch = s.latch := by
  unfold portEvent
  all_goals first | rfl | simp
@[simp] theorem portEvent_trust (n : Nat) (code : Nat) (payload : List (Nat × Nat)) (s : State) :
    (portEvent n code payload s).trust = s.trust := by
  unfold portEvent
  all_goals first | rfl | simp
@[simp] theorem portEvent_power (n : Nat) (code : Nat) (payload : List (Nat × Nat)) (s : State) :
    (portEvent n code payload s).power = s.power := by
  unfold portEvent
  all_goals first | rfl | simp
@[simp] theorem portEvent_nv (n : Nat) (code : Nat) (payload : List (Nat × Nat)) (s : State) :
    (portEvent n code payload s).nv = s.nv := by
  unfold portEvent
  all_goals first | rfl | simp
@[simp] theorem portEvent_boot (n : Nat) (code : Nat) (payload : List (Nat × Nat)) (s : State) :
    (portEvent n code payload s).boot = s.boot := by
  unfold portEvent
  all_goals first | rfl | simp
@[simp] theorem portEvent_cal (n : Nat) (code : Nat) (payload : List (Nat × Nat)) (s : State) :
    (portEvent n code payload s).cal = s.cal := by
  unfold portEvent
  all_goals first | rfl | simp
@[simp] theorem portEvent_counters (n : Nat) (code : Nat) (payload : List (Nat × Nat)) (s : State) :
    (portEvent n code payload s).counters = s.counters := by
  unfold portEvent
  all_goals first | rfl | simp
@[simp] theorem portEvent_pending (n : Nat) (code : Nat) (payload : List (Nat × Nat)) (s : State) :
    (portEvent n code payload s).pending = s.pending := by
  unfold portEvent
  all_goals first | rfl | simp

@[simp] theorem health_clock (code : Nat) (subject : Nat) (details : List (Nat × Nat)) (seqs : List Nat) (s : State) :
    (health code subject details seqs s).clock = s.clock := by
  unfold health; try simp only [cond_eq]; repeat' split
  all_goals first | rfl | simp
@[simp] theorem health_dev (code : Nat) (subject : Nat) (details : List (Nat × Nat)) (seqs : List Nat) (s : State) :
    (health code subject details seqs s).dev = s.dev := by
  unfold health; try simp only [cond_eq]; repeat' split
  all_goals first | rfl | simp
@[simp] theorem health_spindle (code : Nat) (subject : Nat) (details : List (Nat × Nat)) (seqs : List Nat) (s : State) :
    (health code subject details seqs s).spindle = s.spindle := by
  unfold health; try simp only [cond_eq]; repeat' split
  all_goals first | rfl | simp
@[simp] theorem health_flyers (code : Nat) (subject : Nat) (details : List (Nat × Nat)) (seqs : List Nat) (s : State) :
    (health code subject details seqs s).flyers = s.flyers := by
  unfold health; try simp only [cond_eq]; repeat' split
  all_goals first | rfl | simp
@[simp] theorem health_skein (code : Nat) (subject : Nat) (details : List (Nat × Nat)) (seqs : List Nat) (s : State) :
    (health code subject details seqs s).skein = s.skein := by
  unfold health; try simp only [cond_eq]; repeat' split
  all_goals first | rfl | simp
@[simp] theorem health_arb (code : Nat) (subject : Nat) (details : List (Nat × Nat)) (seqs : List Nat) (s : State) :
    (health code subject details seqs s).arb = s.arb := by
  unfold health; try simp only [cond_eq]; repeat' split
  all_goals first | rfl | simp
@[simp] theorem health_order (code : Nat) (subject : Nat) (details : List (Nat × Nat)) (seqs : List Nat) (s : State) :
    (health code subject details seqs s).order = s.order := by
  unfold health; try simp only [cond_eq]; repeat' split
  all_goals first | rfl | simp
@[simp] theorem health_hop (code : Nat) (subject : Nat) (details : List (Nat × Nat)) (seqs : List Nat) (s : State) :
    (health code subject details seqs s).hop = s.hop := by
  unfold health; try simp only [cond_eq]; repeat' split
  all_goals first | rfl | simp
@[simp] theorem health_hopHold (code : Nat) (subject : Nat) (details : List (Nat × Nat)) (seqs : List Nat) (s : State) :
    (health code subject details seqs s).hopHold = s.hopHold := by
  unfold health; try simp only [cond_eq]; repeat' split
  all_goals first | rfl | simp
@[simp] theorem health_ports (code : Nat) (subject : Nat) (details : List (Nat × Nat)) (seqs : List Nat) (s : State) :
    (health code subject details seqs s).ports = s.ports := by
  unfold health; try simp only [cond_eq]; repeat' split
  all_goals first | rfl | simp
@[simp] theorem health_lamps (code : Nat) (subject : Nat) (details : List (Nat × Nat)) (seqs : List Nat) (s : State) :
    (health code subject details seqs s).lamps = s.lamps := by
  unfold health; try simp only [cond_eq]; repeat' split
  all_goals first | rfl | simp
@[simp] theorem health_chans (code : Nat) (subject : Nat) (details : List (Nat × Nat)) (seqs : List Nat) (s : State) :
    (health code subject details seqs s).chans = s.chans := by
  unfold health; try simp only [cond_eq]; repeat' split
  all_goals first | rfl | simp
@[simp] theorem health_banks (code : Nat) (subject : Nat) (details : List (Nat × Nat)) (seqs : List Nat) (s : State) :
    (health code subject details seqs s).banks = s.banks := by
  unfold health; try simp only [cond_eq]; repeat' split
  all_goals first | rfl | simp
@[simp] theorem health_pllLocked (code : Nat) (subject : Nat) (details : List (Nat × Nat)) (seqs : List Nat) (s : State) :
    (health code subject details seqs s).pllLocked = s.pllLocked := by
  unfold health; try simp only [cond_eq]; repeat' split
  all_goals first | rfl | simp
@[simp] theorem health_marks (code : Nat) (subject : Nat) (details : List (Nat × Nat)) (seqs : List Nat) (s : State) :
    (health code subject details seqs s).marks = s.marks := by
  unfold health; try simp only [cond_eq]; repeat' split
  all_goals first | rfl | simp
@[simp] theorem health_hk (code : Nat) (subject : Nat) (details : List (Nat × Nat)) (seqs : List Nat) (s : State) :
    (health code subject details seqs s).hk = s.hk := by
  unfold health; try simp only [cond_eq]; repeat' split
  all_goals first | rfl | simp
@[simp] theorem health_runs (code : Nat) (subject : Nat) (details : List (Nat × Nat)) (seqs : List Nat) (s : State) :
    (health code subject details seqs s).runs = s.runs := by
  unfold health; try simp only [cond_eq]; repeat' split
  all_goals first | rfl | simp
@[simp] theorem health_auxf (code : Nat) (subject : Nat) (details : List (Nat × Nat)) (seqs : List Nat) (s : State) :
    (health code subject details seqs s).auxf = s.auxf := by
  unfold health; try simp only [cond_eq]; repeat' split
  all_goals first | rfl | simp
@[simp] theorem health_groups (code : Nat) (subject : Nat) (details : List (Nat × Nat)) (seqs : List Nat) (s : State) :
    (health code subject details seqs s).groups = s.groups := by
  unfold health; try simp only [cond_eq]; repeat' split
  all_goals first | rfl | simp
@[simp] theorem health_dram (code : Nat) (subject : Nat) (details : List (Nat × Nat)) (seqs : List Nat) (s : State) :
    (health code subject details seqs s).dram = s.dram := by
  unfold health; try simp only [cond_eq]; repeat' split
  all_goals first | rfl | simp
@[simp] theorem health_dramMem (code : Nat) (subject : Nat) (details : List (Nat × Nat)) (seqs : List Nat) (s : State) :
    (health code subject details seqs s).dramMem = s.dramMem := by
  unfold health; try simp only [cond_eq]; repeat' split
  all_goals first | rfl | simp
@[simp] theorem health_link (code : Nat) (subject : Nat) (details : List (Nat × Nat)) (seqs : List Nat) (s : State) :
    (health code subject details seqs s).link = s.link := by
  unfold health; try simp only [cond_eq]; repeat' split
  all_goals first | rfl | simp
@[simp] theorem health_dist (code : Nat) (subject : Nat) (details : List (Nat × Nat)) (seqs : List Nat) (s : State) :
    (health code subject details seqs s).dist = s.dist := by
  unfold health; try simp only [cond_eq]; repeat' split
  all_goals first | rfl | simp
@[simp] theorem health_whorl (code : Nat) (subject : Nat) (details : List (Nat × Nat)) (seqs : List Nat) (s : State) :
    (health code subject details seqs s).whorl = s.whorl := by
  unfold health; try simp only [cond_eq]; repeat' split
  all_goals first | rfl | simp
@[simp] theorem health_latch (code : Nat) (subject : Nat) (details : List (Nat × Nat)) (seqs : List Nat) (s : State) :
    (health code subject details seqs s).latch = s.latch := by
  unfold health; try simp only [cond_eq]; repeat' split
  all_goals first | rfl | simp
@[simp] theorem health_trust (code : Nat) (subject : Nat) (details : List (Nat × Nat)) (seqs : List Nat) (s : State) :
    (health code subject details seqs s).trust = s.trust := by
  unfold health; try simp only [cond_eq]; repeat' split
  all_goals first | rfl | simp
@[simp] theorem health_power (code : Nat) (subject : Nat) (details : List (Nat × Nat)) (seqs : List Nat) (s : State) :
    (health code subject details seqs s).power = s.power := by
  unfold health; try simp only [cond_eq]; repeat' split
  all_goals first | rfl | simp
@[simp] theorem health_nv (code : Nat) (subject : Nat) (details : List (Nat × Nat)) (seqs : List Nat) (s : State) :
    (health code subject details seqs s).nv = s.nv := by
  unfold health; try simp only [cond_eq]; repeat' split
  all_goals first | rfl | simp
@[simp] theorem health_boot (code : Nat) (subject : Nat) (details : List (Nat × Nat)) (seqs : List Nat) (s : State) :
    (health code subject details seqs s).boot = s.boot := by
  unfold health; try simp only [cond_eq]; repeat' split
  all_goals first | rfl | simp
@[simp] theorem health_cal (code : Nat) (subject : Nat) (details : List (Nat × Nat)) (seqs : List Nat) (s : State) :
    (health code subject details seqs s).cal = s.cal := by
  unfold health; try simp only [cond_eq]; repeat' split
  all_goals first | rfl | simp
@[simp] theorem health_counters (code : Nat) (subject : Nat) (details : List (Nat × Nat)) (seqs : List Nat) (s : State) :
    (health code subject details seqs s).counters = s.counters := by
  unfold health; try simp only [cond_eq]; repeat' split
  all_goals first | rfl | simp
@[simp] theorem health_pending (code : Nat) (subject : Nat) (details : List (Nat × Nat)) (seqs : List Nat) (s : State) :
    (health code subject details seqs s).pending = s.pending := by
  unfold health; try simp only [cond_eq]; repeat' split
  all_goals first | rfl | simp

@[simp] theorem takeIntake_clock (s : State) : s.takeIntake.clock = s.clock := by
  unfold takeIntake; split <;> rfl
@[simp] theorem takeIntake_dev (s : State) : s.takeIntake.dev = s.dev := by
  unfold takeIntake; split <;> rfl
@[simp] theorem takeIntake_spindle (s : State) : s.takeIntake.spindle = s.spindle := by
  unfold takeIntake; split <;> rfl
@[simp] theorem takeIntake_flyers (s : State) : s.takeIntake.flyers = s.flyers := by
  unfold takeIntake; split <;> rfl
@[simp] theorem takeIntake_skein (s : State) : s.takeIntake.skein = s.skein := by
  unfold takeIntake; split <;> rfl
@[simp] theorem takeIntake_arb (s : State) : s.takeIntake.arb = s.arb := by
  unfold takeIntake; split <;> rfl
@[simp] theorem takeIntake_order (s : State) : s.takeIntake.order = s.order := by
  unfold takeIntake; split <;> rfl
@[simp] theorem takeIntake_hop (s : State) : s.takeIntake.hop = s.hop := by
  unfold takeIntake; split <;> rfl
@[simp] theorem takeIntake_hopHold (s : State) : s.takeIntake.hopHold = s.hopHold := by
  unfold takeIntake; split <;> rfl
@[simp] theorem takeIntake_ports (s : State) : s.takeIntake.ports = s.ports := by
  unfold takeIntake; split <;> rfl
@[simp] theorem takeIntake_lamps (s : State) : s.takeIntake.lamps = s.lamps := by
  unfold takeIntake; split <;> rfl
@[simp] theorem takeIntake_chans (s : State) : s.takeIntake.chans = s.chans := by
  unfold takeIntake; split <;> rfl
@[simp] theorem takeIntake_banks (s : State) : s.takeIntake.banks = s.banks := by
  unfold takeIntake; split <;> rfl
@[simp] theorem takeIntake_pllLocked (s : State) : s.takeIntake.pllLocked = s.pllLocked := by
  unfold takeIntake; split <;> rfl
@[simp] theorem takeIntake_marks (s : State) : s.takeIntake.marks = s.marks := by
  unfold takeIntake; split <;> rfl
@[simp] theorem takeIntake_hk (s : State) : s.takeIntake.hk = s.hk := by
  unfold takeIntake; split <;> rfl
@[simp] theorem takeIntake_runs (s : State) : s.takeIntake.runs = s.runs := by
  unfold takeIntake; split <;> rfl
@[simp] theorem takeIntake_auxf (s : State) : s.takeIntake.auxf = s.auxf := by
  unfold takeIntake; split <;> rfl
@[simp] theorem takeIntake_groups (s : State) : s.takeIntake.groups = s.groups := by
  unfold takeIntake; split <;> rfl
@[simp] theorem takeIntake_dram (s : State) : s.takeIntake.dram = s.dram := by
  unfold takeIntake; split <;> rfl
@[simp] theorem takeIntake_dramMem (s : State) : s.takeIntake.dramMem = s.dramMem := by
  unfold takeIntake; split <;> rfl
@[simp] theorem takeIntake_recs (s : State) : s.takeIntake.recs = s.recs := by
  unfold takeIntake; split <;> rfl
@[simp] theorem takeIntake_link (s : State) : s.takeIntake.link = s.link := by
  unfold takeIntake; split <;> rfl
@[simp] theorem takeIntake_whorl (s : State) : s.takeIntake.whorl = s.whorl := by
  unfold takeIntake; split <;> rfl
@[simp] theorem takeIntake_latch (s : State) : s.takeIntake.latch = s.latch := by
  unfold takeIntake; split <;> rfl
@[simp] theorem takeIntake_trust (s : State) : s.takeIntake.trust = s.trust := by
  unfold takeIntake; split <;> rfl
@[simp] theorem takeIntake_power (s : State) : s.takeIntake.power = s.power := by
  unfold takeIntake; split <;> rfl
@[simp] theorem takeIntake_nv (s : State) : s.takeIntake.nv = s.nv := by
  unfold takeIntake; split <;> rfl
@[simp] theorem takeIntake_nvCtl (s : State) : s.takeIntake.nvCtl = s.nvCtl := by
  unfold takeIntake; split <;> rfl
@[simp] theorem takeIntake_boot (s : State) : s.takeIntake.boot = s.boot := by
  unfold takeIntake; split <;> rfl
@[simp] theorem takeIntake_cal (s : State) : s.takeIntake.cal = s.cal := by
  unfold takeIntake; split <;> rfl
@[simp] theorem takeIntake_side (s : State) : s.takeIntake.side = s.side := by
  unfold takeIntake; split <;> rfl
@[simp] theorem takeIntake_counters (s : State) : s.takeIntake.counters = s.counters := by
  unfold takeIntake; split <;> rfl
@[simp] theorem takeIntake_pending (s : State) : s.takeIntake.pending = s.pending := by
  unfold takeIntake; split <;> rfl

@[simp] theorem ackWith_clock (h : Hdr) (a : Ack) (handle : Nat) (s : State) :
    (ackWith h a handle s).clock = s.clock := rfl
@[simp] theorem ackWith_dev (h : Hdr) (a : Ack) (handle : Nat) (s : State) :
    (ackWith h a handle s).dev = s.dev := rfl
@[simp] theorem ackWith_spindle (h : Hdr) (a : Ack) (handle : Nat) (s : State) :
    (ackWith h a handle s).spindle = s.spindle := rfl
@[simp] theorem ackWith_flyers (h : Hdr) (a : Ack) (handle : Nat) (s : State) :
    (ackWith h a handle s).flyers = s.flyers := rfl
@[simp] theorem ackWith_skein (h : Hdr) (a : Ack) (handle : Nat) (s : State) :
    (ackWith h a handle s).skein = s.skein := rfl
@[simp] theorem ackWith_arb (h : Hdr) (a : Ack) (handle : Nat) (s : State) :
    (ackWith h a handle s).arb = s.arb := rfl
@[simp] theorem ackWith_order (h : Hdr) (a : Ack) (handle : Nat) (s : State) :
    (ackWith h a handle s).order = s.order := rfl
@[simp] theorem ackWith_hop (h : Hdr) (a : Ack) (handle : Nat) (s : State) :
    (ackWith h a handle s).hop = s.hop := rfl
@[simp] theorem ackWith_hopHold (h : Hdr) (a : Ack) (handle : Nat) (s : State) :
    (ackWith h a handle s).hopHold = s.hopHold := rfl
@[simp] theorem ackWith_ports (h : Hdr) (a : Ack) (handle : Nat) (s : State) :
    (ackWith h a handle s).ports = s.ports := rfl
@[simp] theorem ackWith_lamps (h : Hdr) (a : Ack) (handle : Nat) (s : State) :
    (ackWith h a handle s).lamps = s.lamps := rfl
@[simp] theorem ackWith_chans (h : Hdr) (a : Ack) (handle : Nat) (s : State) :
    (ackWith h a handle s).chans = s.chans := rfl
@[simp] theorem ackWith_banks (h : Hdr) (a : Ack) (handle : Nat) (s : State) :
    (ackWith h a handle s).banks = s.banks := rfl
@[simp] theorem ackWith_pllLocked (h : Hdr) (a : Ack) (handle : Nat) (s : State) :
    (ackWith h a handle s).pllLocked = s.pllLocked := rfl
@[simp] theorem ackWith_marks (h : Hdr) (a : Ack) (handle : Nat) (s : State) :
    (ackWith h a handle s).marks = s.marks := rfl
@[simp] theorem ackWith_hk (h : Hdr) (a : Ack) (handle : Nat) (s : State) :
    (ackWith h a handle s).hk = s.hk := rfl
@[simp] theorem ackWith_runs (h : Hdr) (a : Ack) (handle : Nat) (s : State) :
    (ackWith h a handle s).runs = s.runs := rfl
@[simp] theorem ackWith_auxf (h : Hdr) (a : Ack) (handle : Nat) (s : State) :
    (ackWith h a handle s).auxf = s.auxf := rfl
@[simp] theorem ackWith_groups (h : Hdr) (a : Ack) (handle : Nat) (s : State) :
    (ackWith h a handle s).groups = s.groups := rfl
@[simp] theorem ackWith_dram (h : Hdr) (a : Ack) (handle : Nat) (s : State) :
    (ackWith h a handle s).dram = s.dram := rfl
@[simp] theorem ackWith_dramMem (h : Hdr) (a : Ack) (handle : Nat) (s : State) :
    (ackWith h a handle s).dramMem = s.dramMem := rfl
@[simp] theorem ackWith_recs (h : Hdr) (a : Ack) (handle : Nat) (s : State) :
    (ackWith h a handle s).recs = s.recs := rfl
@[simp] theorem ackWith_link (h : Hdr) (a : Ack) (handle : Nat) (s : State) :
    (ackWith h a handle s).link = s.link := rfl
@[simp] theorem ackWith_whorl (h : Hdr) (a : Ack) (handle : Nat) (s : State) :
    (ackWith h a handle s).whorl = s.whorl := rfl
@[simp] theorem ackWith_latch (h : Hdr) (a : Ack) (handle : Nat) (s : State) :
    (ackWith h a handle s).latch = s.latch := rfl
@[simp] theorem ackWith_trust (h : Hdr) (a : Ack) (handle : Nat) (s : State) :
    (ackWith h a handle s).trust = s.trust := rfl
@[simp] theorem ackWith_power (h : Hdr) (a : Ack) (handle : Nat) (s : State) :
    (ackWith h a handle s).power = s.power := rfl
@[simp] theorem ackWith_nv (h : Hdr) (a : Ack) (handle : Nat) (s : State) :
    (ackWith h a handle s).nv = s.nv := rfl
@[simp] theorem ackWith_nvCtl (h : Hdr) (a : Ack) (handle : Nat) (s : State) :
    (ackWith h a handle s).nvCtl = s.nvCtl := rfl
@[simp] theorem ackWith_boot (h : Hdr) (a : Ack) (handle : Nat) (s : State) :
    (ackWith h a handle s).boot = s.boot := rfl
@[simp] theorem ackWith_cal (h : Hdr) (a : Ack) (handle : Nat) (s : State) :
    (ackWith h a handle s).cal = s.cal := rfl
@[simp] theorem ackWith_side (h : Hdr) (a : Ack) (handle : Nat) (s : State) :
    (ackWith h a handle s).side = s.side := rfl
@[simp] theorem ackWith_counters (h : Hdr) (a : Ack) (handle : Nat) (s : State) :
    (ackWith h a handle s).counters = s.counters := rfl
@[simp] theorem ackWith_pending (h : Hdr) (a : Ack) (handle : Nat) (s : State) :
    (ackWith h a handle s).pending = s.pending := rfl

@[simp] theorem completeWith_clock (handle : Nat) (status : Nat) (detail : Nat) (flags : Nat) (boundary : Option LineTime) (result : List Byte) (s : State) :
    (completeWith handle status detail flags boundary result s).clock = s.clock := by
  unfold completeWith; try simp only; repeat' split
  all_goals rfl
@[simp] theorem completeWith_dev (handle : Nat) (status : Nat) (detail : Nat) (flags : Nat) (boundary : Option LineTime) (result : List Byte) (s : State) :
    (completeWith handle status detail flags boundary result s).dev = s.dev := by
  unfold completeWith; try simp only; repeat' split
  all_goals rfl
@[simp] theorem completeWith_spindle (handle : Nat) (status : Nat) (detail : Nat) (flags : Nat) (boundary : Option LineTime) (result : List Byte) (s : State) :
    (completeWith handle status detail flags boundary result s).spindle = s.spindle := by
  unfold completeWith; try simp only; repeat' split
  all_goals rfl
@[simp] theorem completeWith_flyers (handle : Nat) (status : Nat) (detail : Nat) (flags : Nat) (boundary : Option LineTime) (result : List Byte) (s : State) :
    (completeWith handle status detail flags boundary result s).flyers = s.flyers := by
  unfold completeWith; try simp only; repeat' split
  all_goals rfl
@[simp] theorem completeWith_skein (handle : Nat) (status : Nat) (detail : Nat) (flags : Nat) (boundary : Option LineTime) (result : List Byte) (s : State) :
    (completeWith handle status detail flags boundary result s).skein = s.skein := by
  unfold completeWith; try simp only; repeat' split
  all_goals rfl
@[simp] theorem completeWith_arb (handle : Nat) (status : Nat) (detail : Nat) (flags : Nat) (boundary : Option LineTime) (result : List Byte) (s : State) :
    (completeWith handle status detail flags boundary result s).arb = s.arb := by
  unfold completeWith; try simp only; repeat' split
  all_goals rfl
@[simp] theorem completeWith_order (handle : Nat) (status : Nat) (detail : Nat) (flags : Nat) (boundary : Option LineTime) (result : List Byte) (s : State) :
    (completeWith handle status detail flags boundary result s).order = s.order := by
  unfold completeWith; try simp only; repeat' split
  all_goals rfl
@[simp] theorem completeWith_hop (handle : Nat) (status : Nat) (detail : Nat) (flags : Nat) (boundary : Option LineTime) (result : List Byte) (s : State) :
    (completeWith handle status detail flags boundary result s).hop = s.hop := by
  unfold completeWith; try simp only; repeat' split
  all_goals rfl
@[simp] theorem completeWith_hopHold (handle : Nat) (status : Nat) (detail : Nat) (flags : Nat) (boundary : Option LineTime) (result : List Byte) (s : State) :
    (completeWith handle status detail flags boundary result s).hopHold = s.hopHold := by
  unfold completeWith; try simp only; repeat' split
  all_goals rfl
@[simp] theorem completeWith_ports (handle : Nat) (status : Nat) (detail : Nat) (flags : Nat) (boundary : Option LineTime) (result : List Byte) (s : State) :
    (completeWith handle status detail flags boundary result s).ports = s.ports := by
  unfold completeWith; try simp only; repeat' split
  all_goals rfl
@[simp] theorem completeWith_lamps (handle : Nat) (status : Nat) (detail : Nat) (flags : Nat) (boundary : Option LineTime) (result : List Byte) (s : State) :
    (completeWith handle status detail flags boundary result s).lamps = s.lamps := by
  unfold completeWith; try simp only; repeat' split
  all_goals rfl
@[simp] theorem completeWith_chans (handle : Nat) (status : Nat) (detail : Nat) (flags : Nat) (boundary : Option LineTime) (result : List Byte) (s : State) :
    (completeWith handle status detail flags boundary result s).chans = s.chans := by
  unfold completeWith; try simp only; repeat' split
  all_goals rfl
@[simp] theorem completeWith_banks (handle : Nat) (status : Nat) (detail : Nat) (flags : Nat) (boundary : Option LineTime) (result : List Byte) (s : State) :
    (completeWith handle status detail flags boundary result s).banks = s.banks := by
  unfold completeWith; try simp only; repeat' split
  all_goals rfl
@[simp] theorem completeWith_pllLocked (handle : Nat) (status : Nat) (detail : Nat) (flags : Nat) (boundary : Option LineTime) (result : List Byte) (s : State) :
    (completeWith handle status detail flags boundary result s).pllLocked = s.pllLocked := by
  unfold completeWith; try simp only; repeat' split
  all_goals rfl
@[simp] theorem completeWith_marks (handle : Nat) (status : Nat) (detail : Nat) (flags : Nat) (boundary : Option LineTime) (result : List Byte) (s : State) :
    (completeWith handle status detail flags boundary result s).marks = s.marks := by
  unfold completeWith; try simp only; repeat' split
  all_goals rfl
@[simp] theorem completeWith_hk (handle : Nat) (status : Nat) (detail : Nat) (flags : Nat) (boundary : Option LineTime) (result : List Byte) (s : State) :
    (completeWith handle status detail flags boundary result s).hk = s.hk := by
  unfold completeWith; try simp only; repeat' split
  all_goals rfl
@[simp] theorem completeWith_runs (handle : Nat) (status : Nat) (detail : Nat) (flags : Nat) (boundary : Option LineTime) (result : List Byte) (s : State) :
    (completeWith handle status detail flags boundary result s).runs = s.runs := by
  unfold completeWith; try simp only; repeat' split
  all_goals rfl
@[simp] theorem completeWith_auxf (handle : Nat) (status : Nat) (detail : Nat) (flags : Nat) (boundary : Option LineTime) (result : List Byte) (s : State) :
    (completeWith handle status detail flags boundary result s).auxf = s.auxf := by
  unfold completeWith; try simp only; repeat' split
  all_goals rfl
@[simp] theorem completeWith_groups (handle : Nat) (status : Nat) (detail : Nat) (flags : Nat) (boundary : Option LineTime) (result : List Byte) (s : State) :
    (completeWith handle status detail flags boundary result s).groups = s.groups := by
  unfold completeWith; try simp only; repeat' split
  all_goals rfl
@[simp] theorem completeWith_dram (handle : Nat) (status : Nat) (detail : Nat) (flags : Nat) (boundary : Option LineTime) (result : List Byte) (s : State) :
    (completeWith handle status detail flags boundary result s).dram = s.dram := by
  unfold completeWith; try simp only; repeat' split
  all_goals rfl
@[simp] theorem completeWith_dramMem (handle : Nat) (status : Nat) (detail : Nat) (flags : Nat) (boundary : Option LineTime) (result : List Byte) (s : State) :
    (completeWith handle status detail flags boundary result s).dramMem = s.dramMem := by
  unfold completeWith; try simp only; repeat' split
  all_goals rfl
@[simp] theorem completeWith_recs (handle : Nat) (status : Nat) (detail : Nat) (flags : Nat) (boundary : Option LineTime) (result : List Byte) (s : State) :
    (completeWith handle status detail flags boundary result s).recs = s.recs := by
  unfold completeWith; try simp only; repeat' split
  all_goals rfl
@[simp] theorem completeWith_link (handle : Nat) (status : Nat) (detail : Nat) (flags : Nat) (boundary : Option LineTime) (result : List Byte) (s : State) :
    (completeWith handle status detail flags boundary result s).link = s.link := by
  unfold completeWith; try simp only; repeat' split
  all_goals rfl
@[simp] theorem completeWith_whorl (handle : Nat) (status : Nat) (detail : Nat) (flags : Nat) (boundary : Option LineTime) (result : List Byte) (s : State) :
    (completeWith handle status detail flags boundary result s).whorl = s.whorl := by
  unfold completeWith; try simp only; repeat' split
  all_goals rfl
@[simp] theorem completeWith_latch (handle : Nat) (status : Nat) (detail : Nat) (flags : Nat) (boundary : Option LineTime) (result : List Byte) (s : State) :
    (completeWith handle status detail flags boundary result s).latch = s.latch := by
  unfold completeWith; try simp only; repeat' split
  all_goals rfl
@[simp] theorem completeWith_trust (handle : Nat) (status : Nat) (detail : Nat) (flags : Nat) (boundary : Option LineTime) (result : List Byte) (s : State) :
    (completeWith handle status detail flags boundary result s).trust = s.trust := by
  unfold completeWith; try simp only; repeat' split
  all_goals rfl
@[simp] theorem completeWith_power (handle : Nat) (status : Nat) (detail : Nat) (flags : Nat) (boundary : Option LineTime) (result : List Byte) (s : State) :
    (completeWith handle status detail flags boundary result s).power = s.power := by
  unfold completeWith; try simp only; repeat' split
  all_goals rfl
@[simp] theorem completeWith_nv (handle : Nat) (status : Nat) (detail : Nat) (flags : Nat) (boundary : Option LineTime) (result : List Byte) (s : State) :
    (completeWith handle status detail flags boundary result s).nv = s.nv := by
  unfold completeWith; try simp only; repeat' split
  all_goals rfl
@[simp] theorem completeWith_nvCtl (handle : Nat) (status : Nat) (detail : Nat) (flags : Nat) (boundary : Option LineTime) (result : List Byte) (s : State) :
    (completeWith handle status detail flags boundary result s).nvCtl = s.nvCtl := by
  unfold completeWith; try simp only; repeat' split
  all_goals rfl
@[simp] theorem completeWith_boot (handle : Nat) (status : Nat) (detail : Nat) (flags : Nat) (boundary : Option LineTime) (result : List Byte) (s : State) :
    (completeWith handle status detail flags boundary result s).boot = s.boot := by
  unfold completeWith; try simp only; repeat' split
  all_goals rfl
@[simp] theorem completeWith_cal (handle : Nat) (status : Nat) (detail : Nat) (flags : Nat) (boundary : Option LineTime) (result : List Byte) (s : State) :
    (completeWith handle status detail flags boundary result s).cal = s.cal := by
  unfold completeWith; try simp only; repeat' split
  all_goals rfl
@[simp] theorem completeWith_side (handle : Nat) (status : Nat) (detail : Nat) (flags : Nat) (boundary : Option LineTime) (result : List Byte) (s : State) :
    (completeWith handle status detail flags boundary result s).side = s.side := by
  unfold completeWith; try simp only; repeat' split
  all_goals rfl
@[simp] theorem completeWith_counters (handle : Nat) (status : Nat) (detail : Nat) (flags : Nat) (boundary : Option LineTime) (result : List Byte) (s : State) :
    (completeWith handle status detail flags boundary result s).counters = s.counters := by
  unfold completeWith; try simp only; repeat' split
  all_goals rfl
@[simp] theorem completeWith_pending (handle : Nat) (status : Nat) (detail : Nat) (flags : Nat) (boundary : Option LineTime) (result : List Byte) (s : State) :
    (completeWith handle status detail flags boundary result s).pending = s.pending := by
  unfold completeWith; try simp only; repeat' split
  all_goals rfl

@[simp] theorem succeed_clock (handle : Nat) (result : List Byte) (s : State) :
    (succeed handle result s).clock = s.clock := by
  unfold succeed
  all_goals first | rfl | simp
@[simp] theorem succeed_dev (handle : Nat) (result : List Byte) (s : State) :
    (succeed handle result s).dev = s.dev := by
  unfold succeed
  all_goals first | rfl | simp
@[simp] theorem succeed_spindle (handle : Nat) (result : List Byte) (s : State) :
    (succeed handle result s).spindle = s.spindle := by
  unfold succeed
  all_goals first | rfl | simp
@[simp] theorem succeed_flyers (handle : Nat) (result : List Byte) (s : State) :
    (succeed handle result s).flyers = s.flyers := by
  unfold succeed
  all_goals first | rfl | simp
@[simp] theorem succeed_skein (handle : Nat) (result : List Byte) (s : State) :
    (succeed handle result s).skein = s.skein := by
  unfold succeed
  all_goals first | rfl | simp
@[simp] theorem succeed_arb (handle : Nat) (result : List Byte) (s : State) :
    (succeed handle result s).arb = s.arb := by
  unfold succeed
  all_goals first | rfl | simp
@[simp] theorem succeed_order (handle : Nat) (result : List Byte) (s : State) :
    (succeed handle result s).order = s.order := by
  unfold succeed
  all_goals first | rfl | simp
@[simp] theorem succeed_hop (handle : Nat) (result : List Byte) (s : State) :
    (succeed handle result s).hop = s.hop := by
  unfold succeed
  all_goals first | rfl | simp
@[simp] theorem succeed_hopHold (handle : Nat) (result : List Byte) (s : State) :
    (succeed handle result s).hopHold = s.hopHold := by
  unfold succeed
  all_goals first | rfl | simp
@[simp] theorem succeed_ports (handle : Nat) (result : List Byte) (s : State) :
    (succeed handle result s).ports = s.ports := by
  unfold succeed
  all_goals first | rfl | simp
@[simp] theorem succeed_lamps (handle : Nat) (result : List Byte) (s : State) :
    (succeed handle result s).lamps = s.lamps := by
  unfold succeed
  all_goals first | rfl | simp
@[simp] theorem succeed_chans (handle : Nat) (result : List Byte) (s : State) :
    (succeed handle result s).chans = s.chans := by
  unfold succeed
  all_goals first | rfl | simp
@[simp] theorem succeed_banks (handle : Nat) (result : List Byte) (s : State) :
    (succeed handle result s).banks = s.banks := by
  unfold succeed
  all_goals first | rfl | simp
@[simp] theorem succeed_pllLocked (handle : Nat) (result : List Byte) (s : State) :
    (succeed handle result s).pllLocked = s.pllLocked := by
  unfold succeed
  all_goals first | rfl | simp
@[simp] theorem succeed_marks (handle : Nat) (result : List Byte) (s : State) :
    (succeed handle result s).marks = s.marks := by
  unfold succeed
  all_goals first | rfl | simp
@[simp] theorem succeed_hk (handle : Nat) (result : List Byte) (s : State) :
    (succeed handle result s).hk = s.hk := by
  unfold succeed
  all_goals first | rfl | simp
@[simp] theorem succeed_runs (handle : Nat) (result : List Byte) (s : State) :
    (succeed handle result s).runs = s.runs := by
  unfold succeed
  all_goals first | rfl | simp
@[simp] theorem succeed_auxf (handle : Nat) (result : List Byte) (s : State) :
    (succeed handle result s).auxf = s.auxf := by
  unfold succeed
  all_goals first | rfl | simp
@[simp] theorem succeed_groups (handle : Nat) (result : List Byte) (s : State) :
    (succeed handle result s).groups = s.groups := by
  unfold succeed
  all_goals first | rfl | simp
@[simp] theorem succeed_dram (handle : Nat) (result : List Byte) (s : State) :
    (succeed handle result s).dram = s.dram := by
  unfold succeed
  all_goals first | rfl | simp
@[simp] theorem succeed_dramMem (handle : Nat) (result : List Byte) (s : State) :
    (succeed handle result s).dramMem = s.dramMem := by
  unfold succeed
  all_goals first | rfl | simp
@[simp] theorem succeed_recs (handle : Nat) (result : List Byte) (s : State) :
    (succeed handle result s).recs = s.recs := by
  unfold succeed
  all_goals first | rfl | simp
@[simp] theorem succeed_link (handle : Nat) (result : List Byte) (s : State) :
    (succeed handle result s).link = s.link := by
  unfold succeed
  all_goals first | rfl | simp
@[simp] theorem succeed_whorl (handle : Nat) (result : List Byte) (s : State) :
    (succeed handle result s).whorl = s.whorl := by
  unfold succeed
  all_goals first | rfl | simp
@[simp] theorem succeed_latch (handle : Nat) (result : List Byte) (s : State) :
    (succeed handle result s).latch = s.latch := by
  unfold succeed
  all_goals first | rfl | simp
@[simp] theorem succeed_trust (handle : Nat) (result : List Byte) (s : State) :
    (succeed handle result s).trust = s.trust := by
  unfold succeed
  all_goals first | rfl | simp
@[simp] theorem succeed_power (handle : Nat) (result : List Byte) (s : State) :
    (succeed handle result s).power = s.power := by
  unfold succeed
  all_goals first | rfl | simp
@[simp] theorem succeed_nv (handle : Nat) (result : List Byte) (s : State) :
    (succeed handle result s).nv = s.nv := by
  unfold succeed
  all_goals first | rfl | simp
@[simp] theorem succeed_nvCtl (handle : Nat) (result : List Byte) (s : State) :
    (succeed handle result s).nvCtl = s.nvCtl := by
  unfold succeed
  all_goals first | rfl | simp
@[simp] theorem succeed_boot (handle : Nat) (result : List Byte) (s : State) :
    (succeed handle result s).boot = s.boot := by
  unfold succeed
  all_goals first | rfl | simp
@[simp] theorem succeed_cal (handle : Nat) (result : List Byte) (s : State) :
    (succeed handle result s).cal = s.cal := by
  unfold succeed
  all_goals first | rfl | simp
@[simp] theorem succeed_side (handle : Nat) (result : List Byte) (s : State) :
    (succeed handle result s).side = s.side := by
  unfold succeed
  all_goals first | rfl | simp
@[simp] theorem succeed_counters (handle : Nat) (result : List Byte) (s : State) :
    (succeed handle result s).counters = s.counters := by
  unfold succeed
  all_goals first | rfl | simp
@[simp] theorem succeed_pending (handle : Nat) (result : List Byte) (s : State) :
    (succeed handle result s).pending = s.pending := by
  unfold succeed
  all_goals first | rfl | simp

@[simp] theorem failed_clock (handle : Nat) (detail : Nat) (s : State) :
    (failed handle detail s).clock = s.clock := by
  unfold failed
  all_goals first | rfl | simp
@[simp] theorem failed_dev (handle : Nat) (detail : Nat) (s : State) :
    (failed handle detail s).dev = s.dev := by
  unfold failed
  all_goals first | rfl | simp
@[simp] theorem failed_spindle (handle : Nat) (detail : Nat) (s : State) :
    (failed handle detail s).spindle = s.spindle := by
  unfold failed
  all_goals first | rfl | simp
@[simp] theorem failed_flyers (handle : Nat) (detail : Nat) (s : State) :
    (failed handle detail s).flyers = s.flyers := by
  unfold failed
  all_goals first | rfl | simp
@[simp] theorem failed_skein (handle : Nat) (detail : Nat) (s : State) :
    (failed handle detail s).skein = s.skein := by
  unfold failed
  all_goals first | rfl | simp
@[simp] theorem failed_arb (handle : Nat) (detail : Nat) (s : State) :
    (failed handle detail s).arb = s.arb := by
  unfold failed
  all_goals first | rfl | simp
@[simp] theorem failed_order (handle : Nat) (detail : Nat) (s : State) :
    (failed handle detail s).order = s.order := by
  unfold failed
  all_goals first | rfl | simp
@[simp] theorem failed_hop (handle : Nat) (detail : Nat) (s : State) :
    (failed handle detail s).hop = s.hop := by
  unfold failed
  all_goals first | rfl | simp
@[simp] theorem failed_hopHold (handle : Nat) (detail : Nat) (s : State) :
    (failed handle detail s).hopHold = s.hopHold := by
  unfold failed
  all_goals first | rfl | simp
@[simp] theorem failed_ports (handle : Nat) (detail : Nat) (s : State) :
    (failed handle detail s).ports = s.ports := by
  unfold failed
  all_goals first | rfl | simp
@[simp] theorem failed_lamps (handle : Nat) (detail : Nat) (s : State) :
    (failed handle detail s).lamps = s.lamps := by
  unfold failed
  all_goals first | rfl | simp
@[simp] theorem failed_chans (handle : Nat) (detail : Nat) (s : State) :
    (failed handle detail s).chans = s.chans := by
  unfold failed
  all_goals first | rfl | simp
@[simp] theorem failed_banks (handle : Nat) (detail : Nat) (s : State) :
    (failed handle detail s).banks = s.banks := by
  unfold failed
  all_goals first | rfl | simp
@[simp] theorem failed_pllLocked (handle : Nat) (detail : Nat) (s : State) :
    (failed handle detail s).pllLocked = s.pllLocked := by
  unfold failed
  all_goals first | rfl | simp
@[simp] theorem failed_marks (handle : Nat) (detail : Nat) (s : State) :
    (failed handle detail s).marks = s.marks := by
  unfold failed
  all_goals first | rfl | simp
@[simp] theorem failed_hk (handle : Nat) (detail : Nat) (s : State) :
    (failed handle detail s).hk = s.hk := by
  unfold failed
  all_goals first | rfl | simp
@[simp] theorem failed_runs (handle : Nat) (detail : Nat) (s : State) :
    (failed handle detail s).runs = s.runs := by
  unfold failed
  all_goals first | rfl | simp
@[simp] theorem failed_auxf (handle : Nat) (detail : Nat) (s : State) :
    (failed handle detail s).auxf = s.auxf := by
  unfold failed
  all_goals first | rfl | simp
@[simp] theorem failed_groups (handle : Nat) (detail : Nat) (s : State) :
    (failed handle detail s).groups = s.groups := by
  unfold failed
  all_goals first | rfl | simp
@[simp] theorem failed_dram (handle : Nat) (detail : Nat) (s : State) :
    (failed handle detail s).dram = s.dram := by
  unfold failed
  all_goals first | rfl | simp
@[simp] theorem failed_dramMem (handle : Nat) (detail : Nat) (s : State) :
    (failed handle detail s).dramMem = s.dramMem := by
  unfold failed
  all_goals first | rfl | simp
@[simp] theorem failed_recs (handle : Nat) (detail : Nat) (s : State) :
    (failed handle detail s).recs = s.recs := by
  unfold failed
  all_goals first | rfl | simp
@[simp] theorem failed_link (handle : Nat) (detail : Nat) (s : State) :
    (failed handle detail s).link = s.link := by
  unfold failed
  all_goals first | rfl | simp
@[simp] theorem failed_whorl (handle : Nat) (detail : Nat) (s : State) :
    (failed handle detail s).whorl = s.whorl := by
  unfold failed
  all_goals first | rfl | simp
@[simp] theorem failed_latch (handle : Nat) (detail : Nat) (s : State) :
    (failed handle detail s).latch = s.latch := by
  unfold failed
  all_goals first | rfl | simp
@[simp] theorem failed_trust (handle : Nat) (detail : Nat) (s : State) :
    (failed handle detail s).trust = s.trust := by
  unfold failed
  all_goals first | rfl | simp
@[simp] theorem failed_power (handle : Nat) (detail : Nat) (s : State) :
    (failed handle detail s).power = s.power := by
  unfold failed
  all_goals first | rfl | simp
@[simp] theorem failed_nv (handle : Nat) (detail : Nat) (s : State) :
    (failed handle detail s).nv = s.nv := by
  unfold failed
  all_goals first | rfl | simp
@[simp] theorem failed_nvCtl (handle : Nat) (detail : Nat) (s : State) :
    (failed handle detail s).nvCtl = s.nvCtl := by
  unfold failed
  all_goals first | rfl | simp
@[simp] theorem failed_boot (handle : Nat) (detail : Nat) (s : State) :
    (failed handle detail s).boot = s.boot := by
  unfold failed
  all_goals first | rfl | simp
@[simp] theorem failed_cal (handle : Nat) (detail : Nat) (s : State) :
    (failed handle detail s).cal = s.cal := by
  unfold failed
  all_goals first | rfl | simp
@[simp] theorem failed_side (handle : Nat) (detail : Nat) (s : State) :
    (failed handle detail s).side = s.side := by
  unfold failed
  all_goals first | rfl | simp
@[simp] theorem failed_counters (handle : Nat) (detail : Nat) (s : State) :
    (failed handle detail s).counters = s.counters := by
  unfold failed
  all_goals first | rfl | simp
@[simp] theorem failed_pending (handle : Nat) (detail : Nat) (s : State) :
    (failed handle detail s).pending = s.pending := by
  unfold failed
  all_goals first | rfl | simp

@[simp] theorem aborted_clock (handle : Nat) (detail : Nat) (s : State) :
    (aborted handle detail s).clock = s.clock := by
  unfold aborted
  all_goals first | rfl | simp
@[simp] theorem aborted_dev (handle : Nat) (detail : Nat) (s : State) :
    (aborted handle detail s).dev = s.dev := by
  unfold aborted
  all_goals first | rfl | simp
@[simp] theorem aborted_spindle (handle : Nat) (detail : Nat) (s : State) :
    (aborted handle detail s).spindle = s.spindle := by
  unfold aborted
  all_goals first | rfl | simp
@[simp] theorem aborted_flyers (handle : Nat) (detail : Nat) (s : State) :
    (aborted handle detail s).flyers = s.flyers := by
  unfold aborted
  all_goals first | rfl | simp
@[simp] theorem aborted_skein (handle : Nat) (detail : Nat) (s : State) :
    (aborted handle detail s).skein = s.skein := by
  unfold aborted
  all_goals first | rfl | simp
@[simp] theorem aborted_arb (handle : Nat) (detail : Nat) (s : State) :
    (aborted handle detail s).arb = s.arb := by
  unfold aborted
  all_goals first | rfl | simp
@[simp] theorem aborted_order (handle : Nat) (detail : Nat) (s : State) :
    (aborted handle detail s).order = s.order := by
  unfold aborted
  all_goals first | rfl | simp
@[simp] theorem aborted_hop (handle : Nat) (detail : Nat) (s : State) :
    (aborted handle detail s).hop = s.hop := by
  unfold aborted
  all_goals first | rfl | simp
@[simp] theorem aborted_hopHold (handle : Nat) (detail : Nat) (s : State) :
    (aborted handle detail s).hopHold = s.hopHold := by
  unfold aborted
  all_goals first | rfl | simp
@[simp] theorem aborted_ports (handle : Nat) (detail : Nat) (s : State) :
    (aborted handle detail s).ports = s.ports := by
  unfold aborted
  all_goals first | rfl | simp
@[simp] theorem aborted_lamps (handle : Nat) (detail : Nat) (s : State) :
    (aborted handle detail s).lamps = s.lamps := by
  unfold aborted
  all_goals first | rfl | simp
@[simp] theorem aborted_chans (handle : Nat) (detail : Nat) (s : State) :
    (aborted handle detail s).chans = s.chans := by
  unfold aborted
  all_goals first | rfl | simp
@[simp] theorem aborted_banks (handle : Nat) (detail : Nat) (s : State) :
    (aborted handle detail s).banks = s.banks := by
  unfold aborted
  all_goals first | rfl | simp
@[simp] theorem aborted_pllLocked (handle : Nat) (detail : Nat) (s : State) :
    (aborted handle detail s).pllLocked = s.pllLocked := by
  unfold aborted
  all_goals first | rfl | simp
@[simp] theorem aborted_marks (handle : Nat) (detail : Nat) (s : State) :
    (aborted handle detail s).marks = s.marks := by
  unfold aborted
  all_goals first | rfl | simp
@[simp] theorem aborted_hk (handle : Nat) (detail : Nat) (s : State) :
    (aborted handle detail s).hk = s.hk := by
  unfold aborted
  all_goals first | rfl | simp
@[simp] theorem aborted_runs (handle : Nat) (detail : Nat) (s : State) :
    (aborted handle detail s).runs = s.runs := by
  unfold aborted
  all_goals first | rfl | simp
@[simp] theorem aborted_auxf (handle : Nat) (detail : Nat) (s : State) :
    (aborted handle detail s).auxf = s.auxf := by
  unfold aborted
  all_goals first | rfl | simp
@[simp] theorem aborted_groups (handle : Nat) (detail : Nat) (s : State) :
    (aborted handle detail s).groups = s.groups := by
  unfold aborted
  all_goals first | rfl | simp
@[simp] theorem aborted_dram (handle : Nat) (detail : Nat) (s : State) :
    (aborted handle detail s).dram = s.dram := by
  unfold aborted
  all_goals first | rfl | simp
@[simp] theorem aborted_dramMem (handle : Nat) (detail : Nat) (s : State) :
    (aborted handle detail s).dramMem = s.dramMem := by
  unfold aborted
  all_goals first | rfl | simp
@[simp] theorem aborted_recs (handle : Nat) (detail : Nat) (s : State) :
    (aborted handle detail s).recs = s.recs := by
  unfold aborted
  all_goals first | rfl | simp
@[simp] theorem aborted_link (handle : Nat) (detail : Nat) (s : State) :
    (aborted handle detail s).link = s.link := by
  unfold aborted
  all_goals first | rfl | simp
@[simp] theorem aborted_whorl (handle : Nat) (detail : Nat) (s : State) :
    (aborted handle detail s).whorl = s.whorl := by
  unfold aborted
  all_goals first | rfl | simp
@[simp] theorem aborted_latch (handle : Nat) (detail : Nat) (s : State) :
    (aborted handle detail s).latch = s.latch := by
  unfold aborted
  all_goals first | rfl | simp
@[simp] theorem aborted_trust (handle : Nat) (detail : Nat) (s : State) :
    (aborted handle detail s).trust = s.trust := by
  unfold aborted
  all_goals first | rfl | simp
@[simp] theorem aborted_power (handle : Nat) (detail : Nat) (s : State) :
    (aborted handle detail s).power = s.power := by
  unfold aborted
  all_goals first | rfl | simp
@[simp] theorem aborted_nv (handle : Nat) (detail : Nat) (s : State) :
    (aborted handle detail s).nv = s.nv := by
  unfold aborted
  all_goals first | rfl | simp
@[simp] theorem aborted_nvCtl (handle : Nat) (detail : Nat) (s : State) :
    (aborted handle detail s).nvCtl = s.nvCtl := by
  unfold aborted
  all_goals first | rfl | simp
@[simp] theorem aborted_boot (handle : Nat) (detail : Nat) (s : State) :
    (aborted handle detail s).boot = s.boot := by
  unfold aborted
  all_goals first | rfl | simp
@[simp] theorem aborted_cal (handle : Nat) (detail : Nat) (s : State) :
    (aborted handle detail s).cal = s.cal := by
  unfold aborted
  all_goals first | rfl | simp
@[simp] theorem aborted_side (handle : Nat) (detail : Nat) (s : State) :
    (aborted handle detail s).side = s.side := by
  unfold aborted
  all_goals first | rfl | simp
@[simp] theorem aborted_counters (handle : Nat) (detail : Nat) (s : State) :
    (aborted handle detail s).counters = s.counters := by
  unfold aborted
  all_goals first | rfl | simp
@[simp] theorem aborted_pending (handle : Nat) (detail : Nat) (s : State) :
    (aborted handle detail s).pending = s.pending := by
  unfold aborted
  all_goals first | rfl | simp

@[simp] theorem failedOpen_dev (handle : Nat) (s : State) : (failedOpen handle s).dev = s.dev := by
  unfold failedOpen; simp
@[simp] theorem failedOpen_spindle (handle : Nat) (s : State) : (failedOpen handle s).spindle = s.spindle := by
  unfold failedOpen; simp
@[simp] theorem failedOpen_flyers (handle : Nat) (s : State) : (failedOpen handle s).flyers = s.flyers := by
  unfold failedOpen; simp
@[simp] theorem failedOpen_skein (handle : Nat) (s : State) : (failedOpen handle s).skein = s.skein := by
  unfold failedOpen; simp
@[simp] theorem failedOpen_arb (handle : Nat) (s : State) : (failedOpen handle s).arb = s.arb := by
  unfold failedOpen; simp
@[simp] theorem failedOpen_order (handle : Nat) (s : State) : (failedOpen handle s).order = s.order := by
  unfold failedOpen; simp
@[simp] theorem failedOpen_hop (handle : Nat) (s : State) : (failedOpen handle s).hop = s.hop := by
  unfold failedOpen; simp
@[simp] theorem failedOpen_hopHold (handle : Nat) (s : State) : (failedOpen handle s).hopHold = s.hopHold := by
  unfold failedOpen; simp
@[simp] theorem failedOpen_ports (handle : Nat) (s : State) : (failedOpen handle s).ports = s.ports := by
  unfold failedOpen; simp
@[simp] theorem failedOpen_lamps (handle : Nat) (s : State) : (failedOpen handle s).lamps = s.lamps := by
  unfold failedOpen; simp
@[simp] theorem failedOpen_chans (handle : Nat) (s : State) : (failedOpen handle s).chans = s.chans := by
  unfold failedOpen; simp
@[simp] theorem failedOpen_banks (handle : Nat) (s : State) : (failedOpen handle s).banks = s.banks := by
  unfold failedOpen; simp
@[simp] theorem failedOpen_pllLocked (handle : Nat) (s : State) : (failedOpen handle s).pllLocked = s.pllLocked := by
  unfold failedOpen; simp
@[simp] theorem failedOpen_marks (handle : Nat) (s : State) : (failedOpen handle s).marks = s.marks := by
  unfold failedOpen; simp
@[simp] theorem failedOpen_hk (handle : Nat) (s : State) : (failedOpen handle s).hk = s.hk := by
  unfold failedOpen; simp
@[simp] theorem failedOpen_runs (handle : Nat) (s : State) : (failedOpen handle s).runs = s.runs := by
  unfold failedOpen; simp
@[simp] theorem failedOpen_auxf (handle : Nat) (s : State) : (failedOpen handle s).auxf = s.auxf := by
  unfold failedOpen; simp
@[simp] theorem failedOpen_groups (handle : Nat) (s : State) : (failedOpen handle s).groups = s.groups := by
  unfold failedOpen; simp
@[simp] theorem failedOpen_dram (handle : Nat) (s : State) : (failedOpen handle s).dram = s.dram := by
  unfold failedOpen; simp
@[simp] theorem failedOpen_dramMem (handle : Nat) (s : State) : (failedOpen handle s).dramMem = s.dramMem := by
  unfold failedOpen; simp
@[simp] theorem failedOpen_recs (handle : Nat) (s : State) : (failedOpen handle s).recs = s.recs := by
  unfold failedOpen; simp
@[simp] theorem failedOpen_link (handle : Nat) (s : State) : (failedOpen handle s).link = s.link := by
  unfold failedOpen; simp
@[simp] theorem failedOpen_whorl (handle : Nat) (s : State) : (failedOpen handle s).whorl = s.whorl := by
  unfold failedOpen; simp
@[simp] theorem failedOpen_latch (handle : Nat) (s : State) : (failedOpen handle s).latch = s.latch := by
  unfold failedOpen; simp
@[simp] theorem failedOpen_trust (handle : Nat) (s : State) : (failedOpen handle s).trust = s.trust := by
  unfold failedOpen; simp
@[simp] theorem failedOpen_power (handle : Nat) (s : State) : (failedOpen handle s).power = s.power := by
  unfold failedOpen; simp
@[simp] theorem failedOpen_nv (handle : Nat) (s : State) : (failedOpen handle s).nv = s.nv := by
  unfold failedOpen; simp
@[simp] theorem failedOpen_nvCtl (handle : Nat) (s : State) : (failedOpen handle s).nvCtl = s.nvCtl := by
  unfold failedOpen; simp
@[simp] theorem failedOpen_boot (handle : Nat) (s : State) : (failedOpen handle s).boot = s.boot := by
  unfold failedOpen; simp
@[simp] theorem failedOpen_cal (handle : Nat) (s : State) : (failedOpen handle s).cal = s.cal := by
  unfold failedOpen; simp
@[simp] theorem failedOpen_side (handle : Nat) (s : State) : (failedOpen handle s).side = s.side := by
  unfold failedOpen; simp
@[simp] theorem failedOpen_counters (handle : Nat) (s : State) : (failedOpen handle s).counters = s.counters := by
  unfold failedOpen; simp
@[simp] theorem failedOpen_pending (handle : Nat) (s : State) : (failedOpen handle s).pending = s.pending := by
  unfold failedOpen; simp

end Sys2Proof.Machine.State
end

