-- ==== Sys2Proof/Laws/Command.lean ====
section
/-! SUPPORT. The command front end: what an accepted command's effect starts from, and what a refused one leaves. -/

namespace Sys2Proof.Machine.State

theorem takeIntake_up (s : State) : s.takeIntake.dist.up = s.dist.up := by unfold takeIntake; split <;> rfl

theorem takeIntake_nextIndex (s : State) : s.takeIntake.nextIndex = s.nextIndex := by
  unfold takeIntake; split <;> rfl

/-- Nothing is answered ahead of a command whose turn it is, where its opcode is known. -/
theorem answerFronts_of_itsTurn {op : Nat} {h : Hdr} {s : State} (t : s.itsTurn op h = true)
    (k : opKnown op h.path = true) : s.answerFronts = s := by
  have one : s.answerFront = s := by
    unfold answerFront
    split
    · rfl
    · next a rest e =>
      simp only [itsTurn, e, List.head?_cons, Option.all_some, Bool.and_eq_true, decide_eq_true_eq] at t
      obtain ⟨rfl, rfl⟩ := t
      simp [cond, k]
  have all (l : List Nat) : l.foldl (fun u _ => u.answerFront) s = s := by
    induction l with
    | nil => rfl
    | cons _ l ih => rw [List.foldl_cons, one, ih]
  exact all _

/-- A command that the front end takes, with its own checks met, is carried out under a fresh handle, after its
acknowledgement has been placed. -/
theorem command_takes {op : Nat} {h : Hdr} {check : State → Ack} {effect : Nat → State → State} {s : State}
    (k : s.takes op h = true) (c : check s.takeIntake = .accepted) :
    ∃ i, s.nextIndex = some i ∧ s.command op h check effect
      = effect (s.takeIntake.issue op h i).1
          ((s.takeIntake.issue op h i).2.ackWith h .accepted (s.takeIntake.issue op h i).1) := by
  unfold takes at k
  simp only [Bool.and_eq_true, decide_eq_true_eq] at k
  obtain ⟨⟨⟨⟨⟨ht, hk⟩, hd⟩, hg⟩, hi⟩, hr⟩ := k
  obtain ⟨i, hi⟩ := Option.isSome_iff_exists.mp hi
  refine ⟨i, hi, ?_⟩
  cases ho : opRow op with
  | none => simp [ho] at hr
  | some r =>
    simp only [ho, Option.map_some, Option.getD_some, Bool.and_eq_true, Bool.or_eq_true, decide_eq_true_eq] at hr
    have hv : s.takeIntake.verdict op h check = .accepted := by
      unfold verdict
      have hu : (!s.dist.up && !r.down) = false := by
        cases hh : s.dist.up <;> cases hh' : r.down <;> simp_all
      rw [if_neg (by simpa using hd), ho]
      simp only [hg, hk, takeIntake_up, c, takeIntake_nextIndex, hi, Option.filter_some, if_true]
      simp only [hu, Bool.not_true, Bool.false_eq_true, if_false, takeIntake_dev, hr.2, not_true, Option.isNone_some]
    simp only [command, commandLater, answerFronts_of_itsTurn ht hk, ht, Bool.not_true, Bool.false_eq_true, if_false,
      takeIntake_nextIndex, hv, hi]

/-- Of a command's start, only Dreid's own state: the handle, the intake and the waiting acknowledgement. -/
theorem issue_eq (op : Nat) (h : Hdr) (i : Nat) (s : State) :
    (s.issue op h i).2 = s.modDist fun _ => (s.issue op h i).2.dist := rfl

end Sys2Proof.Machine.State
end

