-- ==== Sys2Proof/Laws/Store.lean ====
section
/-! SUPPORT. Keyed stores: what is read after a write, and that writing keeps the canonical form; the same for byte
memories. -/

namespace Sys2Proof

variable {α : Type} [DecidableEq α]

theorem Store.wfFrom_weaken (d : α) (m : Store α) {lo lo' : Option Nat} (h : Store.wfFrom d lo m = true)
    (le : ∀ k, (lo.all fun l => decide (l < k)) = true → (lo'.all fun l => decide (l < k)) = true) :
    Store.wfFrom d lo' m = true := by
  cases m with
  | nil => rfl
  | cons p r =>
    obtain ⟨k, v⟩ := p
    simp only [Store.wfFrom, Bool.and_eq_true] at h ⊢
    exact ⟨⟨le k h.1.1, h.1.2⟩, h.2⟩

/-- Below the least key of a canonical store every key reads as the default. -/
theorem Store.read_below (d : α) (m : Store α) (l k : Nat) (h : Store.wfFrom d (some l) m = true) (hk : k ≤ l) :
    Store.read d m k = d := by
  induction m generalizing l with
  | nil => rfl
  | cons p r ih =>
    obtain ⟨k', v⟩ := p
    simp only [Store.wfFrom, Bool.and_eq_true, Option.all_some, decide_eq_true_eq] at h
    rw [Store.read, if_neg (by omega)]
    exact ih k' h.2 (by omega)

/-- Reading the key that was written gives what was written. -/
theorem Store.read_write_same (d : α) (m : Store α) (lo : Option Nat) (k : Nat) (v : α)
    (h : Store.wfFrom d lo m = true) : Store.read d (Store.write d m k v) k = v := by
  induction m generalizing lo with
  | nil =>
    rw [Store.write]; split
    · next e => rw [e]; rfl
    · simp [Store.read]
  | cons p r ih =>
    obtain ⟨k', v'⟩ := p
    simp only [Store.wfFrom, Bool.and_eq_true] at h
    rw [Store.write]; split
    · next lt =>
      split
      · next e =>
        rw [Store.read, if_neg (by omega), e]
        exact Store.read_below d r k' k h.2 (by omega)
      · simp [Store.read]
    · split
      · next ne eq =>
        subst eq; split
        · next e => rw [e]; exact Store.read_below d r k k h.2 (by omega)
        · simp [Store.read]
      · next ne neq => rw [Store.read, if_neg neq]; exact ih _ h.2

/-- Reading another key gives what stood there. -/
theorem Store.read_write_other (d : α) (m : Store α) (lo : Option Nat) (k j : Nat) (v : α)
    (h : Store.wfFrom d lo m = true) (hj : j ≠ k) : Store.read d (Store.write d m k v) j = Store.read d m j := by
  induction m generalizing lo with
  | nil => rw [Store.write]; split <;> simp [Store.read, hj]
  | cons p r ih =>
    obtain ⟨k', v'⟩ := p
    simp only [Store.wfFrom, Bool.and_eq_true] at h
    rw [Store.write]; split
    · split
      · rfl
      · rw [Store.read, if_neg hj]
    · split
      · next ne eq =>
        subst eq; split
        · next e => rw [Store.read, if_neg hj]
        · rw [Store.read, if_neg hj, Store.read, if_neg hj]
      · next ne neq =>
        rw [Store.read, Store.read, ih _ h.2]

theorem Store.wfFrom_write (d : α) (m : Store α) (lo : Option Nat) (k : Nat) (v : α)
    (h : Store.wfFrom d lo m = true) (hk : (lo.all fun l => decide (l < k)) = true) :
    Store.wfFrom d lo (Store.write d m k v) = true := by
  induction m generalizing lo with
  | nil =>
    rw [Store.write]; split
    · rfl
    · next ne => simp [Store.wfFrom, hk, ne]
  | cons p r ih =>
    obtain ⟨k', v'⟩ := p
    have h0 := h
    simp only [Store.wfFrom, Bool.and_eq_true] at h
    rw [Store.write]; split
    · next lt =>
      split
      · exact h0
      · next ne =>
        simp only [Store.wfFrom, Bool.and_eq_true]
        exact ⟨⟨hk, by simpa using ne⟩, ⟨⟨by simpa using lt, h.1.2⟩, h.2⟩⟩
    · split
      · next ne eq =>
        subst eq; split
        · exact Store.wfFrom_weaken d r h.2 fun j hj => by
            cases lo with
            | none => rfl
            | some l => simp only [Option.all_some, decide_eq_true_eq] at hj hk ⊢; omega
        · next nv =>
          simp only [Store.wfFrom, Bool.and_eq_true]
          exact ⟨⟨hk, by simpa using nv⟩, h.2⟩
      · next ne neq =>
        simp only [Store.wfFrom, Bool.and_eq_true]
        exact ⟨h.1, ih _ h.2 (by simp only [Option.all_some, decide_eq_true_eq]; omega)⟩

/-- Writing keeps the canonical form. -/
theorem Store.wf_write (d : α) (m : Store α) (k : Nat) (v : α) (h : Store.wf d m = true) :
    Store.wf d (Store.write d m k v) = true := Store.wfFrom_write d m none k v h rfl

/-- Changing a value keeps the canonical form. -/
theorem Store.wf_modify (d : α) (m : Store α) (k : Nat) (f : α → α) (h : Store.wf d m = true) :
    Store.wf d (Store.modify d m k f) = true := Store.wf_write d m k _ h

/-- What a key reads after a change. -/
theorem Store.read_modify (d : α) (m : Store α) (k j : Nat) (f : α → α) (h : Store.wf d m = true) :
    Store.read d (Store.modify d m k f) j = if j = k then f (Store.read d m k) else Store.read d m j := by
  split
  · next e => rw [e]; exact Store.read_write_same d m none k _ h
  · next e => exact Store.read_write_other d m none k j _ h e

/-- Leaving entries out keeps the canonical form. -/
theorem Store.wfFrom_filter (d : α) (m : Store α) (lo : Option Nat) (p : Nat × α → Bool)
    (h : Store.wfFrom d lo m = true) : Store.wfFrom d lo (m.filter p) = true := by
  induction m generalizing lo with
  | nil => rfl
  | cons q r ih =>
    obtain ⟨k, v⟩ := q
    simp only [Store.wfFrom, Bool.and_eq_true] at h
    rw [List.filter_cons]; split
    · simp only [Store.wfFrom, Bool.and_eq_true]; exact ⟨h.1, ih _ h.2⟩
    · refine ih _ (Store.wfFrom_weaken d r h.2 fun j hj => ?_)
      cases lo with
      | none => rfl
      | some l =>
        simp only [Option.all_some, decide_eq_true_eq] at hj h ⊢; omega

theorem Store.wf_filter (d : α) (m : Store α) (p : Nat × α → Bool) (h : Store.wf d m = true) :
    Store.wf d (m.filter p) = true := Store.wfFrom_filter d m none p h

/-- Storing bytes keeps the canonical form of a memory. -/
theorem Memory.wf_write (m : Mem) (a : Nat) (bs : List Byte) (h : Memory.wf m = true) :
    Memory.wf (Memory.write m a bs) = true := by
  induction bs generalizing m a with
  | nil => exact h
  | cons b bs ih => exact ih _ _ (Store.wf_write 0 m a b h)

/-- A byte outside the bytes stored reads as before. -/
theorem Memory.read_write_outside (m : Mem) (a j : Nat) (bs : List Byte) (h : Memory.wf m = true)
    (hj : j < a ∨ a + bs.length ≤ j) : Memory.read (Memory.write m a bs) j = Memory.read m j := by
  induction bs generalizing m a with
  | nil => rfl
  | cons b bs ih =>
    rw [Memory.write, ih _ _ (Store.wf_write 0 m a b h) (by simp only [List.length_cons] at hj; omega)]
    exact Store.read_write_other 0 m none a j b h (by simp only [List.length_cons] at hj; omega)

/-- A byte of the bytes stored reads as stored. -/
theorem Memory.read_write_inside (m : Mem) (a i : Nat) (bs : List Byte) (h : Memory.wf m = true)
    (hi : i < bs.length) : Memory.read (Memory.write m a bs) (a + i) = bs[i] := by
  induction bs generalizing m a i with
  | nil => simp at hi
  | cons b bs ih =>
    cases i with
    | zero =>
      rw [Memory.write, Memory.read_write_outside _ _ _ _ (Store.wf_write 0 m a b h) (by omega)]
      exact Store.read_write_same 0 m none a b h
    | succ i =>
      have e := ih (Store.write 0 m a b) (a + 1) i (Store.wf_write 0 m a b h) (by simpa using hi)
      rw [Memory.write, show a + (i + 1) = a + 1 + i by omega, e]; rfl

/-! ## Lists in order -/

namespace Machine

theorem insertBy_perm {β : Type} (le : β → β → Bool) (x : β) (l : List β) : (insertBy le x l).Perm (x :: l) := by
  induction l with
  | nil => exact .refl _
  | cons y r ih =>
    rw [insertBy]; split
    · exact .refl _
    · exact (ih.cons y).trans (.swap x y r)

/-- A list in order has the same elements. -/
theorem sortBy_perm {β : Type} (le : β → β → Bool) (l : List β) : (sortBy le l).Perm l := by
  induction l with
  | nil => exact .refl _
  | cons x r ih => exact (insertBy_perm le x _).trans (ih.cons x)

@[simp] theorem mem_sortBy {β : Type} (le : β → β → Bool) (l : List β) (x : β) : x ∈ sortBy le l ↔ x ∈ l :=
  (sortBy_perm le l).mem_iff

@[simp] theorem length_sortBy {β : Type} (le : β → β → Bool) (l : List β) : (sortBy le l).length = l.length :=
  (sortBy_perm le l).length_eq

theorem insertBy_ordered {β : Type} (le : β → β → Bool) (total : ∀ a b, le a b = true ∨ le b a = true)
    (trans : ∀ a b c, le a b = true → le b c = true → le a c = true) (x : β) (l : List β)
    (h : l.Pairwise fun a b => le a b = true) : (insertBy le x l).Pairwise fun a b => le a b = true := by
  induction l with
  | nil => simp [insertBy]
  | cons y r ih =>
    rw [insertBy]; split
    · next k => exact .cons (fun z hz => (List.mem_cons.mp hz).elim (· ▸ k) fun hz =>
        trans _ _ _ k (List.rel_of_pairwise_cons h hz)) h
    · next k =>
      refine .cons (fun z hz => ?_) (ih h.of_cons)
      rcases List.mem_cons.mp ((insertBy_perm le x r).mem_iff.mp hz) with rfl | hz
      · exact (total z y).resolve_left k
      · exact List.rel_of_pairwise_cons h hz

/-- It is in order, where the order is total and transitive. -/
theorem sortBy_ordered {β : Type} (le : β → β → Bool) (total : ∀ a b, le a b = true ∨ le b a = true)
    (trans : ∀ a b c, le a b = true → le b c = true → le a c = true) (l : List β) :
    (sortBy le l).Pairwise fun a b => le a b = true := by
  induction l with
  | nil => exact .nil
  | cons x r ih => exact insertBy_ordered le total trans x _ ih

end Machine

end Sys2Proof
end

