-- ==== Sys2Proof/Laws/Kept.lean ====
section
/-! SUPPORT. The relation Kept is a preorder that every setter respects; the laws that the lemmas of the operations go
through. -/

namespace Sys2Proof.Machine

theorem Kept.refl (s : State) : Kept s s := ⟨rfl, id, id, Nat.le_refl _⟩

theorem Kept.trans {a b c : State} (h : Kept a b) (k : Kept b c) : Kept a c :=
  ⟨k.pending.trans h.pending, fun x => k.latched (h.latched x), fun x => k.wf (h.wf x), Nat.le_trans h.time k.time⟩

/-- A change that leaves the queue, the latch, the clock's reading and everything kept by key alone. -/
theorem Kept.of_same {s s' : State} (h1 : s'.pending = s.pending) (h2 : s'.latch = s.latch) (h3 : s'.clock = s.clock)
    (h4 : s'.wf = s.wf) : Kept s s' :=
  ⟨h1, by simp [State.latched, h2], by rw [h4]; exact id, by rw [State.now, State.now, h3]⟩

namespace State

variable {s₀ s : State}

theorem modDev_kept {g : DevState → DevState} (h : Kept s₀ s) : Kept s₀ (s.modDev g) :=
  h.trans (.of_same rfl rfl rfl rfl)

theorem modSpindle_kept {g : Spindle → Spindle} (h : Kept s₀ s) : Kept s₀ (s.modSpindle g) :=
  h.trans (.of_same rfl rfl rfl rfl)

theorem modFlyers_kept {g : Store Flyer → Store Flyer} (h : Kept s₀ s)
    (k : Store.wf {} s.flyers = true → Store.wf {} (g s.flyers) = true) : Kept s₀ (s.modFlyers g) := by
  refine h.trans ⟨rfl, id, fun w => ?_, Nat.le_refl _⟩
  simp only [wf, memWf, partsWf, Bool.and_eq_true] at w ⊢
  simp_all

theorem modSkein_kept {g : Store Entry → Store Entry} (h : Kept s₀ s)
    (k : Store.wf {} s.skein = true → Store.wf {} (g s.skein) = true) : Kept s₀ (s.modSkein g) := by
  refine h.trans ⟨rfl, id, fun w => ?_, Nat.le_refl _⟩
  simp only [wf, memWf, partsWf, Bool.and_eq_true] at w ⊢
  simp_all

theorem modArb_kept {g : Arbiter → Arbiter} (h : Kept s₀ s) : Kept s₀ (s.modArb g) :=
  h.trans (.of_same rfl rfl rfl rfl)

theorem modOrder_kept {g : Nat → Nat} (h : Kept s₀ s) : Kept s₀ (s.modOrder g) :=
  h.trans (.of_same rfl rfl rfl rfl)

theorem modHop_kept {g : Nat → Nat} (h : Kept s₀ s) : Kept s₀ (s.modHop g) :=
  h.trans (.of_same rfl rfl rfl rfl)

theorem modHopHold_kept {g : Nat → Nat} (h : Kept s₀ s) : Kept s₀ (s.modHopHold g) :=
  h.trans (.of_same rfl rfl rfl rfl)

theorem modPorts_kept {g : Store Port → Store Port} (h : Kept s₀ s)
    (k : Store.wf {} s.ports = true → Store.wf {} (g s.ports) = true) : Kept s₀ (s.modPorts g) := by
  refine h.trans ⟨rfl, id, fun w => ?_, Nat.le_refl _⟩
  simp only [wf, memWf, partsWf, Bool.and_eq_true] at w ⊢
  simp_all

theorem modLamps_kept {g : Store Board → Store Board} (h : Kept s₀ s)
    (k : Store.wf {} s.lamps = true → Store.wf {} (g s.lamps) = true) : Kept s₀ (s.modLamps g) := by
  refine h.trans ⟨rfl, id, fun w => ?_, Nat.le_refl _⟩
  simp only [wf, memWf, partsWf, Bool.and_eq_true] at w ⊢
  simp_all

theorem modChans_kept {g : Store Channel → Store Channel} (h : Kept s₀ s)
    (k : Store.wf {} s.chans = true → Store.wf {} (g s.chans) = true) : Kept s₀ (s.modChans g) := by
  refine h.trans ⟨rfl, id, fun w => ?_, Nat.le_refl _⟩
  simp only [wf, memWf, partsWf, Bool.and_eq_true] at w ⊢
  simp_all

theorem modBanks_kept {g : Store Bank → Store Bank} (h : Kept s₀ s)
    (k : Store.wf {} s.banks = true → Store.wf {} (g s.banks) = true) : Kept s₀ (s.modBanks g) := by
  refine h.trans ⟨rfl, id, fun w => ?_, Nat.le_refl _⟩
  simp only [wf, memWf, partsWf, Bool.and_eq_true] at w ⊢
  simp_all

theorem modPllLocked_kept {g : Bool → Bool} (h : Kept s₀ s) : Kept s₀ (s.modPllLocked g) :=
  h.trans (.of_same rfl rfl rfl rfl)

theorem modMarks_kept {g : List Mark → List Mark} (h : Kept s₀ s) : Kept s₀ (s.modMarks g) :=
  h.trans (.of_same rfl rfl rfl rfl)

theorem modHk_kept {g : Housekeeping → Housekeeping} (h : Kept s₀ s) : Kept s₀ (s.modHk g) :=
  h.trans (.of_same rfl rfl rfl rfl)

theorem modRuns_kept {g : List StatRun → List StatRun} (h : Kept s₀ s) : Kept s₀ (s.modRuns g) :=
  h.trans (.of_same rfl rfl rfl rfl)

theorem modAuxf_kept {g : Store Auxf → Store Auxf} (h : Kept s₀ s)
    (k : Store.wf {} s.auxf = true → Store.wf {} (g s.auxf) = true) : Kept s₀ (s.modAuxf g) := by
  refine h.trans ⟨rfl, id, fun w => ?_, Nat.le_refl _⟩
  simp only [wf, memWf, partsWf, Bool.and_eq_true] at w ⊢
  simp_all

theorem modGroups_kept {g : Store Group → Store Group} (h : Kept s₀ s)
    (k : Store.wf {} s.groups = true → Store.wf {} (g s.groups) = true) : Kept s₀ (s.modGroups g) := by
  refine h.trans ⟨rfl, id, fun w => ?_, Nat.le_refl _⟩
  simp only [wf, memWf, partsWf, Bool.and_eq_true] at w ⊢
  simp_all

theorem modDram_kept {g : Dram → Dram} (h : Kept s₀ s) : Kept s₀ (s.modDram g) :=
  h.trans (.of_same rfl rfl rfl rfl)

theorem modDramMem_kept {g : Mem → Mem} (h : Kept s₀ s)
    (k : Memory.wf s.dramMem = true → Memory.wf (g s.dramMem) = true) : Kept s₀ (s.modDramMem g) := by
  refine h.trans ⟨rfl, id, fun w => ?_, Nat.le_refl _⟩
  simp only [wf, memWf, partsWf, Bool.and_eq_true] at w ⊢
  simp_all

theorem modRecs_kept {g : Records → Records} (h : Kept s₀ s) : Kept s₀ (s.modRecs g) :=
  h.trans (.of_same rfl rfl rfl rfl)

theorem modLink_kept {g : Link → Link} (h : Kept s₀ s) : Kept s₀ (s.modLink g) :=
  h.trans (.of_same rfl rfl rfl rfl)

theorem modDist_kept {g : Distaff → Distaff} (h : Kept s₀ s) : Kept s₀ (s.modDist g) :=
  h.trans (.of_same rfl rfl rfl rfl)

theorem modWhorl_kept {g : Whorl → Whorl} (h : Kept s₀ s) : Kept s₀ (s.modWhorl g) :=
  h.trans (.of_same rfl rfl rfl rfl)

theorem modPower_kept {g : Power → Power} (h : Kept s₀ s) : Kept s₀ (s.modPower g) :=
  h.trans (.of_same rfl rfl rfl rfl)

theorem modNv_kept {g : Mem → Mem} (h : Kept s₀ s)
    (k : Memory.wf s.nv = true → Memory.wf (g s.nv) = true) : Kept s₀ (s.modNv g) := by
  refine h.trans ⟨rfl, id, fun w => ?_, Nat.le_refl _⟩
  simp only [wf, memWf, partsWf, Bool.and_eq_true] at w ⊢
  simp_all

theorem modNvCtl_kept {g : NvCtl → NvCtl} (h : Kept s₀ s) : Kept s₀ (s.modNvCtl g) :=
  h.trans (.of_same rfl rfl rfl rfl)

theorem modBoot_kept {g : Boot → Boot} (h : Kept s₀ s) : Kept s₀ (s.modBoot g) :=
  h.trans (.of_same rfl rfl rfl rfl)

theorem modCal_kept {g : Cal → Cal} (h : Kept s₀ s) : Kept s₀ (s.modCal g) :=
  h.trans (.of_same rfl rfl rfl rfl)

theorem modCounters_kept {g : Store Nat → Store Nat} (h : Kept s₀ s)
    (k : Store.wf 0 s.counters = true → Store.wf 0 (g s.counters) = true) : Kept s₀ (s.modCounters g) := by
  refine h.trans ⟨rfl, id, fun w => ?_, Nat.le_refl _⟩
  simp only [wf, memWf, partsWf, Bool.and_eq_true] at w ⊢
  simp_all

theorem modFlyer_kept {i : Nat} {g : Flyer → Flyer} (h : Kept s₀ s) : Kept s₀ (s.modFlyer i g) :=
  modFlyers_kept h (Store.wf_modify _ _ _ _)

theorem modEntry_kept {i : Nat} {g : Entry → Entry} (h : Kept s₀ s) : Kept s₀ (s.modEntry i g) :=
  modSkein_kept h (Store.wf_modify _ _ _ _)

theorem modPort_kept {i : Nat} {g : Port → Port} (h : Kept s₀ s) : Kept s₀ (s.modPort i g) :=
  modPorts_kept h (Store.wf_modify _ _ _ _)

theorem modLamp_kept {i : Nat} {g : Board → Board} (h : Kept s₀ s) : Kept s₀ (s.modLamp i g) :=
  modLamps_kept h (Store.wf_modify _ _ _ _)

theorem modChan_kept {i : Nat} {g : Channel → Channel} (h : Kept s₀ s) : Kept s₀ (s.modChan i g) :=
  modChans_kept h (Store.wf_modify _ _ _ _)

theorem modBank_kept {i : Nat} {g : Bank → Bank} (h : Kept s₀ s) : Kept s₀ (s.modBank i g) :=
  modBanks_kept h (Store.wf_modify _ _ _ _)

theorem modAux_kept {i : Nat} {g : Auxf → Auxf} (h : Kept s₀ s) : Kept s₀ (s.modAux i g) :=
  modAuxf_kept h (Store.wf_modify _ _ _ _)

theorem modGroup_kept {i : Nat} {g : Group → Group} (h : Kept s₀ s) : Kept s₀ (s.modGroup i g) :=
  modGroups_kept h (Store.wf_modify _ _ _ _)

theorem count_kept {k i n : Nat} (h : Kept s₀ s) : Kept s₀ (s.count k i n) :=
  modCounters_kept h (Store.wf_modify _ _ _ _)

theorem modClock_kept {g : Clock → Clock} (h : Kept s₀ s) (k : s.clock.now ≤ (g s.clock).now) :
    Kept s₀ (s.modClock g) := h.trans ⟨rfl, id, id, k⟩

theorem modLatch_kept {g : Latch → Latch} (h : Kept s₀ s) (k : s.latch.set = true → (g s.latch).set = true) :
    Kept s₀ (s.modLatch g) := h.trans ⟨rfl, k, id, Nat.le_refl _⟩

theorem modSide_kept {g : SidePort → SidePort} (h : Kept s₀ s)
    (k : Memory.wf s.side.mem = true → Memory.wf (g s.side).mem = true) : Kept s₀ (s.modSide g) := by
  refine h.trans ⟨rfl, id, fun w => ?_, Nat.le_refl _⟩
  simp only [wf, memWf, partsWf, Bool.and_eq_true] at w ⊢
  simp_all

theorem modTrust_kept {g : Trust → Trust} (h : Kept s₀ s)
    (k : Memory.wf s.trust.token = true → Memory.wf (g s.trust).token = true) : Kept s₀ (s.modTrust g) := by
  refine h.trans ⟨rfl, id, fun w => ?_, Nat.le_refl _⟩
  simp only [wf, memWf, partsWf, Bool.and_eq_true] at w ⊢
  simp_all

theorem advance_kept {t : Tick} (h : Kept s₀ s) : Kept s₀ (s.advance t) := modClock_kept h (Nat.le_max_left _ _)

theorem draw_kept {n : Nat} (h : Kept s₀ s) : Kept s₀ (s.draw n).2 := h.trans ⟨rfl, id, id, Nat.le_refl _⟩

theorem each_kept {α : Type} {l : List α} {f : α → State → State} (k : ∀ a s, Kept s (f a s)) (h : Kept s₀ s) :
    Kept s₀ (s.each l f) := by
  refine h.trans ?_
  unfold each
  clear h
  induction l generalizing s with
  | nil => exact .refl s
  | cons a l ih => exact (k a s).trans ih

theorem cond_kept {b : Bool} {f : State → State} (k : ∀ s, Kept s (f s)) (h : Kept s₀ s) : Kept s₀ (s.cond b f) := by
  unfold cond; split
  · exact h.trans (k s)
  · exact h

end State

end Sys2Proof.Machine
end

