-- ==== Sys2Proof/Laws/KeptOperands.lean ====
section
/-! SUPPORT. What the operations of Machine/Operands.lean keep. -/

namespace Sys2Proof.Machine

theorem State.setParam_kept {s₀ : State} {id : Nat} {sub : Nat} {target : Nat} {v : PVal} {s : State} (h₀ : Kept s₀ s) :
    Kept s₀ (State.setParam id sub target v s) := by
  refine h₀.trans ?_
  unfold State.setParam
  try dsimp only
  repeat' first
    | with_reducible exact .refl _
    | with_reducible apply State.modDist_kept

end Sys2Proof.Machine
end

