-- ==== Sys2Proof/Laws/KeptRecords.lean ====
section
/-! SUPPORT. What the operations of Machine/Records.lean keep. -/

namespace Sys2Proof.Machine

theorem State.offer_kept {s₀ : State} {l : Lane} {src : Nat} {frame : Option Nat} {mk : List (Nat → List Byte)} {s : State} (h₀ : Kept s₀ s) :
    Kept s₀ (State.offer l src frame mk s) := by
  refine h₀.trans ?_
  unfold State.offer
  try dsimp only
  repeat' first
    | with_reducible exact .refl _
    | with_reducible apply State.modRecs_kept

theorem State.setFlag_kept {s₀ : State} {n : Nat} {s : State} (h₀ : Kept s₀ s) :
    Kept s₀ (State.setFlag n s) := by
  refine h₀.trans ?_
  unfold State.setFlag
  try dsimp only
  repeat' first
    | with_reducible exact .refl _
    | with_reducible apply State.modSide_kept
    | with_reducible exact id

theorem State.queueWrites_kept {s₀ : State} {jobs : List PageJob} {s : State} (h₀ : Kept s₀ s) :
    Kept s₀ (State.queueWrites jobs s) := by
  refine h₀.trans ?_
  unfold State.queueWrites
  try dsimp only
  repeat' first
    | with_reducible exact .refl _
    | with_reducible apply State.modNvCtl_kept

theorem State.queueErases_kept {s₀ : State} {pages : List Nat} {s : State} (h₀ : Kept s₀ s) :
    Kept s₀ (State.queueErases pages s) := by
  refine h₀.trans ?_
  unfold State.queueErases
  try dsimp only
  repeat' first
    | with_reducible exact .refl _
    | with_reducible apply State.modNvCtl_kept

theorem State.logWrite_kept {s₀ : State} {body : List Byte} {s : State} (h₀ : Kept s₀ s) :
    Kept s₀ (State.logWrite body s) := by
  refine h₀.trans ?_
  unfold State.logWrite
  try dsimp only
  repeat' first
    | with_reducible exact .refl _
    | with_reducible apply State.queueErases_kept
    | with_reducible apply State.queueWrites_kept
    | with_reducible apply State.modNvCtl_kept

theorem State.logOne_kept {s₀ : State} {body : List Byte} {s : State} (h₀ : Kept s₀ s) :
    Kept s₀ (State.logOne body s) := by
  refine h₀.trans ?_
  unfold State.logOne
  try dsimp only
  repeat' first
    | with_reducible exact .refl _
    | with_reducible apply State.logWrite_kept
    | with_reducible apply State.setFlag_kept
    | with_reducible apply State.modNvCtl_kept
    | split

theorem State.healthOnly_kept {s₀ : State} {code : Nat} {subject : Nat} {details : List (Nat × Nat)} {seqs : List Nat} {s : State} (h₀ : Kept s₀ s) :
    Kept s₀ (State.healthOnly code subject details seqs s) := by
  refine h₀.trans ?_
  unfold State.healthOnly
  try dsimp only
  repeat' first
    | with_reducible exact .refl _
    | with_reducible apply State.offer_kept
    | with_reducible apply State.cond_kept
    | intro _

theorem State.logBy_kept {s₀ : State} {f : State → State} {s : State} (h_f : ∀ s, Kept s (f s)) (h₀ : Kept s₀ s) :
    Kept s₀ (State.logBy f s) := by
  refine h₀.trans ?_
  unfold State.logBy
  try dsimp only
  repeat' first
    | with_reducible exact .refl _
    | with_reducible apply State.healthOnly_kept
    | with_reducible apply State.logOne_kept
    | with_reducible refine Kept.trans ?_ (h_f _)
    | split

theorem State.log_kept {s₀ : State} {src : Nat} {code : Nat} {detail : List Byte} {s : State} (h₀ : Kept s₀ s) :
    Kept s₀ (State.log src code detail s) := by
  refine h₀.trans ?_
  unfold State.log
  try dsimp only
  repeat' first
    | with_reducible exact .refl _
    | with_reducible apply State.logBy_kept
    | with_reducible apply State.logOne_kept
    | intro _

theorem State.eventOf_kept {s₀ : State} {src : Nat} {code : Nat} {srcState : Nat} {payload : List (Nat × Nat)} {s : State} (h₀ : Kept s₀ s) :
    Kept s₀ (State.eventOf src code srcState payload s) := by
  refine h₀.trans ?_
  unfold State.eventOf
  try dsimp only
  repeat' first
    | with_reducible exact .refl _
    | with_reducible apply State.log_kept
    | with_reducible apply State.offer_kept
    | with_reducible apply State.cond_kept
    | intro _

theorem State.event_kept {s₀ : State} {src : Nat} {code : Nat} {payload : List (Nat × Nat)} {s : State} (h₀ : Kept s₀ s) :
    Kept s₀ (State.event src code payload s) := by
  refine h₀.trans ?_
  unfold State.event
  try dsimp only
  repeat' first
    | with_reducible exact .refl _
    | with_reducible apply State.eventOf_kept

theorem State.portEvent_kept {s₀ : State} {n : Nat} {code : Nat} {payload : List (Nat × Nat)} {s : State} (h₀ : Kept s₀ s) :
    Kept s₀ (State.portEvent n code payload s) := by
  refine h₀.trans ?_
  unfold State.portEvent
  try dsimp only
  repeat' first
    | with_reducible exact .refl _
    | with_reducible apply State.eventOf_kept

theorem State.health_kept {s₀ : State} {code : Nat} {subject : Nat} {details : List (Nat × Nat)} {seqs : List Nat} {s : State} (h₀ : Kept s₀ s) :
    Kept s₀ (State.health code subject details seqs s) := by
  refine h₀.trans ?_
  unfold State.health
  try dsimp only
  repeat' first
    | with_reducible exact .refl _
    | with_reducible apply State.log_kept
    | with_reducible apply State.healthOnly_kept
    | with_reducible apply State.cond_kept
    | intro _

theorem State.unsay_kept {s₀ : State} {src : Nat} {code : Nat} {s : State} (h₀ : Kept s₀ s) :
    Kept s₀ (State.unsay src code s) := by
  refine h₀.trans ?_
  unfold State.unsay
  try dsimp only
  repeat' first
    | with_reducible exact .refl _
    | with_reducible apply State.modRecs_kept

theorem State.amend_kept {s₀ : State} {src : Nat} {code : Nat} {head : List Byte} {v : Byte} {s : State} (h₀ : Kept s₀ s) :
    Kept s₀ (State.amend src code head v s) := by
  refine h₀.trans ?_
  unfold State.amend
  try dsimp only
  repeat' first
    | with_reducible exact .refl _
    | with_reducible apply State.modNvCtl_kept
    | with_reducible apply State.modRecs_kept

theorem State.noteClose_kept {s₀ : State} {c : Nat} {x : Tick} {s : State} (h₀ : Kept s₀ s) :
    Kept s₀ (State.noteClose c x s) := by
  refine h₀.trans ?_
  unfold State.noteClose
  try dsimp only
  repeat' first
    | with_reducible exact .refl _
    | with_reducible apply State.modChan_kept

end Sys2Proof.Machine
end

