-- ==== Sys2Proof/Laws/KeptShots.lean ====
section
/-! SUPPORT. What the operations of Machine/Shots.lean keep. -/

namespace Sys2Proof.Machine

theorem State.countFlyer_kept {s₀ : State} {b : Nat} {k : Nat} {s : State} (h₀ : Kept s₀ s) :
    Kept s₀ (State.countFlyer b k s) := by
  refine h₀.trans ?_
  unfold State.countFlyer
  try dsimp only
  repeat' first
    | with_reducible exact .refl _
    | with_reducible apply State.modFlyer_kept

theorem State.tally_kept {s₀ : State} {frame : Nat} {g : FrameTally → FrameTally} {s : State} (h₀ : Kept s₀ s) :
    Kept s₀ (State.tally frame g s) := by
  refine h₀.trans ?_
  unfold State.tally
  try dsimp only
  repeat' first
    | with_reducible exact .refl _
    | with_reducible apply State.modSpindle_kept

theorem State.report_kept {s₀ : State} {idx : Option Nat} {e : Entry} {s : State} (h₀ : Kept s₀ s) :
    Kept s₀ (State.report idx e s) := by
  refine h₀.trans ?_
  unfold State.report
  try dsimp only
  repeat' first
    | with_reducible exact .refl _
    | with_reducible apply State.offer_kept
    | with_reducible apply State.cond_kept
    | intro _

theorem State.account_kept {s₀ : State} {i : Option Nat} {e : Entry} {s : State} (h₀ : Kept s₀ s) :
    Kept s₀ (State.account i e s) := by
  refine h₀.trans ?_
  unfold State.account
  try dsimp only
  repeat' first
    | with_reducible exact .refl _
    | with_reducible apply State.report_kept
    | with_reducible apply State.tally_kept
    | with_reducible apply State.countFlyer_kept

theorem State.retire_kept {s₀ : State} {i : Nat} {out : Nat} {s : State} (h₀ : Kept s₀ s) :
    Kept s₀ (State.retire i out s) := by
  refine h₀.trans ?_
  unfold State.retire
  try dsimp only
  repeat' first
    | with_reducible exact .refl _
    | with_reducible apply State.account_kept
    | with_reducible apply State.cond_kept
    | with_reducible apply State.modPort_kept
    | with_reducible apply State.modEntry_kept
    | intro _

theorem State.revise_kept {s₀ : State} {i : Nat} {out : Nat} {s : State} (h₀ : Kept s₀ s) :
    Kept s₀ (State.revise i out s) := by
  refine h₀.trans ?_
  unfold State.revise
  try dsimp only
  repeat' first
    | with_reducible exact .refl _
    | with_reducible apply State.countFlyer_kept
    | with_reducible apply State.modEntry_kept
    | with_reducible apply State.modFlyer_kept
    | with_reducible apply State.modRecs_kept
    | split

theorem State.cancel_kept {s₀ : State} {pick : Entry → Bool} {out : Nat} {s : State} (h₀ : Kept s₀ s) :
    Kept s₀ (State.cancel pick out s) := by
  refine h₀.trans ?_
  unfold State.cancel
  try dsimp only
  repeat' first
    | with_reducible exact .refl _
    | with_reducible apply State.revise_kept
    | with_reducible apply State.retire_kept
    | with_reducible apply State.each_kept
    | with_reducible apply State.modEntry_kept
    | intro _

theorem State.sendFrame_kept {s₀ : State} {n : Nat} {shares : List (List Byte)} {s : State} (h₀ : Kept s₀ s) :
    Kept s₀ (State.sendFrame n shares s) := by
  refine h₀.trans ?_
  unfold State.sendFrame
  try dsimp only
  repeat' first
    | with_reducible exact .refl _
    | with_reducible apply State.cond_kept
    | with_reducible apply State.modPort_kept
    | intro _

theorem State.updateEmission_kept {s₀ : State} {n : Nat} {s : State} (h₀ : Kept s₀ s) :
    Kept s₀ (State.updateEmission n s) := by
  refine h₀.trans ?_
  unfold State.updateEmission
  try dsimp only
  repeat' first
    | with_reducible exact .refl _
    | with_reducible apply State.sendFrame_kept
    | with_reducible apply State.modPort_kept
    | split

theorem State.gateBlame_kept {s₀ : State} {cause : Nat} {n : Nat} {s : State} (h₀ : Kept s₀ s) :
    Kept s₀ (State.gateBlame cause n s) := by
  refine h₀.trans ?_
  unfold State.gateBlame
  try dsimp only
  repeat' first
    | with_reducible exact .refl _
    | with_reducible apply State.amend_kept
    | with_reducible apply State.cond_kept
    | with_reducible apply State.modPort_kept
    | intro _

theorem State.updateGate_kept {s₀ : State} {cause : Nat} {n : Nat} {s : State} (h₀ : Kept s₀ s) :
    Kept s₀ (State.updateGate cause n s) := by
  refine h₀.trans ?_
  unfold State.updateGate
  try dsimp only
  repeat' first
    | with_reducible exact .refl _
    | with_reducible apply State.gateBlame_kept
    | with_reducible apply State.updateEmission_kept
    | with_reducible apply State.event_kept
    | with_reducible apply State.modPort_kept
    | split

theorem State.updateGates_kept {s₀ : State} {cause : Nat} {s : State} (h₀ : Kept s₀ s) :
    Kept s₀ (State.updateGates cause s) := by
  refine h₀.trans ?_
  unfold State.updateGates
  try dsimp only
  repeat' first
    | with_reducible exact .refl _
    | with_reducible apply State.updateGate_kept
    | with_reducible apply State.each_kept
    | intro _

theorem State.updateEmissions_kept {s₀ : State} {s : State} (h₀ : Kept s₀ s) :
    Kept s₀ (State.updateEmissions s) := by
  refine h₀.trans ?_
  unfold State.updateEmissions
  try dsimp only
  repeat' first
    | with_reducible exact .refl _
    | with_reducible apply State.updateEmission_kept
    | with_reducible apply State.each_kept
    | intro _

theorem State.setInhibit_kept {s₀ : State} {bit : Nat} {on : Bool} {s : State} (h₀ : Kept s₀ s) :
    Kept s₀ (State.setInhibit bit on s) := by
  refine h₀.trans ?_
  unfold State.setInhibit
  try dsimp only
  repeat' first
    | with_reducible exact .refl _
    | with_reducible apply State.updateGates_kept
    | with_reducible apply State.event_kept
    | with_reducible apply State.modWhorl_kept
    | split

end Sys2Proof.Machine
end

