-- ==== Sys2Proof/Laws/KeptResponses.lean ====
section
/-! SUPPORT. What the operations of Machine/Responses.lean keep. -/

namespace Sys2Proof.Machine

theorem State.ackWith_kept {s₀ : State} {h : Hdr} {a : Ack} {handle : Nat} {s : State} (h₀ : Kept s₀ s) :
    Kept s₀ (State.ackWith h a handle s) := by
  refine h₀.trans ?_
  unfold State.ackWith
  try dsimp only
  repeat' first
    | with_reducible exact .refl _
    | with_reducible apply State.modDist_kept

theorem State.completeWith_kept {s₀ : State} {handle : Nat} {status : Nat} {detail : Nat} {flags : Nat} {boundary : Option LineTime} {result : List Byte} {s : State} (h₀ : Kept s₀ s) :
    Kept s₀ (State.completeWith handle status detail flags boundary result s) := by
  refine h₀.trans ?_
  unfold State.completeWith
  try dsimp only
  repeat' first
    | with_reducible exact .refl _
    | with_reducible apply State.modDist_kept
    | split

theorem State.succeed_kept {s₀ : State} {handle : Nat} {result : List Byte} {s : State} (h₀ : Kept s₀ s) :
    Kept s₀ (State.succeed handle result s) := by
  refine h₀.trans ?_
  unfold State.succeed
  try dsimp only
  repeat' first
    | with_reducible exact .refl _
    | with_reducible apply State.completeWith_kept

theorem State.failed_kept {s₀ : State} {handle : Nat} {detail : Nat} {s : State} (h₀ : Kept s₀ s) :
    Kept s₀ (State.failed handle detail s) := by
  refine h₀.trans ?_
  unfold State.failed
  try dsimp only
  repeat' first
    | with_reducible exact .refl _
    | with_reducible apply State.completeWith_kept

theorem State.failedOpen_kept {s₀ : State} {handle : Nat} {s : State} (h₀ : Kept s₀ s) :
    Kept s₀ (State.failedOpen handle s) := by
  refine h₀.trans ?_
  unfold State.failedOpen
  try dsimp only
  repeat' first
    | with_reducible exact .refl _
    | with_reducible apply State.failed_kept
    | with_reducible apply State.draw_kept

theorem State.aborted_kept {s₀ : State} {handle : Nat} {detail : Nat} {s : State} (h₀ : Kept s₀ s) :
    Kept s₀ (State.aborted handle detail s) := by
  refine h₀.trans ?_
  unfold State.aborted
  try dsimp only
  repeat' first
    | with_reducible exact .refl _
    | with_reducible apply State.completeWith_kept

theorem State.takeIntake_kept {s₀ : State} {s : State} (h₀ : Kept s₀ s) :
    Kept s₀ (State.takeIntake s) := by
  refine h₀.trans ?_
  unfold State.takeIntake
  try dsimp only
  repeat' first
    | with_reducible exact .refl _
    | with_reducible apply State.modDist_kept
    | split

theorem State.answerFront_kept {s₀ : State} {s : State} (h₀ : Kept s₀ s) :
    Kept s₀ (State.answerFront s) := by
  refine h₀.trans ?_
  unfold State.answerFront
  try dsimp only
  repeat' first
    | with_reducible exact .refl _
    | with_reducible apply State.takeIntake_kept
    | with_reducible apply State.ackWith_kept
    | with_reducible apply State.cond_kept
    | split
    | intro _

theorem State.answerFronts_kept {s₀ : State} {s : State} (h₀ : Kept s₀ s) :
    Kept s₀ (State.answerFronts s) := by
  refine h₀.trans ?_
  unfold State.answerFronts
  try dsimp only
  repeat' first
    | with_reducible exact .refl _
    | with_reducible apply State.answerFront_kept
    | with_reducible apply State.each_kept
    | intro _

theorem State.issue_kept {s₀ s : State} {op : Nat} {h : Hdr} {i : Nat} (h₀ : Kept s₀ s) :
    Kept s₀ (s.issue op h i).2 := by
  unfold State.issue
  dsimp only
  exact State.modDist_kept h₀

theorem State.commandLater_kept {s₀ : State} {op : Nat} {h : Hdr} {check : State → Ack} {effect : Nat → State → State} {s : State} (h_effect : ∀ a0 s, Kept s (effect a0 s)) (h₀ : Kept s₀ s) :
    Kept s₀ (State.commandLater op h check effect s) := by
  refine h₀.trans ?_
  unfold State.commandLater
  try dsimp only
  repeat' first
    | with_reducible exact .refl _
    | with_reducible apply State.answerFronts_kept
    | with_reducible apply State.takeIntake_kept
    | with_reducible apply State.ackWith_kept
    | with_reducible apply State.issue_kept
    | with_reducible refine Kept.trans ?_ (h_effect _ _)
    | split

theorem State.command_kept {s₀ : State} {op : Nat} {h : Hdr} {check : State → Ack} {effect : Nat → State → State} {s : State} (h_effect : ∀ a0 s, Kept s (effect a0 s)) (h₀ : Kept s₀ s) :
    Kept s₀ (State.command op h check effect s) := by
  refine h₀.trans ?_
  unfold State.command
  try dsimp only
  repeat' first
    | with_reducible exact .refl _
    | with_reducible apply State.commandLater_kept
    | with_reducible apply State.ackWith_kept
    | with_reducible refine Kept.trans ?_ (h_effect _ _)
    | intro _

theorem State.payAck_kept {s₀ : State} {n : Nat} {s : State} (h₀ : Kept s₀ s) :
    Kept s₀ (State.payAck n s) := by
  refine h₀.trans ?_
  unfold State.payAck
  try dsimp only
  repeat' first
    | with_reducible exact .refl _
    | with_reducible apply State.completeWith_kept
    | with_reducible apply State.ackWith_kept
    | with_reducible apply State.cond_kept
    | with_reducible apply State.modPort_kept
    | split
    | intro _

theorem State.busyAck_kept {s₀ : State} {n : Nat} {s : State} (h₀ : Kept s₀ s) :
    Kept s₀ (State.busyAck n s) := by
  refine h₀.trans ?_
  unfold State.busyAck
  try dsimp only
  repeat' first
    | with_reducible exact .refl _
    | with_reducible apply State.ackWith_kept
    | with_reducible apply State.modPort_kept
    | with_reducible apply State.modDist_kept
    | split

end Sys2Proof.Machine
end

