-- ==== Sys2Proof/Laws/KeptFilter.lean ====
section
/-! SUPPORT. What the operations of Machine/Filter.lean keep. -/

namespace Sys2Proof.Machine

theorem State.markChan_kept {s₀ : State} {c : Nat} {k : MarkKind} {code : Nat} {stop : Option Tick} {s : State} (h₀ : Kept s₀ s) :
    Kept s₀ (State.markChan c k code stop s) := by
  refine h₀.trans ?_
  unfold State.markChan
  try dsimp only
  repeat' first
    | with_reducible exact .refl _
    | with_reducible apply State.modChan_kept

theorem State.markBank_kept {s₀ : State} {b : Nat} {k : MarkKind} {code : Nat} {stop : Option Tick} {s : State} (h₀ : Kept s₀ s) :
    Kept s₀ (State.markBank b k code stop s) := by
  refine h₀.trans ?_
  unfold State.markBank
  try dsimp only
  repeat' first
    | with_reducible exact .refl _
    | with_reducible apply State.modBank_kept

end Sys2Proof.Machine
end

