-- ==== Sys2Proof/Laws/KeptSpindle.lean ====
section
/-! SUPPORT. What the operations of Machine/Spindle.lean keep. -/

namespace Sys2Proof.Machine

theorem State.placeFlyer_kept {s₀ : State} {b : Nat} {start : Option Nat} {s : State} (h₀ : Kept s₀ s) :
    Kept s₀ (State.placeFlyer b start s) := by
  refine h₀.trans ?_
  unfold State.placeFlyer
  try dsimp only
  repeat' first
    | with_reducible exact .refl _
    | with_reducible apply State.modFlyer_kept

theorem State.resumeFlyers_kept {s₀ : State} {s : State} (h₀ : Kept s₀ s) :
    Kept s₀ (State.resumeFlyers s) := by
  refine h₀.trans ?_
  unfold State.resumeFlyers
  try dsimp only
  repeat' first
    | with_reducible exact .refl _
    | with_reducible apply State.placeFlyer_kept
    | with_reducible apply State.each_kept
    | split
    | intro _

theorem State.holdFlyers_kept {s₀ : State} {s : State} (h₀ : Kept s₀ s) :
    Kept s₀ (State.holdFlyers s) := by
  refine h₀.trans ?_
  unfold State.holdFlyers
  try dsimp only
  repeat' first
    | with_reducible exact .refl _
    | with_reducible apply State.each_kept
    | with_reducible apply State.modFlyer_kept
    | split
    | intro _

theorem State.fixPlans_kept {s₀ : State} {s : State} (h₀ : Kept s₀ s) :
    Kept s₀ (State.fixPlans s) := by
  refine h₀.trans ?_
  unfold State.fixPlans
  try dsimp only
  repeat' first
    | with_reducible exact .refl _
    | with_reducible apply State.cond_kept
    | with_reducible apply State.each_kept
    | with_reducible apply State.modFlyer_kept
    | split
    | intro _

theorem State.endFrame_kept {s₀ : State} {s : State} (h₀ : Kept s₀ s) :
    Kept s₀ (State.endFrame s) := by
  refine h₀.trans ?_
  unfold State.endFrame
  try dsimp only
  repeat' first
    | with_reducible exact .refl _
    | with_reducible apply State.tally_kept
    | with_reducible apply State.cond_kept
    | intro _

theorem State.setSpindle_kept {s₀ : State} {st : SpState} {s : State} (h₀ : Kept s₀ s) :
    Kept s₀ (State.setSpindle st s) := by
  refine h₀.trans ?_
  unfold State.setSpindle
  try dsimp only
  repeat' first
    | with_reducible exact .refl _
    | with_reducible apply State.endFrame_kept
    | with_reducible apply State.cond_kept
    | with_reducible apply State.modSpindle_kept
    | intro _

theorem State.noDepth_kept {s₀ : State} {cause : Nat} {s : State} (h₀ : Kept s₀ s) :
    Kept s₀ (State.noDepth cause s) := by
  refine h₀.trans ?_
  unfold State.noDepth
  try dsimp only
  repeat' first
    | with_reducible exact .refl _
    | with_reducible apply State.event_kept
    | with_reducible apply State.each_kept
    | with_reducible apply State.modSpindle_kept
    | intro _

theorem State.timePair_kept {s₀ : State} {f : Nat} {origin : Int} {s : State} (h₀ : Kept s₀ s) :
    Kept s₀ (State.timePair f origin s) := by
  refine h₀.trans ?_
  unfold State.timePair
  try dsimp only
  repeat' first
    | with_reducible exact .refl _
    | with_reducible apply State.event_kept
    | with_reducible apply State.modSpindle_kept
    | split

theorem State.beginFrame_kept {s₀ : State} {f : Nat} {at_ : Int} {s : State} (h₀ : Kept s₀ s) :
    Kept s₀ (State.beginFrame f at_ s) := by
  refine h₀.trans ?_
  unfold State.beginFrame
  try dsimp only
  repeat' first
    | with_reducible exact .refl _
    | with_reducible apply State.timePair_kept
    | with_reducible apply State.endFrame_kept
    | with_reducible apply State.tally_kept
    | with_reducible apply State.modSpindle_kept

theorem State.gridFrame_kept {s₀ : State} {s : State} (h₀ : Kept s₀ s) :
    Kept s₀ (State.gridFrame s) := by
  refine h₀.trans ?_
  unfold State.gridFrame
  try dsimp only
  repeat' first
    | with_reducible exact .refl _
    | with_reducible apply State.beginFrame_kept
    | with_reducible apply State.modSpindle_kept
    | split

theorem State.rateFault_kept {s₀ : State} {period : Nat} {s : State} (h₀ : Kept s₀ s) :
    Kept s₀ (State.rateFault period s) := by
  refine h₀.trans ?_
  unfold State.rateFault
  try dsimp only
  repeat' first
    | with_reducible exact .refl _
    | with_reducible apply State.event_kept

theorem State.discardSeed_kept {s₀ : State} {c : Option Tick} {s : State} (h₀ : Kept s₀ s) :
    Kept s₀ (State.discardSeed c s) := by
  refine h₀.trans ?_
  unfold State.discardSeed
  try dsimp only
  repeat' first
    | with_reducible exact .refl _
    | with_reducible apply State.modSpindle_kept

theorem State.enterAcquiring_kept {s₀ : State} {s : State} (h₀ : Kept s₀ s) :
    Kept s₀ (State.enterAcquiring s) := by
  refine h₀.trans ?_
  unfold State.enterAcquiring
  try dsimp only
  repeat' first
    | with_reducible exact .refl _
    | with_reducible apply State.discardSeed_kept
    | with_reducible apply State.setSpindle_kept
    | with_reducible apply State.holdFlyers_kept
    | with_reducible apply State.payAck_kept
    | with_reducible apply State.each_kept
    | with_reducible apply State.modSpindle_kept
    | intro _

theorem State.declareLost_kept {s₀ : State} {cause : Nat} {s : State} (h₀ : Kept s₀ s) :
    Kept s₀ (State.declareLost cause s) := by
  refine h₀.trans ?_
  unfold State.declareLost
  try dsimp only
  repeat' first
    | with_reducible exact .refl _
    | with_reducible apply State.enterAcquiring_kept
    | with_reducible apply State.noDepth_kept
    | with_reducible apply State.setSpindle_kept
    | with_reducible apply State.cancel_kept
    | with_reducible apply State.event_kept
    | with_reducible apply State.setFlag_kept

theorem State.enterHoldover_kept {s₀ : State} {cause : Nat} {s : State} (h₀ : Kept s₀ s) :
    Kept s₀ (State.enterHoldover cause s) := by
  refine h₀.trans ?_
  unfold State.enterHoldover
  try dsimp only
  repeat' first
    | with_reducible exact .refl _
    | with_reducible apply State.setSpindle_kept
    | with_reducible apply State.event_kept
    | with_reducible apply State.setFlag_kept
    | with_reducible apply State.modSpindle_kept

theorem State.lock_kept {s₀ : State} {s : State} (h₀ : Kept s₀ s) :
    Kept s₀ (State.lock s) := by
  refine h₀.trans ?_
  unfold State.lock
  try dsimp only
  repeat' first
    | with_reducible exact .refl _
    | with_reducible apply State.setSpindle_kept
    | with_reducible apply State.resumeFlyers_kept
    | with_reducible apply State.tally_kept
    | with_reducible apply State.event_kept
    | with_reducible apply State.cond_kept
    | with_reducible apply State.modSpindle_kept
    | intro _

theorem State.confirm_kept {s₀ : State} {t : Tick} {both : Bool} {s : State} (h₀ : Kept s₀ s) :
    Kept s₀ (State.confirm t both s) := by
  refine h₀.trans ?_
  unfold State.confirm
  try dsimp only
  repeat' first
    | with_reducible exact .refl _
    | with_reducible apply State.modSpindle_kept

theorem State.stepPhase_kept {s₀ : State} {t : Tick} {s : State} (h₀ : Kept s₀ s) :
    Kept s₀ (State.stepPhase t s) := by
  refine h₀.trans ?_
  unfold State.stepPhase
  try dsimp only
  repeat' first
    | with_reducible exact .refl _
    | with_reducible apply State.modSpindle_kept

theorem State.strayEdge_kept {s₀ : State} {s : State} (h₀ : Kept s₀ s) :
    Kept s₀ (State.strayEdge s) := by
  refine h₀.trans ?_
  unfold State.strayEdge
  try dsimp only
  repeat' first
    | with_reducible exact .refl _
    | with_reducible apply State.declareLost_kept
    | with_reducible apply State.discardSeed_kept
    | with_reducible apply State.modSpindle_kept
    | split

theorem State.advanceLine_kept {s₀ : State} {t : Tick} {s : State} (h₀ : Kept s₀ s) :
    Kept s₀ (State.advanceLine t s) := by
  refine h₀.trans ?_
  unfold State.advanceLine
  try dsimp only
  repeat' first
    | with_reducible exact .refl _
    | with_reducible apply State.gridFrame_kept
    | with_reducible apply State.modSpindle_kept
    | split

theorem State.firstCandidate_kept {s₀ : State} {t : Tick} {s : State} (h₀ : Kept s₀ s) :
    Kept s₀ (State.firstCandidate t s) := by
  refine h₀.trans ?_
  unfold State.firstCandidate
  try dsimp only
  repeat' first
    | with_reducible exact .refl _
    | with_reducible apply State.advanceLine_kept
    | with_reducible apply State.discardSeed_kept

theorem State.acquireEdge_kept {s₀ : State} {t : Tick} {s : State} (h₀ : Kept s₀ s) :
    Kept s₀ (State.acquireEdge t s) := by
  refine h₀.trans ?_
  unfold State.acquireEdge
  try dsimp only
  repeat' first
    | with_reducible exact .refl _
    | with_reducible apply State.firstCandidate_kept
    | with_reducible apply State.advanceLine_kept
    | with_reducible apply State.strayEdge_kept
    | with_reducible apply State.confirm_kept
    | with_reducible apply State.lock_kept
    | with_reducible apply State.rateFault_kept
    | with_reducible apply State.cond_kept
    | with_reducible apply State.modSpindle_kept
    | split
    | intro _

theorem State.exitHoldover_kept {s₀ : State} {s : State} (h₀ : Kept s₀ s) :
    Kept s₀ (State.exitHoldover s) := by
  refine h₀.trans ?_
  unfold State.exitHoldover
  try dsimp only
  repeat' first
    | with_reducible exact .refl _
    | with_reducible apply State.setSpindle_kept
    | with_reducible apply State.event_kept
    | split

theorem State.followEdge_kept {s₀ : State} {t : Tick} {s : State} (h₀ : Kept s₀ s) :
    Kept s₀ (State.followEdge t s) := by
  refine h₀.trans ?_
  unfold State.followEdge
  try dsimp only
  repeat' first
    | with_reducible exact .refl _
    | with_reducible apply State.exitHoldover_kept
    | with_reducible apply State.advanceLine_kept
    | with_reducible apply State.strayEdge_kept
    | with_reducible apply State.stepPhase_kept
    | with_reducible apply State.confirm_kept
    | with_reducible apply State.enterHoldover_kept
    | with_reducible apply State.declareLost_kept
    | with_reducible apply State.rateFault_kept
    | with_reducible apply State.cond_kept
    | with_reducible apply State.modSpindle_kept
    | split
    | intro _

theorem State.trackEdge_kept {s₀ : State} {t : Tick} {s : State} (h₀ : Kept s₀ s) :
    Kept s₀ (State.trackEdge t s) := by
  refine h₀.trans ?_
  unfold State.trackEdge
  try dsimp only
  repeat' first
    | with_reducible exact .refl _
    | with_reducible apply State.followEdge_kept
    | with_reducible apply State.acquireEdge_kept
    | with_reducible apply State.fixPlans_kept
    | split

theorem State.coastOn_kept {s₀ : State} {x : Nat} {s : State} (h₀ : Kept s₀ s) :
    Kept s₀ (State.coastOn x s) := by
  refine h₀.trans ?_
  unfold State.coastOn
  try dsimp only
  repeat' first
    | with_reducible exact .refl _
    | with_reducible apply State.modSpindle_kept

theorem State.missingEdge_kept {s₀ : State} {s : State} (h₀ : Kept s₀ s) :
    Kept s₀ (State.missingEdge s) := by
  refine h₀.trans ?_
  unfold State.missingEdge
  try dsimp only
  repeat' first
    | with_reducible exact .refl _
    | with_reducible apply State.coastOn_kept
    | with_reducible apply State.advanceLine_kept
    | with_reducible apply State.enterHoldover_kept
    | with_reducible apply State.declareLost_kept
    | with_reducible apply State.discardSeed_kept
    | with_reducible apply State.fixPlans_kept
    | with_reducible apply State.cond_kept
    | with_reducible apply State.modSpindle_kept
    | split
    | intro _

theorem State.oweAck_kept {s₀ : State} {f : Nat} {s : State} (h₀ : Kept s₀ s) :
    Kept s₀ (State.oweAck f s) := by
  refine h₀.trans ?_
  unfold State.oweAck
  try dsimp only
  repeat' first
    | with_reducible exact .refl _
    | with_reducible apply State.cond_kept
    | with_reducible apply State.modSpindle_kept
    | split
    | intro _

theorem State.frameLengthEvent_kept {s₀ : State} {n : Nat} {s : State} (h₀ : Kept s₀ s) :
    Kept s₀ (State.frameLengthEvent n s) := by
  refine h₀.trans ?_
  unfold State.frameLengthEvent
  try dsimp only
  repeat' first
    | with_reducible exact .refl _
    | with_reducible apply State.cancel_kept
    | with_reducible apply State.event_kept
    | with_reducible apply State.cond_kept
    | with_reducible apply State.each_kept
    | with_reducible apply State.modFlyer_kept
    | intro _

theorem State.frameStrobe_kept {s₀ : State} {t : Tick} {s : State} (h₀ : Kept s₀ s) :
    Kept s₀ (State.frameStrobe t s) := by
  refine h₀.trans ?_
  unfold State.frameStrobe
  try dsimp only
  repeat' first
    | with_reducible exact .refl _
    | with_reducible apply State.frameLengthEvent_kept
    | with_reducible apply State.oweAck_kept
    | with_reducible apply State.fixPlans_kept
    | with_reducible apply State.cond_kept
    | with_reducible apply State.modSpindle_kept
    | split
    | intro _

theorem State.frameEdge_kept {s₀ : State} {t : Tick} {s : State} (h₀ : Kept s₀ s) :
    Kept s₀ (State.frameEdge t s) := by
  refine h₀.trans ?_
  unfold State.frameEdge
  try dsimp only
  repeat' first
    | with_reducible exact .refl _
    | with_reducible apply State.frameStrobe_kept
    | with_reducible apply State.oweAck_kept
    | with_reducible apply State.trackEdge_kept
    | split

theorem State.enterFreeRunning_kept {s₀ : State} {s : State} (h₀ : Kept s₀ s) :
    Kept s₀ (State.enterFreeRunning s) := by
  refine h₀.trans ?_
  unfold State.enterFreeRunning
  try dsimp only
  repeat' first
    | with_reducible exact .refl _
    | with_reducible apply State.setSpindle_kept
    | with_reducible apply State.endFrame_kept
    | with_reducible apply State.resumeFlyers_kept
    | with_reducible apply State.cond_kept
    | with_reducible apply State.modSpindle_kept
    | intro _

theorem State.applyTimingMode_kept {s₀ : State} {s : State} (h₀ : Kept s₀ s) :
    Kept s₀ (State.applyTimingMode s) := by
  refine h₀.trans ?_
  unfold State.applyTimingMode
  try dsimp only
  repeat' first
    | with_reducible exact .refl _
    | with_reducible apply State.enterFreeRunning_kept
    | with_reducible apply State.enterAcquiring_kept
    | with_reducible apply State.modSpindle_kept
    | split

theorem State.freeBoundary_kept {s₀ : State} {s : State} (h₀ : Kept s₀ s) :
    Kept s₀ (State.freeBoundary s) := by
  refine h₀.trans ?_
  unfold State.freeBoundary
  try dsimp only
  repeat' first
    | with_reducible exact .refl _
    | with_reducible apply State.gridFrame_kept
    | with_reducible apply State.modSpindle_kept
    | split

theorem State.lineArrives_kept {s₀ : State} {s : State} (h₀ : Kept s₀ s) :
    Kept s₀ (State.lineArrives s) := by
  refine h₀.trans ?_
  unfold State.lineArrives
  try dsimp only
  repeat' first
    | with_reducible exact .refl _
    | with_reducible apply State.freeBoundary_kept
    | with_reducible apply State.coastOn_kept
    | with_reducible apply State.declareLost_kept
    | with_reducible apply State.beginFrame_kept
    | with_reducible apply State.cond_kept
    | with_reducible apply State.modSpindle_kept
    | split
    | intro _

theorem State.setWarm_kept {s₀ : State} {on : Bool} {s : State} (h₀ : Kept s₀ s) :
    Kept s₀ (State.setWarm on s) := by
  refine h₀.trans ?_
  unfold State.setWarm
  try dsimp only
  repeat' first
    | with_reducible exact .refl _
    | with_reducible apply State.event_kept
    | with_reducible apply State.modSpindle_kept
    | split

theorem State.measureDrift_kept {s₀ : State} {ocxo : Bool} {ratio : Option Nat} {s : State} (h₀ : Kept s₀ s) :
    Kept s₀ (State.measureDrift ocxo ratio s) := by
  refine h₀.trans ?_
  unfold State.measureDrift
  try dsimp only
  repeat' first
    | with_reducible exact .refl _
    | with_reducible apply State.setWarm_kept
    | with_reducible apply State.modSpindle_kept
    | split

theorem State.setScanner_kept {s₀ : State} {n : Nat} {m : Scanner} {s : State} (h₀ : Kept s₀ s) :
    Kept s₀ (State.setScanner n m s) := by
  refine h₀.trans ?_
  unfold State.setScanner
  try dsimp only
  repeat' first
    | with_reducible exact .refl _
    | with_reducible apply State.event_kept
    | with_reducible apply State.modSpindle_kept
    | split

theorem State.updateScanner_kept {s₀ : State} {n : Nat} {s : State} (h₀ : Kept s₀ s) :
    Kept s₀ (State.updateScanner n s) := by
  refine h₀.trans ?_
  unfold State.updateScanner
  try dsimp only
  repeat' first
    | with_reducible exact .refl _
    | with_reducible apply State.setScanner_kept
    | split

theorem State.scannerCrossing_kept {s₀ : State} {n : Nat} {t : Tick} {s : State} (h₀ : Kept s₀ s) :
    Kept s₀ (State.scannerCrossing n t s) := by
  refine h₀.trans ?_
  unfold State.scannerCrossing
  try dsimp only
  repeat' first
    | with_reducible exact .refl _
    | with_reducible apply State.setScanner_kept
    | split

end Sys2Proof.Machine
end

