-- ==== Sys2Proof/Laws/KeptFrontEnd.lean ====
section
/-! SUPPORT. What the operations of Machine/FrontEnd.lean keep. -/

namespace Sys2Proof.Machine

theorem State.setRange_kept {s₀ : State} {c : Nat} {r : Nat} {s : State} (h₀ : Kept s₀ s) :
    Kept s₀ (State.setRange c r s) := by
  refine h₀.trans ?_
  unfold State.setRange
  try dsimp only
  repeat' first
    | with_reducible exact .refl _
    | with_reducible apply State.markChan_kept
    | with_reducible apply State.modChan_kept
    | split

theorem State.setInter_kept {s₀ : State} {c : Nat} {m : Store (Int × Int × Int)} {s : State} (h₀ : Kept s₀ s) :
    Kept s₀ (State.setInter c m s) := by
  refine h₀.trans ?_
  unfold State.setInter
  try dsimp only
  repeat' first
    | with_reducible exact .refl _
    | with_reducible apply State.cond_kept
    | with_reducible apply State.modChan_kept
    | intro _

theorem State.applyRanging_kept {s₀ : State} {c : Nat} {s : State} (h₀ : Kept s₀ s) :
    Kept s₀ (State.applyRanging c s) := by
  refine h₀.trans ?_
  unfold State.applyRanging
  try dsimp only
  repeat' first
    | with_reducible exact .refl _
    | with_reducible apply State.setRange_kept
    | with_reducible apply State.modChan_kept

theorem State.cardMode_kept {s₀ : State} {c : Nat} {gates : Bool} {s : State} (h₀ : Kept s₀ s) :
    Kept s₀ (State.cardMode c gates s) := by
  refine h₀.trans ?_
  unfold State.cardMode
  try dsimp only
  repeat' first
    | with_reducible exact .refl _
    | with_reducible apply State.modChan_kept

theorem State.captureGap_kept {s₀ : State} {c : Nat} {out : Bool} {s : State} (h₀ : Kept s₀ s) :
    Kept s₀ (State.captureGap c out s) := by
  refine h₀.trans ?_
  unfold State.captureGap
  try dsimp only
  repeat' first
    | with_reducible exact .refl _
    | with_reducible apply State.cond_kept
    | with_reducible apply State.each_kept
    | with_reducible apply State.modGroup_kept
    | split
    | intro _

theorem State.startBlock_kept {s₀ : State} {c : Nat} {s : State} (h₀ : Kept s₀ s) :
    Kept s₀ (State.startBlock c s) := by
  refine h₀.trans ?_
  unfold State.startBlock
  try dsimp only
  repeat' first
    | with_reducible exact .refl _
    | with_reducible apply State.modChan_kept

theorem State.enterMode_kept {s₀ : State} {c : Nat} {old : Nat} {s : State} (h₀ : Kept s₀ s) :
    Kept s₀ (State.enterMode c old s) := by
  refine h₀.trans ?_
  unfold State.enterMode
  try dsimp only
  repeat' first
    | with_reducible exact .refl _
    | with_reducible apply State.startBlock_kept
    | with_reducible apply State.captureGap_kept
    | with_reducible apply State.cardMode_kept
    | with_reducible apply State.applyRanging_kept
    | with_reducible apply State.markChan_kept
    | with_reducible apply State.modChan_kept
    | split

theorem State.dropAutomatic_kept {s₀ : State} {c : Nat} {s : State} (h₀ : Kept s₀ s) :
    Kept s₀ (State.dropAutomatic c s) := by
  refine h₀.trans ?_
  unfold State.dropAutomatic
  try dsimp only
  repeat' first
    | with_reducible exact .refl _
    | with_reducible apply State.unsay_kept
    | with_reducible apply State.modChan_kept

theorem State.applyMode_kept {s₀ : State} {c : Nat} {old : Nat} {s : State} (h₀ : Kept s₀ s) :
    Kept s₀ (State.applyMode c old s) := by
  refine h₀.trans ?_
  unfold State.applyMode
  try dsimp only
  repeat' first
    | with_reducible exact .refl _
    | with_reducible apply State.dropAutomatic_kept
    | with_reducible apply State.enterMode_kept
    | with_reducible apply State.cond_kept
    | with_reducible apply State.modChan_kept
    | split
    | intro _

theorem State.modBias_kept {s₀ : State} {b : Nat} {g : Bias → Bias} {s : State} (h₀ : Kept s₀ s) :
    Kept s₀ (State.modBias b g s) := by
  refine h₀.trans ?_
  unfold State.modBias
  try dsimp only
  repeat' first
    | with_reducible exact .refl _
    | with_reducible apply State.modBank_kept

theorem State.aimBias_kept {s₀ : State} {b : Nat} {target : Nat} {s : State} (h₀ : Kept s₀ s) :
    Kept s₀ (State.aimBias b target s) := by
  refine h₀.trans ?_
  unfold State.aimBias
  try dsimp only
  repeat' first
    | with_reducible exact .refl _
    | with_reducible apply State.modBias_kept

theorem State.startBiasChange_kept {s₀ : State} {b : Nat} {target : Nat} {s : State} (h₀ : Kept s₀ s) :
    Kept s₀ (State.startBiasChange b target s) := by
  refine h₀.trans ?_
  unfold State.startBiasChange
  try dsimp only
  repeat' first
    | with_reducible exact .refl _
    | with_reducible apply State.aimBias_kept
    | with_reducible apply State.modBias_kept
    | with_reducible apply State.markBank_kept

theorem State.retarget_kept {s₀ : State} {b : Nat} {byTerm : Bool} {s : State} (h₀ : Kept s₀ s) :
    Kept s₀ (State.retarget b byTerm s) := by
  refine h₀.trans ?_
  unfold State.retarget
  try dsimp only
  repeat' first
    | with_reducible exact .refl _
    | with_reducible apply State.startBiasChange_kept
    | with_reducible apply State.aimBias_kept
    | split

theorem State.stopGate_kept {s₀ : State} {b : Nat} {s : State} (h₀ : Kept s₀ s) :
    Kept s₀ (State.stopGate b s) := by
  refine h₀.trans ?_
  unfold State.stopGate
  try dsimp only
  repeat' first
    | with_reducible exact .refl _
    | with_reducible apply State.modBias_kept

theorem State.applyBiasEnable_kept {s₀ : State} {b : Nat} {s : State} (h₀ : Kept s₀ s) :
    Kept s₀ (State.applyBiasEnable b s) := by
  refine h₀.trans ?_
  unfold State.applyBiasEnable
  try dsimp only
  repeat' first
    | with_reducible exact .refl _
    | with_reducible apply State.stopGate_kept
    | with_reducible apply State.startBiasChange_kept
    | with_reducible apply State.modBias_kept
    | split

theorem State.stopBias_kept {s₀ : State} {s : State} (h₀ : Kept s₀ s) :
    Kept s₀ (State.stopBias s) := by
  refine h₀.trans ?_
  unfold State.stopBias
  try dsimp only
  repeat' first
    | with_reducible exact .refl _
    | with_reducible apply State.stopGate_kept
    | with_reducible apply State.setParam_kept
    | with_reducible apply State.each_kept
    | intro _

theorem State.biasSettled_kept {s₀ : State} {b : Nat} {readings : List Nat} {s : State} (h₀ : Kept s₀ s) :
    Kept s₀ (State.biasSettled b readings s) := by
  refine h₀.trans ?_
  unfold State.biasSettled
  try dsimp only
  repeat' first
    | with_reducible exact .refl _
    | with_reducible apply State.modBias_kept
    | with_reducible apply State.modBank_kept
    | split

theorem State.biasFault_kept {s₀ : State} {b : Nat} {force : Nat} {since : Tick} {s : State} (h₀ : Kept s₀ s) :
    Kept s₀ (State.biasFault b force since s) := by
  refine h₀.trans ?_
  unfold State.biasFault
  try dsimp only
  repeat' first
    | with_reducible exact .refl _
    | with_reducible apply State.stopGate_kept
    | with_reducible apply State.modBias_kept
    | with_reducible apply State.markBank_kept
    | with_reducible apply State.health_kept
    | with_reducible apply State.setParam_kept
    | split

theorem State.senseOpen_kept {s₀ : State} {b : Nat} {readings : List (Nat × Nat)} {earlier : List Int} {s : State} (h₀ : Kept s₀ s) :
    Kept s₀ (State.senseOpen b readings earlier s) := by
  refine h₀.trans ?_
  unfold State.senseOpen
  try dsimp only
  repeat' first
    | with_reducible exact .refl _
    | with_reducible apply State.startBiasChange_kept
    | with_reducible apply State.modBias_kept
    | with_reducible apply State.health_kept
    | split

theorem State.senseRestore_kept {s₀ : State} {b : Nat} {s : State} (h₀ : Kept s₀ s) :
    Kept s₀ (State.senseRestore b s) := by
  refine h₀.trans ?_
  unfold State.senseRestore
  try dsimp only
  repeat' first
    | with_reducible exact .refl _
    | with_reducible apply State.startBiasChange_kept
    | with_reducible apply State.modBias_kept

theorem State.servoTakes_kept {s₀ : State} {c : Nat} {x : Nat} {s : State} (h₀ : Kept s₀ s) :
    Kept s₀ (State.servoTakes c x s) := by
  refine h₀.trans ?_
  unfold State.servoTakes
  try dsimp only
  repeat' first
    | with_reducible exact .refl _
    | with_reducible apply State.cond_kept
    | with_reducible apply State.modChan_kept
    | intro _

theorem State.clampStart_kept {s₀ : State} {c : Nat} {servo : Nat} {s : State} (h₀ : Kept s₀ s) :
    Kept s₀ (State.clampStart c servo s) := by
  refine h₀.trans ?_
  unfold State.clampStart
  try dsimp only
  repeat' first
    | with_reducible exact .refl _
    | with_reducible apply State.servoTakes_kept
    | with_reducible apply State.setRange_kept
    | with_reducible apply State.markChan_kept
    | with_reducible apply State.count_kept
    | with_reducible apply State.modChan_kept
    | split

theorem State.clampEnd_kept {s₀ : State} {c : Nat} {s : State} (h₀ : Kept s₀ s) :
    Kept s₀ (State.clampEnd c s) := by
  refine h₀.trans ?_
  unfold State.clampEnd
  try dsimp only
  repeat' first
    | with_reducible exact .refl _
    | with_reducible apply State.modChan_kept
    | split

theorem State.clearClamp_kept {s₀ : State} {c : Nat} {s : State} (h₀ : Kept s₀ s) :
    Kept s₀ (State.clearClamp c s) := by
  refine h₀.trans ?_
  unfold State.clearClamp
  try dsimp only
  repeat' first
    | with_reducible exact .refl _
    | with_reducible apply State.modChan_kept

theorem State.nextSubBlock_kept {s₀ : State} {c : Nat} {s : State} (h₀ : Kept s₀ s) :
    Kept s₀ (State.nextSubBlock c s) := by
  refine h₀.trans ?_
  unfold State.nextSubBlock
  try dsimp only
  repeat' first
    | with_reducible exact .refl _
    | with_reducible apply State.modChan_kept

theorem State.subBlock_kept {s₀ : State} {c : Nat} {sums : List (Nat × Nat)} {samples : Nat} {invalid : Nat} {s : State} (h₀ : Kept s₀ s) :
    Kept s₀ (State.subBlock c sums samples invalid s) := by
  refine h₀.trans ?_
  unfold State.subBlock
  try dsimp only
  repeat' first
    | with_reducible exact .refl _
    | with_reducible apply State.nextSubBlock_kept
    | with_reducible apply State.markChan_kept
    | with_reducible apply State.health_kept
    | with_reducible apply State.modChan_kept
    | split

theorem State.pllUnlock_kept {s₀ : State} {s : State} (h₀ : Kept s₀ s) :
    Kept s₀ (State.pllUnlock s) := by
  refine h₀.trans ?_
  unfold State.pllUnlock
  try dsimp only
  repeat' first
    | with_reducible exact .refl _
    | with_reducible apply State.health_kept
    | with_reducible apply State.modMarks_kept
    | with_reducible apply State.modPllLocked_kept
    | split

theorem State.pllRelock_kept {s₀ : State} {s : State} (h₀ : Kept s₀ s) :
    Kept s₀ (State.pllRelock s) := by
  refine h₀.trans ?_
  unfold State.pllRelock
  try dsimp only
  repeat' first
    | with_reducible exact .refl _
    | with_reducible apply State.health_kept
    | with_reducible apply State.modMarks_kept
    | with_reducible apply State.modPllLocked_kept
    | split

theorem State.trackBlock_kept {s₀ : State} {c : Nat} {counts : List Nat} {means : List Int} {squares : List Int} {s : State} (h₀ : Kept s₀ s) :
    Kept s₀ (State.trackBlock c counts means squares s) := by
  refine h₀.trans ?_
  unfold State.trackBlock
  try dsimp only
  repeat' first
    | with_reducible exact .refl _
    | with_reducible apply State.startBlock_kept
    | with_reducible apply State.setInter_kept
    | with_reducible apply State.modChan_kept
    | split

end Sys2Proof.Machine
end

