-- ==== Sys2Proof/Laws/KeptHousekeeping.lean ====
section
/-! SUPPORT. What the operations of Machine/Housekeeping.lean keep. -/

namespace Sys2Proof.Machine

theorem State.unsettle_kept {s₀ : State} {s : State} (h₀ : Kept s₀ s) :
    Kept s₀ (State.unsettle s) := by
  refine h₀.trans ?_
  unfold State.unsettle
  try dsimp only
  repeat' first
    | with_reducible exact .refl _
    | with_reducible apply State.modHk_kept

theorem State.referenceChanged_kept {s₀ : State} {s : State} (h₀ : Kept s₀ s) :
    Kept s₀ (State.referenceChanged s) := by
  refine h₀.trans ?_
  unfold State.referenceChanged
  try dsimp only
  repeat' first
    | with_reducible exact .refl _
    | with_reducible apply State.unsettle_kept
    | with_reducible apply State.modHk_kept

theorem State.startHk_kept {s₀ : State} {s : State} (h₀ : Kept s₀ s) :
    Kept s₀ (State.startHk s) := by
  refine h₀.trans ?_
  unfold State.startHk
  try dsimp only
  repeat' first
    | with_reducible exact .refl _
    | with_reducible apply State.unsettle_kept
    | with_reducible apply State.modHk_kept
    | split

theorem State.stopHk_kept {s₀ : State} {s : State} (h₀ : Kept s₀ s) :
    Kept s₀ (State.stopHk s) := by
  refine h₀.trans ?_
  unfold State.stopHk
  try dsimp only
  repeat' first
    | with_reducible exact .refl _
    | with_reducible apply State.modHk_kept

theorem State.hkrefIs_kept {s₀ : State} {mv : Nat} {s : State} (h₀ : Kept s₀ s) :
    Kept s₀ (State.hkrefIs mv s) := by
  refine h₀.trans ?_
  unfold State.hkrefIs
  try dsimp only
  repeat' first
    | with_reducible exact .refl _
    | with_reducible apply State.unsettle_kept
    | with_reducible apply State.cond_kept
    | with_reducible apply State.modHk_kept
    | intro _

theorem State.referenceSettled_kept {s₀ : State} {s : State} (h₀ : Kept s₀ s) :
    Kept s₀ (State.referenceSettled s) := by
  refine h₀.trans ?_
  unfold State.referenceSettled
  try dsimp only
  repeat' first
    | with_reducible exact .refl _
    | with_reducible apply State.cond_kept
    | with_reducible apply State.modHk_kept
    | intro _

theorem State.startConv_kept {s₀ : State} {input : Nat} {slot : Nat} {source : Nat} {handle : Nat} {s : State} (h₀ : Kept s₀ s) :
    Kept s₀ (State.startConv input slot source handle s) := by
  refine h₀.trans ?_
  unfold State.startConv
  try dsimp only
  repeat' first
    | with_reducible exact .refl _
    | with_reducible apply State.modHk_kept

theorem State.hkSlot_kept {s₀ : State} {i : Nat} {s : State} (h₀ : Kept s₀ s) :
    Kept s₀ (State.hkSlot i s) := by
  refine h₀.trans ?_
  unfold State.hkSlot
  try dsimp only
  repeat' first
    | with_reducible exact .refl _
    | with_reducible apply State.startConv_kept
    | with_reducible apply State.modHk_kept
    | split

theorem State.refuseStart_kept {s₀ : State} {s : State} (h₀ : Kept s₀ s) :
    Kept s₀ (State.refuseStart s) := by
  refine h₀.trans ?_
  unfold State.refuseStart
  try dsimp only
  repeat' first
    | with_reducible exact .refl _
    | with_reducible apply State.modHk_kept

theorem State.startTimer_kept {s₀ : State} {s : State} (h₀ : Kept s₀ s) :
    Kept s₀ (State.startTimer s) := by
  refine h₀.trans ?_
  unfold State.startTimer
  try dsimp only
  repeat' first
    | with_reducible exact .refl _
    | with_reducible apply State.modHk_kept

theorem State.hkTimerEvent_kept {s₀ : State} {s : State} (h₀ : Kept s₀ s) :
    Kept s₀ (State.hkTimerEvent s) := by
  refine h₀.trans ?_
  unfold State.hkTimerEvent
  try dsimp only
  repeat' first
    | with_reducible exact .refl _
    | with_reducible apply State.startTimer_kept
    | with_reducible apply State.refuseStart_kept
    | with_reducible apply State.modHk_kept
    | split

theorem State.hktrigPulse_kept {s₀ : State} {high : Bool} {width : Nat} {s : State} (h₀ : Kept s₀ s) :
    Kept s₀ (State.hktrigPulse high width s) := by
  refine h₀.trans ?_
  unfold State.hktrigPulse
  try dsimp only
  repeat' first
    | with_reducible exact .refl _
    | with_reducible apply State.refuseStart_kept
    | with_reducible apply State.modHk_kept
    | split

theorem State.hkRunStart_kept {s₀ : State} {pulse : Bool} {s : State} (h₀ : Kept s₀ s) :
    Kept s₀ (State.hkRunStart pulse s) := by
  refine h₀.trans ?_
  unfold State.hkRunStart
  try dsimp only
  repeat' first
    | with_reducible exact .refl _
    | with_reducible apply State.refuseStart_kept
    | with_reducible apply State.hkSlot_kept
    | with_reducible apply State.modHk_kept
    | split

theorem State.injectNow_kept {s₀ : State} {input : Nat} {source : Nat} {handle : Nat} {s : State} (h₀ : Kept s₀ s) :
    Kept s₀ (State.injectNow input source handle s) := by
  refine h₀.trans ?_
  unfold State.injectNow
  try dsimp only
  repeat' first
    | with_reducible exact .refl _
    | with_reducible apply State.startConv_kept
    | with_reducible apply State.modHk_kept

theorem State.hkPush_kept {s₀ : State} {entry : List Byte} {s : State} (h₀ : Kept s₀ s) :
    Kept s₀ (State.hkPush entry s) := by
  refine h₀.trans ?_
  unfold State.hkPush
  try dsimp only
  repeat' first
    | with_reducible exact .refl _
    | with_reducible apply State.modHk_kept

theorem State.hkTerm_kept {s₀ : State} {input : Nat} {code : Nat} {s : State} (h₀ : Kept s₀ s) :
    Kept s₀ (State.hkTerm input code s) := by
  refine h₀.trans ?_
  unfold State.hkTerm
  try dsimp only
  repeat' first
    | with_reducible exact .refl _
    | with_reducible apply State.retarget_kept
    | with_reducible apply State.modBias_kept
    | with_reducible apply State.each_kept
    | split
    | intro _

theorem State.hkDone_kept {s₀ : State} {code : Nat} {outside : Option Bool} {s : State} (h₀ : Kept s₀ s) :
    Kept s₀ (State.hkDone code outside s) := by
  refine h₀.trans ?_
  unfold State.hkDone
  try dsimp only
  repeat' first
    | with_reducible exact .refl _
    | with_reducible apply State.hkTerm_kept
    | with_reducible apply State.hkPush_kept
    | with_reducible apply State.hkSlot_kept
    | with_reducible apply State.succeed_kept
    | with_reducible apply State.cond_kept
    | with_reducible apply State.modHk_kept
    | split
    | intro _

end Sys2Proof.Machine
end

