-- ==== Sys2Proof/Laws/KeptTriggers.lean ====
section
/-! SUPPORT. What the operations of Machine/Triggers.lean keep. -/

namespace Sys2Proof.Machine

theorem State.modCmp_kept {s₀ : State} {c : Nat} {k : Nat} {g : Cmp → Cmp} {s : State} (h₀ : Kept s₀ s) :
    Kept s₀ (State.modCmp c k g s) := by
  refine h₀.trans ?_
  unfold State.modCmp
  try dsimp only
  repeat' first
    | with_reducible exact .refl _
    | with_reducible apply State.modChan_kept

theorem State.bankTrigger_kept {s₀ : State} {b : Nat} {c : Nat} {x : Tick} {s : State} (h₀ : Kept s₀ s) :
    Kept s₀ (State.bankTrigger b c x s) := by
  refine h₀.trans ?_
  unfold State.bankTrigger
  try dsimp only
  repeat' first
    | with_reducible exact .refl _
    | with_reducible apply State.cond_kept
    | with_reducible apply State.each_kept
    | with_reducible apply State.modGroup_kept
    | intro _

theorem State.combine_kept {s₀ : State} {c : Nat} {x : Tick} {s : State} (h₀ : Kept s₀ s) :
    Kept s₀ (State.combine c x s) := by
  refine h₀.trans ?_
  unfold State.combine
  try dsimp only
  repeat' first
    | with_reducible exact .refl _
    | with_reducible apply State.bankTrigger_kept
    | with_reducible apply State.cond_kept
    | with_reducible apply State.modBank_kept
    | split
    | intro _

theorem State.combineBank_kept {s₀ : State} {b : Nat} {s : State} (h₀ : Kept s₀ s) :
    Kept s₀ (State.combineBank b s) := by
  refine h₀.trans ?_
  unfold State.combineBank
  try dsimp only
  repeat' first
    | with_reducible exact .refl _
    | with_reducible apply State.combine_kept
    | with_reducible apply State.each_kept
    | with_reducible apply State.modBank_kept
    | intro _

theorem State.unitTrigger_kept {s₀ : State} {c : Nat} {x : Tick} {v : Nat} {s : State} (h₀ : Kept s₀ s) :
    Kept s₀ (State.unitTrigger c x v s) := by
  refine h₀.trans ?_
  unfold State.unitTrigger
  try dsimp only
  repeat' first
    | with_reducible exact .refl _
    | with_reducible apply State.count_kept
    | with_reducible apply State.modBank_kept
    | split

theorem State.trigLeading_kept {s₀ : State} {c : Nat} {k : Nat} {lead : Tick} {v : Nat} {s : State} (h₀ : Kept s₀ s) :
    Kept s₀ (State.trigLeading c k lead v s) := by
  refine h₀.trans ?_
  unfold State.trigLeading
  try dsimp only
  repeat' first
    | with_reducible exact .refl _
    | with_reducible apply State.unitTrigger_kept
    | with_reducible apply State.modCmp_kept
    | with_reducible apply State.cond_kept
    | with_reducible apply State.modChan_kept
    | split
    | intro _

theorem State.trigClose_kept {s₀ : State} {c : Nat} {k : Nat} {z : Cmp} {trail : Tick} {v : Nat} {s : State} (h₀ : Kept s₀ s) :
    Kept s₀ (State.trigClose c k z trail v s) := by
  refine h₀.trans ?_
  unfold State.trigClose
  try dsimp only
  repeat' first
    | with_reducible exact .refl _
    | with_reducible apply State.unitTrigger_kept
    | with_reducible apply State.cond_kept
    | intro _

theorem State.quietTimeout_kept {s₀ : State} {c : Nat} {s : State} (h₀ : Kept s₀ s) :
    Kept s₀ (State.quietTimeout c s) := by
  refine h₀.trans ?_
  unfold State.quietTimeout
  try dsimp only
  repeat' first
    | with_reducible exact .refl _
    | with_reducible apply State.unitTrigger_kept
    | with_reducible apply State.modChan_kept
    | split

theorem State.heldTimeout_kept {s₀ : State} {c : Nat} {s : State} (h₀ : Kept s₀ s) :
    Kept s₀ (State.heldTimeout c s) := by
  refine h₀.trans ?_
  unfold State.heldTimeout
  try dsimp only
  repeat' first
    | with_reducible exact .refl _
    | with_reducible apply State.unitTrigger_kept
    | with_reducible apply State.modChan_kept
    | split

theorem State.trigApplied_kept {s₀ : State} {c : Nat} {s : State} (h₀ : Kept s₀ s) :
    Kept s₀ (State.trigApplied c s) := by
  refine h₀.trans ?_
  unfold State.trigApplied
  try dsimp only
  repeat' first
    | with_reducible exact .refl _
    | with_reducible apply State.modChan_kept

end Sys2Proof.Machine
end

