-- ==== Sys2Proof/Laws/KeptDetect.lean ====
section
/-! SUPPORT. What the operations of Machine/Detect.lean keep. -/

namespace Sys2Proof.Machine

theorem State.leading_kept {s₀ : State} {c : Nat} {k : Nat} {raw : List Nat} {s : State} (h₀ : Kept s₀ s) :
    Kept s₀ (State.leading c k raw s) := by
  refine h₀.trans ?_
  unfold State.leading
  try dsimp only
  repeat' first
    | with_reducible exact .refl _
    | with_reducible apply State.trigLeading_kept
    | with_reducible apply State.modCmp_kept
    | with_reducible apply State.count_kept
    | split

theorem State.storeEvent_kept {s₀ : State} {c : Nat} {e : Event} {s : State} (h₀ : Kept s₀ s) :
    Kept s₀ (State.storeEvent c e s) := by
  refine h₀.trans ?_
  unfold State.storeEvent
  try dsimp only
  repeat' first
    | with_reducible exact .refl _
    | with_reducible apply State.count_kept
    | with_reducible apply State.modChan_kept
    | split

theorem State.closeEvent_kept {s₀ : State} {c : Nat} {k : Nat} {raw : List Nat} {trail : Tick} {stop : Tick} {truncated : Bool} {s : State} (h₀ : Kept s₀ s) :
    Kept s₀ (State.closeEvent c k raw trail stop truncated s) := by
  refine h₀.trans ?_
  unfold State.closeEvent
  try dsimp only
  repeat' first
    | with_reducible exact .refl _
    | with_reducible apply State.storeEvent_kept
    | with_reducible apply State.trigClose_kept
    | with_reducible apply State.modCmp_kept
    | with_reducible apply State.cond_kept
    | intro _

theorem State.trailing_kept {s₀ : State} {c : Nat} {k : Nat} {raw : List Nat} {s : State} (h₀ : Kept s₀ s) :
    Kept s₀ (State.trailing c k raw s) := by
  refine h₀.trans ?_
  unfold State.trailing
  try dsimp only
  repeat' first
    | with_reducible exact .refl _
    | with_reducible apply State.closeEvent_kept
    | with_reducible apply State.modCmp_kept
    | with_reducible apply State.cond_kept
    | split
    | intro _

theorem State.truncateEvent_kept {s₀ : State} {c : Nat} {k : Nat} {raw : List Nat} {s : State} (h₀ : Kept s₀ s) :
    Kept s₀ (State.truncateEvent c k raw s) := by
  refine h₀.trans ?_
  unfold State.truncateEvent
  try dsimp only
  repeat' first
    | with_reducible exact .refl _
    | with_reducible apply State.closeEvent_kept
    | split

theorem State.cutReading_kept {s₀ : State} {c : Nat} {gate : Nat} {decay : Nat} {s : State} (h₀ : Kept s₀ s) :
    Kept s₀ (State.cutReading c gate decay s) := by
  refine h₀.trans ?_
  unfold State.cutReading
  try dsimp only
  repeat' first
    | with_reducible exact .refl _
    | with_reducible apply State.cond_kept
    | with_reducible apply State.modChan_kept
    | intro _

end Sys2Proof.Machine
end

