-- ==== Sys2Proof/Laws/KeptStats.lean ====
section
/-! SUPPORT. What the operations of Machine/Stats.lean keep. -/

namespace Sys2Proof.Machine

theorem State.countFlight_kept {s₀ : State} {c : Nat} {f : Flight} {s : State} (h₀ : Kept s₀ s) :
    Kept s₀ (State.countFlight c f s) := by
  refine h₀.trans ?_
  unfold State.countFlight
  try dsimp only
  repeat' first
    | with_reducible exact .refl _
    | with_reducible apply State.cond_kept
    | with_reducible apply State.count_kept
    | split
    | intro _

theorem State.endRun_kept {s₀ : State} {r : StatRun} {timeout : Bool} {s : State} (h₀ : Kept s₀ s) :
    Kept s₀ (State.endRun r timeout s) := by
  refine h₀.trans ?_
  unfold State.endRun
  try dsimp only
  repeat' first
    | with_reducible exact .refl _
    | with_reducible apply State.succeed_kept
    | with_reducible apply State.modRuns_kept

theorem State.eachRun_kept {s₀ : State} {g : StatRun → StatRun} {s : State} (h₀ : Kept s₀ s) :
    Kept s₀ (State.eachRun g s) := by
  refine h₀.trans ?_
  unfold State.eachRun
  try dsimp only
  repeat' first
    | with_reducible exact .refl _
    | with_reducible apply State.endRun_kept
    | with_reducible apply State.each_kept
    | with_reducible apply State.modRuns_kept
    | intro _

theorem State.statEvent_kept {s₀ : State} {src : Source} {x : Tick} {s : State} (h₀ : Kept s₀ s) :
    Kept s₀ (State.statEvent src x s) := by
  refine h₀.trans ?_
  unfold State.statEvent
  try dsimp only
  repeat' first
    | with_reducible exact .refl _
    | with_reducible apply State.eachRun_kept

theorem State.statLoss_kept {s₀ : State} {c : Nat} {s : State} (h₀ : Kept s₀ s) :
    Kept s₀ (State.statLoss c s) := by
  refine h₀.trans ?_
  unfold State.statLoss
  try dsimp only
  repeat' first
    | with_reducible exact .refl _
    | with_reducible apply State.modRuns_kept

theorem State.formed_kept {s₀ : State} {r : Ret} {s : State} (h₀ : Kept s₀ s) :
    Kept s₀ (State.formed r s) := by
  refine h₀.trans ?_
  unfold State.formed
  try dsimp only
  repeat' first
    | with_reducible exact .refl _
    | with_reducible apply State.eachRun_kept
    | with_reducible apply State.cond_kept
    | with_reducible apply State.count_kept
    | intro _

theorem State.intervalTimeout_kept {s₀ : State} {i : Nat} {s : State} (h₀ : Kept s₀ s) :
    Kept s₀ (State.intervalTimeout i s) := by
  refine h₀.trans ?_
  unfold State.intervalTimeout
  try dsimp only
  repeat' first
    | with_reducible exact .refl _
    | with_reducible apply State.modRuns_kept

theorem State.runTimeout_kept {s₀ : State} {i : Nat} {s : State} (h₀ : Kept s₀ s) :
    Kept s₀ (State.runTimeout i s) := by
  refine h₀.trans ?_
  unfold State.runTimeout
  try dsimp only
  repeat' first
    | with_reducible exact .refl _
    | with_reducible apply State.endRun_kept
    | split

theorem State.freqDone_kept {s₀ : State} {i : Nat} {g : FreqGate} {m : Nat} {d : Tick} {s : State} (h₀ : Kept s₀ s) :
    Kept s₀ (State.freqDone i g m d s) := by
  refine h₀.trans ?_
  unfold State.freqDone
  try dsimp only
  repeat' first
    | with_reducible exact .refl _
    | with_reducible apply State.completeWith_kept
    | with_reducible apply State.modAux_kept

theorem State.freqNone_kept {s₀ : State} {i : Nat} {g : FreqGate} {s : State} (h₀ : Kept s₀ s) :
    Kept s₀ (State.freqNone i g s) := by
  refine h₀.trans ?_
  unfold State.freqNone
  try dsimp only
  repeat' first
    | with_reducible exact .refl _
    | with_reducible apply State.completeWith_kept
    | with_reducible apply State.modAux_kept

theorem State.openDrift_kept {s₀ : State} {i : Nat} {x : Tick} {first : Option Tick} {s : State} (h₀ : Kept s₀ s) :
    Kept s₀ (State.openDrift i x first s) := by
  refine h₀.trans ?_
  unfold State.openDrift
  try dsimp only
  repeat' first
    | with_reducible exact .refl _
    | with_reducible apply State.modAux_kept

theorem State.driftEdge_kept {s₀ : State} {i : Nat} {x : Tick} {s : State} (h₀ : Kept s₀ s) :
    Kept s₀ (State.driftEdge i x s) := by
  refine h₀.trans ?_
  unfold State.driftEdge
  try dsimp only
  repeat' first
    | with_reducible exact .refl _
    | with_reducible apply State.openDrift_kept
    | with_reducible apply State.modAux_kept
    | split

theorem State.auxCounted_kept {s₀ : State} {i : Nat} {x : Tick} {s : State} (h₀ : Kept s₀ s) :
    Kept s₀ (State.auxCounted i x s) := by
  refine h₀.trans ?_
  unfold State.auxCounted
  try dsimp only
  repeat' first
    | with_reducible exact .refl _
    | with_reducible apply State.driftEdge_kept
    | with_reducible apply State.freqNone_kept
    | with_reducible apply State.freqDone_kept
    | with_reducible apply State.statEvent_kept
    | with_reducible apply State.modAux_kept
    | split

theorem State.auxEdge_kept {s₀ : State} {i : Nat} {s : State} (h₀ : Kept s₀ s) :
    Kept s₀ (State.auxEdge i s) := by
  refine h₀.trans ?_
  unfold State.auxEdge
  try dsimp only
  repeat' first
    | with_reducible exact .refl _
    | with_reducible apply State.auxCounted_kept
    | with_reducible apply State.modAux_kept
    | split

theorem State.gateEnd_kept {s₀ : State} {i : Nat} {s : State} (h₀ : Kept s₀ s) :
    Kept s₀ (State.gateEnd i s) := by
  refine h₀.trans ?_
  unfold State.gateEnd
  try dsimp only
  repeat' first
    | with_reducible exact .refl _
    | with_reducible apply State.freqNone_kept
    | split

theorem State.takeDrift_kept {s₀ : State} {ocxo : Bool} {strobe : Option Nat} {s : State} (h₀ : Kept s₀ s) :
    Kept s₀ (State.takeDrift ocxo strobe s) := by
  refine h₀.trans ?_
  unfold State.takeDrift
  try dsimp only
  repeat' first
    | with_reducible exact .refl _
    | with_reducible apply State.openDrift_kept
    | with_reducible apply State.measureDrift_kept
    | with_reducible apply State.cond_kept
    | with_reducible apply State.modAux_kept
    | with_reducible apply State.modSpindle_kept
    | split
    | intro _

theorem State.driftChosen_kept {s₀ : State} {s : State} (h₀ : Kept s₀ s) :
    Kept s₀ (State.driftChosen s) := by
  refine h₀.trans ?_
  unfold State.driftChosen
  try dsimp only
  repeat' first
    | with_reducible exact .refl _
    | with_reducible apply State.openDrift_kept
    | with_reducible apply State.modAux_kept
    | split

theorem State.prescalerApplied_kept {s₀ : State} {i : Nat} {s : State} (h₀ : Kept s₀ s) :
    Kept s₀ (State.prescalerApplied i s) := by
  refine h₀.trans ?_
  unfold State.prescalerApplied
  try dsimp only
  repeat' first
    | with_reducible exact .refl _
    | with_reducible apply State.modAux_kept

end Sys2Proof.Machine
end

