-- ==== Sys2Proof/Laws/KeptClasses.lean ====
section
/-! SUPPORT. What the operations of Machine/Classes.lean keep. -/

namespace Sys2Proof.Machine

theorem State.modCard_kept {s₀ : State} {c : Nat} {g : Carding → Carding} {s : State} (h₀ : Kept s₀ s) :
    Kept s₀ (State.modCard c g s) := by
  refine h₀.trans ?_
  unfold State.modCard
  try dsimp only
  repeat' first
    | with_reducible exact .refl _
    | with_reducible apply State.modChan_kept

theorem State.cohEntry_kept {s₀ : State} {c : Nat} {element : Nat} {tofs : List Nat} {s : State} (h₀ : Kept s₀ s) :
    Kept s₀ (State.cohEntry c element tofs s) := by
  refine h₀.trans ?_
  unfold State.cohEntry
  try dsimp only
  repeat' first
    | with_reducible exact .refl _
    | with_reducible apply State.modCard_kept

theorem State.cohClear_kept {s₀ : State} {c : Nat} {interval : Bool} {s : State} (h₀ : Kept s₀ s) :
    Kept s₀ (State.cohClear c interval s) := by
  refine h₀.trans ?_
  unfold State.cohClear
  try dsimp only
  repeat' first
    | with_reducible exact .refl _
    | with_reducible apply State.modCard_kept

theorem State.receive_kept {s₀ : State} {r : Ret} {s : State} (h₀ : Kept s₀ s) :
    Kept s₀ (State.receive r s) := by
  refine h₀.trans ?_
  unfold State.receive
  try dsimp only
  repeat' first
    | with_reducible exact .refl _
    | with_reducible apply State.modCard_kept

theorem State.assess_kept {s₀ : State} {c : Nat} {edge : Tick} {s : State} (h₀ : Kept s₀ s) :
    Kept s₀ (State.assess c edge s) := by
  refine h₀.trans ?_
  unfold State.assess
  try dsimp only
  repeat' first
    | with_reducible exact .refl _
    | with_reducible apply State.modCard_kept
    | with_reducible apply State.health_kept
    | with_reducible apply State.count_kept
    | split

theorem State.interferenceStep_kept {s₀ : State} {c : Nat} {s : State} (h₀ : Kept s₀ s) :
    Kept s₀ (State.interferenceStep c s) := by
  refine h₀.trans ?_
  unfold State.interferenceStep
  try dsimp only
  repeat' first
    | with_reducible exact .refl _
    | with_reducible apply State.assess_kept
    | with_reducible apply State.modCard_kept
    | split

theorem State.unmatched_kept {s₀ : State} {c : Nat} {stops : List Int} {s : State} (h₀ : Kept s₀ s) :
    Kept s₀ (State.unmatched c stops s) := by
  refine h₀.trans ?_
  unfold State.unmatched
  try dsimp only
  repeat' first
    | with_reducible exact .refl _
    | with_reducible apply State.assess_kept
    | with_reducible apply State.modCard_kept
    | with_reducible apply State.cond_kept
    | with_reducible apply State.count_kept
    | intro _

end Sys2Proof.Machine
end

