-- ==== Sys2Proof/Laws/KeptPly.lean ====
section
/-! SUPPORT. What the operations of Machine/Ply.lean keep. -/

namespace Sys2Proof.Machine

theorem State.keepHyp_kept {s₀ : State} {c : Nat} {h : Hyp} {amb : Bool} {s : State} (h₀ : Kept s₀ s) :
    Kept s₀ (State.keepHyp c h amb s) := by
  refine h₀.trans ?_
  unfold State.keepHyp
  try dsimp only
  repeat' first
    | with_reducible exact .refl _
    | with_reducible apply State.countFlight_kept
    | with_reducible apply State.modChan_kept
    | split

/-- A fold over a pair whose second part is kept at every element. -/
theorem foldl_snd_kept {α β : Type} {s₀ : State} (f : β × State → α → β × State) (k : ∀ x a, Kept x.2 (f x a).2)
    (l : List α) (x : β × State) (h : Kept s₀ x.2) : Kept s₀ (l.foldl f x).2 := by
  induction l generalizing x with
  | nil => exact h
  | cons a l ih => exact ih _ (h.trans (k x a))

theorem State.resolve_kept {s₀ : State} {c : Nat} {cl : List Hyp} {s : State} (h₀ : Kept s₀ s) :
    Kept s₀ (State.resolve c cl s) := by
  unfold State.resolve
  dsimp only
  apply State.modChan_kept
  refine foldl_snd_kept _ (fun x a => ?_) _ _ h₀
  split
  · exact State.count_kept (.refl _)
  · exact State.keepHyp_kept (.refl _)

theorem State.calReturn_kept {s₀ : State} {e : Entry} {r : Ret} {s : State} (h₀ : Kept s₀ s) :
    Kept s₀ (State.calReturn e r s) := by
  refine h₀.trans ?_
  unfold State.calReturn
  try dsimp only
  repeat' first
    | with_reducible exact .refl _
    | with_reducible apply State.cond_kept
    | with_reducible apply State.modCal_kept
    | intro _

theorem State.passReturn_kept {s₀ : State} {c : Nat} {i : Nat} {r : Ret} {s : State} (h₀ : Kept s₀ s) :
    Kept s₀ (State.passReturn c i r s) := by
  refine h₀.trans ?_
  unfold State.passReturn
  try dsimp only
  repeat' first
    | with_reducible exact .refl _
    | with_reducible apply State.calReturn_kept
    | with_reducible apply State.receive_kept
    | with_reducible apply State.formed_kept
    | with_reducible apply State.count_kept
    | with_reducible apply State.modChan_kept
    | split

theorem State.passSlot_kept {s₀ : State} {c : Nat} {i : Nat} {least : Option Int} {s : State} (h₀ : Kept s₀ s) :
    Kept s₀ (State.passSlot c i least s) := by
  refine h₀.trans ?_
  unfold State.passSlot
  try dsimp only
  repeat' first
    | with_reducible exact .refl _
    | with_reducible apply State.passReturn_kept
    | with_reducible apply State.each_kept
    | with_reducible apply State.modChan_kept
    | intro _

theorem State.passReturns_kept {s₀ : State} {c : Nat} {s : State} (h₀ : Kept s₀ s) :
    Kept s₀ (State.passReturns c s) := by
  refine h₀.trans ?_
  unfold State.passReturns
  try dsimp only
  repeat' first
    | with_reducible exact .refl _
    | with_reducible apply State.passSlot_kept
    | with_reducible apply State.each_kept
    | intro _

theorem State.resolveClusters_kept {s₀ : State} {c : Nat} {pick : List Hyp → Bool} {s : State} (h₀ : Kept s₀ s) :
    Kept s₀ (State.resolveClusters c pick s) := by
  refine h₀.trans ?_
  unfold State.resolveClusters
  try dsimp only
  repeat' first
    | with_reducible exact .refl _
    | with_reducible apply State.passReturns_kept
    | with_reducible apply State.resolve_kept
    | with_reducible apply State.each_kept
    | intro _

theorem State.clusterResolution_kept {s₀ : State} {c : Nat} {s : State} (h₀ : Kept s₀ s) :
    Kept s₀ (State.clusterResolution c s) := by
  refine h₀.trans ?_
  unfold State.clusterResolution
  try dsimp only
  repeat' first
    | with_reducible exact .refl _
    | with_reducible apply State.resolveClusters_kept

theorem State.openSlot_kept {s₀ : State} {i : Nat} {c : Nat} {closeAt : Tick} {firstShot : Bool} {s : State} (h₀ : Kept s₀ s) :
    Kept s₀ (State.openSlot i c closeAt firstShot s) := by
  refine h₀.trans ?_
  unfold State.openSlot
  try dsimp only
  repeat' first
    | with_reducible exact .refl _
    | with_reducible apply State.modChan_kept

theorem State.offerPulse_kept {s₀ : State} {c : Nat} {p : Pulse} {blocked : List Nat} {s : State} (h₀ : Kept s₀ s) :
    Kept s₀ (State.offerPulse c p blocked s) := by
  refine h₀.trans ?_
  unfold State.offerPulse
  try dsimp only
  repeat' first
    | with_reducible exact .refl _
    | with_reducible apply State.unmatched_kept
    | with_reducible apply State.cond_kept
    | with_reducible apply State.count_kept
    | with_reducible apply State.modChan_kept
    | split
    | intro _

theorem State.settleSlot_kept {s₀ : State} {i : Nat} {c : Nat} {s : State} (h₀ : Kept s₀ s) :
    Kept s₀ (State.settleSlot i c s) := by
  refine h₀.trans ?_
  unfold State.settleSlot
  try dsimp only
  repeat' first
    | with_reducible exact .refl _
    | with_reducible apply State.resolveClusters_kept
    | with_reducible apply State.passSlot_kept

theorem State.closeSlot_kept {s₀ : State} {i : Nat} {c : Nat} {s : State} (h₀ : Kept s₀ s) :
    Kept s₀ (State.closeSlot i c s) := by
  refine h₀.trans ?_
  unfold State.closeSlot
  try dsimp only
  repeat' first
    | with_reducible exact .refl _
    | with_reducible apply State.unmatched_kept
    | with_reducible apply State.modChan_kept

end Sys2Proof.Machine
end

