-- ==== Sys2Proof/Laws/KeptTiming.lean ====
section
/-! SUPPORT. What the operations of Machine/Timing.lean keep. -/

namespace Sys2Proof.Machine

theorem State.crossing_kept {s₀ : State} {c : Nat} {tot : Nat} {s : State} (h₀ : Kept s₀ s) :
    Kept s₀ (State.crossing c tot s) := by
  refine h₀.trans ?_
  unfold State.crossing
  try dsimp only
  repeat' first
    | with_reducible exact .refl _
    | with_reducible apply State.statLoss_kept
    | with_reducible apply State.statEvent_kept
    | with_reducible apply State.count_kept
    | with_reducible apply State.modChan_kept
    | split

theorem State.pickArrive_kept {s₀ : State} {c : Nat} {x : Int} {v : Nat} {s : State} (h₀ : Kept s₀ s) :
    Kept s₀ (State.pickArrive c x v s) := by
  refine h₀.trans ?_
  unfold State.pickArrive
  try dsimp only
  repeat' first
    | with_reducible exact .refl _
    | with_reducible apply State.count_kept
    | with_reducible apply State.modChan_kept
    | split

theorem State.startKnown_kept {s₀ : State} {i : Nat} {s : State} (h₀ : Kept s₀ s) :
    Kept s₀ (State.startKnown i s) := by
  refine h₀.trans ?_
  unfold State.startKnown
  try dsimp only
  repeat' first
    | with_reducible exact .refl _
    | with_reducible apply State.each_kept
    | with_reducible apply State.modChan_kept
    | intro _

theorem State.decidePickoff_kept {s₀ : State} {i : Nat} {s : State} (h₀ : Kept s₀ s) :
    Kept s₀ (State.decidePickoff i s) := by
  refine h₀.trans ?_
  unfold State.decidePickoff
  try dsimp only
  repeat' first
    | with_reducible exact .refl _
    | with_reducible apply State.startKnown_kept
    | with_reducible apply State.count_kept
    | with_reducible apply State.modChan_kept
    | with_reducible apply State.modEntry_kept
    | split

theorem State.stampAlone_kept {s₀ : State} {c : Nat} {z : Stamp} {s : State} (h₀ : Kept s₀ s) :
    Kept s₀ (State.stampAlone c z s) := by
  refine h₀.trans ?_
  unfold State.stampAlone
  try dsimp only
  repeat' first
    | with_reducible exact .refl _
    | with_reducible apply State.pickArrive_kept
    | with_reducible apply State.offerPulse_kept
    | split

theorem State.dropStamps_kept {s₀ : State} {c : Nat} {s : State} (h₀ : Kept s₀ s) :
    Kept s₀ (State.dropStamps c s) := by
  refine h₀.trans ?_
  unfold State.dropStamps
  try dsimp only
  repeat' first
    | with_reducible exact .refl _
    | with_reducible apply State.stampAlone_kept
    | with_reducible apply State.cond_kept
    | with_reducible apply State.each_kept
    | with_reducible apply State.count_kept
    | with_reducible apply State.modChan_kept
    | split
    | intro _

theorem State.offerStamp_kept {s₀ : State} {c : Nat} {z : Stamp} {s : State} (h₀ : Kept s₀ s) :
    Kept s₀ (State.offerStamp c z s) := by
  refine h₀.trans ?_
  unfold State.offerStamp
  try dsimp only
  repeat' first
    | with_reducible exact .refl _
    | with_reducible apply State.cond_kept
    | with_reducible apply State.count_kept
    | with_reducible apply State.modChan_kept
    | intro _

theorem State.handoff_kept {s₀ : State} {c : Nat} {s : State} (h₀ : Kept s₀ s) :
    Kept s₀ (State.handoff c s) := by
  refine h₀.trans ?_
  unfold State.handoff
  try dsimp only
  repeat' first
    | with_reducible exact .refl _
    | with_reducible apply State.offerStamp_kept
    | with_reducible apply State.dropStamps_kept
    | with_reducible apply State.stampAlone_kept
    | with_reducible apply State.modChan_kept
    | split

theorem State.pairEvent_kept {s₀ : State} {c : Nat} {s : State} (h₀ : Kept s₀ s) :
    Kept s₀ (State.pairEvent c s) := by
  refine h₀.trans ?_
  unfold State.pairEvent
  try dsimp only
  repeat' first
    | with_reducible exact .refl _
    | with_reducible apply State.dropStamps_kept
    | with_reducible apply State.pickArrive_kept
    | with_reducible apply State.offerPulse_kept
    | with_reducible apply State.cond_kept
    | with_reducible apply State.count_kept
    | with_reducible apply State.modChan_kept
    | split
    | intro _

theorem State.exchange_kept {s₀ : State} {c : Nat} {hits : List Nat} {s : State} (h₀ : Kept s₀ s) :
    Kept s₀ (State.exchange c hits s) := by
  refine h₀.trans ?_
  unfold State.exchange
  try dsimp only
  repeat' first
    | with_reducible exact .refl _
    | with_reducible apply State.modChan_kept
    | split

end Sys2Proof.Machine
end

