-- ==== Sys2Proof/Laws/KeptBursts.lean ====
section
/-! SUPPORT. What the operations of Machine/Bursts.lean keep. -/

namespace Sys2Proof.Machine

theorem State.modDramCh_kept {s₀ : State} {i : Nat} {g : DramCh → DramCh} {s : State} (h₀ : Kept s₀ s) :
    Kept s₀ (State.modDramCh i g s) := by
  refine h₀.trans ?_
  unfold State.modDramCh
  try dsimp only
  repeat' first
    | with_reducible exact .refl _
    | with_reducible apply State.modDram_kept

theorem State.modDramBank_kept {s₀ : State} {n : Nat} {g : DramBank → DramBank} {s : State} (h₀ : Kept s₀ s) :
    Kept s₀ (State.modDramBank n g s) := by
  refine h₀.trans ?_
  unfold State.modDramBank
  try dsimp only
  repeat' first
    | with_reducible exact .refl _
    | with_reducible apply State.modDram_kept

theorem State.enterQueue_kept {s₀ : State} {r : DramReq} {s : State} (h₀ : Kept s₀ s) :
    Kept s₀ (State.enterQueue r s) := by
  refine h₀.trans ?_
  unfold State.enterQueue
  try dsimp only
  repeat' first
    | with_reducible exact .refl _
    | with_reducible apply State.modDramBank_kept

theorem State.enterAll_kept {s₀ : State} {l : List DramReq} {s : State} (h₀ : Kept s₀ s) :
    Kept s₀ (s.enterAll l).2 := by
  unfold State.enterAll
  refine foldl_snd_kept (β := List DramReq) _ (fun x a => ?_) _ ([], s) h₀
  split
  · exact State.enterQueue_kept (.refl _)
  · exact .refl _

theorem State.fillQueues_kept {s₀ : State} {s : State} (h₀ : Kept s₀ s) :
    Kept s₀ (State.fillQueues s) := by
  unfold State.fillQueues
  exact State.modDram_kept (State.enterAll_kept (State.enterAll_kept (State.enterAll_kept h₀)))

theorem State.request_kept {s₀ : State} {l : List DramReq} {s : State} (h₀ : Kept s₀ s) :
    Kept s₀ (State.request l s) := by
  refine h₀.trans ?_
  unfold State.request
  try dsimp only
  repeat' first
    | with_reducible exact .refl _
    | with_reducible apply State.fillQueues_kept
    | with_reducible apply State.modDram_kept
    | split

theorem State.discard_kept {s₀ : State} {p : DramReq → Bool} {s : State} (h₀ : Kept s₀ s) :
    Kept s₀ (State.discard p s) := by
  refine h₀.trans ?_
  unfold State.discard
  try dsimp only
  repeat' first
    | with_reducible exact .refl _
    | with_reducible apply State.modDram_kept

end Sys2Proof.Machine
end

