-- ==== Sys2Proof/Laws/KeptBobbin.lean ====
section
/-! SUPPORT. What the operations of Machine/Bobbin.lean keep. -/

namespace Sys2Proof.Machine

theorem State.modBob_kept {s₀ : State} {c : Nat} {k : Nat} {g : BobSlot → BobSlot} {s : State} (h₀ : Kept s₀ s) :
    Kept s₀ (State.modBob c k g s) := by
  refine h₀.trans ?_
  unfold State.modBob
  try dsimp only
  repeat' first
    | with_reducible exact .refl _
    | with_reducible apply State.modChan_kept

theorem State.bobExclude_kept {s₀ : State} {c : Nat} {k : Nat} {cause : Nat} {s : State} (h₀ : Kept s₀ s) :
    Kept s₀ (State.bobExclude c k cause s) := by
  refine h₀.trans ?_
  unfold State.bobExclude
  try dsimp only
  repeat' first
    | with_reducible exact .refl _
    | with_reducible apply State.modBob_kept

theorem State.askBins_kept {s₀ : State} {c : Nat} {k : Nat} {s : State} (h₀ : Kept s₀ s) :
    Kept s₀ (State.askBins c k s) := by
  refine h₀.trans ?_
  unfold State.askBins
  try dsimp only
  repeat' first
    | with_reducible exact .refl _
    | with_reducible apply State.modBob_kept
    | with_reducible apply State.request_kept
    | with_reducible apply State.cond_kept
    | intro _

theorem State.bobFinish_kept {s₀ : State} {c : Nat} {k : Nat} {part : Bool} {s : State} (h₀ : Kept s₀ s) :
    Kept s₀ (State.bobFinish c k part s) := by
  refine h₀.trans ?_
  unfold State.bobFinish
  try dsimp only
  repeat' first
    | with_reducible exact .refl _
    | with_reducible apply State.askBins_kept
    | with_reducible apply State.modBob_kept
    | with_reducible apply State.cond_kept
    | intro _

theorem State.bobSpill_kept {s₀ : State} {c : Nat} {k : Nat} {a : Nat} {s : State} (h₀ : Kept s₀ s) :
    Kept s₀ (State.bobSpill c k a s) := by
  refine h₀.trans ?_
  unfold State.bobSpill
  try dsimp only
  repeat' first
    | with_reducible exact .refl _
    | with_reducible apply State.modBob_kept
    | with_reducible apply State.request_kept
    | with_reducible apply State.cond_kept
    | intro _

theorem State.spillRead_kept {s₀ : State} {c : Nat} {k : Nat} {i : Nat} {r : DramReq} {bytes : List Byte} {s : State} (h₀ : Kept s₀ s) :
    Kept s₀ (State.spillRead c k i r bytes s) := by
  refine h₀.trans ?_
  unfold State.spillRead
  try dsimp only
  repeat' first
    | with_reducible exact .refl _
    | with_reducible apply State.request_kept

theorem State.bobOut_kept {s₀ : State} {c : Nat} {k : Nat} {a : Nat} {i : Nat} {cause : Nat} {s : State} (h₀ : Kept s₀ s) :
    Kept s₀ (State.bobOut c k a i cause s) := by
  refine h₀.trans ?_
  unfold State.bobOut
  try dsimp only
  repeat' first
    | with_reducible exact .refl _
    | with_reducible apply State.bobSpill_kept
    | with_reducible apply State.askBins_kept
    | with_reducible apply State.bobExclude_kept
    | with_reducible apply State.modBob_kept

theorem State.bobShot_kept {s₀ : State} {i : Nat} {c : Nat} {s : State} (h₀ : Kept s₀ s) :
    Kept s₀ (State.bobShot i c s) := by
  refine h₀.trans ?_
  unfold State.bobShot
  try dsimp only
  repeat' first
    | with_reducible exact .refl _
    | with_reducible apply State.bobFinish_kept
    | with_reducible apply State.bobExclude_kept
    | with_reducible apply State.modBob_kept
    | with_reducible apply State.cond_kept
    | with_reducible apply State.each_kept
    | split
    | intro _

theorem State.bobStart_kept {s₀ : State} {i : Nat} {s : State} (h₀ : Kept s₀ s) :
    Kept s₀ (State.bobStart i s) := by
  refine h₀.trans ?_
  unfold State.bobStart
  try dsimp only
  repeat' first
    | with_reducible exact .refl _
    | with_reducible apply State.bobOut_kept
    | with_reducible apply State.bobExclude_kept
    | with_reducible apply State.modBob_kept
    | with_reducible apply State.cond_kept
    | with_reducible apply State.each_kept
    | split
    | intro _

theorem State.pickoffDecision_kept {s₀ : State} {i : Nat} {s : State} (h₀ : Kept s₀ s) :
    Kept s₀ (State.pickoffDecision i s) := by
  refine h₀.trans ?_
  unfold State.pickoffDecision
  try dsimp only
  repeat' first
    | with_reducible exact .refl _
    | with_reducible apply State.bobStart_kept
    | with_reducible apply State.decidePickoff_kept
    | with_reducible apply State.cond_kept
    | intro _

theorem State.bobComplete_kept {s₀ : State} {c : Nat} {k : Nat} {i : Nat} {raw : List Nat} {s : State} (h₀ : Kept s₀ s) :
    Kept s₀ (State.bobComplete c k i raw s) := by
  refine h₀.trans ?_
  unfold State.bobComplete
  try dsimp only
  repeat' first
    | with_reducible exact .refl _
    | with_reducible apply State.bobOut_kept
    | with_reducible apply State.bobSpill_kept
    | with_reducible apply State.askBins_kept
    | with_reducible apply State.modBob_kept
    | split

/-- A fold of writes keeps the canonical form of a memory. -/
theorem foldl_memory_wf {α : Type} (f : Mem → α → Mem) (k : ∀ m a, Memory.wf m = true → Memory.wf (f m a) = true)
    (l : List α) (m : Mem) (h : Memory.wf m = true) : Memory.wf (l.foldl f m) = true := by
  induction l generalizing m with
  | nil => exact h
  | cons a l ih => exact ih _ (k m a h)

theorem State.spillDone_kept {s₀ : State} {c : Nat} {k : Nat} {s : State} (h₀ : Kept s₀ s) :
    Kept s₀ (State.spillDone c k s) := by
  refine h₀.trans ?_
  unfold State.spillDone
  try dsimp only
  repeat' first
    | with_reducible exact .refl _
    | with_reducible apply State.askBins_kept
    | with_reducible apply State.modBob_kept
    | split

theorem State.peakReturn_kept {s₀ : State} {c : Nat} {k : Nat} {i : Nat} {pk : Peak} {s : State} (h₀ : Kept s₀ s) :
    Kept s₀ (State.peakReturn c k i pk s) := by
  refine h₀.trans ?_
  unfold State.peakReturn
  try dsimp only
  repeat' first
    | with_reducible exact .refl _
    | with_reducible apply State.receive_kept
    | with_reducible apply State.formed_kept
    | with_reducible apply State.countFlight_kept
    | split

theorem State.bobDone_kept {s₀ : State} {c : Nat} {k : Nat} {s : State} (h₀ : Kept s₀ s) :
    Kept s₀ (State.bobDone c k s) := by
  refine h₀.trans ?_
  unfold State.bobDone
  try dsimp only
  repeat' first
    | with_reducible exact .refl _
    | with_reducible apply State.modBob_kept
    | with_reducible apply State.succeed_kept
    | with_reducible apply State.cond_kept
    | split
    | intro _

theorem State.secondPass_kept {s₀ : State} {c : Nat} {k : Nat} {s : State} (h₀ : Kept s₀ s) :
    Kept s₀ (State.secondPass c k s) := by
  refine h₀.trans ?_
  unfold State.secondPass
  try dsimp only
  repeat' first
    | with_reducible exact .refl _
    | with_reducible apply State.bobDone_kept
    | with_reducible apply State.peakReturn_kept
    | with_reducible apply State.askBins_kept
    | with_reducible apply State.modBob_kept
    | with_reducible apply State.cond_kept
    | with_reducible apply State.each_kept
    | split
    | intro _

theorem State.blockSend_kept {s₀ : State} {c : Nat} {k : Nat} {s : State} (h₀ : Kept s₀ s) :
    Kept s₀ (State.blockSend c k s) := by
  refine h₀.trans ?_
  unfold State.blockSend
  try dsimp only
  repeat' first
    | with_reducible exact .refl _
    | with_reducible apply State.bobDone_kept
    | with_reducible apply State.offer_kept
    | split

theorem State.bobsEnd_kept {s₀ : State} {c : Nat} {stay : Bool} {s : State} (h₀ : Kept s₀ s) :
    Kept s₀ (State.bobsEnd c stay s) := by
  refine h₀.trans ?_
  unfold State.bobsEnd
  try dsimp only
  repeat' first
    | with_reducible exact .refl _
    | with_reducible apply State.bobFinish_kept
    | with_reducible apply State.modBob_kept
    | with_reducible apply State.cond_kept
    | with_reducible apply State.each_kept
    | intro _

theorem State.bobsLost_kept {s₀ : State} {all : Bool} {s : State} (h₀ : Kept s₀ s) :
    Kept s₀ (State.bobsLost all s) := by
  refine h₀.trans ?_
  unfold State.bobsLost
  try dsimp only
  repeat' first
    | with_reducible exact .refl _
    | with_reducible apply State.bobFinish_kept
    | with_reducible apply State.modBob_kept
    | with_reducible apply State.discard_kept
    | with_reducible apply State.cond_kept
    | with_reducible apply State.each_kept
    | intro _

end Sys2Proof.Machine
end

