-- ==== Sys2Proof/Laws/KeptCarding.lean ====
section
/-! SUPPORT. What the operations of Machine/Carding.lean keep. -/

namespace Sys2Proof.Machine

theorem State.modFe_kept {s₀ : State} {c : Nat} {g : FrontEnd → FrontEnd} {s : State} (h₀ : Kept s₀ s) :
    Kept s₀ (State.modFe c g s) := by
  refine h₀.trans ?_
  unfold State.modFe
  try dsimp only
  repeat' first
    | with_reducible exact .refl _
    | with_reducible apply State.modChan_kept

theorem State.ambientReading_kept {s₀ : State} {c : Nat} {x : Nat} {s : State} (h₀ : Kept s₀ s) :
    Kept s₀ (State.ambientReading c x s) := by
  refine h₀.trans ?_
  unfold State.ambientReading
  try dsimp only
  repeat' first
    | with_reducible exact .refl _
    | with_reducible apply State.modCard_kept

theorem State.chargeReading_kept {s₀ : State} {c : Nat} {x : Nat} {s : State} (h₀ : Kept s₀ s) :
    Kept s₀ (State.chargeReading c x s) := by
  refine h₀.trans ?_
  unfold State.chargeReading
  try dsimp only
  repeat' first
    | with_reducible exact .refl _
    | with_reducible apply State.modCard_kept

theorem State.noiseReading_kept {s₀ : State} {c : Nat} {range : Nat} {r : Reading} {s : State} (h₀ : Kept s₀ s) :
    Kept s₀ (State.noiseReading c range r s) := by
  refine h₀.trans ?_
  unfold State.noiseReading
  try dsimp only
  repeat' first
    | with_reducible exact .refl _
    | with_reducible apply State.modCard_kept
    | split

theorem State.detectorWindow_kept {s₀ : State} {c : Nat} {raw : List Nat} {s : State} (h₀ : Kept s₀ s) :
    Kept s₀ (State.detectorWindow c raw s) := by
  refine h₀.trans ?_
  unfold State.detectorWindow
  try dsimp only
  repeat' first
    | with_reducible exact .refl _
    | with_reducible apply State.noiseReading_kept
    | with_reducible apply State.modChan_kept
    | split

theorem State.restartNoise_kept {s₀ : State} {b : Nat} {s : State} (h₀ : Kept s₀ s) :
    Kept s₀ (State.restartNoise b s) := by
  refine h₀.trans ?_
  unfold State.restartNoise
  try dsimp only
  repeat' first
    | with_reducible exact .refl _
    | with_reducible apply State.modCard_kept
    | with_reducible apply State.each_kept
    | intro _

theorem State.levels_kept {s₀ : State} {c : Nat} {changed : Bool} {s : State} (h₀ : Kept s₀ s) :
    Kept s₀ (State.levels c changed s) := by
  refine h₀.trans ?_
  unfold State.levels
  try dsimp only
  repeat' first
    | with_reducible exact .refl _
    | with_reducible apply State.modCard_kept
    | with_reducible apply State.cond_kept
    | split
    | intro _

theorem State.levelHosted_kept {s₀ : State} {c : Nat} {source : Bool} {s : State} (h₀ : Kept s₀ s) :
    Kept s₀ (State.levelHosted c source s) := by
  refine h₀.trans ?_
  unfold State.levelHosted
  try dsimp only
  repeat' first
    | with_reducible exact .refl _
    | with_reducible apply State.modCard_kept

theorem State.analogueHosted_kept {s₀ : State} {c : Nat} {source : Bool} {s : State} (h₀ : Kept s₀ s) :
    Kept s₀ (State.analogueHosted c source s) := by
  refine h₀.trans ?_
  unfold State.analogueHosted
  try dsimp only
  repeat' first
    | with_reducible exact .refl _
    | with_reducible apply State.modCard_kept

theorem State.setBlind_kept {s₀ : State} {c : Nat} {on : Bool} {s : State} (h₀ : Kept s₀ s) :
    Kept s₀ (State.setBlind c on s) := by
  refine h₀.trans ?_
  unfold State.setBlind
  try dsimp only
  repeat' first
    | with_reducible exact .refl _
    | with_reducible apply State.modCard_kept
    | with_reducible apply State.health_kept
    | with_reducible apply State.count_kept
    | split

theorem State.blindStep_kept {s₀ : State} {c : Nat} {sat : Bool} {high : Bool} {clear : Bool} {s : State} (h₀ : Kept s₀ s) :
    Kept s₀ (State.blindStep c sat high clear s) := by
  refine h₀.trans ?_
  unfold State.blindStep
  try dsimp only
  repeat' first
    | with_reducible exact .refl _
    | with_reducible apply State.setBlind_kept
    | with_reducible apply State.modCard_kept
    | split

theorem State.autoRange_kept {s₀ : State} {c : Nat} {dev : Nat} {ovr : Bool} {s : State} (h₀ : Kept s₀ s) :
    Kept s₀ (State.autoRange c dev ovr s) := by
  refine h₀.trans ?_
  unfold State.autoRange
  try dsimp only
  repeat' first
    | with_reducible exact .refl _
    | with_reducible apply State.modFe_kept
    | with_reducible apply State.setRange_kept
    | split

theorem State.leaveWaveform_kept {s₀ : State} {c : Nat} {s : State} (h₀ : Kept s₀ s) :
    Kept s₀ (State.leaveWaveform c s) := by
  refine h₀.trans ?_
  unfold State.leaveWaveform
  try dsimp only
  repeat' first
    | with_reducible exact .refl _
    | with_reducible apply State.bobsEnd_kept

theorem State.fallbackStep_kept {s₀ : State} {c : Nat} {clamped : Bool} {s : State} (h₀ : Kept s₀ s) :
    Kept s₀ (State.fallbackStep c clamped s) := by
  refine h₀.trans ?_
  unfold State.fallbackStep
  try dsimp only
  repeat' first
    | with_reducible exact .refl _
    | with_reducible apply State.leaveWaveform_kept
    | with_reducible apply State.modFe_kept
    | with_reducible apply State.enterMode_kept
    | with_reducible apply State.setRange_kept
    | with_reducible apply State.health_kept
    | split

theorem State.rangeBoundary_kept {s₀ : State} {c : Nat} {dev : Nat} {ovr : Bool} {servo : Nat} {s : State} (h₀ : Kept s₀ s) :
    Kept s₀ (State.rangeBoundary c dev ovr servo s) := by
  refine h₀.trans ?_
  unfold State.rangeBoundary
  try dsimp only
  repeat' first
    | with_reducible exact .refl _
    | with_reducible apply State.fallbackStep_kept
    | with_reducible apply State.autoRange_kept
    | with_reducible apply State.blindStep_kept
    | with_reducible apply State.levels_kept
    | with_reducible apply State.ambientReading_kept
    | with_reducible apply State.modFe_kept
    | with_reducible apply State.servoTakes_kept
    | with_reducible apply State.cond_kept
    | split
    | intro _

theorem State.noteWindow_kept {s₀ : State} {c : Nat} {close : Tick} {s : State} (h₀ : Kept s₀ s) :
    Kept s₀ (State.noteWindow c close s) := by
  refine h₀.trans ?_
  unfold State.noteWindow
  try dsimp only
  repeat' first
    | with_reducible exact .refl _
    | with_reducible apply State.modChan_kept

theorem State.openGate_kept {s₀ : State} {c : Nat} {i : Nat} {window : Tick} {s : State} (h₀ : Kept s₀ s) :
    Kept s₀ (State.openGate c i window s) := by
  refine h₀.trans ?_
  unfold State.openGate
  try dsimp only
  repeat' first
    | with_reducible exact .refl _
    | with_reducible apply State.modFe_kept
    | with_reducible apply State.count_kept
    | split

theorem State.ambientGate_kept {s₀ : State} {c : Nat} {s : State} (h₀ : Kept s₀ s) :
    Kept s₀ (State.ambientGate c s) := by
  refine h₀.trans ?_
  unfold State.ambientGate
  try dsimp only
  repeat' first
    | with_reducible exact .refl _
    | with_reducible apply State.modFe_kept
    | split

theorem State.gateClose_kept {s₀ : State} {c : Nat} {raw : Nat} {ovr : Bool} {current : Nat} {s : State} (h₀ : Kept s₀ s) :
    Kept s₀ (State.gateClose c raw ovr current s) := by
  refine h₀.trans ?_
  unfold State.gateClose
  try dsimp only
  repeat' first
    | with_reducible exact .refl _
    | with_reducible apply State.blindStep_kept
    | with_reducible apply State.chargeReading_kept
    | with_reducible apply State.modFe_kept
    | with_reducible apply State.receive_kept
    | with_reducible apply State.cond_kept
    | with_reducible apply State.count_kept
    | split
    | intro _

theorem State.weatherCount_kept {s₀ : State} {r : Ret} {s : State} (h₀ : Kept s₀ s) :
    Kept s₀ (State.weatherCount r s) := by
  refine h₀.trans ?_
  unfold State.weatherCount
  try dsimp only
  repeat' first
    | with_reducible exact .refl _
    | with_reducible apply State.modBank_kept
    | split

theorem State.cardDecide_kept {s₀ : State} {c : Nat} {s : State} (h₀ : Kept s₀ s) :
    Kept s₀ (State.cardDecide c s) := by
  refine h₀.trans ?_
  unfold State.cardDecide
  try dsimp only
  repeat' first
    | with_reducible exact .refl _
    | with_reducible apply State.weatherCount_kept
    | with_reducible apply State.modCard_kept
    | with_reducible apply State.noteClose_kept
    | with_reducible apply State.offer_kept
    | with_reducible apply State.count_kept
    | split

theorem State.weatherStep_kept {s₀ : State} {b : Nat} {s : State} (h₀ : Kept s₀ s) :
    Kept s₀ (State.weatherStep b s) := by
  refine h₀.trans ?_
  unfold State.weatherStep
  try dsimp only
  repeat' first
    | with_reducible exact .refl _
    | with_reducible apply State.health_kept
    | with_reducible apply State.modBank_kept
    | split

theorem State.setHop_kept {s₀ : State} {j : Nat} {cause : Nat} {s : State} (h₀ : Kept s₀ s) :
    Kept s₀ (State.setHop j cause s) := by
  refine h₀.trans ?_
  unfold State.setHop
  try dsimp only
  repeat' first
    | with_reducible exact .refl _
    | with_reducible apply State.health_kept
    | with_reducible apply State.count_kept
    | with_reducible apply State.modDist_kept
    | with_reducible apply State.modHopHold_kept
    | with_reducible apply State.modHop_kept

theorem State.autoHop_kept {s₀ : State} {s : State} (h₀ : Kept s₀ s) :
    Kept s₀ (State.autoHop s) := by
  refine h₀.trans ?_
  unfold State.autoHop
  try dsimp only
  repeat' first
    | with_reducible exact .refl _
    | with_reducible apply State.setHop_kept
    | with_reducible apply State.modDist_kept
    | split

theorem State.periodEnd_kept {s₀ : State} {s : State} (h₀ : Kept s₀ s) :
    Kept s₀ (State.periodEnd s) := by
  refine h₀.trans ?_
  unfold State.periodEnd
  try dsimp only
  repeat' first
    | with_reducible exact .refl _
    | with_reducible apply State.autoHop_kept
    | with_reducible apply State.weatherStep_kept
    | with_reducible apply State.interferenceStep_kept
    | with_reducible apply State.modCard_kept
    | with_reducible apply State.cond_kept
    | with_reducible apply State.each_kept
    | with_reducible apply State.modHopHold_kept
    | with_reducible apply State.modClock_kept
    | with_reducible exact Nat.le_refl _
    | split
    | intro _

end Sys2Proof.Machine
end

