-- ==== Sys2Proof/Laws/KeptSched.lean ====
section
/-! SUPPORT. What the operations of Machine/Sched.lean keep. -/

namespace Sys2Proof.Machine

theorem State.burstEffect_kept {s₀ : State} {r : DramReq} {s : State} (h₀ : Kept s₀ s) :
    Kept s₀ (State.burstEffect r s) := by
  refine h₀.trans ?_
  unfold State.burstEffect
  split
  · refine State.modDramMem_kept (.refl _) (foldl_memory_wf _ (fun m i h => ?_) _ _)
    split
    · exact Store.wf_write 0 m _ _ h
    · exact h
  · dsimp only
    split
    · exact .refl _
    · exact State.cond_kept (fun _ => State.spillRead_kept (.refl _)) (.refl _)
    · exact State.modBob_kept (.refl _)
    · exact State.modGroup_kept (.refl _)

theorem State.pageDecision_kept {s₀ : State} {n : Nat} {s : State} (h₀ : Kept s₀ s) :
    Kept s₀ (State.pageDecision n s) := by
  refine h₀.trans ?_
  unfold State.pageDecision
  try dsimp only
  repeat' first
    | with_reducible exact .refl _
    | with_reducible apply State.modDramBank_kept
    | with_reducible apply State.cond_kept
    | intro _

theorem State.serveReq_kept {s₀ : State} {n : Nat} {r : DramReq} {s : State} (h₀ : Kept s₀ s) :
    Kept s₀ (State.serveReq n r s) := by
  refine h₀.trans ?_
  unfold State.serveReq
  try dsimp only
  repeat' first
    | with_reducible exact .refl _
    | with_reducible apply State.pageDecision_kept
    | with_reducible apply State.burstEffect_kept
    | with_reducible apply State.modDramBank_kept
    | with_reducible apply State.modDramCh_kept

theorem State.channelTurn_kept {s₀ : State} {past : Bool} {ch : Nat} {s : State} (h₀ : Kept s₀ s) :
    Kept s₀ (State.channelTurn past ch s) := by
  refine h₀.trans ?_
  unfold State.channelTurn
  try dsimp only
  repeat' first
    | with_reducible exact .refl _
    | with_reducible apply State.serveReq_kept
    | with_reducible apply State.modDramBank_kept
    | with_reducible apply State.modDramCh_kept
    | with_reducible apply State.cond_kept
    | split
    | intro _

theorem State.turn_kept {s₀ : State} {past : Bool} {s : State} (h₀ : Kept s₀ s) :
    Kept s₀ (State.turn past s) := by
  refine h₀.trans ?_
  unfold State.turn
  try dsimp only
  repeat' first
    | with_reducible exact .refl _
    | with_reducible apply State.channelTurn_kept
    | with_reducible apply State.fillQueues_kept
    | with_reducible apply State.each_kept
    | split
    | intro _

theorem State.dramTurn_kept {s₀ : State} {s : State} (h₀ : Kept s₀ s) :
    Kept s₀ (State.dramTurn s) := by
  refine h₀.trans ?_
  unfold State.dramTurn
  try dsimp only
  repeat' first
    | with_reducible exact .refl _
    | with_reducible apply State.turn_kept

theorem State.makeRoom_kept {s₀ : State} {s : State} (h₀ : Kept s₀ s) :
    Kept s₀ (State.makeRoom s) := by
  refine h₀.trans ?_
  unfold State.makeRoom
  try dsimp only
  repeat' first
    | with_reducible exact .refl _
    | with_reducible apply State.turn_kept
    | with_reducible apply State.cond_kept
    | with_reducible apply State.each_kept
    | with_reducible apply State.modDram_kept
    | intro _

end Sys2Proof.Machine
end

