-- ==== Sys2Proof/Laws/KeptRoving.lean ====
section
/-! SUPPORT. What the operations of Machine/Roving.lean keep. -/

namespace Sys2Proof.Machine

theorem State.discardOverlaps_kept {s₀ : State} {p : CaptureParams} {s : State} (h₀ : Kept s₀ s) :
    Kept s₀ (State.discardOverlaps p s) := by
  refine h₀.trans ?_
  unfold State.discardOverlaps
  try dsimp only
  repeat' first
    | with_reducible exact .refl _
    | with_reducible apply State.cond_kept
    | with_reducible apply State.each_kept
    | with_reducible apply State.modGroup_kept
    | intro _

theorem State.endRead_kept {s₀ : State} {g : Nat} {s : State} (h₀ : Kept s₀ s) :
    Kept s₀ (State.endRead g s) := by
  refine h₀.trans ?_
  unfold State.endRead
  try dsimp only
  repeat' first
    | with_reducible exact .refl _
    | with_reducible apply State.discard_kept
    | with_reducible apply State.failedOpen_kept
    | with_reducible apply State.modGroup_kept
    | split

theorem State.armGroup_kept {s₀ : State} {g : Nat} {p : CaptureParams} {handle : Nat} {s : State} (h₀ : Kept s₀ s) :
    Kept s₀ (State.armGroup g p handle s) := by
  refine h₀.trans ?_
  unfold State.armGroup
  try dsimp only
  repeat' first
    | with_reducible exact .refl _
    | with_reducible apply State.endRead_kept
    | with_reducible apply State.discardOverlaps_kept
    | with_reducible apply State.succeed_kept
    | with_reducible apply State.modGroup_kept

theorem State.armEffect_kept {s₀ : State} {g : Nat} {s : State} (h₀ : Kept s₀ s) :
    Kept s₀ (State.armEffect g s) := by
  refine h₀.trans ?_
  unfold State.armEffect
  try dsimp only
  repeat' first
    | with_reducible exact .refl _
    | with_reducible apply State.modGroup_kept
    | split

theorem State.stageBytes_kept {s₀ : State} {g : Nat} {parts : List (Nat × List Byte)} {s : State} (h₀ : Kept s₀ s) :
    Kept s₀ (State.stageBytes g parts s) := by
  refine h₀.trans ?_
  unfold State.stageBytes
  try dsimp only
  repeat' first
    | with_reducible exact .refl _
    | with_reducible apply State.makeRoom_kept
    | with_reducible apply State.request_kept

theorem State.layWords_kept {s₀ : State} {g : Nat} {words : List RawWord} {s : State} (h₀ : Kept s₀ s) :
    Kept s₀ (State.layWords g words s) := by
  refine h₀.trans ?_
  unfold State.layWords
  try dsimp only
  repeat' first
    | with_reducible exact .refl _
    | with_reducible apply State.stageBytes_kept
    | with_reducible apply State.cond_kept
    | split
    | intro _

theorem State.ringFilled_kept {s₀ : State} {g : Nat} {words : List RawWord} {s : State} (h₀ : Kept s₀ s) :
    Kept s₀ (State.ringFilled g words s) := by
  refine h₀.trans ?_
  unfold State.ringFilled
  try dsimp only
  repeat' first
    | with_reducible exact .refl _
    | with_reducible apply State.layWords_kept
    | with_reducible apply State.cond_kept
    | with_reducible apply State.modGroup_kept
    | intro _

theorem State.countMiss_kept {s₀ : State} {g : Nat} {rearm : Bool} {s : State} (h₀ : Kept s₀ s) :
    Kept s₀ (State.countMiss g rearm s) := by
  refine h₀.trans ?_
  unfold State.countMiss
  try dsimp only
  repeat' first
    | with_reducible exact .refl _
    | with_reducible apply State.count_kept
    | with_reducible apply State.modGroup_kept
    | split

theorem State.uncountMisses_kept {s₀ : State} {g : Nat} {s : State} (h₀ : Kept s₀ s) :
    Kept s₀ (State.uncountMisses g s) := by
  refine h₀.trans ?_
  unfold State.uncountMisses
  try dsimp only
  repeat' first
    | with_reducible exact .refl _
    | with_reducible apply State.each_kept
    | with_reducible apply State.count_kept
    | with_reducible apply State.modGroup_kept
    | split
    | intro _

theorem State.missTrigger_kept {s₀ : State} {g : Nat} {x : Tick} {s : State} (h₀ : Kept s₀ s) :
    Kept s₀ (State.missTrigger g x s) := by
  refine h₀.trans ?_
  unfold State.missTrigger
  try dsimp only
  repeat' first
    | with_reducible exact .refl _
    | with_reducible apply State.countMiss_kept
    | split

theorem State.acceptTrigger_kept {s₀ : State} {g : Nat} {x : Tick} {source : Nat} {channel : Nat} {s : State} (h₀ : Kept s₀ s) :
    Kept s₀ (State.acceptTrigger g x source channel s) := by
  refine h₀.trans ?_
  unfold State.acceptTrigger
  try dsimp only
  repeat' first
    | with_reducible exact .refl _
    | with_reducible apply State.modGroup_kept

theorem State.joinTrigger_kept {s₀ : State} {g : Nat} {x : Tick} {source : Nat} {channel : Nat} {a : Accepted} {s : State} (h₀ : Kept s₀ s) :
    Kept s₀ (State.joinTrigger g x source channel a s) := by
  refine h₀.trans ?_
  unfold State.joinTrigger
  try dsimp only
  repeat' first
    | with_reducible exact .refl _
    | with_reducible apply State.acceptTrigger_kept
    | with_reducible apply State.modGroup_kept
    | split

theorem State.decideTrigger_kept {s₀ : State} {g : Nat} {x : Tick} {source : Nat} {channel : Nat} {s : State} (h₀ : Kept s₀ s) :
    Kept s₀ (State.decideTrigger g x source channel s) := by
  refine h₀.trans ?_
  unfold State.decideTrigger
  try dsimp only
  repeat' first
    | with_reducible exact .refl _
    | with_reducible apply State.joinTrigger_kept
    | with_reducible apply State.acceptTrigger_kept
    | with_reducible apply State.missTrigger_kept
    | with_reducible apply State.countMiss_kept
    | split

theorem State.decideTriggers_kept {s₀ : State} {g : Nat} {words : List RawWord} {s : State} (h₀ : Kept s₀ s) :
    Kept s₀ (State.decideTriggers g words s) := by
  refine h₀.trans ?_
  unfold State.decideTriggers
  try dsimp only
  repeat' first
    | with_reducible exact .refl _
    | with_reducible apply State.decideTrigger_kept
    | with_reducible apply State.layWords_kept
    | with_reducible apply State.combineBank_kept
    | with_reducible apply State.cond_kept
    | with_reducible apply State.each_kept
    | with_reducible apply State.modGroup_kept
    | intro _

theorem State.hostTrigger_kept {s₀ : State} {g : Nat} {s : State} (h₀ : Kept s₀ s) :
    Kept s₀ (State.hostTrigger g s) := by
  refine h₀.trans ?_
  unfold State.hostTrigger
  try dsimp only
  repeat' first
    | with_reducible exact .refl _
    | with_reducible apply State.decideTrigger_kept
    | with_reducible apply State.cond_kept
    | intro _

theorem State.scheduledTrigger_kept {s₀ : State} {g : Nat} {s : State} (h₀ : Kept s₀ s) :
    Kept s₀ (State.scheduledTrigger g s) := by
  refine h₀.trans ?_
  unfold State.scheduledTrigger
  try dsimp only
  repeat' first
    | with_reducible exact .refl _
    | with_reducible apply State.decideTrigger_kept
    | with_reducible apply State.modGroup_kept
    | split

theorem State.storeHeads_kept {s₀ : State} {g : Nat} {cap : Capture} {s : State} (h₀ : Kept s₀ s) :
    Kept s₀ (State.storeHeads g cap s) := by
  refine h₀.trans ?_
  unfold State.storeHeads
  try dsimp only
  repeat' first
    | with_reducible exact .refl _
    | with_reducible apply State.stageBytes_kept

theorem State.addCapture_kept {s₀ : State} {g : Nat} {a : Accepted} {start : Nat} {turn : Option Nat} {n : Nat} {post : Nat} {flags : BitVec 10} {s : State} (h₀ : Kept s₀ s) :
    Kept s₀ (State.addCapture g a start turn n post flags s) := by
  refine h₀.trans ?_
  unfold State.addCapture
  try dsimp only
  repeat' first
    | with_reducible exact .refl _
    | with_reducible apply State.storeHeads_kept
    | with_reducible apply State.modGroup_kept

theorem State.postEnd_kept {s₀ : State} {g : Nat} {words : List RawWord} {s : State} (h₀ : Kept s₀ s) :
    Kept s₀ (State.postEnd g words s) := by
  refine h₀.trans ?_
  unfold State.postEnd
  try dsimp only
  repeat' first
    | with_reducible exact .refl _
    | with_reducible apply State.addCapture_kept
    | with_reducible apply State.layWords_kept
    | with_reducible apply State.modGroup_kept
    | split

theorem State.rearmEnd_kept {s₀ : State} {g : Nat} {s : State} (h₀ : Kept s₀ s) :
    Kept s₀ (State.rearmEnd g s) := by
  refine h₀.trans ?_
  unfold State.rearmEnd
  try dsimp only
  repeat' first
    | with_reducible exact .refl _
    | with_reducible apply State.modGroup_kept
    | split

theorem State.ringCapture_kept {s₀ : State} {g : Nat} {at_ : Tick} {flags : BitVec 10} {s : State} (h₀ : Kept s₀ s) :
    Kept s₀ (State.ringCapture g at_ flags s) := by
  refine h₀.trans ?_
  unfold State.ringCapture
  try dsimp only
  repeat' first
    | with_reducible exact .refl _
    | with_reducible apply State.addCapture_kept

theorem State.closeGroup_kept {s₀ : State} {g : Nat} {at_ : Tick} {flag : BitVec 10} {words : List RawWord} {s : State} (h₀ : Kept s₀ s) :
    Kept s₀ (State.closeGroup g at_ flag words s) := by
  refine h₀.trans ?_
  unfold State.closeGroup
  try dsimp only
  repeat' first
    | with_reducible exact .refl _
    | with_reducible apply State.ringCapture_kept
    | with_reducible apply State.addCapture_kept
    | with_reducible apply State.layWords_kept
    | with_reducible apply State.cond_kept
    | with_reducible apply State.modGroup_kept
    | split
    | intro _

theorem State.undoTrigger_kept {s₀ : State} {g : Nat} {counted : Bool} {s : State} (h₀ : Kept s₀ s) :
    Kept s₀ (State.undoTrigger g counted s) := by
  refine h₀.trans ?_
  unfold State.undoTrigger
  try dsimp only
  repeat' first
    | with_reducible exact .refl _
    | with_reducible apply State.countMiss_kept
    | with_reducible apply State.cond_kept
    | with_reducible apply State.modGroup_kept
    | split
    | intro _

theorem State.stopGroup_kept {s₀ : State} {g : Nat} {handle : Option Nat} {flag : Nat} {s : State} (h₀ : Kept s₀ s) :
    Kept s₀ (State.stopGroup g handle flag s) := by
  refine h₀.trans ?_
  unfold State.stopGroup
  try dsimp only
  repeat' first
    | with_reducible exact .refl _
    | with_reducible apply State.undoTrigger_kept
    | with_reducible apply State.modGroup_kept

theorem State.stopCaptures_kept {s₀ : State} {flag : Nat} {s : State} (h₀ : Kept s₀ s) :
    Kept s₀ (State.stopCaptures flag s) := by
  refine h₀.trans ?_
  unfold State.stopCaptures
  try dsimp only
  repeat' first
    | with_reducible exact .refl _
    | with_reducible apply State.stopGroup_kept
    | with_reducible apply State.cond_kept
    | with_reducible apply State.each_kept
    | with_reducible apply State.modGroup_kept
    | split
    | intro _

theorem State.segmentClose_kept {s₀ : State} {g : Nat} {words : List RawWord} {s : State} (h₀ : Kept s₀ s) :
    Kept s₀ (State.segmentClose g words s) := by
  refine h₀.trans ?_
  unfold State.segmentClose
  try dsimp only
  repeat' first
    | with_reducible exact .refl _
    | with_reducible apply State.closeGroup_kept
    | with_reducible apply State.succeed_kept
    | split

theorem State.captureOverflow_kept {s₀ : State} {lost : Nat} {words : List RawWord} {s : State} (h₀ : Kept s₀ s) :
    Kept s₀ (State.captureOverflow lost words s) := by
  refine h₀.trans ?_
  unfold State.captureOverflow
  try dsimp only
  repeat' first
    | with_reducible exact .refl _
    | with_reducible apply State.undoTrigger_kept
    | with_reducible apply State.closeGroup_kept
    | with_reducible apply State.uncountMisses_kept
    | with_reducible apply State.succeed_kept
    | with_reducible apply State.health_kept
    | with_reducible apply State.setFlag_kept
    | with_reducible apply State.count_kept
    | split

theorem State.fetchBlock_kept {s₀ : State} {g : Nat} {s : State} (h₀ : Kept s₀ s) :
    Kept s₀ (State.fetchBlock g s) := by
  refine h₀.trans ?_
  unfold State.fetchBlock
  try dsimp only
  repeat' first
    | with_reducible exact .refl _
    | with_reducible apply State.request_kept
    | with_reducible apply State.modGroup_kept
    | split

theorem State.sendBlock_kept {s₀ : State} {g : Nat} {s : State} (h₀ : Kept s₀ s) :
    Kept s₀ (State.sendBlock g s) := by
  refine h₀.trans ?_
  unfold State.sendBlock
  try dsimp only
  repeat' first
    | with_reducible exact .refl _
    | with_reducible apply State.fetchBlock_kept
    | with_reducible apply State.succeed_kept
    | with_reducible apply State.offer_kept
    | with_reducible apply State.modGroup_kept
    | split

theorem State.startRead_kept {s₀ : State} {g : Nat} {first : Nat} {last : Nat} {channels : BitVec 256} {lo : Int} {hi : Int} {handle : Nat} {s : State} (h₀ : Kept s₀ s) :
    Kept s₀ (State.startRead g first last channels lo hi handle s) := by
  refine h₀.trans ?_
  unfold State.startRead
  try dsimp only
  repeat' first
    | with_reducible exact .refl _
    | with_reducible apply State.fetchBlock_kept
    | with_reducible apply State.succeed_kept
    | with_reducible apply State.modGroup_kept
    | split

end Sys2Proof.Machine
end

