-- ==== Sys2Proof/Laws/KeptDram.lean ====
section
/-! SUPPORT. What the operations of Machine/Dram.lean keep. -/

namespace Sys2Proof.Machine

theorem State.modeChanged_kept {s₀ : State} {old : Nat} {s : State} (h₀ : Kept s₀ s) :
    Kept s₀ (State.modeChanged old s) := by
  refine h₀.trans ?_
  unfold State.modeChanged
  try dsimp only
  repeat' first
    | with_reducible exact .refl _
    | with_reducible apply State.closeGroup_kept
    | with_reducible apply State.bobsLost_kept
    | with_reducible apply State.succeed_kept
    | with_reducible apply State.health_kept
    | with_reducible apply State.each_kept
    | with_reducible apply State.modDramMem_kept
    | with_reducible apply State.modDram_kept
    | exact fun _ => rfl
    | split
    | intro _

theorem State.mapOut_kept {s₀ : State} {ch : Nat} {f : Nat × Nat × Nat} {s : State} (h₀ : Kept s₀ s) :
    Kept s₀ (State.mapOut ch f s) := by
  refine h₀.trans ?_
  unfold State.mapOut
  try dsimp only
  repeat' first
    | with_reducible exact .refl _
    | with_reducible apply State.modeChanged_kept
    | with_reducible apply State.bobsLost_kept
    | with_reducible apply State.discard_kept
    | with_reducible apply State.modDramCh_kept
    | with_reducible apply State.health_kept
    | with_reducible apply State.setFlag_kept
    | with_reducible apply State.cond_kept
    | with_reducible apply State.each_kept
    | with_reducible apply State.modGroup_kept
    | intro _

theorem State.notePatterns_kept {s₀ : State} {l : List (Nat × Nat)} {s : State} (h₀ : Kept s₀ s) :
    Kept s₀ (State.notePatterns l s) := by
  refine h₀.trans ?_
  unfold State.notePatterns
  try dsimp only
  repeat' first
    | with_reducible exact .refl _
    | with_reducible apply State.modDramCh_kept
    | with_reducible apply State.each_kept
    | intro _

theorem State.refreshStep_kept {s₀ : State} {s : State} (h₀ : Kept s₀ s) :
    Kept s₀ (State.refreshStep s) := by
  refine h₀.trans ?_
  unfold State.refreshStep
  try dsimp only
  repeat' first
    | with_reducible exact .refl _
    | with_reducible apply State.modDram_kept

theorem State.startPass_kept {s₀ : State} {handle : Option Nat} {retest : Bool} {s : State} (h₀ : Kept s₀ s) :
    Kept s₀ (State.startPass handle retest s) := by
  refine h₀.trans ?_
  unfold State.startPass
  try dsimp only
  repeat' first
    | with_reducible exact .refl _
    | with_reducible apply State.modDramCh_kept
    | with_reducible apply State.each_kept
    | with_reducible apply State.modDram_kept
    | intro _

theorem State.dramReading_kept {s₀ : State} {reading : Option Int} {s : State} (h₀ : Kept s₀ s) :
    Kept s₀ (State.dramReading reading s) := by
  refine h₀.trans ?_
  unfold State.dramReading
  try dsimp only
  repeat' first
    | with_reducible exact .refl _
    | with_reducible apply State.startPass_kept
    | with_reducible apply State.refreshStep_kept
    | with_reducible apply State.cond_kept
    | with_reducible apply State.modDram_kept
    | intro _

theorem State.refreshDue_kept {s₀ : State} {ch : Nat} {bank : Nat} {postpone : Bool} {s : State} (h₀ : Kept s₀ s) :
    Kept s₀ (State.refreshDue ch bank postpone s) := by
  refine h₀.trans ?_
  unfold State.refreshDue
  try dsimp only
  repeat' first
    | with_reducible exact .refl _
    | with_reducible apply State.modDramBank_kept
    | with_reducible apply State.modDramCh_kept
    | with_reducible apply State.cond_kept
    | split
    | intro _

theorem State.rowIdle_kept {s₀ : State} {ch : Nat} {bank : Nat} {s : State} (h₀ : Kept s₀ s) :
    Kept s₀ (State.rowIdle ch bank s) := by
  refine h₀.trans ?_
  unfold State.rowIdle
  try dsimp only
  repeat' first
    | with_reducible exact .refl _
    | with_reducible apply State.modDramBank_kept
    | with_reducible apply State.cond_kept
    | intro _

theorem State.refreshReturn_kept {s₀ : State} {s : State} (h₀ : Kept s₀ s) :
    Kept s₀ (State.refreshReturn s) := by
  refine h₀.trans ?_
  unfold State.refreshReturn
  try dsimp only
  repeat' first
    | with_reducible exact .refl _
    | with_reducible apply State.cond_kept
    | with_reducible apply State.modDram_kept
    | intro _

theorem State.trainChannel_kept {s₀ : State} {ch : Nat} {eyes : List LaneEye} {s : State} (h₀ : Kept s₀ s) :
    Kept s₀ (State.trainChannel ch eyes s) := by
  refine h₀.trans ?_
  unfold State.trainChannel
  try dsimp only
  repeat' first
    | with_reducible exact .refl _
    | with_reducible apply State.mapOut_kept
    | with_reducible apply State.modDramCh_kept
    | split

theorem State.trainAll_kept {s₀ : State} {eyes : List (List LaneEye)} {s : State} (h₀ : Kept s₀ s) :
    Kept s₀ (State.trainAll eyes s) := by
  refine h₀.trans ?_
  unfold State.trainAll
  try dsimp only
  repeat' first
    | with_reducible exact .refl _
    | with_reducible apply State.trainChannel_kept
    | with_reducible apply State.each_kept
    | with_reducible apply State.modBoot_kept
    | intro _

theorem State.endPass_kept {s₀ : State} {p : TrainPass} {s : State} (h₀ : Kept s₀ s) :
    Kept s₀ (State.endPass p s) := by
  refine h₀.trans ?_
  unfold State.endPass
  try dsimp only
  repeat' first
    | with_reducible exact .refl _
    | with_reducible apply State.modeChanged_kept
    | with_reducible apply State.bobsLost_kept
    | with_reducible apply State.modDramCh_kept
    | with_reducible apply State.succeed_kept
    | with_reducible apply State.cond_kept
    | with_reducible apply State.each_kept
    | with_reducible apply State.modGroup_kept
    | with_reducible apply State.modDramMem_kept
    | with_reducible apply State.modDram_kept
    | exact fun _ => rfl
    | split
    | intro _

theorem State.endIfDone_kept {s₀ : State} {p : TrainPass} {s : State} (h₀ : Kept s₀ s) :
    Kept s₀ (State.endIfDone p s) := by
  refine h₀.trans ?_
  unfold State.endIfDone
  try dsimp only
  repeat' first
    | with_reducible exact .refl _
    | with_reducible apply State.endPass_kept
    | with_reducible apply State.cond_kept
    | intro _

theorem State.trainStart_kept {s₀ : State} {s : State} (h₀ : Kept s₀ s) :
    Kept s₀ (State.trainStart s) := by
  refine h₀.trans ?_
  unfold State.trainStart
  try dsimp only
  repeat' first
    | with_reducible exact .refl _
    | with_reducible apply State.endPass_kept
    | with_reducible apply State.modDramCh_kept
    | split

theorem State.trainEnd_kept {s₀ : State} {eyes : List LaneEye} {s : State} (h₀ : Kept s₀ s) :
    Kept s₀ (State.trainEnd eyes s) := by
  refine h₀.trans ?_
  unfold State.trainEnd
  try dsimp only
  repeat' first
    | with_reducible exact .refl _
    | with_reducible apply State.endIfDone_kept
    | with_reducible apply State.trainChannel_kept
    | with_reducible apply State.modDram_kept
    | split

theorem State.retestTrained_kept {s₀ : State} {eyes : List (List LaneEye)} {s : State} (h₀ : Kept s₀ s) :
    Kept s₀ (State.retestTrained eyes s) := by
  refine h₀.trans ?_
  unfold State.retestTrained
  try dsimp only
  repeat' first
    | with_reducible exact .refl _
    | with_reducible apply State.endIfDone_kept
    | with_reducible apply State.trainChannel_kept
    | with_reducible apply State.modDramCh_kept
    | with_reducible apply State.each_kept
    | with_reducible apply State.modDram_kept
    | split
    | intro _

theorem State.retrain_kept {s₀ : State} {retest : Bool} {handle : Nat} {s : State} (h₀ : Kept s₀ s) :
    Kept s₀ (State.retrain retest handle s) := by
  refine h₀.trans ?_
  unfold State.retrain
  try dsimp only
  repeat' first
    | with_reducible exact .refl _
    | with_reducible apply State.endIfDone_kept
    | with_reducible apply State.startPass_kept
    | split

theorem State.dramStatus_kept {s₀ : State} {handle : Nat} {s : State} (h₀ : Kept s₀ s) :
    Kept s₀ (State.dramStatus handle s) := by
  refine h₀.trans ?_
  unfold State.dramStatus
  try dsimp only
  repeat' first
    | with_reducible exact .refl _
    | with_reducible apply State.succeed_kept

end Sys2Proof.Machine
end

