-- ==== Sys2Proof/Laws/KeptNv.lean ====
section
/-! SUPPORT. What the operations of Machine/Nv.lean keep. -/

namespace Sys2Proof.Machine

theorem State.nvRefuse_kept {s₀ : State} {k : Nat} {pages : Nat} {handle : Option Nat} {s : State} (h₀ : Kept s₀ s) :
    Kept s₀ (State.nvRefuse k pages handle s) := by
  refine h₀.trans ?_
  unfold State.nvRefuse
  try dsimp only
  repeat' first
    | with_reducible exact .refl _
    | with_reducible apply State.failed_kept
    | with_reducible apply State.health_kept
    | with_reducible apply State.setFlag_kept
    | split

theorem State.nvWrite_kept {s₀ : State} {k : Nat} {bytes : List Byte} {handle : Option Nat} {s : State} (h₀ : Kept s₀ s) :
    Kept s₀ (State.nvWrite k bytes handle s) := by
  refine h₀.trans ?_
  unfold State.nvWrite
  try dsimp only
  repeat' first
    | with_reducible exact .refl _
    | with_reducible apply State.nvRefuse_kept
    | with_reducible apply State.queueErases_kept
    | with_reducible apply State.queueWrites_kept
    | split

theorem State.nvCommitted_kept {s₀ : State} {k : Nat} {handle : Option Nat} {s : State} (h₀ : Kept s₀ s) :
    Kept s₀ (State.nvCommitted k handle s) := by
  refine h₀.trans ?_
  unfold State.nvCommitted
  try dsimp only
  repeat' first
    | with_reducible exact .refl _
    | with_reducible apply State.succeed_kept
    | with_reducible apply State.queueErases_kept
    | with_reducible apply State.modNvCtl_kept
    | split

theorem State.nvPageDone_kept {s₀ : State} {s : State} (h₀ : Kept s₀ s) :
    Kept s₀ (State.nvPageDone s) := by
  refine h₀.trans ?_
  unfold State.nvPageDone
  try dsimp only
  repeat' first
    | with_reducible exact .refl _
    | with_reducible apply State.nvCommitted_kept
    | with_reducible apply State.setFlag_kept
    | with_reducible apply State.cond_kept
    | with_reducible apply State.modNvCtl_kept
    | with_reducible apply State.modNv_kept
    | with_reducible apply State.modPower_kept
    | with_reducible exact Memory.wf_write _ _ _
    | split
    | intro _

theorem State.nvEraseDone_kept {s₀ : State} {s : State} (h₀ : Kept s₀ s) :
    Kept s₀ (State.nvEraseDone s) := by
  refine h₀.trans ?_
  unfold State.nvEraseDone
  try dsimp only
  repeat' first
    | with_reducible exact .refl _
    | with_reducible apply State.modNvCtl_kept
    | with_reducible apply State.modNv_kept
    | with_reducible exact Memory.wf_write _ _ _
    | split

theorem State.nvStop_kept {s₀ : State} {s : State} (h₀ : Kept s₀ s) :
    Kept s₀ (State.nvStop s) := by
  refine h₀.trans ?_
  unfold State.nvStop
  try dsimp only
  repeat' first
    | with_reducible exact .refl _
    | with_reducible apply State.nvRefuse_kept
    | with_reducible apply State.setFlag_kept
    | with_reducible apply State.cond_kept
    | with_reducible apply State.each_kept
    | with_reducible apply State.modNvCtl_kept
    | split
    | intro _

theorem State.nvResume_kept {s₀ : State} {s : State} (h₀ : Kept s₀ s) :
    Kept s₀ (State.nvResume s) := by
  refine h₀.trans ?_
  unfold State.nvResume
  try dsimp only
  repeat' first
    | with_reducible exact .refl _
    | with_reducible apply State.logBy_kept
    | with_reducible apply State.logOne_kept
    | with_reducible apply State.each_kept
    | with_reducible apply State.modNvCtl_kept
    | intro _

theorem State.loadInter_kept {s₀ : State} {s : State} (h₀ : Kept s₀ s) :
    Kept s₀ (State.loadInter s) := by
  refine h₀.trans ?_
  unfold State.loadInter
  try dsimp only
  repeat' first
    | with_reducible exact .refl _
    | with_reducible apply State.setInter_kept
    | with_reducible apply State.each_kept
    | intro _

theorem State.calApply_kept {s₀ : State} {m : Nat} {s : State} (h₀ : Kept s₀ s) :
    Kept s₀ (State.calApply m s) := by
  refine h₀.trans ?_
  unfold State.calApply
  try dsimp only
  repeat' first
    | with_reducible exact .refl _
    | with_reducible apply State.loadInter_kept
    | with_reducible apply State.each_kept
    | with_reducible apply State.modPort_kept
    | with_reducible apply State.modCal_kept
    | split
    | intro _

theorem State.loadCounters_kept {s₀ : State} {s : State} (h₀ : Kept s₀ s) :
    Kept s₀ (State.loadCounters s) := by
  refine h₀.trans ?_
  unfold State.loadCounters
  try dsimp only
  repeat' first
    | with_reducible exact .refl _
    | with_reducible apply State.modTrust_kept
    | with_reducible exact id
    | split

end Sys2Proof.Machine
end

