-- ==== Sys2Proof/Laws/KeptHeads.lean ====
section
/-! SUPPORT. What the operations of Machine/Heads.lean keep. -/

namespace Sys2Proof.Machine

theorem State.modView_kept {s₀ : State} {n : Nat} {b : Nat} {g : BoardView → BoardView} {s : State} (h₀ : Kept s₀ s) :
    Kept s₀ (State.modView n b g s) := by
  refine h₀.trans ?_
  unfold State.modView
  try dsimp only
  repeat' first
    | with_reducible exact .refl _
    | with_reducible apply State.modPort_kept

theorem State.addCharge_kept {s₀ : State} {a : Account} {x : Tick} {e : Nat} {s : State} (h₀ : Kept s₀ s) :
    Kept s₀ (State.addCharge a x e s) := by
  refine h₀.trans ?_
  unfold State.addCharge
  try dsimp only
  repeat' first
    | with_reducible exact .refl _
    | with_reducible apply State.modWhorl_kept

theorem State.noteSum_kept {s₀ : State} {a : Account} {n : Nat} {sum : Nat} {s : State} (h₀ : Kept s₀ s) :
    Kept s₀ (State.noteSum a n sum s) := by
  refine h₀.trans ?_
  unfold State.noteSum
  try dsimp only
  repeat' first
    | with_reducible exact .refl _
    | with_reducible apply State.modPort_kept

theorem State.blame_kept {s₀ : State} {n : Nat} {a : Account} {s : State} (h₀ : Kept s₀ s) :
    Kept s₀ (State.blame n a s) := by
  refine h₀.trans ?_
  unfold State.blame
  try dsimp only
  repeat' first
    | with_reducible exact .refl _
    | with_reducible apply State.event_kept
    | with_reducible apply State.cond_kept
    | with_reducible apply State.modWhorl_kept
    | intro _

theorem State.noteSums_kept {s₀ : State} {e : Nat} {x : Tick} {energy : Nat} {s : State} (h₀ : Kept s₀ s) :
    Kept s₀ (State.noteSums e x energy s) := by
  refine h₀.trans ?_
  unfold State.noteSums
  try dsimp only
  repeat' first
    | with_reducible exact .refl _
    | with_reducible apply State.noteSum_kept
    | with_reducible apply State.each_kept
    | intro _

theorem State.chargeAll_kept {s₀ : State} {e : Nat} {x : Tick} {energy : Nat} {s : State} (h₀ : Kept s₀ s) :
    Kept s₀ (State.chargeAll e x energy s) := by
  refine h₀.trans ?_
  unfold State.chargeAll
  try dsimp only
  repeat' first
    | with_reducible exact .refl _
    | with_reducible apply State.addCharge_kept
    | with_reducible apply State.each_kept
    | intro _

theorem State.verdictOf_kept {s₀ : State} {i : Nat} {s : State} (h₀ : Kept s₀ s) :
    Kept s₀ (State.verdictOf i s) := by
  refine h₀.trans ?_
  unfold State.verdictOf
  try dsimp only
  repeat' first
    | with_reducible exact .refl _
    | with_reducible apply State.chargeAll_kept
    | with_reducible apply State.noteSums_kept
    | with_reducible apply State.blame_kept
    | with_reducible apply State.retire_kept
    | with_reducible apply State.each_kept
    | with_reducible apply State.count_kept
    | with_reducible apply State.modEntry_kept
    | split
    | intro _

theorem State.uncharge_kept {s₀ : State} {a : Account} {x : Tick} {e : Nat} {s : State} (h₀ : Kept s₀ s) :
    Kept s₀ (State.uncharge a x e s) := by
  refine h₀.trans ?_
  unfold State.uncharge
  try dsimp only
  repeat' first
    | with_reducible exact .refl _
    | with_reducible apply State.modWhorl_kept

theorem State.refuseEarlier_kept {s₀ : State} {k : Nat} {x : Nat × Entry} {s : State} (h₀ : Kept s₀ s) :
    Kept s₀ (State.refuseEarlier k x s) := by
  refine h₀.trans ?_
  unfold State.refuseEarlier
  try dsimp only
  repeat' first
    | with_reducible exact .refl _
    | with_reducible apply State.unsay_kept
    | with_reducible apply State.cond_kept
    | with_reducible apply State.each_kept
    | with_reducible apply State.count_kept
    | with_reducible apply State.modEntry_kept
    | with_reducible apply State.modWhorl_kept
    | intro _

theorem State.refuseNow_kept {s₀ : State} {pick : Entry → Bool} {k : Nat} {s : State} (h₀ : Kept s₀ s) :
    Kept s₀ (State.refuseNow pick k s) := by
  refine h₀.trans ?_
  unfold State.refuseNow
  try dsimp only
  repeat' first
    | with_reducible exact .refl _
    | with_reducible apply State.refuseEarlier_kept
    | with_reducible apply State.uncharge_kept
    | with_reducible apply State.retire_kept
    | with_reducible apply State.each_kept
    | with_reducible apply State.count_kept
    | with_reducible apply State.modEntry_kept
    | intro _

theorem State.recharge_kept {s₀ : State} {i : Nat} {s : State} (h₀ : Kept s₀ s) :
    Kept s₀ (State.recharge i s) := by
  refine h₀.trans ?_
  unfold State.recharge
  try dsimp only
  repeat' first
    | with_reducible exact .refl _
    | with_reducible apply State.chargeAll_kept
    | with_reducible apply State.noteSums_kept
    | with_reducible apply State.blame_kept
    | with_reducible apply State.cancel_kept
    | with_reducible apply State.each_kept
    | with_reducible apply State.count_kept
    | with_reducible apply State.modEntry_kept
    | split
    | intro _

theorem State.rechargePort_kept {s₀ : State} {n : Nat} {s : State} (h₀ : Kept s₀ s) :
    Kept s₀ (State.rechargePort n s) := by
  refine h₀.trans ?_
  unfold State.rechargePort
  try dsimp only
  repeat' first
    | with_reducible exact .refl _
    | with_reducible apply State.recharge_kept
    | with_reducible apply State.each_kept
    | split
    | intro _

theorem State.rebucket_kept {s₀ : State} {n : Nat} {old : List Nat} {new : List Nat} {s : State} (h₀ : Kept s₀ s) :
    Kept s₀ (State.rebucket n old new s) := by
  refine h₀.trans ?_
  unfold State.rebucket
  try dsimp only
  repeat' first
    | with_reducible exact .refl _
    | with_reducible apply State.modWhorl_kept

theorem State.fillAccounts_kept {s₀ : State} {n : Nat} {s : State} (h₀ : Kept s₀ s) :
    Kept s₀ (State.fillAccounts n s) := by
  refine h₀.trans ?_
  unfold State.fillAccounts
  try dsimp only
  repeat' first
    | with_reducible exact .refl _
    | with_reducible apply State.each_kept
    | with_reducible apply State.modWhorl_kept
    | intro _

end Sys2Proof.Machine
end

