-- ==== Sys2Proof/Laws/KeptPorts.lean ====
section
/-! SUPPORT. What the operations of Machine/Ports.lean keep. -/

namespace Sys2Proof.Machine

theorem State.placeKeepAlive_kept {s₀ : State} {n : Nat} {k : Nat} {start : Tick} {s : State} (h₀ : Kept s₀ s) :
    Kept s₀ (State.placeKeepAlive n k start s) := by
  refine h₀.trans ?_
  unfold State.placeKeepAlive
  try dsimp only
  repeat' first
    | with_reducible exact .refl _
    | with_reducible apply State.modPort_kept
    | split

theorem State.startKeepAlives_kept {s₀ : State} {n : Nat} {s : State} (h₀ : Kept s₀ s) :
    Kept s₀ (State.startKeepAlives n s) := by
  refine h₀.trans ?_
  unfold State.startKeepAlives
  try dsimp only
  repeat' first
    | with_reducible exact .refl _
    | with_reducible apply State.placeKeepAlive_kept

theorem State.sendSymbol_kept {s₀ : State} {n : Nat} {x : Tick} {payload : Nat} {s : State} (h₀ : Kept s₀ s) :
    Kept s₀ (State.sendSymbol n x payload s) := by
  refine h₀.trans ?_
  unfold State.sendSymbol
  try dsimp only
  repeat' first
    | with_reducible exact .refl _
    | with_reducible apply State.cond_kept
    | with_reducible apply State.modPort_kept
    | split
    | intro _

theorem State.sendKeepAlive_kept {s₀ : State} {n : Nat} {s : State} (h₀ : Kept s₀ s) :
    Kept s₀ (State.sendKeepAlive n s) := by
  refine h₀.trans ?_
  unfold State.sendKeepAlive
  try dsimp only
  repeat' first
    | with_reducible exact .refl _
    | with_reducible apply State.sendSymbol_kept
    | with_reducible apply State.each_kept
    | with_reducible apply State.modPort_kept
    | split
    | intro _

theorem State.sendComps_kept {s₀ : State} {n : Nat} {s : State} (h₀ : Kept s₀ s) :
    Kept s₀ (State.sendComps n s) := by
  refine h₀.trans ?_
  unfold State.sendComps
  try dsimp only
  repeat' first
    | with_reducible exact .refl _
    | with_reducible apply State.sendFrame_kept

theorem State.renewComps_kept {s₀ : State} {l : List Nat} {s : State} (h₀ : Kept s₀ s) :
    Kept s₀ (State.renewComps l s) := by
  refine h₀.trans ?_
  unfold State.renewComps
  try dsimp only
  repeat' first
    | with_reducible exact .refl _
    | with_reducible apply State.sendComps_kept
    | with_reducible apply State.cond_kept
    | with_reducible apply State.each_kept
    | intro _

theorem State.updateReports_kept {s₀ : State} {n : Nat} {s : State} (h₀ : Kept s₀ s) :
    Kept s₀ (State.updateReports n s) := by
  refine h₀.trans ?_
  unfold State.updateReports
  try dsimp only
  repeat' first
    | with_reducible exact .refl _
    | with_reducible apply State.sendFrame_kept
    | with_reducible apply State.modPort_kept
    | split

theorem State.missCrossing_kept {s₀ : State} {n : Nat} {s : State} (h₀ : Kept s₀ s) :
    Kept s₀ (State.missCrossing n s) := by
  refine h₀.trans ?_
  unfold State.missCrossing
  try dsimp only
  repeat' first
    | with_reducible exact .refl _
    | with_reducible apply State.setScanner_kept
    | split

theorem State.lostCrossing_kept {s₀ : State} {n : Nat} {s : State} (h₀ : Kept s₀ s) :
    Kept s₀ (State.lostCrossing n s) := by
  refine h₀.trans ?_
  unfold State.lostCrossing
  try dsimp only
  repeat' first
    | with_reducible exact .refl _
    | with_reducible apply State.missCrossing_kept
    | with_reducible apply State.cond_kept
    | intro _

theorem State.crossingMissing_kept {s₀ : State} {n : Nat} {s : State} (h₀ : Kept s₀ s) :
    Kept s₀ (State.crossingMissing n s) := by
  refine h₀.trans ?_
  unfold State.crossingMissing
  try dsimp only
  repeat' first
    | with_reducible exact .refl _
    | with_reducible apply State.missCrossing_kept
    | with_reducible apply State.cond_kept
    | intro _

theorem State.sendWord_kept {s₀ : State} {n : Nat} {b : Nat} {s : State} (h₀ : Kept s₀ s) :
    Kept s₀ (State.sendWord n b s) := by
  refine h₀.trans ?_
  unfold State.sendWord
  try dsimp only
  repeat' first
    | with_reducible exact .refl _
    | with_reducible apply State.modLamp_kept

theorem State.takeWord_kept {s₀ : State} {n : Nat} {type : Nat} {w : BitVec 18} {f : State → State} {s : State} (h_f : ∀ s, Kept s (f s)) (h₀ : Kept s₀ s) :
    Kept s₀ (State.takeWord n type w f s) := by
  refine h₀.trans ?_
  unfold State.takeWord
  try dsimp only
  repeat' first
    | with_reducible exact .refl _
    | with_reducible apply State.sendWord_kept
    | with_reducible apply State.cond_kept
    | with_reducible apply State.each_kept
    | with_reducible apply State.count_kept
    | with_reducible apply State.modLamp_kept
    | with_reducible apply State.modPort_kept
    | with_reducible refine Kept.trans ?_ (h_f _)
    | split
    | intro _

theorem State.scannerWord_kept {s₀ : State} {n : Nat} {w : BitVec 18} {s : State} (h₀ : Kept s₀ s) :
    Kept s₀ (State.scannerWord n w s) := by
  refine h₀.trans ?_
  unfold State.scannerWord
  try dsimp only
  repeat' first
    | with_reducible exact .refl _
    | with_reducible apply State.lostCrossing_kept
    | with_reducible apply State.scannerCrossing_kept
    | split

theorem State.unpower_kept {s₀ : State} {n : Nat} {s : State} (h₀ : Kept s₀ s) :
    Kept s₀ (State.unpower n s) := by
  refine h₀.trans ?_
  unfold State.unpower
  try dsimp only
  repeat' first
    | with_reducible exact .refl _
    | with_reducible apply State.each_kept
    | with_reducible apply State.modLamp_kept
    | intro _

theorem State.sendItem_kept {s₀ : State} {n : Nat} {b : Nat} {item : Nat} {v : Nat} {s : State} (h₀ : Kept s₀ s) :
    Kept s₀ (State.sendItem n b item v s) := by
  refine h₀.trans ?_
  unfold State.sendItem
  try dsimp only
  repeat' first
    | with_reducible exact .refl _
    | with_reducible apply State.modLamp_kept

theorem State.powerHead_kept {s₀ : State} {n : Nat} {head : List (List Byte)} {s : State} (h₀ : Kept s₀ s) :
    Kept s₀ (State.powerHead n head s) := by
  refine h₀.trans ?_
  unfold State.powerHead
  try dsimp only
  repeat' first
    | with_reducible exact .refl _
    | with_reducible apply State.sendItem_kept
    | with_reducible apply State.cond_kept
    | with_reducible apply State.each_kept
    | with_reducible apply State.modLamp_kept
    | split
    | intro _

theorem State.dropSync_kept {s₀ : State} {n : Nat} {s : State} (h₀ : Kept s₀ s) :
    Kept s₀ (State.dropSync n s) := by
  refine h₀.trans ?_
  unfold State.dropSync
  try dsimp only
  repeat' first
    | with_reducible exact .refl _
    | with_reducible apply State.busyAck_kept
    | with_reducible apply State.failedOpen_kept
    | with_reducible apply State.modPort_kept
    | split

theorem State.withdrawSync_kept {s₀ : State} {n : Nat} {s : State} (h₀ : Kept s₀ s) :
    Kept s₀ (State.withdrawSync n s) := by
  refine h₀.trans ?_
  unfold State.withdrawSync
  try dsimp only
  repeat' first
    | with_reducible exact .refl _
    | with_reducible apply State.modPort_kept

theorem State.setPort_kept {s₀ : State} {n : Nat} {st : PortState} {cause : Nat} {s : State} (h₀ : Kept s₀ s) :
    Kept s₀ (State.setPort n st cause s) := by
  refine h₀.trans ?_
  unfold State.setPort
  try dsimp only
  repeat' first
    | with_reducible exact .refl _
    | with_reducible apply State.dropSync_kept
    | with_reducible apply State.unpower_kept
    | with_reducible apply State.updateReports_kept
    | with_reducible apply State.startKeepAlives_kept
    | with_reducible apply State.refuseNow_kept
    | with_reducible apply State.updateScanner_kept
    | with_reducible apply State.updateGate_kept
    | with_reducible apply State.cancel_kept
    | with_reducible apply State.cond_kept
    | with_reducible apply State.modPort_kept
    | split
    | intro _

theorem State.rejectHead_kept {s₀ : State} {n : Nat} {cause : Nat} {s : State} (h₀ : Kept s₀ s) :
    Kept s₀ (State.rejectHead n cause s) := by
  refine h₀.trans ?_
  unfold State.rejectHead
  try dsimp only
  repeat' first
    | with_reducible exact .refl _
    | with_reducible apply State.setPort_kept
    | with_reducible apply State.portEvent_kept

theorem State.removeHead_kept {s₀ : State} {n : Nat} {cause : Nat} {s : State} (h₀ : Kept s₀ s) :
    Kept s₀ (State.removeHead n cause s) := by
  refine h₀.trans ?_
  unfold State.removeHead
  try dsimp only
  repeat' first
    | with_reducible exact .refl _
    | with_reducible apply State.setPort_kept
    | with_reducible apply State.portEvent_kept
    | with_reducible apply State.setFlag_kept

theorem State.tripPort_kept {s₀ : State} {n : Nat} {current : Nat} {s : State} (h₀ : Kept s₀ s) :
    Kept s₀ (State.tripPort n current s) := by
  refine h₀.trans ?_
  unfold State.tripPort
  try dsimp only
  repeat' first
    | with_reducible exact .refl _
    | with_reducible apply State.setPort_kept
    | with_reducible apply State.portEvent_kept
    | with_reducible apply State.setFlag_kept
    | split

theorem State.probePort_kept {s₀ : State} {n : Nat} {head : List (List Byte)} {s : State} (h₀ : Kept s₀ s) :
    Kept s₀ (State.probePort n head s) := by
  refine h₀.trans ?_
  unfold State.probePort
  try dsimp only
  repeat' first
    | with_reducible exact .refl _
    | with_reducible apply State.powerHead_kept
    | with_reducible apply State.modPort_kept
    | split

theorem State.headPresent_kept {s₀ : State} {n : Nat} {current : Nat} {s : State} (h₀ : Kept s₀ s) :
    Kept s₀ (State.headPresent n current s) := by
  refine h₀.trans ?_
  unfold State.headPresent
  try dsimp only
  repeat' first
    | with_reducible exact .refl _
    | with_reducible apply State.setPort_kept
    | with_reducible apply State.portEvent_kept
    | split

theorem State.reserveSync_kept {s₀ : State} {n : Nat} {a : Nat} {x : Tick} {handle : Option Nat} {s : State} (h₀ : Kept s₀ s) :
    Kept s₀ (State.reserveSync n a x handle s) := by
  refine h₀.trans ?_
  unfold State.reserveSync
  try dsimp only
  repeat' first
    | with_reducible exact .refl _
    | with_reducible apply State.rechargePort_kept
    | with_reducible apply State.modPort_kept

theorem State.renewCode_kept {s₀ : State} {n : Nat} {b : Nat} {i : Nat} {s : State} (h₀ : Kept s₀ s) :
    Kept s₀ (State.renewCode n b i s) := by
  refine h₀.trans ?_
  unfold State.renewCode
  try dsimp only
  repeat' first
    | with_reducible exact .refl _
    | with_reducible apply State.modView_kept

theorem State.sendCaps_kept {s₀ : State} {n : Nat} {s : State} (h₀ : Kept s₀ s) :
    Kept s₀ (State.sendCaps n s) := by
  refine h₀.trans ?_
  unfold State.sendCaps
  try dsimp only
  repeat' first
    | with_reducible exact .refl _
    | with_reducible apply State.renewCode_kept
    | with_reducible apply State.reserveSync_kept
    | with_reducible apply State.rechargePort_kept
    | with_reducible apply State.sendFrame_kept
    | with_reducible apply State.each_kept
    | with_reducible apply State.modPort_kept
    | split
    | intro _

theorem State.setCap_kept {s₀ : State} {n : Nat} {b : Nat} {temp : Nat} {cap : Nat} {s : State} (h₀ : Kept s₀ s) :
    Kept s₀ (State.setCap n b temp cap s) := by
  refine h₀.trans ?_
  unfold State.setCap
  try dsimp only
  repeat' first
    | with_reducible exact .refl _
    | with_reducible apply State.sendCaps_kept
    | with_reducible apply State.modView_kept
    | with_reducible apply State.portEvent_kept
    | with_reducible apply State.cond_kept
    | with_reducible apply State.modPort_kept
    | split
    | intro _

theorem State.boardTemp_kept {s₀ : State} {n : Nat} {b : Nat} {temp : Nat} {s : State} (h₀ : Kept s₀ s) :
    Kept s₀ (State.boardTemp n b temp s) := by
  refine h₀.trans ?_
  unfold State.boardTemp
  try dsimp only
  repeat' first
    | with_reducible exact .refl _
    | with_reducible apply State.setCap_kept
    | with_reducible apply State.modView_kept

theorem State.boardStale_kept {s₀ : State} {n : Nat} {b : Nat} {s : State} (h₀ : Kept s₀ s) :
    Kept s₀ (State.boardStale n b s) := by
  refine h₀.trans ?_
  unfold State.boardStale
  try dsimp only
  repeat' first
    | with_reducible exact .refl _
    | with_reducible apply State.boardTemp_kept
    | split

theorem State.boardState_kept {s₀ : State} {n : Nat} {b : Nat} {g : BoardView → BoardView} {s : State} (h₀ : Kept s₀ s) :
    Kept s₀ (State.boardState n b g s) := by
  refine h₀.trans ?_
  unfold State.boardState
  try dsimp only
  repeat' first
    | with_reducible exact .refl _
    | with_reducible apply State.modView_kept
    | with_reducible apply State.portEvent_kept
    | split

theorem State.chainLength_kept {s₀ : State} {n : Nat} {v : Nat} {s : State} (h₀ : Kept s₀ s) :
    Kept s₀ (State.chainLength n v s) := by
  refine h₀.trans ?_
  unfold State.chainLength
  try dsimp only
  repeat' first
    | with_reducible exact .refl _
    | with_reducible apply State.removeHead_kept
    | with_reducible apply State.sendFrame_kept
    | with_reducible apply State.modPort_kept
    | split

theorem State.statusWord_kept {s₀ : State} {n : Nat} {w : BitVec 18} {s : State} (h₀ : Kept s₀ s) :
    Kept s₀ (State.statusWord n w s) := by
  refine h₀.trans ?_
  unfold State.statusWord
  try dsimp only
  repeat' first
    | with_reducible exact .refl _
    | with_reducible apply State.chainLength_kept
    | with_reducible apply State.boardState_kept
    | with_reducible apply State.boardTemp_kept
    | with_reducible apply State.modView_kept
    | with_reducible apply State.cond_kept
    | split
    | intro _

theorem State.descriptorBits_kept {s₀ : State} {n : Nat} {w : BitVec 18} {s : State} (h₀ : Kept s₀ s) :
    Kept s₀ (State.descriptorBits n w s) := by
  refine h₀.trans ?_
  unfold State.descriptorBits
  try dsimp only
  repeat' first
    | with_reducible exact .refl _
    | with_reducible apply State.sendWord_kept
    | with_reducible apply State.modView_kept
    | split

theorem State.clearLatencies_kept {s₀ : State} {n : Nat} {s : State} (h₀ : Kept s₀ s) :
    Kept s₀ (State.clearLatencies n s) := by
  refine h₀.trans ?_
  unfold State.clearLatencies
  try dsimp only
  repeat' first
    | with_reducible exact .refl _
    | with_reducible apply State.modCal_kept

theorem State.headVerified_kept {s₀ : State} {n : Nat} {old : List Nat} {s : State} (h₀ : Kept s₀ s) :
    Kept s₀ (State.headVerified n old s) := by
  refine h₀.trans ?_
  unfold State.headVerified
  try dsimp only
  repeat' first
    | with_reducible exact .refl _
    | with_reducible apply State.clearLatencies_kept
    | with_reducible apply State.sendComps_kept
    | with_reducible apply State.rebucket_kept
    | with_reducible apply State.updateGate_kept
    | with_reducible apply State.portEvent_kept
    | with_reducible apply State.event_kept
    | with_reducible apply State.cond_kept
    | with_reducible apply State.modPort_kept
    | intro _

theorem State.checkDescriptor_kept {s₀ : State} {n : Nat} {b : Nat} {s : State} (h₀ : Kept s₀ s) :
    Kept s₀ (State.checkDescriptor n b s) := by
  refine h₀.trans ?_
  unfold State.checkDescriptor
  try dsimp only
  repeat' first
    | with_reducible exact .refl _
    | with_reducible apply State.headVerified_kept
    | with_reducible apply State.boardTemp_kept
    | with_reducible apply State.rejectHead_kept
    | with_reducible apply State.modView_kept
    | split

theorem State.noteMsgs_kept {s₀ : State} {n : Nat} {q : Asked} {s : State} (h₀ : Kept s₀ s) :
    Kept s₀ (State.noteMsgs n q s) := by
  refine h₀.trans ?_
  unfold State.noteMsgs
  try dsimp only
  repeat' first
    | with_reducible exact .refl _
    | with_reducible apply State.modView_kept
    | with_reducible apply State.each_kept
    | split
    | intro _

theorem State.boardSettings_kept {s₀ : State} {n : Nat} {msgs : List (Nat × BoardMsg)} {h : Hdr} {handle : Nat} {s : State} (h₀ : Kept s₀ s) :
    Kept s₀ (State.boardSettings n msgs h handle s) := by
  refine h₀.trans ?_
  unfold State.boardSettings
  try dsimp only
  repeat' first
    | with_reducible exact .refl _
    | with_reducible apply State.sendFrame_kept
    | with_reducible apply State.each_kept
    | with_reducible apply State.modPort_kept
    | intro _

theorem State.offerSync_kept {s₀ : State} {n : Nat} {s : State} (h₀ : Kept s₀ s) :
    Kept s₀ (State.offerSync n s) := by
  refine h₀.trans ?_
  unfold State.offerSync
  try dsimp only
  repeat' first
    | with_reducible exact .refl _
    | with_reducible apply State.noteMsgs_kept
    | with_reducible apply State.sendCaps_kept
    | with_reducible apply State.reserveSync_kept
    | with_reducible apply State.busyAck_kept
    | with_reducible apply State.payAck_kept
    | with_reducible apply State.cond_kept
    | with_reducible apply State.modPort_kept
    | split
    | intro _

theorem State.offerSyncs_kept {s₀ : State} {s : State} (h₀ : Kept s₀ s) :
    Kept s₀ (State.offerSyncs s) := by
  refine h₀.trans ?_
  unfold State.offerSyncs
  try dsimp only
  repeat' first
    | with_reducible exact .refl _
    | with_reducible apply State.offerSync_kept
    | with_reducible apply State.each_kept
    | intro _

theorem State.payAcks_kept {s₀ : State} {s : State} (h₀ : Kept s₀ s) :
    Kept s₀ (State.payAcks s) := by
  refine h₀.trans ?_
  unfold State.payAcks
  try dsimp only
  repeat' first
    | with_reducible exact .refl _
    | with_reducible apply State.payAck_kept
    | with_reducible apply State.cond_kept
    | with_reducible apply State.each_kept
    | intro _

theorem State.sendSync_kept {s₀ : State} {n : Nat} {s : State} (h₀ : Kept s₀ s) :
    Kept s₀ (State.sendSync n s) := by
  refine h₀.trans ?_
  unfold State.sendSync
  try dsimp only
  repeat' first
    | with_reducible exact .refl _
    | with_reducible apply State.sendCaps_kept
    | with_reducible apply State.sendSymbol_kept
    | with_reducible apply State.modView_kept
    | with_reducible apply State.completeWith_kept
    | with_reducible apply State.cond_kept
    | with_reducible apply State.each_kept
    | with_reducible apply State.modPort_kept
    | split
    | intro _

end Sys2Proof.Machine
end

