-- ==== Sys2Proof/Laws/KeptBoards.lean ====
section
/-! SUPPORT. What the operations of Machine/Boards.lean keep. -/

namespace Sys2Proof.Machine

theorem State.treadle_kept {s₀ : State} {n : Nat} {b : Nat} {s : State} (h₀ : Kept s₀ s) :
    Kept s₀ (State.treadle n b s) := by
  refine h₀.trans ?_
  unfold State.treadle
  try dsimp only
  repeat' first
    | with_reducible exact .refl _
    | with_reducible apply State.modLamp_kept

theorem State.onBoard_kept {s₀ : State} {n : Nat} {b : Nat} {g : Board → Board} {s : State} (h₀ : Kept s₀ s) :
    Kept s₀ (State.onBoard n b g s) := by
  refine h₀.trans ?_
  unfold State.onBoard
  try dsimp only
  repeat' first
    | with_reducible exact .refl _
    | with_reducible apply State.treadle_kept
    | with_reducible apply State.sendItem_kept
    | with_reducible apply State.cond_kept
    | with_reducible apply State.modLamp_kept
    | split
    | intro _

theorem State.boardFrame_kept {s₀ : State} {n : Nat} {b : Nat} {bytes : List Byte} {s : State} (h₀ : Kept s₀ s) :
    Kept s₀ (State.boardFrame n b bytes s) := by
  refine h₀.trans ?_
  unfold State.boardFrame
  try dsimp only
  repeat' first
    | with_reducible exact .refl _
    | with_reducible apply State.onBoard_kept
    | split

theorem State.boardPulses_kept {s₀ : State} {n : Nat} {b : Nat} {pulses : List Nat} {s : State} (h₀ : Kept s₀ s) :
    Kept s₀ (State.boardPulses n b pulses s) := by
  refine h₀.trans ?_
  unfold State.boardPulses
  try dsimp only
  repeat' first
    | with_reducible exact .refl _
    | with_reducible apply State.boardFrame_kept
    | with_reducible apply State.onBoard_kept
    | split

theorem State.boardSymbol_kept {s₀ : State} {n : Nat} {b : Nat} {x : BitVec 10} {type : Nat} {g : Nat → Board → Board} {s : State} (h₀ : Kept s₀ s) :
    Kept s₀ (State.boardSymbol n b x type g s) := by
  refine h₀.trans ?_
  unfold State.boardSymbol
  try dsimp only
  repeat' first
    | with_reducible exact .refl _
    | with_reducible apply State.onBoard_kept
    | split

theorem State.boardSends_kept {s₀ : State} {n : Nat} {b : Nat} {temp : Nat} {s : State} (h₀ : Kept s₀ s) :
    Kept s₀ (State.boardSends n b temp s) := by
  refine h₀.trans ?_
  unfold State.boardSends
  try dsimp only
  repeat' first
    | with_reducible exact .refl _
    | with_reducible apply State.onBoard_kept
    | with_reducible apply State.sendItem_kept
    | with_reducible apply State.cond_kept
    | split
    | intro _

end Sys2Proof.Machine
end

