-- ==== Sys2Proof/Laws/KeptApply.lean ====
section
/-! SUPPORT. What the operations of Machine/Apply.lean keep. -/

namespace Sys2Proof.Machine

theorem State.renumber_kept {s₀ : State} {n0 : Nat} {n1 : Nat} {s : State} (h₀ : Kept s₀ s) :
    Kept s₀ (State.renumber n0 n1 s) := by
  refine h₀.trans ?_
  unfold State.renumber
  try dsimp only
  repeat' first
    | with_reducible exact .refl _
    | with_reducible apply State.cond_kept
    | with_reducible apply State.each_kept
    | with_reducible apply State.modGroup_kept
    | with_reducible apply State.modEntry_kept
    | with_reducible apply State.modFlyer_kept
    | with_reducible apply State.modDist_kept
    | with_reducible apply State.modSpindle_kept
    | split
    | intro _

theorem State.setLoad_kept {s₀ : State} {l : Option Nat} {s : State} (h₀ : Kept s₀ s) :
    Kept s₀ (State.setLoad l s) := by
  refine h₀.trans ?_
  unfold State.setLoad
  try dsimp only
  repeat' first
    | with_reducible exact .refl _
    | with_reducible apply State.renumber_kept
    | with_reducible apply State.modSpindle_kept

theorem State.beforeParam_kept {s₀ : State} {id : Nat} {target : Nat} {s : State} (h₀ : Kept s₀ s) :
    Kept s₀ (State.beforeParam id target s) := by
  refine h₀.trans ?_
  unfold State.beforeParam
  try dsimp only
  repeat' first
    | with_reducible exact .refl _
    | with_reducible apply State.cutReading_kept
    | with_reducible apply State.combineBank_kept
    | with_reducible apply State.modBias_kept
    | split

theorem State.linesChanged_kept {s₀ : State} {s : State} (h₀ : Kept s₀ s) :
    Kept s₀ (State.linesChanged s) := by
  refine h₀.trans ?_
  unfold State.linesChanged
  try dsimp only
  repeat' first
    | with_reducible exact .refl _
    | with_reducible apply State.declareLost_kept
    | with_reducible apply State.discardSeed_kept
    | with_reducible apply State.rateFault_kept
    | with_reducible apply State.modSpindle_kept
    | split

theorem State.afterTiming_kept {s₀ : State} {id : Nat} {s : State} (h₀ : Kept s₀ s) :
    Kept s₀ (State.afterTiming id s) := by
  refine h₀.trans ?_
  unfold State.afterTiming
  try dsimp only
  repeat' first
    | with_reducible exact .refl _
    | with_reducible apply State.linesChanged_kept
    | with_reducible apply State.updateReports_kept
    | with_reducible apply State.driftChosen_kept
    | with_reducible apply State.updateScanner_kept
    | with_reducible apply State.applyTimingMode_kept
    | with_reducible apply State.each_kept
    | split
    | intro _

theorem State.afterChannel_kept {s₀ : State} {id : Nat} {c : Nat} {old : Nat} {s : State} (h₀ : Kept s₀ s) :
    Kept s₀ (State.afterChannel id c old s) := by
  refine h₀.trans ?_
  unfold State.afterChannel
  try dsimp only
  repeat' first
    | with_reducible exact .refl _
    | with_reducible apply State.leaveWaveform_kept
    | with_reducible apply State.analogueHosted_kept
    | with_reducible apply State.levelHosted_kept
    | with_reducible apply State.cohClear_kept
    | with_reducible apply State.trigApplied_kept
    | with_reducible apply State.applyMode_kept
    | with_reducible apply State.startBlock_kept
    | with_reducible apply State.applyRanging_kept
    | with_reducible apply State.cond_kept
    | split
    | intro _

theorem State.afterBank_kept {s₀ : State} {id : Nat} {b : Nat} {s : State} (h₀ : Kept s₀ s) :
    Kept s₀ (State.afterBank id b s) := by
  refine h₀.trans ?_
  unfold State.afterBank
  try dsimp only
  repeat' first
    | with_reducible exact .refl _
    | with_reducible apply State.cohClear_kept
    | with_reducible apply State.applyBiasEnable_kept
    | with_reducible apply State.retarget_kept
    | with_reducible apply State.modBias_kept
    | with_reducible apply State.cond_kept
    | with_reducible apply State.each_kept
    | with_reducible apply State.modBank_kept
    | split
    | intro _

theorem State.afterParam_kept {s₀ : State} {id : Nat} {target : Nat} {old : Nat} {s : State} (h₀ : Kept s₀ s) :
    Kept s₀ (State.afterParam id target old s) := by
  refine h₀.trans ?_
  unfold State.afterParam
  try dsimp only
  repeat' first
    | with_reducible exact .refl _
    | with_reducible apply State.afterBank_kept
    | with_reducible apply State.afterChannel_kept
    | with_reducible apply State.afterTiming_kept
    | with_reducible apply State.prescalerApplied_kept
    | with_reducible apply State.startTimer_kept
    | with_reducible apply State.referenceChanged_kept
    | with_reducible apply State.cond_kept
    | split
    | intro _

theorem State.applyItem_kept {s₀ : State} {target : Nat} {i : Item} {s : State} (h₀ : Kept s₀ s) :
    Kept s₀ (State.applyItem target i s) := by
  refine h₀.trans ?_
  unfold State.applyItem
  try dsimp only
  repeat' first
    | with_reducible exact .refl _
    | with_reducible apply State.afterParam_kept
    | with_reducible apply State.beforeParam_kept
    | with_reducible apply State.setLoad_kept
    | with_reducible apply State.setHop_kept
    | with_reducible apply State.setParam_kept
    | split

theorem State.flipCopy_kept {s₀ : State} {b : Nat} {s : State} (h₀ : Kept s₀ s) :
    Kept s₀ (State.flipCopy b s) := by
  refine h₀.trans ?_
  unfold State.flipCopy
  try dsimp only
  repeat' first
    | with_reducible exact .refl _
    | with_reducible apply State.modBank_kept

theorem State.syncReduced_kept {s₀ : State} {s : State} (h₀ : Kept s₀ s) :
    Kept s₀ (State.syncReduced s) := by
  refine h₀.trans ?_
  unfold State.syncReduced
  try dsimp only
  repeat' first
    | with_reducible exact .refl _
    | with_reducible apply State.restartNoise_kept
    | with_reducible apply State.cond_kept
    | with_reducible apply State.each_kept
    | with_reducible apply State.modBank_kept
    | with_reducible apply State.modCal_kept
    | intro _

theorem State.withSwapMarks_kept {s₀ : State} {f : State → State} {s : State} (h_f : ∀ s, Kept s (f s)) (h₀ : Kept s₀ s) :
    Kept s₀ (State.withSwapMarks f s) := by
  refine h₀.trans ?_
  unfold State.withSwapMarks
  try dsimp only
  repeat' first
    | with_reducible exact .refl _
    | with_reducible apply State.markBank_kept
    | with_reducible apply State.cond_kept
    | with_reducible apply State.each_kept
    | with_reducible apply State.modBank_kept
    | with_reducible refine Kept.trans ?_ (h_f _)
    | intro _

theorem State.reducedNow_kept {s₀ : State} {s : State} (h₀ : Kept s₀ s) :
    Kept s₀ (State.reducedNow s) := by
  refine h₀.trans ?_
  unfold State.reducedNow
  try dsimp only
  repeat' first
    | with_reducible exact .refl _
    | with_reducible apply State.withSwapMarks_kept
    | with_reducible apply State.syncReduced_kept
    | with_reducible apply State.cond_kept
    | intro _

theorem State.applyRestore_kept {s₀ : State} {s : State} (h₀ : Kept s₀ s) :
    Kept s₀ (State.applyRestore s) := by
  refine h₀.trans ?_
  unfold State.applyRestore
  try dsimp only
  repeat' first
    | with_reducible exact .refl _
    | with_reducible apply State.renewComps_kept
    | with_reducible apply State.calApply_kept
    | with_reducible apply State.markChan_kept
    | with_reducible apply State.cond_kept
    | with_reducible apply State.each_kept
    | intro _

theorem State.applyChange_kept {s₀ : State} {c : Change} {s : State} (h₀ : Kept s₀ s) :
    Kept s₀ (State.applyChange c s) := by
  refine h₀.trans ?_
  unfold State.applyChange
  try dsimp only
  repeat' first
    | with_reducible exact .refl _
    | with_reducible apply State.applyRestore_kept
    | with_reducible apply State.flipCopy_kept
    | with_reducible apply State.applyItem_kept
    | with_reducible apply State.setHop_kept
    | with_reducible apply State.modFlyer_kept
    | split

theorem State.dropChange_kept {s₀ : State} {c : Change} {s : State} (h₀ : Kept s₀ s) :
    Kept s₀ (State.dropChange c s) := by
  refine h₀.trans ?_
  unfold State.dropChange
  try dsimp only
  repeat' first
    | with_reducible exact .refl _
    | with_reducible apply State.modBank_kept
    | split

theorem State.applyStaged_kept {s₀ : State} {x : Staged} {boundary : Option LineTime} {s : State} (h₀ : Kept s₀ s) :
    Kept s₀ (State.applyStaged x boundary s) := by
  refine h₀.trans ?_
  unfold State.applyStaged
  try dsimp only
  repeat' first
    | with_reducible exact .refl _
    | with_reducible apply State.applyChange_kept
    | with_reducible apply State.completeWith_kept
    | with_reducible apply State.each_kept
    | split
    | intro _

theorem State.stage_kept {s₀ : State} {h : Hdr} {handle : Nat} {changes : List Change} {s : State} (h₀ : Kept s₀ s) :
    Kept s₀ (State.stage h handle changes s) := by
  refine h₀.trans ?_
  unfold State.stage
  try dsimp only
  repeat' first
    | with_reducible exact .refl _
    | with_reducible apply State.cond_kept
    | with_reducible apply State.modDist_kept
    | intro _

theorem State.change_kept {s₀ : State} {staging : Bool} {h : Hdr} {changes : List Change} {handle : Nat} {s : State} (h₀ : Kept s₀ s) :
    Kept s₀ (State.change staging h changes handle s) := by
  refine h₀.trans ?_
  unfold State.change
  try dsimp only
  repeat' first
    | with_reducible exact .refl _
    | with_reducible apply State.stage_kept
    | with_reducible apply State.applyStaged_kept
    | with_reducible apply State.withSwapMarks_kept
    | split
    | intro _

theorem State.applyDue_kept {s₀ : State} {s : State} (h₀ : Kept s₀ s) :
    Kept s₀ (State.applyDue s) := by
  refine h₀.trans ?_
  unfold State.applyDue
  try dsimp only
  repeat' first
    | with_reducible exact .refl _
    | with_reducible apply State.applyStaged_kept
    | with_reducible apply State.withSwapMarks_kept
    | with_reducible apply State.syncReduced_kept
    | with_reducible apply State.each_kept
    | with_reducible apply State.modDist_kept
    | intro _

theorem State.settleStaged_kept {s₀ : State} {s : State} (h₀ : Kept s₀ s) :
    Kept s₀ (State.settleStaged s) := by
  refine h₀.trans ?_
  unfold State.settleStaged
  try dsimp only
  repeat' first
    | with_reducible exact .refl _
    | with_reducible apply State.dropChange_kept
    | with_reducible apply State.applyChange_kept
    | with_reducible apply State.withSwapMarks_kept
    | with_reducible apply State.aborted_kept
    | with_reducible apply State.completeWith_kept
    | with_reducible apply State.each_kept
    | with_reducible apply State.modDist_kept
    | split
    | intro _

theorem State.awaitOrigin_kept {s₀ : State} {changes : List Change} {items : List Item} {handle : Nat} {s : State} (h₀ : Kept s₀ s) :
    Kept s₀ (State.awaitOrigin changes items handle s) := by
  refine h₀.trans ?_
  unfold State.awaitOrigin
  try dsimp only
  repeat' first
    | with_reducible exact .refl _
    | with_reducible apply State.modDist_kept
    | with_reducible apply State.modSpindle_kept

theorem State.originsGone_kept {s₀ : State} {s : State} (h₀ : Kept s₀ s) :
    Kept s₀ (State.originsGone s) := by
  refine h₀.trans ?_
  unfold State.originsGone
  try dsimp only
  repeat' first
    | with_reducible exact .refl _
    | with_reducible apply State.applyDue_kept
    | with_reducible apply State.cond_kept
    | intro _

end Sys2Proof.Machine
end

