-- ==== Sys2Proof/Laws/KeptTransitions.lean ====
section
/-! SUPPORT. What the operations of Machine/Transitions.lean keep. -/

namespace Sys2Proof.Machine

theorem State.setLink_kept {s₀ : State} {st : LinkState} {s : State} (h₀ : Kept s₀ s) :
    Kept s₀ (State.setLink st s) := by
  refine h₀.trans ?_
  unfold State.setLink
  try dsimp only
  repeat' first
    | with_reducible exact .refl _
    | with_reducible apply State.log_kept
    | with_reducible apply State.setFlag_kept
    | with_reducible apply State.cond_kept
    | with_reducible apply State.modLink_kept
    | split
    | intro _

theorem State.linkDetect_kept {s₀ : State} {s : State} (h₀ : Kept s₀ s) :
    Kept s₀ (State.linkDetect s) := by
  refine h₀.trans ?_
  unfold State.linkDetect
  try dsimp only
  repeat' first
    | with_reducible exact .refl _
    | with_reducible apply State.setLink_kept
    | with_reducible apply State.modLink_kept

theorem State.dropBob_kept {s₀ : State} {c : Nat} {k : Nat} {s : State} (h₀ : Kept s₀ s) :
    Kept s₀ (State.dropBob c k s) := by
  refine h₀.trans ?_
  unfold State.dropBob
  try dsimp only
  repeat' first
    | with_reducible exact .refl _
    | with_reducible apply State.modBob_kept
    | with_reducible apply State.discard_kept
    | with_reducible apply State.cond_kept
    | intro _

theorem State.dropBobs_kept {s₀ : State} {h : Nat} {s : State} (h₀ : Kept s₀ s) :
    Kept s₀ (State.dropBobs h s) := by
  refine h₀.trans ?_
  unfold State.dropBobs
  try dsimp only
  repeat' first
    | with_reducible exact .refl _
    | with_reducible apply State.dropBob_kept
    | with_reducible apply State.bobFinish_kept
    | with_reducible apply State.modBob_kept
    | with_reducible apply State.cond_kept
    | with_reducible apply State.each_kept
    | split
    | intro _

theorem State.dropInject_kept {s₀ : State} {h : Nat} {s : State} (h₀ : Kept s₀ s) :
    Kept s₀ (State.dropInject h s) := by
  refine h₀.trans ?_
  unfold State.dropInject
  try dsimp only
  repeat' first
    | with_reducible exact .refl _
    | with_reducible apply State.hkSlot_kept
    | with_reducible apply State.modHk_kept
    | split

theorem State.dropNv_kept {s₀ : State} {h : Nat} {s : State} (h₀ : Kept s₀ s) :
    Kept s₀ (State.dropNv h s) := by
  refine h₀.trans ?_
  unfold State.dropNv
  try dsimp only
  repeat' first
    | with_reducible exact .refl _
    | with_reducible apply State.modNvCtl_kept

theorem State.dropStaged_kept {s₀ : State} {h : Nat} {s : State} (h₀ : Kept s₀ s) :
    Kept s₀ (State.dropStaged h s) := by
  refine h₀.trans ?_
  unfold State.dropStaged
  try dsimp only
  repeat' first
    | with_reducible exact .refl _
    | with_reducible apply State.dropChange_kept
    | with_reducible apply State.each_kept
    | with_reducible apply State.modDist_kept
    | with_reducible apply State.modSpindle_kept
    | intro _

theorem State.dropOther_kept {s₀ : State} {h : Nat} {s : State} (h₀ : Kept s₀ s) :
    Kept s₀ (State.dropOther h s) := by
  refine h₀.trans ?_
  unfold State.dropOther
  try dsimp only
  repeat' first
    | with_reducible exact .refl _
    | with_reducible apply State.linkDetect_kept
    | with_reducible apply State.cond_kept
    | with_reducible apply State.each_kept
    | with_reducible apply State.modGroup_kept
    | with_reducible apply State.modTrust_kept
    | with_reducible apply State.modLink_kept
    | with_reducible exact id
    | intro _

theorem State.dropJobs_kept {s₀ : State} {h : Nat} {s : State} (h₀ : Kept s₀ s) :
    Kept s₀ (State.dropJobs h s) := by
  refine h₀.trans ?_
  unfold State.dropJobs
  try dsimp only
  repeat' first
    | with_reducible exact .refl _
    | with_reducible apply State.dropOther_kept
    | with_reducible apply State.dropStaged_kept
    | with_reducible apply State.dropNv_kept
    | with_reducible apply State.dropInject_kept
    | with_reducible apply State.dropBobs_kept
    | with_reducible apply State.withdrawSync_kept
    | with_reducible apply State.busyAck_kept
    | with_reducible apply State.payAck_kept
    | with_reducible apply State.cond_kept
    | with_reducible apply State.each_kept
    | with_reducible apply State.modAux_kept
    | with_reducible apply State.modRuns_kept
    | intro _

theorem State.abortLive_kept {s₀ : State} {self : Option Nat} {s : State} (h₀ : Kept s₀ s) :
    Kept s₀ (State.abortLive self s) := by
  refine h₀.trans ?_
  unfold State.abortLive
  try dsimp only
  repeat' first
    | with_reducible exact .refl _
    | with_reducible apply State.dropJobs_kept
    | with_reducible apply State.aborted_kept
    | with_reducible apply State.each_kept
    | intro _

theorem State.retireDone_kept {s₀ : State} {s : State} (h₀ : Kept s₀ s) :
    Kept s₀ (State.retireDone s) := by
  refine h₀.trans ?_
  unfold State.retireDone
  try dsimp only
  repeat' first
    | with_reducible exact .refl _
    | with_reducible apply State.succeed_kept
    | with_reducible apply State.each_kept
    | with_reducible apply State.modDist_kept
    | split
    | intro _

theorem State.calStop_kept {s₀ : State} {s : State} (h₀ : Kept s₀ s) :
    Kept s₀ (State.calStop s) := by
  refine h₀.trans ?_
  unfold State.calStop
  try dsimp only
  repeat' first
    | with_reducible exact .refl _
    | with_reducible apply State.withSwapMarks_kept
    | with_reducible apply State.cond_kept
    | with_reducible apply State.each_kept
    | with_reducible apply State.modBank_kept
    | with_reducible apply State.modChan_kept
    | with_reducible apply State.modCal_kept
    | intro _

theorem State.leaveRanging_kept {s₀ : State} {out : Nat} {depth : Nat} {s : State} (h₀ : Kept s₀ s) :
    Kept s₀ (State.leaveRanging out depth s) := by
  refine h₀.trans ?_
  unfold State.leaveRanging
  try dsimp only
  repeat' first
    | with_reducible exact .refl _
    | with_reducible apply State.bobsEnd_kept
    | with_reducible apply State.noDepth_kept
    | with_reducible apply State.cancel_kept
    | with_reducible apply State.each_kept
    | with_reducible apply State.modFlyer_kept
    | intro _

theorem State.endSession_kept {s₀ : State} {s : State} (h₀ : Kept s₀ s) :
    Kept s₀ (State.endSession s) := by
  refine h₀.trans ?_
  unfold State.endSession
  try dsimp only
  repeat' first
    | with_reducible exact .refl _
    | with_reducible apply State.modTrust_kept
    | with_reducible exact id

theorem State.enterBlocks_kept {s₀ : State} {s : State} (h₀ : Kept s₀ s) :
    Kept s₀ (State.enterBlocks s) := by
  refine h₀.trans ?_
  unfold State.enterBlocks
  try dsimp only
  repeat' first
    | with_reducible exact .refl _
    | with_reducible apply State.endSession_kept
    | with_reducible apply State.stopCaptures_kept
    | with_reducible apply State.stopHk_kept
    | with_reducible apply State.startHk_kept
    | with_reducible apply State.stopBias_kept
    | with_reducible apply State.setRange_kept
    | with_reducible apply State.cond_kept
    | with_reducible apply State.each_kept
    | with_reducible apply State.modClock_kept
    | with_reducible exact Nat.le_refl _
    | split
    | intro _

theorem State.overtakenCommand_kept {s₀ : State} {h : Nat} {s : State} (h₀ : Kept s₀ s) :
    Kept s₀ (State.overtakenCommand h s) := by
  refine h₀.trans ?_
  unfold State.overtakenCommand
  try dsimp only
  repeat' first
    | with_reducible exact .refl _
    | with_reducible apply State.dropJobs_kept
    | with_reducible apply State.aborted_kept
    | with_reducible apply State.modDist_kept

theorem State.overtake_kept {s₀ : State} {rank : Nat} {s : State} (h₀ : Kept s₀ s) :
    Kept s₀ (State.overtake rank s) := by
  refine h₀.trans ?_
  unfold State.overtake
  try dsimp only
  repeat' first
    | with_reducible exact .refl _
    | with_reducible apply State.overtakenCommand_kept
    | with_reducible apply State.unsay_kept
    | with_reducible apply State.cond_kept
    | with_reducible apply State.modBoot_kept
    | split
    | intro _

theorem State.enter_kept {s₀ : State} {new : DevState} {cause : Nat} {out : Nat} {depth : Nat} {self : Option Nat} {s : State} (h₀ : Kept s₀ s) :
    Kept s₀ (State.enter new cause out depth self s) := by
  refine h₀.trans ?_
  unfold State.enter
  try dsimp only
  repeat' first
    | with_reducible exact .refl _
    | with_reducible apply State.overtake_kept
    | with_reducible apply State.enterBlocks_kept
    | with_reducible apply State.leaveRanging_kept
    | with_reducible apply State.calStop_kept
    | with_reducible apply State.abortLive_kept
    | with_reducible apply State.settleStaged_kept
    | with_reducible apply State.aborted_kept
    | with_reducible apply State.updateEmissions_kept
    | with_reducible apply State.event_kept
    | with_reducible apply State.setFlag_kept
    | with_reducible apply State.cond_kept
    | with_reducible apply State.modDev_kept
    | with_reducible apply State.modClock_kept
    | with_reducible exact Nat.le_refl _
    | split
    | intro _

theorem State.whorlStop_kept {s₀ : State} {s : State} (h₀ : Kept s₀ s) :
    Kept s₀ (State.whorlStop s) := by
  refine h₀.trans ?_
  unfold State.whorlStop
  try dsimp only
  repeat' first
    | with_reducible exact .refl _
    | with_reducible apply State.refuseNow_kept
    | with_reducible apply State.noDepth_kept
    | with_reducible apply State.cancel_kept

theorem State.transit_kept {s₀ : State} {rank : Nat} {here : List DevState} {new : DevState} {cause : Nat} {out : Nat} {self : Option Nat} {s : State} (h₀ : Kept s₀ s) :
    Kept s₀ (State.transit rank here new cause out self s) := by
  refine h₀.trans ?_
  unfold State.transit
  try dsimp only
  repeat' first
    | with_reducible exact .refl _
    | with_reducible apply State.enter_kept
    | with_reducible apply State.modClock_kept
    | with_reducible exact Nat.le_refl _
    | split

theorem State.disarmed_kept {s₀ : State} {s : State} (h₀ : Kept s₀ s) :
    Kept s₀ (State.disarmed s) := by
  refine h₀.trans ?_
  unfold State.disarmed
  try dsimp only
  repeat' first
    | with_reducible exact .refl _
    | with_reducible apply State.transit_kept

theorem State.faultCause_kept {s₀ : State} {k : Option Nat} {s : State} (h₀ : Kept s₀ s) :
    Kept s₀ (State.faultCause k s) := by
  refine h₀.trans ?_
  unfold State.faultCause
  try dsimp only
  repeat' first
    | with_reducible exact .refl _
    | with_reducible apply State.transit_kept
    | with_reducible apply State.modWhorl_kept
    | split

theorem State.faultGone_kept {s₀ : State} {k : Nat} {s : State} (h₀ : Kept s₀ s) :
    Kept s₀ (State.faultGone k s) := by
  refine h₀.trans ?_
  unfold State.faultGone
  try dsimp only
  repeat' first
    | with_reducible exact .refl _
    | with_reducible apply State.modWhorl_kept

theorem State.clearFaults_kept {s₀ : State} {handle : Nat} {s : State} (h₀ : Kept s₀ s) :
    Kept s₀ (State.clearFaults handle s) := by
  refine h₀.trans ?_
  unfold State.clearFaults
  try dsimp only
  repeat' first
    | with_reducible exact .refl _
    | with_reducible apply State.enter_kept
    | with_reducible apply State.failed_kept
    | with_reducible apply State.succeed_kept
    | with_reducible apply State.setInhibit_kept
    | with_reducible apply State.each_kept
    | split
    | intro _

theorem State.armDevice_kept {s₀ : State} {handle : Nat} {s : State} (h₀ : Kept s₀ s) :
    Kept s₀ (State.armDevice handle s) := by
  refine h₀.trans ?_
  unfold State.armDevice
  try dsimp only
  repeat' first
    | with_reducible exact .refl _
    | with_reducible apply State.enter_kept
    | with_reducible apply State.failed_kept
    | with_reducible apply State.succeed_kept
    | split

theorem State.stopRanging_kept {s₀ : State} {new : DevState} {cause : Nat} {out : Nat} {handle : Nat} {s : State} (h₀ : Kept s₀ s) :
    Kept s₀ (State.stopRanging new cause out handle s) := by
  refine h₀.trans ?_
  unfold State.stopRanging
  try dsimp only
  repeat' first
    | with_reducible exact .refl _
    | with_reducible apply State.enter_kept
    | with_reducible apply State.retireDone_kept
    | with_reducible apply State.modDist_kept

theorem State.abortCommand_kept {s₀ : State} {target : Nat} {handle : Nat} {s : State} (h₀ : Kept s₀ s) :
    Kept s₀ (State.abortCommand target handle s) := by
  refine h₀.trans ?_
  unfold State.abortCommand
  try dsimp only
  repeat' first
    | with_reducible exact .refl _
    | with_reducible apply State.enter_kept
    | with_reducible apply State.calStop_kept
    | with_reducible apply State.dropJobs_kept
    | with_reducible apply State.aborted_kept
    | with_reducible apply State.succeed_kept
    | split

end Sys2Proof.Machine
end

