-- ==== Sys2Proof/Laws/KeptFrames.lean ====
section
/-! SUPPORT. What the operations of Machine/Frames.lean keep. -/

namespace Sys2Proof.Machine

theorem State.strobeStat_kept {s₀ : State} {src : Source} {s : State} (h₀ : Kept s₀ s) :
    Kept s₀ (State.strobeStat src s) := by
  refine h₀.trans ?_
  unfold State.strobeStat
  try dsimp only
  repeat' first
    | with_reducible exact .refl _
    | with_reducible apply State.statEvent_kept

theorem State.boundary_kept {s₀ : State} {s : State} (h₀ : Kept s₀ s) :
    Kept s₀ (State.boundary s) := by
  refine h₀.trans ?_
  unfold State.boundary
  try dsimp only
  repeat' first
    | with_reducible exact .refl _
    | with_reducible apply State.applyDue_kept
    | with_reducible apply State.payAcks_kept
    | with_reducible apply State.offerSyncs_kept
    | with_reducible apply State.lineArrives_kept
    | with_reducible apply State.cond_kept
    | split
    | intro _

theorem State.ackPulse_kept {s₀ : State} {s : State} (h₀ : Kept s₀ s) :
    Kept s₀ (State.ackPulse s) := by
  refine h₀.trans ?_
  unfold State.ackPulse
  try dsimp only
  repeat' first
    | with_reducible exact .refl _
    | with_reducible apply State.modSpindle_kept
    | split

theorem State.closeFrame_kept {s₀ : State} {f : Nat} {s : State} (h₀ : Kept s₀ s) :
    Kept s₀ (State.closeFrame f s) := by
  refine h₀.trans ?_
  unfold State.closeFrame
  try dsimp only
  repeat' first
    | with_reducible exact .refl _
    | with_reducible apply State.tally_kept
    | with_reducible apply State.event_kept
    | with_reducible apply State.modRecs_kept
    | with_reducible apply State.modSpindle_kept
    | split

theorem State.wrapEpoch_kept {s₀ : State} {s : State} (h₀ : Kept s₀ s) :
    Kept s₀ (State.wrapEpoch s) := by
  refine h₀.trans ?_
  unfold State.wrapEpoch
  try dsimp only
  repeat' first
    | with_reducible exact .refl _
    | with_reducible apply State.event_kept
    | with_reducible apply State.modClock_kept
    | with_reducible exact Nat.le_refl _
    | split

end Sys2Proof.Machine
end

