-- ==== Sys2Proof/Laws/KeptFlyers.lean ====
section
/-! SUPPORT. What the operations of Machine/Flyers.lean keep. -/

namespace Sys2Proof.Machine

theorem State.setSeed_kept {s₀ : State} {seed : BitVec 64} {s : State} (h₀ : Kept s₀ s) :
    Kept s₀ (State.setSeed seed s) := by
  refine h₀.trans ?_
  unfold State.setSeed
  try dsimp only
  repeat' first
    | with_reducible exact .refl _
    | with_reducible apply State.each_kept
    | with_reducible apply State.modFlyer_kept
    | split
    | intro _

theorem State.flyerFault_kept {s₀ : State} {b : Nat} {s : State} (h₀ : Kept s₀ s) :
    Kept s₀ (State.flyerFault b s) := by
  refine h₀.trans ?_
  unfold State.flyerFault
  try dsimp only
  repeat' first
    | with_reducible exact .refl _
    | with_reducible apply State.health_kept
    | with_reducible apply State.modFlyer_kept

theorem State.passedEnd_kept {s₀ : State} {b : Nat} {s : State} (h₀ : Kept s₀ s) :
    Kept s₀ (State.passedEnd b s) := by
  refine h₀.trans ?_
  unfold State.passedEnd
  try dsimp only
  repeat' first
    | with_reducible exact .refl _
    | with_reducible apply State.flyerFault_kept
    | with_reducible apply State.cond_kept
    | intro _

theorem State.flyerNext_kept {s₀ : State} {b : Nat} {op : Nat} {w : Nat → Bool} {g : Flyer → Flyer} {s : State} (h₀ : Kept s₀ s) :
    Kept s₀ (State.flyerNext b op w g s) := by
  refine h₀.trans ?_
  unfold State.flyerNext
  try dsimp only
  repeat' first
    | with_reducible exact .refl _
    | with_reducible apply State.passedEnd_kept
    | with_reducible apply State.modFlyer_kept
    | split

theorem State.flyerIssue_kept {s₀ : State} {b : Nat} {op : Nat} {w : Nat → Bool} {d : Nat} {n : Nat} {s : State} (h₀ : Kept s₀ s) :
    Kept s₀ (State.flyerIssue b op w d n s) := by
  refine h₀.trans ?_
  unfold State.flyerIssue
  try dsimp only
  repeat' first
    | with_reducible exact .refl _
    | with_reducible apply State.passedEnd_kept
    | with_reducible apply State.flyerFault_kept
    | with_reducible apply State.modFlyer_kept
    | split

theorem State.flyerSetline_kept {s₀ : State} {b : Nat} {l : Nat} {s : State} (h₀ : Kept s₀ s) :
    Kept s₀ (State.flyerSetline b l s) := by
  refine h₀.trans ?_
  unfold State.flyerSetline
  try dsimp only
  repeat' first
    | with_reducible exact .refl _
    | with_reducible apply State.passedEnd_kept
    | with_reducible apply State.flyerFault_kept
    | with_reducible apply State.modFlyer_kept
    | split

theorem State.flyerLoop_kept {s₀ : State} {b : Nat} {c : Nat} {s : State} (h₀ : Kept s₀ s) :
    Kept s₀ (State.flyerLoop b c s) := by
  refine h₀.trans ?_
  unfold State.flyerLoop
  try dsimp only
  repeat' first
    | with_reducible exact .refl _
    | with_reducible apply State.passedEnd_kept
    | with_reducible apply State.flyerFault_kept
    | with_reducible apply State.modFlyer_kept
    | split

theorem State.flyerEndloop_kept {s₀ : State} {b : Nat} {s : State} (h₀ : Kept s₀ s) :
    Kept s₀ (State.flyerEndloop b s) := by
  refine h₀.trans ?_
  unfold State.flyerEndloop
  try dsimp only
  repeat' first
    | with_reducible exact .refl _
    | with_reducible apply State.passedEnd_kept
    | with_reducible apply State.flyerFault_kept
    | with_reducible apply State.modFlyer_kept
    | split

theorem State.flyerRun_kept {s₀ : State} {b : Nat} {s : State} (h₀ : Kept s₀ s) :
    Kept s₀ (State.flyerRun b s) := by
  refine h₀.trans ?_
  unfold State.flyerRun
  try dsimp only
  repeat' first
    | with_reducible exact .refl _
    | with_reducible apply State.modFlyer_kept
    | split

theorem State.skip_kept {s₀ : State} {e : Entry} {out : Nat} {s : State} (h₀ : Kept s₀ s) :
    Kept s₀ (State.skip e out s) := by
  refine h₀.trans ?_
  unfold State.skip
  try dsimp only
  repeat' first
    | with_reducible exact .refl _
    | with_reducible apply State.account_kept

theorem State.takeEntry_kept {s₀ : State} {e : Entry} {s : State} (h₀ : Kept s₀ s) :
    Kept s₀ (State.takeEntry e s) := by
  refine h₀.trans ?_
  unfold State.takeEntry
  try dsimp only
  repeat' first
    | with_reducible exact .refl _
    | with_reducible apply State.modPort_kept
    | with_reducible apply State.modEntry_kept
    | with_reducible apply State.modOrder_kept

theorem State.codeAndCommit_kept {s₀ : State} {e : Entry} {d : BitVec 128} {s : State} (h₀ : Kept s₀ s) :
    Kept s₀ (State.codeAndCommit e d s) := by
  refine h₀.trans ?_
  unfold State.codeAndCommit
  try dsimp only
  repeat' first
    | with_reducible exact .refl _
    | with_reducible apply State.takeEntry_kept
    | with_reducible apply State.skip_kept
    | with_reducible apply State.countFlyer_kept
    | with_reducible apply State.modFlyer_kept
    | split

theorem State.commitShot_kept {s₀ : State} {b : Nat} {s : State} (h₀ : Kept s₀ s) :
    Kept s₀ (State.commitShot b s) := by
  refine h₀.trans ?_
  unfold State.commitShot
  try dsimp only
  repeat' first
    | with_reducible exact .refl _
    | with_reducible apply State.codeAndCommit_kept
    | with_reducible apply State.skip_kept
    | with_reducible apply State.passedEnd_kept
    | with_reducible apply State.tally_kept
    | with_reducible apply State.countFlyer_kept
    | with_reducible apply State.cond_kept
    | with_reducible apply State.count_kept
    | with_reducible apply State.modFlyer_kept
    | with_reducible apply State.modArb_kept
    | split
    | intro _

theorem State.startRanging_kept {s₀ : State} {frame : Nat} {mask : Nat} {handle : Nat} {s : State} (h₀ : Kept s₀ s) :
    Kept s₀ (State.startRanging frame mask handle s) := by
  refine h₀.trans ?_
  unfold State.startRanging
  try dsimp only
  repeat' first
    | with_reducible exact .refl _
    | with_reducible apply State.enter_kept
    | with_reducible apply State.placeFlyer_kept
    | with_reducible apply State.succeed_kept
    | with_reducible apply State.each_kept
    | with_reducible apply State.modFlyer_kept
    | split
    | intro _

end Sys2Proof.Machine
end

