-- ==== Sys2Proof/Laws/KeptCalibration.lean ====
section
/-! SUPPORT. What the operations of Machine/Calibration.lean keep. -/

namespace Sys2Proof.Machine

theorem State.modRun_kept {s₀ : State} {g : CalRun → CalRun} {s : State} (h₀ : Kept s₀ s) :
    Kept s₀ (State.modRun g s) := by
  refine h₀.trans ?_
  unfold State.modRun
  try dsimp only
  repeat' first
    | with_reducible exact .refl _
    | with_reducible apply State.modCal_kept

theorem State.modCalPort_kept {s₀ : State} {n : Nat} {g : CalPort → CalPort} {s : State} (h₀ : Kept s₀ s) :
    Kept s₀ (State.modCalPort n g s) := by
  refine h₀.trans ?_
  unfold State.modCalPort
  try dsimp only
  repeat' first
    | with_reducible exact .refl _
    | with_reducible apply State.modRun_kept

theorem State.noteQuality_kept {s₀ : State} {k : Nat} {q : Nat} {s : State} (h₀ : Kept s₀ s) :
    Kept s₀ (State.noteQuality k q s) := by
  refine h₀.trans ?_
  unfold State.noteQuality
  try dsimp only
  repeat' first
    | with_reducible exact .refl _
    | with_reducible apply State.modRun_kept

theorem State.calDetail_kept {s₀ : State} {d : Nat} {s : State} (h₀ : Kept s₀ s) :
    Kept s₀ (State.calDetail d s) := by
  refine h₀.trans ?_
  unfold State.calDetail
  try dsimp only
  repeat' first
    | with_reducible exact .refl _
    | with_reducible apply State.modRun_kept

theorem State.calWarm_kept {s₀ : State} {s : State} (h₀ : Kept s₀ s) :
    Kept s₀ (State.calWarm s) := by
  refine h₀.trans ?_
  unfold State.calWarm
  try dsimp only
  repeat' first
    | with_reducible exact .refl _
    | with_reducible apply State.modRun_kept
    | with_reducible apply State.cond_kept
    | intro _

theorem State.calElement_kept {s₀ : State} {n : Nat} {l : List Nat} {s : State} (h₀ : Kept s₀ s) :
    Kept s₀ (State.calElement n l s) := by
  refine h₀.trans ?_
  unfold State.calElement
  try dsimp only
  repeat' first
    | with_reducible exact .refl _
    | with_reducible apply State.modCalPort_kept

theorem State.calInject_kept {s₀ : State} {s : State} (h₀ : Kept s₀ s) :
    Kept s₀ (State.calInject s) := by
  refine h₀.trans ?_
  unfold State.calInject
  try dsimp only
  repeat' first
    | with_reducible exact .refl _
    | with_reducible apply State.injectNow_kept
    | with_reducible apply State.cond_kept
    | with_reducible apply State.draw_kept
    | intro _

theorem State.startKind_kept {s₀ : State} {k : Nat} {s : State} (h₀ : Kept s₀ s) :
    Kept s₀ (State.startKind k s) := by
  refine h₀.trans ?_
  unfold State.startKind
  try dsimp only
  repeat' first
    | with_reducible exact .refl _
    | with_reducible apply State.calInject_kept
    | with_reducible apply State.calElement_kept
    | with_reducible apply State.modRun_kept
    | with_reducible apply State.withSwapMarks_kept
    | with_reducible apply State.markChan_kept
    | with_reducible apply State.cond_kept
    | with_reducible apply State.each_kept
    | with_reducible apply State.modBank_kept
    | split
    | intro _

theorem State.calAwake_kept {s₀ : State} {s : State} (h₀ : Kept s₀ s) :
    Kept s₀ (State.calAwake s) := by
  refine h₀.trans ?_
  unfold State.calAwake
  try dsimp only
  repeat' first
    | with_reducible exact .refl _
    | with_reducible apply State.startKind_kept
    | with_reducible apply State.modRun_kept
    | split

theorem State.startCal_kept {s₀ : State} {a : CalArgs} {handle : Nat} {s : State} (h₀ : Kept s₀ s) :
    Kept s₀ (State.startCal a handle s) := by
  refine h₀.trans ?_
  unfold State.startCal
  try dsimp only
  repeat' first
    | with_reducible exact .refl _
    | with_reducible apply State.calAwake_kept
    | with_reducible apply State.enter_kept
    | with_reducible apply State.modCal_kept

theorem State.withInterMarks_kept {s₀ : State} {f : State → State} {s : State} (h_f : ∀ s, Kept s (f s)) (h₀ : Kept s₀ s) :
    Kept s₀ (State.withInterMarks f s) := by
  refine h₀.trans ?_
  unfold State.withInterMarks
  try dsimp only
  repeat' first
    | with_reducible exact .refl _
    | with_reducible apply State.markChan_kept
    | with_reducible apply State.cond_kept
    | with_reducible apply State.each_kept
    | with_reducible refine Kept.trans ?_ (h_f _)
    | intro _

theorem State.forceInter_kept {s₀ : State} {k : CalKey} {v : Int} {s : State} (h₀ : Kept s₀ s) :
    Kept s₀ (State.forceInter k v s) := by
  refine h₀.trans ?_
  unfold State.forceInter
  try dsimp only
  repeat' first
    | with_reducible exact .refl _
    | with_reducible apply State.setInter_kept
    | split

theorem State.calDelay_kept {s₀ : State} {b : Nat} {ms : List CalMeasure} {s : State} (h₀ : Kept s₀ s) :
    Kept s₀ (State.calDelay b ms s) := by
  refine h₀.trans ?_
  unfold State.calDelay
  try dsimp only
  repeat' first
    | with_reducible exact .refl _
    | with_reducible apply State.modRun_kept
    | with_reducible apply State.health_kept
    | with_reducible apply State.cond_kept
    | with_reducible apply State.modBank_kept
    | split
    | intro _

theorem State.calFinish_kept {s₀ : State} {r : CalRun} {s : State} (h₀ : Kept s₀ s) :
    Kept s₀ (State.calFinish r s) := by
  refine h₀.trans ?_
  unfold State.calFinish
  try dsimp only
  repeat' first
    | with_reducible exact .refl _
    | with_reducible apply State.enter_kept
    | with_reducible apply State.succeed_kept
    | with_reducible apply State.completeWith_kept
    | with_reducible apply State.modCal_kept
    | split

theorem State.endKind_kept {s₀ : State} {ok : Bool} {s : State} (h₀ : Kept s₀ s) :
    Kept s₀ (State.endKind ok s) := by
  refine h₀.trans ?_
  unfold State.endKind
  try dsimp only
  repeat' first
    | with_reducible exact .refl _
    | with_reducible apply State.calFinish_kept
    | with_reducible apply State.startKind_kept
    | with_reducible apply State.modRun_kept
    | with_reducible apply State.withSwapMarks_kept
    | with_reducible apply State.cond_kept
    | with_reducible apply State.each_kept
    | with_reducible apply State.modBank_kept
    | with_reducible apply State.modChan_kept
    | split
    | intro _

theorem State.calValue_kept {s₀ : State} {a : CalArgs} {n : Nat} {m : CalMeasure} {x : Bool × State}
    (h₀ : Kept s₀ x.2) : Kept s₀ (State.calValue a n m x).2 := by
  refine h₀.trans ?_
  unfold State.calValue
  dsimp only
  split
  · exact State.modRun_kept (State.each_kept (fun _ _ => State.noteQuality_kept (.refl _)) (.refl _))
  · exact State.cond_kept (fun _ => State.forceInter_kept (State.modCal_kept (.refl _)))
      (State.each_kept (fun _ _ => State.noteQuality_kept (.refl _)) (.refl _))

theorem State.measuredKind_kept {s₀ : State} {r : CalRun} {ms : List CalMeasure} {s : State} (h₀ : Kept s₀ s) :
    Kept s₀ (State.measuredKind r ms s) := by
  refine h₀.trans ?_
  unfold State.measuredKind
  dsimp only
  split
  · exact .refl _
  split
  · refine State.endKind_kept (State.each_kept (fun _ _ => State.noteQuality_kept (.refl _)) ?_)
    exact State.calDetail_kept (State.modRun_kept (State.draw_kept (n := 255) (.refl s)))
  · apply State.endKind_kept
    unfold State.withInterMarks
    refine State.each_kept (fun _ _ => State.cond_kept (fun _ => State.markChan_kept (.refl _)) (.refl _)) ?_
    refine State.cond_kept (fun _ => State.each_kept (fun _ _ => State.calDelay_kept (.refl _)) (.refl _)) ?_
    refine foldl_snd_kept _ (fun x m => State.calValue_kept (.refl x.2)) _ (_, _) (?_ : Kept _ _)
    exact State.each_kept (fun _ _ => State.noteQuality_kept (.refl _)) (State.modRun_kept (State.draw_kept (n := 255) (.refl s)))

theorem State.nextElement_kept {s₀ : State} {n : Nat} {s : State} (h₀ : Kept s₀ s) :
    Kept s₀ (State.nextElement n s) := by
  refine h₀.trans ?_
  unfold State.nextElement
  try dsimp only
  repeat' first
    | with_reducible exact .refl _
    | with_reducible apply State.calElement_kept
    | split

theorem State.failElement_kept {s₀ : State} {n : Nat} {detail : Nat} {s : State} (h₀ : Kept s₀ s) :
    Kept s₀ (State.failElement n detail s) := by
  refine h₀.trans ?_
  unfold State.failElement
  try dsimp only
  repeat' first
    | with_reducible exact .refl _
    | with_reducible apply State.nextElement_kept
    | with_reducible apply State.calDetail_kept
    | with_reducible apply State.noteQuality_kept
    | with_reducible apply State.modRun_kept

theorem State.finishElement_kept {s₀ : State} {n : Nat} {repeats : Nat} {s : State} (h₀ : Kept s₀ s) :
    Kept s₀ (State.finishElement n repeats s) := by
  refine h₀.trans ?_
  unfold State.finishElement
  try dsimp only
  repeat' first
    | with_reducible exact .refl _
    | with_reducible apply State.failElement_kept
    | with_reducible apply State.nextElement_kept
    | with_reducible apply State.noteQuality_kept
    | with_reducible apply State.modRun_kept
    | split

theorem State.endCalPass_kept {s₀ : State} {n : Nat} {s : State} (h₀ : Kept s₀ s) :
    Kept s₀ (State.endCalPass n s) := by
  refine h₀.trans ?_
  unfold State.endCalPass
  try dsimp only
  repeat' first
    | with_reducible exact .refl _
    | with_reducible apply State.finishElement_kept
    | with_reducible apply State.failElement_kept
    | with_reducible apply State.modCalPort_kept
    | split

theorem State.calCollect_kept {s₀ : State} {i : Nat} {e : Entry} {s : State} (h₀ : Kept s₀ s) :
    Kept s₀ (State.calCollect i e s) := by
  refine h₀.trans ?_
  unfold State.calCollect
  try dsimp only
  repeat' first
    | with_reducible exact .refl _
    | with_reducible apply State.endCalPass_kept
    | with_reducible apply State.calWarm_kept
    | with_reducible apply State.modCalPort_kept
    | with_reducible apply State.cond_kept
    | split
    | intro _

theorem State.calShot_kept {s₀ : State} {n : Nat} {s : State} (h₀ : Kept s₀ s) :
    Kept s₀ (State.calShot n s) := by
  refine h₀.trans ?_
  unfold State.calShot
  try dsimp only
  repeat' first
    | with_reducible exact .refl _
    | with_reducible apply State.failElement_kept
    | with_reducible apply State.calWarm_kept
    | with_reducible apply State.modCalPort_kept
    | with_reducible apply State.takeEntry_kept
    | with_reducible apply State.cond_kept
    | with_reducible apply State.count_kept
    | split
    | intro _

theorem State.endEmitter_kept {s₀ : State} {r : CalRun} {s : State} (h₀ : Kept s₀ s) :
    Kept s₀ (State.endEmitter r s) := by
  refine h₀.trans ?_
  unfold State.endEmitter
  try dsimp only
  repeat' first
    | with_reducible exact .refl _
    | with_reducible apply State.endKind_kept
    | with_reducible apply State.calWarm_kept
    | with_reducible apply State.sendComps_kept
    | with_reducible apply State.cond_kept
    | with_reducible apply State.each_kept
    | with_reducible apply State.modCal_kept
    | split
    | intro _

theorem State.kindEnd_kept {s₀ : State} {ms : List CalMeasure} {s : State} (h₀ : Kept s₀ s) :
    Kept s₀ (State.kindEnd ms s) := by
  refine h₀.trans ?_
  unfold State.kindEnd
  try dsimp only
  repeat' first
    | with_reducible exact .refl _
    | with_reducible apply State.endEmitter_kept
    | with_reducible apply State.measuredKind_kept
    | split

theorem State.placeholder_kept {s₀ : State} {c : Nat} {e : Entry} {s : State} (h₀ : Kept s₀ s) :
    Kept s₀ (State.placeholder c e s) := by
  refine h₀.trans ?_
  unfold State.placeholder
  try dsimp only
  repeat' first
    | with_reducible exact .refl _
    | with_reducible apply State.offer_kept
    | split

end Sys2Proof.Machine
end

