-- ==== Sys2Proof/Laws/KeptSkein.lean ====
section
/-! SUPPORT. What the operations of Machine/Skein.lean keep. -/

namespace Sys2Proof.Machine

theorem State.sendFire_kept {s₀ : State} {i : Nat} {s : State} (h₀ : Kept s₀ s) :
    Kept s₀ (State.sendFire i s) := by
  refine h₀.trans ?_
  unfold State.sendFire
  try dsimp only
  repeat' first
    | with_reducible exact .refl _
    | with_reducible apply State.sendSymbol_kept
    | with_reducible apply State.retire_kept
    | with_reducible apply State.tally_kept
    | with_reducible apply State.countFlyer_kept
    | with_reducible apply State.cond_kept
    | with_reducible apply State.modPort_kept
    | with_reducible apply State.modEntry_kept
    | split
    | intro _

theorem State.cohShot_kept {s₀ : State} {c element : Nat} {x : Tick} {s : State} (h₀ : Kept s₀ s) :
    Kept s₀ (s.cohShot c element x).2 := by
  refine h₀.trans ?_
  unfold State.cohShot
  dsimp only
  split
  · exact .refl _
  · split <;> (dsimp only; exact State.modCard_kept (.refl _))

theorem State.openWindow_kept {s₀ : State} {i : Nat} {c : Nat} {s : State} (h₀ : Kept s₀ s) :
    Kept s₀ (State.openWindow i c s) := by
  refine h₀.trans ?_
  unfold State.openWindow
  try dsimp only
  repeat' first
    | with_reducible exact .refl _
    | with_reducible apply State.openGate_kept
    | with_reducible apply State.noteWindow_kept
    | with_reducible apply State.bobShot_kept
    | with_reducible apply State.openSlot_kept
    | with_reducible apply State.modCard_kept
    | with_reducible apply State.cohShot_kept
    | with_reducible apply State.cond_kept
    | with_reducible apply State.modEntry_kept
    | split
    | intro _

theorem State.openWindows_kept {s₀ : State} {i : Nat} {s : State} (h₀ : Kept s₀ s) :
    Kept s₀ (State.openWindows i s) := by
  refine h₀.trans ?_
  unfold State.openWindows
  try dsimp only
  repeat' first
    | with_reducible exact .refl _
    | with_reducible apply State.openWindow_kept
    | with_reducible apply State.retire_kept
    | with_reducible apply State.each_kept
    | with_reducible apply State.modEntry_kept
    | split
    | intro _

theorem State.closeWindow_kept {s₀ : State} {i : Nat} {c : Nat} {s : State} (h₀ : Kept s₀ s) :
    Kept s₀ (State.closeWindow i c s) := by
  refine h₀.trans ?_
  unfold State.closeWindow
  try dsimp only
  repeat' first
    | with_reducible exact .refl _
    | with_reducible apply State.retireDone_kept
    | with_reducible apply State.modCard_kept
    | with_reducible apply State.retire_kept
    | with_reducible apply State.cond_kept
    | with_reducible apply State.modEntry_kept
    | split
    | intro _

theorem State.finalise_kept {s₀ : State} {i : Nat} {c : Nat} {s : State} (h₀ : Kept s₀ s) :
    Kept s₀ (State.finalise i c s) := by
  refine h₀.trans ?_
  unfold State.finalise
  try dsimp only
  repeat' first
    | with_reducible exact .refl _
    | with_reducible apply State.placeholder_kept
    | with_reducible apply State.closeSlot_kept
    | with_reducible apply State.settleSlot_kept
    | with_reducible apply State.cohEntry_kept
    | with_reducible apply State.cond_kept
    | with_reducible apply State.modEntry_kept
    | split
    | intro _

theorem State.keepForBobbin_kept {s₀ : State} {i : Nat} {e : Entry} {s : State} (h₀ : Kept s₀ s) :
    Kept s₀ (State.keepForBobbin i e s) := by
  refine h₀.trans ?_
  unfold State.keepForBobbin
  try dsimp only
  repeat' first
    | with_reducible exact .refl _
    | with_reducible apply State.modBob_kept
    | with_reducible apply State.cond_kept
    | with_reducible apply State.each_kept
    | intro _

theorem State.freeEntry_kept {s₀ : State} {i : Nat} {s : State} (h₀ : Kept s₀ s) :
    Kept s₀ (State.freeEntry i s) := by
  refine h₀.trans ?_
  unfold State.freeEntry
  try dsimp only
  repeat' first
    | with_reducible exact .refl _
    | with_reducible apply State.keepForBobbin_kept
    | with_reducible apply State.calCollect_kept
    | with_reducible apply State.cond_kept
    | with_reducible apply State.count_kept
    | with_reducible apply State.modChan_kept
    | with_reducible apply State.modEntry_kept
    | split
    | intro _

end Sys2Proof.Machine
end

