-- ==== Sys2Proof/Laws/KeptEmission.lean ====
section
/-! SUPPORT. What the operations of Machine/Emission.lean keep. -/

namespace Sys2Proof.Machine

theorem State.loopAnswers_kept {s₀ : State} {s : State} (h₀ : Kept s₀ s) :
    Kept s₀ (State.loopAnswers s) := by
  refine h₀.trans ?_
  unfold State.loopAnswers
  try dsimp only
  repeat' first
    | with_reducible exact .refl _
    | with_reducible apply State.modWhorl_kept

theorem State.loopOpens_kept {s₀ : State} {s : State} (h₀ : Kept s₀ s) :
    Kept s₀ (State.loopOpens s) := by
  refine h₀.trans ?_
  unfold State.loopOpens
  try dsimp only
  repeat' first
    | with_reducible exact .refl _
    | with_reducible apply State.disarmed_kept
    | with_reducible apply State.whorlStop_kept
    | with_reducible apply State.setInhibit_kept
    | with_reducible apply State.event_kept
    | with_reducible apply State.setFlag_kept
    | with_reducible apply State.modWhorl_kept

theorem State.loopCloses_kept {s₀ : State} {s : State} (h₀ : Kept s₀ s) :
    Kept s₀ (State.loopCloses s) := by
  refine h₀.trans ?_
  unfold State.loopCloses
  try dsimp only
  repeat' first
    | with_reducible exact .refl _
    | with_reducible apply State.setInhibit_kept
    | with_reducible apply State.health_kept
    | with_reducible apply State.event_kept
    | with_reducible apply State.cond_kept
    | with_reducible apply State.modWhorl_kept
    | split
    | intro _

theorem State.setLatch_kept {s₀ : State} {cause : Nat} {port : Nat} {s : State} (h₀ : Kept s₀ s) :
    Kept s₀ (State.setLatch cause port s) := by
  refine h₀.trans ?_
  unfold State.setLatch
  try dsimp only
  repeat' first
    | with_reducible exact .refl _
    | with_reducible apply State.faultCause_kept
    | with_reducible apply State.whorlStop_kept
    | with_reducible apply State.setPort_kept
    | with_reducible apply State.event_kept
    | with_reducible apply State.setFlag_kept
    | with_reducible apply State.each_kept
    | with_reducible apply State.modLatch_kept
    | exact fun _ => rfl
    | split
    | intro _

theorem State.refFaulty_kept {s₀ : State} {dev : Int} {s : State} (h₀ : Kept s₀ s) :
    Kept s₀ (State.refFaulty dev s) := by
  refine h₀.trans ?_
  unfold State.refFaulty
  try dsimp only
  repeat' first
    | with_reducible exact .refl _
    | with_reducible apply State.faultCause_kept
    | with_reducible apply State.whorlStop_kept
    | with_reducible apply State.setInhibit_kept
    | with_reducible apply State.event_kept
    | with_reducible apply State.setFlag_kept
    | with_reducible apply State.modWhorl_kept
    | split

theorem State.refGood_kept {s₀ : State} {ppb : Int} {s : State} (h₀ : Kept s₀ s) :
    Kept s₀ (State.refGood ppb s) := by
  refine h₀.trans ?_
  unfold State.refGood
  try dsimp only
  repeat' first
    | with_reducible exact .refl _
    | with_reducible apply State.faultGone_kept
    | with_reducible apply State.event_kept
    | with_reducible apply State.cond_kept
    | with_reducible apply State.modBoot_kept
    | split
    | intro _

theorem State.coreUnlocks_kept {s₀ : State} {s : State} (h₀ : Kept s₀ s) :
    Kept s₀ (State.coreUnlocks s) := by
  refine h₀.trans ?_
  unfold State.coreUnlocks
  try dsimp only
  repeat' first
    | with_reducible exact .refl _
    | with_reducible apply State.faultCause_kept
    | with_reducible apply State.whorlStop_kept
    | with_reducible apply State.setInhibit_kept
    | with_reducible apply State.modBoot_kept
    | with_reducible apply State.modWhorl_kept
    | split

theorem State.accountError_kept {s₀ : State} {n : Nat} {corrected : Bool} {s : State} (h₀ : Kept s₀ s) :
    Kept s₀ (State.accountError n corrected s) := by
  refine h₀.trans ?_
  unfold State.accountError
  try dsimp only
  repeat' first
    | with_reducible exact .refl _
    | with_reducible apply State.faultCause_kept
    | with_reducible apply State.whorlStop_kept
    | with_reducible apply State.fillAccounts_kept
    | with_reducible apply State.setInhibit_kept
    | with_reducible apply State.health_kept
    | with_reducible apply State.modWhorl_kept
    | split

theorem State.oscillator_kept {s₀ : State} {ppm : Int} {s : State} (h₀ : Kept s₀ s) :
    Kept s₀ (State.oscillator ppm s) := by
  refine h₀.trans ?_
  unfold State.oscillator
  try dsimp only
  repeat' first
    | with_reducible exact .refl _
    | with_reducible apply State.health_kept
    | with_reducible apply State.cond_kept
    | with_reducible apply State.modWhorl_kept
    | intro _

theorem State.whorlStatus_kept {s₀ : State} {handle : Nat} {s2 : State} (h₀ : Kept s₀ s2) :
    Kept s₀ (State.whorlStatus handle s2) := by
  refine h₀.trans ?_
  unfold State.whorlStatus
  try dsimp only
  repeat' first
    | with_reducible exact .refl _
    | with_reducible apply State.succeed_kept

end Sys2Proof.Machine
end

