-- ==== Sys2Proof/Laws/KeptLoss.lean ====
section
/-! SUPPORT. What the operations of Machine/Loss.lean keep. -/

namespace Sys2Proof.Machine

theorem State.lossTimeout_kept {s₀ : State} {src : Nat} {s : State} (h₀ : Kept s₀ s) :
    Kept s₀ (State.lossTimeout src s) := by
  refine h₀.trans ?_
  unfold State.lossTimeout
  try dsimp only
  repeat' first
    | with_reducible exact .refl _
    | with_reducible apply State.cond_kept
    | with_reducible apply State.modRecs_kept
    | intro _

theorem State.lossRecord_kept {s₀ : State} {s : State} (h₀ : Kept s₀ s) :
    Kept s₀ (State.lossRecord s) := by
  refine h₀.trans ?_
  unfold State.lossRecord
  try dsimp only
  repeat' first
    | with_reducible exact .refl _
    | with_reducible apply State.setFlag_kept
    | with_reducible apply State.modRecs_kept
    | split

end Sys2Proof.Machine
end

