-- ==== Sys2Proof/Laws/KeptTrust.lean ====
section
/-! SUPPORT. What the operations of Machine/Trust.lean keep. -/

namespace Sys2Proof.Machine

theorem State.clearToken_kept {s₀ : State} {s : State} (h₀ : Kept s₀ s) :
    Kept s₀ (State.clearToken s) := by
  refine h₀.trans ?_
  unfold State.clearToken
  try dsimp only
  repeat' first
    | with_reducible exact .refl _
    | with_reducible apply State.modTrust_kept
    | exact fun _ => rfl

theorem State.setKeySlot_kept {s₀ : State} {i : Nat} {k : KeySlot} {s : State} (h₀ : Kept s₀ s) :
    Kept s₀ (State.setKeySlot i k s) := by
  refine h₀.trans ?_
  unfold State.setKeySlot
  try dsimp only
  repeat' first
    | with_reducible exact .refl _
    | with_reducible apply State.modTrust_kept
    | with_reducible exact id

theorem State.keyToken_kept {s₀ : State} {kind : Nat} {handle : Nat} {s : State} (h₀ : Kept s₀ s) :
    Kept s₀ (State.keyToken kind handle s) := by
  refine h₀.trans ?_
  unfold State.keyToken
  try dsimp only
  repeat' first
    | with_reducible exact .refl _
    | with_reducible apply State.setKeySlot_kept
    | with_reducible apply State.clearToken_kept
    | with_reducible apply State.nvWrite_kept
    | with_reducible apply State.failed_kept
    | with_reducible apply State.succeed_kept
    | split

theorem State.takeSlots_kept {s₀ : State} {s : State} (h₀ : Kept s₀ s) :
    Kept s₀ (State.takeSlots s) := by
  refine h₀.trans ?_
  unfold State.takeSlots
  try dsimp only
  repeat' first
    | with_reducible exact .refl _
    | with_reducible apply State.setKeySlot_kept
    | with_reducible apply State.rejectHead_kept
    | with_reducible apply State.cond_kept
    | with_reducible apply State.each_kept
    | with_reducible apply State.modTrust_kept
    | with_reducible exact id
    | split
    | intro _

theorem State.putChunk_kept {s₀ : State} {offset : Nat} {data : List Byte} {handle : Nat} {s : State} (h₀ : Kept s₀ s) :
    Kept s₀ (State.putChunk offset data handle s) := by
  refine h₀.trans ?_
  unfold State.putChunk
  try dsimp only
  repeat' first
    | with_reducible exact .refl _
    | with_reducible apply State.succeed_kept
    | with_reducible apply State.modTrust_kept
    | with_reducible exact Memory.wf_write _ _ _

theorem State.keyCommand_kept {s₀ : State} {kind : Nat} {phase : Nat} {offset : Nat} {data : List Byte} {handle : Nat} {s : State} (h₀ : Kept s₀ s) :
    Kept s₀ (State.keyCommand kind phase offset data handle s) := by
  refine h₀.trans ?_
  unfold State.keyCommand
  try dsimp only
  repeat' first
    | with_reducible exact .refl _
    | with_reducible apply State.putChunk_kept
    | with_reducible apply State.keyToken_kept
    | split

theorem State.cut_kept {s₀ : State} {kind : CutKind} {flags : Nat} {nonce : List Byte} {handle : Option Nat} {s : State} (h₀ : Kept s₀ s) :
    Kept s₀ (State.cut kind flags nonce handle s) := by
  refine h₀.trans ?_
  unfold State.cut
  try dsimp only
  repeat' first
    | with_reducible exact .refl _
    | with_reducible apply State.modTrust_kept
    | with_reducible exact id
    | split

theorem State.openSession_kept {s₀ : State} {interval : Nat} {nonce : List Byte} {s : State} (h₀ : Kept s₀ s) :
    Kept s₀ (State.openSession interval nonce s) := by
  refine h₀.trans ?_
  unfold State.openSession
  try dsimp only
  repeat' first
    | with_reducible exact .refl _
    | with_reducible apply State.draw_kept
    | with_reducible apply State.modTrust_kept
    | with_reducible exact id

theorem State.closeSession_kept {s₀ : State} {flags : Nat} {nonce : List Byte} {s : State} (h₀ : Kept s₀ s) :
    Kept s₀ (State.closeSession flags nonce s) := by
  refine h₀.trans ?_
  unfold State.closeSession
  try dsimp only
  repeat' first
    | with_reducible exact .refl _
    | with_reducible apply State.cut_kept
    | with_reducible apply State.modTrust_kept
    | with_reducible exact id

theorem State.chainStep_kept {s₀ : State} {cls : Nat} {bytes : List Byte} {s : State} (h₀ : Kept s₀ s) :
    Kept s₀ (State.chainStep cls bytes s) := by
  refine h₀.trans ?_
  unfold State.chainStep
  try dsimp only
  repeat' first
    | with_reducible exact .refl _
    | with_reducible apply State.modTrust_kept
    | with_reducible exact id
    | split

theorem State.clearSram_kept {s₀ : State} {s : State} (h₀ : Kept s₀ s) :
    Kept s₀ (State.clearSram s) := by
  refine h₀.trans ?_
  unfold State.clearSram
  try dsimp only
  repeat' first
    | with_reducible exact .refl _
    | with_reducible apply State.originsGone_kept
    | with_reducible apply State.discard_kept
    | with_reducible apply State.each_kept
    | with_reducible apply State.modGroup_kept
    | with_reducible apply State.modBank_kept
    | with_reducible apply State.modChan_kept
    | with_reducible apply State.modFlyer_kept
    | with_reducible apply State.modCal_kept
    | with_reducible apply State.modDist_kept
    | with_reducible apply State.modLink_kept
    | with_reducible apply State.modRecs_kept
    | with_reducible apply State.modHk_kept
    | with_reducible apply State.modSkein_kept
    | with_reducible apply State.modSpindle_kept
    | exact fun _ => rfl
    | intro _

theorem State.clearSecrets_kept {s₀ : State} {level : Nat} {s : State} (h₀ : Kept s₀ s) :
    Kept s₀ (State.clearSecrets level s) := by
  refine h₀.trans ?_
  unfold State.clearSecrets
  try dsimp only
  repeat' first
    | with_reducible exact .refl _
    | with_reducible apply State.clearSram_kept
    | with_reducible apply State.cond_kept
    | with_reducible apply State.each_kept
    | with_reducible apply State.modFlyer_kept
    | with_reducible apply State.modTrust_kept
    | exact fun _ => rfl
    | intro _

theorem State.unlock_kept {s₀ : State} {level : Nat} {handle : Nat} {s : State} (h₀ : Kept s₀ s) :
    Kept s₀ (State.unlock level handle s) := by
  refine h₀.trans ?_
  unfold State.unlock
  try dsimp only
  repeat' first
    | with_reducible exact .refl _
    | with_reducible apply State.clearSecrets_kept
    | with_reducible apply State.whorlStop_kept
    | with_reducible apply State.enter_kept
    | with_reducible apply State.succeed_kept
    | with_reducible apply State.setInhibit_kept
    | with_reducible apply State.modTrust_kept
    | with_reducible apply State.modWhorl_kept
    | with_reducible exact id

theorem State.queueManifest_kept {s₀ : State} {s : State} (h₀ : Kept s₀ s) :
    Kept s₀ (State.queueManifest s) := by
  refine h₀.trans ?_
  unfold State.queueManifest
  try dsimp only
  repeat' first
    | with_reducible exact .refl _
    | with_reducible apply State.unlock_kept
    | with_reducible apply State.succeed_kept
    | with_reducible apply State.offer_kept
    | with_reducible apply State.modTrust_kept
    | with_reducible exact id
    | split

theorem State.queueManifests_kept {s₀ : State} {s : State} (h₀ : Kept s₀ s) :
    Kept s₀ (State.queueManifests s) := by
  refine h₀.trans ?_
  unfold State.queueManifests
  try dsimp only
  repeat' first
    | with_reducible exact .refl _
    | with_reducible apply State.queueManifest_kept
    | with_reducible apply State.each_kept
    | intro _

theorem State.manifestSigned_kept {s₀ : State} {salt : List Byte} {hedge : List Byte} {s : State} (h₀ : Kept s₀ s) :
    Kept s₀ (State.manifestSigned salt hedge s) := by
  refine h₀.trans ?_
  unfold State.manifestSigned
  try dsimp only
  repeat' first
    | with_reducible exact .refl _
    | with_reducible apply State.queueManifests_kept
    | with_reducible apply State.modTrust_kept
    | with_reducible exact id

theorem State.debugToken_kept {s₀ : State} {handle : Nat} {s : State} (h₀ : Kept s₀ s) :
    Kept s₀ (State.debugToken handle s) := by
  refine h₀.trans ?_
  unfold State.debugToken
  try dsimp only
  repeat' first
    | with_reducible exact .refl _
    | with_reducible apply State.unlock_kept
    | with_reducible apply State.closeSession_kept
    | with_reducible apply State.clearToken_kept
    | with_reducible apply State.failedOpen_kept
    | with_reducible apply State.failed_kept
    | with_reducible apply State.modTrust_kept
    | with_reducible exact id
    | split

theorem State.newChallenge_kept {s₀ : State} {handle : Nat} {s : State} (h₀ : Kept s₀ s) :
    Kept s₀ (State.newChallenge handle s) := by
  refine h₀.trans ?_
  unfold State.newChallenge
  try dsimp only
  repeat' first
    | with_reducible exact .refl _
    | with_reducible apply State.succeed_kept
    | with_reducible apply State.draw_kept
    | with_reducible apply State.modTrust_kept
    | with_reducible exact id

theorem State.debugCommand_kept {s₀ : State} {phase : Nat} {offset : Nat} {data : List Byte} {handle : Nat} {s : State} (h₀ : Kept s₀ s) :
    Kept s₀ (State.debugCommand phase offset data handle s) := by
  refine h₀.trans ?_
  unfold State.debugCommand
  try dsimp only
  repeat' first
    | with_reducible exact .refl _
    | with_reducible apply State.newChallenge_kept
    | with_reducible apply State.debugToken_kept
    | with_reducible apply State.putChunk_kept
    | split

theorem State.attest_kept {s₀ : State} {opening : Bool} {interval : Nat} {nonce : List Byte} {handle : Nat} {s : State} (h₀ : Kept s₀ s) :
    Kept s₀ (State.attest opening interval nonce handle s) := by
  refine h₀.trans ?_
  unfold State.attest
  try dsimp only
  repeat' first
    | with_reducible exact .refl _
    | with_reducible apply State.closeSession_kept
    | with_reducible apply State.openSession_kept
    | with_reducible apply State.failedOpen_kept
    | with_reducible apply State.failed_kept
    | with_reducible apply State.succeed_kept
    | split

theorem State.manifestCommand_kept {s₀ : State} {kind : Nat} {offset : Nat} {nonce : List Byte} {handle : Nat} {s : State} (h₀ : Kept s₀ s) :
    Kept s₀ (State.manifestCommand kind offset nonce handle s) := by
  refine h₀.trans ?_
  unfold State.manifestCommand
  try dsimp only
  repeat' first
    | with_reducible exact .refl _
    | with_reducible apply State.cut_kept
    | with_reducible apply State.failed_kept
    | with_reducible apply State.succeed_kept
    | split

theorem State.automaticCut_kept {s₀ : State} {s : State} (h₀ : Kept s₀ s) :
    Kept s₀ (State.automaticCut s) := by
  refine h₀.trans ?_
  unfold State.automaticCut
  try dsimp only
  repeat' first
    | with_reducible exact .refl _
    | with_reducible apply State.cut_kept
    | with_reducible apply State.modTrust_kept
    | with_reducible exact id
    | split

theorem State.challengeExpires_kept {s₀ : State} {s : State} (h₀ : Kept s₀ s) :
    Kept s₀ (State.challengeExpires s) := by
  refine h₀.trans ?_
  unfold State.challengeExpires
  try dsimp only
  repeat' first
    | with_reducible exact .refl _
    | with_reducible apply State.cond_kept
    | with_reducible apply State.modTrust_kept
    | with_reducible exact id
    | intro _

theorem State.openAccess_kept {s₀ : State} {s : State} (h₀ : Kept s₀ s) :
    Kept s₀ (State.openAccess s) := by
  refine h₀.trans ?_
  unfold State.openAccess
  try dsimp only
  repeat' first
    | with_reducible exact .refl _
    | with_reducible apply State.cond_kept
    | with_reducible apply State.modTrust_kept
    | with_reducible exact id
    | intro _

theorem State.tapLoad_kept {s₀ : State} {i : TapInstr} {s : State} (h₀ : Kept s₀ s) :
    Kept s₀ (State.tapLoad i s) := by
  refine h₀.trans ?_
  unfold State.tapLoad
  try dsimp only
  repeat' first
    | with_reducible exact .refl _
    | with_reducible apply State.cond_kept
    | with_reducible apply State.modTrust_kept
    | with_reducible exact id
    | split
    | intro _

end Sys2Proof.Machine
end

