-- ==== Sys2Proof/Laws/KeptLink.lean ====
section
/-! SUPPORT. What the operations of Machine/Link.lean keep. -/

namespace Sys2Proof.Machine

theorem State.putBlock_kept {s₀ : State} {lane : Nat} {control : Bool} {bytes : List Byte} {s : State} (h₀ : Kept s₀ s) :
    Kept s₀ (State.putBlock lane control bytes s) := by
  refine h₀.trans ?_
  unfold State.putBlock
  try dsimp only
  repeat' first
    | with_reducible exact .refl _
    | with_reducible apply State.modLink_kept

theorem State.putStream_kept {s₀ : State} {blocks : List (Bool × List Byte)} {s : State} (h₀ : Kept s₀ s) :
    Kept s₀ (State.putStream blocks s) := by
  refine h₀.trans ?_
  unfold State.putStream
  try dsimp only
  repeat' first
    | with_reducible exact .refl _
    | with_reducible apply State.putBlock_kept
    | with_reducible apply State.each_kept
    | with_reducible apply State.modLink_kept
    | intro _

theorem State.putColumn_kept {s₀ : State} {block : Nat → List Byte} {s : State} (h₀ : Kept s₀ s) :
    Kept s₀ (State.putColumn block s) := by
  refine h₀.trans ?_
  unfold State.putColumn
  try dsimp only
  repeat' first
    | with_reducible exact .refl _
    | with_reducible apply State.putStream_kept

theorem State.putCaps_kept {s₀ : State} {l : List Nat} {s : State} (h₀ : Kept s₀ s) :
    Kept s₀ (State.putCaps l s) := by
  refine h₀.trans ?_
  unfold State.putCaps
  try dsimp only
  repeat' first
    | with_reducible exact .refl _
    | with_reducible apply State.putStream_kept

theorem State.toStage_kept {s₀ : State} {st : LinkState} {s : State} (h₀ : Kept s₀ s) :
    Kept s₀ (State.toStage st s) := by
  refine h₀.trans ?_
  unfold State.toStage
  try dsimp only
  repeat' first
    | with_reducible exact .refl _
    | with_reducible apply State.setLink_kept
    | with_reducible apply State.modLink_kept
    | split

theorem State.linkDown_kept {s₀ : State} {s : State} (h₀ : Kept s₀ s) :
    Kept s₀ (State.linkDown s) := by
  refine h₀.trans ?_
  unfold State.linkDown
  try dsimp only
  repeat' first
    | with_reducible exact .refl _
    | with_reducible apply State.setLink_kept
    | with_reducible apply State.failedOpen_kept
    | with_reducible apply State.modLink_kept
    | split

theorem State.startTrain_kept {s₀ : State} {lanes : BitVec 8} {rate : Option Nat} {s : State} (h₀ : Kept s₀ s) :
    Kept s₀ (State.startTrain lanes rate s) := by
  refine h₀.trans ?_
  unfold State.startTrain
  try dsimp only
  repeat' first
    | with_reducible exact .refl _
    | with_reducible apply State.linkDown_kept
    | with_reducible apply State.toStage_kept
    | with_reducible apply State.putBlock_kept
    | with_reducible apply State.each_kept
    | with_reducible apply State.modLink_kept
    | split
    | intro _

theorem State.stageFails_kept {s₀ : State} {s : State} (h₀ : Kept s₀ s) :
    Kept s₀ (State.stageFails s) := by
  refine h₀.trans ?_
  unfold State.stageFails
  try dsimp only
  repeat' first
    | with_reducible exact .refl _
    | with_reducible apply State.startTrain_kept

theorem State.endTrain_kept {s₀ : State} {s : State} (h₀ : Kept s₀ s) :
    Kept s₀ (State.endTrain s) := by
  refine h₀.trans ?_
  unfold State.endTrain
  try dsimp only
  repeat' first
    | with_reducible exact .refl _
    | with_reducible apply State.stageFails_kept
    | with_reducible apply State.toStage_kept
    | with_reducible apply State.modLink_kept
    | split

theorem State.enterRecovery_kept {s₀ : State} {lanes : BitVec 8} {rate : Option Nat} {s : State} (h₀ : Kept s₀ s) :
    Kept s₀ (State.enterRecovery lanes rate s) := by
  refine h₀.trans ?_
  unfold State.enterRecovery
  try dsimp only
  repeat' first
    | with_reducible exact .refl _
    | with_reducible apply State.startTrain_kept
    | with_reducible apply State.setLink_kept
    | with_reducible apply State.modLink_kept

theorem State.recoverLink_kept {s₀ : State} {s : State} (h₀ : Kept s₀ s) :
    Kept s₀ (State.recoverLink s) := by
  refine h₀.trans ?_
  unfold State.recoverLink
  try dsimp only
  repeat' first
    | with_reducible exact .refl _
    | with_reducible apply State.enterRecovery_kept

theorem State.laneLost_kept {s₀ : State} {lane : Nat} {s : State} (h₀ : Kept s₀ s) :
    Kept s₀ (State.laneLost lane s) := by
  refine h₀.trans ?_
  unfold State.laneLost
  try dsimp only
  repeat' first
    | with_reducible exact .refl _
    | with_reducible apply State.recoverLink_kept
    | with_reducible apply State.modLink_kept

theorem State.downEnds_kept {s₀ : State} {s : State} (h₀ : Kept s₀ s) :
    Kept s₀ (State.downEnds s) := by
  refine h₀.trans ?_
  unfold State.downEnds
  try dsimp only
  repeat' first
    | with_reducible exact .refl _
    | with_reducible apply State.linkDetect_kept
    | split

theorem State.detectDone_kept {s₀ : State} {lanes : BitVec 8} {s : State} (h₀ : Kept s₀ s) :
    Kept s₀ (State.detectDone lanes s) := by
  refine h₀.trans ?_
  unfold State.detectDone
  try dsimp only
  repeat' first
    | with_reducible exact .refl _
    | with_reducible apply State.startTrain_kept
    | with_reducible apply State.modLink_kept
    | split

theorem State.laneLocks_kept {s₀ : State} {lane : Nat} {s : State} (h₀ : Kept s₀ s) :
    Kept s₀ (State.laneLocks lane s) := by
  refine h₀.trans ?_
  unfold State.laneLocks
  try dsimp only
  repeat' first
    | with_reducible exact .refl _
    | with_reducible apply State.endTrain_kept
    | with_reducible apply State.cond_kept
    | with_reducible apply State.modLink_kept
    | split
    | intro _

theorem State.stageTimeout_kept {s₀ : State} {s : State} (h₀ : Kept s₀ s) :
    Kept s₀ (State.stageTimeout s) := by
  refine h₀.trans ?_
  unfold State.stageTimeout
  try dsimp only
  repeat' first
    | with_reducible exact .refl _
    | with_reducible apply State.endTrain_kept
    | with_reducible apply State.stageFails_kept
    | with_reducible apply State.cond_kept
    | split
    | intro _

theorem State.grantAnew_kept {s₀ : State} {s : State} (h₀ : Kept s₀ s) :
    Kept s₀ (State.grantAnew s) := by
  refine h₀.trans ?_
  unfold State.grantAnew
  try dsimp only
  repeat' first
    | with_reducible exact .refl _
    | with_reducible apply State.modLink_kept

theorem State.alignLanes_kept {s₀ : State} {skew : Nat} {count : Nat} {s : State} (h₀ : Kept s₀ s) :
    Kept s₀ (State.alignLanes skew count s) := by
  refine h₀.trans ?_
  unfold State.alignLanes
  try dsimp only
  repeat' first
    | with_reducible exact .refl _
    | with_reducible apply State.grantAnew_kept
    | with_reducible apply State.toStage_kept
    | with_reducible apply State.putCaps_kept
    | with_reducible apply State.cond_kept
    | with_reducible apply State.modLink_kept
    | split
    | intro _

theorem State.alignSend_kept {s₀ : State} {s : State} (h₀ : Kept s₀ s) :
    Kept s₀ (State.alignSend s) := by
  refine h₀.trans ?_
  unfold State.alignSend
  try dsimp only
  repeat' first
    | with_reducible exact .refl _
    | with_reducible apply State.putColumn_kept
    | with_reducible apply State.cond_kept
    | with_reducible apply State.modLink_kept
    | intro _

theorem State.idleSend_kept {s₀ : State} {s : State} (h₀ : Kept s₀ s) :
    Kept s₀ (State.idleSend s) := by
  refine h₀.trans ?_
  unfold State.idleSend
  try dsimp only
  repeat' first
    | with_reducible exact .refl _
    | with_reducible apply State.putColumn_kept
    | with_reducible apply State.modLink_kept

theorem State.idleColumn_kept {s₀ : State} {delete : Bool} {s : State} (h₀ : Kept s₀ s) :
    Kept s₀ (State.idleColumn delete s) := by
  refine h₀.trans ?_
  unfold State.idleColumn
  try dsimp only
  repeat' first
    | with_reducible exact .refl _
    | with_reducible apply State.modLink_kept

theorem State.retireHandles_kept {s₀ : State} {hs : List Nat} {s : State} (h₀ : Kept s₀ s) :
    Kept s₀ (State.retireHandles hs s) := by
  refine h₀.trans ?_
  unfold State.retireHandles
  try dsimp only
  repeat' first
    | with_reducible exact .refl _
    | with_reducible apply State.cond_kept
    | with_reducible apply State.modDist_kept
    | intro _

theorem State.ackFrames_kept {s₀ : State} {n : Nat} {s : State} (h₀ : Kept s₀ s) :
    Kept s₀ (State.ackFrames n s) := by
  refine h₀.trans ?_
  unfold State.ackFrames
  try dsimp only
  repeat' first
    | with_reducible exact .refl _
    | with_reducible apply State.retireHandles_kept
    | with_reducible apply State.modLink_kept

theorem State.nakFrames_kept {s₀ : State} {n : Nat} {s : State} (h₀ : Kept s₀ s) :
    Kept s₀ (State.nakFrames n s) := by
  refine h₀.trans ?_
  unfold State.nakFrames
  try dsimp only
  repeat' first
    | with_reducible exact .refl _
    | with_reducible apply State.recoverLink_kept
    | with_reducible apply State.modLink_kept
    | split

theorem State.linkBlock_kept {s₀ : State} {ack : Nat} {nak : Bool} {c1 : Nat} {c2 : Nat} {c3 : Nat} {s : State} (h₀ : Kept s₀ s) :
    Kept s₀ (State.linkBlock ack nak c1 c2 c3 s) := by
  refine h₀.trans ?_
  unfold State.linkBlock
  try dsimp only
  repeat' first
    | with_reducible exact .refl _
    | with_reducible apply State.nakFrames_kept
    | with_reducible apply State.ackFrames_kept
    | with_reducible apply State.modLink_kept
    | split

theorem State.sendLink_kept {s₀ : State} {nak : Bool} {s : State} (h₀ : Kept s₀ s) :
    Kept s₀ (State.sendLink nak s) := by
  refine h₀.trans ?_
  unfold State.sendLink
  try dsimp only
  repeat' first
    | with_reducible exact .refl _
    | with_reducible apply State.putStream_kept
    | with_reducible apply State.modLink_kept

theorem State.countInvalid_kept {s₀ : State} {f : FrameIn} {s : State} (h₀ : Kept s₀ s) :
    Kept s₀ (State.countInvalid f s) := by
  refine h₀.trans ?_
  unfold State.countInvalid
  try dsimp only
  repeat' first
    | with_reducible exact .refl _
    | with_reducible apply State.each_kept
    | with_reducible apply State.modLink_kept
    | intro _

theorem State.arrive_kept {s₀ : State} {es : List (Nat × Hdr)} {s : State} (h₀ : Kept s₀ s) :
    Kept s₀ (State.arrive es s) := by
  refine h₀.trans ?_
  unfold State.arrive
  try dsimp only
  repeat' first
    | with_reducible exact .refl _
    | with_reducible apply State.modDist_kept

theorem State.receiveFrame_kept {s₀ : State} {f : FrameIn} {s : State} (h₀ : Kept s₀ s) :
    Kept s₀ (State.receiveFrame f s) := by
  refine h₀.trans ?_
  unfold State.receiveFrame
  try dsimp only
  repeat' first
    | with_reducible exact .refl _
    | with_reducible apply State.arrive_kept
    | with_reducible apply State.countInvalid_kept
    | with_reducible apply State.sendLink_kept
    | with_reducible apply State.answerFronts_kept
    | with_reducible apply State.cond_kept
    | with_reducible apply State.modLink_kept
    | split
    | intro _

theorem State.repeatNak_kept {s₀ : State} {s : State} (h₀ : Kept s₀ s) :
    Kept s₀ (State.repeatNak s) := by
  refine h₀.trans ?_
  unfold State.repeatNak
  try dsimp only
  repeat' first
    | with_reducible exact .refl _
    | with_reducible apply State.sendLink_kept
    | with_reducible apply State.cond_kept
    | intro _

theorem State.replayTimeout_kept {s₀ : State} {s : State} (h₀ : Kept s₀ s) :
    Kept s₀ (State.replayTimeout s) := by
  refine h₀.trans ?_
  unfold State.replayTimeout
  try dsimp only
  repeat' first
    | with_reducible exact .refl _
    | with_reducible apply State.recoverLink_kept
    | with_reducible apply State.cond_kept
    | split
    | intro _

theorem State.transmit_kept {s₀ : State} {cls : Nat} {first : Nat} {payload : List Byte} {handles : List Nat} {s : State} (h₀ : Kept s₀ s) :
    Kept s₀ (State.transmit cls first payload handles s) := by
  refine h₀.trans ?_
  unfold State.transmit
  try dsimp only
  repeat' first
    | with_reducible exact .refl _
    | with_reducible apply State.putStream_kept
    | with_reducible apply State.modLink_kept

theorem State.resend_kept {s₀ : State} {s : State} (h₀ : Kept s₀ s) :
    Kept s₀ (State.resend s) := by
  refine h₀.trans ?_
  unfold State.resend
  try dsimp only
  repeat' first
    | with_reducible exact .refl _
    | with_reducible apply State.putStream_kept
    | with_reducible apply State.modLink_kept
    | split

theorem State.send0_kept {s₀ : State} {s : State} (h₀ : Kept s₀ s) :
    Kept s₀ (State.send0 s) := by
  refine h₀.trans ?_
  unfold State.send0
  try dsimp only
  repeat' first
    | with_reducible exact .refl _
    | with_reducible apply State.transmit_kept
    | with_reducible apply State.chainStep_kept
    | with_reducible apply State.each_kept
    | with_reducible apply State.modRecs_kept
    | intro _

theorem State.setClass_kept {s₀ : State} {c : Nat} {q : List Rec} {s : State} (h₀ : Kept s₀ s) :
    Kept s₀ (State.setClass c q s) := by
  refine h₀.trans ?_
  unfold State.setClass
  try dsimp only
  repeat' first
    | with_reducible exact .refl _
    | with_reducible apply State.modRecs_kept

theorem State.sendClass_kept {s₀ : State} {c : Nat} {s : State} (h₀ : Kept s₀ s) :
    Kept s₀ (State.sendClass c s) := by
  refine h₀.trans ?_
  unfold State.sendClass
  try dsimp only
  repeat' first
    | with_reducible exact .refl _
    | with_reducible apply State.setClass_kept
    | with_reducible apply State.transmit_kept
    | with_reducible apply State.queueManifests_kept
    | with_reducible apply State.chainStep_kept
    | with_reducible apply State.cond_kept
    | with_reducible apply State.each_kept
    | with_reducible apply State.modLink_kept
    | intro _

theorem State.robin_kept {s₀ : State} {s : State} (h₀ : Kept s₀ s) :
    Kept s₀ (State.robin s) := by
  refine h₀.trans ?_
  unfold State.robin
  try dsimp only
  repeat' first
    | with_reducible exact .refl _
    | with_reducible apply State.sendClass_kept
    | with_reducible apply State.modLink_kept
    | split

theorem State.sendFrameNext_kept {s₀ : State} {s : State} (h₀ : Kept s₀ s) :
    Kept s₀ (State.sendFrameNext s) := by
  refine h₀.trans ?_
  unfold State.sendFrameNext
  try dsimp only
  repeat' first
    | with_reducible exact .refl _
    | with_reducible apply State.robin_kept
    | with_reducible apply State.send0_kept
    | with_reducible apply State.resend_kept
    | split

theorem State.linkActive_kept {s₀ : State} {s : State} (h₀ : Kept s₀ s) :
    Kept s₀ (State.linkActive s) := by
  refine h₀.trans ?_
  unfold State.linkActive
  try dsimp only
  repeat' first
    | with_reducible exact .refl _
    | with_reducible apply State.ackFrames_kept
    | with_reducible apply State.setLink_kept
    | with_reducible apply State.succeed_kept
    | with_reducible apply State.cond_kept
    | with_reducible apply State.draw_kept
    | with_reducible apply State.modLink_kept
    | split
    | intro _

theorem State.renegotiate_kept {s₀ : State} {rate : Nat} {width : Nat} {s : State} (h₀ : Kept s₀ s) :
    Kept s₀ (State.renegotiate rate width s) := by
  refine h₀.trans ?_
  unfold State.renegotiate
  try dsimp only
  repeat' first
    | with_reducible exact .refl _
    | with_reducible apply State.stageFails_kept
    | with_reducible apply State.putCaps_kept
    | with_reducible apply State.modLink_kept
    | split

theorem State.capBlock_kept {s₀ : State} {index : Nat} {content : BitVec 48} {s : State} (h₀ : Kept s₀ s) :
    Kept s₀ (State.capBlock index content s) := by
  refine h₀.trans ?_
  unfold State.capBlock
  try dsimp only
  repeat' first
    | with_reducible exact .refl _
    | with_reducible apply State.renegotiate_kept
    | with_reducible apply State.linkActive_kept
    | with_reducible apply State.stageFails_kept
    | with_reducible apply State.cond_kept
    | with_reducible apply State.modLink_kept
    | split
    | intro _

theorem State.peerShows_kept {s₀ : State} {lane : Nat} {locked : Bool} {rates : BitVec 3} {s : State} (h₀ : Kept s₀ s) :
    Kept s₀ (State.peerShows lane locked rates s) := by
  refine h₀.trans ?_
  unfold State.peerShows
  try dsimp only
  repeat' first
    | with_reducible exact .refl _
    | with_reducible apply State.putBlock_kept
    | with_reducible apply State.cond_kept
    | with_reducible apply State.modLink_kept
    | intro _

theorem State.trainSeen_kept {s₀ : State} {lane : Nat} {locked : Bool} {rates : BitVec 3} {s : State} (h₀ : Kept s₀ s) :
    Kept s₀ (State.trainSeen lane locked rates s) := by
  refine h₀.trans ?_
  unfold State.trainSeen
  try dsimp only
  repeat' first
    | with_reducible exact .refl _
    | with_reducible apply State.peerShows_kept
    | with_reducible apply State.recoverLink_kept
    | with_reducible apply State.cond_kept
    | split
    | intro _

theorem State.discardQueue_kept {s₀ : State} {q : List Rec} {s : State} (h₀ : Kept s₀ s) :
    Kept s₀ (s.discardQueue q).2 := by
  unfold State.discardQueue
  refine foldl_snd_kept _ (fun x a => ?_) _ ([], s) h₀
  dsimp only
  split
  · exact .refl _
  · dsimp only; exact State.modRecs_kept (.refl _)

theorem State.recoveryDiscard_kept {s₀ : State} {s : State} (h₀ : Kept s₀ s) :
    Kept s₀ (State.recoveryDiscard s) := by
  refine h₀.trans ?_
  unfold State.recoveryDiscard
  try dsimp only
  repeat' first
    | with_reducible exact .refl _
    | with_reducible apply State.queueManifests_kept
    | with_reducible apply State.discardQueue_kept
    | with_reducible apply State.modLink_kept
    | with_reducible apply State.modRecs_kept
    | split

theorem State.recoveryEnds_kept {s₀ : State} {s : State} (h₀ : Kept s₀ s) :
    Kept s₀ (State.recoveryEnds s) := by
  refine h₀.trans ?_
  unfold State.recoveryEnds
  try dsimp only
  repeat' first
    | with_reducible exact .refl _
    | with_reducible apply State.linkDown_kept
    | with_reducible apply State.cond_kept
    | intro _

theorem State.linkStatus_kept {s₀ : State} {handle : Nat} {s : State} (h₀ : Kept s₀ s) :
    Kept s₀ (State.linkStatus handle s) := by
  refine h₀.trans ?_
  unfold State.linkStatus
  try dsimp only
  repeat' first
    | with_reducible exact .refl _
    | with_reducible apply State.succeed_kept

theorem State.linkRetrain_kept {s₀ : State} {handle : Nat} {s : State} (h₀ : Kept s₀ s) :
    Kept s₀ (State.linkRetrain handle s) := by
  refine h₀.trans ?_
  unfold State.linkRetrain
  try dsimp only
  repeat' first
    | with_reducible exact .refl _
    | with_reducible apply State.enterRecovery_kept
    | with_reducible apply State.cond_kept
    | with_reducible apply State.modLink_kept
    | intro _

theorem State.linkTest_kept {s₀ : State} {duration : Nat} {lanes : List LaneTest} {handle : Nat} {s : State} (h₀ : Kept s₀ s) :
    Kept s₀ (State.linkTest duration lanes handle s) := by
  refine h₀.trans ?_
  unfold State.linkTest
  try dsimp only
  repeat' first
    | with_reducible exact .refl _
    | with_reducible apply State.setLink_kept
    | with_reducible apply State.draw_kept
    | with_reducible apply State.modLink_kept

theorem State.linkTestStop_kept {s₀ : State} {handle : Nat} {s : State} (h₀ : Kept s₀ s) :
    Kept s₀ (State.linkTestStop handle s) := by
  refine h₀.trans ?_
  unfold State.linkTestStop
  try dsimp only
  repeat' first
    | with_reducible exact .refl _
    | with_reducible apply State.succeed_kept
    | with_reducible apply State.modLink_kept

theorem State.linkTestEnd_kept {s₀ : State} {errors : List (List Nat)} {s : State} (h₀ : Kept s₀ s) :
    Kept s₀ (State.linkTestEnd errors s) := by
  refine h₀.trans ?_
  unfold State.linkTestEnd
  try dsimp only
  repeat' first
    | with_reducible exact .refl _
    | with_reducible apply State.linkDetect_kept
    | with_reducible apply State.succeed_kept
    | with_reducible apply State.draw_kept
    | with_reducible apply State.modLink_kept
    | split

theorem State.takeTable_kept {s₀ before s : State} (h₀ : Kept s₀ s) : Kept s₀ (State.takeTable before s) := by
  unfold State.takeTable
  exact State.cond_kept (fun _ => State.modLink_kept (.refl _)) h₀

end Sys2Proof.Machine
end

