-- ==== Sys2Proof/Laws/KeptDistaff.lean ====
section
/-! SUPPORT. What the operations of Machine/Distaff.lean keep. -/

namespace Sys2Proof.Machine

theorem State.setBootSlot_kept {s₀ : State} {b : Bool} {s : State} (h₀ : Kept s₀ s) :
    Kept s₀ (State.setBootSlot b s) := by
  refine h₀.trans ?_
  unfold State.setBootSlot
  try dsimp only
  repeat' first
    | with_reducible exact .refl _
    | with_reducible apply State.modDist_kept

theorem State.setSlot_kept {s₀ : State} {b : Bool} {bytes : Option (List Byte)} {valid : Bool} {s : State} (h₀ : Kept s₀ s) :
    Kept s₀ (State.setSlot b bytes valid s) := by
  refine h₀.trans ?_
  unfold State.setSlot
  try dsimp only
  repeat' first
    | with_reducible exact .refl _
    | with_reducible apply State.modDist_kept

theorem State.distaffDown_kept {s₀ : State} {cause : Nat} {keep : Option Nat} {s : State} (h₀ : Kept s₀ s) :
    Kept s₀ (State.distaffDown cause keep s) := by
  refine h₀.trans ?_
  unfold State.distaffDown
  try dsimp only
  repeat' first
    | with_reducible exact .refl _
    | with_reducible apply State.transit_kept
    | with_reducible apply State.whorlStop_kept
    | with_reducible apply State.calStop_kept
    | with_reducible apply State.dropJobs_kept
    | with_reducible apply State.aborted_kept
    | with_reducible apply State.setInhibit_kept
    | with_reducible apply State.event_kept
    | with_reducible apply State.setFlag_kept
    | with_reducible apply State.cond_kept
    | with_reducible apply State.each_kept
    | with_reducible apply State.modFlyer_kept
    | with_reducible apply State.modDist_kept
    | split
    | intro _

theorem State.watchdog_kept {s₀ : State} {s : State} (h₀ : Kept s₀ s) :
    Kept s₀ (State.watchdog s) := by
  refine h₀.trans ?_
  unfold State.watchdog
  try dsimp only
  repeat' first
    | with_reducible exact .refl _
    | with_reducible apply State.distaffDown_kept
    | with_reducible apply State.cond_kept
    | intro _

theorem State.raiseRollback_kept {s₀ : State} {s : State} (h₀ : Kept s₀ s) :
    Kept s₀ (State.raiseRollback s) := by
  refine h₀.trans ?_
  unfold State.raiseRollback
  try dsimp only
  repeat' first
    | with_reducible exact .refl _
    | with_reducible apply State.nvWrite_kept
    | split

theorem State.distaffUp_kept {s₀ : State} {b : List Byte} {s : State} (h₀ : Kept s₀ s) :
    Kept s₀ (State.distaffUp b s) := by
  refine h₀.trans ?_
  unfold State.distaffUp
  try dsimp only
  repeat' first
    | with_reducible exact .refl _
    | with_reducible apply State.raiseRollback_kept
    | with_reducible apply State.setInhibit_kept
    | with_reducible apply State.event_kept
    | with_reducible apply State.modDist_kept

theorem State.watchdogRestart_kept {s₀ : State} {at_ : Option Tick} {s : State} (h₀ : Kept s₀ s) :
    Kept s₀ (State.watchdogRestart at_ s) := by
  refine h₀.trans ?_
  unfold State.watchdogRestart
  try dsimp only
  repeat' first
    | with_reducible exact .refl _
    | with_reducible apply State.cond_kept
    | with_reducible apply State.modDist_kept
    | intro _

theorem State.loadUpdate_kept {s₀ : State} {figure : LoadFigure} {corrected : Nat} {s : State} (h₀ : Kept s₀ s) :
    Kept s₀ (State.loadUpdate figure corrected s) := by
  refine h₀.trans ?_
  unfold State.loadUpdate
  try dsimp only
  repeat' first
    | with_reducible exact .refl _
    | with_reducible apply State.watchdogRestart_kept
    | with_reducible apply State.event_kept
    | with_reducible apply State.cond_kept
    | with_reducible apply State.modDist_kept
    | split
    | intro _

theorem State.getState_kept {s₀ : State} {handle : Nat} {s : State} (h₀ : Kept s₀ s) :
    Kept s₀ (State.getState handle s) := by
  refine h₀.trans ?_
  unfold State.getState
  try dsimp only
  repeat' first
    | with_reducible exact .refl _
    | with_reducible apply State.succeed_kept

theorem State.readCounters_kept {s₀ : State} {file : Nat} {targets : List Nat} {handle : Nat} {s : State} (h₀ : Kept s₀ s) :
    Kept s₀ (State.readCounters file targets handle s) := by
  refine h₀.trans ?_
  unfold State.readCounters
  try dsimp only
  repeat' first
    | with_reducible exact .refl _
    | with_reducible apply State.succeed_kept

theorem State.clearFlagsOf_kept {s₀ : State} {targets : List Nat} {mask : Nat} {handle : Nat} {s : State} (h₀ : Kept s₀ s) :
    Kept s₀ (State.clearFlagsOf targets mask handle s) := by
  refine h₀.trans ?_
  unfold State.clearFlagsOf
  try dsimp only
  repeat' first
    | with_reducible exact .refl _
    | with_reducible apply State.clearClamp_kept
    | with_reducible apply State.succeed_kept
    | with_reducible apply State.cond_kept
    | with_reducible apply State.each_kept
    | intro _

theorem State.fwBegin_kept {s₀ : State} {length : Nat} {handle : Nat} {s : State} (h₀ : Kept s₀ s) :
    Kept s₀ (State.fwBegin length handle s) := by
  refine h₀.trans ?_
  unfold State.fwBegin
  try dsimp only
  repeat' first
    | with_reducible exact .refl _
    | with_reducible apply State.setSlot_kept
    | with_reducible apply State.succeed_kept
    | with_reducible apply State.modDist_kept

theorem State.fwData_kept {s₀ : State} {data : List Byte} {handle : Nat} {s : State} (h₀ : Kept s₀ s) :
    Kept s₀ (State.fwData data handle s) := by
  refine h₀.trans ?_
  unfold State.fwData
  try dsimp only
  repeat' first
    | with_reducible exact .refl _
    | with_reducible apply State.setSlot_kept
    | with_reducible apply State.succeed_kept
    | with_reducible apply State.modDist_kept

theorem State.fwVerifyDone_kept {s₀ : State} {s : State} (h₀ : Kept s₀ s) :
    Kept s₀ (State.fwVerifyDone s) := by
  refine h₀.trans ?_
  unfold State.fwVerifyDone
  try dsimp only
  repeat' first
    | with_reducible exact .refl _
    | with_reducible apply State.setSlot_kept
    | with_reducible apply State.failedOpen_kept
    | with_reducible apply State.succeed_kept
    | with_reducible apply State.draw_kept
    | with_reducible apply State.modDist_kept
    | split

theorem State.startReload_kept {s₀ : State} {other : Bool} {activate : Bool} {handle : Nat} {s : State} (h₀ : Kept s₀ s) :
    Kept s₀ (State.startReload other activate handle s) := by
  refine h₀.trans ?_
  unfold State.startReload
  try dsimp only
  repeat' first
    | with_reducible exact .refl _
    | with_reducible apply State.distaffDown_kept
    | with_reducible apply State.modDist_kept

theorem State.fwActivate_kept {s₀ : State} {handle : Nat} {s : State} (h₀ : Kept s₀ s) :
    Kept s₀ (State.fwActivate handle s) := by
  refine h₀.trans ?_
  unfold State.fwActivate
  try dsimp only
  repeat' first
    | with_reducible exact .refl _
    | with_reducible apply State.startReload_kept
    | with_reducible apply State.setBootSlot_kept
    | with_reducible apply State.failedOpen_kept
    | with_reducible apply State.modDist_kept
    | split

theorem State.slotRead_kept {s₀ : State} {b : Bool} {bytes : List Byte} {s : State} (h₀ : Kept s₀ s) :
    Kept s₀ (State.slotRead b bytes s) := by
  refine h₀.trans ?_
  unfold State.slotRead
  try dsimp only
  repeat' first
    | with_reducible exact .refl _
    | with_reducible apply State.setSlot_kept
    | with_reducible apply State.cond_kept
    | split
    | intro _

theorem State.reloadDone_kept {s₀ : State} {image : List Byte} {s : State} (h₀ : Kept s₀ s) :
    Kept s₀ (State.reloadDone image s) := by
  refine h₀.trans ?_
  unfold State.reloadDone
  try dsimp only
  repeat' first
    | with_reducible exact .refl _
    | with_reducible apply State.slotRead_kept
    | with_reducible apply State.distaffUp_kept
    | with_reducible apply State.failedOpen_kept
    | with_reducible apply State.failed_kept
    | with_reducible apply State.succeed_kept
    | with_reducible apply State.cond_kept
    | with_reducible apply State.modBoot_kept
    | with_reducible apply State.modDist_kept
    | split
    | intro _

end Sys2Proof.Machine
end

