-- ==== Sys2Proof/Laws/KeptPower.lean ====
section
/-! SUPPORT. What the operations of Machine/Power.lean keep. -/

namespace Sys2Proof.Machine

theorem State.modRail_kept {s₀ : State} {k : Nat} {g : Rail → Rail} {s : State} (h₀ : Kept s₀ s) :
    Kept s₀ (State.modRail k g s) := by
  refine h₀.trans ?_
  unfold State.modRail
  try dsimp only
  repeat' first
    | with_reducible exact .refl _
    | with_reducible apply State.modPower_kept

/-- A fold keeps what each of its steps keeps. -/
theorem foldl_keeps {α β : Type} (P : β → Prop) (f : β → α → β) (k : ∀ m a, P m → P (f m a)) (l : List α) (m : β)
    (h : P m) : P (l.foldl f m) := by
  induction l generalizing m with
  | nil => exact h
  | cons a l ih => exact ih _ (k m a h)

/-- What stays with the device without a supply keeps the queue, canonical form and the order of time. -/
theorem State.afterLoss_sound (s : State) :
    s.afterLoss.pending = s.pending ∧ (s.wf = true → s.afterLoss.wf = true) ∧ s.afterLoss.now = s.now := by
  refine ⟨rfl, fun w => ?_, rfl⟩
  simp only [State.wf, State.memWf, State.partsWf, Bool.and_eq_true] at w ⊢
  exact ⟨⟨⟨⟨w.1.1.1.1, rfl⟩, rfl⟩, rfl⟩, ⟨⟨⟨⟨⟨⟨⟨⟨rfl, rfl⟩, rfl⟩, rfl⟩, rfl⟩, rfl⟩, rfl⟩, rfl⟩, rfl⟩⟩

theorem State.afterRails_kept {s₀ s : State} (h₀ : Kept s₀ s) : Kept s₀ s.afterRails := by
  refine h₀.trans ⟨rfl, id, fun w => ?_, Nat.le_refl _⟩
  simp only [State.wf, State.memWf, State.partsWf, Bool.and_eq_true] at w ⊢
  refine ⟨⟨⟨⟨w.1.1.1.1, rfl⟩, rfl⟩, rfl⟩, ⟨⟨⟨⟨⟨⟨⟨⟨rfl, rfl⟩, ?_⟩, rfl⟩, rfl⟩, rfl⟩, rfl⟩, rfl⟩, Store.wf_filter _ _ _ w.2.2⟩⟩
  exact foldl_keeps (fun m : Store Port => Store.wf {} m = true) (fun m x => Store.write {} m x.1 { windows := x.2.windows })
    (fun m a h => Store.wf_write ({} : Port) m a.1 { windows := a.2.windows } h) s.ports [] rfl

theorem State.toStandby_kept {s₀ : State} {cause : Nat} {s : State} (h₀ : Kept s₀ s) :
    Kept s₀ (State.toStandby cause s) := by
  refine h₀.trans ?_
  unfold State.toStandby
  try dsimp only
  repeat' first
    | with_reducible exact .refl _
    | with_reducible apply State.afterRails_kept
    | with_reducible apply State.setInhibit_kept
    | with_reducible apply State.event_kept
    | with_reducible apply State.setFlag_kept
    | with_reducible apply State.cond_kept
    | with_reducible apply State.each_kept
    | split
    | intro _

theorem State.cancelEnables_kept {s₀ : State} {s : State} (h₀ : Kept s₀ s) :
    Kept s₀ (State.cancelEnables s) := by
  refine h₀.trans ?_
  unfold State.cancelEnables
  try dsimp only
  repeat' first
    | with_reducible exact .refl _
    | with_reducible apply State.modRail_kept
    | with_reducible apply State.cond_kept
    | with_reducible apply State.each_kept
    | intro _

theorem State.startDisabling_kept {s₀ : State} {cause : Nat} {start : Tick} {s : State} (h₀ : Kept s₀ s) :
    Kept s₀ (State.startDisabling cause start s) := by
  refine h₀.trans ?_
  unfold State.startDisabling
  try dsimp only
  repeat' first
    | with_reducible exact .refl _
    | with_reducible apply State.cancelEnables_kept
    | with_reducible apply State.modPower_kept

theorem State.powerOn_sound (mv : Nat) (s : State) : (s.powerOn mv).pending = s.pending ∧
    (s.wf = true → (s.powerOn mv).wf = true) ∧ (s.powerOn mv).now = s.now := by
  unfold State.powerOn
  dsimp only
  split
  · exact ⟨rfl, id, rfl⟩
  · obtain ⟨h1, h2, h3⟩ := s.afterLoss_sound
    exact ⟨h1, h2, h3⟩

/-- POWER_ON outside OFF changes nothing. -/
theorem State.powerOn_kept {s₀ : State} {mv : Nat} {s : State} (h : s.dev ≠ .off) (h₀ : Kept s₀ s) :
    Kept s₀ (s.powerOn mv) := by
  rw [State.powerOn, if_pos (Or.inl h)]
  exact h₀

theorem State.powerLoss_sound (mv : Nat) (s : State) : (s.powerLoss mv).pending = s.pending ∧
    (s.wf = true → (s.powerLoss mv).wf = true) ∧ (s.powerLoss mv).now = s.now := by
  unfold State.powerLoss
  split
  · exact s.afterLoss_sound
  · exact ⟨rfl, id, rfl⟩

theorem State.requestPower_kept {s₀ : State} {bootsel : Nat} {s : State} (h₀ : Kept s₀ s) :
    Kept s₀ (State.requestPower bootsel s) := by
  refine h₀.trans ?_
  unfold State.requestPower
  try dsimp only
  repeat' first
    | with_reducible exact .refl _
    | with_reducible apply State.setFlag_kept
    | with_reducible apply State.modBoot_kept
    | with_reducible apply State.modPower_kept
    | with_reducible apply State.modWhorl_kept
    | with_reducible apply State.modDev_kept
    | split

theorem State.railIsGood_kept {s₀ : State} {k : Nat} {s : State} (h₀ : Kept s₀ s) :
    Kept s₀ (State.railIsGood k s) := by
  refine h₀.trans ?_
  unfold State.railIsGood
  try dsimp only
  repeat' first
    | with_reducible exact .refl _
    | with_reducible apply State.modRail_kept
    | with_reducible apply State.linkDetect_kept
    | with_reducible apply State.cond_kept
    | with_reducible apply State.modSide_kept
    | with_reducible apply State.modBoot_kept
    | with_reducible apply State.modPower_kept
    | with_reducible exact id
    | split
    | intro _

theorem State.sequenceFails_kept {s₀ : State} {k : Nat} {mv : Nat} {s : State} (h₀ : Kept s₀ s) :
    Kept s₀ (State.sequenceFails k mv s) := by
  refine h₀.trans ?_
  unfold State.sequenceFails
  try dsimp only
  repeat' first
    | with_reducible exact .refl _
    | with_reducible apply State.startDisabling_kept
    | with_reducible apply State.log_kept
    | with_reducible apply State.setFlag_kept
    | with_reducible apply State.modBoot_kept
    | with_reducible apply State.modPower_kept
    | split

theorem State.railOff_kept {s₀ : State} {s : State} (h₀ : Kept s₀ s) :
    Kept s₀ (State.railOff s) := by
  refine h₀.trans ?_
  unfold State.railOff
  try dsimp only
  repeat' first
    | with_reducible exact .refl _
    | with_reducible apply State.toStandby_kept
    | with_reducible apply State.modRail_kept
    | with_reducible apply State.linkDown_kept
    | with_reducible apply State.cond_kept
    | with_reducible apply State.modPower_kept
    | split
    | intro _

theorem State.autoPowerUp_kept {s₀ : State} {bootsel : Nat} {s : State} (h₀ : Kept s₀ s) :
    Kept s₀ (State.autoPowerUp bootsel s) := by
  refine h₀.trans ?_
  unfold State.autoPowerUp
  try dsimp only
  repeat' first
    | with_reducible exact .refl _
    | with_reducible apply State.requestPower_kept
    | with_reducible apply State.modPower_kept
    | split

theorem State.shutCause_kept {s₀ : State} {cause : Nat} {s : State} (h₀ : Kept s₀ s) :
    Kept s₀ (State.shutCause cause s) := by
  refine h₀.trans ?_
  unfold State.shutCause
  try dsimp only
  repeat' first
    | with_reducible exact .refl _
    | with_reducible apply State.setInhibit_kept
    | with_reducible apply State.event_kept
    | with_reducible apply State.modNvCtl_kept
    | with_reducible apply State.modPower_kept

theorem State.shutdown_kept {s₀ : State} {cause : Nat} {s : State} (h₀ : Kept s₀ s) :
    Kept s₀ (State.shutdown cause s) := by
  refine h₀.trans ?_
  unfold State.shutdown
  try dsimp only
  repeat' first
    | with_reducible exact .refl _
    | with_reducible apply State.shutCause_kept
    | with_reducible apply State.cancelEnables_kept
    | with_reducible apply State.whorlStop_kept
    | with_reducible apply State.setPort_kept
    | with_reducible apply State.stopBias_kept
    | with_reducible apply State.unsay_kept
    | with_reducible apply State.each_kept
    | with_reducible apply State.modBoot_kept
    | with_reducible apply State.modNvCtl_kept
    | with_reducible apply State.modPower_kept
    | split
    | intro _

theorem State.shutdownRecord_kept {s₀ s : State} (h₀ : Kept s₀ s) : Kept s₀ s.shutdownRecord := by
  refine h₀.trans ?_
  unfold State.shutdownRecord
  split
  · split
    · exact .refl _
    · refine State.startDisabling_kept (State.modPower_kept (State.cond_kept
        (fun _ => State.modNv_kept (.refl _) (Memory.wf_write _ _ _)) ?_))
      exact State.draw_kept (n := 2 ^ 32) (.refl s)
  · exact .refl _

theorem State.sagBegins_kept {s₀ : State} {k : Nat} {mv : Nat} {s : State} (h₀ : Kept s₀ s) :
    Kept s₀ (State.sagBegins k mv s) := by
  refine h₀.trans ?_
  unfold State.sagBegins
  try dsimp only
  repeat' first
    | with_reducible exact .refl _
    | with_reducible apply State.modRail_kept
    | with_reducible apply State.whorlStop_kept
    | with_reducible apply State.setInhibit_kept
    | with_reducible apply State.event_kept
    | with_reducible apply State.setFlag_kept
    | with_reducible apply State.cond_kept
    | with_reducible apply State.modMarks_kept
    | split
    | intro _

theorem State.sagEnds_kept {s₀ : State} {k : Nat} {mv : Nat} {reading : Nat} {s : State} (h₀ : Kept s₀ s) :
    Kept s₀ (State.sagEnds k mv reading s) := by
  refine h₀.trans ?_
  unfold State.sagEnds
  try dsimp only
  repeat' first
    | with_reducible exact .refl _
    | with_reducible apply State.modRail_kept
    | with_reducible apply State.setInhibit_kept
    | with_reducible apply State.event_kept
    | with_reducible apply State.cond_kept
    | with_reducible apply State.modPower_kept
    | with_reducible apply State.modMarks_kept
    | split
    | intro _

theorem State.sagFaults_kept {s₀ : State} {s : State} (h₀ : Kept s₀ s) :
    Kept s₀ (State.sagFaults s) := by
  refine h₀.trans ?_
  unfold State.sagFaults
  try dsimp only
  repeat' first
    | with_reducible exact .refl _
    | with_reducible apply State.faultCause_kept
    | with_reducible apply State.cond_kept
    | intro _

theorem State.sagFaultEnds_kept {s₀ : State} {s : State} (h₀ : Kept s₀ s) :
    Kept s₀ (State.sagFaultEnds s) := by
  refine h₀.trans ?_
  unfold State.sagFaultEnds
  try dsimp only
  repeat' first
    | with_reducible exact .refl _
    | with_reducible apply State.faultGone_kept
    | with_reducible apply State.cond_kept
    | intro _

theorem State.railReset_kept {s₀ : State} {k : Nat} {mv : Nat} {s : State} (h₀ : Kept s₀ s) :
    Kept s₀ (State.railReset k mv s) := by
  refine h₀.trans ?_
  unfold State.railReset
  try dsimp only
  repeat' first
    | with_reducible exact .refl _
    | with_reducible apply State.shutdown_kept
    | with_reducible apply State.cond_kept
    | intro _

theorem State.railWaits_kept {s₀ : State} {k : Nat} {mv : Nat} {s : State} (h₀ : Kept s₀ s) :
    Kept s₀ (State.railWaits k mv s) := by
  refine h₀.trans ?_
  unfold State.railWaits
  try dsimp only
  repeat' first
    | with_reducible exact .refl _
    | with_reducible apply State.modRail_kept
    | with_reducible apply State.cond_kept
    | split
    | intro _

theorem State.railWindow_kept {s₀ : State} {k : Nat} {mv : Nat} {s : State} (h₀ : Kept s₀ s) :
    Kept s₀ (State.railWindow k mv s) := by
  refine h₀.trans ?_
  unfold State.railWindow
  try dsimp only
  repeat' first
    | with_reducible exact .refl _
    | with_reducible apply State.railWaits_kept
    | with_reducible apply State.modRail_kept
    | with_reducible apply State.health_kept
    | with_reducible apply State.setFlag_kept
    | with_reducible apply State.cond_kept
    | split
    | intro _

theorem State.nvThreshold_kept {s₀ : State} {mv : Nat} {s : State} (h₀ : Kept s₀ s) :
    Kept s₀ (State.nvThreshold mv s) := by
  refine h₀.trans ?_
  unfold State.nvThreshold
  try dsimp only
  repeat' first
    | with_reducible exact .refl _
    | with_reducible apply State.nvResume_kept
    | with_reducible apply State.nvStop_kept
    | with_reducible apply State.event_kept
    | with_reducible apply State.modPower_kept
    | split

theorem State.setLevel_kept {s₀ : State} {l : Nat} {temp : Int} {s : State} (h₀ : Kept s₀ s) :
    Kept s₀ (State.setLevel l temp s) := by
  refine h₀.trans ?_
  unfold State.setLevel
  try dsimp only
  repeat' first
    | with_reducible exact .refl _
    | with_reducible apply State.reducedNow_kept
    | with_reducible apply State.event_kept
    | with_reducible apply State.setFlag_kept
    | with_reducible apply State.cond_kept
    | with_reducible apply State.modPower_kept
    | split
    | intro _

theorem State.levelAt_kept {s₀ : State} {temp : Int} {cause : Nat} {s : State} (h₀ : Kept s₀ s) :
    Kept s₀ (State.levelAt temp cause s) := by
  refine h₀.trans ?_
  unfold State.levelAt
  try dsimp only
  repeat' first
    | with_reducible exact .refl _
    | with_reducible apply State.setLevel_kept
    | with_reducible apply State.shutdown_kept
    | with_reducible apply State.cond_kept
    | with_reducible apply State.modPower_kept
    | intro _

theorem State.proxyWasHot_kept {s₀ : State} {s : State} (h₀ : Kept s₀ s) :
    Kept s₀ (State.proxyWasHot s) := by
  refine h₀.trans ?_
  unfold State.proxyWasHot
  try dsimp only
  repeat' first
    | with_reducible exact .refl _
    | with_reducible apply State.cond_kept
    | with_reducible apply State.modPower_kept
    | intro _

theorem State.throttleEnds_kept {s₀ : State} {s : State} (h₀ : Kept s₀ s) :
    Kept s₀ (State.throttleEnds s) := by
  refine h₀.trans ?_
  unfold State.throttleEnds
  try dsimp only
  repeat' first
    | with_reducible exact .refl _
    | with_reducible apply State.setLevel_kept
    | split

theorem State.blindBegins_kept {s₀ : State} {s : State} (h₀ : Kept s₀ s) :
    Kept s₀ (State.blindBegins s) := by
  refine h₀.trans ?_
  unfold State.blindBegins
  try dsimp only
  repeat' first
    | with_reducible exact .refl _
    | with_reducible apply State.reducedNow_kept
    | with_reducible apply State.endIfDone_kept
    | with_reducible apply State.refreshStep_kept
    | with_reducible apply State.stopCaptures_kept
    | with_reducible apply State.cond_kept
    | split
    | intro _

theorem State.acceptReading_kept {s₀ : State} {v : Int} {s : State} (h₀ : Kept s₀ s) :
    Kept s₀ (State.acceptReading v s) := by
  refine h₀.trans ?_
  unfold State.acceptReading
  try dsimp only
  repeat' first
    | with_reducible exact .refl _
    | with_reducible apply State.modPower_kept

theorem State.diodeBreaks_kept {s₀ : State} {v : Int} {s : State} (h₀ : Kept s₀ s) :
    Kept s₀ (State.diodeBreaks v s) := by
  refine h₀.trans ?_
  unfold State.diodeBreaks
  try dsimp only
  repeat' first
    | with_reducible exact .refl _
    | with_reducible apply State.blindBegins_kept
    | with_reducible apply State.levelAt_kept
    | with_reducible apply State.event_kept
    | with_reducible apply State.setFlag_kept
    | with_reducible apply State.modPower_kept
    | split

theorem State.brokenReading_kept {s₀ : State} {v : Int} {s : State} (h₀ : Kept s₀ s) :
    Kept s₀ (State.brokenReading v s) := by
  refine h₀.trans ?_
  unfold State.brokenReading
  try dsimp only
  repeat' first
    | with_reducible exact .refl _
    | with_reducible apply State.acceptReading_kept
    | with_reducible apply State.proxyWasHot_kept
    | with_reducible apply State.levelAt_kept
    | with_reducible apply State.reducedNow_kept
    | with_reducible apply State.dramReading_kept
    | with_reducible apply State.event_kept
    | with_reducible apply State.modPower_kept
    | split

theorem State.judgeReading_kept {s₀ : State} {v : Int} {s : State} (h₀ : Kept s₀ s) :
    Kept s₀ (State.judgeReading v s) := by
  refine h₀.trans ?_
  unfold State.judgeReading
  try dsimp only
  repeat' first
    | with_reducible exact .refl _
    | with_reducible apply State.brokenReading_kept
    | with_reducible apply State.diodeBreaks_kept
    | with_reducible apply State.acceptReading_kept
    | with_reducible apply State.levelAt_kept
    | with_reducible apply State.dramReading_kept
    | with_reducible apply State.cond_kept
    | with_reducible apply State.modPower_kept
    | split
    | intro _

theorem State.diodeReading_kept {s₀ : State} {v : Int} {patterns : List (Nat × Nat)} {s : State} (h₀ : Kept s₀ s) :
    Kept s₀ (State.diodeReading v patterns s) := by
  refine h₀.trans ?_
  unfold State.diodeReading
  try dsimp only
  repeat' first
    | with_reducible exact .refl _
    | with_reducible apply State.judgeReading_kept
    | with_reducible apply State.notePatterns_kept
    | with_reducible apply State.modPower_kept
    | split

theorem State.proxyTemp_kept {s₀ : State} {temp : Int} {seconds : Nat} {handle : Nat} {s : State} (h₀ : Kept s₀ s) :
    Kept s₀ (State.proxyTemp temp seconds handle s) := by
  refine h₀.trans ?_
  unfold State.proxyTemp
  try dsimp only
  repeat' first
    | with_reducible exact .refl _
    | with_reducible apply State.proxyWasHot_kept
    | with_reducible apply State.levelAt_kept
    | with_reducible apply State.reducedNow_kept
    | with_reducible apply State.succeed_kept
    | with_reducible apply State.event_kept
    | with_reducible apply State.cond_kept
    | with_reducible apply State.modPower_kept
    | split
    | intro _

theorem State.proxyExpires_kept {s₀ : State} {s : State} (h₀ : Kept s₀ s) :
    Kept s₀ (State.proxyExpires s) := by
  refine h₀.trans ?_
  unfold State.proxyExpires
  try dsimp only
  repeat' first
    | with_reducible exact .refl _
    | with_reducible apply State.blindBegins_kept
    | with_reducible apply State.proxyWasHot_kept
    | with_reducible apply State.event_kept
    | with_reducible apply State.cond_kept
    | with_reducible apply State.modPower_kept
    | split
    | intro _

end Sys2Proof.Machine
end

