-- ==== Sys2Proof/Laws/KeptStartup.lean ====
section
/-! SUPPORT. What the operations of Machine/Startup.lean keep. -/

namespace Sys2Proof.Machine

theorem State.bootFails_kept {s₀ : State} {cause : Nat} {s : State} (h₀ : Kept s₀ s) :
    Kept s₀ (State.bootFails cause s) := by
  refine h₀.trans ?_
  unfold State.bootFails
  try dsimp only
  repeat' first
    | with_reducible exact .refl _
    | with_reducible apply State.health_kept
    | with_reducible apply State.log_kept
    | with_reducible apply State.setFlag_kept
    | with_reducible apply State.cond_kept
    | with_reducible apply State.modBoot_kept
    | intro _

theorem State.toBootStage_kept {s₀ : State} {k : Nat} {s : State} (h₀ : Kept s₀ s) :
    Kept s₀ (State.toBootStage k s) := by
  refine h₀.trans ?_
  unfold State.toBootStage
  try dsimp only
  repeat' first
    | with_reducible exact .refl _
    | with_reducible apply State.modBoot_kept

theorem State.measureRef_kept {s₀ : State} {hz : Nat} {s : State} (h₀ : Kept s₀ s) :
    Kept s₀ (State.measureRef hz s) := by
  refine h₀.trans ?_
  unfold State.measureRef
  try dsimp only
  repeat' first
    | with_reducible exact .refl _
    | with_reducible apply State.bootFails_kept
    | with_reducible apply State.log_kept
    | with_reducible apply State.modBoot_kept
    | with_reducible apply State.modSpindle_kept
    | split

theorem State.pllLocks_kept {s₀ : State} {which : Nat} {s : State} (h₀ : Kept s₀ s) :
    Kept s₀ (State.pllLocks which s) := by
  refine h₀.trans ?_
  unfold State.pllLocks
  try dsimp only
  repeat' first
    | with_reducible exact .refl _
    | with_reducible apply State.linkDetect_kept
    | with_reducible apply State.cond_kept
    | with_reducible apply State.modBoot_kept
    | with_reducible apply State.modPllLocked_kept
    | with_reducible apply State.modClock_kept
    | with_reducible exact Nat.le_refl _
    | split
    | intro _

theorem State.resolveObjects_kept {s₀ : State} {s : State} (h₀ : Kept s₀ s) :
    Kept s₀ (State.resolveObjects s) := by
  refine h₀.trans ?_
  unfold State.resolveObjects
  try dsimp only
  repeat' first
    | with_reducible exact .refl _
    | with_reducible apply State.health_kept
    | with_reducible apply State.cond_kept
    | with_reducible apply State.each_kept
    | with_reducible apply State.modNvCtl_kept
    | split
    | intro _

theorem State.copyReserve_kept {s₀ : State} {s : State} (h₀ : Kept s₀ s) :
    Kept s₀ (State.copyReserve s) := by
  refine h₀.trans ?_
  unfold State.copyReserve
  try dsimp only
  repeat' first
    | with_reducible exact .refl _
    | with_reducible apply State.log_kept
    | with_reducible apply State.queueErases_kept
    | with_reducible apply State.each_kept
    | intro _

theorem State.loadTrust_kept {s₀ : State} {s : State} (h₀ : Kept s₀ s) :
    Kept s₀ (State.loadTrust s) := by
  refine h₀.trans ?_
  unfold State.loadTrust
  try dsimp only
  repeat' first
    | with_reducible exact .refl _
    | with_reducible apply State.modTrust_kept
    | with_reducible exact id
    | split

theorem State.storeRead_kept {s₀ : State} {s : State} (h₀ : Kept s₀ s) :
    Kept s₀ (State.storeRead s) := by
  refine h₀.trans ?_
  unfold State.storeRead
  try dsimp only
  repeat' first
    | with_reducible exact .refl _
    | with_reducible apply State.loadTrust_kept
    | with_reducible apply State.copyReserve_kept
    | with_reducible apply State.resolveObjects_kept
    | with_reducible apply State.toBootStage_kept
    | with_reducible apply State.bootFails_kept
    | with_reducible apply State.loadCounters_kept
    | with_reducible apply State.calApply_kept
    | with_reducible apply State.health_kept
    | with_reducible apply State.cond_kept
    | with_reducible apply State.modBoot_kept
    | with_reducible apply State.modLink_kept
    | split
    | intro _

theorem State.afterTraining_kept {s₀ : State} {s : State} (h₀ : Kept s₀ s) :
    Kept s₀ (State.afterTraining s) := by
  refine h₀.trans ?_
  unfold State.afterTraining
  try dsimp only
  repeat' first
    | with_reducible exact .refl _
    | with_reducible apply State.toBootStage_kept
    | with_reducible apply State.bootFails_kept
    | split

theorem State.trainingDone_kept {s₀ : State} {eyes : List (List LaneEye)} {s : State} (h₀ : Kept s₀ s) :
    Kept s₀ (State.trainingDone eyes s) := by
  refine h₀.trans ?_
  unfold State.trainingDone
  try dsimp only
  repeat' first
    | with_reducible exact .refl _
    | with_reducible apply State.afterTraining_kept
    | with_reducible apply State.retestTrained_kept
    | with_reducible apply State.trainAll_kept
    | split

theorem State.imageRead_kept {s₀ : State} {image : List Byte} {s : State} (h₀ : Kept s₀ s) :
    Kept s₀ (State.imageRead image s) := by
  refine h₀.trans ?_
  unfold State.imageRead
  try dsimp only
  repeat' first
    | with_reducible exact .refl _
    | with_reducible apply State.toBootStage_kept
    | with_reducible apply State.bootFails_kept
    | with_reducible apply State.slotRead_kept
    | with_reducible apply State.cond_kept
    | with_reducible apply State.modBoot_kept
    | split
    | intro _

theorem State.bootSafe_kept {s₀ : State} {s : State} (h₀ : Kept s₀ s) :
    Kept s₀ (State.bootSafe s) := by
  refine h₀.trans ?_
  unfold State.bootSafe
  try dsimp only
  repeat' first
    | with_reducible exact .refl _
    | with_reducible apply State.distaffUp_kept
    | with_reducible apply State.setSeed_kept
    | with_reducible apply State.faultCause_kept
    | with_reducible apply State.enter_kept
    | with_reducible apply State.nvWrite_kept
    | with_reducible apply State.enterAcquiring_kept
    | with_reducible apply State.log_kept
    | with_reducible apply State.cond_kept
    | with_reducible apply State.draw_kept
    | with_reducible apply State.modBoot_kept
    | with_reducible apply State.modTrust_kept
    | exact fun _ => rfl
    | intro _

theorem State.afterVerify_kept {s₀ : State} {s : State} (h₀ : Kept s₀ s) :
    Kept s₀ (State.afterVerify s) := by
  refine h₀.trans ?_
  unfold State.afterVerify
  try dsimp only
  repeat' first
    | with_reducible exact .refl _
    | with_reducible apply State.bootSafe_kept
    | with_reducible apply State.toBootStage_kept
    | split

theorem State.imageVerified_kept {s₀ : State} {s : State} (h₀ : Kept s₀ s) :
    Kept s₀ (State.imageVerified s) := by
  refine h₀.trans ?_
  unfold State.imageVerified
  try dsimp only
  repeat' first
    | with_reducible exact .refl _
    | with_reducible apply State.cond_kept
    | with_reducible apply State.afterVerify_kept
    | with_reducible apply State.toBootStage_kept
    | with_reducible apply State.bootFails_kept
    | with_reducible apply State.modBoot_kept
    | split
    | intro _

theorem State.bootTestDone_kept {s₀ : State} {dram : Bool} {r : TestResult} {s : State} (h₀ : Kept s₀ s) :
    Kept s₀ (State.bootTestDone dram r s) := by
  refine h₀.trans ?_
  unfold State.bootTestDone
  try dsimp only
  repeat' first
    | with_reducible exact .refl _
    | with_reducible apply State.bootSafe_kept
    | with_reducible apply State.toBootStage_kept
    | with_reducible apply State.bootFails_kept
    | with_reducible apply State.mapOut_kept
    | with_reducible apply State.health_kept
    | with_reducible apply State.cond_kept
    | with_reducible apply State.each_kept
    | with_reducible apply State.draw_kept
    | with_reducible apply State.modBoot_kept
    | split
    | intro _

theorem State.hostLoadTimeout_kept {s₀ : State} {s : State} (h₀ : Kept s₀ s) :
    Kept s₀ (State.hostLoadTimeout s) := by
  refine h₀.trans ?_
  unfold State.hostLoadTimeout
  try dsimp only
  repeat' first
    | with_reducible exact .refl _
    | with_reducible apply State.bootFails_kept
    | with_reducible apply State.cond_kept
    | intro _

theorem State.loadDone_kept {s₀ : State} {s : State} (h₀ : Kept s₀ s) :
    Kept s₀ (State.loadDone s) := by
  refine h₀.trans ?_
  unfold State.loadDone
  try dsimp only
  repeat' first
    | with_reducible exact .refl _
    | with_reducible apply State.setFlag_kept
    | with_reducible apply State.modBoot_kept
    | split

theorem State.shutdownCommand_kept {s₀ : State} {start : Nat} {length : Nat} {handle : Nat} {s : State} (h₀ : Kept s₀ s) :
    Kept s₀ (State.shutdownCommand start length handle s) := by
  refine h₀.trans ?_
  unfold State.shutdownCommand
  try dsimp only
  repeat' first
    | with_reducible exact .refl _
    | with_reducible apply State.enter_kept
    | with_reducible apply State.setPort_kept
    | with_reducible apply State.stopBias_kept
    | with_reducible apply State.succeed_kept
    | with_reducible apply State.each_kept
    | with_reducible apply State.modBoot_kept
    | intro _

theorem State.writeVerdict_kept {s₀ : State} {verdict : Nat} {reason : Nat} {r : TestResult} {ran : Bool} {s : State} (h₀ : Kept s₀ s) :
    Kept s₀ (State.writeVerdict verdict reason r ran s) := by
  refine h₀.trans ?_
  unfold State.writeVerdict
  try dsimp only
  repeat' first
    | with_reducible exact .refl _
    | with_reducible apply State.startDisabling_kept
    | with_reducible apply State.nvWrite_kept
    | with_reducible apply State.log_kept
    | with_reducible apply State.modBoot_kept
    | split

theorem State.testStarts_kept {s₀ : State} {kilohertz : Nat} {mv : Nat} {s : State} (h₀ : Kept s₀ s) :
    Kept s₀ (State.testStarts kilohertz mv s) := by
  refine h₀.trans ?_
  unfold State.testStarts
  try dsimp only
  repeat' first
    | with_reducible exact .refl _
    | with_reducible apply State.writeVerdict_kept
    | with_reducible apply State.linkDown_kept
    | with_reducible apply State.modBoot_kept
    | with_reducible apply State.modDist_kept
    | split

theorem State.testChecks_kept {s₀ : State} {kilohertz : Nat} {mv : Nat} {s : State} (h₀ : Kept s₀ s) :
    Kept s₀ (State.testChecks kilohertz mv s) := by
  refine h₀.trans ?_
  unfold State.testChecks
  try dsimp only
  repeat' first
    | with_reducible exact .refl _
    | with_reducible apply State.writeVerdict_kept
    | with_reducible apply State.modBoot_kept
    | split

theorem State.testEnds_kept {s₀ : State} {r : TestResult} {s : State} (h₀ : Kept s₀ s) :
    Kept s₀ (State.testEnds r s) := by
  refine h₀.trans ?_
  unfold State.testEnds
  try dsimp only
  repeat' first
    | with_reducible exact .refl _
    | with_reducible apply State.writeVerdict_kept
    | split

theorem State.verdictWritten_kept {s₀ before s : State} (h₀ : Kept s₀ s) :
    Kept s₀ (State.verdictWritten before s) := by
  unfold State.verdictWritten
  exact State.cond_kept (fun _ => State.startDisabling_kept (.refl _)) h₀

end Sys2Proof.Machine
end

