-- ==== Sys2Proof/Laws/KeptSide.lean ====
section
/-! SUPPORT. What the operations of Machine/Side.lean keep. -/

namespace Sys2Proof.Machine

theorem State.writeRing_kept {s₀ : State} {r : Resp} {s : State} (h₀ : Kept s₀ s) :
    Kept s₀ (State.writeRing r s) := by
  refine h₀.trans ?_
  unfold State.writeRing
  dsimp only
  exact State.modSide_kept (.refl _) (foldl_memory_wf _ (fun m a h => Memory.wf_write m _ _ h) _ _)

theorem State.deliver_kept {s₀ : State} {s : State} (h₀ : Kept s₀ s) :
    Kept s₀ (State.deliver s) := by
  refine h₀.trans ?_
  unfold State.deliver
  try dsimp only
  repeat' first
    | with_reducible exact .refl _
    | with_reducible apply State.writeRing_kept
    | with_reducible apply State.answerFronts_kept
    | with_reducible apply State.modDist_kept
    | with_reducible apply State.modRecs_kept
    | split

theorem State.setConsumer_kept {s₀ : State} {i : Nat} {s : State} (h₀ : Kept s₀ s) :
    Kept s₀ (State.setConsumer i s) := by
  refine h₀.trans ?_
  unfold State.setConsumer
  try dsimp only
  repeat' first
    | with_reducible exact .refl _
    | with_reducible apply State.retireHandles_kept
    | with_reducible apply State.setFlag_kept
    | with_reducible apply State.modSide_kept
    | with_reducible exact id
    | split

theorem State.doorbell_kept {s₀ : State} {slot : Nat} {s : State} (h₀ : Kept s₀ s) :
    Kept s₀ (State.doorbell slot s) := by
  refine h₀.trans ?_
  unfold State.doorbell
  try dsimp only
  repeat' first
    | with_reducible exact .refl _
    | with_reducible apply State.answerFronts_kept
    | with_reducible apply State.setFlag_kept
    | with_reducible apply State.modSide_kept
    | with_reducible apply State.modDist_kept
    | with_reducible exact id
    | split

theorem State.clearSideFlags_kept {s₀ : State} {v : Word32} {s : State} (h₀ : Kept s₀ s) :
    Kept s₀ (State.clearSideFlags v s) := by
  refine h₀.trans ?_
  unfold State.clearSideFlags
  try dsimp only
  repeat' first
    | with_reducible exact .refl _
    | with_reducible apply State.modSide_kept
    | with_reducible exact id

theorem State.selectLog_kept {s₀ : State} {v : Word32} {s : State} (h₀ : Kept s₀ s) :
    Kept s₀ (State.selectLog v s) := by
  refine h₀.trans ?_
  unfold State.selectLog
  try dsimp only
  repeat' first
    | with_reducible exact .refl _
    | with_reducible apply State.cond_kept
    | with_reducible apply State.modSide_kept
    | with_reducible exact id
    | intro _

theorem State.windowLoaded_kept {s₀ : State} {s : State} (h₀ : Kept s₀ s) :
    Kept s₀ (State.windowLoaded s) := by
  refine h₀.trans ?_
  unfold State.windowLoaded
  try dsimp only
  repeat' first
    | with_reducible exact .refl _
    | with_reducible apply State.modSide_kept
    | with_reducible exact id
    | split

theorem State.readSide_kept {s₀ : State} {a : Nat} {s : State} (h₀ : Kept s₀ s) :
    Kept s₀ (State.readSide a s) := by
  refine h₀.trans ?_
  unfold State.readSide
  try dsimp only
  repeat' first
    | with_reducible exact .refl _
    | with_reducible apply State.modSide_kept
    | with_reducible exact id
    | split

theorem State.writeBootCtrl_kept {s₀ : State} {v : Nat} {s : State} (h₀ : Kept s₀ s) :
    Kept s₀ (State.writeBootCtrl v s) := by
  refine h₀.trans ?_
  unfold State.writeBootCtrl
  try dsimp only
  repeat' first
    | with_reducible exact .refl _
    | with_reducible apply State.loadDone_kept
    | with_reducible apply State.requestPower_kept
    | with_reducible apply State.cond_kept
    | with_reducible apply State.draw_kept
    | with_reducible apply State.modSide_kept
    | with_reducible exact id
    | intro _

theorem State.writeWord_kept {s₀ : State} {a : Nat} {w : Word32} {s : State} (h₀ : Kept s₀ s) :
    Kept s₀ (State.writeWord a w s) := by
  refine h₀.trans ?_
  unfold State.writeWord
  try dsimp only
  repeat' first
    | with_reducible exact .refl _
    | with_reducible apply State.writeBootCtrl_kept
    | with_reducible apply State.selectLog_kept
    | with_reducible apply State.clearSideFlags_kept
    | with_reducible apply State.doorbell_kept
    | with_reducible apply State.setConsumer_kept
    | with_reducible apply State.cond_kept
    | with_reducible apply State.modSide_kept
    | with_reducible exact id
    | with_reducible exact Memory.wf_write _ _ _
    | split
    | intro _

theorem State.writeWords_kept {s₀ : State} {a : Nat} {data : List Byte} {s : State} (h₀ : Kept s₀ s) :
    Kept s₀ (State.writeWords a data s) := by
  fun_induction State.writeWords a data s with
  | case1 a b0 b1 b2 b3 r s ih => exact ih (State.writeWord_kept h₀)
  | case2 => exact h₀

theorem State.readWords_kept {s₀ : State} {l : List Nat} {s : State} (h₀ : Kept s₀ s) :
    Kept s₀ (State.readWords l s).2 := by
  induction l generalizing s with
  | nil => exact h₀
  | cons a l ih => exact ih (State.readSide_kept h₀)

theorem State.sideFrame_kept {s₀ : State} {opcode : Byte} {a : Nat} {data : List Byte} {s : State} (h₀ : Kept s₀ s) :
    Kept s₀ (State.sideFrame opcode a data s) := by
  refine h₀.trans ?_
  unfold State.sideFrame
  dsimp only
  split
  · exact .refl _
  · refine State.cond_kept (fun _ => State.setFlag_kept (.refl _)) (State.modSide_kept ?_ id)
    split
    · exact State.writeWords_kept (.refl _)
    · split
      · exact State.readWords_kept (.refl _)
      · exact .refl _

end Sys2Proof.Machine
end

