-- ==== Sys2Proof/Laws/KeptExec.lean ====
section
/-! SUPPORT. What the operations of the block keep. -/

namespace Sys2Proof.Machine

theorem execClampEvent_kept {t : Tick} {clamp : ClampStart} {s : State} {u : State} (h : execClampEvent t clamp s = .next u) : Kept s u := by
  simp only [execClampEvent] at h
  all_goals obtain rfl := Host.Outcome.next.inj h
  all_goals repeat' first
    | with_reducible exact .refl _
    | with_reducible apply State.clampStart_kept
    | with_reducible apply State.advance_kept

theorem execClampEnd_kept {t : Tick} {c : Nat} {s : State} {u : State} (h : execClampEnd t c s = .next u) : Kept s u := by
  simp only [execClampEnd] at h
  all_goals obtain rfl := Host.Outcome.next.inj h
  all_goals repeat' first
    | with_reducible exact .refl _
    | with_reducible apply State.clampEnd_kept
    | with_reducible apply State.advance_kept

theorem execBiasSettled_kept {t : Tick} {line : BiasReadings} {s : State} {u : State} (h : execBiasSettled t line s = .next u) : Kept s u := by
  simp only [execBiasSettled] at h
  all_goals obtain rfl := Host.Outcome.next.inj h
  all_goals repeat' first
    | with_reducible exact .refl _
    | with_reducible apply State.biasSettled_kept
    | with_reducible apply State.advance_kept

theorem execBiasFault_kept {t : Tick} {bank : Nat} {force : ForceReading} {s : State} {u : State} (h : execBiasFault t bank force s = .next u) : Kept s u := by
  simp only [execBiasFault] at h
  all_goals obtain rfl := Host.Outcome.next.inj h
  all_goals repeat' first
    | with_reducible exact .refl _
    | with_reducible apply State.biasFault_kept
    | with_reducible apply State.advance_kept

theorem execSenseLineOpen_kept {t : Tick} {bank : Nat} {lines : SenseReadings} {s : State} {u : State} (h : execSenseLineOpen t bank lines s = .next u) : Kept s u := by
  simp only [execSenseLineOpen] at h
  all_goals obtain rfl := Host.Outcome.next.inj h
  all_goals repeat' first
    | with_reducible exact .refl _
    | with_reducible apply State.senseOpen_kept
    | with_reducible apply State.advance_kept

theorem execOpenInputSubBlock_kept {t : Tick} {c : Nat} {sums : List (Nat × Nat)} {samples : Nat} {invalid : Nat} {s : State} {u : State} (h : execOpenInputSubBlock t c sums samples invalid s = .next u) : Kept s u := by
  simp only [execOpenInputSubBlock] at h
  all_goals obtain rfl := Host.Outcome.next.inj h
  all_goals repeat' first
    | with_reducible exact .refl _
    | with_reducible apply State.subBlock_kept
    | with_reducible apply State.advance_kept

theorem execSamplePllUnlock_kept {t : Tick} {s : State} {u : State} (h : execSamplePllUnlock t s = .next u) : Kept s u := by
  simp only [execSamplePllUnlock] at h
  all_goals obtain rfl := Host.Outcome.next.inj h
  all_goals repeat' first
    | with_reducible exact .refl _
    | with_reducible apply State.pllUnlock_kept
    | with_reducible apply State.advance_kept

theorem execSamplePllRelock_kept {t : Tick} {s : State} {u : State} (h : execSamplePllRelock t s = .next u) : Kept s u := by
  simp only [execSamplePllRelock] at h
  all_goals obtain rfl := Host.Outcome.next.inj h
  all_goals repeat' first
    | with_reducible exact .refl _
    | with_reducible apply State.pllRelock_kept
    | with_reducible apply State.advance_kept

theorem execTrackingBlockEnd_kept {t : Tick} {c : Nat} {stages : StageMeans} {squares : List Int} {s : State} {u : State} (h : execTrackingBlockEnd t c stages squares s = .next u) : Kept s u := by
  simp only [execTrackingBlockEnd] at h
  all_goals obtain rfl := Host.Outcome.next.inj h
  all_goals repeat' first
    | with_reducible exact .refl _
    | with_reducible apply State.trackBlock_kept
    | with_reducible apply State.advance_kept

theorem execBiasSenseRestore_kept {t : Tick} {h : Hdr} {bank : Nat} {readings : List Int} {s : State} {u : State} (h : execBiasSenseRestore t h bank readings s = .next u) : Kept s u := by
  simp only [execBiasSenseRestore] at h
  all_goals obtain rfl := Host.Outcome.next.inj h
  all_goals repeat' first
    | with_reducible exact .refl _
    | with_reducible apply State.senseRestore_kept
    | with_reducible apply State.command_kept
    | with_reducible apply State.failedOpen_kept
    | with_reducible apply State.succeed_kept
    | with_reducible apply State.cond_kept
    | with_reducible apply State.advance_kept
    | split
    | intro _

theorem execHkTimerEvent_kept {t : Tick} {s : State} {u : State} (h : execHkTimerEvent t s = .next u) : Kept s u := by
  simp only [execHkTimerEvent] at h
  all_goals obtain rfl := Host.Outcome.next.inj h
  all_goals repeat' first
    | with_reducible exact .refl _
    | with_reducible apply State.hkTimerEvent_kept
    | with_reducible apply State.advance_kept

theorem execHktrigPulse_kept {t : Tick} {high : Bool} {width : Nat} {s : State} {u : State} (h : execHktrigPulse t high width s = .next u) : Kept s u := by
  simp only [execHktrigPulse] at h
  all_goals obtain rfl := Host.Outcome.next.inj h
  all_goals repeat' first
    | with_reducible exact .refl _
    | with_reducible apply State.hktrigPulse_kept
    | with_reducible apply State.advance_kept

theorem execHkRunStart_kept {t : Tick} {pulse : Bool} {s : State} {u : State} (h : execHkRunStart t pulse s = .next u) : Kept s u := by
  simp only [execHkRunStart] at h
  all_goals obtain rfl := Host.Outcome.next.inj h
  all_goals repeat' first
    | with_reducible exact .refl _
    | with_reducible apply State.hkRunStart_kept
    | with_reducible apply State.advance_kept

theorem execReferenceSettled_kept {t : Tick} {s : State} {u : State} (h : execReferenceSettled t s = .next u) : Kept s u := by
  simp only [execReferenceSettled] at h
  all_goals obtain rfl := Host.Outcome.next.inj h
  all_goals repeat' first
    | with_reducible exact .refl _
    | with_reducible apply State.referenceSettled_kept
    | with_reducible apply State.advance_kept

theorem execExternalReferenceFault_kept {t : Tick} {millivolts : Nat} {s : State} {u : State} (h : execExternalReferenceFault t millivolts s = .next u) : Kept s u := by
  simp only [execExternalReferenceFault] at h
  all_goals obtain rfl := Host.Outcome.next.inj h
  all_goals repeat' first
    | with_reducible exact .refl _
    | with_reducible apply State.hkrefIs_kept
    | with_reducible apply State.advance_kept

theorem execInject_kept {t : Tick} {h : Hdr} {input : Nat} {s : State} {u : State} (h : execInject t h input s = .next u) : Kept s u := by
  simp only [execInject] at h
  all_goals obtain rfl := Host.Outcome.next.inj h
  all_goals repeat' first
    | with_reducible exact .refl _
    | with_reducible apply State.injectNow_kept
    | with_reducible apply State.command_kept
    | with_reducible apply State.advance_kept
    | intro _

theorem execReadHousekeepingQueue_kept {t : Tick} {h : Hdr} {count : Nat} {s : State} {u : State} (h : execReadHousekeepingQueue t h count s = .next u) : Kept s u := by
  simp only [execReadHousekeepingQueue] at h
  all_goals obtain rfl := Host.Outcome.next.inj h
  all_goals repeat' first
    | with_reducible exact .refl _
    | with_reducible apply State.command_kept
    | with_reducible apply State.succeed_kept
    | with_reducible apply State.advance_kept
    | with_reducible apply State.modHk_kept
    | intro _

theorem execQuietTimeout_kept {t : Tick} {c : Nat} {s : State} {u : State} (h : execQuietTimeout t c s = .next u) : Kept s u := by
  simp only [execQuietTimeout] at h
  all_goals obtain rfl := Host.Outcome.next.inj h
  all_goals repeat' first
    | with_reducible exact .refl _
    | with_reducible apply State.quietTimeout_kept
    | with_reducible apply State.advance_kept

theorem execHeldTimeout_kept {t : Tick} {c : Nat} {s : State} {u : State} (h : execHeldTimeout t c s = .next u) : Kept s u := by
  simp only [execHeldTimeout] at h
  all_goals obtain rfl := Host.Outcome.next.inj h
  all_goals repeat' first
    | with_reducible exact .refl _
    | with_reducible apply State.heldTimeout_kept
    | with_reducible apply State.advance_kept

theorem execLeadingCrossing_kept {t : Tick} {c : Nat} {k : Nat} {raw : List Nat} {s : State} {u : State} (h : execLeadingCrossing t c k raw s = .next u) : Kept s u := by
  simp only [execLeadingCrossing] at h
  all_goals obtain rfl := Host.Outcome.next.inj h
  all_goals repeat' first
    | with_reducible exact .refl _
    | with_reducible apply State.leading_kept
    | with_reducible apply State.advance_kept

theorem execTrailingCrossing_kept {t : Tick} {c : Nat} {k : Nat} {raw : List Nat} {s : State} {u : State} (h : execTrailingCrossing t c k raw s = .next u) : Kept s u := by
  simp only [execTrailingCrossing] at h
  all_goals obtain rfl := Host.Outcome.next.inj h
  all_goals repeat' first
    | with_reducible exact .refl _
    | with_reducible apply State.trailing_kept
    | with_reducible apply State.advance_kept

theorem execEventTruncation_kept {t : Tick} {c : Nat} {k : Nat} {raw : List Nat} {s : State} {u : State} (h : execEventTruncation t c k raw s = .next u) : Kept s u := by
  simp only [execEventTruncation] at h
  all_goals obtain rfl := Host.Outcome.next.inj h
  all_goals repeat' first
    | with_reducible exact .refl _
    | with_reducible apply State.truncateEvent_kept
    | with_reducible apply State.advance_kept

theorem execReadDetectors_kept {t : Tick} {h : Hdr} {c : Nat} {s : State} {u : State} (h : execReadDetectors t h c s = .next u) : Kept s u := by
  simp only [execReadDetectors] at h
  all_goals obtain rfl := Host.Outcome.next.inj h
  all_goals repeat' first
    | with_reducible exact .refl _
    | with_reducible apply State.command_kept
    | with_reducible apply State.succeed_kept
    | with_reducible apply State.advance_kept
    | intro _

theorem execIntervalTimeout_kept {t : Tick} {run : Nat} {s : State} {u : State} (h : execIntervalTimeout t run s = .next u) : Kept s u := by
  simp only [execIntervalTimeout] at h
  all_goals obtain rfl := Host.Outcome.next.inj h
  all_goals repeat' first
    | with_reducible exact .refl _
    | with_reducible apply State.intervalTimeout_kept
    | with_reducible apply State.advance_kept

theorem execStatisticsTimeout_kept {t : Tick} {run : Nat} {s : State} {u : State} (h : execStatisticsTimeout t run s = .next u) : Kept s u := by
  simp only [execStatisticsTimeout] at h
  all_goals obtain rfl := Host.Outcome.next.inj h
  all_goals repeat' first
    | with_reducible exact .refl _
    | with_reducible apply State.runTimeout_kept
    | with_reducible apply State.advance_kept

theorem execStatistics_kept {t : Tick} {h : Hdr} {kind : StatKind} {order : Nat} {timeout : Nat} {s : State} {u : State} (h : execStatistics t h kind order timeout s = .next u) : Kept s u := by
  simp only [execStatistics] at h
  all_goals obtain rfl := Host.Outcome.next.inj h
  all_goals repeat' first
    | with_reducible exact .refl _
    | with_reducible apply State.command_kept
    | with_reducible apply State.advance_kept
    | with_reducible apply State.modRuns_kept
    | intro _

theorem execAuxfEdge_kept {t : Tick} {input : Nat} {s : State} {u : State} (h : execAuxfEdge t input s = .next u) : Kept s u := by
  simp only [execAuxfEdge] at h
  all_goals obtain rfl := Host.Outcome.next.inj h
  all_goals repeat' first
    | with_reducible exact .refl _
    | with_reducible apply State.auxEdge_kept
    | with_reducible apply State.advance_kept

theorem execFrequencyGateEnd_kept {t : Tick} {input : Nat} {s : State} {u : State} (h : execFrequencyGateEnd t input s = .next u) : Kept s u := by
  simp only [execFrequencyGateEnd] at h
  all_goals obtain rfl := Host.Outcome.next.inj h
  all_goals repeat' first
    | with_reducible exact .refl _
    | with_reducible apply State.gateEnd_kept
    | with_reducible apply State.advance_kept

theorem execMeasureFrequency_kept {t : Tick} {h : Hdr} {input : Nat} {gate : Nat} {s : State} {u : State} (h : execMeasureFrequency t h input gate s = .next u) : Kept s u := by
  simp only [execMeasureFrequency] at h
  all_goals obtain rfl := Host.Outcome.next.inj h
  all_goals repeat' first
    | with_reducible exact .refl _
    | with_reducible apply State.command_kept
    | with_reducible apply State.advance_kept
    | with_reducible apply State.modAux_kept
    | intro _

theorem execClusterResolution_kept {t : Tick} {c : Nat} {s : State} {u : State} (h : execClusterResolution t c s = .next u) : Kept s u := by
  simp only [execClusterResolution] at h
  all_goals obtain rfl := Host.Outcome.next.inj h
  all_goals repeat' first
    | with_reducible exact .refl _
    | with_reducible apply State.clusterResolution_kept
    | with_reducible apply State.advance_kept

theorem execComparatorCrossing_kept {t : Tick} {c : Nat} {tot : Nat} {s : State} {u : State} (h : execComparatorCrossing t c tot s = .next u) : Kept s u := by
  simp only [execComparatorCrossing] at h
  all_goals obtain rfl := Host.Outcome.next.inj h
  all_goals repeat' first
    | with_reducible exact .refl _
    | with_reducible apply State.crossing_kept
    | with_reducible apply State.advance_kept

theorem execStampHandoff_kept {t : Tick} {c : Nat} {s : State} {u : State} (h : execStampHandoff t c s = .next u) : Kept s u := by
  simp only [execStampHandoff] at h
  all_goals obtain rfl := Host.Outcome.next.inj h
  all_goals repeat' first
    | with_reducible exact .refl _
    | with_reducible apply State.handoff_kept
    | with_reducible apply State.advance_kept

theorem execInterpolatorExchange_kept {t : Tick} {lin : Linearisation} {s : State} {u : State} (h : execInterpolatorExchange t lin s = .next u) : Kept s u := by
  simp only [execInterpolatorExchange] at h
  all_goals obtain rfl := Host.Outcome.next.inj h
  all_goals repeat' first
    | with_reducible exact .refl _
    | with_reducible apply State.exchange_kept
    | with_reducible apply State.advance_kept

theorem execEventPairing_kept {t : Tick} {c : Nat} {s : State} {u : State} (h : execEventPairing t c s = .next u) : Kept s u := by
  simp only [execEventPairing] at h
  all_goals obtain rfl := Host.Outcome.next.inj h
  all_goals repeat' first
    | with_reducible exact .refl _
    | with_reducible apply State.pairEvent_kept
    | with_reducible apply State.advance_kept

theorem execPickoffDecision_kept {t : Tick} {entry : Nat} {s : State} {u : State} (h : execPickoffDecision t entry s = .next u) : Kept s u := by
  simp only [execPickoffDecision] at h
  all_goals obtain rfl := Host.Outcome.next.inj h
  all_goals repeat' first
    | with_reducible exact .refl _
    | with_reducible apply State.pickoffDecision_kept
    | with_reducible apply State.advance_kept

theorem execBobbinShotComplete_kept {t : Tick} {c : Nat} {slot : Nat} {entry : Nat} {raw : List Nat} {s : State} {u : State} (h : execBobbinShotComplete t c slot entry raw s = .next u) : Kept s u := by
  simp only [execBobbinShotComplete] at h
  all_goals obtain rfl := Host.Outcome.next.inj h
  all_goals repeat' first
    | with_reducible exact .refl _
    | with_reducible apply State.bobComplete_kept
    | with_reducible apply State.advance_kept

theorem execSpillDone_kept {t : Tick} {c : Nat} {slot : Nat} {s : State} {u : State} (h : execSpillDone t c slot s = .next u) : Kept s u := by
  simp only [execSpillDone] at h
  all_goals obtain rfl := Host.Outcome.next.inj h
  all_goals repeat' first
    | with_reducible exact .refl _
    | with_reducible apply State.spillDone_kept
    | with_reducible apply State.advance_kept

theorem execSecondPass_kept {t : Tick} {c : Nat} {slot : Nat} {s : State} {u : State} (h : execSecondPass t c slot s = .next u) : Kept s u := by
  simp only [execSecondPass] at h
  all_goals obtain rfl := Host.Outcome.next.inj h
  all_goals repeat' first
    | with_reducible exact .refl _
    | with_reducible apply State.secondPass_kept
    | with_reducible apply State.advance_kept

theorem execHistogramBlockSend_kept {t : Tick} {c : Nat} {slot : Nat} {s : State} {u : State} (h : execHistogramBlockSend t c slot s = .next u) : Kept s u := by
  simp only [execHistogramBlockSend] at h
  all_goals obtain rfl := Host.Outcome.next.inj h
  all_goals repeat' first
    | with_reducible exact .refl _
    | with_reducible apply State.blockSend_kept
    | with_reducible apply State.advance_kept

theorem execBobbinStart_kept {t : Tick} {h : Hdr} {c : Nat} {slot : Nat} {params : BobbinParams} {s : State} {u : State} (h : execBobbinStart t h c slot params s = .next u) : Kept s u := by
  simp only [execBobbinStart] at h
  all_goals obtain rfl := Host.Outcome.next.inj h
  all_goals repeat' first
    | with_reducible exact .refl _
    | with_reducible apply State.modBob_kept
    | with_reducible apply State.command_kept
    | with_reducible apply State.advance_kept
    | intro _

theorem execBobbinFlush_kept {t : Tick} {h : Hdr} {c : Nat} {slot : Nat} {s : State} {u : State} (h : execBobbinFlush t h c slot s = .next u) : Kept s u := by
  simp only [execBobbinFlush] at h
  all_goals obtain rfl := Host.Outcome.next.inj h
  all_goals repeat' first
    | with_reducible exact .refl _
    | with_reducible apply State.bobFinish_kept
    | with_reducible apply State.modBob_kept
    | with_reducible apply State.command_kept
    | with_reducible apply State.succeed_kept
    | with_reducible apply State.advance_kept
    | split
    | intro _

theorem execRangeBoundary_kept {t : Tick} {c : Nat} {deviation : Nat} {overRange : Bool} {servo : Nat} {s : State} {u : State} (h : execRangeBoundary t c deviation overRange servo s = .next u) : Kept s u := by
  simp only [execRangeBoundary] at h
  all_goals obtain rfl := Host.Outcome.next.inj h
  all_goals repeat' first
    | with_reducible exact .refl _
    | with_reducible apply State.rangeBoundary_kept
    | with_reducible apply State.advance_kept

theorem execAmbientGateOpen_kept {t : Tick} {c : Nat} {s : State} {u : State} (h : execAmbientGateOpen t c s = .next u) : Kept s u := by
  simp only [execAmbientGateOpen] at h
  all_goals obtain rfl := Host.Outcome.next.inj h
  all_goals repeat' first
    | with_reducible exact .refl _
    | with_reducible apply State.ambientGate_kept
    | with_reducible apply State.advance_kept

theorem execGateClose_kept {t : Tick} {c : Nat} {sum : GateSum} {overRange : Bool} {s : State} {u : State} (h : execGateClose t c sum overRange s = .next u) : Kept s u := by
  simp only [execGateClose] at h
  all_goals obtain rfl := Host.Outcome.next.inj h
  all_goals repeat' first
    | with_reducible exact .refl _
    | with_reducible apply State.gateClose_kept
    | with_reducible apply State.advance_kept

theorem execDetectorWindowEnd_kept {t : Tick} {c : Nat} {raw : List Nat} {s : State} {u : State} (h : execDetectorWindowEnd t c raw s = .next u) : Kept s u := by
  simp only [execDetectorWindowEnd] at h
  all_goals obtain rfl := Host.Outcome.next.inj h
  all_goals repeat' first
    | with_reducible exact .refl _
    | with_reducible apply State.detectorWindow_kept
    | with_reducible apply State.advance_kept

theorem execCardingDecision_kept {t : Tick} {c : Nat} {s : State} {u : State} (h : execCardingDecision t c s = .next u) : Kept s u := by
  simp only [execCardingDecision] at h
  all_goals obtain rfl := Host.Outcome.next.inj h
  all_goals repeat' first
    | with_reducible exact .refl _
    | with_reducible apply State.cardDecide_kept
    | with_reducible apply State.advance_kept

theorem execAssessmentPeriodEnd_kept {t : Tick} {s : State} {u : State} (h : execAssessmentPeriodEnd t s = .next u) : Kept s u := by
  simp only [execAssessmentPeriodEnd] at h
  all_goals obtain rfl := Host.Outcome.next.inj h
  all_goals repeat' first
    | with_reducible exact .refl _
    | with_reducible apply State.periodEnd_kept
    | with_reducible apply State.advance_kept

theorem execTriggerDecision_kept {t : Tick} {ring : GroupWords} {s : State} {u : State} (h : execTriggerDecision t ring s = .next u) : Kept s u := by
  simp only [execTriggerDecision] at h
  all_goals obtain rfl := Host.Outcome.next.inj h
  all_goals repeat' first
    | with_reducible exact .refl _
    | with_reducible apply State.decideTriggers_kept
    | with_reducible apply State.advance_kept

theorem execScheduledTrigger_kept {t : Tick} {group : Nat} {s : State} {u : State} (h : execScheduledTrigger t group s = .next u) : Kept s u := by
  simp only [execScheduledTrigger] at h
  all_goals obtain rfl := Host.Outcome.next.inj h
  all_goals repeat' first
    | with_reducible exact .refl _
    | with_reducible apply State.scheduledTrigger_kept
    | with_reducible apply State.advance_kept

theorem execArmEffect_kept {t : Tick} {group : Nat} {s : State} {u : State} (h : execArmEffect t group s = .next u) : Kept s u := by
  simp only [execArmEffect] at h
  all_goals obtain rfl := Host.Outcome.next.inj h
  all_goals repeat' first
    | with_reducible exact .refl _
    | with_reducible apply State.armEffect_kept
    | with_reducible apply State.advance_kept

theorem execRingFilled_kept {t : Tick} {ring : GroupWords} {s : State} {u : State} (h : execRingFilled t ring s = .next u) : Kept s u := by
  simp only [execRingFilled] at h
  all_goals obtain rfl := Host.Outcome.next.inj h
  all_goals repeat' first
    | with_reducible exact .refl _
    | with_reducible apply State.ringFilled_kept
    | with_reducible apply State.advance_kept

theorem execPostTriggerEnd_kept {t : Tick} {group : Nat} {words : List RawWord} {s : State} {u : State} (h : execPostTriggerEnd t group words s = .next u) : Kept s u := by
  simp only [execPostTriggerEnd] at h
  all_goals obtain rfl := Host.Outcome.next.inj h
  all_goals repeat' first
    | with_reducible exact .refl _
    | with_reducible apply State.postEnd_kept
    | with_reducible apply State.advance_kept

theorem execRearmEnd_kept {t : Tick} {group : Nat} {s : State} {u : State} (h : execRearmEnd t group s = .next u) : Kept s u := by
  simp only [execRearmEnd] at h
  all_goals obtain rfl := Host.Outcome.next.inj h
  all_goals repeat' first
    | with_reducible exact .refl _
    | with_reducible apply State.rearmEnd_kept
    | with_reducible apply State.advance_kept

theorem execSegmentClose_kept {t : Tick} {group : Nat} {words : List RawWord} {s : State} {u : State} (h : execSegmentClose t group words s = .next u) : Kept s u := by
  simp only [execSegmentClose] at h
  all_goals obtain rfl := Host.Outcome.next.inj h
  all_goals repeat' first
    | with_reducible exact .refl _
    | with_reducible apply State.segmentClose_kept
    | with_reducible apply State.advance_kept

theorem execCaptureOverflow_kept {t : Tick} {lost : Nat} {words : List RawWord} {s : State} {u : State} (h : execCaptureOverflow t lost words s = .next u) : Kept s u := by
  simp only [execCaptureOverflow] at h
  all_goals obtain rfl := Host.Outcome.next.inj h
  all_goals repeat' first
    | with_reducible exact .refl _
    | with_reducible apply State.captureOverflow_kept
    | with_reducible apply State.advance_kept

theorem execWaveformBlockSend_kept {t : Tick} {group : Nat} {s : State} {u : State} (h : execWaveformBlockSend t group s = .next u) : Kept s u := by
  simp only [execWaveformBlockSend] at h
  all_goals obtain rfl := Host.Outcome.next.inj h
  all_goals repeat' first
    | with_reducible exact .refl _
    | with_reducible apply State.sendBlock_kept
    | with_reducible apply State.advance_kept

theorem execCaptureArm_kept {t : Tick} {h : Hdr} {group : Nat} {params : CaptureParams} {s : State} {u : State} (h : execCaptureArm t h group params s = .next u) : Kept s u := by
  simp only [execCaptureArm] at h
  all_goals obtain rfl := Host.Outcome.next.inj h
  all_goals repeat' first
    | with_reducible exact .refl _
    | with_reducible apply State.armGroup_kept
    | with_reducible apply State.command_kept
    | with_reducible apply State.advance_kept
    | intro _

theorem execCaptureStop_kept {t : Tick} {h : Hdr} {group : Nat} {s : State} {u : State} (h : execCaptureStop t h group s = .next u) : Kept s u := by
  simp only [execCaptureStop] at h
  all_goals obtain rfl := Host.Outcome.next.inj h
  all_goals repeat' first
    | with_reducible exact .refl _
    | with_reducible apply State.stopGroup_kept
    | with_reducible apply State.command_kept
    | with_reducible apply State.succeed_kept
    | with_reducible apply State.advance_kept
    | split
    | intro _

theorem execHostTrigger_kept {t : Tick} {h : Hdr} {group : Nat} {s : State} {u : State} (h : execHostTrigger t h group s = .next u) : Kept s u := by
  simp only [execHostTrigger] at h
  all_goals obtain rfl := Host.Outcome.next.inj h
  all_goals repeat' first
    | with_reducible exact .refl _
    | with_reducible apply State.hostTrigger_kept
    | with_reducible apply State.command_kept
    | with_reducible apply State.succeed_kept
    | with_reducible apply State.advance_kept
    | intro _

theorem execCaptureRead_kept {t : Tick} {h : Hdr} {group : Nat} {firstSeg : Nat} {lastSeg : Nat} {channels : BitVec 256} {lo : Int} {hi : Int} {s : State} {u : State} (h : execCaptureRead t h group firstSeg lastSeg channels lo hi s = .next u) : Kept s u := by
  simp only [execCaptureRead] at h
  all_goals obtain rfl := Host.Outcome.next.inj h
  all_goals repeat' first
    | with_reducible exact .refl _
    | with_reducible apply State.startRead_kept
    | with_reducible apply State.command_kept
    | with_reducible apply State.advance_kept
    | intro _

theorem execRefresh_kept {t : Tick} {ch : Nat} {bank : Nat} {postpone : Bool} {s : State} {u : State} (h : execRefresh t ch bank postpone s = .next u) : Kept s u := by
  simp only [execRefresh] at h
  all_goals obtain rfl := Host.Outcome.next.inj h
  all_goals repeat' first
    | with_reducible exact .refl _
    | with_reducible apply State.refreshDue_kept
    | with_reducible apply State.advance_kept

theorem execRefreshRateReturn_kept {t : Tick} {s : State} {u : State} (h : execRefreshRateReturn t s = .next u) : Kept s u := by
  simp only [execRefreshRateReturn] at h
  all_goals obtain rfl := Host.Outcome.next.inj h
  all_goals repeat' first
    | with_reducible exact .refl _
    | with_reducible apply State.refreshReturn_kept
    | with_reducible apply State.advance_kept

theorem execRowIdleClose_kept {t : Tick} {ch : Nat} {bank : Nat} {s : State} {u : State} (h : execRowIdleClose t ch bank s = .next u) : Kept s u := by
  simp only [execRowIdleClose] at h
  all_goals obtain rfl := Host.Outcome.next.inj h
  all_goals repeat' first
    | with_reducible exact .refl _
    | with_reducible apply State.rowIdle_kept
    | with_reducible apply State.advance_kept

theorem execRetrainChannelStart_kept {t : Tick} {s : State} {u : State} (h : execRetrainChannelStart t s = .next u) : Kept s u := by
  simp only [execRetrainChannelStart] at h
  all_goals obtain rfl := Host.Outcome.next.inj h
  all_goals repeat' first
    | with_reducible exact .refl _
    | with_reducible apply State.trainStart_kept
    | with_reducible apply State.advance_kept

theorem execRetrainChannelEnd_kept {t : Tick} {eyes : List LaneEye} {s : State} {u : State} (h : execRetrainChannelEnd t eyes s = .next u) : Kept s u := by
  simp only [execRetrainChannelEnd] at h
  all_goals obtain rfl := Host.Outcome.next.inj h
  all_goals repeat' first
    | with_reducible exact .refl _
    | with_reducible apply State.trainEnd_kept
    | with_reducible apply State.advance_kept

theorem execDramStatus_kept {t : Tick} {h : Hdr} {s : State} {u : State} (h : execDramStatus t h s = .next u) : Kept s u := by
  simp only [execDramStatus] at h
  all_goals obtain rfl := Host.Outcome.next.inj h
  all_goals repeat' first
    | with_reducible exact .refl _
    | with_reducible apply State.dramStatus_kept
    | with_reducible apply State.command_kept
    | with_reducible apply State.advance_kept
    | intro _

theorem execDramRetrain_kept {t : Tick} {h : Hdr} {retest : Bool} {s : State} {u : State} (h : execDramRetrain t h retest s = .next u) : Kept s u := by
  simp only [execDramRetrain] at h
  all_goals obtain rfl := Host.Outcome.next.inj h
  all_goals repeat' first
    | with_reducible exact .refl _
    | with_reducible apply State.retrain_kept
    | with_reducible apply State.command_kept
    | with_reducible apply State.advance_kept
    | intro _

theorem execNvEraseDone_kept {t : Tick} {s : State} {u : State} (h : execNvEraseDone t s = .next u) : Kept s u := by
  simp only [execNvEraseDone] at h
  all_goals obtain rfl := Host.Outcome.next.inj h
  all_goals repeat' first
    | with_reducible exact .refl _
    | with_reducible apply State.nvEraseDone_kept
    | with_reducible apply State.advance_kept

theorem execReadEventLog_kept {t : Tick} {h : Hdr} {first : Nat} {count : Nat} {s : State} {u : State} (h : execReadEventLog t h first count s = .next u) : Kept s u := by
  simp only [execReadEventLog] at h
  all_goals obtain rfl := Host.Outcome.next.inj h
  all_goals repeat' first
    | with_reducible exact .refl _
    | with_reducible apply State.command_kept
    | with_reducible apply State.succeed_kept
    | with_reducible apply State.advance_kept
    | intro _

theorem execSaveCalibration_kept {t : Tick} {h : Hdr} {s : State} {u : State} (h : execSaveCalibration t h s = .next u) : Kept s u := by
  simp only [execSaveCalibration] at h
  all_goals obtain rfl := Host.Outcome.next.inj h
  all_goals repeat' first
    | with_reducible exact .refl _
    | with_reducible apply State.nvWrite_kept
    | with_reducible apply State.command_kept
    | with_reducible apply State.advance_kept
    | intro _

theorem execWhorlVerdict_kept {t : Tick} {entry : Nat} {s : State} {u : State} (h : execWhorlVerdict t entry s = .next u) : Kept s u := by
  simp only [execWhorlVerdict] at h
  all_goals obtain rfl := Host.Outcome.next.inj h
  all_goals repeat' first
    | with_reducible exact .refl _
    | with_reducible apply State.verdictOf_kept
    | with_reducible apply State.advance_kept

theorem execScannerWord_kept {t : Tick} {port : Nat} {word : BitVec 18} {s : State} {u : State} (h : execScannerWord t port word s = .next u) : Kept s u := by
  simp only [execScannerWord] at h
  all_goals obtain rfl := Host.Outcome.next.inj h
  all_goals repeat' first
    | with_reducible exact .refl _
    | with_reducible apply State.scannerWord_kept
    | with_reducible apply State.takeWord_kept
    | with_reducible apply State.cond_kept
    | with_reducible apply State.advance_kept
    | split
    | intro _

theorem execScannerCrossingMissing_kept {t : Tick} {port : Nat} {s : State} {u : State} (h : execScannerCrossingMissing t port s = .next u) : Kept s u := by
  simp only [execScannerCrossingMissing] at h
  all_goals obtain rfl := Host.Outcome.next.inj h
  all_goals repeat' first
    | with_reducible exact .refl _
    | with_reducible apply State.crossingMissing_kept
    | with_reducible apply State.advance_kept

theorem execProbe_kept {t : Tick} {head : ProbedHead} {s : State} {u : State} (h : execProbe t head s = .next u) : Kept s u := by
  simp only [execProbe] at h
  all_goals obtain rfl := Host.Outcome.next.inj h
  all_goals repeat' first
    | with_reducible exact .refl _
    | with_reducible apply State.probePort_kept
    | with_reducible apply State.advance_kept

theorem execPresence_kept {t : Tick} {port : Nat} {current : Nat} {s : State} {u : State} (h : execPresence t port current s = .next u) : Kept s u := by
  simp only [execPresence] at h
  all_goals obtain rfl := Host.Outcome.next.inj h
  all_goals repeat' first
    | with_reducible exact .refl _
    | with_reducible apply State.headPresent_kept
    | with_reducible apply State.advance_kept

theorem execPortTrip_kept {t : Tick} {port : Nat} {current : Nat} {s : State} {u : State} (h : execPortTrip t port current s = .next u) : Kept s u := by
  simp only [execPortTrip] at h
  all_goals obtain rfl := Host.Outcome.next.inj h
  all_goals repeat' first
    | with_reducible exact .refl _
    | with_reducible apply State.tripPort_kept
    | with_reducible apply State.advance_kept

theorem execHeadRemoved_kept {t : Tick} {port : Nat} {removal : Removal} {s : State} {u : State} (h : execHeadRemoved t port removal s = .next u) : Kept s u := by
  simp only [execHeadRemoved] at h
  all_goals obtain rfl := Host.Outcome.next.inj h
  all_goals repeat' first
    | with_reducible exact .refl _
    | with_reducible apply State.removeHead_kept
    | with_reducible apply State.advance_kept
    | split

theorem execRemovedEnd_kept {t : Tick} {port : Nat} {s : State} {u : State} (h : execRemovedEnd t port s = .next u) : Kept s u := by
  simp only [execRemovedEnd] at h
  all_goals obtain rfl := Host.Outcome.next.inj h
  all_goals repeat' first
    | with_reducible exact .refl _
    | with_reducible apply State.setPort_kept
    | with_reducible apply State.advance_kept
    | split

theorem execNoTelemetryTimeout_kept {t : Tick} {port : Nat} {s : State} {u : State} (h : execNoTelemetryTimeout t port s = .next u) : Kept s u := by
  simp only [execNoTelemetryTimeout] at h
  all_goals obtain rfl := Host.Outcome.next.inj h
  all_goals repeat' first
    | with_reducible exact .refl _
    | with_reducible apply State.rejectHead_kept
    | with_reducible apply State.advance_kept
    | split

theorem execReadingTimeout_kept {t : Tick} {port : Nat} {s : State} {u : State} (h : execReadingTimeout t port s = .next u) : Kept s u := by
  simp only [execReadingTimeout] at h
  all_goals obtain rfl := Host.Outcome.next.inj h
  all_goals repeat' first
    | with_reducible exact .refl _
    | with_reducible apply State.rejectHead_kept
    | with_reducible apply State.advance_kept
    | split

theorem execTelemetryStatus_kept {t : Tick} {port : Nat} {word : BitVec 18} {s : State} {u : State} (h : execTelemetryStatus t port word s = .next u) : Kept s u := by
  simp only [execTelemetryStatus] at h
  all_goals obtain rfl := Host.Outcome.next.inj h
  all_goals repeat' first
    | with_reducible exact .refl _
    | with_reducible apply State.statusWord_kept
    | with_reducible apply State.takeWord_kept
    | with_reducible apply State.advance_kept
    | intro _

theorem execBoardTemperatureStale_kept {t : Tick} {port : Nat} {board : Nat} {s : State} {u : State} (h : execBoardTemperatureStale t port board s = .next u) : Kept s u := by
  simp only [execBoardTemperatureStale] at h
  all_goals obtain rfl := Host.Outcome.next.inj h
  all_goals repeat' first
    | with_reducible exact .refl _
    | with_reducible apply State.boardStale_kept
    | with_reducible apply State.advance_kept

theorem execDescriptorWord_kept {t : Tick} {port : Nat} {word : BitVec 18} {s : State} {u : State} (h : execDescriptorWord t port word s = .next u) : Kept s u := by
  simp only [execDescriptorWord] at h
  all_goals obtain rfl := Host.Outcome.next.inj h
  all_goals repeat' first
    | with_reducible exact .refl _
    | with_reducible apply State.descriptorBits_kept
    | with_reducible apply State.takeWord_kept
    | with_reducible apply State.advance_kept
    | intro _

theorem execDescriptorCheckDone_kept {t : Tick} {port : Nat} {board : Nat} {s : State} {u : State} (h : execDescriptorCheckDone t port board s = .next u) : Kept s u := by
  simp only [execDescriptorCheckDone] at h
  all_goals obtain rfl := Host.Outcome.next.inj h
  all_goals repeat' first
    | with_reducible exact .refl _
    | with_reducible apply State.checkDescriptor_kept
    | with_reducible apply State.advance_kept

theorem execKeepAlivePlace_kept {t : Tick} {port : Nat} {s : State} {u : State} (h : execKeepAlivePlace t port s = .next u) : Kept s u := by
  simp only [execKeepAlivePlace] at h
  all_goals obtain rfl := Host.Outcome.next.inj h
  all_goals repeat' first
    | with_reducible exact .refl _
    | with_reducible apply State.offerSync_kept
    | with_reducible apply State.sendCaps_kept
    | with_reducible apply State.placeKeepAlive_kept
    | with_reducible apply State.advance_kept

theorem execKeepAliveSend_kept {t : Tick} {port : Nat} {s : State} {u : State} (h : execKeepAliveSend t port s = .next u) : Kept s u := by
  simp only [execKeepAliveSend] at h
  all_goals obtain rfl := Host.Outcome.next.inj h
  all_goals repeat' first
    | with_reducible exact .refl _
    | with_reducible apply State.offerSync_kept
    | with_reducible apply State.sendKeepAlive_kept
    | with_reducible apply State.advance_kept

theorem execBroadcastSyncSend_kept {t : Tick} {port : Nat} {s : State} {u : State} (h : execBroadcastSyncSend t port s = .next u) : Kept s u := by
  simp only [execBroadcastSyncSend] at h
  all_goals obtain rfl := Host.Outcome.next.inj h
  all_goals repeat' first
    | with_reducible exact .refl _
    | with_reducible apply State.sendSync_kept
    | with_reducible apply State.offerSync_kept
    | with_reducible apply State.advance_kept

theorem execPortEnable_kept {t : Tick} {h : Hdr} {port : Nat} {s : State} {u : State} (h : execPortEnable t h port s = .next u) : Kept s u := by
  simp only [execPortEnable] at h
  all_goals obtain rfl := Host.Outcome.next.inj h
  all_goals repeat' first
    | with_reducible exact .refl _
    | with_reducible apply State.setPort_kept
    | with_reducible apply State.command_kept
    | with_reducible apply State.failedOpen_kept
    | with_reducible apply State.succeed_kept
    | with_reducible apply State.advance_kept
    | split
    | intro _

theorem execPortDisable_kept {t : Tick} {h : Hdr} {port : Nat} {s : State} {u : State} (h : execPortDisable t h port s = .next u) : Kept s u := by
  simp only [execPortDisable] at h
  all_goals obtain rfl := Host.Outcome.next.inj h
  all_goals repeat' first
    | with_reducible exact .refl _
    | with_reducible apply State.setPort_kept
    | with_reducible apply State.command_kept
    | with_reducible apply State.succeed_kept
    | with_reducible apply State.advance_kept
    | intro _

theorem execAdmitHead_kept {t : Tick} {h : Hdr} {port : Nat} {identity : BitVec 64} {s : State} {u : State} (h : execAdmitHead t h port identity s = .next u) : Kept s u := by
  simp only [execAdmitHead] at h
  all_goals obtain rfl := Host.Outcome.next.inj h
  all_goals repeat' first
    | with_reducible exact .refl _
    | with_reducible apply State.setPort_kept
    | with_reducible apply State.command_kept
    | with_reducible apply State.succeed_kept
    | with_reducible apply State.portEvent_kept
    | with_reducible apply State.advance_kept
    | intro _

theorem execBoardSettings_kept {t : Tick} {h : Hdr} {port : Nat} {msgs : List (Nat × BoardMsg)} {s : State} {u : State} (h : execBoardSettings t h port msgs s = .next u) : Kept s u := by
  simp only [execBoardSettings] at h
  all_goals obtain rfl := Host.Outcome.next.inj h
  all_goals repeat' first
    | with_reducible exact .refl _
    | with_reducible apply State.boardSettings_kept
    | with_reducible apply State.commandLater_kept
    | with_reducible apply State.advance_kept
    | intro _

theorem execClearLatencies_kept {t : Tick} {h : Hdr} {ports : BitVec 8} {s : State} {u : State} (h : execClearLatencies t h ports s = .next u) : Kept s u := by
  simp only [execClearLatencies] at h
  all_goals obtain rfl := Host.Outcome.next.inj h
  all_goals repeat' first
    | with_reducible exact .refl _
    | with_reducible apply State.clearLatencies_kept
    | with_reducible apply State.renewComps_kept
    | with_reducible apply State.command_kept
    | with_reducible apply State.succeed_kept
    | with_reducible apply State.each_kept
    | with_reducible apply State.advance_kept
    | intro _

theorem execBoardFire_kept {t : Tick} {port : Nat} {board : Nat} {bits : BitVec 10} {s : State} {u : State} (h : execBoardFire t port board bits s = .next u) : Kept s u := by
  simp only [execBoardFire] at h
  all_goals obtain rfl := Host.Outcome.next.inj h
  all_goals repeat' first
    | with_reducible exact .refl _
    | with_reducible apply State.boardSymbol_kept
    | with_reducible apply State.advance_kept

theorem execBoardSyncApply_kept {t : Tick} {port : Nat} {board : Nat} {mark : SyncMark} {s : State} {u : State} (h : execBoardSyncApply t port board mark s = .next u) : Kept s u := by
  simp only [execBoardSyncApply] at h
  all_goals obtain rfl := Host.Outcome.next.inj h
  all_goals repeat' first
    | with_reducible exact .refl _
    | with_reducible apply State.boardSymbol_kept
    | with_reducible apply State.advance_kept

theorem execBoardKeepAlive_kept {t : Tick} {port : Nat} {board : Nat} {bits : BitVec 10} {s : State} {u : State} (h : execBoardKeepAlive t port board bits s = .next u) : Kept s u := by
  simp only [execBoardKeepAlive] at h
  all_goals obtain rfl := Host.Outcome.next.inj h
  all_goals repeat' first
    | with_reducible exact .refl _
    | with_reducible apply State.boardSymbol_kept
    | with_reducible apply State.advance_kept

theorem execKeepAliveTimeout_kept {t : Tick} {port : Nat} {board : Nat} {s : State} {u : State} (h : execKeepAliveTimeout t port board s = .next u) : Kept s u := by
  simp only [execKeepAliveTimeout] at h
  all_goals obtain rfl := Host.Outcome.next.inj h
  all_goals repeat' first
    | with_reducible exact .refl _
    | with_reducible apply State.onBoard_kept
    | with_reducible apply State.advance_kept

theorem execDataFrame_kept {t : Tick} {port : Nat} {board : Nat} {pulses : List Nat} {s : State} {u : State} (h : execDataFrame t port board pulses s = .next u) : Kept s u := by
  simp only [execDataFrame] at h
  all_goals obtain rfl := Host.Outcome.next.inj h
  all_goals repeat' first
    | with_reducible exact .refl _
    | with_reducible apply State.boardPulses_kept
    | with_reducible apply State.advance_kept

theorem execElementEnable_kept {t : Tick} {port : Nat} {board : Nat} {mask : BitVec 16} {s : State} {u : State} (h : execElementEnable t port board mask s = .next u) : Kept s u := by
  simp only [execElementEnable] at h
  all_goals obtain rfl := Host.Outcome.next.inj h
  all_goals repeat' first
    | with_reducible exact .refl _
    | with_reducible apply State.onBoard_kept
    | with_reducible apply State.advance_kept

theorem execDriveCode_kept {t : Tick} {port : Nat} {board : Nat} {element : Nat} {code : Nat} {s : State} {u : State} (h : execDriveCode t port board element code s = .next u) : Kept s u := by
  simp only [execDriveCode] at h
  all_goals obtain rfl := Host.Outcome.next.inj h
  all_goals repeat' first
    | with_reducible exact .refl _
    | with_reducible apply State.onBoard_kept
    | with_reducible apply State.advance_kept

theorem execIndicatorBrightness_kept {t : Tick} {port : Nat} {board : Nat} {percent : Nat} {s : State} {u : State} (h : execIndicatorBrightness t port board percent s = .next u) : Kept s u := by
  simp only [execIndicatorBrightness] at h
  all_goals obtain rfl := Host.Outcome.next.inj h
  all_goals repeat' first
    | with_reducible exact .refl _
    | with_reducible apply State.onBoard_kept
    | with_reducible apply State.advance_kept

theorem execEmission_kept {t : Tick} {port : Nat} {board : Nat} {value : Byte} {s : State} {u : State} (h : execEmission t port board value s = .next u) : Kept s u := by
  simp only [execEmission] at h
  all_goals obtain rfl := Host.Outcome.next.inj h
  all_goals repeat' first
    | with_reducible exact .refl _
    | with_reducible apply State.onBoard_kept
    | with_reducible apply State.advance_kept

theorem execSyncCompensation_kept {t : Tick} {port : Nat} {board : Nat} {c : Nat} {s : State} {u : State} (h : execSyncCompensation t port board c s = .next u) : Kept s u := by
  simp only [execSyncCompensation] at h
  all_goals obtain rfl := Host.Outcome.next.inj h
  all_goals repeat' first
    | with_reducible exact .refl _
    | with_reducible apply State.onBoard_kept
    | with_reducible apply State.advance_kept

theorem execDescriptorRead_kept {t : Tick} {port : Nat} {board : Nat} {s : State} {u : State} (h : execDescriptorRead t port board s = .next u) : Kept s u := by
  simp only [execDescriptorRead] at h
  all_goals obtain rfl := Host.Outcome.next.inj h
  all_goals repeat' first
    | with_reducible exact .refl _
    | with_reducible apply State.onBoard_kept
    | with_reducible apply State.advance_kept

theorem execScannerReports_kept {t : Tick} {port : Nat} {board : Nat} {value : Byte} {s : State} {u : State} (h : execScannerReports t port board value s = .next u) : Kept s u := by
  simp only [execScannerReports] at h
  all_goals obtain rfl := Host.Outcome.next.inj h
  all_goals repeat' first
    | with_reducible exact .refl _
    | with_reducible apply State.onBoard_kept
    | with_reducible apply State.advance_kept

theorem execShareCounterReset_kept {t : Tick} {port : Nat} {board : Nat} {s : State} {u : State} (h : execShareCounterReset t port board s = .next u) : Kept s u := by
  simp only [execShareCounterReset] at h
  all_goals obtain rfl := Host.Outcome.next.inj h
  all_goals repeat' first
    | with_reducible exact .refl _
    | with_reducible apply State.onBoard_kept
    | with_reducible apply State.advance_kept

theorem execBoardTemperatureSend_kept {t : Tick} {port : Nat} {board : Nat} {temp : Nat} {s : State} {u : State} (h : execBoardTemperatureSend t port board temp s = .next u) : Kept s u := by
  simp only [execBoardTemperatureSend] at h
  all_goals obtain rfl := Host.Outcome.next.inj h
  all_goals repeat' first
    | with_reducible exact .refl _
    | with_reducible apply State.boardSends_kept
    | with_reducible apply State.advance_kept

theorem execBoardOverTemperature_kept {t : Tick} {port : Nat} {board : Nat} {temp : Nat} {s : State} {u : State} (h : execBoardOverTemperature t port board temp s = .next u) : Kept s u := by
  simp only [execBoardOverTemperature] at h
  all_goals obtain rfl := Host.Outcome.next.inj h
  all_goals repeat' first
    | with_reducible exact .refl _
    | with_reducible apply State.onBoard_kept
    | with_reducible apply State.advance_kept
    | split

theorem execDriverFault_kept {t : Tick} {port : Nat} {board : Nat} {s : State} {u : State} (h : execDriverFault t port board s = .next u) : Kept s u := by
  simp only [execDriverFault] at h
  all_goals obtain rfl := Host.Outcome.next.inj h
  all_goals repeat' first
    | with_reducible exact .refl _
    | with_reducible apply State.onBoard_kept
    | with_reducible apply State.advance_kept

theorem execIndicatorPatternTimeout_kept {t : Tick} {port : Nat} {board : Nat} {s : State} {u : State} (h : execIndicatorPatternTimeout t port board s = .next u) : Kept s u := by
  simp only [execIndicatorPatternTimeout] at h
  all_goals obtain rfl := Host.Outcome.next.inj h
  all_goals repeat' first
    | with_reducible exact .refl _
    | with_reducible apply State.treadle_kept
    | with_reducible apply State.advance_kept
    | split

theorem execSetParameters_kept {t : Tick} {h : Hdr} {scope : Nat} {targets : List Nat} {items : List Item} {s : State} {u : State} (h : execSetParameters t h scope targets items s = .next u) : Kept s u := by
  simp only [execSetParameters] at h
  all_goals obtain rfl := Host.Outcome.next.inj h
  all_goals repeat' first
    | with_reducible exact .refl _
    | with_reducible apply State.originsGone_kept
    | with_reducible apply State.awaitOrigin_kept
    | with_reducible apply State.change_kept
    | with_reducible apply State.applyChange_kept
    | with_reducible apply State.command_kept
    | with_reducible apply State.each_kept
    | with_reducible apply State.advance_kept
    | split
    | intro _

theorem execGetParameters_kept {t : Tick} {h : Hdr} {scope : Nat} {targets : List Nat} {ids : List Nat} {s : State} {u : State} (h : execGetParameters t h scope targets ids s = .next u) : Kept s u := by
  simp only [execGetParameters] at h
  all_goals obtain rfl := Host.Outcome.next.inj h
  all_goals repeat' first
    | with_reducible exact .refl _
    | with_reducible apply State.command_kept
    | with_reducible apply State.succeed_kept
    | with_reducible apply State.advance_kept
    | intro _

theorem execLoadCodeTable_kept {t : Tick} {h : Hdr} {bank : Nat} {first : Nat} {codes : List Word32} {s : State} {u : State} (h : execLoadCodeTable t h bank first codes s = .next u) : Kept s u := by
  simp only [execLoadCodeTable] at h
  all_goals obtain rfl := Host.Outcome.next.inj h
  all_goals repeat' first
    | with_reducible exact .refl _
    | with_reducible apply State.change_kept
    | with_reducible apply State.command_kept
    | with_reducible apply State.advance_kept
    | intro _

theorem execLoadListeningSets_kept {t : Tick} {h : Hdr} {bank : Nat} {first : Nat} {sets : List (BitVec 256)} {s : State} {u : State} (h : execLoadListeningSets t h bank first sets s = .next u) : Kept s u := by
  simp only [execLoadListeningSets] at h
  all_goals obtain rfl := Host.Outcome.next.inj h
  all_goals repeat' first
    | with_reducible exact .refl _
    | with_reducible apply State.change_kept
    | with_reducible apply State.command_kept
    | with_reducible apply State.advance_kept
    | intro _

theorem execLoadCoefficients_kept {t : Tick} {h : Hdr} {banks : BitVec 16} {image : CoefImage} {s : State} {u : State} (h : execLoadCoefficients t h banks image s = .next u) : Kept s u := by
  simp only [execLoadCoefficients] at h
  all_goals obtain rfl := Host.Outcome.next.inj h
  all_goals repeat' first
    | with_reducible exact .refl _
    | with_reducible apply State.command_kept
    | with_reducible apply State.succeed_kept
    | with_reducible apply State.each_kept
    | with_reducible apply State.advance_kept
    | with_reducible apply State.modBank_kept
    | intro _

theorem execSwapCoefficients_kept {t : Tick} {h : Hdr} {banks : BitVec 16} {s : State} {u : State} (h : execSwapCoefficients t h banks s = .next u) : Kept s u := by
  simp only [execSwapCoefficients] at h
  all_goals obtain rfl := Host.Outcome.next.inj h
  all_goals repeat' first
    | with_reducible exact .refl _
    | with_reducible apply State.change_kept
    | with_reducible apply State.command_kept
    | with_reducible apply State.cond_kept
    | with_reducible apply State.each_kept
    | with_reducible apply State.advance_kept
    | with_reducible apply State.modBank_kept
    | intro _

theorem execRestoreCalibration_kept {t : Tick} {h : Hdr} {s : State} {u : State} (h : execRestoreCalibration t h s = .next u) : Kept s u := by
  simp only [execRestoreCalibration] at h
  all_goals obtain rfl := Host.Outcome.next.inj h
  all_goals repeat' first
    | with_reducible exact .refl _
    | with_reducible apply State.change_kept
    | with_reducible apply State.command_kept
    | with_reducible apply State.failed_kept
    | with_reducible apply State.advance_kept
    | split
    | intro _

theorem execGoReady_kept {t : Tick} {h : Hdr} {s : State} {u : State} (h : execGoReady t h s = .next u) : Kept s u := by
  simp only [execGoReady] at h
  all_goals obtain rfl := Host.Outcome.next.inj h
  all_goals repeat' first
    | with_reducible exact .refl _
    | with_reducible apply State.enter_kept
    | with_reducible apply State.command_kept
    | with_reducible apply State.succeed_kept
    | with_reducible apply State.advance_kept
    | intro _

theorem execGoSafe_kept {t : Tick} {h : Hdr} {s : State} {u : State} (h : execGoSafe t h s = .next u) : Kept s u := by
  simp only [execGoSafe] at h
  all_goals obtain rfl := Host.Outcome.next.inj h
  all_goals repeat' first
    | with_reducible exact .refl _
    | with_reducible apply State.enter_kept
    | with_reducible apply State.command_kept
    | with_reducible apply State.succeed_kept
    | with_reducible apply State.advance_kept
    | intro _

theorem execArm_kept {t : Tick} {h : Hdr} {s : State} {u : State} (h : execArm t h s = .next u) : Kept s u := by
  simp only [execArm] at h
  all_goals obtain rfl := Host.Outcome.next.inj h
  all_goals repeat' first
    | with_reducible exact .refl _
    | with_reducible apply State.armDevice_kept
    | with_reducible apply State.command_kept
    | with_reducible apply State.advance_kept
    | intro _

theorem execDisarm_kept {t : Tick} {h : Hdr} {s : State} {u : State} (h : execDisarm t h s = .next u) : Kept s u := by
  simp only [execDisarm] at h
  all_goals obtain rfl := Host.Outcome.next.inj h
  all_goals repeat' first
    | with_reducible exact .refl _
    | with_reducible apply State.stopRanging_kept
    | with_reducible apply State.command_kept
    | with_reducible apply State.advance_kept
    | intro _

theorem execRangingStop_kept {t : Tick} {h : Hdr} {s : State} {u : State} (h : execRangingStop t h s = .next u) : Kept s u := by
  simp only [execRangingStop] at h
  all_goals obtain rfl := Host.Outcome.next.inj h
  all_goals repeat' first
    | with_reducible exact .refl _
    | with_reducible apply State.stopRanging_kept
    | with_reducible apply State.command_kept
    | with_reducible apply State.advance_kept
    | intro _

theorem execClearFault_kept {t : Tick} {h : Hdr} {s : State} {u : State} (h : execClearFault t h s = .next u) : Kept s u := by
  simp only [execClearFault] at h
  all_goals obtain rfl := Host.Outcome.next.inj h
  all_goals repeat' first
    | with_reducible exact .refl _
    | with_reducible apply State.clearFaults_kept
    | with_reducible apply State.command_kept
    | with_reducible apply State.advance_kept
    | intro _

theorem execAbort_kept {t : Tick} {h : Hdr} {handle : Nat} {s : State} {u : State} (h : execAbort t h handle s = .next u) : Kept s u := by
  simp only [execAbort] at h
  all_goals obtain rfl := Host.Outcome.next.inj h
  all_goals repeat' first
    | with_reducible exact .refl _
    | with_reducible apply State.abortCommand_kept
    | with_reducible apply State.command_kept
    | with_reducible apply State.advance_kept
    | intro _

theorem execFrameStrobeEdge_kept {t : Tick} {s : State} {u : State} (h : execFrameStrobeEdge t s = .next u) : Kept s u := by
  simp only [execFrameStrobeEdge] at h
  all_goals obtain rfl := Host.Outcome.next.inj h
  all_goals repeat' first
    | with_reducible exact .refl _
    | with_reducible apply State.strobeStat_kept
    | with_reducible apply State.frameEdge_kept
    | with_reducible apply State.advance_kept

theorem execLineStrobeEdge_kept {t : Tick} {s : State} {u : State} (h : execLineStrobeEdge t s = .next u) : Kept s u := by
  simp only [execLineStrobeEdge] at h
  all_goals obtain rfl := Host.Outcome.next.inj h
  all_goals repeat' first
    | with_reducible exact .refl _
    | with_reducible apply State.strobeStat_kept
    | with_reducible apply State.trackEdge_kept
    | with_reducible apply State.advance_kept
    | split

theorem execAcceptanceWindowClose_kept {t : Tick} {s : State} {u : State} (h : execAcceptanceWindowClose t s = .next u) : Kept s u := by
  simp only [execAcceptanceWindowClose] at h
  all_goals obtain rfl := Host.Outcome.next.inj h
  all_goals repeat' first
    | with_reducible exact .refl _
    | with_reducible apply State.missingEdge_kept
    | with_reducible apply State.advance_kept
    | split

theorem execLineBoundary_kept {t : Tick} {s : State} {u : State} (h : execLineBoundary t s = .next u) : Kept s u := by
  simp only [execLineBoundary] at h
  all_goals obtain rfl := Host.Outcome.next.inj h
  all_goals repeat' first
    | with_reducible exact .refl _
    | with_reducible apply State.boundary_kept
    | with_reducible apply State.advance_kept

theorem execFrameAckPulse_kept {t : Tick} {s : State} {u : State} (h : execFrameAckPulse t s = .next u) : Kept s u := by
  simp only [execFrameAckPulse] at h
  all_goals obtain rfl := Host.Outcome.next.inj h
  all_goals repeat' first
    | with_reducible exact .refl _
    | with_reducible apply State.ackPulse_kept
    | with_reducible apply State.advance_kept

theorem execFrameClosed_kept {t : Tick} {frame : Nat} {s : State} {u : State} (h : execFrameClosed t frame s = .next u) : Kept s u := by
  simp only [execFrameClosed] at h
  all_goals obtain rfl := Host.Outcome.next.inj h
  all_goals repeat' first
    | with_reducible exact .refl _
    | with_reducible apply State.closeFrame_kept
    | with_reducible apply State.advance_kept

theorem execDriftMeasurement_kept {t : Tick} {ocxo : Bool} {ratio : Option Nat} {s : State} {u : State} (h : execDriftMeasurement t ocxo ratio s = .next u) : Kept s u := by
  simp only [execDriftMeasurement] at h
  all_goals obtain rfl := Host.Outcome.next.inj h
  all_goals repeat' first
    | with_reducible exact .refl _
    | with_reducible apply State.takeDrift_kept
    | with_reducible apply State.advance_kept

theorem execOcxoReadyFall_kept {t : Tick} {s : State} {u : State} (h : execOcxoReadyFall t s = .next u) : Kept s u := by
  simp only [execOcxoReadyFall] at h
  all_goals obtain rfl := Host.Outcome.next.inj h
  all_goals repeat' first
    | with_reducible exact .refl _
    | with_reducible apply State.setWarm_kept
    | with_reducible apply State.advance_kept
    | with_reducible apply State.modSpindle_kept

theorem execEpochWrap_kept {t : Tick} {s : State} {u : State} (h : execEpochWrap t s = .next u) : Kept s u := by
  simp only [execEpochWrap] at h
  all_goals obtain rfl := Host.Outcome.next.inj h
  all_goals repeat' first
    | with_reducible exact .refl _
    | with_reducible apply State.wrapEpoch_kept
    | with_reducible apply State.advance_kept

theorem execFlyerRun_kept {t : Tick} {bank : Nat} {s : State} {u : State} (h : execFlyerRun t bank s = .next u) : Kept s u := by
  simp only [execFlyerRun] at h
  all_goals obtain rfl := Host.Outcome.next.inj h
  all_goals repeat' first
    | with_reducible exact .refl _
    | with_reducible apply State.flyerRun_kept
    | with_reducible apply State.advance_kept

theorem execFlyerStop_kept {t : Tick} {bank : Nat} {s : State} {u : State} (h : execFlyerStop t bank s = .next u) : Kept s u := by
  simp only [execFlyerStop] at h
  all_goals obtain rfl := Host.Outcome.next.inj h
  all_goals repeat' first
    | with_reducible exact .refl _
    | with_reducible apply State.advance_kept
    | with_reducible apply State.modFlyer_kept
    | split

theorem execFlyerShot_kept {t : Tick} {bank : Nat} {d : BitVec 12} {s : State} {u : State} (h : execFlyerShot t bank d s = .next u) : Kept s u := by
  simp only [execFlyerShot] at h
  all_goals obtain rfl := Host.Outcome.next.inj h
  all_goals repeat' first
    | with_reducible exact .refl _
    | with_reducible apply State.flyerIssue_kept
    | with_reducible apply State.advance_kept

theorem execFlyerBurst_kept {t : Tick} {bank : Nat} {d : BitVec 12} {n : BitVec 12} {s : State} {u : State} (h : execFlyerBurst t bank d n s = .next u) : Kept s u := by
  simp only [execFlyerBurst] at h
  all_goals obtain rfl := Host.Outcome.next.inj h
  all_goals repeat' first
    | with_reducible exact .refl _
    | with_reducible apply State.flyerIssue_kept
    | with_reducible apply State.advance_kept

theorem execFlyerNextline_kept {t : Tick} {bank : Nat} {n : BitVec 16} {s : State} {u : State} (h : execFlyerNextline t bank n s = .next u) : Kept s u := by
  simp only [execFlyerNextline] at h
  all_goals obtain rfl := Host.Outcome.next.inj h
  all_goals repeat' first
    | with_reducible exact .refl _
    | with_reducible apply State.flyerNext_kept
    | with_reducible apply State.advance_kept

theorem execFlyerSetline_kept {t : Tick} {bank : Nat} {l : BitVec 16} {s : State} {u : State} (h : execFlyerSetline t bank l s = .next u) : Kept s u := by
  simp only [execFlyerSetline] at h
  all_goals obtain rfl := Host.Outcome.next.inj h
  all_goals repeat' first
    | with_reducible exact .refl _
    | with_reducible apply State.flyerSetline_kept
    | with_reducible apply State.advance_kept

theorem execFlyerWaitframe_kept {t : Tick} {bank : Nat} {s : State} {u : State} (h : execFlyerWaitframe t bank s = .next u) : Kept s u := by
  simp only [execFlyerWaitframe] at h
  all_goals obtain rfl := Host.Outcome.next.inj h
  all_goals repeat' first
    | with_reducible exact .refl _
    | with_reducible apply State.flyerNext_kept
    | with_reducible apply State.advance_kept

theorem execFlyerLoop_kept {t : Tick} {bank : Nat} {c : BitVec 24} {s : State} {u : State} (h : execFlyerLoop t bank c s = .next u) : Kept s u := by
  simp only [execFlyerLoop] at h
  all_goals obtain rfl := Host.Outcome.next.inj h
  all_goals repeat' first
    | with_reducible exact .refl _
    | with_reducible apply State.flyerLoop_kept
    | with_reducible apply State.advance_kept

theorem execFlyerEndloop_kept {t : Tick} {bank : Nat} {s : State} {u : State} (h : execFlyerEndloop t bank s = .next u) : Kept s u := by
  simp only [execFlyerEndloop] at h
  all_goals obtain rfl := Host.Outcome.next.inj h
  all_goals repeat' first
    | with_reducible exact .refl _
    | with_reducible apply State.flyerEndloop_kept
    | with_reducible apply State.advance_kept

theorem execFlyerJump_kept {t : Tick} {bank : Nat} {a : BitVec 11} {s : State} {u : State} (h : execFlyerJump t bank a s = .next u) : Kept s u := by
  simp only [execFlyerJump] at h
  all_goals obtain rfl := Host.Outcome.next.inj h
  all_goals repeat' first
    | with_reducible exact .refl _
    | with_reducible apply State.advance_kept
    | with_reducible apply State.modFlyer_kept
    | split

theorem execFlyerNop_kept {t : Tick} {bank : Nat} {s : State} {u : State} (h : execFlyerNop t bank s = .next u) : Kept s u := by
  simp only [execFlyerNop] at h
  all_goals obtain rfl := Host.Outcome.next.inj h
  all_goals repeat' first
    | with_reducible exact .refl _
    | with_reducible apply State.flyerNext_kept
    | with_reducible apply State.advance_kept

theorem execCommit_kept {t : Tick} {bank : Nat} {s : State} {u : State} (h : execCommit t bank s = .next u) : Kept s u := by
  simp only [execCommit] at h
  all_goals obtain rfl := Host.Outcome.next.inj h
  all_goals repeat' first
    | with_reducible exact .refl _
    | with_reducible apply State.commitShot_kept
    | with_reducible apply State.offerSyncs_kept
    | with_reducible apply State.advance_kept

theorem execLoadShotTable_kept {t : Tick} {h : Hdr} {bank : Nat} {first : Nat} {descriptors : List (BitVec 128)} {s : State} {u : State} (h : execLoadShotTable t h bank first descriptors s = .next u) : Kept s u := by
  simp only [execLoadShotTable] at h
  all_goals obtain rfl := Host.Outcome.next.inj h
  all_goals repeat' first
    | with_reducible exact .refl _
    | with_reducible apply State.command_kept
    | with_reducible apply State.succeed_kept
    | with_reducible apply State.advance_kept
    | with_reducible apply State.modFlyer_kept
    | intro _

theorem execLoadMicrocode_kept {t : Tick} {h : Hdr} {bank : Nat} {first : Nat} {words : List Word32} {s : State} {u : State} (h : execLoadMicrocode t h bank first words s = .next u) : Kept s u := by
  simp only [execLoadMicrocode] at h
  all_goals obtain rfl := Host.Outcome.next.inj h
  all_goals repeat' first
    | with_reducible exact .refl _
    | with_reducible apply State.command_kept
    | with_reducible apply State.succeed_kept
    | with_reducible apply State.advance_kept
    | with_reducible apply State.modFlyer_kept
    | intro _

theorem execLoadSeed_kept {t : Tick} {h : Hdr} {seed : BitVec 64} {s : State} {u : State} (h : execLoadSeed t h seed s = .next u) : Kept s u := by
  simp only [execLoadSeed] at h
  all_goals obtain rfl := Host.Outcome.next.inj h
  all_goals repeat' first
    | with_reducible exact .refl _
    | with_reducible apply State.setSeed_kept
    | with_reducible apply State.command_kept
    | with_reducible apply State.succeed_kept
    | with_reducible apply State.advance_kept
    | intro _

theorem execRangingStart_kept {t : Tick} {h : Hdr} {frame : Nat} {mask : BitVec 16} {s : State} {u : State} (h : execRangingStart t h frame mask s = .next u) : Kept s u := by
  simp only [execRangingStart] at h
  all_goals obtain rfl := Host.Outcome.next.inj h
  all_goals repeat' first
    | with_reducible exact .refl _
    | with_reducible apply State.startRanging_kept
    | with_reducible apply State.command_kept
    | with_reducible apply State.advance_kept
    | intro _

theorem execCalibrate_kept {t : Tick} {h : Hdr} {args : CalArgs} {s : State} {u : State} (h : execCalibrate t h args s = .next u) : Kept s u := by
  simp only [execCalibrate] at h
  all_goals obtain rfl := Host.Outcome.next.inj h
  all_goals repeat' first
    | with_reducible exact .refl _
    | with_reducible apply State.startCal_kept
    | with_reducible apply State.command_kept
    | with_reducible apply State.advance_kept
    | intro _

theorem execCalibrationShot_kept {t : Tick} {port : Nat} {s : State} {u : State} (h : execCalibrationShot t port s = .next u) : Kept s u := by
  simp only [execCalibrationShot] at h
  all_goals obtain rfl := Host.Outcome.next.inj h
  all_goals repeat' first
    | with_reducible exact .refl _
    | with_reducible apply State.calShot_kept
    | with_reducible apply State.advance_kept

theorem execCalibrationKindEnd_kept {t : Tick} {measures : List CalMeasure} {s : State} {u : State} (h : execCalibrationKindEnd t measures s = .next u) : Kept s u := by
  simp only [execCalibrationKindEnd] at h
  all_goals obtain rfl := Host.Outcome.next.inj h
  all_goals repeat' first
    | with_reducible exact .refl _
    | with_reducible apply State.kindEnd_kept
    | with_reducible apply State.advance_kept

theorem execHkConversionDone_kept {t : Tick} {code : Nat} {outside : Option Bool} {s : State} {u : State} (h : execHkConversionDone t code outside s = .next u) : Kept s u := by
  simp only [execHkConversionDone] at h
  all_goals obtain rfl := Host.Outcome.next.inj h
  all_goals repeat' first
    | with_reducible exact .refl _
    | with_reducible apply State.calAwake_kept
    | with_reducible apply State.hkDone_kept
    | with_reducible apply State.advance_kept

theorem execFireSymbolSend_kept {t : Tick} {entry : Nat} {s : State} {u : State} (h : execFireSymbolSend t entry s = .next u) : Kept s u := by
  simp only [execFireSymbolSend] at h
  all_goals obtain rfl := Host.Outcome.next.inj h
  all_goals repeat' first
    | with_reducible exact .refl _
    | with_reducible apply State.sendFire_kept
    | with_reducible apply State.retireDone_kept
    | with_reducible apply State.advance_kept

theorem execWindowOpen_kept {t : Tick} {entry : Nat} {s : State} {u : State} (h : execWindowOpen t entry s = .next u) : Kept s u := by
  simp only [execWindowOpen] at h
  all_goals obtain rfl := Host.Outcome.next.inj h
  all_goals repeat' first
    | with_reducible exact .refl _
    | with_reducible apply State.openWindows_kept
    | with_reducible apply State.retireDone_kept
    | with_reducible apply State.advance_kept

theorem execWindowClose_kept {t : Tick} {entry : Nat} {c : Nat} {s : State} {u : State} (h : execWindowClose t entry c s = .next u) : Kept s u := by
  simp only [execWindowClose] at h
  all_goals obtain rfl := Host.Outcome.next.inj h
  all_goals repeat' first
    | with_reducible exact .refl _
    | with_reducible apply State.closeWindow_kept
    | with_reducible apply State.advance_kept

theorem execSlotFinalise_kept {t : Tick} {entry : Nat} {c : Nat} {s : State} {u : State} (h : execSlotFinalise t entry c s = .next u) : Kept s u := by
  simp only [execSlotFinalise] at h
  all_goals obtain rfl := Host.Outcome.next.inj h
  all_goals repeat' first
    | with_reducible exact .refl _
    | with_reducible apply State.finalise_kept
    | with_reducible apply State.advance_kept

theorem execEntryFree_kept {t : Tick} {entry : Nat} {s : State} {u : State} (h : execEntryFree t entry s = .next u) : Kept s u := by
  simp only [execEntryFree] at h
  all_goals obtain rfl := Host.Outcome.next.inj h
  all_goals repeat' first
    | with_reducible exact .refl _
    | with_reducible apply State.freeEntry_kept
    | with_reducible apply State.advance_kept

theorem execArmLoopOpen_kept {answer : LoopAnswer} {s : State} {u : State} (h : execArmLoopOpen answer s = .next u) : Kept s u := by
  simp only [execArmLoopOpen] at h
  all_goals obtain rfl := Host.Outcome.next.inj h
  all_goals repeat' first
    | with_reducible exact .refl _
    | with_reducible apply State.loopOpens_kept
    | with_reducible apply State.loopAnswers_kept
    | with_reducible apply State.advance_kept
    | split

theorem execArmLoopClosed_kept {t : Tick} {s : State} {u : State} (h : execArmLoopClosed t s = .next u) : Kept s u := by
  simp only [execArmLoopClosed] at h
  all_goals obtain rfl := Host.Outcome.next.inj h
  all_goals repeat' first
    | with_reducible exact .refl _
    | with_reducible apply State.loopCloses_kept
    | with_reducible apply State.advance_kept
    | split

theorem execLockstepMismatch_kept {t : Tick} {s : State} {u : State} (h : execLockstepMismatch t s = .next u) : Kept s u := by
  simp only [execLockstepMismatch] at h
  all_goals obtain rfl := Host.Outcome.next.inj h
  all_goals repeat' first
    | with_reducible exact .refl _
    | with_reducible apply State.setLatch_kept
    | with_reducible apply State.advance_kept
    | split

theorem execUnpassedFireSymbol_kept {t : Tick} {port : Nat} {payload : Nat} {s : State} {u : State} (h : execUnpassedFireSymbol t port payload s = .next u) : Kept s u := by
  simp only [execUnpassedFireSymbol] at h
  all_goals obtain rfl := Host.Outcome.next.inj h
  all_goals repeat' first
    | with_reducible exact .refl _
    | with_reducible apply State.setLatch_kept
    | with_reducible apply State.advance_kept
    | split

theorem execWhorlClockFault_kept {finding : ClockFinding} {s : State} {u : State} (h : execWhorlClockFault finding s = .next u) : Kept s u := by
  simp only [execWhorlClockFault] at h
  all_goals obtain rfl := Host.Outcome.next.inj h
  all_goals repeat' first
    | with_reducible exact .refl _
    | with_reducible apply State.setLatch_kept
    | with_reducible apply State.advance_kept
    | split

theorem execReferenceFault_kept {t : Tick} {deviation : Int} {s : State} {u : State} (h : execReferenceFault t deviation s = .next u) : Kept s u := by
  simp only [execReferenceFault] at h
  all_goals obtain rfl := Host.Outcome.next.inj h
  all_goals repeat' first
    | with_reducible exact .refl _
    | with_reducible apply State.refFaulty_kept
    | with_reducible apply State.advance_kept

theorem execReferenceFaultClear_kept {finding : ReferenceGood} {s : State} {u : State} (h : execReferenceFaultClear finding s = .next u) : Kept s u := by
  simp only [execReferenceFaultClear] at h
  all_goals obtain rfl := Host.Outcome.next.inj h
  all_goals repeat' first
    | with_reducible exact .refl _
    | with_reducible apply State.refGood_kept
    | with_reducible apply State.advance_kept

theorem execCorePllUnlock_kept {t : Tick} {s : State} {u : State} (h : execCorePllUnlock t s = .next u) : Kept s u := by
  simp only [execCorePllUnlock] at h
  all_goals obtain rfl := Host.Outcome.next.inj h
  all_goals repeat' first
    | with_reducible exact .refl _
    | with_reducible apply State.coreUnlocks_kept
    | with_reducible apply State.advance_kept

theorem execAccountStoreError_kept {t : Tick} {port : Nat} {corrected : Bool} {s : State} {u : State} (h : execAccountStoreError t port corrected s = .next u) : Kept s u := by
  simp only [execAccountStoreError] at h
  all_goals obtain rfl := Host.Outcome.next.inj h
  all_goals repeat' first
    | with_reducible exact .refl _
    | with_reducible apply State.accountError_kept
    | with_reducible apply State.advance_kept
    | split

theorem execWhorlOscillatorDeviation_kept {t : Tick} {ppm : Int} {s : State} {u : State} (h : execWhorlOscillatorDeviation t ppm s = .next u) : Kept s u := by
  simp only [execWhorlOscillatorDeviation] at h
  all_goals obtain rfl := Host.Outcome.next.inj h
  all_goals repeat' first
    | with_reducible exact .refl _
    | with_reducible apply State.oscillator_kept
    | with_reducible apply State.advance_kept

theorem execWhorlStatus_kept {t : Tick} {h : Hdr} {s : State} {u : State} (h : execWhorlStatus t h s = .next u) : Kept s u := by
  simp only [execWhorlStatus] at h
  all_goals obtain rfl := Host.Outcome.next.inj h
  all_goals repeat' first
    | with_reducible exact .refl _
    | with_reducible apply State.whorlStatus_kept
    | with_reducible apply State.command_kept
    | with_reducible apply State.advance_kept
    | intro _

theorem execLossRunTimeout_kept {t : Tick} {source : Nat} {s : State} {u : State} (h : execLossRunTimeout t source s = .next u) : Kept s u := by
  simp only [execLossRunTimeout] at h
  all_goals obtain rfl := Host.Outcome.next.inj h
  all_goals repeat' first
    | with_reducible exact .refl _
    | with_reducible apply State.lossTimeout_kept
    | with_reducible apply State.advance_kept

theorem execLossRecordQueue_kept {t : Tick} {s : State} {u : State} (h : execLossRecordQueue t s = .next u) : Kept s u := by
  simp only [execLossRecordQueue] at h
  all_goals obtain rfl := Host.Outcome.next.inj h
  all_goals repeat' first
    | with_reducible exact .refl _
    | with_reducible apply State.lossRecord_kept
    | with_reducible apply State.advance_kept

theorem execAttestationControl_kept {t : Tick} {h : Hdr} {opening : Bool} {interval : Nat} {nonce : List Byte} {s : State} {u : State} (h : execAttestationControl t h opening interval nonce s = .next u) : Kept s u := by
  simp only [execAttestationControl] at h
  all_goals obtain rfl := Host.Outcome.next.inj h
  all_goals repeat' first
    | with_reducible exact .refl _
    | with_reducible apply State.attest_kept
    | with_reducible apply State.command_kept
    | with_reducible apply State.advance_kept
    | intro _

theorem execManifest_kept {t : Tick} {h : Hdr} {kind : Nat} {offset : Nat} {nonce : List Byte} {s : State} {u : State} (h : execManifest t h kind offset nonce s = .next u) : Kept s u := by
  simp only [execManifest] at h
  all_goals obtain rfl := Host.Outcome.next.inj h
  all_goals repeat' first
    | with_reducible exact .refl _
    | with_reducible apply State.manifestCommand_kept
    | with_reducible apply State.command_kept
    | with_reducible apply State.advance_kept
    | intro _

theorem execKeySlotWrite_kept {t : Tick} {h : Hdr} {phase : Nat} {offset : Nat} {data : List Byte} {s : State} {u : State} (h : execKeySlotWrite t h phase offset data s = .next u) : Kept s u := by
  simp only [execKeySlotWrite] at h
  all_goals obtain rfl := Host.Outcome.next.inj h
  all_goals repeat' first
    | with_reducible exact .refl _
    | with_reducible apply State.keyCommand_kept
    | with_reducible apply State.command_kept
    | with_reducible apply State.advance_kept
    | intro _

theorem execKeyRevoke_kept {t : Tick} {h : Hdr} {phase : Nat} {offset : Nat} {data : List Byte} {s : State} {u : State} (h : execKeyRevoke t h phase offset data s = .next u) : Kept s u := by
  simp only [execKeyRevoke] at h
  all_goals obtain rfl := Host.Outcome.next.inj h
  all_goals repeat' first
    | with_reducible exact .refl _
    | with_reducible apply State.keyCommand_kept
    | with_reducible apply State.command_kept
    | with_reducible apply State.advance_kept
    | intro _

theorem execDebugUnlock_kept {t : Tick} {h : Hdr} {phase : Nat} {offset : Nat} {data : List Byte} {s : State} {u : State} (h : execDebugUnlock t h phase offset data s = .next u) : Kept s u := by
  simp only [execDebugUnlock] at h
  all_goals obtain rfl := Host.Outcome.next.inj h
  all_goals repeat' first
    | with_reducible exact .refl _
    | with_reducible apply State.debugCommand_kept
    | with_reducible apply State.command_kept
    | with_reducible apply State.advance_kept
    | intro _

theorem execAutomaticCut_kept {t : Tick} {s : State} {u : State} (h : execAutomaticCut t s = .next u) : Kept s u := by
  simp only [execAutomaticCut] at h
  all_goals obtain rfl := Host.Outcome.next.inj h
  all_goals repeat' first
    | with_reducible exact .refl _
    | with_reducible apply State.automaticCut_kept
    | with_reducible apply State.advance_kept

theorem execManifestSigned_kept {t : Tick} {salt : List Byte} {hedge : List Byte} {s : State} {u : State} (h : execManifestSigned t salt hedge s = .next u) : Kept s u := by
  simp only [execManifestSigned] at h
  all_goals obtain rfl := Host.Outcome.next.inj h
  all_goals repeat' first
    | with_reducible exact .refl _
    | with_reducible apply State.manifestSigned_kept
    | with_reducible apply State.advance_kept

theorem execChallengeExpiry_kept {t : Tick} {s : State} {u : State} (h : execChallengeExpiry t s = .next u) : Kept s u := by
  simp only [execChallengeExpiry] at h
  all_goals obtain rfl := Host.Outcome.next.inj h
  all_goals repeat' first
    | with_reducible exact .refl _
    | with_reducible apply State.challengeExpires_kept
    | with_reducible apply State.advance_kept

theorem execDebugAccessOpen_kept {t : Tick} {s : State} {u : State} (h : execDebugAccessOpen t s = .next u) : Kept s u := by
  simp only [execDebugAccessOpen] at h
  all_goals obtain rfl := Host.Outcome.next.inj h
  all_goals repeat' first
    | with_reducible exact .refl _
    | with_reducible apply State.openAccess_kept
    | with_reducible apply State.advance_kept

theorem execTestAccessPortInstruction_kept {t : Tick} {instr : TapInstr} {s : State} {u : State} (h : execTestAccessPortInstruction t instr s = .next u) : Kept s u := by
  simp only [execTestAccessPortInstruction] at h
  all_goals obtain rfl := Host.Outcome.next.inj h
  all_goals repeat' first
    | with_reducible exact .refl _
    | with_reducible apply State.tapLoad_kept
    | with_reducible apply State.advance_kept

theorem execDownTimeout_kept {t : Tick} {s : State} {u : State} (h : execDownTimeout t s = .next u) : Kept s u := by
  simp only [execDownTimeout] at h
  all_goals obtain rfl := Host.Outcome.next.inj h
  all_goals repeat' first
    | with_reducible exact .refl _
    | with_reducible apply State.downEnds_kept
    | with_reducible apply State.advance_kept

theorem execReceiverDetectDone_kept {t : Tick} {lanes : BitVec 8} {s : State} {u : State} (h : execReceiverDetectDone t lanes s = .next u) : Kept s u := by
  simp only [execReceiverDetectDone] at h
  all_goals obtain rfl := Host.Outcome.next.inj h
  all_goals repeat' first
    | with_reducible exact .refl _
    | with_reducible apply State.detectDone_kept
    | with_reducible apply State.advance_kept

theorem execLaneLock_kept {t : Tick} {lane : Nat} {s : State} {u : State} (h : execLaneLock t lane s = .next u) : Kept s u := by
  simp only [execLaneLock] at h
  all_goals obtain rfl := Host.Outcome.next.inj h
  all_goals repeat' first
    | with_reducible exact .refl _
    | with_reducible apply State.laneLocks_kept
    | with_reducible apply State.advance_kept

theorem execBringUpStageTimeout_kept {t : Tick} {s : State} {u : State} (h : execBringUpStageTimeout t s = .next u) : Kept s u := by
  simp only [execBringUpStageTimeout] at h
  all_goals obtain rfl := Host.Outcome.next.inj h
  all_goals repeat' first
    | with_reducible exact .refl _
    | with_reducible apply State.stageTimeout_kept
    | with_reducible apply State.advance_kept

theorem execAlignColumn_kept {t : Tick} {skew : Nat} {count : Nat} {s : State} {u : State} (h : execAlignColumn t skew count s = .next u) : Kept s u := by
  simp only [execAlignColumn] at h
  all_goals obtain rfl := Host.Outcome.next.inj h
  all_goals repeat' first
    | with_reducible exact .refl _
    | with_reducible apply State.alignLanes_kept
    | with_reducible apply State.advance_kept

theorem execIdleColumn_kept {t : Tick} {delete : Bool} {s : State} {u : State} (h : execIdleColumn t delete s = .next u) : Kept s u := by
  simp only [execIdleColumn] at h
  all_goals obtain rfl := Host.Outcome.next.inj h
  all_goals repeat' first
    | with_reducible exact .refl _
    | with_reducible apply State.idleColumn_kept
    | with_reducible apply State.advance_kept

theorem execCapBlock_kept {t : Tick} {index : Nat} {content : BitVec 48} {s : State} {u : State} (h : execCapBlock t index content s = .next u) : Kept s u := by
  simp only [execCapBlock] at h
  all_goals obtain rfl := Host.Outcome.next.inj h
  all_goals repeat' first
    | with_reducible exact .refl _
    | with_reducible apply State.capBlock_kept
    | with_reducible apply State.advance_kept

theorem execTrainBlock_kept {t : Tick} {lane : Nat} {locked : Bool} {rates : BitVec 3} {s : State} {u : State} (h : execTrainBlock t lane locked rates s = .next u) : Kept s u := by
  simp only [execTrainBlock] at h
  all_goals obtain rfl := Host.Outcome.next.inj h
  all_goals repeat' first
    | with_reducible exact .refl _
    | with_reducible apply State.trainSeen_kept
    | with_reducible apply State.advance_kept

theorem execLinkBlock_kept {t : Tick} {ack : Nat} {nak : Bool} {credit1 : Nat} {credit2 : Nat} {credit3 : Nat} {s : State} {u : State} (h : execLinkBlock t ack nak credit1 credit2 credit3 s = .next u) : Kept s u := by
  simp only [execLinkBlock] at h
  all_goals obtain rfl := Host.Outcome.next.inj h
  all_goals repeat' first
    | with_reducible exact .refl _
    | with_reducible apply State.linkBlock_kept
    | with_reducible apply State.advance_kept

theorem execFrameReceived_kept {t : Tick} {frame : FrameIn} {s : State} {u : State} (h : execFrameReceived t frame s = .next u) : Kept s u := by
  simp only [execFrameReceived] at h
  all_goals obtain rfl := Host.Outcome.next.inj h
  all_goals repeat' first
    | with_reducible exact .refl _
    | with_reducible apply State.receiveFrame_kept
    | with_reducible apply State.advance_kept

theorem execFrameSend_kept {t : Tick} {s : State} {u : State} (h : execFrameSend t s = .next u) : Kept s u := by
  simp only [execFrameSend] at h
  all_goals obtain rfl := Host.Outcome.next.inj h
  all_goals repeat' first
    | with_reducible exact .refl _
    | with_reducible apply State.sendFrameNext_kept
    | with_reducible apply State.advance_kept

theorem execAlignColumnSend_kept {t : Tick} {s : State} {u : State} (h : execAlignColumnSend t s = .next u) : Kept s u := by
  simp only [execAlignColumnSend] at h
  all_goals obtain rfl := Host.Outcome.next.inj h
  all_goals repeat' first
    | with_reducible exact .refl _
    | with_reducible apply State.alignSend_kept
    | with_reducible apply State.advance_kept

theorem execIdleColumnSend_kept {t : Tick} {s : State} {u : State} (h : execIdleColumnSend t s = .next u) : Kept s u := by
  simp only [execIdleColumnSend] at h
  all_goals obtain rfl := Host.Outcome.next.inj h
  all_goals repeat' first
    | with_reducible exact .refl _
    | with_reducible apply State.idleSend_kept
    | with_reducible apply State.cond_kept
    | with_reducible apply State.advance_kept
    | intro _

theorem execLinkBlockSend_kept {t : Tick} {s : State} {u : State} (h : execLinkBlockSend t s = .next u) : Kept s u := by
  simp only [execLinkBlockSend] at h
  all_goals obtain rfl := Host.Outcome.next.inj h
  all_goals repeat' first
    | with_reducible exact .refl _
    | with_reducible apply State.sendLink_kept
    | with_reducible apply State.cond_kept
    | with_reducible apply State.advance_kept
    | intro _

theorem execNakRepeat_kept {t : Tick} {s : State} {u : State} (h : execNakRepeat t s = .next u) : Kept s u := by
  simp only [execNakRepeat] at h
  all_goals obtain rfl := Host.Outcome.next.inj h
  all_goals repeat' first
    | with_reducible exact .refl _
    | with_reducible apply State.repeatNak_kept
    | with_reducible apply State.advance_kept

theorem execReplayTimeout_kept {t : Tick} {s : State} {u : State} (h : execReplayTimeout t s = .next u) : Kept s u := by
  simp only [execReplayTimeout] at h
  all_goals obtain rfl := Host.Outcome.next.inj h
  all_goals repeat' first
    | with_reducible exact .refl _
    | with_reducible apply State.replayTimeout_kept
    | with_reducible apply State.advance_kept

theorem execLaneLoss_kept {t : Tick} {errors : LaneErrors} {s : State} {u : State} (h : execLaneLoss t errors s = .next u) : Kept s u := by
  simp only [execLaneLoss] at h
  all_goals obtain rfl := Host.Outcome.next.inj h
  all_goals repeat' first
    | with_reducible exact .refl _
    | with_reducible apply State.laneLost_kept
    | with_reducible apply State.cond_kept
    | with_reducible apply State.advance_kept
    | intro _

theorem execRecoveryDiscard_kept {t : Tick} {s : State} {u : State} (h : execRecoveryDiscard t s = .next u) : Kept s u := by
  simp only [execRecoveryDiscard] at h
  all_goals obtain rfl := Host.Outcome.next.inj h
  all_goals repeat' first
    | with_reducible exact .refl _
    | with_reducible apply State.recoveryDiscard_kept
    | with_reducible apply State.advance_kept

theorem execRecoveryTimeout_kept {t : Tick} {s : State} {u : State} (h : execRecoveryTimeout t s = .next u) : Kept s u := by
  simp only [execRecoveryTimeout] at h
  all_goals obtain rfl := Host.Outcome.next.inj h
  all_goals repeat' first
    | with_reducible exact .refl _
    | with_reducible apply State.recoveryEnds_kept
    | with_reducible apply State.advance_kept

theorem execLinkTestEnd_kept {t : Tick} {errors : List (List Nat)} {s : State} {u : State} (h : execLinkTestEnd t errors s = .next u) : Kept s u := by
  simp only [execLinkTestEnd] at h
  all_goals obtain rfl := Host.Outcome.next.inj h
  all_goals repeat' first
    | with_reducible exact .refl _
    | with_reducible apply State.linkTestEnd_kept
    | with_reducible apply State.advance_kept

theorem execLinkStatus_kept {t : Tick} {h : Hdr} {s : State} {u : State} (h : execLinkStatus t h s = .next u) : Kept s u := by
  simp only [execLinkStatus] at h
  all_goals obtain rfl := Host.Outcome.next.inj h
  all_goals repeat' first
    | with_reducible exact .refl _
    | with_reducible apply State.linkStatus_kept
    | with_reducible apply State.command_kept
    | with_reducible apply State.advance_kept
    | intro _

theorem execLinkRetrain_kept {t : Tick} {h : Hdr} {s : State} {u : State} (h : execLinkRetrain t h s = .next u) : Kept s u := by
  simp only [execLinkRetrain] at h
  all_goals obtain rfl := Host.Outcome.next.inj h
  all_goals repeat' first
    | with_reducible exact .refl _
    | with_reducible apply State.linkRetrain_kept
    | with_reducible apply State.command_kept
    | with_reducible apply State.advance_kept
    | intro _

theorem execLinkTest_kept {t : Tick} {h : Hdr} {duration : Nat} {lanes : List LaneTest} {s : State} {u : State} (h : execLinkTest t h duration lanes s = .next u) : Kept s u := by
  simp only [execLinkTest] at h
  all_goals obtain rfl := Host.Outcome.next.inj h
  all_goals repeat' first
    | with_reducible exact .refl _
    | with_reducible apply State.linkTest_kept
    | with_reducible apply State.command_kept
    | with_reducible apply State.advance_kept
    | intro _

theorem execLinkTestStop_kept {t : Tick} {h : Hdr} {s : State} {u : State} (h : execLinkTestStop t h s = .next u) : Kept s u := by
  simp only [execLinkTestStop] at h
  all_goals obtain rfl := Host.Outcome.next.inj h
  all_goals repeat' first
    | with_reducible exact .refl _
    | with_reducible apply State.linkTestStop_kept
    | with_reducible apply State.command_kept
    | with_reducible apply State.advance_kept
    | intro _

theorem execWriteBoardTable_kept {t : Tick} {h : Hdr} {entries : List BoardEntry} {s : State} {u : State} (h : execWriteBoardTable t h entries s = .next u) : Kept s u := by
  simp only [execWriteBoardTable] at h
  all_goals obtain rfl := Host.Outcome.next.inj h
  all_goals repeat' first
    | with_reducible exact .refl _
    | with_reducible apply State.nvWrite_kept
    | with_reducible apply State.command_kept
    | with_reducible apply State.advance_kept
    | intro _

theorem execWatchdogExpiry_kept {t : Tick} {s : State} {u : State} (h : execWatchdogExpiry t s = .next u) : Kept s u := by
  simp only [execWatchdogExpiry] at h
  all_goals obtain rfl := Host.Outcome.next.inj h
  all_goals repeat' first
    | with_reducible exact .refl _
    | with_reducible apply State.watchdog_kept
    | with_reducible apply State.advance_kept

theorem execDistaffMemoryError_kept {t : Tick} {s : State} {u : State} (h : execDistaffMemoryError t s = .next u) : Kept s u := by
  simp only [execDistaffMemoryError] at h
  all_goals obtain rfl := Host.Outcome.next.inj h
  all_goals repeat' first
    | with_reducible exact .refl _
    | with_reducible apply State.distaffDown_kept
    | with_reducible apply State.advance_kept

theorem execLoadUpdate_kept {t : Tick} {figure : LoadFigure} {corrected : Nat} {s : State} {u : State} (h : execLoadUpdate t figure corrected s = .next u) : Kept s u := by
  simp only [execLoadUpdate] at h
  all_goals obtain rfl := Host.Outcome.next.inj h
  all_goals repeat' first
    | with_reducible exact .refl _
    | with_reducible apply State.loadUpdate_kept
    | with_reducible apply State.advance_kept

theorem execFwReloadDone_kept {t : Tick} {image : List Byte} {s : State} {u : State} (h : execFwReloadDone t image s = .next u) : Kept s u := by
  simp only [execFwReloadDone] at h
  all_goals obtain rfl := Host.Outcome.next.inj h
  all_goals repeat' first
    | with_reducible exact .refl _
    | with_reducible apply State.reloadDone_kept
    | with_reducible apply State.advance_kept

theorem execFwVerifyDone_kept {t : Tick} {s : State} {u : State} (h : execFwVerifyDone t s = .next u) : Kept s u := by
  simp only [execFwVerifyDone] at h
  all_goals obtain rfl := Host.Outcome.next.inj h
  all_goals repeat' first
    | with_reducible exact .refl _
    | with_reducible apply State.fwVerifyDone_kept
    | with_reducible apply State.advance_kept

theorem execGetState_kept {t : Tick} {h : Hdr} {s : State} {u : State} (h : execGetState t h s = .next u) : Kept s u := by
  simp only [execGetState] at h
  all_goals obtain rfl := Host.Outcome.next.inj h
  all_goals repeat' first
    | with_reducible exact .refl _
    | with_reducible apply State.getState_kept
    | with_reducible apply State.command_kept
    | with_reducible apply State.advance_kept
    | intro _

theorem execReadCounters_kept {t : Tick} {h : Hdr} {file : Nat} {targets : List Nat} {s : State} {u : State} (h : execReadCounters t h file targets s = .next u) : Kept s u := by
  simp only [execReadCounters] at h
  all_goals obtain rfl := Host.Outcome.next.inj h
  all_goals repeat' first
    | with_reducible exact .refl _
    | with_reducible apply State.readCounters_kept
    | with_reducible apply State.command_kept
    | with_reducible apply State.advance_kept
    | intro _

theorem execClearFlags_kept {t : Tick} {h : Hdr} {targets : List Nat} {mask : Nat} {s : State} {u : State} (h : execClearFlags t h targets mask s = .next u) : Kept s u := by
  simp only [execClearFlags] at h
  all_goals obtain rfl := Host.Outcome.next.inj h
  all_goals repeat' first
    | with_reducible exact .refl _
    | with_reducible apply State.clearFlagsOf_kept
    | with_reducible apply State.command_kept
    | with_reducible apply State.advance_kept
    | intro _

theorem execFwBegin_kept {t : Tick} {h : Hdr} {length : Nat} {s : State} {u : State} (h : execFwBegin t h length s = .next u) : Kept s u := by
  simp only [execFwBegin] at h
  all_goals obtain rfl := Host.Outcome.next.inj h
  all_goals repeat' first
    | with_reducible exact .refl _
    | with_reducible apply State.fwBegin_kept
    | with_reducible apply State.command_kept
    | with_reducible apply State.advance_kept
    | intro _

theorem execFwData_kept {t : Tick} {h : Hdr} {offset : Nat} {data : List Byte} {s : State} {u : State} (h : execFwData t h offset data s = .next u) : Kept s u := by
  simp only [execFwData] at h
  all_goals obtain rfl := Host.Outcome.next.inj h
  all_goals repeat' first
    | with_reducible exact .refl _
    | with_reducible apply State.fwData_kept
    | with_reducible apply State.command_kept
    | with_reducible apply State.advance_kept
    | intro _

theorem execFwVerify_kept {t : Tick} {h : Hdr} {s : State} {u : State} (h : execFwVerify t h s = .next u) : Kept s u := by
  simp only [execFwVerify] at h
  all_goals obtain rfl := Host.Outcome.next.inj h
  all_goals repeat' first
    | with_reducible exact .refl _
    | with_reducible apply State.command_kept
    | with_reducible apply State.advance_kept
    | with_reducible apply State.modDist_kept
    | intro _

theorem execFwActivate_kept {t : Tick} {h : Hdr} {s : State} {u : State} (h : execFwActivate t h s = .next u) : Kept s u := by
  simp only [execFwActivate] at h
  all_goals obtain rfl := Host.Outcome.next.inj h
  all_goals repeat' first
    | with_reducible exact .refl _
    | with_reducible apply State.fwActivate_kept
    | with_reducible apply State.command_kept
    | with_reducible apply State.advance_kept
    | intro _

theorem execFwReload_kept {t : Tick} {h : Hdr} {other : Bool} {s : State} {u : State} (h : execFwReload t h other s = .next u) : Kept s u := by
  simp only [execFwReload] at h
  all_goals obtain rfl := Host.Outcome.next.inj h
  all_goals repeat' first
    | with_reducible exact .refl _
    | with_reducible apply State.startReload_kept
    | with_reducible apply State.command_kept
    | with_reducible apply State.advance_kept
    | intro _

theorem execPowerUpRequest_kept {t : Tick} {bootsel : Nat} {s : State} {u : State} (h : execPowerUpRequest t bootsel s = .next u) : Kept s u := by
  simp only [execPowerUpRequest] at h
  all_goals obtain rfl := Host.Outcome.next.inj h
  all_goals repeat' first
    | with_reducible exact .refl _
    | with_reducible apply State.requestPower_kept
    | with_reducible apply State.advance_kept

theorem execRailGood_kept {t : Tick} {rail : Nat} {s : State} {u : State} (h : execRailGood t rail s = .next u) : Kept s u := by
  simp only [execRailGood] at h
  all_goals obtain rfl := Host.Outcome.next.inj h
  all_goals repeat' first
    | with_reducible exact .refl _
    | with_reducible apply State.railIsGood_kept
    | with_reducible apply State.advance_kept

theorem execRailSequenceFailure_kept {t : Tick} {rail : Nat} {millivolts : Nat} {s : State} {u : State} (h : execRailSequenceFailure t rail millivolts s = .next u) : Kept s u := by
  simp only [execRailSequenceFailure] at h
  all_goals obtain rfl := Host.Outcome.next.inj h
  all_goals repeat' first
    | with_reducible exact .refl _
    | with_reducible apply State.sequenceFails_kept
    | with_reducible apply State.advance_kept

theorem execRailDisable_kept {t : Tick} {s : State} {u : State} (h : execRailDisable t s = .next u) : Kept s u := by
  simp only [execRailDisable] at h
  all_goals obtain rfl := Host.Outcome.next.inj h
  all_goals repeat' first
    | with_reducible exact .refl _
    | with_reducible apply State.railOff_kept
    | with_reducible apply State.advance_kept

theorem execSupplySag_kept {t : Tick} {rail : Nat} {millivolts : Nat} {s : State} {u : State} (h : execSupplySag t rail millivolts s = .next u) : Kept s u := by
  simp only [execSupplySag] at h
  all_goals obtain rfl := Host.Outcome.next.inj h
  all_goals repeat' first
    | with_reducible exact .refl _
    | with_reducible apply State.sagBegins_kept
    | with_reducible apply State.advance_kept

theorem execSagEnd_kept {t : Tick} {rail : Nat} {readings : SagReadings} {s : State} {u : State} (h : execSagEnd t rail readings s = .next u) : Kept s u := by
  simp only [execSagEnd] at h
  all_goals obtain rfl := Host.Outcome.next.inj h
  all_goals repeat' first
    | with_reducible exact .refl _
    | with_reducible apply State.sagEnds_kept
    | with_reducible apply State.advance_kept

theorem execSagFault_kept {t : Tick} {s : State} {u : State} (h : execSagFault t s = .next u) : Kept s u := by
  simp only [execSagFault] at h
  all_goals obtain rfl := Host.Outcome.next.inj h
  all_goals repeat' first
    | with_reducible exact .refl _
    | with_reducible apply State.sagFaults_kept
    | with_reducible apply State.advance_kept

theorem execSagFaultClear_kept {t : Tick} {s : State} {u : State} (h : execSagFaultClear t s = .next u) : Kept s u := by
  simp only [execSagFaultClear] at h
  all_goals obtain rfl := Host.Outcome.next.inj h
  all_goals repeat' first
    | with_reducible exact .refl _
    | with_reducible apply State.sagFaultEnds_kept
    | with_reducible apply State.advance_kept

theorem execResetShutdown_kept {t : Tick} {rail : Nat} {millivolts : Nat} {s : State} {u : State} (h : execResetShutdown t rail millivolts s = .next u) : Kept s u := by
  simp only [execResetShutdown] at h
  all_goals obtain rfl := Host.Outcome.next.inj h
  all_goals repeat' first
    | with_reducible exact .refl _
    | with_reducible apply State.railReset_kept
    | with_reducible apply State.advance_kept

theorem execAutoPowerUp_kept {t : Tick} {bootsel : Nat} {s : State} {u : State} (h : execAutoPowerUp t bootsel s = .next u) : Kept s u := by
  simp only [execAutoPowerUp] at h
  all_goals obtain rfl := Host.Outcome.next.inj h
  all_goals repeat' first
    | with_reducible exact .refl _
    | with_reducible apply State.autoPowerUp_kept
    | with_reducible apply State.advance_kept

theorem execRailWindowExit_kept {t : Tick} {rail : Nat} {millivolts : Nat} {s : State} {u : State} (h : execRailWindowExit t rail millivolts s = .next u) : Kept s u := by
  simp only [execRailWindowExit] at h
  all_goals obtain rfl := Host.Outcome.next.inj h
  all_goals repeat' first
    | with_reducible exact .refl _
    | with_reducible apply State.railWindow_kept
    | with_reducible apply State.advance_kept

theorem execNvWriteThreshold_kept {t : Tick} {millivolts : Nat} {s : State} {u : State} (h : execNvWriteThreshold t millivolts s = .next u) : Kept s u := by
  simp only [execNvWriteThreshold] at h
  all_goals obtain rfl := Host.Outcome.next.inj h
  all_goals repeat' first
    | with_reducible exact .refl _
    | with_reducible apply State.nvThreshold_kept
    | with_reducible apply State.advance_kept

theorem execDiodeReading_kept {t : Tick} {temp : Int} {patterns : List (Nat × Nat)} {s : State} {u : State} (h : execDiodeReading t temp patterns s = .next u) : Kept s u := by
  simp only [execDiodeReading] at h
  all_goals obtain rfl := Host.Outcome.next.inj h
  all_goals repeat' first
    | with_reducible exact .refl _
    | with_reducible apply State.diodeReading_kept
    | with_reducible apply State.advance_kept

theorem execThrottleExit_kept {t : Tick} {s : State} {u : State} (h : execThrottleExit t s = .next u) : Kept s u := by
  simp only [execThrottleExit] at h
  all_goals obtain rfl := Host.Outcome.next.inj h
  all_goals repeat' first
    | with_reducible exact .refl _
    | with_reducible apply State.throttleEnds_kept
    | with_reducible apply State.advance_kept

theorem execShutdownRecordWrite_kept {t : Tick} {s : State} {u : State} (h : execShutdownRecordWrite t s = .next u) : Kept s u := by
  simp only [execShutdownRecordWrite] at h
  all_goals obtain rfl := Host.Outcome.next.inj h
  all_goals repeat' first
    | with_reducible exact .refl _
    | with_reducible apply State.shutdownRecord_kept
    | with_reducible apply State.advance_kept

theorem execProxyTemperature_kept {t : Tick} {h : Hdr} {temp : Int} {seconds : Nat} {s : State} {u : State} (h : execProxyTemperature t h temp seconds s = .next u) : Kept s u := by
  simp only [execProxyTemperature] at h
  all_goals obtain rfl := Host.Outcome.next.inj h
  all_goals repeat' first
    | with_reducible exact .refl _
    | with_reducible apply State.proxyTemp_kept
    | with_reducible apply State.command_kept
    | with_reducible apply State.advance_kept
    | intro _

theorem execProxyExpiry_kept {t : Tick} {s : State} {u : State} (h : execProxyExpiry t s = .next u) : Kept s u := by
  simp only [execProxyExpiry] at h
  all_goals obtain rfl := Host.Outcome.next.inj h
  all_goals repeat' first
    | with_reducible exact .refl _
    | with_reducible apply State.proxyExpires_kept
    | with_reducible apply State.advance_kept

theorem execNvPageWriteDone_kept {t : Tick} {s : State} {u : State} (h : execNvPageWriteDone t s = .next u) : Kept s u := by
  simp only [execNvPageWriteDone] at h
  all_goals obtain rfl := Host.Outcome.next.inj h
  all_goals repeat' first
    | with_reducible exact .refl _
    | with_reducible apply State.verdictWritten_kept
    | with_reducible apply State.takeTable_kept
    | with_reducible apply State.takeSlots_kept
    | with_reducible apply State.nvPageDone_kept
    | with_reducible apply State.advance_kept

theorem execRefInMeasurement_kept {t : Tick} {hertz : Nat} {s : State} {u : State} (h : execRefInMeasurement t hertz s = .next u) : Kept s u := by
  simp only [execRefInMeasurement] at h
  all_goals obtain rfl := Host.Outcome.next.inj h
  all_goals repeat' first
    | with_reducible exact .refl _
    | with_reducible apply State.measureRef_kept
    | with_reducible apply State.advance_kept

theorem execPllLock_kept {t : Tick} {which : Nat} {s : State} {u : State} (h : execPllLock t which s = .next u) : Kept s u := by
  simp only [execPllLock] at h
  all_goals obtain rfl := Host.Outcome.next.inj h
  all_goals repeat' first
    | with_reducible exact .refl _
    | with_reducible apply State.pllLocks_kept
    | with_reducible apply State.advance_kept

theorem execNvStoreReadDone_kept {t : Tick} {s : State} {u : State} (h : execNvStoreReadDone t s = .next u) : Kept s u := by
  simp only [execNvStoreReadDone] at h
  all_goals obtain rfl := Host.Outcome.next.inj h
  all_goals repeat' first
    | with_reducible exact .refl _
    | with_reducible apply State.storeRead_kept
    | with_reducible apply State.advance_kept

theorem execDramTrainingDone_kept {t : Tick} {eyes : List (List LaneEye)} {s : State} {u : State} (h : execDramTrainingDone t eyes s = .next u) : Kept s u := by
  simp only [execDramTrainingDone] at h
  all_goals obtain rfl := Host.Outcome.next.inj h
  all_goals repeat' first
    | with_reducible exact .refl _
    | with_reducible apply State.trainingDone_kept
    | with_reducible apply State.advance_kept

theorem execImageReadDone_kept {t : Tick} {image : List Byte} {s : State} {u : State} (h : execImageReadDone t image s = .next u) : Kept s u := by
  simp only [execImageReadDone] at h
  all_goals obtain rfl := Host.Outcome.next.inj h
  all_goals repeat' first
    | with_reducible exact .refl _
    | with_reducible apply State.imageRead_kept
    | with_reducible apply State.advance_kept

theorem execImageVerifyDone_kept {t : Tick} {s : State} {u : State} (h : execImageVerifyDone t s = .next u) : Kept s u := by
  simp only [execImageVerifyDone] at h
  all_goals obtain rfl := Host.Outcome.next.inj h
  all_goals repeat' first
    | with_reducible exact .refl _
    | with_reducible apply State.imageVerified_kept
    | with_reducible apply State.advance_kept

theorem execBootTestDone_kept {t : Tick} {dram : Bool} {result : TestResult} {s : State} {u : State} (h : execBootTestDone t dram result s = .next u) : Kept s u := by
  simp only [execBootTestDone] at h
  all_goals obtain rfl := Host.Outcome.next.inj h
  all_goals repeat' first
    | with_reducible exact .refl _
    | with_reducible apply State.bootTestDone_kept
    | with_reducible apply State.advance_kept

theorem execHostLoadTimeout_kept {t : Tick} {s : State} {u : State} (h : execHostLoadTimeout t s = .next u) : Kept s u := by
  simp only [execHostLoadTimeout] at h
  all_goals obtain rfl := Host.Outcome.next.inj h
  all_goals repeat' first
    | with_reducible exact .refl _
    | with_reducible apply State.hostLoadTimeout_kept
    | with_reducible apply State.advance_kept

theorem execLoadDone_kept {t : Tick} {s : State} {u : State} (h : execLoadDone t s = .next u) : Kept s u := by
  simp only [execLoadDone] at h
  all_goals obtain rfl := Host.Outcome.next.inj h
  all_goals repeat' first
    | with_reducible exact .refl _
    | with_reducible apply State.loadDone_kept
    | with_reducible apply State.advance_kept

theorem execShutdown_kept {t : Tick} {h : Hdr} {start : Nat} {length : Nat} {s : State} {u : State} (h : execShutdown t h start length s = .next u) : Kept s u := by
  simp only [execShutdown] at h
  all_goals obtain rfl := Host.Outcome.next.inj h
  all_goals repeat' first
    | with_reducible exact .refl _
    | with_reducible apply State.shutdownCommand_kept
    | with_reducible apply State.command_kept
    | with_reducible apply State.advance_kept
    | intro _

theorem execSelfTestStart_kept {t : Tick} {kilohertz : Nat} {millivolts : Nat} {s : State} {u : State} (h : execSelfTestStart t kilohertz millivolts s = .next u) : Kept s u := by
  simp only [execSelfTestStart] at h
  all_goals obtain rfl := Host.Outcome.next.inj h
  all_goals repeat' first
    | with_reducible exact .refl _
    | with_reducible apply State.testStarts_kept
    | with_reducible apply State.advance_kept

theorem execSelfTestCheck_kept {t : Tick} {kilohertz : Nat} {millivolts : Nat} {s : State} {u : State} (h : execSelfTestCheck t kilohertz millivolts s = .next u) : Kept s u := by
  simp only [execSelfTestCheck] at h
  all_goals obtain rfl := Host.Outcome.next.inj h
  all_goals repeat' first
    | with_reducible exact .refl _
    | with_reducible apply State.testChecks_kept
    | with_reducible apply State.advance_kept

theorem execSelfTestEnd_kept {t : Tick} {result : TestResult} {s : State} {u : State} (h : execSelfTestEnd t result s = .next u) : Kept s u := by
  simp only [execSelfTestEnd] at h
  all_goals obtain rfl := Host.Outcome.next.inj h
  all_goals repeat' first
    | with_reducible exact .refl _
    | with_reducible apply State.testEnds_kept
    | with_reducible apply State.advance_kept

theorem execResponseDelivery_kept {t : Tick} {s : State} {u : State} (h : execResponseDelivery t s = .next u) : Kept s u := by
  simp only [execResponseDelivery] at h
  all_goals obtain rfl := Host.Outcome.next.inj h
  all_goals repeat' first
    | with_reducible exact .refl _
    | with_reducible apply State.deliver_kept
    | with_reducible apply State.advance_kept

theorem execPwrReq_kept {t : Tick} {bootsel : Nat} {s : State} {u : State} (h : execPwrReq t bootsel s = .next u) : Kept s u := by
  simp only [execPwrReq] at h
  all_goals obtain rfl := Host.Outcome.next.inj h
  all_goals repeat' first
    | with_reducible exact .refl _
    | with_reducible apply State.requestPower_kept
    | with_reducible apply State.advance_kept

theorem execCmdDoorbell_kept {t : Tick} {slot : Nat} {s : State} {u : State} (h : execCmdDoorbell t slot s = .next u) : Kept s u := by
  simp only [execCmdDoorbell] at h
  all_goals obtain rfl := Host.Outcome.next.inj h
  all_goals repeat' first
    | with_reducible exact .refl _
    | with_reducible apply State.doorbell_kept
    | with_reducible apply State.advance_kept

theorem execRspConsumer_kept {t : Tick} {index : Nat} {s : State} {u : State} (h : execRspConsumer t index s = .next u) : Kept s u := by
  simp only [execRspConsumer] at h
  all_goals obtain rfl := Host.Outcome.next.inj h
  all_goals repeat' first
    | with_reducible exact .refl _
    | with_reducible apply State.setConsumer_kept
    | with_reducible apply State.advance_kept

theorem execFlagsWrite_kept {t : Tick} {value : Word32} {s : State} {u : State} (h : execFlagsWrite t value s = .next u) : Kept s u := by
  simp only [execFlagsWrite] at h
  all_goals obtain rfl := Host.Outcome.next.inj h
  all_goals repeat' first
    | with_reducible exact .refl _
    | with_reducible apply State.clearSideFlags_kept
    | with_reducible apply State.advance_kept

theorem execLogSelect_kept {t : Tick} {value : Word32} {s : State} {u : State} (h : execLogSelect t value s = .next u) : Kept s u := by
  simp only [execLogSelect] at h
  all_goals obtain rfl := Host.Outcome.next.inj h
  all_goals repeat' first
    | with_reducible exact .refl _
    | with_reducible apply State.selectLog_kept
    | with_reducible apply State.advance_kept

theorem execLogWindowLoaded_kept {t : Tick} {s : State} {u : State} (h : execLogWindowLoaded t s = .next u) : Kept s u := by
  simp only [execLogWindowLoaded] at h
  all_goals obtain rfl := Host.Outcome.next.inj h
  all_goals repeat' first
    | with_reducible exact .refl _
    | with_reducible apply State.windowLoaded_kept
    | with_reducible apply State.advance_kept

theorem execRegisterWrite_kept {t : Tick} {opcode : Byte} {address : Nat} {data : List Byte} {s : State} {u : State} (h : execRegisterWrite t opcode address data s = .next u) : Kept s u := by
  simp only [execRegisterWrite] at h
  all_goals obtain rfl := Host.Outcome.next.inj h
  all_goals repeat' first
    | with_reducible exact .refl _
    | with_reducible apply State.sideFrame_kept
    | with_reducible apply State.advance_kept

theorem execSnapshotRead_kept {t : Tick} {address : Nat} {s : State} {u : State} (h : execSnapshotRead t address s = .next u) : Kept s u := by
  simp only [execSnapshotRead] at h
  all_goals obtain rfl := Host.Outcome.next.inj h
  all_goals repeat' first
    | with_reducible exact .refl _
    | with_reducible apply State.readSide_kept
    | with_reducible apply State.advance_kept

end Sys2Proof.Machine
end

