-- ==== Sys2Proof/Tests/Slice0.lean ====
section
/-! SUPPORT. The model's own tests: for each statement a state and operands that meet its hypotheses, clause by clause and
at the boundary where the clause has one; an ill-formed term for each well-formedness check; the spec's worked examples. -/

namespace Sys2Proof.Tests

open Machine

-- The proofs below are many and small: elaborated one after another they need no thread each.
set_option Elab.async false

theorem test_no_row_has_bits : decodeTableWord 32 0 = none ∧ step State.reset = .next State.reset := ⟨rfl, rfl⟩

/-! ## Witnesses: states and operands that meet the hypotheses of each statement, clause by clause -/

/-- The device in READY with its rails good. -/
def base : State := (State.reset.modDev fun _ => .ready).modPower fun p => { p with powerGood := true }

/-- Device time running from instant 0. -/
def clk : State := base.modClock fun c => { c with lockedAt := some 0 }

/-- Line 3 of frame 5 is tracked in LOCKED with a period of 50 us, its edge at 0. -/
def lkd : State := base.modSpindle fun p => { p with
  state := .locked, seeded := true, period := 50000 * 2 ^ 24, phase := 0, gridFrame := 5, gridLine := 3
  frame := 5, line := 3, numbered := true, lastFrameEdge := some 0, lines := 5, frames := [(4, { past := true })] }

def acq : State := base.modSpindle fun p => { p with state := .acquiring }

def seeded : State := acq.modSpindle fun p => { p with seeded := true, period := 50000 * 2 ^ 24, phase := 0 }

theorem witness_step : ∃ (c : Instr) (s : State), s.pending = [c] ∧ (base.pending = []) :=
  ⟨.frameStrobeEdge 0, base.modPending fun _ => [.frameStrobeEdge 0], rfl, rfl⟩

theorem witness_latch :
    let s := (base.modLatch fun l => { l with set := true })
    s.latched = true ∧ s.dev ≠ .off ∧ 2799 < 2800 ∧ base.wf = true := by decide +kernel

theorem witness_frameStrobe :
    (lkd.now ≤ ns 90000 ∧ lkd.timingMode = 0 ∧ lkd.spindle.state ≠ .idle ∧ lkd.runs = [])
    ∧ (lkd.spindle.lastFrameEdge.all fun l => decide (l + ns 4000 ≤ ns 90000)) = true
    ∧ (lkd.spindle.hasTime = true → (lkd.advance (ns 90000)).linesSeen (ns 90000) = lkd.spindle.lines)
    ∧ (lkd.spindle.lastFrameEdge.any fun l => decide (ns 3999 < l + ns 4000)) = true := by decide +kernel

theorem witness_lineStrobe :
    (acq.timingMode = 0 ∧ acq.runs = [] ∧ acq.spindle.state = .acquiring ∧ acq.spindle.seeded = false
      ∧ acq.spindle.candidate = none)
    ∧ (lkd.spindle.state = .locked ∧ lkd.phaseError (ns 50000) = 0 ∧ lkd.frameDue (ns 50000) = false
      ∧ lkd.spindle.gridLine + 1 < lkd.spindle.lines ∧ lkd.rateGood lkd.spindle.period = true)
    ∧ lkd.acceptance < (lkd.phaseError (ns 20000)).natAbs ∧ lkd.spindle.strayRun < 15 := by decide +kernel

theorem witness_missingEdge :
    ((seeded.advance (ns 50300)).windowClosed = true ∧ seeded.spindle.state = .acquiring)
    ∧ (lkd.advance (ns 50300)).windowClosed = true ∧ lkd.timingMode = 0
    ∧ lkd.spindle.gridLine + 1 < lkd.spindle.lines ∧ lkd.spindle.restart = none
    ∧ 1 ≤ lkd.pnum Par.holdoverCount 0 := by decide +kernel

/-- `lkd` with a change staged for line 2, or with the frame before as the present one. -/
def staged2 : State := lkd.modDist fun d => { d with staged := [⟨5, 2, false, some 9, [.codes 3 0 [1]], none⟩] }

def frame4 : State := lkd.modSpindle fun p => { p with frame := 4 }

def withDrift : State := ((base.setParam Par.driftSource 0 0 ⟨2, 0⟩).modAux 1 fun a => { a with
  driftDone := some (10000000, 10000000) }).modSpindle fun p => { p with driftAt := some 0 }

theorem witness_timeBase :
    (let s := lkd.modSpindle fun p => { p with ack := some (0, true) }
     s.spindle.ack = some (0, true) ∧ 0 + ns 100 ≤ ns 100 ∧ s.now ≤ ns 100 ∧ s.dev.fromSafe = true ∧ s.timingMode ≠ 2)
    ∧ (lkd.spindle.numbered = true ∧ (Store.read {} lkd.spindle.frames 4).closed = false
      ∧ (lkd.advance 5).frameDone 4 = true ∧ (lkd.recs.runs.all fun x => !x.frames.contains 4) = true
      ∧ Store.wf {} lkd.spindle.frames = true ∧ -4096 < serialDiff 4 lkd.spindle.frame)
    ∧ (clk.advance (2 ^ 60)).epochAt (max clk.now (2 ^ 60)) ≠ clk.clock.epoch
    ∧ (lkd.modSpindle fun p => { p with warm := true }).spindle.warm = true := by decide +kernel

theorem witness_lineBoundary :
    (lkd.spindle.state = .locked ∧ lkd.timingMode = 0 ∧ lkd.spindle.phase ≤ fine (max lkd.now 0)
      ∧ lkd.strobeLine (max lkd.now 0) = (lkd.spindle.frame, 3)
        ∧ (List.range 8).all (fun n => (lkd.port n).owed.isNone && (lkd.port n).asked.isNone) = true
      ∧ (lkd.cal.run.all fun r => r.reduced4 || !decide (r.kind = 4)) = true
      ∧ (List.range 16).all (fun b => (lkd.bank b).forced = lkd.reduced) = true ∧ lkd.dist.staged = [])
    ∧ (frame4.spindle.state = .locked ∧ frame4.timingMode = 0 ∧ frame4.strobeLine (max frame4.now 0) = (5, 3)
      ∧ 5 ≠ frame4.spindle.frame ∧ frame4.dist.staged = [])
    ∧ (staged2.strobeLine (max staged2.now 0) = (staged2.spindle.frame, 3) ∧ staged2.wf = true ∧ 2 ≤ 3
      ∧ staged2.dist.staged = [⟨5, 2, false, some 9, [.codes 3 0 [1]], none⟩]) := by decide +kernel

theorem witness_driftMeasurement :
    (lkd.spindle.driftAt = none ∧ lkd.popt Par.driftSource 0 = 0)
    ∧ (let s := lkd.modSpindle fun p => { p with ratios := List.replicate 15 7, driftAt := some 0 }
       0 + us 1000000 ≤ max s.now (us 1000000) ∧ s.popt Par.driftSource 0 = 0 ∧ s.spindle.state = .locked
        ∧ s.spindle.ratios = List.replicate 15 7)
    ∧ (withDrift.popt Par.driftSource 0 = 1 + 1 ∧ (withDrift.aux 1).driftDone = some (10000000, 10000000)
      ∧ withDrift.spindle.ratios = [] ∧ withDrift.wf = true) := by decide +kernel

/-- Port 3 in a state, its switch closed at 0, with one board in the chain. -/
def port3 (x : PortState) : State := base.modPort 3 fun p => { p with
  state := x, closedAt := 0, probeEnd := us 2000, seen := false, chain := 1 }

theorem witness_portStates :
    (port3 .probing).now ≤ us 100 ∧ (port3 .probing).wf = true
    ∧ (((port3 .probing).port 3).closedAt + us 100 ≤ us 100 ∧ us 100 < ((port3 .probing).port 3).probeEnd
      ∧ us 100 ≤ ((port3 .probing).port 3).closedAt + us 2000 ∧ 10 * (port3 .probing).pnum Par.presThreshold 3 ≤ 700)
    ∧ (((port3 .admitted).advance (us 3000)).switchClosed 3 = true
      ∧ ((port3 .admitted).advance (us 3000)).tripLevel 3 < 3400)
    ∧ (((port3 .admitted).port 3).state.closed = true ∧ us 1 + ns 1500 ≤ us 1 + ns 1500)
    ∧ (((port3 .removed).port 3).enteredAt + us 250000 ≤ us 250000)
    ∧ (((port3 .reading).port 3).seen = false ∧ ((port3 .reading).port 3).enteredAt + us 50000 ≤ us 50000)
    ∧ ((port3 .reading).port 3).enteredAt + us 2000000 ≤ us 2000000 := by decide +kernel

/-- A telemetry word of a type, board, index and payload, with its even parity. -/
def word18 (ty b ix v : Nat) : BitVec 18 :=
  let x := ty * 2 ^ 16 + b * 2 ^ 14 + ix * 2 ^ 10 + v * 2
  BitVec.ofNat 18 (x + popCount 18 x % 2)

theorem witness_portSymbols :
    (let s := (port3 .probing).modPort 3 fun p => { p with probeEnd := 0 }
     (s.port 3).state = .probing ∧ (s.port 3).probeEnd = 0 ∧ s.wf = true)
    ∧ (let s := clk.modPort 3 fun p => { p with state := .admitted }
       let a := s.advance 5
       (s.port 3).state.sends = true ∧ a.kaPlaced 3 (a.periodOf 5 + 1) = false ∧ (s.port 3).asked = none
         ∧ (s.port 3).recap = []
        ∧ (firstOpening (s.port 3).reserved (a.periodStart (a.periodOf 5 + 1)) (a.periodStart (a.periodOf 5 + 1) + kaPeriod)
            5).isSome = true)
    ∧ (let s := clk.modPort 3 fun p => { p with state := .admitted, reserved := [(7, .keepAlive 63)] }
       s.latch.set = false ∧ (s.port 3).reserved = [(7, .keepAlive 63)] ∧ (s.port 3).asked = none ∧ s.wf = true)
    ∧ (let s := clk.modPort 3 fun p => { p with
         state := .admitted, reserved := [(7, .sync 14 99)], syncFor := some (99, none), boards := [(0, { next := [(2, 7)] })] }
       (s.port 3).reserved = [(7, .sync 14 99)] ∧ (s.port 3).syncFor = some (99, none) ∧ (s.port 3).asked = none
         ∧ (s.port 3).recap = []
        ∧ Store.wf {} (s.port 3).boards = true ∧ (s.view 3 0).faults.getLsbD 4 = false ∧ s.wf = true) := by decide +kernel

/-- Port 3 with a head whose board 0 reports a scanner that is acquiring, after keep-alive 1. -/
def reporting : State := (((port3 .admitted).modPort 3 fun p => { p with
  sent := [(1, ns 100)], boards := [(0, { desc := some { scanner := true } })] }).modLamp 12 fun y => { y with
  powered := true, reports := true }).modSpindle fun p => { p with scanners := [(3, { state := 1 })] }

theorem witness_telemetry :
    (port3 .reading).wf = true ∧ ((port3 .reading).port 3).state.closed = true
    ∧ (let w := word18 0 1 0 300
       State.wordGood w = true ∧ bits w.toNat 16 2 = 0 ∧ bits w.toNat 10 4 = 0
        ∧ ((port3 .reading).view 3 (bits w.toNat 14 2)).desc = none ∧ Store.wf {} ((port3 .reading).port 3).boards = true)
    ∧ (let s := (port3 .reading).modLamp 15 fun y => { y with sending := true, up := [(us 80, 7)] }
       let w := s.descriptorWord 3 3
       State.wordGood w = true ∧ bits w.toNat 16 2 = 1 ∧ w.toNat.testBit 13 = true ∧ bits w.toNat 14 2 = 3 ∧ s.wf = true
        ∧ (s.lamp (4 * 3 + bits w.toNat 14 2)).sending = true
        ∧ (List.range 4).all (fun b => (s.lamp (4 * 3 + b)).up.all fun x => decide (us 100 ≤ x.1 + us 20)) = true)
    ∧ (let w := word18 2 0 1 300
       State.wordGood w = true ∧ bits w.toNat 16 2 = 2 ∧ reporting.reportsOn 3 = true ∧ (reporting.scanner 3).state = 1
        ∧ (reporting.scanner 3).last = none ∧ (reporting.advance (us 1)).scannerFirst 3 w = true
          ∧ Store.wf {} reporting.spindle.scanners = true ∧ reporting.wf = true
        ∧ ((reporting.port 3).sent.filter fun y => y.1 = bits w.toNat 10 6 && decide (us 1 ≤ y.2 + ns 65536)).getLast?
          = some (1, ns 100))
    ∧ (let w := word18 2 1 8 300 ^^^ 1
       State.wordGood w = false ∧ bits w.toNat 16 2 = 2
         ∧ ((port3 .reading).advance (us 1)).scannerFirst 3 w = true) := by decide +kernel

/-- Board 1 of port 3 powered, with staged values. -/
def pb : State := base.modLamp 13 fun y => { y with
  powered := true, stagedEnables := some 7, stagedBrightness := some 5, checkErrors := 3, lastKeepAlive := 0, shares := 15 }

def pbOn : State := pb.modLamp 13 fun y => { y with enabled := true }

theorem witness_boardMessages :
    pb.now ≤ 5 ∧ pb.wf = true ∧ (pb.lamp (4 * 3 + 1)).powered = true ∧ Store.wf none (pb.lamp 13).stagedCodes = true
    ∧ State.tooHot (pb.lamp 13) = false ∧ State.syncDue 100 63 (pb.lamp 13).comp ≤ us 1
    ∧ ((pbOn.lamp 13).powered = true ∧ (pbOn.lamp 13).enabled = true ∧ (pbOn.lamp 13).enables.getLsbD 15 = true)
    ∧ (pb.lamp 13).enabled = false ∧ (pb.lamp 13).shareFail = false
    ∧ (pbOn.lamp 13).lastKeepAlive + ns 4000 ≤ ns 4000 ∧ pbOn.wf = true := by decide +kernel

theorem witness_boardConditions :
    ((pbOn.lamp 13).tempAt.all fun x => decide (x + us 900 ≤ us 900)) = true
    ∧ (((pbOn.boardOwn 3 1).derateStop : Int) ≤ ((pbOn.boardOwn 3 1).derateStop + 80 : Nat) - 80)
    ∧ ([5, 1000, 3] : List Nat).any (fun h => (State.cellOf h).isNone) = true
    ∧ (let c := (State.crc16 [2, 4, 0]).toNat
       State.shareGood [2, 4, 0, BitVec.ofNat 8 (c / 256), BitVec.ofNat 8 c] = true)
    ∧ (let s := base.modPort 3 fun p => { p with
         state := .admitted, chain := 2, boards := [(1, { desc := some { derateStart := 80, derateStop := 90 } })] }
       1 < (s.port 3).chain ∧ Store.wf {} (s.port 3).boards = true ∧ (s.port 3).state.closed = true
        ∧ (s.view 3 1).desc.isSome = true ∧ (s.view 3 1).tempAt + us 10000 ≤ us 10000 ∧ s.wf = true) := by decide +kernel

theorem witness_descriptorCheck :
    let s := base.modPort 3 fun p => { p with
      state := .reading, chain := 1, boards := [(0, { bytes := List.replicate 21504 1 })] }
    0 < (s.port 3).chain ∧ Store.wf {} (s.port 3).boards = true ∧ (s.port 3).state = .reading
      ∧ (s.view 3 0).verified = false ∧ 4 ≤ (s.view 3 0).bytes.length
      ∧ State.num (s.view 3 0).bytes 2 2 + State.sigLength ≤ (s.view 3 0).bytes.length
      ∧ (List.range 0).all (fun k => (s.view 3 k).verified) = true ∧ s.wf = true := by decide +kernel

/-- The device in RANGING with its rails good. -/
def rng : State := (State.reset.modDev fun _ => .ranging).modPower fun p => { p with powerGood := true }

/-- Flyer 3 runs, with a microcode word at its program counter. -/
def flyerAt (w : Nat) : State := rng.modFlyer 3 fun f => { f with
  state := .running, pc := 9, code := [(9, BitVec.ofNat 32 w)], line := 1000, frame := 2 ^ 32 - 1, loops := [(2, 5)] }

theorem witness_flyerMoves :
    (flyerAt 0).wf = true ∧ ((flyerAt 0).flyer 3).pc < 2047 ∧ 0 < (flyerAt 0).spindle.lines
    ∧ (List.range 10).all (fun o => (flyerAt (o * 2 ^ 28 + 40)).flyerWord 3 = some (o * 2 ^ 28 + 40)
      && bits (o * 2 ^ 28 + 40) 28 4 = o && bits (o * 2 ^ 28 + 40) 0 24 = 40) = true
    ∧ ((flyerAt 0).flyer 3).loops = [(2, 5)] := by decide +kernel

theorem witness_flyerFaults :
    (let v := 4 * 2 ^ 28 + 1024
     (flyerAt v).wf = true ∧ (flyerAt v).flyerWord 3 = some v ∧ bits v 28 4 = 4 ∧ bits v 0 16 = (1024#16).toNat
      ∧ (flyerAt v).spindle.lines ≤ (1024#16).toNat)
    ∧ (let v := 6 * 2 ^ 28 + 3
       let s := (flyerAt v).modFlyer 3 fun f => { f with loops := List.replicate 4 (2, 5) }
       s.flyerWord 3 = some v ∧ bits v 28 4 = 6 ∧ bits v 0 24 = (3#24).toNat ∧ 4 ≤ (s.flyer 3).loops.length)
    ∧ (let v := 7 * 2 ^ 28
       let s := (flyerAt v).modFlyer 3 fun f => { f with loops := [] }
       s.flyerWord 3 = some v ∧ bits v 28 4 = 7 ∧ (s.flyer 3).loops = [])
    ∧ (let v := 2 ^ 28 + 3072
       (flyerAt v).flyerWord 3 = some v ∧ bits v 28 4 = 1 ∧ bits v 0 12 = (3072#12).toNat) := by decide +kernel

theorem witness_flyerShots :
    (let v := 2 ^ 28 + 3071
     (flyerAt v).flyerWord 3 = some v ∧ bits v 28 4 = 1 ∧ bits v 0 12 = (3071#12).toNat)
    ∧ (let v := 2 * 2 ^ 28 + 3070 + 2 * 4096
       (flyerAt v).flyerWord 3 = some v ∧ bits v 28 4 = 2 ∧ bits v 0 12 = (3070#12).toNat
        ∧ bits v 12 12 = (2#12).toNat ∧ 3070 + 2 ≤ 3072)
    ∧ (let s := (lkd.modFlyer 3 fun f => { f with state := .waiting, placed := true, frame := 5, line := 3 })
       (s.flyer 3).state = .waiting ∧ (s.flyer 3).placed = true ∧ s.spindle.hasTime = true
        ∧ s.plannedInstant ⟨(s.flyer 3).frame, (s.flyer 3).line, 0⟩ ≤ max s.now 0 + ns 8192) := by decide +kernel

def board : Descriptor :=
  { present := List.replicate 16 true, wavelength := List.replicate 16 1, elementLimits := List.replicate 16 [1000, 1000, 1000]
    apertureLimits := List.replicate 8 [1000, 1000, 1000], windows := [4, 4, 4], energy := [List.replicate 17 5]
    table := List.replicate 16 0, apertureOf := List.replicate 16 0 }

/-- An admitted head on port 1 whose limits are loaded, and line time tracked from instant 0 with lines of 1 us. -/
def admitted : State :=
  ((rng.modPort 1 fun p => { p with
      state := .admitted, limits := true, chain := 3, head := 7, latencyHead := 7
      boards := Store.write {} (Store.write {} p.boards 0 { desc := some board, verified := true }) 2
        { desc := some board, verified := true } }).modSpindle fun p => { p with
      state := .locked, phase := 0, period := us 1 * 4096, numbered := true }).modCal fun c => { c with
      tables := { c.tables with latency := Store.write none [] 101 (some 64) } }

/-- A shot of element 101, with a fixed code and a window of 100. -/
def shot : Shot := ⟨(101 * 2 ^ 32 + 7 * 2 ^ 43 + 100 * 2 ^ 70 : Nat), 0, 2⟩

def committing (x : Shot) : State := admitted.modFlyer 3 fun f => { f with
  state := .running, issued := [x, ⟨0, 9, 0⟩], codes := [(7, 0x80000)], frame := 0 }

theorem witness_commit :
    (let s := committing shot
     let a := s.advance (us 1)
     let e := a.entryOf 3 shot
     s.wf = true ∧ (List.range 8).all (fun n => (s.port n).asked.isNone) = true
       ∧ (s.flyer 3).issued = [shot, ⟨0, 9, 0⟩] ∧ a.mayCommit 3 = true ∧ (a.readyAt 3).isSome = true
      ∧ a.firstChecks e shot.desc (max ((a.readyAt 3).getD 0) (us 1 - ns 8)) = none ∧ descField shot.desc 41 2 = 0
      ∧ codeValid ((Store.read 0 (s.flyer 3).codes (descField shot.desc 43 8)).setWidth 20) = true ∧ a.roomFor e = none)
    ∧ (let s := (committing shot).modPort 1 fun p => { p with state := .verified }
       let a := s.advance (us 1)
       let e := a.entryOf 3 shot
       a.mayCommit 3 = true ∧ (a.readyAt 3).isSome = true ∧ Store.wf 0 (s.flyer 3).counters = true
        ∧ (a.firstChecks e shot.desc (max ((a.readyAt 3).getD 0) (us 1 - ns 8))).isSome = true) := by decide +kernel

/-- Entry 5 in a state: a shot of element 101 planned at 50 us. -/
def entry5 (x : EntState) : State := admitted.modEntry 5 fun e => { e with
  state := x, element := 101, planned := us 50, symbolAt := us 49, window := 100, windows := [17], bank := 2, code := 0x80000 }

theorem witness_whorl :
    (let s := entry5 .committed
     let a := s.advance (us 48)
     s.wf = true ∧ (s.entry 5).state = .committed ∧ s.inhibited = false ∧ s.gateOpen (elemPort (s.entry 5).element) = true
      ∧ s.limitsLoaded (s.entry 5).element = true
      ∧ a.overLimit (s.entry 5).element (s.entry 5).planned (a.chargeOf (s.entry 5)) = [])
    ∧ ((entry5 .committed).modWhorl fun w => { w with inhibit := 1 }).inhibited = true
    ∧ (let s := (entry5 .committed).modPort 1 fun p => { p with limits := false }
       s.inhibited = false ∧ s.gateOpen 1 = false)
    ∧ (let s := (entry5 .committed).modEntry 5 fun e => { e with element := 81 }
       s.inhibited = false ∧ s.gateOpen 1 = true ∧ s.limitsLoaded 81 = false)
    ∧ (let s := (entry5 .committed).modPort 1 fun p => { p with
         boards := Store.write {} p.boards 2 { desc := some { board with energy := List.replicate 6 (List.replicate 17 5000) }, verified := true } }
       let a := s.advance (us 48)
       s.inhibited = false ∧ s.gateOpen 1 = true ∧ s.limitsLoaded 101 = true
        ∧ a.overLimit 101 (s.entry 5).planned (a.chargeOf (s.entry 5)) ≠ []) := by decide +kernel

theorem witness_fireSymbol :
    ((entry5 .passed).wf = true ∧ ((entry5 .passed).entry 5).state = .passed ∧ ((entry5 .passed).entry 5).symbolAt ≤ us 49
      ∧ (entry5 .passed).gateOpen 1 = true ∧ (entry5 .passed).latch.set = false)
    ∧ (let s := (entry5 .passed).modWhorl fun w => { w with inhibit := 1 }
       s.gateOpen 1 = false ∧ (s.port 1).state = .admitted) := by decide +kernel

theorem witness_windows :
    (let s := entry5 .fired
     s.wf = true ∧ (s.entry 5).opened = false ∧ (s.entry 5).planned ≤ us 50 ∧ (s.entry 5).windows = [17])
    ∧ (let s := (entry5 .fired).modEntry 5 fun e => { e with opened := true }
       (s.entry 5).opened = true ∧ (s.entry 5).planned + ns (8 * (s.entry 5).window) ≤ us 50 + ns 800)
    ∧ (let s := (entry5 .retired).modEntry 5 fun e => { e with unfinal := [17] }
       17 ∈ (s.entry 5).unfinal ∧ (s.entry 5).planned + ns (8 * (s.entry 5).window + 64) ≤ us 50 + ns 864
        ∧ (s.entry 5).cal = false)
    ∧ ((entry5 .retired).entry 5).unfinal = [] := by decide +kernel

/-- Channel 3 with its front end changed. -/
def chan3 (g : FrontEnd → FrontEnd) : State := rng.modChan 3 fun c => { c with fe := g c.fe }

theorem witness_clampAndGates :
    ((chan3 fun f => { f with range := 2 }).autoRanging 3 = true ∧ (chan3 fun f => { f with range := 2 }).wf = true)
    ∧ ((chan3 fun f => { f with clamping := true }).chan 3).fe.clamping = true
    ∧ (let s := chan3 fun f => { f with fallback := true }
       s.modeOf 3 = 2 ∧ (s.chan 3).fe.gate = none ∧ (s.chan 3).fe.lastGateEnd + ns 8 ≤ us 1
        ∧ (s.advance (us 1)).windowOpening 3 = false)
    ∧ (let s := chan3 fun f => { f with gate := some ⟨some 4, us 1⟩ }
       (s.chan 3).fe.gate = some ⟨some 4, us 1⟩ ∧ (s.entry 4).cal = false ∧ s.declared 3 = false
        ∧ ((s.modEntry 4 fun e => { e with cal := true }).entry 4).cal = true)
    ∧ ((chan3 fun f => { f with gate := some ⟨none, us 1⟩ }).chan 3).fe.gate = some ⟨none, us 1⟩ := by decide +kernel

theorem witness_ranges :
    let s := chan3 fun f => { f with range := 1, down := 3, countFrom := us 1 }
    s.wf = true ∧ s.modeOf 3 = 0 ∧ s.autoRanging 3 = true ∧ s.popt Par.autoFallback 3 = 0 ∧ (s.chan 3).fe.rescuedAt = none
      ∧ (s.advance (us 1 + ns 8192)).atBoundary 3 = true ∧ 0 < (s.chan 3).fe.range
      ∧ (s.chan 3).fe.clampInPeriod = false ∧ (s.chan 3).fe.range < 3 ∧ (s.chan 3).fe.down + 1 < s.pnum Par.downCount 3
      ∧ s.pnum Par.downCount 3 ≤ s.pnum Par.downCount 3 - 1 + 1 := by decide +kernel

theorem witness_bias :
    (let s := rng.modBank 2 fun x => { x with bias := { x.bias with moving := true, target := 5000, gateOn := true } }
     s.wf = true ∧ (s.bank 2).bias.moving = true
      ∧ [4995, 4995, 5000, 5000, 5000, 5000, 5005, 5005].all (s.biasNear 2) = true ∧ s.biasNear 2 5006 = false
      ∧ 102 * s.pnum Par.ceiling 2 < 100 * 25501 ∧ 0 + us 1 ≤ us 1 ∧ Store.wf none s.dist.params = true
      ∧ (s.bank 2).bias.senseOpen = false ∧ 500 < ((5501 : Int) - (5000 : Nat)).natAbs) := by decide +kernel

theorem witness_converter :
    (let s := (chan3 fun f => { f with oiFails := 14, oiWindows := 256 }).modCal fun c => { c with
       tables := { c.tables with floors := Store.write none [] 12 (some 9), ratios := Store.write none [] 12 (some 80) } }
     s.wf = true ∧ s.openInputRuns 3 = true ∧ (s.advance (us 1)).subBlockEnds 3 = true ∧ 8 * 2 ≤ 16
       ∧ s.rmsFails 3 [(16, 0), (0, 0), (0, 0), (0, 0)] = true
      ∧ (s.chan 3).fe.oiFails = 14 ∧ (s.chan 3).fe.oiOpen = false)
    ∧ (rng.modPllLocked fun _ => true).pllLocked = true ∧ (rng.modPllLocked fun _ => false).pllLocked = false
    ∧ (let s := rng.setParam Par.tracking 0 3 ⟨1, 0⟩
       s.wf = true ∧ s.tracks 3 = true
        ∧ (s.advance (2 ^ 20 * sample)).blockDone 3 (List.replicate 8 (2 ^ 17)) = true
        ∧ Store.wf (0, 0, 0) (s.chan 3).fe.inter = true) := by decide +kernel

theorem witness_reference :
    (let s := State.reset.modDev fun _ => .boot
     s.dev = .boot ∧ s.boot.refSeen = false)
    ∧ (let s := rng.modSpindle fun p => { p with refAccepted := true }
       s.spindle.refAccepted = true ∧ s.whorl.faults.getLsbD 0 = false ∧ 500000 < (-500001 : Int).natAbs
        ∧ s.whorl.refAt + us 10000 ≤ max s.now (s.whorl.refAt + us 10000))
    ∧ (let s := rng.modSpindle fun p => { p with scanners := [(3, { state := 2, period := 100, last := some 1000, missing := 3 })] }
       let m := Store.read {} s.spindle.scanners 3
       Store.wf {} s.spindle.scanners = true ∧ m.state = 2 ∧ m.period ≠ 0 ∧ m.last = some 1000
        ∧ 5 * m.period ≤ 4 * (1125 - 1000)) := by decide +kernel

/-- The housekeeping converter running, with the timer and the pulse input on. -/
def hk (g : Housekeeping → Housekeeping) : State :=
  (((rng.setParam Par.hkTimer 0 0 ⟨1, 0⟩).setParam Par.hkPulse 0 0 ⟨1, 0⟩).modHk fun k => { k with running := true }).modHk g

theorem witness_housekeeping :
    ((hk id).hk.running = true ∧ (hk id).popt Par.hkTimer 0 ≠ 0 ∧ (hk id).hk.timerDue = none
      ∧ ((hk id).advance (us (max 1 ((hk id).pnum Par.hkPeriod 0)))).hkTimerDue = true
      ∧ (hk id).popt Par.hkPulse 0 ≠ 0 ∧ (hk id).popt Par.hkPolarity 0 = 0
        ∧ 10 * (hk id).pnum Par.hkPulseMin 0 ≤ 2 * (1001 / 2)
      ∧ 2 * (1001 / 2) ≤ 10 * (hk id).pnum Par.hkPulseMax 0 ∧ (hk id).hk.pulseDue = none)
    ∧ (let s := hk fun k => { k with timerDue := some 5, pulseDue := some 5 }
       s.hk.timerDue.isSome = true ∧ s.hk.pulseDue.isSome = true ∧ s.hk.run = none ∧ s.hk.conv = none
        ∧ 1 ≤ s.pnum Par.hkLength 0)
    ∧ (let s := hk fun k => { k with run := some 0, seq := [4, 5], conv := some ⟨4, 0, 0, 0, true, 7⟩ }
       s.hk.queue.length < 256 ∧ s.cal.run = none ∧ s.hk.run = some 0 ∧ 7 + us 1 ≤ 7 + us 1)
    ∧ (let s := hk fun k => { k with run := some 0, seq := [4, 5], conv := some ⟨4, 0, 0, 0, false, 7⟩ }
       (s.hk.conv.map fun c => (c.source, c.settling)) = some (0, false))
    ∧ (hk fun k => { k with settleAt := 5 }).hk.settleAt ≤ 5
    ∧ (let s := (hk id).setParam Par.hkReference 0 0 ⟨1, 0⟩
       s.popt Par.hkReference 0 = 1 ∧ (s.hk.hkref < 950 ∨ 3400 < s.hk.hkref)) := by decide +kernel

def chanOf (g : Channel → Channel) : State := (rng.modChan 3 fun c => { c with cmp0 := { armed := true } }).modChan 3 g

def inEvent : State := chanOf fun c => { c with
  cmp0 := { inEvent := true, above := true, level := 80, leadOut := us 1, lead := us 1 } }

theorem witness_leadingCrossing :
    let s := (chanOf id).advance (us 1)
    let ys := s.outs 3 s.now [200, 16, 16]
    (chanOf id).wf = true ∧ s.modeOf 3 = 0 ∧ 2 ≤ ys.length ∧ (s.cmp 3 0).inEvent = false ∧ s.cmpArmed 3 0 ys = true
      ∧ (nth {} ys 1).y < s.levelOf 3 0 ∧ (s.levelOf 3 0 : Int) ≤ (nth {} ys 0).y := by decide +kernel

theorem witness_trailingCrossing :
    (let s := inEvent.advance (us 2)
     let ys := s.outs 3 s.now [16, 200, 200]
     2 ≤ ys.length ∧ (s.cmp 3 0).inEvent = true ∧ (s.cmp 3 0).above = true ∧ (nth {} ys 0).y < (s.cmp 3 0).level
      ∧ ((s.cmp 3 0).level : Int) ≤ (nth {} ys 1).y ∧ s.popt Par.plySource 3 = 0 ∧ (s.chan 3).evBusy ≤ s.now)
    ∧ (let s := inEvent.advance (us 1 + 1030 * sample)
       1025 ≤ ((s.outs 3 s.now (List.replicate 1030 200)).filter fun o => (s.cmp 3 0).leadOut < o.at_).length) := by
  decide +kernel

theorem witness_readings :
    (let s := (chanOf id).setParam Par.detWindow 0 3 ⟨1, 125⟩
     s.modeOf 3 = 0 ∧ (s.advance (us 2)).detectorEnd 3 = some (us 1))
    ∧ ((chanOf id).modeOf 3 = 0 ∧ ((chanOf id).chan 3).fallsAt ≤ us 1 ∧ ((chanOf id).chan 3).lastLead = none
      ∧ ((chanOf id).chan 3).stBusy ≤ us 1 ∧ (chanOf id).runs = [])
    ∧ (us 1 < ((chanOf fun c => { c with fallsAt := us 2 }).chan 3).fallsAt)
    ∧ (((chanOf fun c => { c with forming := [{ lead := us 1, tot := 255 }] }).chan 3).forming = [{ lead := us 1, tot := 255 }]
      ∧ us 1 + max (ns 24) (1024 * 255) ≤ us 2)
    ∧ (((chanOf id).chan 3).exchangedAt + us 900000 ≤ us 900000 ∧ (List.replicate 256 4096).length = 256
      ∧ (List.replicate 256 4096).sum = 2 ^ 20) := by decide +kernel

/-- Entry 5 with channel 3 as its reference channel, element 101's optical path delay in use. -/
def refShot : State := (rng.modEntry 5 fun e => { e with
  state := .fired, element := 101, planned := us 50, symbolAt := us 49, window := 100, windows := [17], bank := 2, refCh := 3
  refOn := true, refDecl := true }).modCal fun c => { c with
  tables := { c.tables with path := Store.write none [] 101 (some 0) } }

theorem witness_pickoff :
    ((refShot.entry 5).pickDecided = false ∧ refShot.pickDecideAt (refShot.entry 5) ≤ us 51 ∧ (refShot.entry 5).refCh = 3
      ∧ (refShot.chan 3).pickoffs = [] ∧ refShot.wf = true)
    ∧ (let z : Int × Nat := (16 * us 50 + 256 * 5, 1)
       let s := refShot.modChan 3 fun c => { c with pickoffs := [z] }
       (s.chan 3).pickoffs = [z] ∧ (s.advance (us 51)).pickMine 3 5 (s.entry 5) z = true)
    ∧ (let s := chanOf fun c => { c with events := [{}] }
       (s.chan 3).events = [{}] ∧ (s.chan 3).forming = []) := by decide +kernel

theorem witness_cluster :
    let w : Slot := { entry := 5, element := 101, start := us 50, decided := true, openAt := us 50, closeAt := us 51
                      pulses := [{ stop := 16 * us 50 + 65536 * 40 }] }
    let s := refShot.modChan 3 fun c => { c with slots := [w] }
    (s.chan 3).slots = [w] ∧ w.offs = [0] ∧ w.k = 1 ∧ w.noHyp = false ∧ w.kept = [] ∧ w.rest = [] ∧ w.passed = 0
      ∧ 0 < w.maxReturns ∧ (s.entry w.entry).cal = false ∧ s.runs = []
      ∧ 12 * (16 * us 50 + 65536 * 40 : Int) + (12 * (8192 * w.tol + 16 * s.allowance 3) : Nat) ≤ (192 * us 51 : Nat)
      ∧ (match flightOf (12 * (16 * us 50 + 65536 * 40 - 16 * w.start)) 3072 with
        | .flight _ _ _ => true
        | _ => false) = true := by decide +kernel

def running : State :=
  (rng.modRuns fun _ => [{ handle := 4097, kind := .tof 0 none 0, order := 4, deadline := 77, open_ := some 0 }]).modDist
    fun d => { d with live := [⟨4097, 0, 0x801, .link, 0, false, false⟩] }

theorem witness_runs :
    (running.runs.map (fun r => r.open_) = [some 0] ∧ 0 + 16 * (2 ^ 24 - 1) < us 100_000_000)
    ∧ (running.runs.map (fun r => r.deadline) = [77] ∧ (running.liveOf 4097).isSome = true)
    ∧ (let s := rng.setParam Par.prescaler 0 1 ⟨1, 0⟩
       s.popt Par.prescaler 1 ≠ 0 ∧ (s.aux 1).prescale < 15 ∧ s.runs = [] ∧ s.wf = true)
    ∧ (let s := rng.modAux 1 fun a => { a with gate := some ⟨4097, 0, us 1, false⟩ }
       s.popt Par.prescaler 1 = 0 ∧ s.popt Par.driftSource 0 ≠ 1 + 1 ∧ (s.aux 1).gate = some ⟨4097, 0, us 1, false⟩
        ∧ 0 ≤ s.tdcInstant (ns 500) ∧ s.tdcInstant (ns 500) < us 1 ∧ (s.aux 1).first = none ∧ us 1 ≠ 0
        ∧ (s.aux 1).inGate < 2)
    ∧ (let s := running.modAux 1 fun a => { a with gate := some ⟨4097, 0, us 1, false⟩ }
       (s.aux 1).gate.map (fun g => g.closes) = some (us 1) ∧ (s.aux 1).inGate < 2 ∧ (s.liveOf 4097).isSome = true) := by
  decide +kernel

def bob (g : BobSlot → BobSlot) : State :=
  (rng.modEntry 5 fun e => { e with state := .fired, planned := us 50 }).modBob 3 1 fun y => g { y with
    params := some { (State.bobParams {}) with output := 0, target := 10 } }

theorem witness_bobbin :
    (let s := bob fun y => { y with state := .collecting, inProgress := [(5, none)] }
     s.wf = true ∧ Store.wf {} (s.chan 3).bobs = true ∧ (s.bob 3 1).inProgress = [(5, none)]
      ∧ State.bobLong (s.bob 3 1) = false
      ∧ (s.advance (us 51)).bobCause 3 1 (((s.advance (us 51)).bobAlign (s.entry 5)).1
          + sample * (State.bobParams (s.bob 3 1)).offset) (codeOffsets (s.entry 5).code) = none)
    ∧ (let s := bob fun y => { y with spilling := true }
       (s.bob 3 1).spilling = true ∧ s.requested (State.spillOf 3 1) = false)
    ∧ (let s := bob fun y => { y with state := .finishing, all := { count := 7 }, own := { count := 7 }, bins := [(400, 900)] }
       (s.bob 3 1).passDone = false ∧ (s.bob 3 1).inProgress = [] ∧ (s.bob 3 1).spilling = false
        ∧ State.bobLong (s.bob 3 1) = false ∧ (State.bobParams (s.bob 3 1)).output = 0)
    ∧ (let s := bob fun y => { y with state := .finishing, passDone := true }
       (s.bob 3 1).passDone = true ∧ (State.bobParams (s.bob 3 1)).continuous = false
        ∧ ((s.chan 3).card.inbox.any fun r => r.histogram) = false ∧ s.recs.room .class2 6272 = true) := by decide +kernel

theorem witness_carding :
    (let r : Ret := { cls := 2, dropped := true }
     let s := rng.modChan 3 fun c => { c with card := { c.card with inbox := [r] } }
     s.wf = true ∧ (s.chan 3).card.inbox = [r] ∧ r.cls < 4)
    ∧ (let s := (rng.modHopHold fun _ => 8).modClock fun k => { k with lockedAt := some 0 }
       s.hopHold ≠ 0 ∧ s.wf = true ∧ (s.advance (ns (2 ^ 20))).atPeriodEnd = true) := by decide +kernel

def untilDone : CaptureParams := { (State.groupParams {}) with channels := 8, pre := 8, post := 16, segments := 2 }

/-- Group 3 with all channels in service. -/
def grp (g : Group → Group) : State := rng.modGroup 3 fun y => g { y with
  params := some untilDone, live := List.range 16, capacity := 500 }

theorem witness_quietAndHeld :
    (let s := rng.setParam Par.trigType 0 3 ⟨4, 0⟩
     s.wf = true ∧ s.modeOf 3 = 0 ∧ s.popt Par.trigType 3 = 4 ∧ s.sense 3 1 = false ∧ s.popt Par.windowGate 3 = 0
      ∧ s.popt Par.validGate 3 = 0 ∧ (s.cmp 3 (s.popt Par.trigCmp 3)).inEvent = false ∧ (s.chan 3).trig.quietDone = false
      ∧ max (s.cmp 3 (s.popt Par.trigCmp 3)).lastTrail (s.chan 3).trig.appliedAt + ns (8 * s.pnum Par.trigTimeout 3)
        ≤ us 100)
    ∧ (let s := ((rng.setParam Par.trigType 0 3 ⟨4, 0⟩).setParam Par.trigSense 1 3 ⟨3, 0⟩).modChan 3 fun c => { c with
         cmp0 := { above := true } }
       s.sense 3 1 = true ∧ (s.cmp 3 (s.popt Par.trigCmp 3)).above = true ∧ (s.chan 3).trig.heldDone = false
        ∧ s.trigCurrent 3 (s.popt Par.trigCmp 3) = true
        ∧ (s.cmp 3 (s.popt Par.trigCmp 3)).lead + ns (8 * s.pnum Par.trigTimeout 3) ≤ us 100) := by decide +kernel

theorem witness_groups :
    (let s := grp fun y => { y with armPending := true }
     s.wf = true ∧ (s.group 3).armPending = true ∧ (s.group 3).closing = none)
    ∧ (let s := grp fun y => { y with state := .filling }
       (s.group 3).ringAt + wordTime * ((State.groupParams (s.group 3)).pre / 8) ≤ ns 8)
    ∧ (let s := grp fun y => { y with state := .waiting, seen := [(us 1, 4, 50)] }
       (s.group 3).seen = [(us 1, 4, 50)] ∧ (s.group 3).ringAt ≤ us 1 ∧ (s.group 3).closing = none
        ∧ (List.range 16).all (fun b => (s.bank b).fresh = []) = true)
    ∧ (let s := (grp fun y => { y with
         state := .waiting, params := some { untilDone with scheduled := some (0, 2, 0) } }).modSpindle fun p => { p with
         state := .locked, phase := 0, period := us 1 * 4096, numbered := true }
       (State.groupParams (s.group 3)).scheduled = some (0, 2, 0) ∧ (s.group 3).schedDone = false ∧ s.spindle.hasTime = true
        ∧ s.plannedInstant ⟨0, 2, 0⟩ ≤ us 2 ∧ (s.group 3).ringAt ≤ s.plannedInstant ⟨0, 2, 0⟩)
    ∧ (let a : Accepted := ⟨us 1, 4, 50, false, us 1, {}, 0, 0, 1, 0, 0⟩
       let s := grp fun y => { y with state := .post, trigger := some a, postWords := 2 }
       (s.group 3).trigger = some a ∧ (s.group 3).closing = none
        ∧ (s.group 3).ringAt + wordTime * ((a.instant - (s.group 3).ringAt) / wordTime + (s.group 3).postWords) ≤ us 2)
    ∧ (let s := grp fun y => { y with state := .rearm, made := 2 }
       (State.groupParams (s.group 3)).wrap = false ∧ (State.groupParams (s.group 3)).segments ≤ (s.group 3).made
        ∧ (s.group 3).closing = none) := by decide +kernel

theorem witness_captures :
    (let s := grp fun y => { y with state := .waiting, closing := some ⟨us 1, none, 8⟩ }
     s.wf = true ∧ (s.group 3).closing.isSome = true ∧ (s.group 3).state = .waiting)
    ∧ (let s := (grp fun y => { y with state := .waiting }).modDram fun d => { d with
         chans := (List.range 16).map fun i => (i, { mapped := some (0, 0, 0) }) }
       (s.group 3).state.writes = true ∧ (List.range 16).all (fun k => k ≤ 3 || !(s.group k).state.writes) = true
        ∧ s.captureGuarantee < s.armedLoad)
    ∧ (let b : WaveBlock := ⟨0, 3, 0, 16, true, true⟩
       let y := fun y : Group => { y with state := .done, captures := [{ segment := 0, words := 16 }] }
       let got := ((grp y).blockBursts ((grp y).group 3) b).map fun n => (n, ([] : List Byte))
       let s := grp fun z => { y z with read := some ⟨4097, [b], got⟩ }
       (s.group 3).read = some ⟨4097, [b], got⟩ ∧ got ≠ [] ∧ s.recs.room .class2 (State.blockLen b) = true
        ∧ (s.blockBursts (s.group 3) b).all (fun n => got.any fun x => x.1 = n) = true) := by decide +kernel

/-- A class-2 write of bytes 0 and 1 of burst 0, and one read of class 4. -/
def write2 : DramReq := ⟨2, true, 0, 3, [7, 8], .capture 3, 0, false⟩

def waits2 (k : Nat) : State := rng.modDram fun d => { d with staging := [write2], banks := [(5, { postponed := k })] }

theorem witness_dram :
    (let s := rng.modDram fun d => { d with banks := [(16 * 2 + 5, { postponed := 7, row := some 3 })] }
     s.wf = true ∧ Store.wf {} s.dram.chans = true ∧ s.refreshes 2 = true ∧ s.capturesWait 2 = false
      ∧ (s.dramBank (2 * 16 + 5)).dueAt + s.refreshInterval ≤ s.refreshInterval)
    ∧ ((waits2 7).capturesWait 0 = true ∧ ((waits2 7).dramBank 5).postponed < 8 ∧ (waits2 7).refreshes 0 = true)
    ∧ ((waits2 8).capturesWait 0 = true ∧ 8 ≤ ((waits2 8).dramBank 5).postponed ∧ write2.write = true)
    ∧ (let s := rng.modDram fun d => { d with doubled := true, coolSince := some 5 }
       s.dram.doubled = true ∧ s.blindThermal = false ∧ s.dram.coolSince.isSome = true ∧ 5 + us 10000 ≤ us 10001)
    ∧ (let s := rng.modDram fun d => { d with banks := [(5, { row := some 3, lastAt := us 1 })] }
       (s.dramBank 5).queue = [] ∧ (s.dramBank 5).lastAt + us 1 ≤ us 2)
    ∧ (let s := rng.modDram fun d => { d with pass := some ⟨none, false, [], 1, some 0⟩ }
       (List.range 16).all (fun i => !(s.dramCh i).training) = true ∧ s.nextTrain ⟨none, false, [], 1, some 0⟩ = some 1
        ∧ 0 + us 100 ≤ us 100 ∧ s.capturesWait 0 = false)
    ∧ (let s := rng.modDram fun d => { d with pass := some ⟨none, false, [], 0, none⟩, chans := [(14, { training := true })] }
       (s.dramCh 14).training = true ∧ (List.range 14).all (fun i => !(s.dramCh i).training) = true
        ∧ (s.dramCh 14).mapped = none ∧ s.dramAbsent = false ∧ (s.dramCh 15).mapped = none
        ∧ failingLane (List.replicate 8 ⟨0, 24, 0, 24⟩) = none ∧ Store.wf {} s.dram.chans = true) := by decide +kernel

theorem witness_losses :
    let x : LossRun := ⟨3, 4, 5, 1, false, 0, 7, 9, [9], true⟩
    let s := rng.modRecs fun r => { r with runs := [x] }
    rng.recs.heldOpen 3 = false ∧ s.recs.runs.find? (fun y => y.closed) = some x
      ∧ s.recs.room .losses 32 = true := by decide +kernel

/-- The device in BOOT with its reference accepted. -/
def boot (g : Boot → Boot) : State :=
  ((State.reset.modDev fun _ => .boot).modSpindle fun p => { p with refAccepted := true }).modBoot g

theorem witness_boot :
    ((boot id).dev = .boot ∧ (boot id).boot.failed = false ∧ (boot id).spindle.refAccepted = true
      ∧ (boot id).boot.plls.getLsbD 0 = false ∧ (boot id).clock.lockedAt = none)
    ∧ (boot fun b => { b with stage := 2 }).boot.failed = false
    ∧ (let s := boot fun b => { b with stage := 4, plls := 2, source := 2 }
       s.boot.plls.getLsbD 1 = true ∧ s.boot.source ≤ 2 ∧ Store.wf {} s.dram.chans = true)
    ∧ (boot fun b => { b with stage := 5 }).boot.source ≤ 1
    ∧ (boot fun b => { b with stage := 7, slow := true }).boot.dramTested = false
    ∧ (boot fun b => { b with stage := 8, slow := true, trained := true }).boot.dramTested = false
    ∧ (boot fun b => { b with stage := 6 }).boot.stageAt + us 60000000 ≤ us 60000000
    ∧ (boot fun b => { b with stage := 6 }).side.loadLen ≤ imageLimit := by decide +kernel

/-- The link in a state and stage, the PLLs locked. -/
def lk (x : LinkState) (g : Link → Link) : State :=
  (rng.modBoot fun b => { b with plls := 7 }).modLink fun l => g { l with state := x, stage := x }

theorem witness_linkBringUp :
    ((lk .down id).link.since + us 100000 ≤ us 100000 ∧ (lk .down id).powered = true
      ∧ (lk .down id).boot.plls.getLsbD 2 = true ∧ (lk .down id).dev ≠ .selfTest)
    ∧ ((lk .detect id).link.since + us 100 ≤ us 100 ∧ ((lk .detect id).rateBelow 3).isSome = true)
    ∧ (let s := lk .train fun l => { l with lanes := 0xFF, locked := 0x7F, peerLocked := 0x80, rxLocked := 0x80 }
       s.link.lanes.getLsbD 7 = true ∧ (s.link.locked ||| BitVec.ofNat 8 (2 ^ 7)) &&& s.link.lanes = s.link.lanes
        ∧ s.link.peerLocked.getLsbD 7 = true ∧ s.link.rxLocked.getLsbD 7 = true ∧ nth 0 s.link.lockAt 7 + us 1000 ≤ us 1000
        ∧ (pickGroup s.link.lanes).isSome = true ∧ s.link.since + us 8000 ≤ us 8000
        ∧ (pickGroup (s.link.locked &&& s.link.lanes)).isSome = true)
    ∧ (lk .deskew id).link.stage = .deskew
    ∧ (let s := lk .exchange fun l => { l with capMask := 0xFF7F }
       s.link.capMask ||| BitVec.ofNat 16 (2 ^ 7) = 0xFFFF ∧ s.link.retrain = none ∧ s.link.tested = none)
    ∧ (lk .test fun l => { l with test := some (7, some 5, []) }).link.test = some (7, some 5, []) := by decide +kernel

theorem witness_linkExchange :
    (let s := lk .active fun l => { l with rxGranted := 1 }
     s.link.rxSeq = 0 ∧ 0 < serial12 s.link.rxGranted s.link.rxAccepted ∧ s.link.nakAt = none ∧ (1 ≠ s.link.rxSeq))
    ∧ (let s := (lk .active id).modRecs fun r => { r with q0 := [⟨3, 4, none, List.replicate 512 0, 0⟩] }
       s.link.replay = [] ∧ s.recs.q0.map (fun x => x.bytes.length) = [512] ∧ 3 ≠ Src.loss
        ∧ s.link.unacked.length < 1024 ∧ s.replayUsed + 528 ≤ 524288)
    ∧ (lk .active fun l => { l with nakAt := some 0 }).link.nakAt = some 0 := by decide +kernel

theorem witness_linkRecovery :
    (let s := lk .active fun l => { l with width := 8, first := 0 }
     (groupMask s.link.width s.link.first).getLsbD 7 = true)
    ∧ (let f : TxFrame := ⟨3, 0, [], 0, []⟩
       let s := lk .active fun l => { l with unacked := [f] }
       s.link.unacked = [f] ∧ f.at_ + us 100 ≤ us 100)
    ∧ ((lk .recovery id).link.recoverAt + us 30000 ≤ us 30000 ∧ (lk .recovery id).link.retrain = none)
    ∧ (let s := (lk .recovery fun l => { l with leftAt := some 0 }).modRecs fun r => { r with
         q1 := [⟨3, 4, none, [], 0⟩, ⟨3, 5, none, [], 0⟩, ⟨3, 9, none, [], 0⟩] }
       s.link.discarded = false ∧ s.trust.prep = [] ∧ s.recs.runs = [] ∧ s.recs.q2 = []
        ∧ (∀ x ∈ s.recs.q1, x.sent = 0 ∧ x.src = 3) ∧ s.recs.q1.length ≤ 3) := by decide +kernel

def live4097 : Live := ⟨4097, 0, 0xF07, .link, 0, false, false⟩

theorem witness_distaff :
    (let s := rng.modDist fun d => { d with up := true, live := [live4097] }
     s.wf = true ∧ s.dist.up = true ∧ s.dev ∈ [DevState.safe, .ready, .armed, .ranging, .calibrating]
      ∧ s.dist.upAt + us (4000 * s.pnum Par.watchdog 0) ≤ us (4000 * s.pnum Par.watchdog 0)
      ∧ s.dist.loadAt + ns (2 ^ 20) ≤ ns (2 ^ 20))
    ∧ (let r : Resp := ⟨.link, 0, true, []⟩
       let s := (lk .active id).modDist fun d => { d with waiting := [r] }
       s.dist.waiting = [r] ∧ s.linkRoom r = true)
    ∧ (let s := rng.modDist fun d => { d with up := false, reload := some (4097, false, false), live := [live4097] }
       s.dist.reload = some (4097, false, false) ∧ s.boot.source ≤ 1 ∧ s.liveOf 4097 = some live4097)
    ∧ (let s := rng.modDist fun d => { d with verifying := some 4097, live := [live4097] }
       s.dist.verifying = some 4097 ∧ s.liveOf 4097 = some live4097) := by decide +kernel

theorem witness_sidePort :
    (rng.powered = true ∧ rng.side.busy.getLsbD 15 = false ∧ rng.dev.fromSafe = true ∧ rng.dev ≠ .selfTest)
    ∧ (let s := boot id
       (s.modPower fun p => { p with powerGood := true }).powered = true ∧ s.dev.fromSafe = false)
    ∧ (rng.side.ring = [] ∧ (0 + 512 - rng.side.consumer) % 512 ≤ rng.ringUsed)
    ∧ (rng.modSide fun p => { p with logBusy := true }).side.logBusy = true
    ∧ Memory.wf rng.side.mem = true := by decide +kernel

/-- A device state with shot 5 committed, port 1 admitted with its gate open, the PLLs locked and Flyer 3 running. -/
def sh (d : DevState) : State :=
  (((((State.reset.modDev fun _ => d).modPower fun p => { p with powerGood := true, nvAllowed := true }).modEntry 5 fun e =>
    { e with state := .committed, element := 101, planned := us 50, symbolAt := us 49, window := 100, windows := [17]
             bank := 2 }).modPort 1 fun p => { p with
    state := .admitted, limits := true, chain := 3, gate := true, emit := true }).modBoot fun b => { b with
    plls := 7 }).modFlyer 3 fun f => { f with state := .running, code := [(0, 0x90000000)] }

theorem witness_armLoop :
    ((sh .ranging).wf = true ∧ (sh .ranging).dev ≠ .off ∧ (sh .ranging).inhibited = false ∧ ns 40 < ns 40 + 1
      ∧ (sh .ranging).dev ∈ [DevState.armed, .ranging, .calibrating]
      ∧ (sh .safe).dev ∉ [DevState.armed, .ranging, .calibrating]
      ∧ ((sh .safe).advance (us 1)).devFor 4 = (sh .safe).dev)
    ∧ (let s := (sh .ready).modWhorl fun w => { w with inhibit := 1 }
       s.whorl.loop ≠ 2 ∧ s.whorl.lastOpen + us 10000 ≤ us 10000 ∧ us 9999 < s.whorl.lastOpen + us 10000)
    ∧ (let s := (sh .ready).modDist fun d => { d with up := true }
       s.takes 0x0F04 ⟨.link, 7, none, 16, 16⟩ = true ∧ s.whorl.loop ≠ 2) := by decide +kernel

theorem witness_latchCauses :
    (sh .ranging).latch.set = false ∧ ((sh .ranging).advance (us 3)).symbolPassed 3 4 = false
    ∧ (sh .ranging).boot.plls.getLsbD 0 = true ∧ 20000 < (20001 : Int).natAbs ∧ (sh .boot).dev ≠ .off
    ∧ (sh .boot).dev ∉ [DevState.safe, .ready, .armed, .ranging, .calibrating]
    ∧ ((sh .boot).advance (us 3)).devFor 2 = (sh .boot).dev
      ∧ Store.wf 0 (sh .ranging).whorl.accountCorrected = true := by decide +kernel

theorem witness_supply :
    (State.reset.dev = .off ∧ 3000 ≤ 3000 ∧ 2999 < 3000) ∧ (sh .ranging).now ≤ 7 := by decide +kernel

/-- STANDBY with VAUX33 at 3.10 V and the die just below 100.0 C. -/
def standby : State := ((sh .ranging).modDev fun _ => .standby).modPower fun p => { p with
  powerGood := false, vaux := 3100, temp := some 399, autoDue := some 5, rails := [(3, { outside := true })] }

def rails (l : List Nat) : State := (sh .boot).modPower fun p => { p with
  powerGood := false, disabling := some 5, rails := l.map fun k => (k, { enabled := true }) }

theorem witness_powerSequence :
    (Store.wf {} standby.power.rails = true ∧ standby.dev = .standby ∧ 3100 ≤ standby.power.vaux
      ∧ (standby.power.temp.all fun x => decide (x < 400)) = true ∧ standby.power.autoDue = some 5)
    ∧ ((standby.modPower fun p => { p with vaux := 3099 }).power.vaux < 3100)
    ∧ (let s := (rails [5]).modBoot fun b => { b with stage := 1 }
       s.boot.stage = 1 ∧ (s.rail 5).enabled = true ∧ (s.rail 5).good = false ∧ (s.rail 5).enabledAt + us 100 ≤ us 100
        ∧ (s.rail 5).enabledAt + us 5000 ≤ us 5000 ∧ s.power.shut = none ∧ Store.wf {} s.power.rails = true)
    ∧ (let s := rails [0, 1, 4]
       s.power.disabling = some 5 ∧ s.power.disableAt ≤ us 1 ∧ s.power.powerGood = false
        ∧ ((List.range 6).filter fun i => (s.rail i).enabled && decide ((s.rail i).enabledAt ≤ us 1)).reverse = [4, 1, 0])
    ∧ (List.range 6).filter (fun i => ((rails [2]).rail i).enabled && decide (((rails [2]).rail i).enabledAt ≤ us 1))
      = [2] := by decide +kernel

def sagging : State := (sh .ranging).modPower fun p => { p with
  rails := [(2, { enabled := true, sag := true }), (3, { enabled := true })] }

theorem witness_rails :
    (sagging.wf = true ∧ Store.wf {} sagging.power.rails = true ∧ sagging.powered = true ∧ railStops 1 1 = true
      ∧ (sagging.rail 1).sag = false)
    ∧ (sagging.power.rails.filter (fun x => x.2.sag) = [(2, sagging.rail 2)]
      ∧ (sagging.rail 2).sagAt + us 10 ≤ us 10 ∧ (railLimits 2).2.2.1 + 100 ≤ 10 * 2000)
    ∧ ((sagging.rail 2).sag = true ∧ (sagging.rail 2).sagAt + us 1000 ≤ us 1000 ∧ sagging.whorl.faults.getLsbD 2 = false)
    ∧ ((sh .fault).anySag = false ∧ (sh .fault).power.lastSagEnd + us 10000 ≤ us 10000)
    ∧ (railResets 1 1 = true ∧ sagging.dev ≠ .off ∧ sagging.dev ≠ .standby ∧ sagging.power.shut = none
      ∧ sagging.power.disabling = none)
    ∧ (railGood 0 727 = false ∧ railStops 0 727 = false ∧ (sagging.rail 0).outside = false)
    ∧ (railGood 0 728 = true ∧ (sagging.modRail 0 fun r => { r with outside := true }).powered = true)
    ∧ (sagging.power.nvAllowed = true ∧ 3049 < 3050)
    ∧ (sagging.modPower fun p => { p with nvAllowed := false }).power.nvAllowed = false := by decide +kernel

def diode (g : Power → Power) : State := ((sh .ranging).modBoot fun b => { b with trained := true }).modPower g

theorem witness_diode :
    (let s := diode fun p => { p with ignoredRun := 3, proxy := some (600, us 100) }
     s.power.broken = false ∧ s.dev ≠ .off ∧ (s.advance (us 1)).readingGood 721 = false
      ∧ (s.advance (us 1)).readingGood 499 = true ∧ s.power.level < 2)
    ∧ (let s := diode fun p => { p with readAt := some (us 50), level := 1 }
       (s.power.readAt = some (us 50)) ∧ us 50 + us 50 ≤ us 100 ∧ (s.advance (us 100)).readingGood 430 = true
        ∧ s.power.broken = false ∧ s.power.level = 1)
    ∧ (let s := diode fun p => { p with broken := true, goodRun := 1999, lastRaw := some 100 }
       s.power.broken = true ∧ s.power.lastRaw = some 100 ∧ ((104 : Int) - 100).natAbs ≤ 4 ∧ 4 < ((105 : Int) - 100).natAbs)
    ∧ (let s := diode fun p => { p with level := 2, temp := some 420 }
       s.power.level = 2 ∧ s.power.hotAt + us 10000 ≤ us 10000 ∧ s.power.broken = false ∧ s.power.temp = some 420)
    ∧ (diode fun p => { p with proxy := some (3, us 1) }).power.proxy = some (3, us 1)
    ∧ (let s := diode fun p => { p with shut := some (1, -5, false) }
       s.power.shut = some (1, -5, false) ∧ s.power.shutPage = false ∧ s.power.disableAt + us 10 ≤ us 12
        ∧ s.nvCtl.jobAt + us 12 ≤ us 12) := by decide +kernel

theorem witness_store :
    (let j : PageJob := ⟨2050, List.replicate 64 9, 2, 0, none⟩
     let s := (sh .ranging).modNvCtl fun c => { c with jobs := [j], objects := [(3, (true, 7, true))] }
     s.wf = true ∧ s.nvCtl.jobs = [j] ∧ j.kind ≠ 1 ∧ j.bytes.length = 64 ∧ s.jobPage j ∉ s.nvCtl.erasing
      ∧ s.nvCtl.jobAt + us 12 ≤ us 12 ∧ s.power.shut = none)
    ∧ (let j : PageJob := ⟨0, [], 1, 3, none⟩
       let s := (sh .selfTest).modNvCtl fun c => { c with jobs := [j], objects := [(3, (true, 7, true))] }
       s.nvCtl.jobs = [j] ∧ s.jobPage j ∉ s.nvCtl.erasing ∧ Store.wf (false, 0, false) s.nvCtl.objects = true)
    ∧ (((sh .safe).modNvCtl fun c => { c with erasing := [3, 4] }).nvCtl.erasing = [3, 4]
      ∧ (sh .safe).nvCtl.eraseAt + us 100 ≤ us 100 ∧ State.inReserve 3 = false ∧ State.inReserve 680 = true
      ∧ ((sh .safe).modNvCtl fun c => { c with erasing := [680] }).copying = false)
    ∧ (let s := (sh .selfTest).modBoot fun y => { y with test := some (true, 3, 4, 1) }
       s.boot.test = some (true, 3, 4, 1) ∧ s.power.nvAllowed = true ∧ s.boot.checkAt + us 1000 ≤ us 1000
        ∧ s.boot.plls.getLsbD 0 = true ∧ s.testBlocked 989999 760 = some 1 ∧ s.testBlocked 1010000 791 = some 2)
    ∧ (let s := (sh .selfTest).modBoot fun y => { y with test := some (false, 3, 4, 1) }
       s.boot.test = some (false, 3, 4, 1) ∧ s.recs.q0 = [] ∧ s.boot.plls.getLsbD 0 = true) := by decide +kernel

def session : Session := { index := 1, interval := 2, openAt := 0, next := 4, skipped := 3, chains := [(1, 2)] }

def trusted (g : Trust → Trust) : State := ((sh .ranging).modDist fun d => { d with up := true }).modTrust fun z =>
  g { z with session := some session }

def prep : Prep := { number := 2, body := [1, 2], handle := none, closing := false }

theorem witness_trust :
    ((trusted id).trust.session = some session ∧ 0 < session.interval ∧ session.openAt < us 2000000
      ∧ (us 2000000 - session.openAt) % (us 1000000 * session.interval) = 0 ∧ (trusted id).trust.prep.length < 2
      ∧ (trusted id).dist.up = true)
    ∧ 2 ≤ (trusted fun z => { z with prep := [prep, prep] }).trust.prep.length
    ∧ (let s := trusted fun z => { z with prep := [prep] }
       s.trust.prep = [prep] ∧ prep.sigs = none ∧ s.trust.unlocking = none)
    ∧ (let s := trusted fun z => { z with challenge := some (4, 0) }
       s.trust.challenge = some (4, 0) ∧ 0 + us 60000000 ≤ us 60000000)
    ∧ (let s := trusted fun z => { z with unlocked := 1 }
       s.trust.unlocked ≠ 0 ∧ s.trust.unlockedAt + us 1000 ≤ us 1000)
    ∧ (trusted id).tapAllowed .idcode = true ∧ (trusted id).tapAllowed .debug = false := by decide +kernel

def calArgs : CalArgs :=
  { kinds := 16, repeats := 2, apply := false, width := 4, index := 0, channels := 0
    elements := BitVec.ofNat 512 (2 ^ 101), distances := List.replicate 8 20000 }

def calRun (ports : Store CalPort) : CalRun :=
  { args := calArgs, handle := 4096, came := .ready, kind := 5, wait := 0, passed := 0, applied := 0, notWarm := false
    failedCh := 0, failedEl := 0, detail := 0, ports := ports, quality := [], delays := [], latency := [], path := [] }

def cal (r : CalRun) : State :=
  ((((admitted.modDev fun _ => .calibrating).modSpindle fun _ => State.reset.spindle).modCal fun c => { c with
    run := some r }).modFlyer 3 fun f => { f with
    shots := [(7, (101 * 2 ^ 32 + 7 * 2 ^ 43 + 100 * 2 ^ 70 : Nat))] }).modClock fun c => { c with lockedAt := some 0 }

theorem witness_calibrationShot :
    let r := calRun [(1, { element := 101, latency := 500, finished := false })]
    let s := cal r
    s.cal.run = some r ∧ Store.wf {} r.ports = true ∧ s.wf = true ∧ (s.calPort 1).finished = false
      ∧ (s.calPort 1).shots < 1024 ∧ (s.calPort 1).lastAt = 0 ∧ (s.calDesc (s.calPort 1).element).isSome = true
      ∧ elemPort (s.calPort 1).element = 1 ∧ (s.port 1).state = .admitted
      ∧ s.elementOn true (s.calPort 1).element = true ∧ s.skein = []
      ∧ (s.advance (us 4)).streamGood 1 (s.tdcInstant (us 4 + us 2) - 16 * (s.calPort 1).latency) = true := by
  decide +kernel

theorem witness_calibrationEnd :
    let s := cal (calRun [])
    s.cal.run = some (calRun []) ∧ (List.range 8).all (fun n => (s.calPort n).finished) = true
      ∧ s.dev = .calibrating := by decide +kernel

def hdr : Hdr := ⟨.link, 7, none, 16, 16⟩

/-- A device state with Distaff up, one command live and one response waiting. -/
def at_ (d : DevState) : State :=
  ((State.reset.modDev fun _ => d).modPower fun p => { p with powerGood := true, nvAllowed := true }).modDist fun x => { x with
    up := true, live := [⟨4096, 3, 0x0801, .link, 5, false, false⟩], generations := [(0, 1)], lastIndex := some 0
    waiting := [⟨.link, 0, true, [1, 2]⟩] }

theorem witness_frontEnd :
    ((at_ .safe).takes 0x0F02 hdr = true ∧ (at_ .safe).nextHandle = 4097)
    ∧ (structureGood hdr = true ∧ (at_ .ready).dist.up = true ∧ (at_ .ready).dev ≠ .safe)
    ∧ structureGood ⟨.link, 7, none, 24, 16⟩ = false
    ∧ ((at_ .safe).modDist fun d => { d with up := false, downCause := 3 }).dist.up = false := by decide +kernel

theorem witness_reads :
    let s := (((at_ .ready).modHk fun k => { k with queue := [[1, 2], [3, 4], [5]] }).modNvCtl fun c => { c with
      oldest := 3, next := 9 })
    [0x0F01, 0x0F12, 0x0703, 0x0602, 0x1202, 0x0F11, 0x0E01, 0x1001, 0x0C01].all (fun op => s.takes op hdr) = true
      ∧ ((s.advance 5).counterBlock 10 9).isSome = true
      ∧ State.getCheck 2 [3] [Par.reportLevel] = .accepted := by decide +kernel

/-- `sh` with Distaff up and a closed arm loop. -/
def cmd (d : DevState) : State :=
  ((sh d).modDist fun x => { x with up := true, live := [⟨4096, 3, 0x0801, .link, 5, false, false⟩] }).modWhorl fun w => { w with
    loop := 2 }

theorem witness_stateCommands :
    ((cmd .safe).wf = true ∧ (cmd .safe).takes 0x0F02 hdr = true ∧ (cmd .ready).takes 0x0F03 hdr = true
      ∧ (cmd .ready).dist.staged = []
      ∧ (cmd .ready).takes 0x0F04 hdr = true ∧ (cmd .ready).whorl.loop = 2 ∧ (cmd .ready).inhibited = false)
    ∧ ((cmd .ready).modWhorl fun w => { w with inhibit := 2 }).inhibited = true
    ∧ ((cmd .ranging).takes 0x0F05 hdr = true ∧ (cmd .armed).takes 0x0F06 hdr = true
      ∧ (cmd .armed).spindle.hasTime = false ∧ (cmd .ranging).takes 0x0F07 hdr = true)
    ∧ ((cmd .fault).takes 0x0F08 hdr = true ∧ (cmd .fault).faultPersists = false ∧ (cmd .fault).anySag = false)
    ∧ ((cmd .fault).modWhorl fun w => { w with faults := 2 }).faultPersists = true
    ∧ ((cmd .ranging).takes 0x0F0A hdr = true ∧ ((cmd .ranging).liveOf 4096).map (fun l => l.opcode) = some 0x0801
      ∧ State.abortable 0x0801 = true ∧ (cmd .ranging).cal.run = none)
    ∧ (cmd .ready).takes 0x0F09 hdr = true
    ∧ ((cmd .armed).takes 0x1301 hdr = true
      ∧ State.calCheck ⟨9, 3, true, 4, 0, 0xFF, 0, []⟩ (cmd .armed) = .accepted) := by decide +kernel

/-- Flyer 3 with entries in each of its tables. -/
def tabled (d : DevState) : State := (at_ d).modFlyer 3 fun f => { f with
  shots := [(0, 9), (5, 7)], code := [(1, 3), (6, 7)], codes := [(2, 1)], sets := [(4, 4)] }

def tracked : State := (tabled .ready).modSpindle fun p => { p with state := .locked, frame := 9, line := 4, lines := 1024 }

theorem witness_loads :
    (let s := tabled .safe
     s.wf = true ∧ [0x0301, 0x0302, 0x0303, 0x0304, 0x0305].all (fun op => s.takes op hdr) = true
      ∧ (s.flyer 3).state = .stopped ∧ [shot.desc].all descGood = true ∧ 3071 + 1 ≤ 3072
      ∧ Store.wf 0 (s.flyer 3).shots = true ∧ [(0 : Word32), 0x90000000].all microGood = true
      ∧ Store.wf 0 (s.flyer 3).code = true ∧ [(5 : Word32), 6].all State.codeGood = true ∧ s.stages = false
      ∧ Store.wf 0 (s.flyer 3).codes = true ∧ [(5 : BitVec 256), 0].all State.setGood = true
      ∧ Store.wf 0 (s.flyer 3).sets = true)
    ∧ (tracked.takes 0x0303 hdr = true ∧ tracked.stages = true ∧ hdr.boundary = none
      ∧ (tracked.dist.staged.filter fun x => x.handle.isSome).length < 64) := by decide +kernel

theorem witness_settings :
    (let s := tabled .safe
     [0x0701, 0x0702, 0x0F10, 0x0F13, 0x1302, 0x1303, 0x0405].all (fun op => s.takes op hdr) = true
      ∧ imageGood ⟨1, 0, 0, 3, 2, 256, 9, [1, 2, 1]⟩ = true
      ∧ (List.range 16).all (fun b => !(s.bank b).swapStaged) = true ∧ s.spindle.hasTime = false
      ∧ State.setCheck hdr 2 [3] [⟨Par.reportLevel, 0, 2⟩] s = .accepted ∧ Store.wf none s.dist.params = true
      ∧ s.power.nvAllowed = true)
    ∧ (tracked.takes 0x0F10 hdr = true ∧ State.setCheck hdr 2 [3] [⟨Par.reportLevel, 0, 2⟩] tracked = .accepted
      ∧ State.anyStaged [⟨Par.reportLevel, 0, 2⟩] = true)
    ∧ ((tabled .safe).modPower fun p => { p with nvAllowed := false }).takes 0x1302 hdr = true := by decide +kernel

theorem witness_measurements :
    (let s := at_ .ready
     s.wf = true ∧ [0x0601, 0x0801, 0x0802, 0x0901, 0x0902].all (fun op => s.takes op hdr) = true
      ∧ s.hk.conv = none ∧ s.statCheck (.tof 3 none 0) 4 60000 = .accepted ∧ (s.aux 3).gate = none
      ∧ s.bobCheck 3 1 { (State.bobParams {}) with output := 0, target := 10 } = .accepted
      ∧ (s.bob 3 1).flushHandle = none ∧ (s.bob 3 1).state = .idle ∧ Store.wf {} (s.chan 3).bobs = true)
    ∧ ((at_ .ready).modBob 3 1 fun y => { y with state := .collecting }).takes 0x0902 hdr = true
    ∧ ((at_ .safe).takes 0x0C02 hdr = true ∧ (at_ .safe).retrainCheck true = .accepted)
    ∧ ((at_ .ready).bias 3).forceOnly = false
    ∧ (let s := (at_ .ready).modBank 3 fun x => { x with bias := { x.bias with forceOnly := true, lead := 50 } }
       s.takes 0x0501 hdr = true ∧ (s.bias 3).forceOnly = true ∧ (List.replicate 16 (150 : Int)).length = 16
        ∧ ((150 : Int) - (s.bias 3).lead).natAbs ≤ 100 ∧ 100 < ((151 : Int) - (s.bias 3).lead).natAbs)
    ∧ ((at_ .ready).takes 0x1201 hdr = true ∧ (at_ .ready).power.broken = false
      ∧ (at_ .ready).power.restoredAt ≠ some 5) := by decide +kernel

theorem witness_captureCommands :
    let p : CaptureParams := { untilDone with regionSize := 64, host := true }
    let g3 := fun (g : Group → Group) => (at_ .ready).modGroup 3 fun y => g { y with
      params := some p, live := List.range 16, capacity := 500 }
    (let s := (at_ .ready).modDram fun d => { d with chans := (List.range 16).map fun i => (i, {}) }
     s.takes 0x0B01 hdr = true ∧ s.armCheck 3 p = .accepted)
    ∧ ((g3 id).takes 0x0B02 hdr = true ∧ (g3 id).groupBusy 3 = false
      ∧ (g3 fun y => { y with state := .waiting }).groupBusy 3 = true)
    ∧ ((g3 id).takes 0x0B03 hdr = true ∧ ((g3 id).group 3).state.watches = false
      ∧ (State.groupParams ((g3 fun y => { y with state := .waiting }).group 3)).host = true
      ∧ ((g3 fun y => { y with state := .waiting }).group 3).ringAt ≤ 5
      ∧ ((g3 fun y => { y with state := .waiting }).group 3).closing = none)
    ∧ (let s := g3 fun y => { y with state := .done, captures := [{ segment := 1, words := 3 }] }
       s.takes 0x0B04 hdr = true ∧ s.dramAbsent = false ∧ s.groupBusy 3 = false ∧ (s.group 3).read = none
        ∧ State.readBlocks (s.group 3) 0 4 8 (-80) 80 ≠ [] ∧ State.readBlocks (s.group 3) 2 4 8 (-80) 80 = []) := by
  decide +kernel

/-- Port 1 in a state, with limits loaded and an identifier. -/
def port1 (x : PortState) : State := ((at_ .ready).modPort 1 fun p => { p with
  state := x, limits := true, chain := 3, head := 7 }).modClock fun c => { c with lockedAt := some 0 }

theorem witness_portCommands :
    ((port1 .off).takes 0x0401 hdr = true ∧ (port1 .off).latch.set = false ∧ (port1 .off).wf = true
      ∧ ((port1 .off).port 1).syncFor = none ∧ ((port1 .off).port 1).owed = none)
    ∧ ((port1 .off).modLatch fun l => { l with set := true }).takes 0x0401 hdr = true
    ∧ ((port1 .admitted).takes 0x0402 hdr = true ∧ ((port1 .admitted).port 1).syncFor = none)
    ∧ ((port1 .verified).takes 0x0403 hdr = true ∧ ((port1 .verified).port 1).state = .verified
      ∧ ((port1 .verified).port 1).head = 7)
    ∧ ((port1 .admitted).takes 0x0404 hdr = true
      ∧ ((port1 .admitted).advance 5).settingsCheck 1 [(0, .driveCode 3 4)] = .accepted) := by decide +kernel

theorem witness_linkCommands :
    let tests : List LaneTest := List.replicate 8 ⟨1, 1, 0, 0⟩
    let entries : List BoardEntry := List.replicate 24 ⟨true, 0, 40, 0, 3, false, false⟩
    (let s := (at_ .ready).modLink fun l => { l with state := .active, stage := .active, detected := 0xFF }
     s.takes 0x0E02 hdr = true ∧ s.link.retrain = none ∧ ((s.modLink fun l => { l with peerRates := 7 }).rateBelow 3).isSome
      ∧ s.takes 0x0E03 hdr = true ∧ State.linkTestCheck hdr.path 60000 tests s = .accepted)
    ∧ (let s := (at_ .ready).modLink fun l => { l with state := .test, stage := .test, test := some (3, none, tests) }
       s.takes 0x0E04 ⟨.side 3, 7, none, 16, 16⟩ = true ∧ s.link.test = some (3, none, tests))
    ∧ ((at_ .safe).takes 0x0E05 hdr = true ∧ State.boardCheck entries (at_ .safe) = .accepted
      ∧ (at_ .safe).power.nvAllowed = true) := by decide +kernel

/-- A certified device in SAFE whose token buffer holds a token of a type. -/
def tokened (k : Byte) : State := (at_ .safe).modTrust fun z => { z with
  certificate := [1, 0], sessions := 4, token := [(0, 1), (2, k)] ++ if k = 3 then [(5, 2)] else [(3, 3), (4, 1), (5, 6)] }

theorem witness_trustCommands :
    (let s := tokened 1
     s.wf = true ∧ [0x1101, 0x1102, 0x1103, 0x1104, 0x1105].all (fun op => s.takes op hdr) = true
      ∧ s.trust.prep.length < 2 ∧ s.trust.session = none ∧ s.trust.keyLatched = false ∧ s.certified = true
      ∧ s.power.nvAllowed = true ∧ 8 % 8 = 0 ∧ 8 < certSize ∧ 17224 + 8 ≤ 17232)
    ∧ (let s := (tokened 1).modTrust fun z => { z with session := some session }
       s.trust.session = some session ∧ s.takes 0x1102 hdr = true)
    ∧ ((tokened 1).tokenCheck 1 = .accepted ∧ (tokened 2).tokenCheck 2 = .accepted
      ∧ (tokened 3).tokenCheck 3 = .accepted) := by decide +kernel

/-- The image slots A and B loaded; the device runs from A. -/
def slotted : State := ((at_ .safe).modDist fun d => { d with slotA := some [1], slotB := some [2] }).modBoot fun b => { b with source := 0 }

theorem witness_firmware :
    (slotted.wf = true ∧ [0x0F20, 0x0F22, 0x0F24].all (fun op => slotted.takes op hdr) = true ∧ slotted.hasSlots = true
      ∧ 16 ≤ imageLimit ∧ slotted.dist.verifying = none ∧ slotted.dist.up = true ∧ slotted.dist.reload = none)
    ∧ (let s := slotted.modDist fun d => { d with update := some (16, 8) }
       s.takes 0x0F21 hdr = true ∧ s.dist.update = some (16, 8) ∧ 8 + (List.replicate 8 (3 : Byte)).length ≤ 16)
    ∧ (let s := slotted.modDist fun d => { d with verified := true, update := some (8, 8) }
       s.takes 0x0F23 hdr = true ∧ s.dist.verified = true) := by decide +kernel

/-- A header whose tag does not fit its field. -/
def badHdr : Hdr := { hdr with tag := 65536 }

/-! ## More witnesses: further clauses of the same statements -/

/-- A class-3 frame with number 0 and one word. -/
def frameIn : FrameIn :=
  let head := sofBlock 3 0 1 127
  ⟨[⟨0, true, head⟩, ⟨1, false, List.replicate 8 0⟩,
    ⟨2, true, controlBlock 0x4B (crc32c (head.drop 1 ++ List.replicate 8 0)).toNat⟩]⟩

/-- GO READY of `hdr` arrived at an instant, or an opcode that no row has. -/
def arrived (op : Nat) : State := (at_ .safe).modDist fun d => { d with intake := [⟨op, hdr, 3⟩] }

theorem witness_frames :
    (frameIn.good = true ∧ frameIn.seq = (lk .active id).link.rxSeq ∧ frameIn.cls = 3 ∧ (lk .active id).dist.intake = [])
    ∧ ((lk .active id).streams = true ∧ (lk .active id).link.alignAt = none)
    ∧ opKnown 0x0F02 .link = true ∧ opKnown 0x0F7F .link = false ∧ (arrived 0x0F02).itsTurn 0x0F02 hdr = true
    ∧ (arrived 0x0F02).itsTurn 0x0F02 badHdr = false ∧ (arrived 0x0F7F).dev ≠ .selfTest := by decide +kernel

/-- The rails on as far as one, in the sequence; the link's PLL locked. -/
def sequencing (n : Nat) (g : Rail → Rail) : State :=
  (((sh .boot).modBoot fun b => { b with stage := 1, plls := 7 }).modPower fun p => { p with
    powerGood := false, rails := (List.range (n + 1)).map fun k => (k, { enabled := true }) }).modRail n g

theorem witness_railsInSequence :
    (standby.power.autoAt.filter fun x => decide (5 < x + us 10000000)).length < 3
    ∧ 3 ≤ ((standby.modPower fun p => { p with autoAt := [1, 2, 3] }).power.autoAt.filter fun x =>
        decide (us 10000000 < x + us 10000000)).length
    ∧ (standby.modPower fun p => { p with temp := some 400 }).power.temp = some 400
    ∧ (let s := sequencing 5 fun r => { r with backAt := us 7 }
       Store.wf {} s.power.rails = true ∧ s.boot.stage = 1 ∧ s.power.shut = none ∧ s.power.disabling = none
        ∧ (s.rail 5).enabled = true ∧ (s.rail 5).good = false ∧ (s.rail 5).outside = false ∧ (s.rail 5).sag = false
        ∧ max (s.rail 5).enabledAt (s.rail 5).backAt + us 100 ≤ us 107
        ∧ s.boot.plls.getLsbD 2 = true ∧ s.link.state = .down)
    ∧ (((sequencing 3 id).rail 4).enabled = false ∧ ((sequencing 4 id).rail 4).enabled = true)
    ∧ (let s := sequencing 4 id
       s.powered = false ∧ railGood 3 1 = false ∧ (s.rail 3).enabled = true ∧ (s.rail 4).enabledAt ≤ us 1
        ∧ us 1 < ((s.modRail 4 fun r => { r with enabledAt := us 2 }).rail 4).enabledAt)
    ∧ ((sagging.modRail 2 fun r => { r with outside := true, sag := false }).powered = true
      ∧ ((sagging.modRail 2 fun r => { r with outside := true }).rail 2).enabled = true) := by decide +kernel

theorem witness_levels :
    (diode fun p => { p with broken := true }).levelTemp = none
    ∧ (diode fun p => { p with level := 2, temp := some 420 }).levelTemp = some 420
    ∧ (diode fun p => { p with level := 2, temp := some 300, proxy := some (440, us 10) }).levelTemp.isSome = true
    ∧ (diode fun p => { p with shut := some (1, -5, false), recordFrom := us 1 }).power.recordFrom + us 12 ≤ us 13
    ∧ (let s := diode fun p => { p with shut := some (1, -5, false) }
       680 ≤ s.reservePage ∧ s.reservePage < 696) := by decide +kernel

theorem witness_testAccess :
    (trusted id).tapAllowed (.samplePreload [(.emitPermit, true)]) = true
    ∧ (trusted id).tapAllowed .bypass = true := by decide +kernel

theorem witness_manyCounters :
    State.counterTargets [] = [0] ∧ State.counterTargets [3, 4] = [3, 4]
    ∧ (((at_ .ready).advance 5).counterBlock 5 255).isSome = true := by decide +kernel

theorem witness_named :
    (tracked.spindle.named 9 = 0 ∧ tracked.spindle.named (9 + 65536) = 65536 ∧ 1023 < tracked.spindle.lines)
    ∧ (tracked.waitsForOrigin [⟨Par.reportLevel, 0, 2⟩] = false
      ∧ [(⟨Par.reportLevel, 0, 2⟩ : Item)].all (fun i => !State.stopsBias i) = true)
    ∧ ((tabled .safe).dist.staged = [] ∧ (tabled .safe).stages = false) := by decide +kernel

/-- The device with DRAM channels mapped out, or all of them (DRAM-absent). -/
def mapped (l : List Nat) : State := (at_ .safe).modDram fun d => { d with
  chans := l.map fun i => (i, { mapped := some (0, 0, 0) }) }

theorem witness_retrain :
    (Store.wf {} (mapped [3, 9]).dram.chans = true ∧ (mapped [3, 9]).retrainCheck true = .accepted
      ∧ ((List.range 16).filter fun i => ((mapped [3, 9]).dramCh i).mapped.isSome) = [3, 9]
      ∧ (mapped [3, 9]).dramAbsent = false)
    ∧ ((mapped (List.range 16)).dramAbsent = true ∧ (mapped (List.range 16)).retrainCheck false = .accepted
      ∧ (mapped (List.range 16)).takes 0x0C02 hdr = true)
    ∧ (let s := waits2 8
       (s.dramCh 0).refreshedAt = none ∧ ((s.modDramCh 0 fun d => { d with refreshedAt := some 0 }).dramCh 0).refreshedAt
          = some 0 ∧ 0 + s.refreshInterval / 16 ≤ s.refreshInterval) := by decide +kernel

/-- A group whose captures are being read, and an accumulation that has spilled and awaits its bins. -/
def reading : State := (at_ .ready).modGroup 3 fun y => { y with read := some ⟨4096, [], []⟩ }

theorem witness_endsOfReads :
    (reading.group 3).read = some ⟨4096, [], []⟩ ∧ 4096 ≠ reading.nextHandle
    ∧ (let s := (at_ .ready).modBob 3 1 fun y => { y with state := .collecting, spilled := true }
       (s.bob 3 1).state = .collecting ∧ (s.bob 3 1).spilled = true ∧ (s.bob 3 1).flushHandle = none)
    ∧ (let s := bob fun y => { y with state := .finishing, spilled := true, dramLost := true }
       s.binsCame 3 1 = true ∧ s.blockLength 3 1 ≤ 6272) := by decide +kernel

/-- Port 1 with a BOARD SETTINGS whose sync is still to be reserved. -/
def asking : State := (port1 .admitted).modPort 1 fun p => { p with
  asked := some ⟨hdr, 4096, us 18, [(0, .driveCode 3 4)], []⟩ }

theorem witness_asking :
    ((asking.port 1).asked.map (fun q => q.handle) = some 4096 ∧ (asking.port 1).owed = none ∧ (asking.port 1).recap = []
      ∧ asking.skein = [] ∧ (asking.advance 5).dataEnd 1 [] ≤ 5 ∧ ((asking.advance 5).chooseSync 1 (us 18) 5).isSome = true
      ∧ (asking.advance 5).chooseSync 1 0 5 = none)
    ∧ ((port1 .off).port 1).asked = none := by decide +kernel

theorem witness_paths :
    ((slotted.advance 5).overtaken 3 = none ∧ ((tokened 3).advance 5).overtaken 2 = none ∧ (tokened 3).dist.staged = [])
    ∧ (slotted.modDist fun d => { d with verifying := some 4096 }).slotBytes slotted.otherSlot = some [2]
    ∧ (let s := boot fun b => { b with stage := 7, slow := false }
       s.faultStands = false ∧ s.reserveClear = true ∧ [(7 : Byte)] ≠ [])
    ∧ (let s := boot fun b => { b with stage := 8, slow := true, trained := true }
       s.faultStands = false ∧ s.reserveClear = true)
    ∧ (boot fun b => { b with stage := 6 }).boot.loaded = false
    ∧ (rng.dist.restartAt + us (4000 * rng.pnum Par.watchdog 0) ≤ us (4000 * rng.pnum Par.watchdog 0)) := by decide +kernel

/-! ## Ill-formed terms, one for each check -/

def bobP : BobbinParams := { (State.bobParams {}) with output := 0, target := 10 }

theorem test_wf_refuses_0 :
    [.frameClosed 0 (2 ^ 32), .scannerWord 0 8 0, .scannerCrossingMissing 0 8, .flyerRun 0 16, .flyerStop 0 16,
    .flyerShot 0 16 0, .flyerBurst 0 16 0 0, .flyerNextline 0 16 0, .flyerSetline 0 16 0, .flyerWaitframe 0 16,
    .flyerLoop 0 16 0, .flyerEndloop 0 16].all (fun i : Instr => !i.wf) = true := by decide +kernel

theorem test_wf_refuses_1 :
    [.flyerJump 0 16 0, .flyerNop 0 16, .commit 0 16, .whorlVerdict 0 8192, .fireSymbolSend 0 8192, .windowOpen 0 8192,
    .windowClose 0 8192 0, .windowClose 0 0 256, .slotFinalise 0 8192 0, .slotFinalise 0 0 256, .entryFree 0 8192,
    .probe 0 ⟨8, []⟩, .probe 0 ⟨0, List.replicate 5 []⟩, .probe 0 ⟨0, [List.replicate 21505 0]⟩
    ].all (fun i : Instr => !i.wf) = true := by decide +kernel

theorem test_wf_refuses_2 :
    [.presence 0 8 0, .portTrip 0 8 0, .headRemoved 0 8 ⟨0, none⟩, .headRemoved 0 0 ⟨4, none⟩,
    .headRemoved 0 0 ⟨1, some 1⟩, .removedEnd 0 8, .noTelemetryTimeout 0 8,
    .readingTimeout 0 8, .telemetryStatus 0 8 0, .boardTemperatureStale 0 8 0, .boardTemperatureStale 0 0 4,
    .descriptorWord 0 8 0, .descriptorCheckDone 0 8 0].all (fun i : Instr => !i.wf) = true := by decide +kernel

theorem test_wf_refuses_3 :
    [.descriptorCheckDone 0 0 4, .keepAlivePlace 0 8, .keepAliveSend 0 8, .broadcastSyncSend 0 8, .boardFire 0 8 0 0,
    .boardFire 0 0 4 0, .boardSyncApply 0 8 0 ⟨0, 0⟩, .boardSyncApply 0 0 4 ⟨0, 0⟩,
    .boardSyncApply 0 0 0 ⟨0, 1⟩, .boardKeepAlive 0 8 0 0,
    .boardKeepAlive 0 0 4 0, .keepAliveTimeout 0 8 0, .keepAliveTimeout 0 0 4
    ].all (fun i : Instr => !i.wf) = true := by decide +kernel

theorem test_wf_refuses_4 :
    [.dataFrame 0 8 0 [0], .dataFrame 0 0 4 [0], .dataFrame 0 0 0 [], .elementEnable 0 8 0 0, .elementEnable 0 0 4 0,
    .driveCode 0 8 0 0 0, .driveCode 0 0 4 0 0, .driveCode 0 0 0 256 0, .driveCode 0 0 0 0 256,
    .indicatorBrightness 0 8 0 0, .indicatorBrightness 0 0 4 0, .indicatorBrightness 0 0 0 256
    ].all (fun i : Instr => !i.wf) = true := by decide +kernel

theorem test_wf_refuses_5 :
    [.emission 0 8 0 0, .emission 0 0 4 0, .syncCompensation 0 8 0 0, .syncCompensation 0 0 4 0,
    .syncCompensation 0 0 0 65536, .descriptorRead 0 8 0, .descriptorRead 0 0 4, .scannerReports 0 8 0 0,
    .scannerReports 0 0 4 0, .shareCounterReset 0 8 0, .shareCounterReset 0 0 4, .boardTemperatureSend 0 8 0 0
    ].all (fun i : Instr => !i.wf) = true := by decide +kernel

theorem test_wf_refuses_6 :
    [.boardTemperatureSend 0 0 4 0, .boardTemperatureSend 0 0 0 512, .boardOverTemperature 0 8 0 0,
    .boardOverTemperature 0 0 4 0, .boardOverTemperature 0 0 0 512, .driverFault 0 8 0, .driverFault 0 0 4,
    .clampEvent 0 ⟨256, 0⟩, .clampEnd 0 256, .rangeBoundary 0 256 0 false 0, .rangeBoundary 0 0 0 false 4096,
    .ambientGateOpen 0 256].all (fun i : Instr => !i.wf) = true := by decide +kernel

theorem test_wf_refuses_7 :
    [.gateClose 0 256 ⟨0, 0⟩ false, .gateClose 0 0 ⟨256, 0⟩ false, .biasSettled 0 ⟨16, List.replicate 8 0⟩, .biasSettled 0 ⟨0, []⟩,
    .biasFault 0 16 ⟨0, 0⟩, .biasFault 0 0 ⟨0, 1⟩, .senseLineOpen 0 16 ⟨List.replicate 3 (0, 0), List.replicate 64 0⟩,
    .senseLineOpen 0 0 ⟨[], List.replicate 64 0⟩, .senseLineOpen 0 0 ⟨List.replicate 3 (0, 0), []⟩,
    .openInputSubBlock 0 256 (List.replicate 4 (0, 0)) 0 0, .openInputSubBlock 0 0 [] 0 0, .trackingBlockEnd 0 256 ⟨List.replicate 8 0, List.replicate 8 0⟩ (List.replicate 8 0),
    .trackingBlockEnd 0 0 ⟨[], List.replicate 8 0⟩ (List.replicate 8 0),
    .trackingBlockEnd 0 0 ⟨List.replicate 8 0, []⟩ (List.replicate 8 0),
    .trackingBlockEnd 0 0 ⟨List.replicate 8 0, List.replicate 8 0⟩ [],
    .hkConversionDone 0 65536 none, .leadingCrossing 0 256 0 [], .leadingCrossing 0 0 2 []
    ].all (fun i : Instr => !i.wf) = true := by decide +kernel

theorem test_wf_refuses_8 :
    [.leadingCrossing 0 0 0 [257], .trailingCrossing 0 256 0 [], .trailingCrossing 0 0 2 [], .trailingCrossing 0 0 0 [257],
    .eventTruncation 0 256 0 [], .eventTruncation 0 0 2 [], .eventTruncation 0 0 0 [257], .detectorWindowEnd 0 256 [],
    .detectorWindowEnd 0 0 [257], .comparatorCrossing 0 256 0, .stampHandoff 0 256, .interpolatorExchange 0 ⟨256, List.replicate 256 0⟩,
    .interpolatorExchange 0 ⟨0, []⟩].all (fun i : Instr => !i.wf) = true := by decide +kernel

theorem test_wf_refuses_9 :
    [.pickoffDecision 0 8192, .eventPairing 0 256, .frequencyGateEnd 0 4, .clusterResolution 0 256, .cardingDecision 0 256,
    .bobbinShotComplete 0 256 0 0 [], .bobbinShotComplete 0 0 2 0 [], .bobbinShotComplete 0 0 0 8192 [],
    .bobbinShotComplete 0 0 0 0 [257], .spillDone 0 256 0, .spillDone 0 0 2, .secondPass 0 256 0
    ].all (fun i : Instr => !i.wf) = true := by decide +kernel

theorem test_wf_refuses_10 :
    [.secondPass 0 0 2, .histogramBlockSend 0 256 0, .histogramBlockSend 0 0 2, .quietTimeout 0 256, .heldTimeout 0 256,
    .triggerDecision 0 ⟨16, []⟩, .triggerDecision 0 ⟨0, [⟨256, 0, []⟩]⟩, .scheduledTrigger 0 16, .armEffect 0 16, .ringFilled 0 ⟨16, []⟩, .postTriggerEnd 0 16 [],
    .postTriggerEnd 0 0 [⟨256, 0, []⟩], .rearmEnd 0 16].all (fun i : Instr => !i.wf) = true := by decide +kernel

theorem test_wf_refuses_11 :
    [.segmentClose 0 16 [], .segmentClose 0 0 [⟨256, 0, []⟩], .captureOverflow 0 65536 [],
    .captureOverflow 0 0 [⟨256, 0, []⟩], .waveformBlockSend 0 16, .refresh 0 16 0 false, .refresh 0 0 16 false,
    .rowIdleClose 0 16 0, .rowIdleClose 0 0 16, .dramTrainingDone 0 [], .dramTrainingDone 0 (List.replicate 16 []),
    .retrainChannelEnd 0 []].all (fun i : Instr => !i.wf) = true := by decide +kernel

theorem test_wf_refuses_12 :
    [.lossRunTimeout 0 65536, .laneLock 0 8, .alignColumn 0 0 65536, .capBlock 0 16 0, .trainBlock 0 8 false 0,
    .linkBlock 0 4096 false 0 0 0, .linkBlock 0 0 false 4096 0 0, .linkBlock 0 0 false 0 4096 0,
    .linkBlock 0 0 false 0 0 4096, .frameReceived 0 ⟨[⟨8, false, List.replicate 8 0⟩]⟩, .laneLoss 0 ⟨8, 0⟩, .laneLoss 0 ⟨0, 65⟩, .linkTestEnd 0 []
    ].all (fun i : Instr => !i.wf) = true := by decide +kernel

theorem test_wf_refuses_13 :
    [.loadUpdate 0 ⟨201, none⟩ 0, .loadUpdate 0 ⟨0, some 1⟩ 0, .getState 0 badHdr, .goReady 0 badHdr, .goSafe 0 badHdr, .arm 0 badHdr, .disarm 0 badHdr,
    .rangingStart 0 badHdr 0 0, .rangingStart 0 hdr (2 ^ 32) 0, .rangingStop 0 badHdr, .clearFault 0 badHdr,
    .shutdown 0 badHdr 0 0, .shutdown 0 hdr (2 ^ 64) 0].all (fun i : Instr => !i.wf) = true := by decide +kernel

theorem test_wf_refuses_14 :
    [.shutdown 0 hdr 0 (2 ^ 64), .abort 0 badHdr 0, .abort 0 hdr 65536, .setParameters 0 badHdr 0 [] [],
    .setParameters 0 hdr 256 [] [], .setParameters 0 hdr 0 [65536] [], .setParameters 0 hdr 0 [] [⟨65536, 0, 0⟩],
    .getParameters 0 badHdr 0 [] [], .getParameters 0 hdr 256 [] [], .getParameters 0 hdr 0 [65536] [],
    .getParameters 0 hdr 0 [] [65536], .readCounters 0 badHdr 0 []].all (fun i : Instr => !i.wf) = true := by decide +kernel

theorem test_wf_refuses_15 :
    [.readCounters 0 hdr 256 [], .readCounters 0 hdr 0 [65536], .clearFlags 0 badHdr [] 0, .clearFlags 0 hdr [65536] 0,
    .clearFlags 0 hdr [] (2 ^ 32), .fwBegin 0 badHdr 0, .fwBegin 0 hdr (2 ^ 64), .fwData 0 badHdr 0 [],
    .fwData 0 hdr (2 ^ 32) [], .fwData 0 hdr 0 (List.replicate 4097 0), .fwVerify 0 badHdr, .fwActivate 0 badHdr
    ].all (fun i : Instr => !i.wf) = true := by decide +kernel

theorem test_wf_refuses_16 :
    [.fwReload 0 badHdr false, .loadShotTable 0 badHdr 0 0 [], .loadShotTable 0 hdr 256 0 [],
    .loadShotTable 0 hdr 0 65536 [], .loadMicrocode 0 badHdr 0 0 [], .loadMicrocode 0 hdr 256 0 [],
    .loadMicrocode 0 hdr 0 65536 [], .loadCodeTable 0 badHdr 0 0 [], .loadCodeTable 0 hdr 256 0 [],
    .loadCodeTable 0 hdr 0 65536 [], .loadListeningSets 0 badHdr 0 0 [], .loadListeningSets 0 hdr 256 0 []
    ].all (fun i : Instr => !i.wf) = true := by decide +kernel

theorem test_wf_refuses_17 :
    [.loadListeningSets 0 hdr 0 65536 [], .loadSeed 0 badHdr 0, .portEnable 0 badHdr 0, .portEnable 0 hdr 256,
    .portDisable 0 badHdr 0, .portDisable 0 hdr 256, .admitHead 0 badHdr 0 0, .admitHead 0 hdr 256 0,
    .boardSettings 0 badHdr 0 [], .boardSettings 0 hdr 256 [], .boardSettings 0 hdr 0 [(256, .descriptorRead)],
    .boardSettings 0 hdr 0 [(0, .driveCode 256 0)]].all (fun i : Instr => !i.wf) = true := by decide +kernel

theorem test_wf_refuses_18 :
    [.clearLatencies 0 badHdr 0, .biasSenseRestore 0 badHdr 0 [], .biasSenseRestore 0 hdr 256 [], .inject 0 badHdr 0,
    .inject 0 hdr 256, .readHousekeepingQueue 0 badHdr 0, .readHousekeepingQueue 0 hdr 256,
    .loadCoefficients 0 badHdr 0 ⟨0, 0, 0, 0, 0, 0, 0, []⟩, .loadCoefficients 0 hdr 0 ⟨65536, 0, 0, 0, 0, 0, 0, []⟩,
    .swapCoefficients 0 badHdr 0, .readDetectors 0 badHdr 0, .readDetectors 0 hdr 65536
    ].all (fun i : Instr => !i.wf) = true := by decide +kernel

theorem test_wf_refuses_19 :
    [.statistics 0 badHdr (.tof 0 none 0) 0 0, .statistics 0 hdr (.tof 65536 none 0) 0 0,
    .statistics 0 hdr (.tof 0 none 0) 256 0, .statistics 0 hdr (.tof 0 none 0) 0 (2 ^ 32), .measureFrequency 0 badHdr 0 0,
    .measureFrequency 0 hdr 256 0, .measureFrequency 0 hdr 0 (2 ^ 32), .bobbinStart 0 badHdr 0 0 bobP,
    .bobbinStart 0 hdr 65536 0 bobP, .bobbinStart 0 hdr 0 256 bobP, .bobbinStart 0 hdr 0 0 { bobP with width := 4 },
    .bobbinFlush 0 badHdr 0 0].all (fun i : Instr => !i.wf) = true := by decide +kernel

theorem test_wf_refuses_20 :
    [.bobbinFlush 0 hdr 65536 0, .bobbinFlush 0 hdr 0 256, .captureArm 0 badHdr 0 untilDone,
    .captureArm 0 hdr 256 untilDone, .captureArm 0 hdr 0 { untilDone with segments := 65536 }, .captureStop 0 badHdr 0,
    .captureStop 0 hdr 256, .hostTrigger 0 badHdr 0, .hostTrigger 0 hdr 256, .captureRead 0 badHdr 0 0 0 0 0 0,
    .captureRead 0 hdr 256 0 0 0 0 0, .captureRead 0 hdr 0 65536 0 0 0 0].all (fun i : Instr => !i.wf) = true := by decide +kernel

theorem test_wf_refuses_21 :
    [.captureRead 0 hdr 0 0 65536 0 0 0, .captureRead 0 hdr 0 0 0 0 (2 ^ 31) 0, .captureRead 0 hdr 0 0 0 0 0 (2 ^ 31),
    .dramStatus 0 badHdr, .dramRetrain 0 badHdr false, .linkStatus 0 badHdr, .linkRetrain 0 badHdr,
    .linkTest 0 badHdr 0 [], .linkTest 0 hdr (2 ^ 32) [], .linkTest 0 hdr 0 [⟨256, 0, 0, 0⟩], .linkTestStop 0 badHdr,
    .writeBoardTable 0 badHdr []].all (fun i : Instr => !i.wf) = true := by decide +kernel

theorem test_wf_refuses_22 :
    [.writeBoardTable 0 hdr [⟨true, 128, 0, 0, 0, false, false⟩], .whorlStatus 0 badHdr,
    .attestationControl 0 badHdr false 0 (List.replicate 32 0),
    .attestationControl 0 hdr false (2 ^ 32) (List.replicate 32 0), .attestationControl 0 hdr false 0 [],
    .manifest 0 badHdr 0 0 (List.replicate 32 0), .manifest 0 hdr 256 0 (List.replicate 32 0),
    .manifest 0 hdr 0 (2 ^ 32) (List.replicate 32 0), .manifest 0 hdr 0 0 [], .keySlotWrite 0 badHdr 0 0 [],
    .keySlotWrite 0 hdr 256 0 [], .keySlotWrite 0 hdr 0 (2 ^ 32) []].all (fun i : Instr => !i.wf) = true := by decide +kernel

theorem test_wf_refuses_23 :
    [.keySlotWrite 0 hdr 0 0 (List.replicate 4097 0), .keyRevoke 0 badHdr 0 0 [], .keyRevoke 0 hdr 256 0 [],
    .keyRevoke 0 hdr 0 (2 ^ 32) [], .keyRevoke 0 hdr 0 0 (List.replicate 4097 0), .debugUnlock 0 badHdr 0 0 [],
    .debugUnlock 0 hdr 256 0 [], .debugUnlock 0 hdr 0 (2 ^ 32) [], .debugUnlock 0 hdr 0 0 (List.replicate 4097 0),
    .proxyTemperature 0 badHdr 0 0, .proxyTemperature 0 hdr (2 ^ 15) 0, .proxyTemperature 0 hdr 0 256
    ].all (fun i : Instr => !i.wf) = true := by decide +kernel

theorem test_wf_refuses_24 :
    [.readEventLog 0 badHdr 0 0, .readEventLog 0 hdr (2 ^ 32) 0, .readEventLog 0 hdr 0 65536, .calibrate 0 badHdr calArgs,
    .calibrate 0 hdr { calArgs with repeats := 256 }, .saveCalibration 0 badHdr, .restoreCalibration 0 badHdr,
    .calibrationShot 0 8, .calibrationKindEnd 0 [⟨.timing 0, []⟩], .unpassedFireSymbol 0 8 0, .unpassedFireSymbol 0 0 256,
    .accountStoreError 0 8 false].all (fun i : Instr => !i.wf) = true := by decide +kernel

theorem test_wf_refuses_25 :
    [.railGood 0 6, .railSequenceFailure 0 6 0, .supplySag 0 6 0, .sagEnd 0 6 ⟨0, 0⟩, .resetShutdown 0 6 0,
    .railWindowExit 0 6 0, .diodeReading 0 (2 ^ 15) [], .diodeReading 0 0 [(16, 0)], .manifestSigned 0 [] [],
    .testAccessPortInstruction 0 (.samplePreload [(.hpEn 8, true)]),
    .testAccessPortInstruction 0 (.samplePreload [(.emitPermit, true), (.emitPermit, false)]), .selfTestEnd 0 ⟨2 ^ 32, 0, 0, 0, 0⟩,
    .bootTestDone 0 false ⟨2 ^ 32, 0, 0, 0, 0⟩, .cmdDoorbell 0 16, .rspConsumer 0 512, .registerWrite 0 0 (2 ^ 24) []
    ].all (fun i : Instr => !i.wf) = true := by decide +kernel

theorem test_wf_refuses_26 :
    [.pllLock 0 4, .whorlOscillatorDeviation 0 (2 ^ 15), .auxfEdge 0 4, .snapshotRead 0 (2 ^ 24),
    .indicatorPatternTimeout 0 8 0, .indicatorPatternTimeout 0 0 4].all (fun i : Instr => !i.wf) = true := by decide +kernel

theorem test_wf_refuses_fields :
    ([⟨.side 16, 0, none, 0, 0⟩, ⟨.link, 65536, none, 0, 0⟩, ⟨.link, 0, some (2 ^ 32, 0), 0, 0⟩, ⟨.link, 0, some (0, 65536), 0, 0⟩,
      ⟨.link, 0, none, 65536, 0⟩, ⟨.link, 0, none, 0, 4097⟩].all fun h : Hdr => !h.wf) = true
    ∧ ([⟨65536, 0, 0⟩, ⟨0, 65536, 0⟩, ⟨0, 0, 2 ^ 63⟩, ⟨0, 0, -2 ^ 63 - 1⟩].all fun i : Item => !i.wf) = true
    ∧ ([.driveCode 256 0, .driveCode 0 256, .brightness 256, .syncCompensation 65536].all fun m : BoardMsg => !m.wf) = true
    ∧ ([⟨65536, 0, 0, 0, 0, 0, 0, []⟩, ⟨0, 4, 0, 0, 0, 0, 0, []⟩, ⟨0, 0, 2, 0, 0, 0, 0, []⟩, ⟨0, 0, 0, 65536, 0, 0, 0, []⟩,
      ⟨0, 0, 0, 0, 16, 0, 0, []⟩, ⟨0, 0, 0, 0, 0, 2 ^ 20, 0, []⟩, ⟨0, 0, 0, 0, 0, 0, 2 ^ 32, []⟩,
      ⟨0, 0, 0, 0, 0, 0, 0, [32768]⟩].all fun x : CoefImage => !x.wf) = true := by decide +kernel

theorem test_wf_refuses_parameters :
    ([.interval (.channel 256) .frameStrobe, .interval .lineStrobe (.auxf 4), .tof 65536 none 0, .tof 0 (some 65536) 0,
      .tof 0 none 256].all fun k : StatKind => !k.wf) = true
    ∧ ([{ bobP with element := some 65536 }, { bobP with offset := 65536 }, { bobP with width := 4 },
      { bobP with target := 2 ^ 32 }, { bobP with output := 4 }, { bobP with multiplier := 256 },
      { bobP with separation := 256 }].all fun p : BobbinParams => !p.wf) = true
    ∧ ([{ untilDone with regionStart := 65536 }, { untilDone with regionSize := 65536 }, { untilDone with segments := 65536 },
      { untilDone with pre := 2 ^ 32 }, { untilDone with post := 2 ^ 32 }, { untilDone with scheduled := some (2 ^ 32, 0, 0) },
      { untilDone with scheduled := some (0, 65536, 0) },
      { untilDone with scheduled := some (0, 0, 65536) }].all fun p : CaptureParams => !p.wf) = true
    ∧ ([257, 510, 512].all fun x => !sampleWf x) = true
    ∧ ([⟨256, 0, List.replicate 8 0⟩, ⟨0, 0, List.replicate 7 0⟩,
      ⟨0, 0, List.replicate 8 257⟩].all fun x : RawWord => !x.wf) = true := by decide +kernel

theorem test_wf_refuses_records :
    ([⟨256, 0, 0, 0⟩, ⟨0, 256, 0, 0⟩, ⟨0, 0, 256, 0⟩, ⟨0, 0, 0, 2 ^ 32⟩].all fun x : LaneTest => !x.wf) = true
    ∧ ([⟨true, 128, 0, 0, 0, false, false⟩, ⟨true, 0, 128, 0, 0, false, false⟩, ⟨true, 0, 0, -129, 0, false, false⟩,
      ⟨true, 0, 0, 0, 256, false, false⟩].all fun x : BoardEntry => !x.wf) = true
    ∧ ([{ calArgs with repeats := 256 }, { calArgs with width := 65536 }, { calArgs with index := 256 },
      { calArgs with distances := [] }, { calArgs with distances := List.replicate 8 (2 ^ 32) }].all
      fun x : CalArgs => !x.wf) = true
    ∧ ([.interOffset 256 0, .interGain 0 8, .interSkew 256 0, .gainRatio 0 4, .floor 256 0, .ratio 0 4, .timing 256,
      .analogue 256, .walk 16 0 0, .walk 0 4 0, .walk 0 0 64, .width 16 0, .width 0 256, .groupDelay 16 0,
      .groupDelay 0 256].all fun k : CalKey => !k.wf) = true
    ∧ ([⟨.timing 256, [0]⟩, ⟨.timing 0, []⟩].all fun x : CalMeasure => !x.wf) = true
    ∧ ([⟨[⟨8, false, List.replicate 8 0⟩]⟩, ⟨[⟨0, false, []⟩]⟩].all fun x : FrameIn => !x.wf) = true
    ∧ ([⟨2 ^ 32, 0, 0, 0, 0⟩, ⟨0, 2 ^ 64, 0, 0, 0⟩, ⟨0, 0, 2 ^ 32, 0, 0⟩, ⟨0, 0, 0, 2 ^ 32, 0⟩].all
      fun x : TestResult => !x.wf) = true := by decide +kernel

/-! ## The spec's worked examples -/

/-- Spec 09, two shots in flight on channel 5: the codes' offsets and sub-pulses. -/
theorem test_code_offsets :
    codeOffsets 0x80E46 = [0, 8, 22] ∧ codeN 0x80E46 = 3 ∧ codeK 0x80E46 = 2 ∧ codeOffsets 0x80A36 = [0, 6, 16]
    ∧ codeValid 0x80A36 = true := by decide +kernel

/-- Spec 09, the same: times of flight of 200.141 ns and 300.208 ns. -/
theorem test_time_of_flight :
    flightOf (256 * 200141) 1000 = .flight 0xC824 false false
      ∧ flightOf (256 * 300208) 1000 = .flight 0x12C35 false false := by
  decide +kernel

/-- Spec 07, the matched filter of Table 7-7 (shift 5): the largest input gives 19,501, which shift 4 saturates. -/
theorem test_filter_gain :
    let coefs := [1, 7, 25, 75, 173, 316, 453, 511, 453, 316, 173, 75, 25, 7, 1]
    filterOut { coefs := coefs, shift := 5 } (List.replicate 15 239) = (19501, false)
    ∧ filterOut { coefs := coefs, shift := 4 } (List.replicate 15 239) = (32767, true)
    ∧ imageGood ⟨1, 0, 0, 15, 5, 1792, 0, coefs⟩ = true ∧ imageGood ⟨1, 0, 0, 15, 5, 1793, 0, coefs⟩ = false
    ∧ CoefSet.tail { coefs := coefs, shift := 5 } = 39 * sample := by decide +kernel

/-- Spec 07, one return through that filter: the crossings' fractions and the peak's. -/
theorem test_crossing_fractions :
    fraction (220 - 212) (426 - 212) 0 255 = 10 ∧ fraction (327 - 220) (327 - 155) 0 255 = 159
    ∧ fraction (2085 - 2241) (2 * -266) (-128) 127 = 75 := by decide +kernel

/-- Spec 16, an element at its energy limit: 87.0 nJ at code 160 and 95.0 nJ at code 176. -/
theorem test_energy :
    let points := List.replicate 10 800 ++ [870, 950] ++ List.replicate 5 960
    State.energyAt points 160 = 870 ∧ State.energyAt points 166 = 900 ∧ State.energyAt points 167 = 905
      ∧ State.energyAt points 176 = 950 := by
  decide +kernel

/-- Spec 13, a return record of channel 37. -/
theorem test_return_record :
    Ret.bytes { c := 37, element := 0x012, tag := 2, lt := ⟨1200, 37, 0x4000⟩, tof := 0x12C35, amplitude := 9400, width := 60 }
      0 false 1234567
    = [0x01, 0x25, 0x12, 0x40, 0x87, 0xD6, 0x12, 0x00, 0xB0, 0x04, 0x00, 0x00, 0x25, 0x00, 0x00, 0x40,
      0x35, 0x2C, 0x01, 0x00, 0xB8, 0x24, 0x3C, 0x00] := by decide +kernel

/-- Spec 15, RANGING START in READY with one command live: its acknowledgement. -/
theorem test_wrong_state_acknowledgement :
    let s := (at_ .ready).modDist fun d => { d with load := 20, waiting := [] }
    (match exec (.rangingStart 5 { hdr with tag := 0x42 } 1200 0x01FE) s with
      | .next u => u.dist.waiting.map (fun r => r.bytes)
      | _ => []) = [[0x01, 0x01, 0x42, 0x00, 0x00, 0x00, 0x04, 0x14, 0x01, 0x00, 0x00, 0x00, 0x00, 0x00, 0x00, 0x00]] := by
  decide +kernel

/-- Spec 21, restarting after a thermal shutdown: the status byte in STANDBY with a flag pending, and THM_DIODE at
101.50 C with TSHUT set. -/
theorem test_thm_diode :
    let s := (State.reset.modDev fun _ => .standby).modPower fun p => { p with temp := some 406, tshut := true }
    (s.modSide fun p => { p with flags := 4, flagsIrq := 4 }).statusByte = 0x12
    ∧ s.regWord 0x600 = some 0x100196 := by decide +kernel

end Sys2Proof.Tests
end

section
/-! PROOFS. The time base (spec 02): rules of the operations that its events share, and what each of its events does. -/

namespace Sys2Proof

/-- An entry that a filter keeps reads as before. -/
theorem Store.read_filter_of_kept {α : Type} (d : α) (m : Store α) (p : Nat × α → Bool) (k : Nat)
    (h : p (k, Store.read d m k) = true) : Store.read d (m.filter p) k = Store.read d m k := by
  induction m with
  | nil => rfl
  | cons x r ih =>
    obtain ⟨j, v⟩ := x
    by_cases e : k = j
    · subst e
      simp only [Store.read, if_true] at h ⊢
      simp [h, Store.read]
    · simp only [Store.read, if_neg e] at h ⊢
      rw [List.filter_cons]
      split
      · rw [Store.read, if_neg e, ih h]
      · exact ih h

namespace Machine

namespace State

/-! ## Operations that change nothing, or records alone -/

/-- Steps that each leave the state as it is leave it so together. -/
theorem each_eq_self {α : Type} {l : List α} {f : α → State → State} {s : State} (h : ∀ a ∈ l, f a s = s) :
    s.each l f = s := by
  unfold each
  induction l with
  | nil => rfl
  | cons a l ih =>
    rw [List.foldl_cons, h a List.mem_cons_self]
    exact ih fun b hb => h b (List.mem_cons_of_mem _ hb)

/-- An event that the log does not take touches the records alone (spec 13 R308, 18 R436). -/
theorem event_touches_records {code : Nat} (h : loggedEvent code = false) (src : Nat) (payload : List (Nat × Nat))
    (s : State) : ∃ r, s.event src code payload = s.modRecs fun _ => r := by
  simp only [event, eventOf, cond_eq, h, Bool.false_eq_true, if_false]
  split
  · exact ⟨_, rfl⟩
  · exact ⟨s.recs, rfl⟩

/-- The warm flag stands as it is set, and its event touches the records alone (spec 02 R57). -/
theorem setWarm_eq (on : Bool) (s : State) :
    ∃ r, s.setWarm on = (s.modSpindle fun p => { p with warm := on }).modRecs fun _ => r := by
  unfold setWarm
  split
  · next h => exact ⟨s.recs, by rw [← h]; rfl⟩
  · exact event_touches_records (by decide) _ _ _

/-- A completion touches Distaff's handles and responses alone. -/
theorem completeWith_keeps_staged (handle status detail flags : Nat) (boundary : Option LineTime) (result : List Byte)
    (s : State) : ∃ d, d.staged = s.dist.staged
      ∧ s.completeWith handle status detail flags boundary result = s.modDist fun _ => d := by
  unfold completeWith
  split
  · exact ⟨s.dist, rfl, rfl⟩
  · refine ⟨_, ?_, rfl⟩
    rfl

/-! ## Frames -/

theorem modSpindle_modSpindle (g g' : Spindle → Spindle) (s : State) :
    (s.modSpindle g).modSpindle g' = s.modSpindle fun p => g' (g p) := rfl

/-- Changes of Spindle that give the same value are the same change. -/
theorem modSpindle_congr {g g' : Spindle → Spindle} {s : State} (h : g s.spindle = g' s.spindle) :
    s.modSpindle g = s.modSpindle g' := by
  unfold modSpindle
  rw [h]

/-- The end of a frame touches the frames' totals alone, and keeps their canonical form (spec 02 R64). -/
theorem endFrame_eq (s : State) :
    ∃ m, s.endFrame = s.modSpindle (fun p => { p with frames := m })
      ∧ (Store.wf {} s.spindle.frames = true → Store.wf {} m = true) := by
  simp only [endFrame, cond_eq]
  split
  · exact ⟨_, rfl, Store.wf_modify _ _ _ _⟩
  · exact ⟨s.spindle.frames, rfl, id⟩

/-- TIME PAIR touches its own fields and the records alone (spec 02 R60). -/
theorem timePair_eq (f : Nat) (origin : Int) (s : State) :
    ∃ x c r, s.timePair f origin
      = (s.modSpindle fun p => { p with timePairAt := x, changed := c }).modRecs fun _ => r := by
  unfold timePair
  dsimp only
  split
  · obtain ⟨r, h⟩ := event_touches_records (code := 0x26) (by decide) Src.spindle
      [(4, f), (8, s.devField (origin / 4096).toNat)] s
    exact ⟨some s.now, false, r, by rw [h]; rfl⟩
  · exact ⟨s.spindle.timePairAt, s.spindle.changed, s.recs, rfl⟩

/-- A frame that starts takes its number, spends a pending load and is begun; nothing but Spindle and the records changes
(spec 02 R36, R60, R64). -/
theorem beginFrame_eq (f : Nat) (at_ : Int) (s : State) :
    ∃ d m x c r, s.beginFrame f at_ = (s.modSpindle fun p => { p with
        frame := f, line := 0, load := none, numbered := true, depth := d, frames := m, timePairAt := x
        changed := c }).modRecs (fun _ => r)
      ∧ (Store.wf {} s.spindle.frames = true → (Store.read {} m f).begun = true) := by
  obtain ⟨m, hm, hwf⟩ := s.endFrame_eq
  obtain ⟨x, c, r, h⟩ := timePair_eq f (at_ + (s.param Par.lineOffset 0).num * s.linePeriod / 65536)
    (((s.endFrame.modSpindle fun p => { p with
      frame := f, line := 0, load := none, numbered := true
      depth := p.depth.filter fun d => d = f }).tally f fun y => { y with begun := true, past := false }))
  refine ⟨s.spindle.depth.filter fun d => d = f,
    Store.modify {} m f fun y => { (if y.closed then ({} : FrameTally) else y) with begun := true, past := false },
    x, c, r, ?_, fun w => ?_⟩
  · rw [beginFrame, h, hm]
    simp only [tally, modSpindle_modSpindle]
    exact congrArg (modRecs _) (modSpindle_congr rfl)
  · rw [Store.read_modify _ _ _ _ _ (hwf w), if_pos rfl]

/-- FRAME CLOSED closes its frame, and nothing but Spindle and the records changes (spec 02 R64, R65). -/
theorem closeFrame_eq {f : Nat} {s : State} (hn : s.spindle.numbered = true)
    (hc : (Store.read {} s.spindle.frames f).closed = false) (hd : s.frameDone f = true)
    (hr : (s.recs.runs.any fun x => x.frames.contains f) = false) (hw : Store.wf {} s.spindle.frames = true)
    (hs : -4096 < serialDiff f s.spindle.frame) :
    ∃ m r, s.closeFrame f = (s.modSpindle fun p => { p with frames := m }).modRecs (fun _ => r)
      ∧ (Store.read {} m f).closed = true := by
  obtain ⟨r, h⟩ := event_touches_records (code := 0x25) (by decide) Src.spindle
    [(4, f), (4, (Store.read {} s.spindle.frames f).planned), (4, (Store.read {} s.spindle.frames f).fired),
      (4, (Store.read {} s.spindle.frames f).cancelled)] s
  unfold closeFrame
  simp only [hc, hd, hn, hr, Bool.not_true, Bool.false_eq_true, or_self, if_false, h]
  refine ⟨_, r, rfl, ?_⟩
  have hread := Store.read_modify {} s.spindle.frames f f
    (fun y => { (if y.closed then ({} : FrameTally) else y) with closed := true }) hw
  rw [if_pos rfl] at hread
  rw [Store.read_filter_of_kept]
  · exact congrArg FrameTally.closed hread
  · exact Bool.or_eq_true_iff.mpr (.inr (decide_eq_true hs))

/-! ## Line boundaries -/

/-- Nothing but what is staged is due at a line boundary: no port owes an acknowledgement or asks for a sync, and the
filter power of every bank, and of a calibration that runs, is what the device forces (spec 04 R105, 07 R174, 20 R466). -/
structure QuietBoundary (s : State) : Prop where
  owed : ∀ n < 8, (s.port n).owed = none
  asked : ∀ n < 8, (s.port n).asked = none
  forced : ∀ b < 16, (s.bank b).forced = s.reduced
  run : (s.cal.run.all fun r => r.reduced4 || !decide (r.kind = 4)) = true

/-- Only the ports, the banks, the power state and the calibration bear on it. -/
theorem QuietBoundary.of_same {s u : State} (h : QuietBoundary s) (hp : u.ports = s.ports) (hb : u.banks = s.banks)
    (hw : u.power = s.power) (hc : u.cal = s.cal) : QuietBoundary u := by
  obtain ⟨owed, asked, forced, run⟩ := h
  refine ⟨?_, ?_, ?_, hc ▸ run⟩
  · simpa only [port, hp] using owed
  · simpa only [port, hp] using asked
  · simpa only [bank, hb, reduced, blindThermal, hw] using forced

theorem payAcks_eq_self {s : State} (h : QuietBoundary s) : s.payAcks = s :=
  each_eq_self fun n hn => by simp [cond_eq, h.owed n (List.mem_range.mp hn)]

theorem offerSyncs_eq_self {s : State} (h : QuietBoundary s) : s.offerSyncs = s :=
  each_eq_self fun n hn => by simp [offerSync, h.asked n (List.mem_range.mp hn)]

theorem syncReduced_eq_self {s : State} (h : QuietBoundary s) : s.syncReduced = s := by
  have hrun : (s.cal.run.map fun r => { r with reduced4 := r.reduced4 || r.kind = 4 }) = s.cal.run := by
    have hr := h.run
    cases e : s.cal.run with
    | none => rfl
    | some r =>
      simp only [e, Option.all_some, Bool.or_eq_true, Bool.not_eq_true', decide_eq_false_iff_not] at hr
      rw [Option.map_some, show (r.reduced4 || decide (r.kind = 4)) = r.reduced4 by
        rcases hr with hr | hr <;> simp [hr]]
  have hcal : (s.cond s.reduced fun s => s.modCal fun c => { c with
      run := c.run.map fun r => { r with reduced4 := r.reduced4 || r.kind = 4 } }) = s := by
    rw [cond_eq]
    split
    · simp only [modCal, hrun]
    · rfl
  unfold syncReduced
  rw [hcal]
  exact each_eq_self fun b hb => by simp [cond_eq, h.forced b (List.mem_range.mp hb)]

/-- Where no bank changes, no output is marked. -/
theorem withSwapMarks_eq_of_banks {f : State → State} {s : State} (h : (f s).banks = s.banks) :
    s.withSwapMarks f = f s :=
  each_eq_self fun b _ => by simp [cond_eq, bank, h]

theorem applyDue_of_nothing_staged {s : State} (q : QuietBoundary s) (h : s.dist.staged = []) : s.applyDue = s := by
  have hsame : (s.modDist fun d => { d with
      staged := d.staged.filter fun x => x ∉ s.dist.staged.filter s.stagedDue }) = s := by
    simp only [modDist, h, List.filter_nil]
    rw [← h]
  unfold applyDue
  dsimp only
  rw [hsame, h]
  have hall : ((s.each (hopRule ([].filter s.stagedDue)) fun x s =>
      s.applyStaged x (some ⟨s.spindle.frame, s.spindle.line, 0⟩)).syncReduced) = s := syncReduced_eq_self q
  rw [withSwapMarks_eq_of_banks (by rw [hall])]
  exact hall

/-- A load of a code table that is due stands in its Flyer, its command completes, and nothing else becomes due (spec 01
R16, 15 R358). -/
theorem applyDue_of_codes {s : State} {x : Staged} {h b first : Nat} {words : List Word32} (q : QuietBoundary s)
    (hs : s.dist.staged = [x]) (hd : s.stagedDue x = true) (hh : x.handle = some h)
    (hc : x.changes = [.codes b first words]) :
    ∃ d, d.staged = [] ∧ s.applyDue
      = (s.modFlyer b fun f => { f with codes := putWords 0 first words f.codes }).modDist (fun _ => d)
      ∧ QuietBoundary s.applyDue := by
  have hdue : s.dist.staged.filter s.stagedDue = [x] := by simp [hs, hd]
  have hrule : hopRule [x] = [x] := by simp [hopRule, hc]
  have hleft : s.dist.staged.filter (fun y => y ∉ [x]) = [] := by simp [hs]
  obtain ⟨d, hstaged, hcompleted⟩ := completeWith_keeps_staged h 0 0 0 (some ⟨s.spindle.frame, s.spindle.line, 0⟩) []
    ((s.modDist fun d => { d with staged := [] }).modFlyer b fun f => { f with codes := putWords 0 first words f.codes })
  have happly : (s.modDist fun d => { d with staged := [] }).each [x] (fun x s =>
      s.applyStaged x (some ⟨s.spindle.frame, s.spindle.line, 0⟩))
      = (s.modFlyer b fun f => { f with codes := putWords 0 first words f.codes }).modDist fun _ => d := by
    simp only [each, List.foldl_cons, List.foldl_nil, applyStaged, hh, hc]
    exact hcompleted
  have hquiet : QuietBoundary
      ((s.modFlyer b fun f => { f with codes := putWords 0 first words f.codes }).modDist fun _ => d) :=
    q.of_same rfl rfl rfl rfl
  have hstart : (s.modDist fun d => { d with staged := d.staged.filter fun y => y ∉ [x] })
      = s.modDist fun d => { d with staged := [] } := by
    simp only [modDist, hleft]
  have hdone : s.applyDue
      = (s.modFlyer b fun f => { f with codes := putWords 0 first words f.codes }).modDist fun _ => d := by
    unfold applyDue
    dsimp only
    rw [hdue, hrule, hstart, withSwapMarks_eq_of_banks (by rw [happly, syncReduced_eq_self hquiet]; rfl), happly,
      syncReduced_eq_self hquiet]
  exact ⟨d, hstaged, hdone, hdone ▸ hquiet⟩

/-- In LOCKED, strobe mode, the present line is the one that the strobe grid gives, in a frame that it may begin (spec 02
R36, R37). -/
theorem lineArrives_of_locked {s : State} {f l : Nat} (hs : s.spindle.state = .locked) (ht : s.timingMode = 0)
    (hp : s.spindle.phase ≤ fine s.now) (hl : s.strobeLine s.now = (f, l)) :
    s.lineArrives = (if f = s.spindle.frame then s else s.beginFrame f (s.strobeInstant f 0)).modSpindle
      fun p => { p with line := l } := by
  have hfree : s.cond (s.spindle.state = .freeRunning) freeBoundary = s := by simp [cond_eq, hs]
  unfold lineArrives
  dsimp only
  rw [hfree, if_neg (by omega), hl, if_neg (by simp [ht])]

/-- Where line time goes on over a boundary, what is due follows the line's arrival (spec 01 R16, 04 R105). -/
theorem boundary_of_hasTime {s : State} (h : s.spindle.hasTime = true) (k : s.lineArrives.spindle.hasTime = true) :
    s.boundary = s.lineArrives.applyDue.payAcks.offerSyncs := by
  simp [boundary, cond_eq, h, k]

theorem hasTime_of_locked {p : Spindle} (h : p.state = .locked) : p.hasTime = true := by simp [Spindle.hasTime, h]

/-- A quiet boundary with nothing staged does no more than move the line. -/
theorem boundary_of_nothing_staged {s : State} (h : s.spindle.hasTime = true) (k : s.lineArrives.spindle.hasTime = true)
    (q : QuietBoundary s.lineArrives) (hd : s.lineArrives.dist.staged = []) : s.boundary = s.lineArrives := by
  rw [boundary_of_hasTime h k, applyDue_of_nothing_staged q hd, payAcks_eq_self q, offerSyncs_eq_self q]

/-! ## The drift measurement -/

/-- A measurement without a ratio empties the history and ends the warm state (spec 02 R57). -/
theorem measureDrift_none (ocxo : Bool) (s : State) :
    ∃ q, s.measureDrift ocxo none = (s.modSpindle fun p => { p with
      ocxo := ocxo, ratios := [], drift := none, warm := false }).modRecs fun _ => q := by
  obtain ⟨q, h⟩ := setWarm_eq false
    ((s.modSpindle fun p => { p with ocxo := ocxo }).modSpindle fun p => { p with ratios := [], drift := none })
  refine ⟨q, ?_⟩
  simp only [measureDrift, ite_self]
  exact h

/-- The sixteenth of equal ratios, with OCXO_READY high, makes the device warm (spec 02 R57). -/
theorem measureDrift_sixteenth {r : Nat} {s : State} (hr : 0 < r) (hd : s.popt Par.driftSource 0 = 0)
    (hs : s.spindle.state = .locked) (h15 : s.spindle.ratios = List.replicate 15 r) :
    ∃ q, s.measureDrift true (some r) = (s.modSpindle fun p => { p with
      ocxo := true, ratios := List.replicate 16 r, drift := some 0, warm := true }).modRecs fun _ => q := by
  obtain ⟨q, h⟩ := setWarm_eq true ((s.modSpindle fun p => { p with ocxo := true }).modSpindle fun p => { p with
    ratios := List.replicate 16 r, drift := some 0 })
  refine ⟨q, ?_⟩
  have hd' : (s.modSpindle fun p => { p with ocxo := true }).popt Par.driftSource 0 = 0 := hd
  have hrs : List.replicate 15 r ++ [r] = List.replicate 16 r := rfl
  have hhi : (List.replicate 16 r).foldl max 0 = r := by simp [List.replicate]
  have hlo : (List.replicate 16 r).foldl min r = r := by simp [List.replicate]
  have hgood : 0 < 20 * (List.replicate 16 r).sum := by simp [hr]
  have hdrift : driftOf (List.replicate 16 r) = 0 := by simp [driftOf, List.replicate]
  simp only [measureDrift, hd', modSpindle_spindle, hs, h15, hrs, List.length_replicate, Nat.sub_self, List.drop_zero,
    hhi, hlo, Nat.zero_mul, hgood, hdrift, decide_true, if_true, Bool.and_self]
  exact h

/-- A first ratio begins the history; it says nothing of drift yet (spec 02 R57). -/
theorem measureDrift_first {ocxo : Bool} {r : Nat} {s : State} (hd : s.popt Par.driftSource 0 ≠ 0)
    (h0 : s.spindle.ratios = []) :
    ∃ w q, s.measureDrift ocxo (some r) = (s.modSpindle fun p => { p with
      ocxo := ocxo, ratios := [r], warm := w }).modRecs fun _ => q := by
  have hd' : (s.modSpindle fun p => { p with ocxo := ocxo }).popt Par.driftSource 0 ≠ 0 := hd
  obtain ⟨q, h⟩ := setWarm_eq false ((s.modSpindle fun p => { p with ocxo := ocxo }).modSpindle fun p => { p with
    ratios := [r] })
  cases ocxo with
  | true =>
    have hkeep : s.measureDrift true (some r) = (s.modSpindle fun p => { p with ocxo := true }).modSpindle fun p =>
        { p with ratios := [r] } := by simp [measureDrift, hd', h0]
    exact ⟨s.spindle.warm, s.recs, hkeep.trans rfl⟩
  | false =>
    have hcool : s.measureDrift false (some r) = ((s.modSpindle fun p => { p with ocxo := false }).modSpindle fun p =>
        { p with ratios := [r] }).setWarm false := by simp [measureDrift, hd', h0]
    exact ⟨false, q, hcool.trans h⟩

/-- With the camera strobe as the source the measurement takes the ratio that the strobe gives (spec 02 R57). -/
theorem takeDrift_of_strobe {ocxo : Bool} {strobe : Option Nat} {s : State} (hd : s.popt Par.driftSource 0 = 0)
    (due : ∀ x, s.spindle.driftAt = some x → x + us 1000000 ≤ s.now) :
    s.takeDrift ocxo strobe = (s.modSpindle fun p => { p with driftAt := some s.now }).measureDrift ocxo strobe := by
  have hdue : s.driftDue = true := by simpa [driftDue, hd, Option.all_eq_true] using due
  have hratio : s.driftRatio strobe = strobe := by simp [driftRatio, hd]
  simp [takeDrift, hdue, hratio, hd]

/-- With an AUXF input as the source the measurement takes, and spends, the result of the input's last gate (spec 02 R57,
08 R212). -/
theorem takeDrift_of_gate {ocxo : Bool} {strobe : Option Nat} {i m d : Nat} {s : State}
    (hd : s.popt Par.driftSource 0 = i + 1) (hg : (s.aux i).driftDone = some (m, d))
    (due : ∀ x, s.spindle.driftAt = some x → x + us 1000000 ≤ s.now) :
    s.takeDrift ocxo strobe = ((s.modSpindle fun p => { p with driftAt := some s.now }).measureDrift ocxo
      (some (quotOpen (2 ^ 32 * d : Nat) (max 1 (m * s.prescale i))).toNat)).modAux i fun a =>
        { a with driftDone := none } := by
  have hdue : s.driftDue = true := by simpa [driftDue, hd, hg, Option.all_eq_true] using due
  have hratio : s.driftRatio strobe = some (quotOpen (2 ^ 32 * d : Nat) (max 1 (m * s.prescale i))).toNat := by
    simp [driftRatio, hd, hg]
  simp [takeDrift, hdue, hratio, hd, hg, cond_eq]

/-! ## Parts kept by key -/

/-- A Flyer reads as it was changed. -/
theorem flyer_modFlyer_same {s : State} (h : s.wf = true) (b : Nat) (g : Flyer → Flyer) :
    (s.modFlyer b g).flyer b = g (s.flyer b) := by
  simp only [wf, partsWf, Bool.and_eq_true] at h
  obtain ⟨-, ⟨⟨⟨⟨⟨⟨⟨⟨hflyers, -⟩, -⟩, -⟩, -⟩, -⟩, -⟩, -⟩, -⟩⟩ := h
  exact Store.read_write_same _ _ none b _ hflyers

/-- An AUXF input reads as it was changed. -/
theorem aux_modAux_same {s : State} (h : s.wf = true) (i : Nat) (g : Auxf → Auxf) :
    (s.modAux i g).aux i = g (s.aux i) := by
  simp only [wf, partsWf, Bool.and_eq_true] at h
  obtain ⟨-, ⟨⟨-, hauxf⟩, -⟩, -⟩ := h
  exact Store.read_write_same _ _ none i _ hauxf

end State

/-! ## The events -/

/-- FRAME_ACK_PULSE drives the pulse that is owed (spec 02 R34, R35). -/
theorem exec_frameAckPulse {t a : Tick} {d : Bool} {s : State} (ho : s.spindle.ack = some (a, d)) (ha : a + ns 100 ≤ t)
    (ht : s.now ≤ t) (hdev : s.dev.fromSafe = true) (hm : s.timingMode ≠ 2) :
    exec (.frameAckPulse t) s = .next ((s.advance t).modSpindle fun p =>
      { p with ack := none, ackPulse := some (t, if d then 16 else 48) }) := by
  have hnow : (s.advance t).now = t := by simp [ht]
  have hopen : ¬((s.advance t).now < a + ns 100 ∨ (!(s.advance t).dev.fromSafe) = true
      ∨ (s.advance t).timingMode = 2) := by
    rintro (h | h | h)
    · exact Nat.not_lt.mpr ha (hnow ▸ h)
    · simp [hdev] at h
    · exact hm h
  change Host.Outcome.next (s.advance t).ackPulse = _
  simp only [State.ackPulse, State.advance_spindle, ho]
  rw [if_neg hopen, hnow]

/-- FRAME_CLOSED closes a frame without anything outstanding (spec 02 R64, R65). -/
theorem exec_frameClosed {t : Tick} {f : Nat} {s : State} (hn : s.spindle.numbered = true)
    (hc : (Store.read {} s.spindle.frames f).closed = false) (hd : (s.advance t).frameDone f = true)
    (hr : (s.recs.runs.all fun x => !x.frames.contains f) = true) (hw : Store.wf {} s.spindle.frames = true)
    (hs : -4096 < serialDiff f s.spindle.frame) :
    ∃ u, exec (.frameClosed t f) s = .next u ∧ (Store.read {} u.spindle.frames f).closed = true
      ∧ u = { s with clock := u.clock, spindle := u.spindle, recs := u.recs } := by
  have hr' : (s.recs.runs.any fun x => x.frames.contains f) = false := by simpa using hr
  obtain ⟨m, r, h, hclosed⟩ := State.closeFrame_eq (s := s.advance t) hn hc hd hr' hw hs
  exact ⟨_, congrArg Host.Outcome.next h, hclosed, rfl⟩

/-- EPOCH_WRAP turns the epoch bit (spec 02 R58). -/
theorem exec_epochWrap {t : Tick} {s : State} (h : (s.advance t).epochAt (max s.now t) ≠ s.clock.epoch) :
    ∃ u, exec (.epochWrap t) s = .next u ∧ u.clock.epoch = !s.clock.epoch
      ∧ u = { s with clock := u.clock, recs := u.recs } := by
  have hne : ¬(s.advance t).clock.epoch = (s.advance t).epochAt (s.advance t).now := fun e => h e.symm
  have hturn : (s.advance t).epochAt (s.advance t).now = !s.clock.epoch := Bool.eq_not_of_ne h
  obtain ⟨r, hr⟩ := State.event_touches_records (code := 0x29) (by decide) Src.spindle
    [(1, ((s.advance t).epochAt (s.advance t).now).toNat)]
    ((s.advance t).modClock fun c => { c with epoch := (s.advance t).epochAt (s.advance t).now })
  have hwrap : (s.advance t).wrapEpoch
      = ((s.advance t).modClock fun c => { c with epoch := (s.advance t).epochAt (s.advance t).now }).modRecs
        fun _ => r := by
    unfold State.wrapEpoch
    dsimp only
    rw [if_neg hne, hr]
  exact ⟨_, congrArg Host.Outcome.next hwrap, hturn, rfl⟩

/-- OCXO_READY_FALL ends the warm state (spec 02 R57). -/
theorem exec_ocxoReadyFall (t : Tick) (s : State) :
    ∃ u, exec (.ocxoReadyFall t) s = .next u ∧ u.spindle.ocxo = false ∧ u.spindle.warm = false
      ∧ u = { s with clock := u.clock, spindle := u.spindle, recs := u.recs } := by
  obtain ⟨r, h⟩ := State.setWarm_eq false ((s.advance t).modSpindle fun p => { p with ocxo := false })
  exact ⟨_, congrArg Host.Outcome.next h, rfl, rfl, rfl⟩

section LineBoundary

variable {t : Tick} {f l : Nat} {s : State}

/-- LINE_BOUNDARY inside a frame moves the present line (spec 02 R36). -/
theorem exec_lineBoundary_same_frame (hs : s.spindle.state = .locked) (ht : s.timingMode = 0)
    (hp : s.spindle.phase ≤ fine (max s.now t)) (hl : s.strobeLine (max s.now t) = (f, l)) (q : State.QuietBoundary s)
    (hf : f = s.spindle.frame) (hd : s.dist.staged = []) :
    exec (.lineBoundary t) s = .next ((s.advance t).modSpindle fun p => { p with line := l }) := by
  have harr := State.lineArrives_of_locked (s := s.advance t) hs ht hp hl
  rw [if_pos (show f = (s.advance t).spindle.frame from hf)] at harr
  have h := State.boundary_of_nothing_staged (s := s.advance t) (State.hasTime_of_locked hs)
    (harr ▸ State.hasTime_of_locked hs) (harr ▸ q.of_same rfl rfl rfl rfl) (harr ▸ hd)
  exact congrArg Host.Outcome.next (h.trans harr)

/-- LINE_BOUNDARY at the first line of a frame begins it (spec 02 R36, R64). -/
theorem exec_lineBoundary_new_frame (hs : s.spindle.state = .locked) (ht : s.timingMode = 0)
    (hp : s.spindle.phase ≤ fine (max s.now t)) (hl : s.strobeLine (max s.now t) = (f, l)) (q : State.QuietBoundary s)
    (hf : f ≠ s.spindle.frame) (hd : s.dist.staged = []) :
    ∃ u, exec (.lineBoundary t) s = .next u ∧ u.spindle.frame = f ∧ u.spindle.line = l ∧ u.spindle.load = none
      ∧ (Store.wf {} s.spindle.frames = true → (Store.read {} u.spindle.frames f).begun = true)
      ∧ u = { s with clock := u.clock, spindle := u.spindle, recs := u.recs } := by
  have harr := State.lineArrives_of_locked (s := s.advance t) hs ht hp hl
  obtain ⟨d, m, x, c, r, hb, hbegun⟩ := State.beginFrame_eq f ((s.advance t).strobeInstant f 0) (s.advance t)
  rw [if_neg (show f ≠ (s.advance t).spindle.frame from hf), hb] at harr
  have h := State.boundary_of_nothing_staged (s := s.advance t) (State.hasTime_of_locked hs)
    (harr ▸ State.hasTime_of_locked hs) (harr ▸ q.of_same rfl rfl rfl rfl) (harr ▸ hd)
  exact ⟨_, congrArg Host.Outcome.next (h.trans harr), rfl, rfl, rfl, hbegun, rfl⟩

/-- LINE_BOUNDARY applies a load of a code table that is staged for the line or one before it (spec 01 R16). -/
theorem exec_lineBoundary_codes {h b first at_ : Nat} {words : List Word32} (hs : s.spindle.state = .locked)
    (ht : s.timingMode = 0) (hp : s.spindle.phase ≤ fine (max s.now t)) (hl : s.strobeLine (max s.now t) = (f, l))
    (q : State.QuietBoundary s) (hf : f = s.spindle.frame) (hw : s.wf = true) (hat : at_ ≤ l)
    (hd : s.dist.staged = [⟨f, at_, false, some h, [.codes b first words], none⟩]) :
    ∃ u, exec (.lineBoundary t) s = .next u ∧ u.dist.staged = [] ∧ u.spindle.line = l
      ∧ (u.flyer b).codes = State.putWords 0 first words (s.flyer b).codes
      ∧ u = { s with clock := u.clock, spindle := u.spindle, flyers := u.flyers, dist := u.dist } := by
  have harr := State.lineArrives_of_locked (s := s.advance t) hs ht hp hl
  rw [if_pos (show f = (s.advance t).spindle.frame from hf)] at harr
  have harrives := State.boundary_of_hasTime (s := s.advance t) (State.hasTime_of_locked hs)
    (harr ▸ State.hasTime_of_locked hs)
  have hdue : ((s.advance t).modSpindle fun p => { p with line := l }).stagedDue
      ⟨f, at_, false, some h, [.codes b first words], none⟩ = true := by
    simp [State.stagedDue, hf, hat]
  obtain ⟨d, hstaged, hdone, hquiet⟩ := State.applyDue_of_codes
    (s := (s.advance t).modSpindle fun p => { p with line := l }) (q.of_same rfl rfl rfl rfl) hd hdue rfl rfl
  rw [harr, State.payAcks_eq_self hquiet, State.offerSyncs_eq_self hquiet, hdone] at harrives
  refine ⟨_, congrArg Host.Outcome.next harrives, hstaged, rfl, ?_, rfl⟩
  exact congrArg Flyer.codes (State.flyer_modFlyer_same hw b fun f =>
    { f with codes := State.putWords 0 first words f.codes })

end LineBoundary

section Drift

variable {t : Tick} {s : State}

/-- DRIFT_MEASUREMENT without a ratio (spec 02 R57). -/
theorem exec_driftMeasurement_none (due : ∀ x, s.spindle.driftAt = some x → x + us 1000000 ≤ max s.now t) (ocxo : Bool)
    (hd : s.popt Par.driftSource 0 = 0) :
    ∃ u, exec (.driftMeasurement t ocxo none) s = .next u
      ∧ u.spindle.ocxo = ocxo ∧ u.spindle.warm = false ∧ u.spindle.ratios = [] ∧ u.spindle.drift = none
      ∧ u.spindle.driftAt = some (max s.now t) ∧ u = { s with clock := u.clock, spindle := u.spindle, recs := u.recs } := by
  have htake := State.takeDrift_of_strobe (s := s.advance t) (ocxo := ocxo) (strobe := none) hd due
  obtain ⟨q, h⟩ := State.measureDrift_none ocxo
    ((s.advance t).modSpindle fun p => { p with driftAt := some (s.advance t).now })
  exact ⟨_, congrArg Host.Outcome.next (htake.trans h), rfl, rfl, rfl, rfl, rfl, rfl⟩

/-- DRIFT_MEASUREMENT with the sixteenth of equal ratios (spec 02 R57). -/
theorem exec_driftMeasurement_sixteenth (due : ∀ x, s.spindle.driftAt = some x → x + us 1000000 ≤ max s.now t) {r : Nat}
    (hr : 0 < r) (hd : s.popt Par.driftSource 0 = 0) (hs : s.spindle.state = .locked)
    (h15 : s.spindle.ratios = List.replicate 15 r) :
    ∃ u, exec (.driftMeasurement t true (some r)) s = .next u ∧ u.spindle.warm = true
      ∧ u.spindle.ratios = List.replicate 16 r ∧ u.spindle.drift = some 0
      ∧ u = { s with clock := u.clock, spindle := u.spindle, recs := u.recs } := by
  have htake := State.takeDrift_of_strobe (s := s.advance t) (ocxo := true) (strobe := some r) hd due
  obtain ⟨q, h⟩ := State.measureDrift_sixteenth
    (s := (s.advance t).modSpindle fun p => { p with driftAt := some (s.advance t).now }) hr hd hs h15
  exact ⟨_, congrArg Host.Outcome.next (htake.trans h), rfl, rfl, rfl, rfl⟩

/-- DRIFT_MEASUREMENT by the last gate of an AUXF input (spec 02 R57, 08 R212). -/
theorem exec_driftMeasurement_gate (due : ∀ x, s.spindle.driftAt = some x → x + us 1000000 ≤ max s.now t) {i m d : Nat}
    (ocxo : Bool) (ratio : Option Nat) (hd : s.popt Par.driftSource 0 = i + 1) (hg : (s.aux i).driftDone = some (m, d))
    (h0 : s.spindle.ratios = []) (hw : s.wf = true) :
    ∃ u, exec (.driftMeasurement t ocxo ratio) s = .next u ∧ (u.aux i).driftDone = none
      ∧ u.spindle.ratios = [(quotOpen (2 ^ 32 * d : Nat) (max 1 (m * s.prescale i))).toNat]
      ∧ u = { s with clock := u.clock, spindle := u.spindle, auxf := u.auxf, recs := u.recs } := by
  have htake := State.takeDrift_of_gate (s := s.advance t) (ocxo := ocxo) (strobe := ratio) hd hg due
  have hsource : ((s.advance t).modSpindle fun p => { p with driftAt := some (s.advance t).now }).popt Par.driftSource 0
      ≠ 0 := fun e => by
    have : s.popt Par.driftSource 0 = 0 := e
    omega
  obtain ⟨w, q, h⟩ := State.measureDrift_first (ocxo := ocxo)
    (r := (quotOpen (2 ^ 32 * d : Nat) (max 1 (m * (s.advance t).prescale i))).toNat) hsource h0
  rw [h] at htake
  refine ⟨_, congrArg Host.Outcome.next htake, ?_, rfl, rfl⟩
  exact congrArg Auxf.driftDone (State.aux_modAux_same hw i fun a => { a with driftDone := none })

end Drift

/-- Settles O9: each clause follows from the equation of its event's operation. -/
theorem timeBaseEventsTakeEffect : Obligations.TimeBaseEventsTakeEffect := by
  unfold Obligations.TimeBaseEventsTakeEffect
  refine ⟨⟨?pulse, ?closed, ?wrap, ?fall⟩, ?boundary, ?drift⟩
  case pulse => exact fun t a d s ho ha ht hdev hm => exec_frameAckPulse ho ha ht hdev hm
  case closed => exact fun t f s hn hc hd hr hw hs => exec_frameClosed hn hc hd hr hw hs
  case wrap => exact fun t s h => exec_epochWrap h
  case fall => exact fun t s _ => exec_ocxoReadyFall t s
  case boundary =>
    intro t f l s hs ht hp hl hports hforced hrun
    have q : State.QuietBoundary s :=
      ⟨fun n hn => (hports n hn).1, fun n hn => (hports n hn).2, hforced, hrun⟩
    refine ⟨fun hf hd => ?_, fun hf hd => ?_, fun h b first words at_ hf hw _ hat hd => ?_⟩
    · exact exec_lineBoundary_same_frame hs ht hp hl q hf hd
    · exact exec_lineBoundary_new_frame hs ht hp hl q hf hd
    · exact exec_lineBoundary_codes hs ht hp hl q hf hw hat hd
  case drift =>
    intro t s due
    refine ⟨fun ocxo hd => ?_, fun r hr hd hs h15 => ?_, fun i ocxo ratio m d hd hg h0 hw => ?_⟩
    · exact exec_driftMeasurement_none due ocxo hd
    · exact exec_driftMeasurement_sixteenth due hr hd hs h15
    · exact exec_driftMeasurement_gate due ocxo ratio hd hg h0 hw

end Machine
end Sys2Proof
end

section
/-! PROOFS. Strobes (spec 02 R33-R46): what fixing the Flyers' plans leaves as it was, and what Spindle makes of an edge, of
a FRAME_STROBE and of an edge that is missing. -/

namespace Sys2Proof

/-- A value other than the default reads back from where it was written, whatever the store's order. -/
theorem Store.read_write_of_ne_default {α : Type} [DecidableEq α] {d v : α} (h : v ≠ d) (m : Store α) (k j : Nat) :
    Store.read d (Store.write d m k v) j = if j = k then v else Store.read d m j := by
  induction m with
  | nil => simp [Store.write, Store.read, h]
  | cons x r ih =>
    obtain ⟨k', v'⟩ := x
    rw [Store.write, if_neg h, if_neg h]
    split_ifs with hlt heq hj hj <;> grind [Store.read]

namespace Machine

namespace State

/-- Without a run no edge is a timing source (spec 08 R208). -/
theorem statEvent_of_no_runs {s : State} (h : s.runs = []) (src : Source) (x : Tick) : s.statEvent src x = s := by
  have hmap : (s.modRuns fun l => l.map fun r => StatRun.take r src x) = s := by
    simp only [modRuns, h, List.map_nil]
    rw [← h]
  simp [statEvent, eachRun, hmap, h, each]

/-- What each step of a list keeps, in a relation that composes, all of them keep. -/
theorem each_rel {α : Type} {R : State → State → Prop} (refl : ∀ s, R s s) (trans : ∀ {a b c}, R a b → R b c → R a c)
    {f : α → State → State} (h : ∀ a s, R s (f a s)) (l : List α) (s : State) : R s (s.each l f) := by
  unfold each
  induction l generalizing s with
  | nil => exact refl s
  | cons a l ih => exact trans (h a s) (ih _)

/-! ## Plans -/

/-- Nothing but Flyers changes, and of each Flyer nothing but its plan (spec 03 R74). -/
structure PlansFixed (s u : State) : Prop where
  only : u = { s with flyers := u.flyers }
  flyer : ∀ b, ∃ p, u.flyer b = { s.flyer b with plan := p }

theorem PlansFixed.refl (s : State) : PlansFixed s s := ⟨rfl, fun b => ⟨(s.flyer b).plan, rfl⟩⟩

theorem PlansFixed.trans {a b c : State} (h : PlansFixed a b) (k : PlansFixed b c) : PlansFixed a c := by
  refine ⟨?_, fun i => ?_⟩
  · rw [k.only, h.only]
  · obtain ⟨p, hp⟩ := h.flyer i
    obtain ⟨q, hq⟩ := k.flyer i
    exact ⟨q, by rw [hq, hp]⟩

theorem PlansFixed.eq_modFlyers {s u : State} (h : PlansFixed s u) : u = s.modFlyers fun _ => u.flyers := h.only

theorem PlansFixed.spindle {s u : State} (h : PlansFixed s u) : u.spindle = s.spindle := by rw [h.only]

/-- A plan that is set is read back, and no other Flyer changes. -/
theorem modFlyer_plan_plansFixed (b : Nat) (x : Tick × Bool) (s : State) :
    PlansFixed s (s.modFlyer b fun f => { f with plan := some x }) := by
  refine ⟨rfl, fun i => ?_⟩
  have hne : ({ s.flyer b with plan := some x } : Flyer) ≠ {} := fun e => by
    have := congrArg Flyer.plan e
    simp at this
  have hread := Store.read_write_of_ne_default hne s.flyers b i
  by_cases h : i = b
  · rw [if_pos h] at hread
    exact ⟨some x, hread.trans (by rw [h])⟩
  · rw [if_neg h] at hread
    exact ⟨(s.flyer i).plan, hread⟩

/-- Fixing the Flyers' plans fixes plans alone (spec 03 R74). -/
theorem fixPlans_plansFixed (s : State) : PlansFixed s s.fixPlans := by
  rw [fixPlans, cond_eq]
  split
  · refine each_rel PlansFixed.refl PlansFixed.trans (fun b u => ?_) _ s
    cases u.planOf b with
    | none => exact .refl u
    | some x =>
      dsimp only
      rw [cond_eq]
      split
      · exact modFlyer_plan_plansFixed b x u
      · exact .refl u
  · exact .refl s

/-- Without line time no plan is fixed. -/
theorem fixPlans_of_no_time {s : State} (h : s.spindle.hasTime = false) : s.fixPlans = s := by
  simp [fixPlans, cond_eq, h]

/-- Fixed plans do not bear on which shot tables are active (spec 02 R34). -/
theorem PlansFixed.activeFor {s u : State} (h : PlansFixed s u) (f : Nat) : u.activeFor f = s.activeFor f := by
  have hspindle : u.spindle = s.spindle := by rw [h.only]
  unfold State.activeFor
  refine congrArg (List.any _) (funext fun b => ?_)
  obtain ⟨p, hp⟩ := h.flyer b
  rw [hp, hspindle]

/-- Nor on the answer to a FRAME_STROBE (spec 02 R34). -/
theorem PlansFixed.answersDepth {s u : State} (h : PlansFixed s u) (f : Nat) : u.answersDepth f = s.answersDepth f := by
  unfold State.answersDepth
  rw [h.activeFor f, h.only]
  rfl

theorem timingMode_of_dist {s u : State} (h : u.dist = s.dist) : u.timingMode = s.timingMode := by
  simp only [timingMode, popt, param, paramAt, h]

/-! ## FRAME_STROBE -/

/-- An edge less than 4.0 us after the last is stray (spec 02 R41). -/
theorem frameStrobe_of_early {t : Tick} {s : State}
    (h : (s.spindle.lastFrameEdge.any fun l => decide (t < l + ns 4000)) = true) :
    s.frameStrobe t = s.modSpindle fun p => { p with strays := (p.strays + 1) % 2 ^ 32 } := by
  rw [frameStrobe, if_pos h]

/-- An answer touches what FRAME_ACK owes, and from SAFE on it is the one that R34 gives (spec 02 R34, R35). -/
theorem oweAck_eq (f : Nat) (s : State) :
    ∃ a d, s.oweAck f = s.modSpindle (fun p => { p with ack := a, depth := d })
      ∧ (s.dev.fromSafe = true → a = some (s.now, s.answersDepth f)) := by
  simp only [oweAck, cond_eq]
  split
  · exact ⟨_, _, rfl, fun _ => rfl⟩
  · next h => exact ⟨s.spindle.ack, s.spindle.depth, rfl, fun k => absurd k h⟩

/-- An edge 4.0 us or more after the last, at the end of a frame of the declared lines, makes the next line strobe line 0 and
owes the answer (spec 02 R33, R34). -/
theorem frameStrobe_of_frame {t : Tick} {s : State}
    (h : (s.spindle.lastFrameEdge.any fun l => decide (t < l + ns 4000)) = false)
    (hlines : s.spindle.hasTime = true → s.linesSeen t = s.spindle.lines) :
    ∃ p, s.frameStrobe t = s.fixPlans.modSpindle (fun _ => p) ∧ p.restart = some t ∧ p.lastFrameEdge = some t
      ∧ p.frameSeen = true ∧ p.strays = s.spindle.strays
      ∧ (s.dev.fromSafe = true → p.ack = some (s.now, s.answersDepth s.spindle.nextFrame)) := by
  have hfixed := fixPlans_plansFixed s
  generalize hu : s.fixPlans = u at hfixed
  have hcount : (s.spindle.hasTime && decide (s.linesSeen t ≠ s.spindle.lines)) = false := by
    cases hh : s.spindle.hasTime with
    | false => rfl
    | true => simp [hlines hh]
  have hskip : ((u.modSpindle fun p => { p with lastFrameEdge := some t }).spindle.hasTime
      && decide ((u.modSpindle fun p => { p with lastFrameEdge := some t }).linesSeen t
        ≠ (u.modSpindle fun p => { p with lastFrameEdge := some t }).spindle.lines)) = false := by
    simp only [modSpindle_spindle, linesSeen, hfixed.spindle]
    exact hcount
  have hnext : (u.modSpindle fun p => { p with lastFrameEdge := some t }).spindle.nextFrame = s.spindle.nextFrame := by
    rw [modSpindle_spindle, hfixed.spindle]
    rfl
  obtain ⟨a, d, howe, hack⟩ := oweAck_eq s.spindle.nextFrame (u.modSpindle fun p => { p with lastFrameEdge := some t })
  have hanswer : (u.modSpindle fun p => { p with lastFrameEdge := some t }).answersDepth s.spindle.nextFrame
      = s.answersDepth s.spindle.nextFrame := hfixed.answersDepth _
  have hdev : (u.modSpindle fun p => { p with lastFrameEdge := some t }).dev = s.dev := by rw [hfixed.only]; rfl
  have hnow : (u.modSpindle fun p => { p with lastFrameEdge := some t }).now = s.now := by rw [hfixed.only]; rfl
  rw [hdev, hanswer, hnow] at hack
  rw [frameStrobe, h, if_neg Bool.false_ne_true, hu]
  dsimp only
  rw [hskip, cond_eq, if_neg Bool.false_ne_true, hnext, howe]
  have hstrays : u.spindle.strays = s.spindle.strays := by rw [hfixed.spindle]
  exact ⟨_, rfl, rfl, rfl, rfl, hstrays, hack⟩

end State

/-- What lies no earlier than a distance after an instant does not lie before it. -/
theorem any_lt_eq_false_of_all_le {t c : Tick} {o : Option Tick} (h : (o.all fun l => decide (l + c ≤ t)) = true) :
    (o.any fun l => decide (t < l + c)) = false := by
  cases o with
  | none => rfl
  | some l => exact decide_eq_false (Nat.not_lt.mpr (of_decide_eq_true h))

section FrameStrobe

variable {t : Tick} {s : State}

/-- FRAME_STROBE_EDGE in strobe mode, where no run takes strobes, is a frame strobe. -/
theorem exec_frameStrobeEdge (hle : s.now ≤ t) (hm : s.timingMode = 0) (hi : s.spindle.state ≠ .idle) (hr : s.runs = []) :
    exec (.frameStrobeEdge t) s = .next ((s.advance t).frameStrobe t) := by
  have hnow : (s.advance t).now = t := by simp [hle]
  have hm' : (s.advance t).timingMode = 0 := hm
  have hi' : (s.advance t).spindle.state ≠ .idle := hi
  have hstat : (s.advance t).strobeStat .frameStrobe = s.advance t := State.statEvent_of_no_runs (by simpa using hr) _ _
  change Host.Outcome.next (((s.advance t).strobeStat .frameStrobe).frameEdge (s.advance t).now) = _
  rw [hstat, hnow, State.frameEdge, if_pos hm', if_neg hi']

/-- FRAME_STROBE_EDGE 4.0 us or more after the last (spec 02 R33, R34, R41). -/
theorem exec_frameStrobeEdge_accepted (hle : s.now ≤ t) (hm : s.timingMode = 0) (hi : s.spindle.state ≠ .idle)
    (hr : s.runs = []) (h : (s.spindle.lastFrameEdge.all fun l => decide (l + ns 4000 ≤ t)) = true)
    (hlines : s.spindle.hasTime = true → (s.advance t).linesSeen t = s.spindle.lines) :
    ∃ u, exec (.frameStrobeEdge t) s = .next u ∧ u.spindle.restart = some t ∧ u.spindle.lastFrameEdge = some t
      ∧ u.spindle.frameSeen = true ∧ u.spindle.strays = s.spindle.strays
      ∧ (s.dev.fromSafe = true → u.spindle.ack = some (t, (s.advance t).answersDepth s.spindle.nextFrame))
      ∧ u = { s with clock := u.clock, spindle := u.spindle, flyers := (s.advance t).fixPlans.flyers } := by
  have hlate : ((s.advance t).spindle.lastFrameEdge.any fun l => decide (t < l + ns 4000)) = false :=
    any_lt_eq_false_of_all_le h
  obtain ⟨p, hp, hrestart, hlast, hseen, hstrays, hack⟩ := State.frameStrobe_of_frame (s := s.advance t) hlate hlines
  have hexec := (exec_frameStrobeEdge hle hm hi hr).trans (congrArg Host.Outcome.next hp)
  rw [(State.fixPlans_plansFixed (s.advance t)).eq_modFlyers] at hexec
  rw [show (s.advance t).now = t by simp [hle]] at hack
  exact ⟨_, hexec, hrestart, hlast, hseen, hstrays, hack, rfl⟩

/-- FRAME_STROBE_EDGE earlier than that (spec 02 R41). -/
theorem exec_frameStrobeEdge_stray (hle : s.now ≤ t) (hm : s.timingMode = 0) (hi : s.spindle.state ≠ .idle)
    (hr : s.runs = []) (h : (s.spindle.lastFrameEdge.any fun l => decide (t < l + ns 4000)) = true) :
    exec (.frameStrobeEdge t) s = .next ((s.advance t).modSpindle fun p =>
      { p with strays := (p.strays + 1) % 2 ^ 32 }) :=
  (exec_frameStrobeEdge hle hm hi hr).trans (congrArg Host.Outcome.next (State.frameStrobe_of_early h))

end FrameStrobe

/-- Settles O6: an accepted edge and a stray one are the two forms of a frame strobe. -/
theorem frameStrobeAnsweredOrStray : Obligations.FrameStrobeAnsweredOrStray := by
  unfold Obligations.FrameStrobeAnsweredOrStray
  intro t s hle hm hi hr
  exact ⟨exec_frameStrobeEdge_accepted hle hm hi hr, exec_frameStrobeEdge_stray hle hm hi hr⟩

end Machine
end Sys2Proof
end

section
/-! PROOFS. Line strobes and the acceptance window (spec 02 R33, R37, R42-R48). -/

namespace Sys2Proof.Machine

namespace State

/-! ## The tracked line -/

/-- Without line time the tracked line moves on, or is line 0 where a frame starts (spec 02 R33, R37). -/
theorem advanceLine_of_no_time {s : State} (h : s.spindle.hasTime = false) (t : Tick) :
    s.advanceLine t = s.modSpindle fun p => { p with
      gridLine := if decide (s.timingMode = 1) || s.frameDue t then 0 else p.gridLine + 1
      restart := if decide (s.timingMode = 1) || s.frameDue t then none else p.restart } := by
  have hstep : (s.modSpindle fun p => { p with gridLine := p.gridLine + 1 }).spindle.hasTime = false := h
  have hstay (x : Prop) : ¬((s.modSpindle fun p => { p with gridLine := p.gridLine + 1 }).spindle.hasTime = true ∧ x) :=
    fun k => Bool.false_ne_true (hstep.symm.trans k.1)
  unfold advanceLine
  rw [h, Bool.false_and, Bool.or_false]
  split
  · rw [if_neg Bool.false_ne_true]
  · exact if_neg (hstay _)

/-- Inside a frame an edge moves the tracked line on, and with it the present one where that stands in the same frame (spec 02
R37). -/
theorem advanceLine_inside_frame {t : Tick} {s : State} (hm : s.timingMode ≠ 1) (hd : s.frameDue t = false)
    (hl : s.spindle.gridLine + 1 < s.spindle.lines) :
    ∃ l, s.advanceLine t = s.modSpindle fun p => { p with gridLine := p.gridLine + 1, line := l } := by
  have hover : s.frameOver = false := by simp [frameOver, hl.ne]
  unfold advanceLine
  simp only [hm, hd, hover, decide_false, Bool.or_self, Bool.and_false, Bool.false_eq_true, if_false]
  split
  · exact ⟨_, rfl⟩
  · exact ⟨s.spindle.line, rfl⟩

/-! ## An edge in LOCKED, HOLDOVER and ACQUIRING -/

theorem trackEdge_of_acquiring {s : State} (h : s.spindle.state = .acquiring) (t : Tick) :
    s.trackEdge t = s.acquireEdge t := by
  have hnone : s.spindle.hasTime = false := by simp [Spindle.hasTime, h]
  simp [trackEdge, fixPlans_of_no_time hnone, h]

theorem trackEdge_of_follows {s : State} (h : s.spindle.state = .locked ∨ s.spindle.state = .holdover) (t : Tick) :
    s.trackEdge t = s.fixPlans.followEdge t := by
  have hsame := (fixPlans_plansFixed s).spindle
  rcases h with h | h <;> simp [trackEdge, hsame, h]

/-- A stray edge before the sixteenth in a row is only counted (spec 02 R43). -/
theorem strayEdge_of_few {s : State} (h : s.spindle.strayRun < 15) :
    s.strayEdge = s.modSpindle fun p => { p with strays := (p.strays + 1) % 2 ^ 32, strayRun := p.strayRun + 1 } := by
  have hfew : s.spindle.strayRun + 1 < 16 := by omega
  simp [strayEdge, hfew]

/-- An edge outside the acceptance window is stray, in ACQUIRING once a seed stands (spec 02 R43). -/
theorem trackEdge_of_outside {t : Tick} {s : State}
    (h : s.spindle.state = .locked ∨ s.spindle.state = .holdover ∨ (s.spindle.state = .acquiring ∧ s.spindle.seeded = true))
    (he : s.acceptance < (s.phaseError t).natAbs) : s.trackEdge t = s.fixPlans.strayEdge := by
  have hfollow (u : State) (hu : u.acceptance < (u.phaseError t).natAbs) : u.followEdge t = u.strayEdge := if_pos hu
  have hu : s.fixPlans.acceptance < (s.fixPlans.phaseError t).natAbs := by
    rw [(fixPlans_plansFixed s).eq_modFlyers]
    exact he
  rcases h with h | h | ⟨h, hseed⟩
  · rw [trackEdge_of_follows (.inl h), hfollow _ hu]
  · rw [trackEdge_of_follows (.inr h), hfollow _ hu]
  · rw [trackEdge_of_acquiring h, fixPlans_of_no_time (by simp [Spindle.hasTime, h])]
    simp [acquireEdge, hseed, he]

/-- The first edge in ACQUIRING is the seed's first candidate (spec 02 R45). -/
theorem acquireEdge_first {s : State} (hs : s.spindle.seeded = false) (hc : s.spindle.candidate = none) (t : Tick) :
    s.acquireEdge t = s.firstCandidate t := by simp [acquireEdge, hs, hc]

/-- An edge on its prediction leaves the period and takes the phase to itself (spec 02 R42; log 10). -/
theorem confirm_of_no_error {t : Tick} {s : State} (h : s.phaseError t = 0) (both : Bool) :
    s.confirm t both = s.modSpindle fun p => { p with phase := fine t, edge := fine t } := by
  have hpred : s.predicted = fine t := by
    simp only [phaseError] at h
    omega
  simp [confirm, h, hpred]

/-- In LOCKED an edge on its prediction, inside the frame, moves the tracked line on (spec 02 R37, R43). -/
theorem followEdge_of_predicted {t : Tick} {s : State} (hs : s.spindle.state = .locked) (hm : s.timingMode = 0)
    (he : s.phaseError t = 0) (hd : s.frameDue t = false) (hl : s.spindle.gridLine + 1 < s.spindle.lines)
    (hr : s.rateGood s.spindle.period = true) :
    ∃ p, s.followEdge t = s.modSpindle (fun _ => p) ∧ p.state = .locked ∧ p.phase = fine t
      ∧ p.period = s.spindle.period ∧ p.gridLine = s.spindle.gridLine + 1 ∧ p.strayRun = 0 := by
  have hgood : within 0 450 = true := by decide
  have hover : s.frameOver = false := by simp [frameOver, hl.ne]
  have hover' : (s.modSpindle fun p => { p with strayRun := 0 }).frameOver = false := hover
  have hconfirm := confirm_of_no_error (s := s.modSpindle fun p => { p with strayRun := 0 }) he true
  obtain ⟨l, hline⟩ := advanceLine_inside_frame (t := t)
    (s := (s.modSpindle fun p => { p with strayRun := 0 }).modSpindle fun p => { p with phase := fine t, edge := fine t })
    (show s.timingMode ≠ 1 by omega) hd hl
  refine ⟨{ s.spindle with
    strayRun := 0, phase := fine t, edge := fine t, gridLine := s.spindle.gridLine + 1, line := l }, ?_, hs, rfl, rfl, rfl,
    rfl⟩
  have hrate : ((((s.modSpindle fun p => { p with strayRun := 0 }).modSpindle fun p => { p with
      phase := fine t, edge := fine t }).modSpindle fun p => { p with gridLine := p.gridLine + 1, line := l }).rateGood
        s.spindle.period) = true := hr
  have hfollow : s.followEdge t = ((s.modSpindle fun p => { p with strayRun := 0 }).modSpindle fun p => { p with
      phase := fine t, edge := fine t }).modSpindle fun p => { p with gridLine := p.gridLine + 1, line := l } := by
    simp [followEdge, he, hgood, hover', cond_eq, hs, hconfirm, hline, hrate]
  exact hfollow

/-! ## An edge that is missing -/

/-- In ACQUIRING a missing edge gives the seed up, and prediction takes its place as a line (spec 02 R45). -/
theorem missingEdge_of_acquiring {s : State} (h : s.spindle.state = .acquiring) :
    s.missingEdge = s.modSpindle fun p => { p with
      missings := (p.missings + 1) % 2 ^ 32, seeded := false, candidate := none, run := 0, strayRun := 0
      gridLine := if decide (s.timingMode = 1) || s.frameDue (s.predicted / 4096) then 0 else p.gridLine + 1
      restart := if decide (s.timingMode = 1) || s.frameDue (s.predicted / 4096) then none else p.restart } := by
  have hnone : s.spindle.hasTime = false := by simp [Spindle.hasTime, h]
  have hmissed : s.missingEdge = ((s.modSpindle fun p => { p with missings := (p.missings + 1) % 2 ^ 32 }).discardSeed
      none).advanceLine (s.predicted / 4096) := by
    unfold missingEdge
    rw [fixPlans_of_no_time hnone]
    exact if_pos h
  exact hmissed.trans (advanceLine_of_no_time (s := (s.modSpindle fun p => { p with
    missings := (p.missings + 1) % 2 ^ 32 }).discardSeed none) hnone _)

/-- HOLDOVER begins with nothing coasted; its flag and its event touch the side port and the records alone (spec 02 R46). -/
theorem enterHoldover_eq (cause : Nat) (s : State) :
    ∃ last side recs, s.enterHoldover cause = ((s.modSpindle fun p => { p with
        state := .holdover, changed := true, last := last, coast := 0, coasting := false, stepCount := 0 }).modSide
          fun _ => side).modRecs fun _ => recs := by
  have hset : s.setSpindle .holdover = s.modSpindle fun p => { p with
      state := .holdover, changed := true, last := if p.hasTime then s.lineTime else p.last } := by
    unfold setSpindle
    dsimp only
    rw [cond_eq, if_neg (by simp [Spindle.hasTime])]
  unfold enterHoldover
  rw [hset]
  obtain ⟨r, hr⟩ := event_touches_records (code := 0x21) (by decide) Src.spindle [(1, cause), (8, s.lineTime.field)]
    (((s.modSpindle fun p => { p with
      state := .holdover, changed := true, last := if p.hasTime then s.lineTime else p.last }).modSpindle fun p => { p with
        coast := 0, coasting := false, stepCount := 0 }).setFlag 7)
  exact ⟨_, _, r, hr⟩

theorem modSpindle_modSide (g : Spindle → Spindle) (f : SidePort → SidePort) (s : State) :
    (s.modSide f).modSpindle g = (s.modSpindle g).modSide f := rfl

theorem modSpindle_modRecs (g : Spindle → Spindle) (f : Records → Records) (s : State) :
    (s.modRecs f).modSpindle g = (s.modSpindle g).modRecs f := rfl

/-- Prediction takes the edge's place inside a frame: one line coasts, and the tracked line moves on (spec 02 R37, R46). -/
theorem coastLine_inside_frame {x : Nat} {t : Tick} {s : State} (hm : s.timingMode ≠ 1) (hr : s.spindle.restart = none)
    (hl : s.spindle.gridLine + 1 < s.spindle.lines) :
    ∃ l, (((s.modSpindle fun p => { p with coast := p.coast + 1 }).modSpindle fun p => { p with
        phase := x, coasting := true, stepCount := 0 }).advanceLine t)
      = s.modSpindle fun p => { p with
        coast := p.coast + 1, phase := x, coasting := true, stepCount := 0, gridLine := p.gridLine + 1, line := l } := by
  obtain ⟨l, hline⟩ := advanceLine_inside_frame (t := t)
    (s := (s.modSpindle fun p => { p with coast := p.coast + 1 }).modSpindle fun p => { p with
      phase := x, coasting := true, stepCount := 0 }) hm (by simp [frameDue, hr]) hl
  exact ⟨l, hline⟩

/-- In LOCKED, strobe mode, inside a frame, a missing edge begins HOLDOVER with prediction in its place and one line coasted
(spec 02 R37, R46, R48). -/
theorem missingEdge_of_locked {s : State} (hs : s.spindle.state = .locked) (hm : s.timingMode = 0)
    (hl : s.spindle.gridLine + 1 < s.spindle.lines) (hr : s.spindle.restart = none) (hc : 1 ≤ s.pnum Par.holdoverCount 0) :
    ∃ p side recs, s.missingEdge = ((s.fixPlans.modSpindle fun _ => p).modSide fun _ => side).modRecs (fun _ => recs)
      ∧ p.state = .holdover ∧ p.coast = 1 ∧ p.coasting = true ∧ p.phase = s.spindle.phase + s.spindle.period
      ∧ p.missings = (s.spindle.missings + 1) % 2 ^ 32 ∧ p.gridLine = s.spindle.gridLine + 1 := by
  obtain ⟨u, hu⟩ : ∃ u, u = s.fixPlans.modSpindle fun p => { p with missings := (p.missings + 1) % 2 ^ 32 } := ⟨_, rfl⟩
  have hfixed := fixPlans_plansFixed s
  have hdist : u.dist = s.dist := by rw [hu, hfixed.only]; rfl
  have hspindle : u.spindle = { s.spindle with missings := (s.spindle.missings + 1) % 2 ^ 32 } := by
    rw [hu, modSpindle_spindle, hfixed.spindle]
  obtain ⟨last, side, recs, hhold⟩ := enterHoldover_eq 0 u
  obtain ⟨b, hb⟩ : ∃ b, b = u.enterHoldover 0 := ⟨_, rfl⟩
  have hafter := hb.trans hhold
  have hstrobe : ¬u.timingMode = 1 := by rw [timingMode_of_dist hdist]; omega
  have hstrobe' : ¬b.timingMode = 1 := by
    rw [timingMode_of_dist (show b.dist = u.dist by rw [hafter]; rfl)]; exact hstrobe
  have hpred : u.predicted = s.spindle.phase + s.spindle.period := by simp [predicted, hspindle, hs]
  obtain ⟨l, hline⟩ := coastLine_inside_frame (x := s.spindle.phase + s.spindle.period)
    (t := (s.spindle.phase + s.spindle.period) / 4096) hstrobe'
    (show b.spindle.restart = none by simp [hafter, hspindle, hr])
    (show b.spindle.gridLine + 1 < b.spindle.lines by simpa [hafter, hspindle] using hl)
  have hstay : ¬b.pnum Par.holdoverCount 0 < (b.modSpindle fun p => { p with
      coast := p.coast + 1, phase := s.spindle.phase + s.spindle.period, coasting := true, stepCount := 0
      gridLine := p.gridLine + 1, line := l }).spindle.coast := by
    have hcount : b.pnum Par.holdoverCount 0 = s.pnum Par.holdoverCount 0 := by
      simp only [pnum, param, paramAt, hafter, modRecs_dist, modSide_dist, modSpindle_dist, hdist]
    have hcoast : b.spindle.coast = 0 := by rw [hafter]; rfl
    rw [modSpindle_spindle, hcount]
    exact Nat.not_lt.mpr (by rw [hcoast]; exact hc)
  have hmissed : s.missingEdge = b.modSpindle fun p => { p with
      coast := p.coast + 1, phase := s.spindle.phase + s.spindle.period, coasting := true, stepCount := 0
      gridLine := p.gridLine + 1, line := l } := by
    unfold missingEdge
    dsimp only
    rw [← hu, hpred, cond_eq, if_neg (show ¬u.spindle.state = .acquiring by simp [hspindle, hs]),
      if_pos (show decide (u.spindle.state = .locked) = true by simp [hspindle, hs]), if_neg hstrobe, ← hb,
      if_neg hstrobe', hline, if_neg hstay]
  rw [hmissed, hafter, modSpindle_modRecs, modSpindle_modSide, modSpindle_modSpindle, hu, modSpindle_modSpindle]
  exact ⟨_, side, recs, rfl, rfl, rfl, rfl, rfl, by rw [hfixed.spindle], by rw [hfixed.spindle]⟩

end State

section LineStrobe

variable {t : Tick} {s : State}

/-- LINE_STROBE_EDGE in strobe mode, where no run takes strobes, is an edge of the strobe that Spindle tracks. -/
theorem exec_lineStrobeEdge (hle : s.now ≤ t) (hm : s.timingMode = 0) (hr : s.runs = []) :
    exec (.lineStrobeEdge t) s = .next ((s.advance t).trackEdge t) := by
  have hnow : (s.advance t).now = t := by simp [hle]
  have hm' : (s.advance t).timingMode = 0 := hm
  have hstat : (s.advance t).strobeStat .lineStrobe = s.advance t := State.statEvent_of_no_runs (by simpa using hr) _ _
  change Host.Outcome.next (if (s.advance t).timingMode = 0 then
    ((s.advance t).strobeStat .lineStrobe).trackEdge (s.advance t).now else _) = _
  rw [if_pos hm', hstat, hnow]

/-- LINE_STROBE_EDGE: the first edge in ACQUIRING (spec 02 R33, R37, R45). -/
theorem exec_lineStrobeEdge_first (hle : s.now ≤ t) (hm : s.timingMode = 0) (hr : s.runs = [])
    (hs : s.spindle.state = .acquiring) (hseed : s.spindle.seeded = false) (hc : s.spindle.candidate = none) :
    exec (.lineStrobeEdge t) s = .next ((s.advance t).modSpindle fun p => { p with
      seeded := false, candidate := some t, run := 0, strayRun := 0
      gridLine := if s.frameDue t then 0 else p.gridLine + 1, restart := if s.frameDue t then none else p.restart }) := by
  have hnone : ((s.advance t).discardSeed (some t)).spindle.hasTime = false := by
    simp [Spindle.hasTime, State.discardSeed, hs]
  have hm' : decide (((s.advance t).discardSeed (some t)).timingMode = 1) = false :=
    decide_eq_false (show ¬s.timingMode = 1 by omega)
  have hdue : ((s.advance t).discardSeed (some t)).frameDue t = s.frameDue t := rfl
  rw [exec_lineStrobeEdge hle hm hr, State.trackEdge_of_acquiring (s := s.advance t) hs,
    State.acquireEdge_first (s := s.advance t) hseed hc, State.firstCandidate, State.advanceLine_of_no_time hnone, hm',
    hdue, Bool.false_or]
  rfl

/-- LINE_STROBE_EDGE: an edge on its prediction in LOCKED (spec 02 R37, R43). -/
theorem exec_lineStrobeEdge_predicted (hle : s.now ≤ t) (hm : s.timingMode = 0) (hr : s.runs = [])
    (hs : s.spindle.state = .locked) (he : s.phaseError t = 0) (hd : s.frameDue t = false)
    (hl : s.spindle.gridLine + 1 < s.spindle.lines) (hrate : s.rateGood s.spindle.period = true) :
    ∃ u, exec (.lineStrobeEdge t) s = .next u ∧ u.spindle.state = .locked ∧ u.spindle.phase = fine t
      ∧ u.spindle.period = s.spindle.period ∧ u.spindle.gridLine = s.spindle.gridLine + 1
      ∧ u.spindle.strayRun = 0
      ∧ u = { s with clock := u.clock, spindle := u.spindle, flyers := (s.advance t).fixPlans.flyers } := by
  have hexec := exec_lineStrobeEdge hle hm hr
  rw [State.trackEdge_of_follows (s := s.advance t) (.inl hs),
    (State.fixPlans_plansFixed (s.advance t)).eq_modFlyers] at hexec
  generalize (s.advance t).fixPlans.flyers = flyers at hexec
  obtain ⟨p, hp, hstate, hphase, hperiod, hline, hrun⟩ := State.followEdge_of_predicted
    (s := (s.advance t).modFlyers fun _ => flyers) hs hm he hd hl hrate
  rw [hp] at hexec
  exact ⟨_, hexec, hstate, hphase, hperiod, hline, hrun, rfl⟩

/-- LINE_STROBE_EDGE: a stray edge (spec 02 R43, R45). -/
theorem exec_lineStrobeEdge_stray (hle : s.now ≤ t) (hm : s.timingMode = 0) (hr : s.runs = [])
    (hs : s.spindle.state = .locked ∨ s.spindle.state = .holdover ∨ (s.spindle.state = .acquiring ∧ s.spindle.seeded = true))
    (he : s.acceptance < (s.phaseError t).natAbs) (hrun : s.spindle.strayRun < 15) :
    exec (.lineStrobeEdge t) s = .next ((s.advance t).fixPlans.modSpindle fun p =>
      { p with strays := (p.strays + 1) % 2 ^ 32, strayRun := p.strayRun + 1 }) := by
  have hfew : (s.advance t).fixPlans.spindle.strayRun < 15 := by
    rw [(State.fixPlans_plansFixed (s.advance t)).spindle]
    exact hrun
  rw [exec_lineStrobeEdge hle hm hr, State.trackEdge_of_outside (s := s.advance t) hs he, State.strayEdge_of_few hfew]

/-- ACCEPTANCE_WINDOW_CLOSE without the edge is a missing edge (spec 02 R43). -/
theorem exec_acceptanceWindowClose (h : (s.advance t).windowClosed = true) :
    exec (.acceptanceWindowClose t) s = .next (s.advance t).missingEdge := by
  change Host.Outcome.next (if (s.advance t).windowClosed then (s.advance t).missingEdge else s.advance t) = _
  rw [if_pos h]

/-- ACCEPTANCE_WINDOW_CLOSE in LOCKED, strobe mode, inside a frame (spec 02 R46, R48). -/
theorem exec_acceptanceWindowClose_locked (h : (s.advance t).windowClosed = true) (hs : s.spindle.state = .locked)
    (hm : s.timingMode = 0) (hl : s.spindle.gridLine + 1 < s.spindle.lines) (hr : s.spindle.restart = none)
    (hc : 1 ≤ s.pnum Par.holdoverCount 0) :
    ∃ u, exec (.acceptanceWindowClose t) s = .next u ∧ u.spindle.state = .holdover ∧ u.spindle.coast = 1
      ∧ u.spindle.coasting = true ∧ u.spindle.phase = s.spindle.phase + s.spindle.period
      ∧ u.spindle.missings = (s.spindle.missings + 1) % 2 ^ 32 ∧ u.spindle.gridLine = s.spindle.gridLine + 1
      ∧ u = { s with
        clock := u.clock, spindle := u.spindle, flyers := (s.advance t).fixPlans.flyers, recs := u.recs
        nvCtl := u.nvCtl, side := u.side } := by
  obtain ⟨p, side, recs, hmissed, hstate, hcoast, hcoasting, hphase, hmissings, hline⟩ :=
    State.missingEdge_of_locked (s := s.advance t) hs hm hl hr hc
  have hexec := (exec_acceptanceWindowClose h).trans (congrArg Host.Outcome.next hmissed)
  rw [(State.fixPlans_plansFixed (s.advance t)).eq_modFlyers] at hexec
  exact ⟨_, hexec, hstate, hcoast, hcoasting, hphase, hmissings, hline, rfl⟩

end LineStrobe

/-- Settles O7: a seed's candidate, an edge on its prediction and a stray edge. -/
theorem lineStrobeTracked : Obligations.LineStrobeTracked := by
  unfold Obligations.LineStrobeTracked
  intro t s hle hm hr
  exact ⟨exec_lineStrobeEdge_first hle hm hr, exec_lineStrobeEdge_predicted hle hm hr, exec_lineStrobeEdge_stray hle hm hr⟩

/-- Settles O8: a missing edge in ACQUIRING and one in LOCKED. -/
theorem missingEdgeCoasts : Obligations.MissingEdgeCoasts := by
  unfold Obligations.MissingEdgeCoasts
  intro t s h
  refine ⟨fun hs => ?_, exec_acceptanceWindowClose_locked h⟩
  exact (exec_acceptanceWindowClose h).trans
    (congrArg Host.Outcome.next (State.missingEdge_of_acquiring (s := s.advance t) hs))

end Sys2Proof.Machine
end

section
/-! PROOFS. Flyer instructions that act on their Flyer alone (spec 03 R70, R73). -/

namespace Sys2Proof.Machine

namespace State

/-- Changes of a Flyer that give the same value are the same change. -/
theorem modFlyer_congr {b : Nat} {g g' : Flyer → Flyer} {s : State} (h : g (s.flyer b) = g' (s.flyer b)) :
    s.modFlyer b g = s.modFlyer b g' :=
  congrArg (fun f => s.modFlyers fun m => Store.write {} m b f) h

/-- Execution that stands below the end of the code store goes on (spec 03 R73). -/
theorem passedEnd_of_below {b : Nat} {s : State} (h : (s.flyer b).pc < 2048) : s.passedEnd b = s := by
  simp [passedEnd, cond_eq, Nat.not_le.mpr h]

/-- A Flyer whose program counter moves on by one, below the last address, has not passed the end (spec 03 R73). -/
theorem passedEnd_modFlyer {b : Nat} {s : State} {g : Flyer → Flyer} (hw : s.wf = true) (hpc : (s.flyer b).pc < 2047)
    (hg : (g (s.flyer b)).pc = (s.flyer b).pc + 1) : (s.modFlyer b g).passedEnd b = s.modFlyer b g := by
  refine passedEnd_of_below ?_
  rw [flyer_modFlyer_same hw, hg]
  omega

/-- An instruction that goes on at the next address (spec 03 R73). -/
theorem flyerNext_eq {b op v : Nat} {w : Nat → Bool} {g : Flyer → Flyer} {s : State} (hw : s.wf = true)
    (hv : s.flyerWord b = some v) (hpc : (s.flyer b).pc < 2047) (hop : bits v 28 4 = op) (hwv : w v = true) :
    s.flyerNext b op w g = s.modFlyer b fun f => { g f with pc := f.pc + 1 } := by
  simp only [flyerNext, hv, hop, hwv, ne_eq, not_true_eq_false, Bool.not_true, Bool.false_eq_true, or_self, if_false]
  exact passedEnd_modFlyer hw hpc rfl

/-- Where no number load and no free-running setting waits, lines carry into frames by the declared lines (spec 02 R36, R40, 03
R70). -/
theorem carry_of_declared {s : State} (hload : s.spindle.load = none) (hfree : s.spindle.freePending = [])
    (hlines : 0 < s.spindle.lines) (f l : Nat) :
    s.carry f (l : Nat) = ((f + l / s.spindle.lines) % 2 ^ 32, l % s.spindle.lines) := by
  have hturns : s.turns = [] := by simp [turns, Spindle.turns, hfree]
  have hmax : max 1 s.spindle.lines = s.spindle.lines := by omega
  have hmaxInt : max 1 (s.spindle.lines : Int) = (s.spindle.lines : Int) := by omega
  simp only [carry, hturns, hmaxInt, Spindle.frameAfter, hload]
  norm_cast

/-- SETLINE below the declared lines (spec 03 R73). -/
theorem flyerSetline_eq {b l v : Nat} {s : State} (hw : s.wf = true) (hv : s.flyerWord b = some v)
    (hpc : (s.flyer b).pc < 2047) (hop : bits v 28 4 = 4) (hl : bits v 0 16 = l) (hlines : l < s.spindle.lines) :
    s.flyerSetline b l = s.modFlyer b fun f => { f with pc := f.pc + 1, line := l } := by
  simp only [flyerSetline, hv, hop, hl, ne_eq, not_true_eq_false, or_self, if_false, Nat.not_le.mpr hlines]
  exact passedEnd_modFlyer hw hpc rfl

/-- LOOP where fewer than four loops are open (spec 03 R73). -/
theorem flyerLoop_eq {b c v : Nat} {s : State} (hw : s.wf = true) (hv : s.flyerWord b = some v)
    (hpc : (s.flyer b).pc < 2047) (hop : bits v 28 4 = 6) (hc : bits v 0 24 = c) (hloops : (s.flyer b).loops.length < 4) :
    s.flyerLoop b c = s.modFlyer b fun f => { f with pc := f.pc + 1, loops := (f.pc + 1, c) :: f.loops } := by
  simp only [flyerLoop, hv, hop, hc, ne_eq, not_true_eq_false, or_self, if_false, Nat.not_le.mpr hloops]
  exact passedEnd_modFlyer hw hpc rfl

/-- ENDLOOP in an open loop: back while times remain, on when they do not (spec 03 R73). -/
theorem flyerEndloop_eq {b v a k : Nat} {rest : List (Nat × Nat)} {s : State} (hw : s.wf = true)
    (hv : s.flyerWord b = some v) (hpc : (s.flyer b).pc < 2047) (hop : bits v 28 4 = 7)
    (hloops : (s.flyer b).loops = (a, k) :: rest) :
    s.flyerEndloop b = s.modFlyer b fun f =>
      if 1 < k then { f with pc := a, loops := (a, k - 1) :: rest } else { f with pc := f.pc + 1, loops := rest } := by
  simp only [flyerEndloop, hv, hop, hloops, ne_eq, not_true_eq_false, if_false]
  split
  · rfl
  · exact passedEnd_modFlyer hw hpc rfl

end State

section FlyerInstruction

variable {t : Tick} {b v : Nat} {s : State}

/-- FLYER_STOP (spec 03 R73). -/
theorem exec_flyerStop (hv : s.flyerWord b = some v) (hop : bits v 28 4 = 0) :
    exec (.flyerStop t b) s = .next ((s.advance t).modFlyer b fun f => { f with state := .done }) := by
  have hv' : (s.advance t).flyerWord b = some v := hv
  change Host.Outcome.next (if ((s.advance t).flyerWord b).any fun v => bits v 28 4 = 0 then _ else _) = _
  rw [hv', Option.any_some, if_pos (decide_eq_true hop)]

/-- FLYER_JUMP (spec 03 R73). -/
theorem exec_flyerJump (hv : s.flyerWord b = some v) {a : BitVec 11} (hop : bits v 28 4 = 8) (ha : bits v 0 11 = a.toNat) :
    exec (.flyerJump t b a) s = .next ((s.advance t).modFlyer b fun f => { f with pc := a.toNat }) := by
  have hv' : (s.advance t).flyerWord b = some v := hv
  change Host.Outcome.next (if ((s.advance t).flyerWord b).any fun v => bits v 28 4 = 8 && bits v 0 11 = a.toNat then _
    else _) = _
  rw [hv', Option.any_some, if_pos (by simp [hop, ha])]

/-- FLYER_NEXTLINE (spec 03 R70, R73). -/
theorem exec_flyerNextline (hw : s.wf = true) (hv : s.flyerWord b = some v) (hpc : (s.flyer b).pc < 2047) {n : BitVec 16}
    (hop : bits v 28 4 = 3) (hn : bits v 0 16 = n.toNat) :
    exec (.flyerNextline t b n) s = .next ((s.advance t).modFlyer b fun f => { f with
      frame := (s.carry f.frame ((f.line + n.toNat : Nat) : Int)).1
      line := (s.carry f.frame ((f.line + n.toNat : Nat) : Int)).2, pc := f.pc + 1 }) := by
  have hnext := State.flyerNext_eq (s := s.advance t) (w := fun v => decide (bits v 0 16 = n.toNat))
    (g := fun f => { f with
      frame := (s.carry (s.flyer b).frame (((s.flyer b).line + n.toNat : Nat) : Int)).1
      line := (s.carry (s.flyer b).frame (((s.flyer b).line + n.toNat : Nat) : Int)).2 })
    hw hv hpc hop (decide_eq_true hn)
  exact congrArg Host.Outcome.next (hnext.trans (State.modFlyer_congr rfl))

/-- FLYER_WAITFRAME (spec 03 R73). -/
theorem exec_flyerWaitframe (hw : s.wf = true) (hv : s.flyerWord b = some v) (hpc : (s.flyer b).pc < 2047)
    (hop : bits v 28 4 = 5) :
    exec (.flyerWaitframe t b) s = .next ((s.advance t).modFlyer b fun f => { f with
      frame := if f.line = 0 then f.frame else s.spindle.frameAfter f.frame 1, line := 0, pc := f.pc + 1 }) := by
  have hnext := State.flyerNext_eq (s := s.advance t) (w := fun _ => true)
    (g := fun f => if f.line = 0 then f else { f with frame := s.spindle.frameAfter f.frame 1, line := 0 })
    hw hv hpc hop rfl
  refine congrArg Host.Outcome.next (hnext.trans (congrArg (fun g => (s.advance t).modFlyer b g) (funext fun f => ?_)))
  split
  · next h => simp [← h]
  · rfl

end FlyerInstruction

/-- Settles O14: each instruction by the equation of its operation. -/
theorem flyerInstructionsMoveTheFlyer : Obligations.FlyerInstructionsMoveTheFlyer := by
  unfold Obligations.FlyerInstructionsMoveTheFlyer
  intro t b v s _ hw hv hpc
  have next {u u' : State} (h : u = u') : (Host.Outcome.next u : Host.Outcome State Fault Refusal) = .next u' :=
    congrArg _ h
  refine ⟨exec_flyerStop hv, fun n hop hn => exec_flyerNextline hw hv hpc hop hn, fun f l hload hfree hlines => ?carry, fun l hop hl hlines => ?setline,
    exec_flyerWaitframe hw hv hpc, fun c hop hc hloops => ?loop, fun a k rest hop hloops => ?endloop,
    fun a hop ha => exec_flyerJump hv hop ha, fun hop => ?nop⟩
  case carry => exact State.carry_of_declared hload hfree hlines f l
  case setline => exact next (State.flyerSetline_eq (s := s.advance t) hw hv hpc hop hl hlines)
  case loop => exact next (State.flyerLoop_eq (s := s.advance t) hw hv hpc hop hc hloops)
  case endloop => exact next (State.flyerEndloop_eq (s := s.advance t) hw hv hpc hop hloops)
  case nop => exact next (State.flyerNext_eq (s := s.advance t) (g := fun f => f) hw hv hpc hop rfl)

end Sys2Proof.Machine
end

section
/-! PROOFS. Head ports (spec 04 R95, R101, R104, R107-R110): what is read of a port, a board and a board's view after a change,
and what the symbols and words of a port do. -/

namespace Sys2Proof.Machine

namespace State

/-! ## Reading ports, boards and views after a change -/

theorem ports_wf {s : State} (h : s.wf = true) : Store.wf {} s.ports = true := by
  simp only [wf, partsWf, Bool.and_eq_true] at h
  tauto

theorem lamps_wf {s : State} (h : s.wf = true) : Store.wf {} s.lamps = true := by
  simp only [wf, partsWf, Bool.and_eq_true] at h
  tauto

theorem counters_wf {s : State} (h : s.wf = true) : Store.wf 0 s.counters = true := by
  simp only [wf, partsWf, Bool.and_eq_true] at h
  tauto

/-- A port reads as it was changed. -/
theorem port_modPort_same {s : State} (h : s.wf = true) (n : Nat) (g : Port → Port) :
    (s.modPort n g).port n = g (s.port n) := Store.read_write_same _ _ none n _ (ports_wf h)

/-- A board reads as it was changed, and another one as before. -/
theorem lamp_modLamp {s : State} (h : s.wf = true) (i j : Nat) (g : Board → Board) :
    (s.modLamp i g).lamp j = if j = i then g (s.lamp i) else s.lamp j := Store.read_modify _ _ _ _ _ (lamps_wf h)

/-- A counter reads as it was advanced. -/
theorem counter_count_same {s : State} (h : s.wf = true) (k i n : Nat) :
    (s.count k i n).counter k i = (s.counter k i + n) % 2 ^ 32 := by
  have hread := Store.read_modify 0 s.counters (k * 1024 + i) (k * 1024 + i) (fun v => (v + n) % 2 ^ 32) (counters_wf h)
  rwa [if_pos rfl] at hread

/-- A view reads as it was changed, and another board's as before. -/
theorem view_modView {s : State} (h : s.wf = true) {n : Nat} (hb : Store.wf {} (s.port n).boards = true) (b k : Nat)
    (g : BoardView → BoardView) : (s.modView n b g).view n k = if k = b then g (s.view n b) else s.view n k := by
  rw [view, modView, port_modPort_same h]
  exact Store.read_modify _ _ _ _ _ hb

theorem wf_modPort {s : State} (h : s.wf = true) (n : Nat) (g : Port → Port) : (s.modPort n g).wf = true :=
  (modPort_kept (.refl s)).wf h

/-- Changes of the boards of a port, each by its own change, touch boards alone. -/
theorem each_modLamp_eq (n : Nat) (g : Nat → Board → Board) (l : List Nat) (s : State) :
    ∃ m, s.each l (fun b => modLamp (4 * n + b) (g b)) = s.modLamps fun _ => m := by
  induction l generalizing s with
  | nil => exact ⟨s.lamps, rfl⟩
  | cons b l ih =>
    obtain ⟨m, hm⟩ := ih (s.modLamp (4 * n + b) (g b))
    exact ⟨m, hm⟩

theorem wf_each_modLamp {s : State} (h : s.wf = true) (n : Nat) (g : Nat → Board → Board) (l : List Nat) :
    (s.each l fun b => modLamp (4 * n + b) (g b)).wf = true :=
  (each_kept (fun _ u => modLamp_kept (.refl u)) (.refl s)).wf h

/-- A board of a port reads as its own change makes it. -/
theorem lamp_each_modLamp {s : State} (h : s.wf = true) (n : Nat) (g : Nat → Board → Board) {l : List Nat} (hl : l.Nodup)
    (j : Nat) : (s.each l fun b => modLamp (4 * n + b) (g b)).lamp (4 * n + j)
      = if j ∈ l then g j (s.lamp (4 * n + j)) else s.lamp (4 * n + j) := by
  induction l generalizing s with
  | nil => rfl
  | cons b l ih =>
    obtain ⟨hb, hl'⟩ := List.nodup_cons.mp hl
    have hread := lamp_modLamp h (4 * n + b) (4 * n + j) (g b)
    have hrest := ih (s := s.modLamp (4 * n + b) (g b)) ((modLamp_kept (.refl s)).wf h) hl'
    rw [show s.each (b :: l) (fun b => modLamp (4 * n + b) (g b))
      = (s.modLamp (4 * n + b) (g b)).each l (fun b => modLamp (4 * n + b) (g b)) from rfl, hrest, hread]
    by_cases hj : j = b
    · subst hj
      simp [hb]
    · simp [hj]

/-! ## A probe -/

/-- The boards of the head are powered, board 0 sends the chain length, and nothing but boards changes (spec 04 R107). -/
theorem powerHead_eq {s : State} (h : s.wf = true) (n : Nat) (head : List (List Byte)) :
    ∃ m, s.powerHead n head = s.modLamps (fun _ => m)
      ∧ (∀ b, b < 4 → ((s.powerHead n head).lamp (4 * n + b)).powered = decide (b < head.length))
      ∧ (head ≠ [] → ((s.powerHead n head).lamp (4 * n)).up = [(s.now, statusBits 0 2 head.length)]) := by
  obtain ⟨a, ha⟩ : ∃ a, a = s.each (List.range 4) fun b => modLamp (4 * n + b) fun _ =>
    if b < head.length then { powered := true, lastKeepAlive := s.now, image := nth [] head b } else {} := ⟨_, rfl⟩
  obtain ⟨m, hm⟩ := each_modLamp_eq n (fun b _ =>
    if b < head.length then { powered := true, lastKeepAlive := s.now, image := nth [] head b } else {}) (List.range 4) s
  have hwf : a.wf = true := ha ▸ wf_each_modLamp h n _ _
  have hread (b : Nat) (hb : b < 4) : a.lamp (4 * n + b)
      = if b < head.length then { powered := true, lastKeepAlive := s.now, image := nth [] head b } else {} := by
    rw [ha, lamp_each_modLamp h n _ (List.nodup_range) b, if_pos (List.mem_range.mpr hb)]
  have hnow : a.now = s.now := by rw [ha, hm]; rfl
  have hpower : s.powerHead n head = a.cond (decide (head ≠ [])) (sendItem n 0 2 head.length) := by rw [ha]; rfl
  rw [hpower, cond_eq]
  by_cases hh : head = []
  · rw [if_neg (by simp [hh])]
    refine ⟨m, ha.trans hm, fun b hb => ?_, fun k => absurd hh k⟩
    rw [hread b hb]
    simp [hh]
  · rw [if_pos (by simp [hh])]
    have hpos : 0 < head.length := List.length_pos_iff.mpr hh
    have hzero : a.lamp (4 * n) = { powered := true, lastKeepAlive := s.now, image := nth [] head 0 } := by
      have := hread 0 (by omega)
      rwa [if_pos hpos] at this
    have hsend (j : Nat) : (a.sendItem n 0 2 head.length).lamp j = if j = 4 * n
        then { a.lamp (4 * n) with up := (a.lamp (4 * n)).up ++ [(s.now, statusBits 0 2 head.length)] }
        else a.lamp j := hnow ▸ lamp_modLamp hwf (4 * n) j _
    refine ⟨_, by rw [sendItem, modLamp, ha.trans hm]; rfl, fun b hb => ?_, fun _ => ?_⟩
    · rw [hsend (4 * n + b)]
      split
      · next e =>
        obtain rfl : b = 0 := by omega
        rw [hzero, decide_eq_true hpos]
      · rw [hread b hb]
        split <;> simp [*]
    · rw [hsend (4 * n), if_pos rfl, hzero]
      rfl

/-! ## Symbols -/

/-- Changes of a port that give the same value are the same change. -/
theorem modPort_congr {n : Nat} {g g' : Port → Port} {s : State} (h : g (s.port n) = g' (s.port n)) :
    s.modPort n g = s.modPort n g' := congrArg (fun p => s.modPorts fun m => Store.write {} m n p) h

theorem offerSync_of_not_asked {n : Nat} {s : State} (h : (s.port n).asked = none) : s.offerSync n = s := by
  simp [offerSync, h]

/-- Where no board waits for capped codes, none are sent (spec 04 R112). -/
theorem sendCaps_of_no_recap {n : Nat} {s : State} (h : (s.port n).recap = []) : s.sendCaps n = s := by
  simp [sendCaps, h]

/-- The keep-alive of a period is reserved at its first opening (spec 04 R101). -/
theorem placeKeepAlive_eq {n k : Nat} {start x : Tick} {s : State} (hs : (s.port n).state.sends = true)
    (hk : s.kaPlaced n k = false)
    (hx : firstOpening (s.port n).reserved (s.periodStart k) (s.periodStart k + kaPeriod) start = some x) :
    s.placeKeepAlive n k start = s.modPort n fun p => { p with reserved := p.reserved ++ [(x, .keepAlive (k % 64))] } := by
  simp [placeKeepAlive, hs, hk, hx]

/-- A symbol that leaves while the latch is clear is the last of its port's list (spec 04 R97, R113). -/
theorem sendSymbol_eq {s : State} (h : s.latch.set = false) (n : Nat) (x : Tick) (payload : Nat) :
    ∃ before data, s.sendSymbol n x payload = s.modPort n fun p => { p with
      symbols := before ++ [(x, shortBits payload)], data := data } := by
  simp only [sendSymbol, h, cond_eq, Bool.not_false, if_true]
  exact ⟨_, _, modPort_congr rfl⟩

/-- A keep-alive that is due leaves as the symbol of type 2 with its number (spec 04 R101). -/
theorem sendKeepAlive_eq {n k : Nat} {x : Tick} {s : State} (hw : s.wf = true) (hx : x ≤ s.now) (hl : s.latch.set = false)
    (hr : (s.port n).reserved = [(x, .keepAlive k)]) :
    ∃ m, s.sendKeepAlive n = s.modPorts (fun _ => m) ∧ ((s.sendKeepAlive n).port n).reserved = []
      ∧ ((s.sendKeepAlive n).port n).symbols.getLast? = some (x, shortBits (128 + k % 64))
      ∧ ((s.sendKeepAlive n).port n).sent.getLast? = some (k, x) := by
  obtain ⟨before, data, hsymbol⟩ := sendSymbol_eq hl n x (128 + k % 64)
  have hsend : s.sendKeepAlive n = (s.modPort n fun p => { p with
      symbols := before ++ [(x, shortBits (128 + k % 64))], data := data }).modPort n fun p => { p with
        reserved := p.reserved.erase (x, .keepAlive k)
        sent := (p.sent.filter fun y => s.now < y.2 + ns 67000) ++ [(k, x)] } := by
    rw [← hsymbol]
    simp [sendKeepAlive, dueSymbols, hr, hx, each]
  have hport := port_modPort_same (wf_modPort hw n fun p => { p with
    symbols := before ++ [(x, shortBits (128 + k % 64))], data := data }) n fun p => { p with
      reserved := p.reserved.erase (x, .keepAlive k)
      sent := (p.sent.filter fun y => s.now < y.2 + ns 67000) ++ [(k, x)] }
  rw [port_modPort_same hw, ← hsend] at hport
  refine ⟨_, hsend, ?_, ?_, ?_⟩ <;> rw [hport]
  · simp [hr]
  · simp
  · simp

/-- Changes of the views of a port's boards touch its list of views alone. -/
theorem each_modView_eq {s : State} (h : s.wf = true) (n : Nat) (g : BoardView → BoardView) (l : List Nat) :
    ∃ m, s.each l (fun b => modView n b g) = s.modPorts (fun _ => m)
      ∧ ∃ v, (s.each l fun b => modView n b g).port n = { s.port n with boards := v } := by
  induction l generalizing s with
  | nil => exact ⟨s.ports, rfl, (s.port n).boards, rfl⟩
  | cons b l ih =>
    obtain ⟨m, hm, v, hv⟩ := ih (s := s.modView n b g) (wf_modPort h n _)
    refine ⟨m, hm, v, hv.trans ?_⟩
    rw [modView, port_modPort_same h]

/-- A view of a port reads as its change makes it. -/
theorem view_each_modView {s : State} (h : s.wf = true) {n : Nat} (hb : Store.wf {} (s.port n).boards = true)
    (g : BoardView → BoardView) {l : List Nat} (hl : l.Nodup) (k : Nat) :
    (s.each l fun b => modView n b g).view n k = if k ∈ l then g (s.view n k) else s.view n k := by
  induction l generalizing s with
  | nil => rfl
  | cons b l ih =>
    obtain ⟨hmem, hl'⟩ := List.nodup_cons.mp hl
    have hboards : Store.wf {} ((s.modView n b g).port n).boards = true := by
      rw [modView, port_modPort_same h]
      exact Store.wf_modify _ _ _ _ hb
    have hrest := ih (s := s.modView n b g) (wf_modPort h n _) hboards hl'
    rw [show s.each (b :: l) (fun b => modView n b g) = (s.modView n b g).each l (fun b => modView n b g) from rfl, hrest,
      view_modView h hb]
    by_cases hj : k = b
    · subst hj
      simp [hmem]
    · simp [hj]

/-- A sync that is due and that no command reserved leaves with its application delay, and what it brings comes into force on
every board that has not reported a share failure (spec 04 R104, R504). -/
theorem sendSync_eq {n a : Nat} {x b : Tick} {s : State} (hw : s.wf = true) (hx : x ≤ s.now) (hl : s.latch.set = false)
    (hr : (s.port n).reserved = [(x, .sync a b)]) (hf : (s.port n).syncFor = some (b, none))
    (hc : (s.port n).recap = []) :
    ∃ m, s.sendSync n = s.modPorts (fun _ => m) ∧ ((s.sendSync n).port n).reserved = []
      ∧ ((s.sendSync n).port n).syncFor = none
      ∧ ((s.sendSync n).port n).symbols.getLast? = some (x, shortBits (64 + a % 64))
      ∧ (Store.wf {} (s.port n).boards = true → ∀ k, k < 4 → (s.view n k).faults.getLsbD 4 = false →
        ((s.sendSync n).view n k).codes = (s.view n k).next) := by
  obtain ⟨before, data, hsymbol⟩ := sendSymbol_eq hl n x (64 + a % 64)
  obtain ⟨c, hcdef⟩ : ∃ c, c = (s.sendSymbol n x (64 + a % 64)).modPort n fun p => { p with
    reserved := p.reserved.erase (x, .sync a b), syncFor := none
    owed := p.owed.map fun x => (x.1, x.2.1, x.2.2.1, x.2.2.2.1, true) } := ⟨_, rfl⟩
  rw [hsymbol] at hcdef
  have hcwf : c.wf = true := hcdef ▸ wf_modPort (wf_modPort hw n _) n _
  have hport := port_modPort_same (wf_modPort hw n fun p => { p with
    symbols := before ++ [(x, shortBits (64 + a % 64))], data := data }) n fun p => { p with
      reserved := p.reserved.erase (x, .sync a b), syncFor := none
      owed := p.owed.map fun x => (x.1, x.2.1, x.2.2.1, x.2.2.2.1, true) }
  rw [port_modPort_same hw, ← hcdef] at hport
  obtain ⟨m, hm, v, hv⟩ := each_modView_eq hcwf n (fun y => if y.faults.getLsbD 4 then y else { y with codes := y.next })
    (List.range 4)
  have hsend : s.sendSync n = c.each (List.range 4) fun k =>
      modView n k fun y => if y.faults.getLsbD 4 then y else { y with codes := y.next } := by
    rw [← sendCaps_of_no_recap (n := n) (s := c.each (List.range 4) _) (by rw [hv, hport]; exact hc), hcdef, ← hsymbol]
    simp [sendSync, dueSymbols, hr, hx, each, hf]
  have hafter : (s.sendSync n).port n = { c.port n with boards := v } := by rw [hsend, hv]
  refine ⟨m, by rw [hsend, hm, hcdef]; rfl, ?_, ?_, ?_, fun hb k hk hfault => ?_⟩
  · rw [hafter, hport]
    simp [hr]
  · rw [hafter, hport]
  · rw [hafter, hport]
    simp
  · have hview : c.view n k = s.view n k := by rw [view, hport]; rfl
    have hcboards : Store.wf {} (c.port n).boards = true := by rw [hport]; exact hb
    rw [hsend, view_each_modView hcwf hcboards _ List.nodup_range, if_pos (List.mem_range.mpr hk), hview, hfault,
      if_neg Bool.false_ne_true]

/-! ## Words -/

/-- An upstream word that has come from port `n`: it is noted, and it has left the lists of the boards that sent it (spec 04
R107). -/
def hear (n type : Nat) (w : BitVec 18) (s : State) : State :=
  (s.modPort n fun p => { p with seen := true, word := some (s.now, decide (type = 2)) }).each (List.range 4) fun b =>
    modLamp (4 * n + b) fun y => { y with up := y.up.eraseP fun x => x.2 = w }

theorem takeWord_of_good {n type : Nat} {w : BitVec 18} {f : State → State} {s : State}
    (hc : (s.port n).state.closed = true) (hg : wordGood w = true) (ht : bits w.toNat 16 2 = type) :
    s.takeWord n type w f = f (s.hear n type w) := by
  simp [takeWord, hc, hg, ht, cond_eq, hear]

/-- A scanner word of odd parity is counted and discarded (spec 04 R107). -/
theorem takeWord_of_bad_scanner {n : Nat} {w : BitVec 18} {f : State → State} {s : State}
    (hc : (s.port n).state.closed = true) (hg : wordGood w = false) :
    s.takeWord n 2 w f = (s.hear n 2 w).count Kind.parity n 1 := by
  unfold takeWord
  simp [hc, hg, hear]
  split <;> rfl

/-- A word that has come changes its port, that of the view, and boards; nothing else. -/
theorem hear_eq (n type : Nat) (w : BitVec 18) (s : State) :
    ∃ m, s.hear n type w = (s.modPort n fun p => { p with seen := true, word := some (s.now, decide (type = 2)) }).modLamps
      fun _ => m := each_modLamp_eq n _ _ _

theorem wf_hear {s : State} (h : s.wf = true) (n type : Nat) (w : BitVec 18) : (s.hear n type w).wf = true :=
  wf_each_modLamp (wf_modPort h n _) n _ _

theorem port_hear {s : State} (h : s.wf = true) (n type : Nat) (w : BitVec 18) :
    (s.hear n type w).port n = { s.port n with seen := true, word := some (s.now, decide (type = 2)) } := by
  obtain ⟨m, hm⟩ := s.hear_eq n type w
  rw [hm]
  exact port_modPort_same h n fun p => { p with seen := true, word := some (s.now, decide (type = 2)) }

theorem view_hear {s : State} (h : s.wf = true) (n type : Nat) (w : BitVec 18) (b : Nat) :
    (s.hear n type w).view n b = s.view n b := by rw [view, port_hear h]; rfl

theorem lamp_hear {s : State} (h : s.wf = true) {n type : Nat} {w : BitVec 18} {b : Nat} (hb : b < 4) :
    (s.hear n type w).lamp (4 * n + b)
      = { s.lamp (4 * n + b) with up := (s.lamp (4 * n + b)).up.eraseP fun x => x.2 = w } := by
  rw [hear, lamp_each_modLamp (wf_modPort h n _) n _ List.nodup_range, if_pos (List.mem_range.mpr hb)]
  rfl

theorem now_hear (n type : Nat) (w : BitVec 18) (s : State) : (s.hear n type w).now = s.now := by
  obtain ⟨m, hm⟩ := s.hear_eq n type w
  rw [hm]
  rfl

/-- A temperature is noted with its instant; before the board's descriptor is known nothing follows from it (spec 04 R107,
R112). -/
theorem statusWord_of_temperature {n : Nat} {w : BitVec 18} {s : State} (hw : s.wf = true)
    (hb : Store.wf {} (s.port n).boards = true) (hi : bits w.toNat 10 4 = 0)
    (hd : (s.view n (bits w.toNat 14 2)).desc = none) :
    s.statusWord n w = s.modView n (bits w.toNat 14 2) fun y =>
      { y with temp := some (bits w.toNat 1 9), tempAt := s.now } := by
  have hnone : ((s.modView n (bits w.toNat 14 2) fun y =>
      { y with temp := some (bits w.toNat 1 9), tempAt := s.now }).view n (bits w.toNat 14 2)).desc = none := by
    rw [view_modView hw hb, if_pos rfl]
    exact hd
  simp only [statusWord, hi, hnone, cond_eq, Option.isSome_none, Bool.false_eq_true, if_false]

/-- The word that a board sends next does not depend on what has been heard (spec 04 R110). -/
theorem descriptorWord_hear {s : State} (h : s.wf = true) {n type : Nat} {w : BitVec 18} {b : Nat} (hb : b < 4) :
    (s.hear n type w).descriptorWord n b = s.descriptorWord n b := by
  unfold descriptorWord
  rw [lamp_hear h hb]

/-- No status word waits where each that stands on the head's lists came no more than 20 us ago (spec 04 R108). -/
theorem statusWaits_hear_of_none {s : State} (h : s.wf = true) {n type : Nat} {w : BitVec 18}
    (hup : ∀ b, b < 4 → ∀ x ∈ (s.lamp (4 * n + b)).up, s.now ≤ x.1 + us 20) : (s.hear n type w).statusWaits n = false := by
  rw [statusWaits, List.any_eq_false]
  intro b hb
  have hlt := List.mem_range.mp hb
  rw [lamp_hear h hlt, now_hear, Bool.not_eq_true, List.any_eq_false]
  intro x hx hlate
  have := hup b hlt x (List.mem_of_mem_eraseP hx)
  exact absurd (of_decide_eq_true hlate) (Nat.not_lt.mpr this)

/-- A descriptor's first word starts the board's bytes anew: one whole byte and the first half of the next (spec 04 R107,
R110). -/
theorem descriptorBits_first {n : Nat} {w : BitVec 18} {s : State} (hw : s.wf = true)
    (hb : Store.wf {} (s.port n).boards = true) (hfirst : w.toNat.testBit 13 = true)
    (hsend : (s.lamp (4 * n + bits w.toNat 14 2)).sending = true) (hwait : s.statusWaits n = false)
    (hword : w = s.descriptorWord n (bits w.toNat 14 2)) :
    ∃ g, s.descriptorBits n w = (s.sendWord n (bits w.toNat 14 2)).modView n (bits w.toNat 14 2) g
      ∧ ((s.descriptorBits n w).view n (bits w.toNat 14 2)).bytes.length = 1
      ∧ ((s.descriptorBits n w).view n (bits w.toNat 14 2)).part.length = 4 := by
  have hopen : ¬((!(s.lamp (4 * n + bits w.toNat 14 2)).sending) = true ∨ s.statusWaits n = true
      ∨ w ≠ s.descriptorWord n (bits w.toNat 14 2)) := by
    rintro (h | h | h)
    · simp [hsend] at h
    · simp [hwait] at h
    · exact h hword
  have hsent : (s.sendWord n (bits w.toNat 14 2)).wf = true := (modLamp_kept (.refl s)).wf hw
  unfold descriptorBits
  rw [if_neg hopen]
  refine ⟨_, rfl, ?_, ?_⟩ <;> rw [view_modView hsent hb, if_pos rfl] <;> simp [hfirst]

theorem reportsOn_hear {s : State} (h : s.wf = true) (n type : Nat) (w : BitVec 18) :
    (s.hear n type w).reportsOn n = s.reportsOn n := by
  unfold reportsOn
  rw [Bool.eq_iff_iff, List.any_eq_true, List.any_eq_true]
  refine exists_congr fun b => and_congr_right fun hb => ?_
  rw [lamp_hear h (List.mem_range.mp hb)]

/-- What has been heard does not bear on a board's delay (spec 04 R106). -/
theorem boardDelay_hear {s : State} (h : s.wf = true) (n type : Nat) (w : BitVec 18) (b : Nat) :
    (s.hear n type w).boardDelay n b = s.boardDelay n b := by
  have hcal : (s.hear n type w).cal = s.cal := by
    obtain ⟨m, hm⟩ := s.hear_eq n type w
    rw [hm]
    rfl
  unfold boardDelay boardDesc
  rw [view_hear h, hcal]

/-- A scanner word reports the crossing at its keep-alive's leading edge plus offset plus d (spec 04 R109). -/
theorem scannerWord_hear {n : Nat} {w : BitVec 18} {y : Nat × Tick} {s : State} (h : s.wf = true)
    (hy : ((s.port n).sent.filter fun y => y.1 = bits w.toNat 10 6 && decide (s.now ≤ y.2 + ns 65536)).getLast? = some y) :
    (s.hear n 2 w).scannerWord n w = (s.hear n 2 w).scannerCrossing n ((y.2 + ns (4 * bits w.toNat 1 9) : Nat)
      + 16 * s.boardDelay n (((List.range 4).find? fun b => (s.boardDesc n b).scanner).getD 0)).toNat := by
  unfold scannerWord
  simp only [port_hear h, now_hear, hy, boardDelay_hear h, boardDesc, view_hear h]

/-- The first crossing of a mirror that is acquiring is noted, and nothing else of it changes (spec 02 R53). -/
theorem scannerCrossing_first {n : Nat} {x : Tick} {s : State} (h1 : (s.scanner n).state = 1)
    (hl : (s.scanner n).last = none) :
    s.scannerCrossing n x = s.modSpindle fun p => { p with
      scanners := Store.write {} p.scanners n { s.scanner n with last := some x } } := by
  simp [scannerCrossing, setScanner, h1, hl]

end State

section PortSymbol

variable {t x : Tick} {n : Nat} {s : State}

/-- PROBE closes the switch for 2.0 ms and powers the head (spec 04 R95, R107). -/
theorem exec_probe (hle : s.now ≤ t) (hw : s.wf = true) (hs : (s.port n).state = .probing) (hp : (s.port n).probeEnd = 0)
    (head : List (List Byte)) :
    ∃ u, exec (.probe t ⟨n, head⟩) s = .next u ∧ (u.port n).closedAt = t
      ∧ (u.port n).probeEnd = t + us 2000 ∧ (∀ b, b < 4 → (u.lamp (4 * n + b)).powered = decide (b < head.length))
      ∧ (head ≠ [] → (u.lamp (4 * n)).up = [(t, State.statusBits 0 2 head.length)])
      ∧ u = { s with clock := u.clock, ports := u.ports, lamps := u.lamps } := by
  have hnow : (s.advance t).now = t := by simp [hle]
  have hopen : ¬(((s.advance t).port n).state ≠ .probing
      ∨ (((s.advance t).port n).probeEnd ≠ 0 ∧ (s.advance t).now < ((s.advance t).port n).closedAt + us 250000)) := by
    rintro (h | ⟨h, -⟩)
    · exact h hs
    · exact h hp
  have hclosed : ((s.advance t).modPort n fun p => { p with closedAt := t, probeEnd := t + us 2000 }).wf = true :=
    State.wf_modPort (s := s.advance t) hw n _
  have hport := State.port_modPort_same (s := s.advance t) hw n fun p => { p with closedAt := t, probeEnd := t + us 2000 }
  obtain ⟨m, hm, hpower, hup⟩ := State.powerHead_eq hclosed n head
  have hexec : exec (.probe t ⟨n, head⟩) s
      = .next (((s.advance t).modPort n fun p => { p with closedAt := t, probeEnd := t + us 2000 }).powerHead n head) := by
    change Host.Outcome.next ((s.advance t).probePort n head) = _
    unfold State.probePort
    dsimp only
    rw [if_neg hopen, hnow]
  have hports : ((((s.advance t).modPort n fun p => { p with closedAt := t, probeEnd := t + us 2000 }).powerHead n
      head).port n) = { s.port n with closedAt := t, probeEnd := t + us 2000 } := by
    rw [hm]
    exact hport
  refine ⟨_, hexec, by rw [hports], by rw [hports], hpower, fun hh => ?_, ?_⟩
  · rw [hup hh]
    exact congrArg (fun x => [(x, State.statusBits 0 2 head.length)]) hnow
  · rw [hm]
    rfl

/-- KEEP_ALIVE_PLACE reserves the next period's keep-alive at its first opening (spec 04 R101). -/
theorem exec_keepAlivePlace (hw : s.wf = true) (hs : (s.port n).state.sends = true)
    (hk : (s.advance t).kaPlaced n ((s.advance t).periodOf (max s.now t) + 1) = false)
    (hx : firstOpening (s.port n).reserved ((s.advance t).periodStart ((s.advance t).periodOf (max s.now t) + 1))
      ((s.advance t).periodStart ((s.advance t).periodOf (max s.now t) + 1) + kaPeriod) (max s.now t) = some x)
    (ha : (s.port n).asked = none) (hr : (s.port n).recap = []) :
    exec (.keepAlivePlace t n) s = .next ((s.advance t).modPort n fun p => { p with
      reserved := p.reserved ++ [(x, .keepAlive (((s.advance t).periodOf (max s.now t) + 1) % 64))] }) := by
  have hplace := State.placeKeepAlive_eq (s := s.advance t) hs hk hx
  have hcaps := State.sendCaps_of_no_recap (n := n) (s := (s.advance t).modPort n fun p => { p with
      reserved := p.reserved ++ [(x, .keepAlive (((s.advance t).periodOf (max s.now t) + 1) % 64))] })
    (by rw [State.port_modPort_same (s := s.advance t) hw]; exact hr)
  change Host.Outcome.next ((((s.advance t).offerSync n).placeKeepAlive n
    (((s.advance t).periodOf (s.advance t).now) + 1) (s.advance t).now).sendCaps n) = _
  rw [State.offerSync_of_not_asked (s := s.advance t) ha, State.advance_now, hplace, hcaps]

/-- KEEP_ALIVE_SEND (spec 04 R101). -/
theorem exec_keepAliveSend {k : Nat} (hw : s.wf = true) (hx : x ≤ t) (hl : s.latch.set = false)
    (hr : (s.port n).reserved = [(x, .keepAlive k)]) (ha : (s.port n).asked = none) :
    ∃ u, exec (.keepAliveSend t n) s = .next u ∧ (u.port n).reserved = []
      ∧ (u.port n).symbols.getLast? = some (x, shortBits (128 + k % 64))
      ∧ (u.port n).sent.getLast? = some (k, x) ∧ u = { s with clock := u.clock, ports := u.ports } := by
  obtain ⟨m, hm, hreserved, hsymbol, hsent⟩ := State.sendKeepAlive_eq (s := s.advance t) hw
    (hx.trans (Nat.le_max_right _ _)) hl hr
  have hexec : exec (.keepAliveSend t n) s = .next ((s.advance t).sendKeepAlive n) := by
    change Host.Outcome.next (((s.advance t).offerSync n).sendKeepAlive n) = _
    rw [State.offerSync_of_not_asked (s := s.advance t) ha]
  exact ⟨_, hexec, hreserved, hsymbol, hsent, by rw [hm]; rfl⟩

/-- BROADCAST_SYNC_SEND (spec 04 R104, R504). -/
theorem exec_broadcastSyncSend {a : Nat} {b : Tick} (hw : s.wf = true) (hx : x ≤ t) (hl : s.latch.set = false)
    (hr : (s.port n).reserved = [(x, .sync a b)]) (hf : (s.port n).syncFor = some (b, none))
    (ha : (s.port n).asked = none) (hc : (s.port n).recap = []) :
    ∃ u, exec (.broadcastSyncSend t n) s = .next u ∧ (u.port n).reserved = [] ∧ (u.port n).syncFor = none
      ∧ (u.port n).symbols.getLast? = some (x, shortBits (64 + a % 64))
      ∧ (Store.wf {} (s.port n).boards = true → ∀ k, k < 4 → (s.view n k).faults.getLsbD 4 = false
        → (u.view n k).codes = (s.view n k).next)
      ∧ u = { s with clock := u.clock, ports := u.ports } := by
  obtain ⟨m, hm, hreserved, hfor, hsymbol, hcodes⟩ := State.sendSync_eq (s := s.advance t) hw
    (hx.trans (Nat.le_max_right _ _)) hl hr hf hc
  have hexec : exec (.broadcastSyncSend t n) s = .next ((s.advance t).sendSync n) := by
    change Host.Outcome.next (((s.advance t).offerSync n).sendSync n) = _
    rw [State.offerSync_of_not_asked (s := s.advance t) ha]
  exact ⟨_, hexec, hreserved, hfor, hsymbol, hcodes, by rw [hm]; rfl⟩

end PortSymbol

section PortWord

variable {t : Tick} {n : Nat} {w : BitVec 18} {s : State}

theorem boardOf_lt (w : BitVec 18) : bits w.toNat 14 2 < 4 := Nat.mod_lt _ (by decide)

/-- TELEMETRY_STATUS with a temperature of a board whose descriptor is not known (spec 04 R107). -/
theorem exec_telemetryStatus_temperature (hle : s.now ≤ t) (hw : s.wf = true) (hc : (s.port n).state.closed = true)
    (hg : State.wordGood w = true) (ht : bits w.toNat 16 2 = 0) (hi : bits w.toNat 10 4 = 0)
    (hd : (s.view n (bits w.toNat 14 2)).desc = none) (hb : Store.wf {} (s.port n).boards = true) :
    ∃ u, exec (.telemetryStatus t n w) s = .next u
      ∧ (u.view n (bits w.toNat 14 2)).temp = some (bits w.toNat 1 9) ∧ (u.view n (bits w.toNat 14 2)).tempAt = t
      ∧ (u.port n).seen = true ∧ u = { s with clock := u.clock, ports := u.ports, lamps := u.lamps } := by
  have hnow : (s.advance t).now = t := by simp [hle]
  have hheard := State.wf_hear (s := s.advance t) hw n 0 w
  have hport := State.port_hear (s := s.advance t) hw n 0 w
  have hboards : Store.wf {} (((s.advance t).hear n 0 w).port n).boards = true := by rw [hport]; exact hb
  have hdesc : (((s.advance t).hear n 0 w).view n (bits w.toNat 14 2)).desc = none := by
    rw [State.view_hear (s := s.advance t) hw]; exact hd
  have hstatus := State.statusWord_of_temperature hheard hboards hi hdesc
  rw [State.now_hear, hnow] at hstatus
  have hexec : exec (.telemetryStatus t n w) s = .next (((s.advance t).hear n 0 w).modView n (bits w.toNat 14 2) fun y =>
      { y with temp := some (bits w.toNat 1 9), tempAt := t }) := by
    change Host.Outcome.next ((s.advance t).takeWord n 0 w (State.statusWord n w)) = _
    rw [State.takeWord_of_good (s := s.advance t) hc hg ht, hstatus]
  obtain ⟨m, hm⟩ := State.hear_eq n 0 w (s.advance t)
  refine ⟨_, hexec, ?_, ?_, ?_, ?_⟩
  · rw [State.view_modView hheard hboards, if_pos rfl]
  · rw [State.view_modView hheard hboards, if_pos rfl]
  · rw [State.modView, State.port_modPort_same hheard, hport]
  · rw [hm]
    rfl

/-- DESCRIPTOR_WORD with the first word of a board's descriptor (spec 04 R107, R110). -/
theorem exec_descriptorWord_first (hle : s.now ≤ t) (hw : s.wf = true) (hc : (s.port n).state.closed = true)
    (hg : State.wordGood w = true) (ht : bits w.toNat 16 2 = 1) (hfirst : w.toNat.testBit 13 = true)
    (hb : Store.wf {} (s.port n).boards = true) (hsend : (s.lamp (4 * n + bits w.toNat 14 2)).sending = true)
    (hword : w = s.descriptorWord n (bits w.toNat 14 2))
    (hup : ∀ b, b < 4 → ∀ x ∈ (s.lamp (4 * n + b)).up, t ≤ x.1 + us 20) :
    ∃ u, exec (.descriptorWord t n w) s = .next u ∧ (u.view n (bits w.toNat 14 2)).bytes.length = 1
      ∧ (u.view n (bits w.toNat 14 2)).part.length = 4 ∧ (u.port n).seen = true
      ∧ u = { s with clock := u.clock, ports := u.ports, lamps := u.lamps } := by
  have hnow : (s.advance t).now = t := by simp [hle]
  have hheard := State.wf_hear (s := s.advance t) hw n 1 w
  have hport := State.port_hear (s := s.advance t) hw n 1 w
  have hboards : Store.wf {} (((s.advance t).hear n 1 w).port n).boards = true := by rw [hport]; exact hb
  have hsending : (((s.advance t).hear n 1 w).lamp (4 * n + bits w.toNat 14 2)).sending = true := by
    rw [State.lamp_hear (s := s.advance t) hw (boardOf_lt w)]; exact hsend
  have hwait := State.statusWaits_hear_of_none (s := s.advance t) (n := n) (type := 1) (w := w) hw (hnow.symm ▸ hup)
  have hsame : w = ((s.advance t).hear n 1 w).descriptorWord n (bits w.toNat 14 2) :=
    hword.trans (State.descriptorWord_hear (s := s.advance t) hw (boardOf_lt w)).symm
  obtain ⟨g, hbits, hbytes, hpart⟩ := State.descriptorBits_first hheard hboards hfirst hsending hwait hsame
  have hexec : exec (.descriptorWord t n w) s = .next (((s.advance t).hear n 1 w).descriptorBits n w) := by
    change Host.Outcome.next ((s.advance t).takeWord n 1 w (State.descriptorBits n w)) = _
    rw [State.takeWord_of_good (s := s.advance t) hc hg ht]
  obtain ⟨m, hm⟩ := State.hear_eq n 1 w (s.advance t)
  refine ⟨_, hexec, hbytes, hpart, ?_, ?_⟩
  · have hsent : (((s.advance t).hear n 1 w).sendWord n (bits w.toNat 14 2)).wf = true :=
      (State.modLamp_kept (.refl _)).wf hheard
    rw [hbits, State.modView, State.port_modPort_same hsent]
    exact congrArg Port.seen hport
  · rw [hbits, hm]
    rfl

/-- SCANNER_WORD with the first crossing of a mirror that is acquiring (spec 02 R53, 04 R109). -/
theorem exec_scannerWord_first {y : Nat × Tick} (hle : s.now ≤ t) (hw : s.wf = true) (hc : (s.port n).state.closed = true)
    (hg : State.wordGood w = true) (ht : bits w.toNat 16 2 = 2) (hr : s.reportsOn n = true) (h1 : (s.scanner n).state = 1)
    (hl : (s.scanner n).last = none) (hm : Store.wf {} s.spindle.scanners = true)
    (hfirst : (s.advance t).scannerFirst n w = true)
    (hy : ((s.port n).sent.filter fun y => y.1 = bits w.toNat 10 6 && decide (t ≤ y.2 + ns 65536)).getLast? = some y) :
    ∃ u, exec (.scannerWord t n w) s = .next u ∧ (u.port n).seen = true
      ∧ (u.scanner n).last = some ((y.2 + ns (4 * bits w.toNat 1 9) : Nat) + 16 * s.boardDelay n
        (((List.range 4).find? fun b => (s.boardDesc n b).scanner).getD 0)).toNat
      ∧ u = { s with clock := u.clock, spindle := u.spindle, ports := u.ports, lamps := u.lamps } := by
  have hnow : (s.advance t).now = t := by simp [hle]
  obtain ⟨m, hear⟩ := State.hear_eq n 2 w (s.advance t)
  have hspindle : ((s.advance t).hear n 2 w).spindle = s.spindle := by rw [hear]; rfl
  have hmirror : ((s.advance t).hear n 2 w).scanner n = s.scanner n := by rw [State.scanner, hspindle]; rfl
  have hword := State.scannerWord_hear (s := s.advance t) (n := n) (w := w) (y := y) hw (by rw [hnow]; exact hy)
  rw [State.scannerCrossing_first (by rw [hmirror]; exact h1) (by rw [hmirror]; exact hl), hmirror] at hword
  have hreports : ((s.advance t).hear n 2 w).reportsOn n = true := by
    rw [State.reportsOn_hear (s := s.advance t) hw]; exact hr
  have hexec : exec (.scannerWord t n w) s = .next (((s.advance t).hear n 2 w).scannerWord n w) := by
    change Host.Outcome.next (if (s.advance t).scannerFirst n w then (s.advance t).takeWord n 2 w (fun s =>
      s.cond (s.reportsOn n) (State.scannerWord n w)) else _) = _
    rw [if_pos hfirst, State.takeWord_of_good (s := s.advance t) hc hg ht, State.cond_eq, if_pos hreports]
  rw [hword] at hexec
  refine ⟨_, hexec, ?_, ?_, ?_⟩
  · exact congrArg Port.seen (State.port_hear (s := s.advance t) hw n 2 w)
  · rw [State.scanner, State.modSpindle_spindle, hspindle, Store.read_write_same _ _ none n _ hm]
    rfl
  · rw [hear]
    rfl

/-- SCANNER_WORD of odd parity (spec 04 R107). -/
theorem exec_scannerWord_bad (hw : s.wf = true) (hc : (s.port n).state.closed = true) (hg : State.wordGood w = false)
    (hfirst : (s.advance t).scannerFirst n w = true) :
    ∃ u, exec (.scannerWord t n w) s = .next u ∧ u.counter Kind.parity n = (s.counter Kind.parity n + 1) % 2 ^ 32
      ∧ u = { s with clock := u.clock, ports := u.ports, lamps := u.lamps, counters := u.counters } := by
  obtain ⟨m, hm⟩ := State.hear_eq n 2 w (s.advance t)
  have hexec : exec (.scannerWord t n w) s = .next (((s.advance t).hear n 2 w).count Kind.parity n 1) := by
    change Host.Outcome.next (if (s.advance t).scannerFirst n w then (s.advance t).takeWord n 2 w _ else _) = _
    rw [if_pos hfirst, State.takeWord_of_bad_scanner (s := s.advance t) hc hg]
  refine ⟨_, hexec, ?_, ?_⟩
  · rw [State.counter_count_same (State.wf_hear (s := s.advance t) hw n 2 w), hm]
    rfl
  · rw [hm]
    rfl

end PortWord

/-- Settles O11: each clause by the equation of its event. -/
theorem portSymbolsAndWords : Obligations.PortSymbolsAndWords := by
  unfold Obligations.PortSymbolsAndWords
  refine ⟨⟨?probe, ?place, ?keepAlive, ?sync⟩, fun t n w s _ hle hw hc => ⟨?status, ?descriptor, ?scanner, ?bad⟩⟩
  case probe => exact fun t n s _ hle hw hs hp head => exec_probe hle hw hs hp head
  case place => exact fun t x n s _ hw hs hk hx ha hr => exec_keepAlivePlace hw hs hk hx ha hr
  case keepAlive => exact fun t x n k s _ hw hx hl hr ha => exec_keepAliveSend hw hx hl hr ha
  case sync => exact fun t x b n a s _ hw hx hl hr hf ha hc => exec_broadcastSyncSend hw hx hl hr hf ha hc
  case status => exact fun hg ht hi hd hb => exec_telemetryStatus_temperature hle hw hc hg ht hi hd hb
  case descriptor =>
    exact fun hg ht hfirst hb hsend hword hup => exec_descriptorWord_first hle hw hc hg ht hfirst hb hsend hword hup
  case scanner =>
    exact fun y hg ht hr h1 hl hm hfirst hy => exec_scannerWord_first hle hw hc hg ht hr h1 hl hm hfirst hy
  case bad => exact fun hg _ hfirst => exec_scannerWord_bad hw hc hg hfirst

end Sys2Proof.Machine
end

section
/-! PROOFS. The standing of the device: its state, the latch, the causes that inhibit emission, the causes of FAULT and BOOT's
own record. Only a transition, Whorl, the latch and BOOT's stages change it; every other operation that a transition, the
boot tests or a mapped-out DRAM channel runs leaves it as it is, which is said here once for each of them, in the order of the
model's definitions. -/

namespace Sys2Proof.Machine

namespace State

/-- The parts of the standing. -/
structure Standing where
  dev : DevState
  latch : Latch
  inhibit : BitVec 9
  faults : BitVec 6
  boot : Boot

/-- The standing of the device. A self-test that runs is left out of BOOT's record: a transition that overtakes another one
ends it (spec 15 R348). -/
def standing (s : State) : Standing := ⟨s.dev, s.latch, s.whorl.inhibit, s.whorl.faults, { s.boot with test := none }⟩

/-! ## The parts of the state -/

@[simp] theorem modClock_standing (g : Clock → Clock) (s : State) : (s.modClock g).standing = s.standing := rfl
@[simp] theorem modDev_standing (g : DevState → DevState) (s : State) :
    (s.modDev g).standing = { s.standing with dev := g s.dev } := rfl
@[simp] theorem modSpindle_standing (g : Spindle → Spindle) (s : State) : (s.modSpindle g).standing = s.standing := rfl
@[simp] theorem modFlyers_standing (g : Store Flyer → Store Flyer) (s : State) : (s.modFlyers g).standing = s.standing := rfl
@[simp] theorem modSkein_standing (g : Store Entry → Store Entry) (s : State) : (s.modSkein g).standing = s.standing := rfl
@[simp] theorem modHop_standing (g : Nat → Nat) (s : State) : (s.modHop g).standing = s.standing := rfl
@[simp] theorem modHopHold_standing (g : Nat → Nat) (s : State) : (s.modHopHold g).standing = s.standing := rfl
@[simp] theorem modPorts_standing (g : Store Port → Store Port) (s : State) : (s.modPorts g).standing = s.standing := rfl
@[simp] theorem modChans_standing (g : Store Channel → Store Channel) (s : State) :
    (s.modChans g).standing = s.standing := rfl
@[simp] theorem modBanks_standing (g : Store Bank → Store Bank) (s : State) : (s.modBanks g).standing = s.standing := rfl
@[simp] theorem modHk_standing (g : Housekeeping → Housekeeping) (s : State) : (s.modHk g).standing = s.standing := rfl
@[simp] theorem modRuns_standing (g : List StatRun → List StatRun) (s : State) : (s.modRuns g).standing = s.standing := rfl
@[simp] theorem modAuxf_standing (g : Store Auxf → Store Auxf) (s : State) : (s.modAuxf g).standing = s.standing := rfl
@[simp] theorem modGroups_standing (g : Store Group → Store Group) (s : State) : (s.modGroups g).standing = s.standing := rfl
@[simp] theorem modDram_standing (g : Dram → Dram) (s : State) : (s.modDram g).standing = s.standing := rfl
@[simp] theorem modDramMem_standing (g : Mem → Mem) (s : State) : (s.modDramMem g).standing = s.standing := rfl
@[simp] theorem modRecs_standing (g : Records → Records) (s : State) : (s.modRecs g).standing = s.standing := rfl
@[simp] theorem modLink_standing (g : Link → Link) (s : State) : (s.modLink g).standing = s.standing := rfl
@[simp] theorem modDist_standing (g : Distaff → Distaff) (s : State) : (s.modDist g).standing = s.standing := rfl

@[simp] theorem modWhorl_standing {g : Whorl → Whorl} (h : ∀ w, (g w).inhibit = w.inhibit) (k : ∀ w, (g w).faults = w.faults)
    (s : State) : (s.modWhorl g).standing = s.standing := by
  simp [standing, modWhorl, h, k]

@[simp] theorem modTrust_standing (g : Trust → Trust) (s : State) : (s.modTrust g).standing = s.standing := rfl
@[simp] theorem modNvCtl_standing (g : NvCtl → NvCtl) (s : State) : (s.modNvCtl g).standing = s.standing := rfl
@[simp] theorem modCal_standing (g : Cal → Cal) (s : State) : (s.modCal g).standing = s.standing := rfl
@[simp] theorem modSide_standing (g : SidePort → SidePort) (s : State) : (s.modSide g).standing = s.standing := rfl
@[simp] theorem modCounters_standing (g : Store Nat → Store Nat) (s : State) : (s.modCounters g).standing = s.standing := rfl
@[simp] theorem draw_standing (s : State) (n : Nat) : (s.draw n).2.standing = s.standing := rfl
@[simp] theorem modFlyer_standing (i : Nat) (g : Flyer → Flyer) (s : State) :
    (s.modFlyer i g).standing = s.standing := by simp [modFlyer]
@[simp] theorem modEntry_standing (i : Nat) (g : Entry → Entry) (s : State) :
    (s.modEntry i g).standing = s.standing := by simp [modEntry]
@[simp] theorem modPort_standing (i : Nat) (g : Port → Port) (s : State) :
    (s.modPort i g).standing = s.standing := by simp [modPort]
@[simp] theorem modChan_standing (i : Nat) (g : Channel → Channel) (s : State) :
    (s.modChan i g).standing = s.standing := by simp [modChan]
@[simp] theorem modBank_standing (i : Nat) (g : Bank → Bank) (s : State) :
    (s.modBank i g).standing = s.standing := by simp [modBank]
@[simp] theorem modAux_standing (i : Nat) (g : Auxf → Auxf) (s : State) :
    (s.modAux i g).standing = s.standing := by simp [modAux]
@[simp] theorem modGroup_standing (i : Nat) (g : Group → Group) (s : State) :
    (s.modGroup i g).standing = s.standing := by simp [modGroup]
@[simp] theorem count_standing (k i : Nat) (n : Nat) (s : State) : (s.count k i n).standing = s.standing := by simp [count]

/-! ## Steps in turn and steps under a condition -/

/-- Steps that keep the standing keep it together. -/
@[simp] theorem each_standing {α : Type} {f : α → State → State} (h : ∀ a u, (f a u).standing = u.standing) (l : List α)
    (s : State) : (s.each l f).standing = s.standing :=
  each_rel (R := fun a b => b.standing = a.standing) (fun _ => rfl) (fun h k => k.trans h) (fun a u => h a u) l s

@[simp] theorem cond_standing {f : State → State} (h : ∀ u, (f u).standing = u.standing) (b : Bool) (s : State) :
    (s.cond b f).standing = s.standing := by
  cases b
  · rfl
  · exact h s

@[simp] theorem ite_standing {p : Prop} [Decidable p] (a b : State) :
    (if p then a else b).standing = if p then a.standing else b.standing := apply_ite standing p a b

/-! ## Parameters -/

@[simp] theorem setParam_standing (id sub target : Nat) (v : PVal) (s : State) :
    (s.setParam id sub target v).standing = s.standing := by simp [setParam]

/-! ## Records, the log and the side port -/

@[simp] theorem offer_standing (l : Lane) (src : Nat) (frame : Option Nat) (mk : List (Nat → List Byte)) (s : State) :
    (s.offer l src frame mk).standing = s.standing := by simp [offer]
@[simp] theorem setFlag_standing (n : Nat) (s : State) : (s.setFlag n).standing = s.standing := by simp [setFlag]
@[simp] theorem queueWrites_standing (jobs : List PageJob) (s : State) :
    (s.queueWrites jobs).standing = s.standing := by simp [queueWrites]
@[simp] theorem queueErases_standing (pages : List Nat) (s : State) :
    (s.queueErases pages).standing = s.standing := by simp [queueErases]
@[simp] theorem logWrite_standing (body : List Byte) (s : State) :
    (s.logWrite body).standing = s.standing :=
  (modNvCtl_standing _ _).trans ((queueErases_standing _ _).trans (queueWrites_standing _ s))

@[simp] theorem logOne_standing (body : List Byte) (s : State) : (s.logOne body).standing = s.standing := by
  unfold logOne
  dsimp only
  split
  · rfl
  · split <;> simp

@[simp] theorem healthOnly_standing (code subject : Nat) (details : List (Nat × Nat)) (seqs : List Nat) (s : State) :
    (s.healthOnly code subject details seqs).standing = s.standing := by simp [healthOnly]

@[simp] theorem logBy_standing {f : State → State} (h : ∀ u, (f u).standing = u.standing) (s : State) :
    (s.logBy f).standing = s.standing := by
  unfold logBy
  dsimp only
  split <;> simp [h]

@[simp] theorem log_standing (src code : Nat) (detail : List Byte) (s : State) :
    (s.log src code detail).standing = s.standing := by simp [log]
@[simp] theorem eventOf_standing (src code srcState : Nat) (payload : List (Nat × Nat)) (s : State) :
    (s.eventOf src code srcState payload).standing = s.standing := by simp [eventOf]
@[simp] theorem event_standing (src code : Nat) (payload : List (Nat × Nat)) (s : State) :
    (s.event src code payload).standing = s.standing := by simp [event]
@[simp] theorem health_standing (code subject : Nat) (details : List (Nat × Nat)) (seqs : List Nat) (s : State) :
    (s.health code subject details seqs).standing = s.standing := by simp [health]
@[simp] theorem unsay_standing (src code : Nat) (s : State) : (s.unsay src code).standing = s.standing := by simp [unsay]
@[simp] theorem amend_standing (src code : Nat) (head : List Byte) (v : Byte) (s : State) :
    (s.amend src code head v).standing = s.standing := by simp [amend]

/-! ## Shots and emission -/

@[simp] theorem countFlyer_standing (b k : Nat) (s : State) :
    (s.countFlyer b k).standing = s.standing := by simp [countFlyer]
@[simp] theorem tally_standing (frame : Nat) (g : FrameTally → FrameTally) (s : State) :
    (s.tally frame g).standing = s.standing := by simp [tally]
@[simp] theorem report_standing (idx : Option Nat) (e : Entry) (s : State) :
    (s.report idx e).standing = s.standing := by simp [report]
@[simp] theorem account_standing (i : Option Nat) (e : Entry) (s : State) :
    (s.account i e).standing = s.standing := by simp [account]
@[simp] theorem retire_standing (i out : Nat) (s : State) : (s.retire i out).standing = s.standing := by simp [retire]
@[simp] theorem revise_standing (i out : Nat) (s : State) : (s.revise i out).standing = s.standing := by simp [revise]
@[simp] theorem cancel_standing (pick : Entry → Bool) (out : Nat) (s : State) :
    (s.cancel pick out).standing = s.standing := by simp [cancel]
@[simp] theorem sendFrame_standing (n : Nat) (shares : List (List Byte)) (s : State) :
    (s.sendFrame n shares).standing = s.standing := by simp [sendFrame]
@[simp] theorem updateEmission_standing (n : Nat) (s : State) :
    (s.updateEmission n).standing = s.standing := by simp [updateEmission]
@[simp] theorem gateBlame_standing (cause n : Nat) (s : State) :
    (s.gateBlame cause n).standing = s.standing := by simp [gateBlame]
@[simp] theorem updateGate_standing (cause n : Nat) (s : State) :
    (s.updateGate cause n).standing = s.standing := by simp [updateGate]
@[simp] theorem updateGates_standing (cause : Nat) (s : State) :
    (s.updateGates cause).standing = s.standing := by simp [updateGates]
@[simp] theorem updateEmissions_standing (s : State) : s.updateEmissions.standing = s.standing := by simp [updateEmissions]

/-! ## Answers and completions -/

@[simp] theorem ackWith_standing (h : Hdr) (a : Ack) (handle : Nat) (s : State) :
    (s.ackWith h a handle).standing = s.standing := by simp [ackWith]

@[simp] theorem completeWith_standing (handle status detail flags : Nat) (boundary : Option LineTime)
    (result : List Byte) (s : State) :
    (s.completeWith handle status detail flags boundary result).standing = s.standing := by
  unfold completeWith
  split <;> rfl

@[simp] theorem succeed_standing (handle : Nat) (result : List Byte) (s : State) :
    (s.succeed handle result).standing = s.standing := by simp [succeed]
@[simp] theorem failed_standing (handle detail : Nat) (s : State) :
    (s.failed handle detail).standing = s.standing := by simp [failed]
@[simp] theorem aborted_standing (handle detail : Nat) (s : State) :
    (s.aborted handle detail).standing = s.standing := by simp [aborted]

@[simp] theorem payAck_standing (n : Nat) (s : State) : (s.payAck n).standing = s.standing := by
  unfold payAck
  split <;> simp

@[simp] theorem busyAck_standing (n : Nat) (s : State) : (s.busyAck n).standing = s.standing := by
  unfold busyAck
  split <;> simp

/-! ## Marks -/

@[simp] theorem markChan_standing (c : Nat) (k : MarkKind) (code : Nat) (stop : Option Tick) (s : State) :
    (s.markChan c k code stop).standing = s.standing := by simp [markChan]
@[simp] theorem markBank_standing (b : Nat) (k : MarkKind) (code : Nat) (stop : Option Tick) (s : State) :
    (s.markBank b k code stop).standing = s.standing := by simp [markBank]

/-! ## Spindle -/

@[simp] theorem placeFlyer_standing (b : Nat) (start : Option Nat) (s : State) :
    (s.placeFlyer b start).standing = s.standing := by simp [placeFlyer]
@[simp] theorem resumeFlyers_standing (s : State) : s.resumeFlyers.standing = s.standing := by simp [resumeFlyers]
@[simp] theorem holdFlyers_standing (s : State) : s.holdFlyers.standing = s.standing := by simp [holdFlyers]
@[simp] theorem endFrame_standing (s : State) : s.endFrame.standing = s.standing := by simp [endFrame]
@[simp] theorem setSpindle_standing (st : SpState) (s : State) :
    (s.setSpindle st).standing = s.standing := by simp [setSpindle]
@[simp] theorem noDepth_standing (cause : Nat) (s : State) : (s.noDepth cause).standing = s.standing := by simp [noDepth]
@[simp] theorem rateFault_standing (period : Nat) (s : State) :
    (s.rateFault period).standing = s.standing := by simp [rateFault]
@[simp] theorem discardSeed_standing (c : Option Tick) (s : State) :
    (s.discardSeed c).standing = s.standing := by simp [discardSeed]
@[simp] theorem enterAcquiring_standing (s : State) : s.enterAcquiring.standing = s.standing := by simp [enterAcquiring]
@[simp] theorem declareLost_standing (cause : Nat) (s : State) :
    (s.declareLost cause).standing = s.standing := by simp [declareLost]
@[simp] theorem enterFreeRunning_standing (s : State) :
    s.enterFreeRunning.standing = s.standing := by simp [enterFreeRunning]
@[simp] theorem applyTimingMode_standing (s : State) : s.applyTimingMode.standing = s.standing := by simp [applyTimingMode]
@[simp] theorem setScanner_standing (n : Nat) (m : Scanner) (s : State) :
    (s.setScanner n m).standing = s.standing := by simp [setScanner]
@[simp] theorem updateScanner_standing (n : Nat) (s : State) :
    (s.updateScanner n).standing = s.standing := by simp [updateScanner]

/-! ## The front end -/

@[simp] theorem setRange_standing (c r : Nat) (s : State) : (s.setRange c r).standing = s.standing := by simp [setRange]
@[simp] theorem setInter_standing (c : Nat) (m : Store (Int × Int × Int)) (s : State) :
    (s.setInter c m).standing = s.standing := by simp [setInter]
@[simp] theorem applyRanging_standing (c : Nat) (s : State) :
    (s.applyRanging c).standing = s.standing := by simp [applyRanging]
@[simp] theorem cardMode_standing (c : Nat) (gates : Bool) (s : State) :
    (s.cardMode c gates).standing = s.standing := by simp [cardMode]
@[simp] theorem captureGap_standing (c : Nat) (out : Bool) (s : State) :
    (s.captureGap c out).standing = s.standing := by simp [captureGap]
@[simp] theorem startBlock_standing (c : Nat) (s : State) : (s.startBlock c).standing = s.standing := by simp [startBlock]
@[simp] theorem enterMode_standing (c old : Nat) (s : State) :
    (s.enterMode c old).standing = s.standing := by simp [enterMode]
@[simp] theorem dropAutomatic_standing (c : Nat) (s : State) :
    (s.dropAutomatic c).standing = s.standing := by simp [dropAutomatic]
@[simp] theorem applyMode_standing (c old : Nat) (s : State) :
    (s.applyMode c old).standing = s.standing := by simp [applyMode]
@[simp] theorem modBias_standing (b : Nat) (g : Bias → Bias) (s : State) :
    (s.modBias b g).standing = s.standing := by simp [modBias]
@[simp] theorem aimBias_standing (b target : Nat) (s : State) :
    (s.aimBias b target).standing = s.standing := by simp [aimBias]
@[simp] theorem startBiasChange_standing (b target : Nat) (s : State) :
    (s.startBiasChange b target).standing = s.standing := by simp [startBiasChange]
@[simp] theorem retarget_standing (b : Nat) (byTerm : Bool) (s : State) :
    (s.retarget b byTerm).standing = s.standing := by simp [retarget]
@[simp] theorem stopGate_standing (b : Nat) (s : State) : (s.stopGate b).standing = s.standing := by simp [stopGate]
@[simp] theorem applyBiasEnable_standing (b : Nat) (s : State) :
    (s.applyBiasEnable b).standing = s.standing := by simp [applyBiasEnable]
@[simp] theorem stopBias_standing (s : State) : s.stopBias.standing = s.standing := by simp [stopBias]

/-! ## Housekeeping -/

@[simp] theorem unsettle_standing (s : State) : s.unsettle.standing = s.standing := by simp [unsettle]
@[simp] theorem referenceChanged_standing (s : State) :
    s.referenceChanged.standing = s.standing := by simp [referenceChanged]
@[simp] theorem startHk_standing (s : State) : s.startHk.standing = s.standing := by simp [startHk]
@[simp] theorem stopHk_standing (s : State) : s.stopHk.standing = s.standing := by simp [stopHk]
@[simp] theorem startConv_standing (input slot source handle : Nat) (s : State) :
    (s.startConv input slot source handle).standing = s.standing := by simp [startConv]

@[simp] theorem hkSlot_standing (i : Nat) (s : State) : (s.hkSlot i).standing = s.standing := by
  unfold hkSlot
  split <;> simp

@[simp] theorem startTimer_standing (s : State) : s.startTimer.standing = s.standing := by simp [startTimer]

/-! ## Triggers and statistics -/

@[simp] theorem bankTrigger_standing (b c : Nat) (x : Tick) (s : State) :
    (s.bankTrigger b c x).standing = s.standing := by simp [bankTrigger]

@[simp] theorem combine_standing (c : Nat) (x : Tick) (s : State) :
    (s.combine c x).standing = s.standing := by
  unfold combine
  dsimp only
  split
  · simp
  · split
    · rfl
    · split <;> simp
  · simp

@[simp] theorem combineBank_standing (b : Nat) (s : State) : (s.combineBank b).standing = s.standing := by simp [combineBank]
@[simp] theorem trigApplied_standing (c : Nat) (s : State) : (s.trigApplied c).standing = s.standing := by simp [trigApplied]
@[simp] theorem cutReading_standing (c gate decay : Nat) (s : State) :
    (s.cutReading c gate decay).standing = s.standing := by simp [cutReading]
@[simp] theorem openDrift_standing (i : Nat) (x : Tick) (first : Option Tick) (s : State) :
    (s.openDrift i x first).standing = s.standing := by simp [openDrift]

@[simp] theorem driftChosen_standing (s : State) : s.driftChosen.standing = s.standing := by
  unfold driftChosen
  split <;> simp

@[simp] theorem prescalerApplied_standing (i : Nat) (s : State) :
    (s.prescalerApplied i).standing = s.standing := by simp [prescalerApplied]

/-! ## Classes -/

@[simp] theorem modCard_standing (c : Nat) (g : Carding → Carding) (s : State) :
    (s.modCard c g).standing = s.standing := by simp [modCard]
@[simp] theorem cohClear_standing (c : Nat) (interval : Bool) (s : State) :
    (s.cohClear c interval).standing = s.standing := by simp [cohClear]

/-! ## The DRAM's queues and Bobbin -/

@[simp] theorem modDramCh_standing (i : Nat) (g : DramCh → DramCh) (s : State) :
    (s.modDramCh i g).standing = s.standing := by simp [modDramCh]
@[simp] theorem modDramBank_standing (n : Nat) (g : DramBank → DramBank) (s : State) :
    (s.modDramBank n g).standing = s.standing := by simp [modDramBank]
@[simp] theorem enterQueue_standing (r : DramReq) (s : State) :
    (s.enterQueue r).standing = s.standing := by simp [enterQueue]

@[simp] theorem enterAll_standing (l : List DramReq) (s : State) : (s.enterAll l).2.standing = s.standing := by
  unfold enterAll
  refine List.foldlRecOn l _ (motive := fun a : List DramReq × State => a.2.standing = s.standing) rfl fun a ha r _ => ?_
  split <;> simp [ha]

@[simp] theorem fillQueues_standing (s : State) : s.fillQueues.standing = s.standing := by simp [fillQueues]
@[simp] theorem request_standing (l : List DramReq) (s : State) : (s.request l).standing = s.standing := by simp [request]
@[simp] theorem discard_standing (p : DramReq → Bool) (s : State) : (s.discard p).standing = s.standing := by simp [discard]
@[simp] theorem modBob_standing (c k : Nat) (g : BobSlot → BobSlot) (s : State) :
    (s.modBob c k g).standing = s.standing := by simp [modBob]
@[simp] theorem askBins_standing (c k : Nat) (s : State) : (s.askBins c k).standing = s.standing := by simp [askBins]
@[simp] theorem bobFinish_standing (c k : Nat) (part : Bool) (s : State) :
    (s.bobFinish c k part).standing = s.standing := by simp [bobFinish]
@[simp] theorem spillRead_standing (c k i : Nat) (r : DramReq) (bytes : List Byte) (s : State) :
    (s.spillRead c k i r bytes).standing = s.standing := by simp [spillRead]
@[simp] theorem bobsEnd_standing (c : Nat) (stay : Bool) (s : State) :
    (s.bobsEnd c stay).standing = s.standing := by simp [bobsEnd]

@[simp] theorem bobsLost_standing (all : Bool) (s : State) : (s.bobsLost all).standing = s.standing := by
  refine each_standing (fun c u => each_standing (fun k v => cond_standing (fun w => ?_) _ v) _ u) _ s
  simp

/-! ## Carding -/

@[simp] theorem levelHosted_standing (c : Nat) (source : Bool) (s : State) :
    (s.levelHosted c source).standing = s.standing := by simp [levelHosted]
@[simp] theorem analogueHosted_standing (c : Nat) (source : Bool) (s : State) :
    (s.analogueHosted c source).standing = s.standing := by simp [analogueHosted]
@[simp] theorem leaveWaveform_standing (c : Nat) (s : State) :
    (s.leaveWaveform c).standing = s.standing := by simp [leaveWaveform]
@[simp] theorem setHop_standing (j cause : Nat) (s : State) : (s.setHop j cause).standing = s.standing := by simp [setHop]

/-! ## The DRAM scheduler -/

@[simp] theorem burstEffect_standing (r : DramReq) (s : State) :
    (s.burstEffect r).standing = s.standing := by
  unfold burstEffect
  split
  · simp
  · dsimp only
    split <;> simp

@[simp] theorem pageDecision_standing (n : Nat) (s : State) :
    (s.pageDecision n).standing = s.standing := by simp [pageDecision]
@[simp] theorem serveReq_standing (n : Nat) (r : DramReq) (s : State) :
    (s.serveReq n r).standing = s.standing := by simp [serveReq]

@[simp] theorem channelTurn_standing (past : Bool) (ch : Nat) (s : State) :
    (s.channelTurn past ch).standing = s.standing := by
  unfold channelTurn
  split
  · rfl
  · split <;> simp

@[simp] theorem turn_standing (past : Bool) (s : State) : (s.turn past).standing = s.standing := by simp [turn]
@[simp] theorem makeRoom_standing (s : State) : s.makeRoom.standing = s.standing := by simp [makeRoom]

/-! ## Captures -/

@[simp] theorem stageBytes_standing (g : Nat) (parts : List (Nat × List Byte)) (s : State) :
    (s.stageBytes g parts).standing = s.standing := by simp [stageBytes]
@[simp] theorem layWords_standing (g : Nat) (words : List RawWord) (s : State) :
    (s.layWords g words).standing = s.standing := by simp [layWords]
@[simp] theorem countMiss_standing (g : Nat) (rearm : Bool) (s : State) :
    (s.countMiss g rearm).standing = s.standing := by simp [countMiss]
@[simp] theorem storeHeads_standing (g : Nat) (cap : Capture) (s : State) :
    (s.storeHeads g cap).standing = s.standing := by simp [storeHeads]
@[simp] theorem addCapture_standing (g : Nat) (a : Accepted) (start : Nat) (turn : Option Nat) (n post : Nat)
    (flags : BitVec 10) (s : State) :
    (s.addCapture g a start turn n post flags).standing = s.standing := by simp [addCapture]
@[simp] theorem ringCapture_standing (g : Nat) (at_ : Tick) (flags : BitVec 10) (s : State) :
    (s.ringCapture g at_ flags).standing = s.standing := by simp [ringCapture]

@[simp] theorem closeGroup_standing (g : Nat) (at_ : Tick) (flag : BitVec 10) (words : List RawWord) (s : State) :
    (s.closeGroup g at_ flag words).standing = s.standing := by
  unfold closeGroup
  dsimp only
  split <;> simp

@[simp] theorem undoTrigger_standing (g : Nat) (counted : Bool) (s : State) :
    (s.undoTrigger g counted).standing = s.standing := by
  unfold undoTrigger
  split
  · simp
  · rfl

@[simp] theorem stopGroup_standing (g : Nat) (handle : Option Nat) (flag : Nat) (s : State) :
    (s.stopGroup g handle flag).standing = s.standing := by simp [stopGroup]

@[simp] theorem stopCaptures_standing (flag : Nat) (s : State) :
    (s.stopCaptures flag).standing = s.standing := by
  refine each_standing (fun g u => ?_) _ s
  split <;> simp

/-! ## DRAM channels -/

@[simp] theorem modeChanged_standing (old : Nat) (s : State) :
    (s.modeChanged old).standing = s.standing := by
  unfold modeChanged
  dsimp only
  split
  · rfl
  · split
    · simp
    · simp only [modDram_standing, modDramMem_standing, bobsLost_standing]
      refine (each_standing (fun g u => ?_) _ _).trans (health_standing ..)
      split
      · split <;> simp
      · rfl

@[simp] theorem mapOut_standing (ch : Nat) (f : Nat × Nat × Nat) (s : State) :
    (s.mapOut ch f).standing = s.standing := by simp [mapOut]

@[simp] theorem trainChannel_standing (ch : Nat) (eyes : List LaneEye) (s : State) :
    (s.trainChannel ch eyes).standing = s.standing := by
  unfold trainChannel
  dsimp only
  split <;> simp

/-! ## The non-volatile store and saved calibration -/

@[simp] theorem nvRefuse_standing (k pages : Nat) (handle : Option Nat) (s : State) :
    (s.nvRefuse k pages handle).standing = s.standing := by
  unfold nvRefuse
  split <;> simp

@[simp] theorem nvWrite_standing (k : Nat) (bytes : List Byte) (handle : Option Nat) (s : State) :
    (s.nvWrite k bytes handle).standing = s.standing := by simp [nvWrite]
@[simp] theorem loadInter_standing (s : State) : s.loadInter.standing = s.standing := by simp [loadInter]

@[simp] theorem calApply_standing (m : Nat) (s : State) : (s.calApply m).standing = s.standing := by
  unfold calApply
  split
  · exact (each_standing (fun n u => modPort_standing _ _ u) _ _).trans ((loadInter_standing _).trans (modCal_standing _ s))
  · rfl

@[simp] theorem loadCounters_standing (s : State) : s.loadCounters.standing = s.standing := by
  unfold loadCounters
  split <;> simp

/-! ## Whorl's refusals, ports and boards -/

@[simp] theorem uncharge_standing (a : Account) (x : Tick) (e : Nat) (s : State) :
    (s.uncharge a x e).standing = s.standing := by simp [uncharge]

@[simp] theorem refuseEarlier_standing (k : Nat) (x : Nat × Entry) (s : State) :
    (s.refuseEarlier k x).standing = s.standing := by
  unfold refuseEarlier
  simp only [modEntry_standing, count_standing]
  exact cond_standing (fun u => each_standing (fun a v => cond_standing (fun w => by simp) _ v) _ u) _ s

@[simp] theorem refuseNow_standing (pick : Entry → Bool) (k : Nat) (s : State) :
    (s.refuseNow pick k).standing = s.standing := by simp [refuseNow]
@[simp] theorem sendComps_standing (n : Nat) (s : State) : (s.sendComps n).standing = s.standing := by simp [sendComps]
@[simp] theorem renewComps_standing (l : List Nat) (s : State) :
    (s.renewComps l).standing = s.standing := by simp [renewComps]
@[simp] theorem updateReports_standing (n : Nat) (s : State) :
    (s.updateReports n).standing = s.standing := by simp [updateReports]
@[simp] theorem withdrawSync_standing (n : Nat) (s : State) :
    (s.withdrawSync n).standing = s.standing := by simp [withdrawSync]

/-! ## Staged changes -/

@[simp] theorem renumber_standing (n0 n1 : Nat) (s : State) : (s.renumber n0 n1).standing = s.standing := by simp [renumber]
@[simp] theorem setLoad_standing (l : Option Nat) (s : State) : (s.setLoad l).standing = s.standing := by simp [setLoad]
@[simp] theorem beforeParam_standing (id target : Nat) (s : State) :
    (s.beforeParam id target).standing = s.standing := by simp [beforeParam]

@[simp] theorem linesChanged_standing (s : State) : s.linesChanged.standing = s.standing := by
  unfold linesChanged
  dsimp only
  split
  · rfl
  · split
    · simp
    · split
      · simp
      · split <;> simp

@[simp] theorem afterTiming_standing (id : Nat) (s : State) :
    (s.afterTiming id).standing = s.standing := by simp [afterTiming]
@[simp] theorem afterChannel_standing (id c old : Nat) (s : State) :
    (s.afterChannel id c old).standing = s.standing := by simp [afterChannel]
@[simp] theorem afterBank_standing (id b : Nat) (s : State) : (s.afterBank id b).standing = s.standing := by simp [afterBank]
@[simp] theorem afterParam_standing (id target old : Nat) (s : State) :
    (s.afterParam id target old).standing = s.standing := by simp [afterParam]

@[simp] theorem applyItem_standing (target : Nat) (i : Item) (s : State) :
    (s.applyItem target i).standing = s.standing := by
  unfold applyItem
  split <;> simp

@[simp] theorem flipCopy_standing (b : Nat) (s : State) : (s.flipCopy b).standing = s.standing := by simp [flipCopy]
@[simp] theorem withSwapMarks_standing {f : State → State} (h : ∀ u, (f u).standing = u.standing) (s : State) :
    (s.withSwapMarks f).standing = s.standing := by simp [withSwapMarks, h]
@[simp] theorem applyRestore_standing (s : State) : s.applyRestore.standing = s.standing := by simp [applyRestore]

@[simp] theorem applyChange_standing (c : Change) (s : State) :
    (s.applyChange c).standing = s.standing := by
  unfold applyChange
  split <;> simp

@[simp] theorem dropChange_standing (c : Change) (s : State) : (s.dropChange c).standing = s.standing := by cases c <;> rfl

@[simp] theorem settleStaged_standing (s : State) : s.settleStaged.standing = s.standing := by
  unfold settleStaged
  refine (withSwapMarks_standing (fun u => each_standing (fun x v => ?_) _ u) _).trans (modDist_standing _ s)
  dsimp only
  split <;> simp

/-! ## Transitions -/

@[simp] theorem setLink_standing (st : LinkState) (s : State) : (s.setLink st).standing = s.standing := by simp [setLink]
@[simp] theorem linkDetect_standing (s : State) : s.linkDetect.standing = s.standing := by simp [linkDetect]
@[simp] theorem dropBob_standing (c k : Nat) (s : State) : (s.dropBob c k).standing = s.standing := by simp [dropBob]

@[simp] theorem dropBobs_standing (h : Nat) (s : State) : (s.dropBobs h).standing = s.standing := by
  refine each_standing (fun c u => each_standing (fun k v => ?_) _ u) _ s
  dsimp only
  split
  · simp
  · split <;> simp

@[simp] theorem dropInject_standing (h : Nat) (s : State) : (s.dropInject h).standing = s.standing := by
  unfold dropInject
  split
  · split <;> simp
  · rfl

@[simp] theorem dropNv_standing (h : Nat) (s : State) : (s.dropNv h).standing = s.standing := by simp [dropNv]
@[simp] theorem dropStaged_standing (h : Nat) (s : State) : (s.dropStaged h).standing = s.standing := by simp [dropStaged]
@[simp] theorem dropOther_standing (h : Nat) (s : State) : (s.dropOther h).standing = s.standing := by simp [dropOther]
@[simp] theorem dropJobs_standing (h : Nat) (s : State) : (s.dropJobs h).standing = s.standing := by simp [dropJobs]
@[simp] theorem abortLive_standing (self : Option Nat) (s : State) :
    (s.abortLive self).standing = s.standing := by simp [abortLive]

@[simp] theorem calStop_standing (s : State) : s.calStop.standing = s.standing := by
  unfold calStop
  rw [modCal_standing, withSwapMarks_standing fun u => each_standing (fun b v => by simp) _ u]
  simp

@[simp] theorem leaveRanging_standing (out depth : Nat) (s : State) :
    (s.leaveRanging out depth).standing = s.standing := by simp [leaveRanging]
@[simp] theorem endSession_standing (s : State) : s.endSession.standing = s.standing := by simp [endSession]

@[simp] theorem enterBlocks_standing (s : State) : s.enterBlocks.standing = s.standing := by
  have hranges (u : State) : ((u.modClock fun k => { k with safeAt := u.now }).each (List.range 256) fun c v =>
      v.cond (v.autoRanging c && !(v.chan c).fe.held) (setRange c (v.pnum Par.initialRange c))).standing = u.standing :=
    each_standing (fun c v => by simp) _ _
  unfold enterBlocks
  dsimp only
  split <;> simp [hranges]

@[simp] theorem overtakenCommand_standing (h : Nat) (s : State) :
    (s.overtakenCommand h).standing = s.standing := by simp [overtakenCommand]
@[simp] theorem whorlStop_standing (s : State) : s.whorlStop.standing = s.standing := by simp [whorlStop]

/-! ## Seeds, Distaff and the start -/

@[simp] theorem setSeed_standing (seed : BitVec 64) (s : State) : (s.setSeed seed).standing = s.standing := by simp [setSeed]
@[simp] theorem raiseRollback_standing (s : State) : s.raiseRollback.standing = s.standing := by simp [raiseRollback]

@[simp] theorem resolveObjects_standing (s : State) : s.resolveObjects.standing = s.standing := by
  refine each_standing (fun k u => ?_) _ s
  split <;> simp

@[simp] theorem copyReserve_standing (s : State) : s.copyReserve.standing = s.standing := by simp [copyReserve]

@[simp] theorem loadTrust_standing (s : State) : s.loadTrust.standing = s.standing := by
  unfold loadTrust
  split <;> simp

end State

end Sys2Proof.Machine
end

section
/-! PROOFS. What changes the standing of the device: a transition its state, a FAULT cause and an inhibit their own bits (spec 16
R386), and BOOT's way to SAFE (spec 15 R347, 17 R403). -/

namespace Sys2Proof.Machine

namespace State

/-! ## Transitions -/

@[simp] theorem overtake_standing (rank : Nat) (s : State) : (s.overtake rank).standing = s.standing := by
  have hboot (u : State) : (u.modBoot fun b => { b with test := none }).standing = u.standing := rfl
  unfold overtake
  split
  · rfl
  · split <;> simp [hboot]

/-- A transition changes the device's state and no other part of the standing. -/
theorem enter_standing (new : DevState) (cause out depth : Nat) (self : Option Nat) (s : State) :
    (s.enter new cause out depth self).standing = { s.standing with dev := new } := by
  unfold enter
  simp only [updateEmissions_standing, abortLive_standing]
  rw [cond_standing fun u => by split <;> simp]
  simp [cond_standing]

theorem transit_standing (rank : Nat) (here : List DevState) (new : DevState) (cause out : Nat) (self : Option Nat)
    (s : State) : ∃ d, (s.transit rank here new cause out self).standing = { s.standing with dev := d } := by
  unfold transit
  split
  · exact ⟨new, enter_standing ..⟩
  · split
    · exact ⟨new, (enter_standing ..).trans (by simp)⟩
    · exact ⟨s.dev, rfl⟩

/-! ## Causes of FAULT and of an inhibit -/

theorem faultCause_standing (k : Nat) (s : State) : ∃ d, (s.faultCause (some k)).standing =
    { s.standing with dev := d, faults := s.whorl.faults ||| BitVec.ofNat 6 (2 ^ k) } := transit_standing ..

theorem setInhibit_standing (bit : Nat) (on : Bool) (s : State) : (s.setInhibit bit on).standing =
    { s.standing with inhibit := if on then s.standing.inhibit ||| BitVec.ofNat 9 (2 ^ bit)
        else s.standing.inhibit &&& ~~~ BitVec.ofNat 9 (2 ^ bit) } := by
  have hread : s.standing.inhibit = s.whorl.inhibit := rfl
  rw [hread]
  unfold setInhibit
  generalize (if on then s.whorl.inhibit ||| BitVec.ofNat 9 (2 ^ bit)
    else s.whorl.inhibit &&& ~~~ BitVec.ofNat 9 (2 ^ bit)) = m
  dsimp only
  split
  case isTrue h => rw [h]; rfl
  case isFalse =>
    simp only [updateGates_standing, event_standing]
    rfl

theorem dev_of_standing {s u : State} (h : u.standing = s.standing) : u.dev = s.dev := congrArg Standing.dev h

theorem faultStands_of_standing {s u : State} (h : u.standing = s.standing) : u.faultStands = s.faultStands :=
  congrArg (fun x : Standing => x.latch.set || decide (x.faults ≠ 0) || decide (x.inhibit &&& 0x14C#9 ≠ 0)) h

theorem faultStands_eq_false_iff (s : State) : s.faultStands = false ↔
    s.standing.latch.set = false ∧ s.standing.faults = 0 ∧ s.standing.inhibit &&& 0x14C#9 = 0 := by
  simp [faultStands, standing, and_assoc]

/-- The inhibit of a Distaff that is down, bit 1, brings no FAULT (spec 16 Table 16-4). -/
theorem faultMask_without_distaff : ∀ x : BitVec 9, x &&& ~~~ 2#9 &&& 0x14C#9 = x &&& 0x14C#9 := by decide

/-! ## BOOT -/

theorem modBoot_standing {g : Boot → Boot} (h : ∀ b, { g b with test := none } = g { b with test := none })
    (s : State) : (s.modBoot g).standing = { s.standing with boot := g s.standing.boot } := by
  simp only [standing, modBoot, h]

theorem bootFails_standing (cause : Nat) (s : State) : (s.bootFails cause).standing =
    { s.standing with boot := { s.standing.boot with cause := cause, failed := true } } := by
  unfold bootFails
  rw [log_standing, setFlag_standing, modBoot_standing fun _ => rfl, cond_standing fun u => by simp]

theorem bootFails_dev (cause : Nat) (s : State) : (s.bootFails cause).dev = s.dev :=
  congrArg Standing.dev (bootFails_standing cause s)

theorem bootFails_cause (cause : Nat) (s : State) : (s.bootFails cause).boot.cause = cause :=
  congrArg (·.boot.cause) (bootFails_standing cause s)

theorem bootFails_failed (cause : Nat) (s : State) : (s.bootFails cause).boot.failed = true :=
  congrArg (·.boot.failed) (bootFails_standing cause s)

theorem bootFails_spindle (cause : Nat) (s : State) : (s.bootFails cause).spindle = s.spindle := by
  simp only [bootFails, log_spindle, setFlag_spindle, modBoot_spindle, cond_eq]
  split <;> simp

theorem distaffUp_standing (b : List Byte) (s : State) : (s.distaffUp b).standing =
    { s.standing with inhibit := s.standing.inhibit &&& ~~~ 2 } := by
  simp only [distaffUp, raiseRollback_standing, setInhibit_standing, event_standing, modDist_standing]
  rfl

/-- BOOT reaches SAFE, and goes on to FAULT where a cause of it stands then. -/
theorem bootSafe_eq (s : State) : ∃ (u : State) (b : Boot), s.bootSafe = u.cond u.faultStands (faultCause none)
    ∧ u.standing = { s.standing with dev := .safe, inhibit := s.standing.inhibit &&& ~~~ 2, boot := b } := by
  refine ⟨_, { s.boot with test := none, cause := 0, fallback := s.boot.triedOther, stage := 0 }, rfl, ?_⟩
  simp only [log_standing, enterAcquiring_standing, enter_standing, distaffUp_standing, setSeed_standing,
    modClock_standing, nvWrite_standing]
  rfl

theorem bootSafe_dev {s : State} (h : s.faultStands = false) : s.bootSafe.dev = .safe := by
  obtain ⟨u, b, hsafe, hu⟩ := s.bootSafe_eq
  obtain ⟨hlatch, hfaults, hinhibit⟩ := s.faultStands_eq_false_iff.mp h
  have hstands : u.faultStands = false := by
    refine u.faultStands_eq_false_iff.mpr ?_
    rw [hu]
    exact ⟨hlatch, hfaults, (faultMask_without_distaff _).trans hinhibit⟩
  rw [hsafe, hstands]
  exact congrArg Standing.dev hu

end State

end Sys2Proof.Machine
end

section
/-! PROOFS. The frequency reference and the scanner (spec 02 R53, R55, R56, 16 R386). -/

namespace Sys2Proof.Machine

namespace State

section
variable {t l : Tick} {hz n : Nat} {d : Int} {near100 near10 : Bool} {s : State}

/-! ## REF_IN in BOOT -/

/-- The first measurement in BOOT goes by whether REF_IN is near 100 MHz and near 10 MHz. -/
theorem measureRef_in_boot (hd : s.dev = .boot) (hr : s.boot.refSeen = false)
    (h100 : decide (((hz : Int) - (100000000 : Nat)).natAbs * 1000 ≤ 100000000) = near100)
    (h10 : decide (((hz : Int) - (10000000 : Nat)).natAbs * 1000 ≤ 10000000) = near10) :
    s.measureRef hz = if near100 || near10 then (s.modBoot fun b => { b with refSeen := true }).modSpindle fun p =>
        { p with refAccepted := true, ref10 := near10 }
      else ((s.modBoot fun b => { b with refSeen := true }).log Src.power 0x0403 (le 4 hz)).bootFails 6 := by
  rw [measureRef, if_neg (by simp [hd, hr]), ← h100, ← h10]

/-- REF_IN far off ends the attempt with cause 6 and leaves Spindle as it is (spec 02 R55). -/
theorem measureRef_far (hd : s.dev = .boot) (hr : s.boot.refSeen = false)
    (h : hz < 9990000 ∨ (10010000 < hz ∧ hz < 99900000) ∨ 100100000 < hz) :
    (s.measureRef hz).boot.cause = 6 ∧ (s.measureRef hz).boot.failed = true ∧ (s.measureRef hz).dev = .boot
      ∧ (s.measureRef hz).spindle = s.spindle := by
  rw [measureRef_in_boot hd hr (near100 := false) (near10 := false) (decide_eq_false (by omega))
    (decide_eq_false (by omega)), if_neg (by decide)]
  obtain ⟨v, hv⟩ : ∃ v, v = (s.modBoot fun b => { b with refSeen := true }).log Src.power 0x0403 (le 4 hz) := ⟨_, rfl⟩
  have hdev : v.dev = .boot := by rw [hv, log_dev]; exact hd
  have hspindle : v.spindle = s.spindle := by rw [hv, log_spindle]; rfl
  rw [← hv]
  exact ⟨bootFails_cause 6 v, bootFails_failed 6 v, (bootFails_dev 6 v).trans hdev, (bootFails_spindle 6 v).trans hspindle⟩

/-! ## Faults of the reference -/

/-- A deviation above 500 ppm inhibits emission, stands as a FAULT cause and leaves the latch (spec 02 R56, 16 R386). -/
theorem refFaulty_effect (ha : s.spindle.refAccepted = true) (hf : s.whorl.faults.getLsbD 0 = false)
    (hd : 500000 < d.natAbs) : (s.refFaulty d).whorl.inhibit.getLsbD 2 = true
      ∧ (s.refFaulty d).whorl.faults.getLsbD 0 = true ∧ (s.refFaulty d).latch = s.latch := by
  rw [refFaulty, if_neg (by simp [ha, hd]), if_neg (by rw [hf]; decide)]
  obtain ⟨v, hv⟩ : ∃ v, v = (((s.modWhorl fun w => { w with refAt := s.now }).whorlStop.setInhibit 2 true).setFlag 5).event
    Src.whorl 0x43 [(1, 1), (4, min (2 ^ 32 - 1) d.natAbs)] := ⟨_, rfl⟩
  have hstanding : v.standing = { s.standing with inhibit := s.standing.inhibit ||| BitVec.ofNat 9 (2 ^ 2) } := by
    rw [hv, event_standing, setFlag_standing, setInhibit_standing]
    simp
  obtain ⟨d', hfault⟩ := v.faultCause_standing 0
  rw [hstanding] at hfault
  dsimp only
  rw [← hv]
  have hinhibit : (v.faultCause (some 0)).whorl.inhibit = s.standing.inhibit ||| BitVec.ofNat 9 (2 ^ 2) :=
    congrArg Standing.inhibit hfault
  have hfaults : (v.faultCause (some 0)).whorl.faults = v.whorl.faults ||| BitVec.ofNat 6 (2 ^ 0) :=
    congrArg Standing.faults hfault
  exact ⟨by simp [hinhibit], by simp [hfaults], congrArg Standing.latch hfault⟩

/-- A reference that has been good for 10 ms ends the faults of the reference and of the core PLL (spec 16 R386). -/
theorem refGood_effect (ht : s.whorl.refAt + us 10000 ≤ s.now) (hd : d.natAbs ≤ 500000) :
    (s.refGood d).whorl.faults.getLsbD 0 = false ∧ (s.refGood d).whorl.faults.getLsbD 1 = false
      ∧ (s.refGood d).latch = s.latch ∧ (s.refGood d).spindle = s.spindle := by
  rw [refGood, if_neg (not_or.mpr ⟨Nat.not_lt.mpr ht, Nat.not_lt.mpr hd⟩), cond_eq]
  split <;> simp [faultGone]

theorem inhibited_of_bit {i : Nat} (h : s.whorl.inhibit.getLsbD i = true) : s.inhibited = true := by
  have hne : s.whorl.inhibit ≠ 0 := by
    intro hzero
    simp [hzero] at h
  simpa [inhibited] using Or.inl hne

/-! ## The scanner's crossings -/

/-- A scanner's mirror reads as it was set, and the others as before. -/
theorem scanners_setScanner (h : Store.wf {} s.spindle.scanners = true) (n k : Nat) (m : Scanner) :
    Store.read {} (s.setScanner n m).spindle.scanners k = if k = n then m else Store.read {} s.spindle.scanners k := by
  have hread : (s.setScanner n m).spindle.scanners = Store.write {} s.spindle.scanners n m := by
    unfold setScanner
    dsimp only
    split
    · rfl
    · rw [event_spindle]; rfl
  rw [hread]
  split
  case isTrue hk => rw [hk]; exact Store.read_write_same _ _ none n m h
  case isFalse hk => exact Store.read_write_other _ _ none n k m h hk

/-- A crossing that has not come within 1.25 periods is missing: its predicted instant stands in its place (spec 02 R53). -/
theorem crossingMissing_of_late {m : Scanner} (hm : s.scanner n = m) (hs : m.state = 1 ∨ m.state = 2) (hp : m.period ≠ 0)
    (hl : m.last = some l) (hlate : 5 * m.period ≤ 4 * (s.now - l)) :
    s.crossingMissing n = s.setScanner n { m with
      run := 0, missing := m.missing + 1, last := some (l + m.period), state := if 4 ≤ m.missing + 1 then 3 else m.state } := by
  have htracked : ¬ (m.state = 0 ∨ m.state = 3) := by omega
  simp only [crossingMissing, missCrossing, hm, hl, cond_eq, if_neg htracked]
  simp [hp, hlate]

end

end State

/-- Settles O25: REF_IN by the two nominal frequencies, the two faults by what they leave of the device's standing, a missing
crossing by the scanner that it sets. -/
theorem referenceAndScannerEventsTakeEffect : Obligations.ReferenceAndScannerEventsTakeEffect := by
  unfold Obligations.ReferenceAndScannerEventsTakeEffect
  refine ⟨fun t hz s hd hr => ⟨fun h => ?_, fun h => ?_, fun h => ?_⟩, fun t d s ha hf hd => ?_, fun t d s ht hd => ?_,
    ?_⟩
  · exact congrArg Host.Outcome.next (State.measureRef_in_boot (s := s.advance t) (near100 := true) (near10 := false) hd hr
      (decide_eq_true (by omega)) (decide_eq_false (by omega)))
  · exact congrArg Host.Outcome.next (State.measureRef_in_boot (s := s.advance t) (near100 := false) (near10 := true) hd hr
      (decide_eq_false (by omega)) (decide_eq_true (by omega)))
  · exact ⟨_, rfl, State.measureRef_far (s := s.advance t) hd hr h⟩
  · obtain ⟨hinhibit, hfaults, hlatch⟩ := State.refFaulty_effect (s := s.advance t) ha hf hd
    exact ⟨_, rfl, hinhibit, hfaults, State.inhibited_of_bit hinhibit, hlatch⟩
  · exact ⟨_, rfl, State.refGood_effect (s := s.advance t) ht hd⟩
  · intro t l n s hwf m hs hp hl hlate
    have hnow : 5 * m.period ≤ 4 * ((s.advance t).now - l) := by
      rw [State.advance_now]
      omega
    refine ⟨_, congrArg Host.Outcome.next (State.crossingMissing_of_late (s := s.advance t) rfl hs hp hl hnow), ?_,
      fun k hk => ?_⟩
    · exact (State.scanners_setScanner (s := s.advance t) hwf n n _).trans (if_pos rfl)
    · exact (State.scanners_setScanner (s := s.advance t) hwf n k _).trans (if_neg hk)

end Sys2Proof.Machine
end

section
/-! PROOFS. The lanes of the DRAM channels (spec 12 R290): a training sets those of its channel, and what maps a channel out,
serves requests or closes captures leaves them as they were trained. -/

namespace Sys2Proof.Machine

namespace State

/-! ## Operations that leave the channels -/

@[simp] theorem modDramBank_chans (n : Nat) (g : DramBank → DramBank) (s : State) :
    (s.modDramBank n g).dram.chans = s.dram.chans := rfl

@[simp] theorem modBob_chans (c k : Nat) (g : BobSlot → BobSlot) (s : State) :
    (s.modBob c k g).dram.chans = s.dram.chans := rfl

@[simp] theorem modGroup_chans (i : Nat) (g : Group → Group) (s : State) : (s.modGroup i g).dram.chans = s.dram.chans := rfl

@[simp] theorem enterQueue_chans (r : DramReq) (s : State) : (s.enterQueue r).dram.chans = s.dram.chans := rfl

@[simp] theorem enterAll_chans (l : List DramReq) (s : State) : (s.enterAll l).2.dram.chans = s.dram.chans := by
  unfold enterAll
  refine List.foldlRecOn l _ (motive := fun a : List DramReq × State => a.2.dram.chans = s.dram.chans) rfl
    fun a ha r _ => ?_
  split <;> simp [ha]

@[simp] theorem fillQueues_chans (s : State) : s.fillQueues.dram.chans = s.dram.chans := by simp [fillQueues]

@[simp] theorem request_chans (l : List DramReq) (s : State) : (s.request l).dram.chans = s.dram.chans := by
  unfold request
  split
  · rfl
  · simp

@[simp] theorem askBins_chans (c k : Nat) (s : State) : (s.askBins c k).dram.chans = s.dram.chans := by
  simp only [askBins, cond_eq]
  split <;> simp

@[simp] theorem bobFinish_chans (c k : Nat) (part : Bool) (s : State) :
    (s.bobFinish c k part).dram.chans = s.dram.chans := by
  simp only [bobFinish, cond_eq]
  split <;> simp

@[simp] theorem discard_chans (p : DramReq → Bool) (s : State) : (s.discard p).dram.chans = s.dram.chans := rfl

@[simp] theorem burstEffect_chans (r : DramReq) (s : State) : (s.burstEffect r).dram.chans = s.dram.chans := by
  unfold burstEffect
  split
  · rfl
  · dsimp only
    split
    · rfl
    · simp only [cond_eq, spillRead]
      split <;> simp
    · rfl
    · rfl

@[simp] theorem pageDecision_chans (n : Nat) (s : State) : (s.pageDecision n).dram.chans = s.dram.chans := by
  simp only [pageDecision, cond_eq]
  split <;> simp

end State

/-- The lanes of every DRAM channel stay as they were trained. -/
structure LanesKept (s u : State) : Prop where
  wf : Store.wf {} s.dram.chans = true → Store.wf {} u.dram.chans = true
  lanes : Store.wf {} s.dram.chans = true → ∀ i, (u.dramCh i).lanes = (s.dramCh i).lanes

namespace LanesKept

theorem refl (s : State) : LanesKept s s := ⟨id, fun _ _ => rfl⟩

theorem trans {a b c : State} (h : LanesKept a b) (k : LanesKept b c) : LanesKept a c :=
  ⟨fun ha => k.wf (h.wf ha), fun ha i => (k.lanes (h.wf ha) i).trans (h.lanes ha i)⟩

theorem of_chans {s u : State} (h : u.dram.chans = s.dram.chans) : LanesKept s u :=
  ⟨fun hs => h ▸ hs, fun _ i => by rw [State.dramCh, State.dramCh, h]⟩

theorem each {α : Type} {f : α → State → State} (h : ∀ a s, LanesKept s (f a s)) (l : List α) (s : State) :
    LanesKept s (s.each l f) := State.each_rel refl trans h l s

theorem cond {f : State → State} (h : ∀ s, LanesKept s (f s)) (b : Bool) (s : State) : LanesKept s (s.cond b f) := by
  cases b
  · exact refl s
  · exact h s

end LanesKept

namespace State

/-! ## Operations that leave the lanes -/

/-- A DRAM channel reads as it was changed, and the others as before. -/
theorem dramCh_modDramCh {s : State} (h : Store.wf {} s.dram.chans = true) (i j : Nat) (g : DramCh → DramCh) :
    (s.modDramCh i g).dramCh j = if j = i then g (s.dramCh i) else s.dramCh j := Store.read_modify _ _ _ _ _ h

theorem modDram_lanesKept {g : Dram → Dram} (hg : ∀ d, (g d).chans = d.chans) (s : State) : LanesKept s (s.modDram g) :=
  .of_chans (hg s.dram)

theorem wf_modDramCh {s : State} (h : Store.wf {} s.dram.chans = true) (i : Nat) (g : DramCh → DramCh) :
    Store.wf {} (s.modDramCh i g).dram.chans = true := Store.wf_modify _ _ _ _ h

theorem modDramCh_lanesKept (i : Nat) {g : DramCh → DramCh} (hg : ∀ d, (g d).lanes = d.lanes) (s : State) :
    LanesKept s (s.modDramCh i g) := by
  refine ⟨fun h => wf_modDramCh h i g, fun h j => ?_⟩
  rw [dramCh_modDramCh h]
  split
  case isTrue hj => rw [hg, hj]
  case isFalse => rfl

theorem serveReq_lanesKept (n : Nat) (r : DramReq) (s : State) : LanesKept s (s.serveReq n r) := by
  unfold serveReq
  dsimp only
  refine .trans (.trans (.of_chans (modDramBank_chans ..)) (modDramCh_lanesKept _ (by intro _; rfl) _))
    (.of_chans ((burstEffect_chans ..).trans (pageDecision_chans ..)))

theorem channelTurn_lanesKept (past : Bool) (ch : Nat) (s : State) : LanesKept s (s.channelTurn past ch) := by
  unfold channelTurn
  split
  · exact .refl s
  · split
    · exact .refl s
    · dsimp only
      split
      · exact .cond (fun u => .trans (.of_chans (modDramBank_chans ..)) (modDramCh_lanesKept _ (by intro _; rfl) _)) _ s
      · exact serveReq_lanesKept ..

theorem turn_lanesKept (past : Bool) (s : State) : LanesKept s (s.turn past) := by
  unfold turn
  split
  · exact (LanesKept.each (channelTurn_lanesKept past) _ s).trans (.of_chans (fillQueues_chans _))
  · exact .refl s

theorem makeRoom_lanesKept (s : State) : LanesKept s s.makeRoom :=
  (LanesKept.each (fun _ u => .cond (turn_lanesKept true) _ u) _ s).trans (.of_chans rfl)

theorem stageBytes_lanesKept (g : Nat) (parts : List (Nat × List Byte)) (s : State) : LanesKept s (s.stageBytes g parts) :=
  .trans (.of_chans (request_chans ..)) (makeRoom_lanesKept _)

theorem layWords_lanesKept (g : Nat) (words : List RawWord) (s : State) : LanesKept s (s.layWords g words) :=
  .cond (stageBytes_lanesKept g _) _ s

theorem storeHeads_lanesKept (g : Nat) (cap : Capture) (s : State) : LanesKept s (s.storeHeads g cap) :=
  stageBytes_lanesKept ..

theorem addCapture_lanesKept (g : Nat) (a : Accepted) (start : Nat) (turn : Option Nat) (n post : Nat) (flags : BitVec 10)
    (s : State) : LanesKept s (s.addCapture g a start turn n post flags) := by
  unfold addCapture
  exact (storeHeads_lanesKept ..).trans (.of_chans (modGroup_chans ..))

theorem ringCapture_lanesKept (g : Nat) (at_ : Tick) (flags : BitVec 10) (s : State) :
    LanesKept s (s.ringCapture g at_ flags) := by
  unfold ringCapture
  exact addCapture_lanesKept ..

theorem closeGroup_lanesKept (g : Nat) (at_ : Tick) (flag : BitVec 10) (words : List RawWord) (s : State) :
    LanesKept s (s.closeGroup g at_ flag words) := by
  refine (layWords_lanesKept g words s).trans ?_
  unfold closeGroup
  refine .trans ?_ (.of_chans (modGroup_chans ..))
  split
  · exact addCapture_lanesKept ..
  · exact .refl _
  · exact .cond (fun u => ringCapture_lanesKept ..) _ _

theorem bobsLost_lanesKept (all : Bool) (s : State) : LanesKept s (s.bobsLost all) :=
  .each (fun c u => .each (fun k v => .cond (fun w => .of_chans (by simp)) _ v) _ u) _ s

theorem modeChanged_lanesKept (old : Nat) (s : State) : LanesKept s (s.modeChanged old) := by
  unfold modeChanged
  split
  · exact .refl s
  · dsimp only
    have hreport : LanesKept s (s.health 0x0161 0 [(1, s.memoryMode), (2, s.mappedMask)] []) :=
      .of_chans (congrArg Dram.chans (health_dram ..))
    split
    · exact hreport
    · refine .trans ?_ (modDram_lanesKept (by intro _; rfl) _)
      refine .trans ?_ (.of_chans (congrArg Dram.chans (modDramMem_dram ..)))
      refine .trans ?_ (bobsLost_lanesKept true _)
      refine hreport.trans (.each (fun g u => ?_) _ _)
      split
      · split
        · exact (closeGroup_lanesKept ..).trans (.of_chans (congrArg Dram.chans (succeed_dram ..)))
        · exact closeGroup_lanesKept ..
      · exact .refl u

theorem mapOut_lanesKept (ch : Nat) (f : Nat × Nat × Nat) (s : State) : LanesKept s (s.mapOut ch f) := by
  unfold mapOut
  refine .trans ?_ (modeChanged_lanesKept _ _)
  refine .trans ?_ (.of_chans (congrArg Dram.chans ((health_dram ..).trans (setFlag_dram ..))))
  refine .trans ?_ (bobsLost_lanesKept false _)
  refine .trans ?_ (.each (fun g u => .cond (fun v => .of_chans (modGroup_chans ..)) _ u) _ _)
  exact (modDramCh_lanesKept ch (by intro _; rfl) s).trans (.of_chans (discard_chans ..))

/-! ## Training -/

/-- A channel that has been trained has the lanes of its training, and the others have theirs. -/
theorem trainChannel_lanes {s : State} (h : Store.wf {} s.dram.chans = true) (ch : Nat) (eyes : List LaneEye) :
    Store.wf {} (s.trainChannel ch eyes).dram.chans = true
      ∧ ∀ i, ((s.trainChannel ch eyes).dramCh i).lanes = if i = ch then eyes else (s.dramCh i).lanes := by
  obtain ⟨v, hv⟩ : ∃ v, v = s.modDramCh ch fun d => { d with
    lanes := eyes, trainings := (d.trainings + 1) % 2 ^ 32, temp := s.trainTemp, training := false } := ⟨_, rfl⟩
  have hkept : LanesKept v (s.trainChannel ch eyes) := by
    unfold trainChannel
    dsimp only
    rw [← hv]
    split
    · exact mapOut_lanesKept ..
    · exact .refl v
  have hlanes (i : Nat) : (v.dramCh i).lanes = if i = ch then eyes else (s.dramCh i).lanes := by
    rw [hv, dramCh_modDramCh h]
    split <;> rfl
  have hwf : Store.wf {} v.dram.chans = true := hv ▸ wf_modDramCh h ch _
  exact ⟨hkept.wf hwf, fun i => (hkept.lanes hwf i).trans (hlanes i)⟩

theorem each_trainChannel_lanes {s : State} (h : Store.wf {} s.dram.chans = true) (eyes : List (List LaneEye))
    (l : List Nat) :
    ∀ i, ((s.each l fun ch u => u.trainChannel ch (nth [] eyes ch)).dramCh i).lanes
      = if i ∈ l then nth [] eyes i else (s.dramCh i).lanes := by
  induction l generalizing s with
  | nil => exact fun i => rfl
  | cons ch l ih =>
    obtain ⟨hwf, hch⟩ := trainChannel_lanes h ch (nth [] eyes ch)
    intro i
    refine (ih hwf i).trans ?_
    rw [hch]
    by_cases hl : i ∈ l
    · simp [hl]
    · by_cases hi : i = ch <;> simp [hi, hl]

end State

end Sys2Proof.Machine
end

section
/-! PROOFS. The stages of BOOT (spec 02 R58, 12 R290, 17 R403, 18 R435, R440, 21 R478). -/

namespace Sys2Proof.Machine

namespace State

section
variable {s : State}

/-! ## Locks and the store -/

theorem pllLocks_core (hd : s.dev = .boot) (ha : s.spindle.refAccepted = true) (hp : s.boot.plls.getLsbD 0 = false)
    (hl : s.clock.lockedAt = none) : s.pllLocks 0 =
      (s.modBoot fun b => { b with plls := b.plls ||| 1 }).modClock fun c =>
        { c with lockedAt := some s.now, epoch := false } := by
  simp only [pllLocks, hd, ha, hp, cond_eq]
  simp [hl, modBoot, now]

theorem pllLocks_sample (hd : s.dev = .boot) (ha : s.spindle.refAccepted = true) :
    s.pllLocks 3 = s.modPllLocked fun _ => true := by
  simp [pllLocks, hd, ha]

/-- What BOOT needs of the store is there (spec 18 R434). -/
def storeServes (s : State) : Bool := Config.fusesGood && (s.nvData 0).isSome && (s.nvData 1).isSome

theorem storeServes_eq_false_iff : s.storeServes = false ↔
    (!Config.fusesGood) = true ∨ (s.nvData 0).isNone = true ∨ (s.nvData 1).isNone = true := by
  simp [storeServes, imp_iff_not_or, or_assoc]

/-- A store that serves is loaded, BOOT's record of the path is written, and the stage that the path begins with follows. -/
theorem storeRead_of_serves (hs : s.boot.stage = 2) (ha : s.spindle.refAccepted = true) (hf : s.boot.failed = false)
    (h : s.resolveObjects.storeServes = true) : ∃ (v : State) (verdict : Nat), v.standing = s.standing
      ∧ s.storeRead = ((((v.modBoot fun b => { b with
        slow := !v.fastPath, verdict := verdict, bootTest := 2, slotB := v.bootSlotB, triedOther := false, image := []
        passed := false, dramTested := false }).calApply v.savedPorts).cond v.fastPath
          (health 0x0220 0 [(1, 0), (1, verdict), (1, 2)] [])).copyReserve).toBootStage (if v.fastPath then 4 else 3) := by
  have hserves := mt storeServes_eq_false_iff.mpr (by simp [h] : ¬ s.resolveObjects.storeServes = false)
  have hguard : ¬ (s.boot.stage ≠ 2 ∨ (!s.spindle.refAccepted) = true ∨ s.boot.failed = true) := by simp [hs, ha, hf]
  exact ⟨s.resolveObjects.loadCounters.loadTrust.modLink fun l => { l with tableNext := s.resolveObjects.storedTable }, _,
    by simp, (if_neg hguard).trans (if_neg hserves)⟩

/-- A store that serves leads to stage 4 or, on the slow path, to stage 3 (spec 18 R440). -/
theorem storeRead_stage (hs : s.boot.stage = 2) (ha : s.spindle.refAccepted = true) (hf : s.boot.failed = false)
    (h : s.resolveObjects.storeServes = true) : s.storeRead.dev = s.dev
      ∧ s.storeRead.boot.stage = (if s.storeRead.boot.slow then 3 else 4) ∧ s.storeRead.boot.failed = false := by
  obtain ⟨v, verdict, hv, hread⟩ := storeRead_of_serves hs ha hf h
  obtain ⟨b, hb⟩ : ∃ b, b = v.modBoot fun b => { b with
    slow := !v.fastPath, verdict := verdict, bootTest := 2, slotB := v.bootSlotB, triedOther := false, image := []
    passed := false, dramTested := false } := ⟨_, rfl⟩
  obtain ⟨w, hw⟩ : ∃ w, w = ((b.calApply v.savedPorts).cond v.fastPath
    (health 0x0220 0 [(1, 0), (1, verdict), (1, 2)] [])).copyReserve := ⟨_, rfl⟩
  have hkept : w.standing = b.standing := by simp [hw]
  have hslow : w.boot.slow = !v.fastPath := (congrArg (·.boot.slow) hkept).trans (by rw [hb]; rfl)
  have hfailed : w.boot.failed = v.boot.failed := (congrArg (·.boot.failed) hkept).trans (by rw [hb]; rfl)
  have hdev : w.dev = v.dev := (congrArg Standing.dev hkept).trans (by rw [hb]; rfl)
  rw [hread, ← hb, ← hw]
  refine ⟨hdev.trans (congrArg Standing.dev hv), ?_, (hfailed.trans (congrArg (·.boot.failed) hv)).trans hf⟩
  change (if v.fastPath then 4 else 3) = if w.boot.slow then 3 else 4
  rw [hslow]
  cases v.fastPath <;> rfl

/-- A store that does not serve ends the attempt with cause 1 (spec 21 R479). -/
theorem storeRead_of_not_serves (hs : s.boot.stage = 2) (ha : s.spindle.refAccepted = true) (hf : s.boot.failed = false)
    (h : s.resolveObjects.storeServes = false) : s.storeRead = s.resolveObjects.bootFails 1 := by
  rw [storeRead, if_neg (by simp [hs, ha, hf])]
  exact if_pos (storeServes_eq_false_iff.mp h)

/-! ## The DRAM's training -/

theorem trainAll_standing (eyes : List (List LaneEye)) (s : State) : (s.trainAll eyes).standing =
    { s.standing with boot := { s.standing.boot with trained := true } } := by
  rw [trainAll, modBoot_standing fun _ => rfl, each_standing fun ch u => trainChannel_standing ch _ u]

/-- After training the image is loaded, verified or read, by where it comes from (spec 21 Table 21-7). -/
theorem trainingDone_effect (hs : s.boot.stage = 4) (hp : s.boot.plls.getLsbD 1 = true) (hsrc : s.boot.source ≤ 2)
    (eyes : List (List LaneEye)) : (s.trainingDone eyes).dev = s.dev ∧ (s.trainingDone eyes).boot.trained = true
      ∧ (s.trainingDone eyes).boot.stage = (if s.boot.source = 2 then 6 else if s.boot.image ≠ [] then 7 else 5)
      ∧ (s.trainingDone eyes).dram = (s.trainAll eyes).dram := by
  have hstanding := s.trainAll_standing eyes
  obtain ⟨v, hv⟩ : ∃ v, v = s.trainAll eyes := ⟨_, rfl⟩
  rw [trainingDone, if_neg (by rw [hs, hp]; decide), ← hv]
  rw [← hv] at hstanding
  have hdev : v.dev = s.dev := congrArg Standing.dev hstanding
  have htrained : v.boot.trained = true := congrArg (·.boot.trained) hstanding
  have hsource : v.boot.source = s.boot.source := congrArg (·.boot.source) hstanding
  have himage : v.boot.image = s.boot.image := congrArg (·.boot.image) hstanding
  rw [afterTraining, if_neg (by omega), hsource, himage]
  split
  · exact ⟨hdev, htrained, rfl, rfl⟩
  · split
    · exact ⟨hdev, htrained, rfl, rfl⟩
    · exact ⟨hdev, htrained, rfl, rfl⟩

/-! ## The image -/

/-- A slot that has been read holds what was read; nothing but Distaff's slots changes, and the other slot holds what it did. -/
theorem slotRead_slotAnswer (b : Bool) {image : List Byte} (hi : image ≠ []) (s : State) :
    ∃ d : Distaff, s.slotRead b (s.slotAnswer b image) = s.modDist (fun _ => d)
      ∧ (s.modDist fun _ => d).slotBytes b = some ((s.slotBytes b).getD image)
      ∧ (s.modDist fun _ => d).slotBytes (!b) = s.slotBytes (!b) := by
  have hanswer : s.slotAnswer b image = (s.slotBytes b).getD image := if_neg hi
  rw [hanswer, slotRead, cond_eq]
  split
  case isTrue => cases b <;> exact ⟨_, rfl, rfl, rfl⟩
  case isFalse hempty =>
    have hnil : (s.slotBytes b).getD image = [] := by simpa using hempty
    refine ⟨s.dist, rfl, ?_, rfl⟩
    change s.slotBytes b = _
    cases hb : s.slotBytes b with
    | none => simp [hb, hi] at hnil
    | some l => rfl

/-- The image read in stage 5 goes into its slot and BOOT's record, and its checks follow (spec 17 R403). -/
theorem imageRead_stage5 (hs : s.boot.stage = 5) (hsrc : s.boot.source ≤ 1) (hf : s.boot.failed = false)
    {image : List Byte} (hi : image ≠ []) : ∃ d : Distaff, s.imageRead image = (s.modDist fun _ => d).modBoot (fun b => { b with
        image := (s.slotBytes s.boot.slotB).getD image, stage := 7, stageAt := s.now })
      ∧ (s.modDist fun _ => d).slotBytes s.boot.slotB = some ((s.slotBytes s.boot.slotB).getD image)
      ∧ (s.modDist fun _ => d).slotBytes (!s.boot.slotB) = s.slotBytes (!s.boot.slotB) := by
  obtain ⟨d, hread, hslot, hother⟩ := slotRead_slotAnswer s.boot.slotB hi s
  refine ⟨d, ?_, hslot, hother⟩
  rw [imageRead, if_neg (by simp [hs, hasSlots, hsrc, hf]), if_neg hi]
  dsimp only
  rw [hread, cond_eq, slotAnswer, if_neg hi, if_pos (by simp [hs])]
  rfl

/-- An image that fails its checks leads to the host's load, to the other slot once, or to the end of the attempt in stage 7
(spec 21 R478). -/
theorem imageVerified_of_error (hs : s.boot.stage = 7) (hf : s.boot.failed = false) {c : Nat}
    (he : s.imageError s.boot.image = some c) : s.imageVerified.dev = s.dev ∧ s.imageVerified.boot.passed = s.boot.passed
      ∧ s.imageVerified.boot.stage = (if 1 < s.boot.source then 6 else if s.boot.triedOther then 7 else 5) := by
  rw [imageVerified, if_neg (by simp [hs, hf]), he]
  dsimp only
  by_cases hsrc : 1 < s.boot.source
  · rw [if_pos (by simpa [hasSlots] using hsrc), if_pos hsrc]
    exact ⟨rfl, rfl, rfl⟩
  · rw [if_neg (by simpa [hasSlots] using hsrc), if_neg hsrc]
    by_cases hother : s.boot.triedOther = true
    · rw [if_pos hother, if_pos hother]
      have hfails := bootFails_standing s.boot.cause (s.modBoot fun b => { b with slotB := s.bootSlotB })
      exact ⟨congrArg Standing.dev hfails, congrArg (·.boot.passed) hfails, (congrArg (·.boot.stage) hfails).trans hs⟩
    · rw [if_neg hother, if_neg hother]
      exact ⟨rfl, rfl, rfl⟩

theorem imageVerified_of_good (hs : s.boot.stage = 7) (hf : s.boot.failed = false)
    (he : s.imageError s.boot.image = none) (hready : (s.boot.slow && !s.boot.dramTested || s.reserveClear) = true) :
    s.imageVerified = (s.modBoot fun b => { b with passed := true }).afterVerify := by
  rw [imageVerified, if_neg (by simp [hs, hf]), he]
  dsimp only
  rw [hready]
  rfl

/-! ## The boot tests and the host's load -/

theorem bootTestDone_sram_good (hs : s.boot.stage = 3) (hslow : s.boot.slow = true) (hf : s.boot.failed = false)
    {r : TestResult} (hr : r.failingRows = 0) :
    s.bootTestDone false r = (s.modBoot fun b => { b with bootTest := 0 }).toBootStage 4 := by
  simp [bootTestDone, hs, hslow, hf, hr]

theorem bootTestDone_sram_bad (hs : s.boot.stage = 3) (hslow : s.boot.slow = true) (hf : s.boot.failed = false)
    {r : TestResult} (hr : r.failingRows ≠ 0) : (s.bootTestDone false r).dev = s.dev
      ∧ (s.bootTestDone false r).boot.failed = true ∧ (s.bootTestDone false r).boot.cause = 5 := by
  have htest : s.bootTestDone false r = ((s.modBoot fun b => { b with bootTest := 1 }).health 0x0220 0
      [(1, 1), (1, s.boot.verdict), (1, 1)] []).bootFails 5 := by
    simp [bootTestDone, hs, hslow, hf, hr]
  rw [htest]
  exact ⟨(bootFails_dev ..).trans (health_dev ..), bootFails_failed .., bootFails_cause ..⟩

/-- Channels that the DRAM's boot test finds bad are mapped out, which leaves the device's standing as it is. -/
theorem each_mapOut_standing (bad : List Nat) (s : State) : (s.each bad fun ch u =>
    let (v, u1) := u.draw (8 * 2 * 129)
    u1.mapOut ch (v % 8, v / 8 % 2, v / 16)).standing = s.standing :=
  each_standing (fun ch u => by simp) bad s

/-- The DRAM's boot test ends in SAFE where the image's checks are done (spec 18 R440). -/
theorem bootTestDone_dram_dev (hs : s.boot.stage = 8) (hslow : s.boot.slow = true) (hd : s.boot.dramTested = false)
    (ht : s.boot.trained = true) (hf : s.boot.failed = false) (hstands : s.faultStands = false)
    (hclear : s.reserveClear = true) (r : TestResult) : (s.bootTestDone true r).dev = .safe := by
  have hready : (decide (s.boot.stage = 8) && !s.boot.failed) = true := by simp [hs, hf]
  have hkept := each_mapOut_standing (maskList 16 r.failingDram.toNat) s
  rw [bootTestDone, if_neg (by simp [hslow]), if_neg (by simp), if_neg (by simp [hs, hd, ht, hclear])]
  dsimp only
  rw [hready, cond_eq, if_pos rfl, bootSafe_dev]
  rw [faultStands_of_standing (health_standing ..)]
  exact (faultStands_of_standing hkept).trans hstands

theorem hostLoadTimeout_of_late (hs : s.boot.stage = 6) (hf : s.boot.failed = false) (hl : s.boot.loaded = false)
    (hlate : s.boot.stageAt + us 60000000 ≤ s.now) : s.hostLoadTimeout = s.bootFails 8 := by
  rw [hostLoadTimeout, decide_eq_true hlate, hs, hf, hl]
  rfl

theorem loadDone_in_stage6 (hs : s.boot.stage = 6) (hlen : s.side.loadLen ≤ imageLimit) : s.loadDone =
    s.modBoot fun b => { b with image := s.loadWindow, stage := 7, failed := false, loaded := true } := by
  rw [loadDone, if_neg (not_or.mpr ⟨not_not.mpr hs, Nat.not_lt.mpr hlen⟩)]

end

end State

section
variable {t : Tick} {s : State}

/-- The store's reading, as the obligation says it. -/
theorem exec_nvStoreReadDone (hd : s.dev = .boot) (hf : s.boot.failed = false) (ha : s.spindle.refAccepted = true)
    (hs : s.boot.stage = 2) : ∃ u, exec (.nvStoreReadDone t) s = .next u ∧ u.dev = .boot
      ∧ (if (s.advance t).resolveObjects.storeServes
        then u.boot.stage = (if u.boot.slow then 3 else 4) ∧ u.boot.failed = false
        else u.boot.cause = 1 ∧ u.boot.failed = true) := by
  refine ⟨(s.advance t).storeRead, rfl, ?_⟩
  split
  case isTrue h =>
    obtain ⟨hdev, hstage⟩ := State.storeRead_stage (s := s.advance t) hs ha hf h
    exact ⟨hdev.trans hd, hstage⟩
  case isFalse h =>
    rw [State.storeRead_of_not_serves (s := s.advance t) hs ha hf (by simpa using h)]
    have hdev : (s.advance t).resolveObjects.dev = .boot :=
      (State.dev_of_standing (State.resolveObjects_standing _)).trans hd
    exact ⟨(State.bootFails_dev ..).trans hdev, State.bootFails_cause .., State.bootFails_failed ..⟩

theorem exec_dramTrainingDone (hd : s.dev = .boot) (eyes : List (List LaneEye)) (hs : s.boot.stage = 4)
    (hp : s.boot.plls.getLsbD 1 = true) (hsrc : s.boot.source ≤ 2) (hwf : Store.wf {} s.dram.chans = true) :
    ∃ u, exec (.dramTrainingDone t eyes) s = .next u ∧ u.dev = .boot ∧ u.boot.trained = true
      ∧ u.boot.stage = (if s.boot.source = 2 then 6 else if s.boot.image ≠ [] then 7 else 5)
      ∧ ∀ i, i < 16 → (u.dramCh i).lanes = nth [] eyes i := by
  obtain ⟨hdev, htrained, hstage, hdram⟩ := State.trainingDone_effect (s := s.advance t) hs hp hsrc eyes
  refine ⟨_, rfl, hdev.trans hd, htrained, hstage, fun i hi => ?_⟩
  rw [State.dramCh, hdram]
  exact (State.each_trainChannel_lanes (s := s.advance t) hwf eyes (List.range 16) i).trans (if_pos (List.mem_range.mpr hi))

theorem exec_imageReadDone (ht : s.now ≤ t) (hf : s.boot.failed = false) {image : List Byte} (hs : s.boot.stage = 5)
    (hsrc : s.boot.source ≤ 1) (hi : image ≠ []) :
    ∃ u, exec (.imageReadDone t image) s = .next u ∧ u.boot = { s.boot with
        image := (s.slotBytes s.boot.slotB).getD image, stage := 7, stageAt := t }
      ∧ u.slotBytes s.boot.slotB = some u.boot.image ∧ u.slotBytes (!s.boot.slotB) = s.slotBytes (!s.boot.slotB)
      ∧ u = { s with clock := u.clock, boot := u.boot, dist := u.dist } := by
  obtain ⟨d, hread, hslot, hother⟩ := State.imageRead_stage5 (s := s.advance t) hs hsrc hf hi
  have hnow : (s.advance t).now = t := max_eq_right ht
  rw [hnow] at hread
  exact ⟨_, congrArg Host.Outcome.next hread, rfl, hslot, hother, rfl⟩

/-- The image's checks on the slow path, before the DRAM's boot test has run. -/
theorem exec_imageVerifyDone_slow (hd : s.dev = .boot) (hf : s.boot.failed = false) (hs : s.boot.stage = 7)
    (hslow : s.boot.slow = true) (htest : s.boot.dramTested = false) :
    ∃ u, exec (.imageVerifyDone t) s = .next u ∧ u.dev = .boot
      ∧ u.boot.stage = (if (s.imageError s.boot.image).isNone then 8 else if 1 < s.boot.source then 6
        else if s.boot.triedOther then 7 else 5)
      ∧ u.boot.passed = (s.boot.passed || (s.imageError s.boot.image).isNone) := by
  refine ⟨(s.advance t).imageVerified, rfl, ?_⟩
  cases he : s.imageError s.boot.image with
  | none =>
    rw [State.imageVerified_of_good (s := s.advance t) hs hf he (by simp [hslow, htest]), State.afterVerify,
      if_pos (by simp [hslow, htest])]
    exact ⟨hd, rfl, (Bool.or_true _).symm⟩
  | some c =>
    obtain ⟨hdev, hpassed, hstage⟩ := State.imageVerified_of_error (s := s.advance t) hs hf he
    exact ⟨hdev.trans hd, hstage, hpassed.trans (Bool.or_false _).symm⟩

/-- The image's checks on the fast path: SAFE follows where they succeed and no cause of FAULT stands. -/
theorem exec_imageVerifyDone_fast (hd : s.dev = .boot) (hf : s.boot.failed = false) (hs : s.boot.stage = 7)
    (hslow : s.boot.slow = false) (hstands : s.faultStands = false) (hclear : s.reserveClear = true) :
    ∃ u, exec (.imageVerifyDone t) s = .next u
      ∧ u.dev = (if (s.imageError s.boot.image).isNone then .safe else .boot) := by
  refine ⟨(s.advance t).imageVerified, rfl, ?_⟩
  have hclear' : (s.advance t).reserveClear = true := hclear
  cases he : s.imageError s.boot.image with
  | none =>
    rw [State.imageVerified_of_good (s := s.advance t) hs hf he (by simp [hclear']), State.afterVerify,
      if_neg (by simp [hslow])]
    exact State.bootSafe_dev hstands
  | some c => exact (State.imageVerified_of_error (s := s.advance t) hs hf he).1.trans hd

theorem exec_bootTestDone_sram (hd : s.dev = .boot) (hf : s.boot.failed = false) (r : TestResult) (hs : s.boot.stage = 3)
    (hslow : s.boot.slow = true) : ∃ u, exec (.bootTestDone t false r) s = .next u ∧ u.dev = .boot
      ∧ (r.failingRows = 0 → u.boot.stage = 4 ∧ u.boot.bootTest = 0)
      ∧ (r.failingRows ≠ 0 → u.boot.failed = true ∧ u.boot.cause = 5) := by
  refine ⟨(s.advance t).bootTestDone false r, rfl, ?_⟩
  by_cases hr : r.failingRows = 0
  · rw [State.bootTestDone_sram_good (s := s.advance t) hs hslow hf hr]
    exact ⟨hd, fun _ => ⟨rfl, rfl⟩, fun h => absurd hr h⟩
  · obtain ⟨hdev, hfailed, hcause⟩ := State.bootTestDone_sram_bad (s := s.advance t) hs hslow hf hr
    exact ⟨hdev.trans hd, fun h => absurd h hr, fun _ => ⟨hfailed, hcause⟩⟩

theorem exec_hostLoadTimeout (ht : s.now ≤ t) (hd : s.dev = .boot) (hf : s.boot.failed = false) (hs : s.boot.stage = 6)
    (hl : s.boot.loaded = false) (hlate : s.boot.stageAt + us 60000000 ≤ t) :
    ∃ u, exec (.hostLoadTimeout t) s = .next u ∧ u.dev = .boot ∧ u.boot.failed = true ∧ u.boot.cause = 8 := by
  have hnow : (s.advance t).now = t := max_eq_right ht
  have htimeout := State.hostLoadTimeout_of_late (s := s.advance t) hs hf hl (by rw [hnow]; exact hlate)
  exact ⟨_, congrArg Host.Outcome.next htimeout, (State.bootFails_dev ..).trans hd,
     State.bootFails_failed .., State.bootFails_cause ..⟩

end

/-- Settles O37: each stage by what its operation leaves of BOOT's record, SAFE by the causes of FAULT, which the way there does
not touch. -/
theorem bootStagesFollow : Obligations.BootStagesFollow := by
  unfold Obligations.BootStagesFollow
  intro t s ht hd hf ha
  have hnow : (s.advance t).now = t := max_eq_right ht
  refine ⟨fun hp hl => ?_, congrArg Host.Outcome.next (State.pllLocks_sample (s := s.advance t) hd ha),
    exec_nvStoreReadDone hd hf ha, exec_dramTrainingDone hd, fun image => exec_imageReadDone ht hf,
    exec_imageVerifyDone_slow hd hf, exec_imageVerifyDone_fast hd hf, exec_bootTestDone_sram hd hf,
    fun r hs hslow htest htrained hstands hclear => ?_, exec_hostLoadTimeout ht hd hf, fun hs hlen => ?_⟩
  · have hlock := State.pllLocks_core (s := s.advance t) hd ha hp hl
    rw [hnow] at hlock
    exact congrArg Host.Outcome.next hlock
  · exact ⟨_, rfl, State.bootTestDone_dram_dev (s := s.advance t) hs hslow htest htrained hf hstands hclear r⟩
  · exact congrArg Host.Outcome.next (State.loadDone_in_stage6 (s := s.advance t) hs hlen)

end Sys2Proof.Machine
end

section
/-! PROOFS. Flyers that issue shots, faults of their microcode, and commits (spec 03 R73-R92): what is read of Flyers, Skein
entries and ports after a change, what reports and accounts touch, and the operations' equations. -/

namespace Sys2Proof.Machine

namespace State

/-! ## Reading Flyers, entries and ports after a change -/

theorem flyers_wf {s : State} (h : s.wf = true) : Store.wf {} s.flyers = true := by
  simp only [wf, partsWf, Bool.and_eq_true] at h
  tauto

theorem skein_wf {s : State} (h : s.wf = true) : Store.wf {} s.skein = true := by
  simp only [wf, partsWf, Bool.and_eq_true] at h
  tauto

/-- Another Flyer reads as before. -/
theorem flyer_modFlyer_other {s : State} (h : s.wf = true) {b k : Nat} (hk : k ≠ b) (g : Flyer → Flyer) :
    (s.modFlyer b g).flyer k = s.flyer k := Store.read_write_other _ _ none b k _ (flyers_wf h) hk

/-- An entry reads as it was changed. -/
theorem entry_modEntry_same {s : State} (h : s.wf = true) (i : Nat) (g : Entry → Entry) :
    (s.modEntry i g).entry i = g (s.entry i) := Store.read_write_same _ _ none i _ (skein_wf h)

/-- Another entry reads as before. -/
theorem entry_modEntry_other {s : State} (h : s.wf = true) {i j : Nat} (hj : j ≠ i) (g : Entry → Entry) :
    (s.modEntry i g).entry j = s.entry j := Store.read_write_other _ _ none i j _ (skein_wf h) hj

/-- Another port reads as before. -/
theorem port_modPort_other {s : State} (h : s.wf = true) {n m : Nat} (hm : m ≠ n) (g : Port → Port) :
    (s.modPort n g).port m = s.port m := Store.read_write_other _ _ none n m _ (ports_wf h) hm

theorem wf_modFlyer {s : State} (h : s.wf = true) (b : Nat) (g : Flyer → Flyer) : (s.modFlyer b g).wf = true :=
  (modFlyer_kept (.refl s)).wf h

theorem wf_modEntry {s : State} (h : s.wf = true) (i : Nat) (g : Entry → Entry) : (s.modEntry i g).wf = true :=
  (modEntry_kept (.refl s)).wf h

/-! ## Health records -/

/-- `u` is `s` but for what reports write: the records, the queue of the log and the flags of the side port. -/
def Reported (s u : State) : Prop := ∃ r c p, u = { s with recs := r, nvCtl := c, side := p }

namespace Reported

theorem refl (s : State) : Reported s s := ⟨s.recs, s.nvCtl, s.side, rfl⟩

theorem trans {a b c : State} (h : Reported a b) (k : Reported b c) : Reported a c := by
  obtain ⟨_, _, _, rfl⟩ := h
  obtain ⟨r, n, p, rfl⟩ := k
  exact ⟨r, n, p, rfl⟩

theorem modNvCtl {a b : State} (h : Reported a b) (g : NvCtl → NvCtl) : Reported a (b.modNvCtl g) :=
  h.trans ⟨b.recs, g b.nvCtl, b.side, rfl⟩

theorem modSide {a b : State} (h : Reported a b) (g : SidePort → SidePort) : Reported a (b.modSide g) :=
  h.trans ⟨b.recs, b.nvCtl, g b.side, rfl⟩

end Reported

theorem logWrite_reported (body : List Byte) (s : State) : Reported s (s.logWrite body) := by
  unfold logWrite queueErases queueWrites
  exact (((Reported.refl s).modNvCtl _).modNvCtl _).modNvCtl _

theorem logOne_reported (body : List Byte) (s : State) : Reported s (s.logOne body) := by
  unfold logOne
  dsimp only
  split
  · exact ((Reported.refl s).modNvCtl _).modNvCtl _
  · split
    · exact ((Reported.refl s).modNvCtl _).trans (logWrite_reported ..)
    · unfold setFlag
      exact (((Reported.refl s).modNvCtl _).modNvCtl _).modSide _

theorem healthOnly_reported (code subject : Nat) (details : List (Nat × Nat)) (seqs : List Nat) (s : State) :
    Reported s (s.healthOnly code subject details seqs) := by
  rw [healthOnly, cond_eq]
  split
  · exact ⟨_, s.nvCtl, s.side, rfl⟩
  · exact .refl s

theorem log_reported (src code : Nat) (detail : List Byte) (s : State) : Reported s (s.log src code detail) := by
  have hlog := logOne_reported (s.logBody src code detail) s
  unfold log logBy
  dsimp only
  split
  · exact (hlog.trans (healthOnly_reported ..)).trans (logOne_reported ..)
  · exact hlog

theorem health_reported (code subject : Nat) (details : List (Nat × Nat)) (seqs : List Nat) (s : State) :
    Reported s (s.health code subject details seqs) := by
  have honly := healthOnly_reported code subject details seqs s
  rw [health, cond_eq]
  split
  · exact honly.trans (log_reported ..)
  · exact honly

/-! ## Microcode faults (spec 03 R73) -/

/-- A fault ends the Flyer, with the address, and drops what it had issued; no other Flyer changes, and but for the Flyers
only reports are written. -/
theorem flyerFault_effect {s : State} (h : s.wf = true) (b : Nat) :
    ((s.flyerFault b).flyer b).state = .done ∧ ((s.flyerFault b).flyer b).fault = some (s.flyer b).pc
      ∧ ((s.flyerFault b).flyer b).issued = [] ∧ (∀ k, k ≠ b → (s.flyerFault b).flyer k = s.flyer k)
      ∧ ∃ f, Reported (s.modFlyers fun _ => f) (s.flyerFault b) := by
  have hflyers : (s.flyerFault b).flyers = (s.modFlyer b fun f => { f with
      state := .done, fault := some (s.flyer b).pc, issued := [] }).flyers := health_flyers ..
  have hread (k : Nat) : (s.flyerFault b).flyer k = (s.modFlyer b fun f => { f with
      state := .done, fault := some (s.flyer b).pc, issued := [] }).flyer k := by
    rw [flyer, hflyers]
    rfl
  refine ⟨?_, ?_, ?_, fun k hk => (hread k).trans (flyer_modFlyer_other h hk _), _, health_reported ..⟩ <;>
    rw [hread b, flyer_modFlyer_same h]

theorem flyerSetline_of_beyond {b l v : Nat} {s : State} (hv : s.flyerWord b = some v) (hop : bits v 28 4 = 4)
    (hl : bits v 0 16 = l) (hlines : s.spindle.lines ≤ l) : s.flyerSetline b l = s.flyerFault b := by
  simp [flyerSetline, hv, hop, hl, hlines]

theorem flyerLoop_of_fifth {b c v : Nat} {s : State} (hv : s.flyerWord b = some v) (hop : bits v 28 4 = 6)
    (hc : bits v 0 24 = c) (hloops : 4 ≤ (s.flyer b).loops.length) : s.flyerLoop b c = s.flyerFault b := by
  simp [flyerLoop, hv, hop, hc, hloops]

theorem flyerEndloop_of_none_open {b v : Nat} {s : State} (hv : s.flyerWord b = some v) (hop : bits v 28 4 = 7)
    (hloops : (s.flyer b).loops = []) : s.flyerEndloop b = s.flyerFault b := by
  simp [flyerEndloop, hv, hop, hloops]

theorem flyerIssue_of_beyond {b op d n v : Nat} {w : Nat → Bool} {s : State} (hv : s.flyerWord b = some v)
    (hop : bits v 28 4 = op) (hwv : w v = true) (hd : 3072 < d + n) : s.flyerIssue b op w d n = s.flyerFault b := by
  simp [flyerIssue, hv, hop, hwv, hd]

/-! ## SHOT and BURST (spec 03 R73, R74) -/

/-- Execution has not passed the end while an issued shot waits, nor below the end of the code store (spec 03 R73). -/
theorem passedEnd_of_unfinished {b : Nat} {s : State} (h : (s.flyer b).issued ≠ [] ∨ (s.flyer b).pc < 2048) :
    s.passedEnd b = s := by
  rcases h with h | h
  · simp [passedEnd, cond_eq, h]
  · exact passedEnd_of_below h

/-- Descriptors inside the table are issued in order at the Flyer's pointer. -/
theorem flyerIssue_eq {b op d n v : Nat} {w : Nat → Bool} {s : State} (hw : s.wf = true) (hv : s.flyerWord b = some v)
    (hop : bits v 28 4 = op) (hwv : w v = true) (hn : 0 < n) (hd : d + n ≤ 3072) :
    s.flyerIssue b op w d n = s.modFlyer b fun f => { f with
      pc := f.pc + 1, headAt := s.now, plan := none, issued := (List.range n).map fun i => s.shotOf f (d + i) } := by
  simp only [flyerIssue, hv, hop, hwv, ne_eq, not_true_eq_false, Bool.not_true, Bool.false_eq_true, or_self, if_false,
    Nat.not_lt.mpr hd]
  refine passedEnd_of_unfinished (.inl ?_)
  rw [flyer_modFlyer_same hw]
  simpa using Nat.ne_of_gt hn

end State

/-- Settles O15: each instruction comes to the one fault, whose effect is said once. -/
theorem flyerFaultsEndTheFlyer : Obligations.FlyerFaultsEndTheFlyer := by
  unfold Obligations.FlyerFaultsEndTheFlyer
  intro t b v s _ hw hv faulted
  have fault {i : Instr} (h : exec i s = .next ((s.advance t).flyerFault b)) : ∃ u, exec i s = .next u ∧ faulted u := by
    obtain ⟨hstate, hfault, hissued, hothers, f, r, c, p, hsame⟩ := State.flyerFault_effect (s := s.advance t) hw b
    exact ⟨_, h, hstate, hfault, hissued, hothers, by rw [hsame]; rfl⟩
  refine ⟨fun l hop hl hlines => fault ?setline, fun c hop hc hloops => fault ?loop, fun hop hloops => fault ?endloop,
    fun d hop hd hbeyond => fault ?shot⟩
  case setline => exact congrArg _ (State.flyerSetline_of_beyond (s := s.advance t) hv hop hl hlines)
  case loop => exact congrArg _ (State.flyerLoop_of_fifth (s := s.advance t) hv hop hc hloops)
  case endloop => exact congrArg _ (State.flyerEndloop_of_none_open (s := s.advance t) hv hop hloops)
  case shot =>
    exact congrArg _ (State.flyerIssue_of_beyond (s := s.advance t) hv hop (decide_eq_true hd) (Nat.lt_succ_of_le hbeyond))

/-- Settles O16: SHOT and BURST are the two forms of an issue inside the table; a Flyer runs where its condition holds. -/
theorem flyersIssueShots : Obligations.FlyersIssueShots := by
  unfold Obligations.FlyersIssueShots
  intro t b v s _ hw
  refine ⟨fun d hv hop hd hin => ?shot, fun d n hv hop hd hn hpos hin => ?burst, fun hs hp ht hdue => ?run⟩
  case shot =>
    exact congrArg _ (State.flyerIssue_eq (s := s.advance t) (n := 1) hw hv hop (decide_eq_true hd) Nat.one_pos hin)
  case burst =>
    exact congrArg _ (State.flyerIssue_eq (s := s.advance t) hw hv hop (by simp [hd, hn]) hpos hin)
  case run =>
    have hruns : ((s.advance t).flyer b).state = .waiting ∧ ((s.advance t).flyer b).placed = true
        ∧ (s.advance t).spindle.hasTime = true ∧ (s.advance t).plannedInstant
          ⟨((s.advance t).flyer b).frame, ((s.advance t).flyer b).line, 0⟩ ≤ (s.advance t).now + ns 8192 :=
      ⟨hs, hp, ht, hdue⟩
    exact congrArg _ (if_pos hruns)

end Sys2Proof.Machine
end

section
/-! PROOFS. Commits (spec 03 R74, R79-R92): the turn that a shot takes, its checks, and what a commit and a skip leave. -/

namespace Sys2Proof.Machine

namespace State

/-- Where no port is asked for a sync, none is reserved (spec 04 R105). -/
theorem offerSyncs_of_none_asked {s : State} (h : ∀ n, n < 8 → (s.port n).asked = none) : s.offerSyncs = s :=
  each_eq_self fun n hn => offerSync_of_not_asked (h n (List.mem_range.mp hn))

/-- A shot status record goes into the records alone (spec 03 R91). -/
theorem report_eq (i : Option Nat) (e : Entry) (s : State) : ∃ r, s.report i e = s.modRecs fun _ => r := by
  rw [report, cond_eq]
  split
  · exact ⟨_, rfl⟩
  · exact ⟨s.recs, rfl⟩

/-- What the retirement or the skip of a Flyer's shot counts and reports: a counter of its Flyer, totals of its frame, and
records (spec 03 R91, R92). -/
theorem account_eq (i : Option Nat) (e : Entry) (s : State) : ∃ p r,
    s.account i e = ((s.countFlyer e.bank (outcomeKey e.outcome)).modSpindle fun _ => p).modRecs fun _ => r := by
  obtain ⟨r, hr⟩ := report_eq i e ((s.countFlyer e.bank (outcomeKey e.outcome)).tally e.lt.frame fun f =>
    if e.outcome = 0 ∨ i.isNone then f else { f with cancelled := f.cancelled + 1 })
  exact ⟨_, r, hr⟩

theorem flyer_countFlyer_same {s : State} (h : s.wf = true) (b k : Nat) : (s.countFlyer b k).flyer b =
    { s.flyer b with counters := Store.modify 0 (s.flyer b).counters k fun v => (v + 1) % 2 ^ 32 } :=
  flyer_modFlyer_same h b _

theorem wf_countFlyer {s : State} (h : s.wf = true) (b k : Nat) : (s.countFlyer b k).wf = true := wf_modFlyer h b _

/-! ## The turn of a shot -/

/-- The state in which the first of a Flyer's issued shots is checked: the Flyer has taken its turn, and the shot counts as
issued and as planned in its frame (spec 03 R84, R92, 02 R64). -/
def takeTurn (b frame : Nat) (rest : List Shot) (s : State) : State :=
  (((s.modArb fun _ => { s.arbNow with served := s.arbNow.served ++ [b] }).modFlyer b fun f =>
    { f with issued := rest, headAt := s.now, plan := none }).countFlyer b 0).tally frame
      fun y => { y with planned := y.planned + 1 }

theorem wf_takeTurn {s : State} (h : s.wf = true) (b frame : Nat) (rest : List Shot) : (s.takeTurn b frame rest).wf = true :=
  wf_countFlyer (wf_modFlyer (s := s.modArb _) h b _) b 0

theorem flyer_takeTurn {s : State} (h : s.wf = true) (b frame : Nat) (rest : List Shot) :
    (s.takeTurn b frame rest).flyer b = { s.flyer b with
      issued := rest, headAt := s.now, plan := none
      counters := Store.modify 0 (s.flyer b).counters 0 fun v => (v + 1) % 2 ^ 32 } := by
  have hset := flyer_modFlyer_same (s := s.modArb fun _ => { s.arbNow with served := s.arbNow.served ++ [b] }) h b
    fun f => { f with issued := rest, headAt := s.now, plan := none }
  refine (flyer_countFlyer_same (wf_modFlyer (s := s.modArb _) h b _) b 0).trans ?_
  rw [hset]
  rfl

/-- The turn does not bear on the checks (spec 03 Table 3-5). -/
theorem firstChecks_takeTurn (b frame : Nat) (rest : List Shot) (e : Entry) (d : BitVec 128) (x : Tick) (s : State) :
    (s.takeTurn b frame rest).firstChecks e d x = s.firstChecks e d x := rfl

/-- The state of a shot's turn with the skip by the port stream rule counted, where that failed (spec 04 R100). -/
def skipTurn (b : Nat) (e : Entry) (rest : List Shot) (stream : Bool) (s : State) : State :=
  (s.takeTurn b e.lt.frame rest).cond stream (count Kind.streamSkip (elemPort e.element) 1)

theorem skipTurn_eq (b : Nat) (e : Entry) (rest : List Shot) (stream : Bool) (s : State) :
    ∃ m, s.skipTurn b e rest stream = (s.takeTurn b e.lt.frame rest).modCounters fun _ => m := by
  cases stream
  · exact ⟨s.counters, rfl⟩
  · exact ⟨_, rfl⟩

theorem wf_skipTurn {s : State} (h : s.wf = true) (b : Nat) (e : Entry) (rest : List Shot) (stream : Bool) :
    (s.skipTurn b e rest stream).wf = true :=
  (cond_kept (fun u => count_kept (.refl u)) (.refl _)).wf (wf_takeTurn h b e.lt.frame rest)

theorem flyer_skipTurn {s : State} (h : s.wf = true) (b : Nat) (e : Entry) (rest : List Shot) (stream : Bool) :
    (s.skipTurn b e rest stream).flyer b = { s.flyer b with
      issued := rest, headAt := s.now, plan := none
      counters := Store.modify 0 (s.flyer b).counters 0 fun v => (v + 1) % 2 ^ 32 } := by
  obtain ⟨m, hm⟩ := s.skipTurn_eq b e rest stream
  rw [hm]
  exact flyer_takeTurn h b e.lt.frame rest

section Turn

variable {b : Nat} {x : Shot} {rest : List Shot} {ready : Tick} {s : State}

theorem commitShot_of_good (hi : (s.flyer b).issued = x :: rest) (hr : s.readyAt b = some ready) (hm : s.mayCommit b = true)
    (hchecks : s.firstChecks (s.entryOf b x) x.desc (max ready (s.now - ns 8)) = none) :
    s.commitShot b = ((s.takeTurn b (s.entryOf b x).lt.frame rest).codeAndCommit (s.entryOf b x) x.desc).passedEnd b := by
  have hturn := (firstChecks_takeTurn b (s.entryOf b x).lt.frame rest (s.entryOf b x) x.desc _ s).trans hchecks
  unfold takeTurn at hturn ⊢
  simp only [commitShot, hi, hr, hm, Bool.not_true, Bool.false_eq_true, if_false, hturn]

theorem commitShot_of_bad (hi : (s.flyer b).issued = x :: rest) (hr : s.readyAt b = some ready) (hm : s.mayCommit b = true)
    {out : Nat} {stream : Bool}
    (hchecks : s.firstChecks (s.entryOf b x) x.desc (max ready (s.now - ns 8)) = some (out, stream)) :
    s.commitShot b = ((s.skipTurn b (s.entryOf b x) rest stream).skip (s.entryOf b x) out).passedEnd b := by
  have hturn := (firstChecks_takeTurn b (s.entryOf b x).lt.frame rest (s.entryOf b x) x.desc _ s).trans hchecks
  unfold skipTurn
  unfold takeTurn at hturn ⊢
  simp only [commitShot, hi, hr, hm, Bool.not_true, Bool.false_eq_true, if_false, hturn]

end Turn

/-! ## A commit -/

theorem entry_takeEntry {s : State} (h : s.wf = true) (e : Entry) :
    (s.takeEntry e).entry (firstGap 0 s.skein) = { e with state := .committed, order := s.order } :=
  entry_modEntry_same h (firstGap 0 s.skein) fun _ => { e with state := .committed, order := s.order }

theorem reserved_takeEntry {s : State} (h : s.wf = true) (e : Entry) :
    (e.symbolAt, Reserved.fire (firstGap 0 s.skein)) ∈ ((s.takeEntry e).port (elemPort e.element)).reserved := by
  have hwf : ((s.modEntry (firstGap 0 s.skein) fun _ => { e with state := .committed, order := s.order }).modOrder
      (· + 1)).wf = true := (modOrder_kept (modEntry_kept (.refl s))).wf h
  rw [takeEntry, port_modPort_same hwf]
  exact List.mem_append_right _ (List.mem_singleton_self _)

/-- The entry with its fixed code (spec 03 R79). -/
def fixedCode (s : State) (e : Entry) (d : BitVec 128) : Entry :=
  { e with codeIdx := descField d 43 8, codeRepeat := false
           code := (Store.read 0 (s.flyer e.bank).codes (descField d 43 8)).setWidth 20 }

/-- With a fixed code that is valid and with room, the shot takes its entry, and the generator stays (spec 03 R79-R83). -/
theorem codeAndCommit_of_fixed {e : Entry} {d : BitVec 128} {s : State} (hfix : descField d 41 2 = 0)
    (hcode : codeValid (s.fixedCode e d).code = true) (hroom : s.roomFor e = none) :
    s.codeAndCommit e d = (((s.modFlyer e.bank fun f => { f with gen := (s.flyer e.bank).gen }).takeEntry
      (s.fixedCode e d)).countFlyer e.bank 1).modFlyer e.bank fun f => { f with committedAt := some s.now } := by
  have hroom' : (s.modFlyer e.bank fun f => { f with gen := (s.flyer e.bank).gen }).roomFor (s.fixedCode e d) = none := hroom
  unfold fixedCode at *
  simp only [codeAndCommit, hfix, if_true, hcode, Bool.not_true, Bool.false_eq_true, if_false, hroom']

/-- Such a commit leaves what its Flyer has issued and where it stands; the entry is the lowest free one, committed with the
next order, and its fire symbol is reserved on its port (spec 03 R82-R86, 04 R100). -/
theorem codeAndCommit_of_fixed_effect {e : Entry} {d : BitVec 128} {s : State} (h : s.wf = true)
    (hfix : descField d 41 2 = 0) (hcode : codeValid (s.fixedCode e d).code = true) (hroom : s.roomFor e = none) :
    ((s.codeAndCommit e d).flyer e.bank).issued = (s.flyer e.bank).issued
      ∧ ((s.codeAndCommit e d).flyer e.bank).pc = (s.flyer e.bank).pc
      ∧ (s.codeAndCommit e d).entry (firstGap 0 s.skein) = { (s.fixedCode e d) with state := .committed, order := s.order }
      ∧ (e.symbolAt, Reserved.fire (firstGap 0 s.skein)) ∈ ((s.codeAndCommit e d).port (elemPort e.element)).reserved
      ∧ (s.codeAndCommit e d).order = s.order + 1 ∧ (s.codeAndCommit e d).dev = s.dev
      ∧ (s.codeAndCommit e d).latch = s.latch ∧ (s.codeAndCommit e d).whorl = s.whorl := by
  obtain ⟨g, hg⟩ : ∃ g, g = s.modFlyer e.bank fun f => { f with gen := (s.flyer e.bank).gen } := ⟨_, rfl⟩
  have hgw : g.wf = true := hg ▸ wf_modFlyer h _ _
  have htake : (g.takeEntry (s.fixedCode e d)).wf = true := (takeEntry_kept (.refl g)).wf hgw
  have hflyer : (g.takeEntry (s.fixedCode e d)).flyer e.bank = s.flyer e.bank :=
    hg ▸ flyer_modFlyer_same h e.bank fun f => { f with gen := (s.flyer e.bank).gen }
  rw [codeAndCommit_of_fixed hfix hcode hroom, ← hg, flyer_modFlyer_same (wf_countFlyer htake _ _),
    flyer_countFlyer_same htake, hflyer]
  exact ⟨rfl, rfl, hg ▸ entry_takeEntry hgw (s.fixedCode e d), hg ▸ reserved_takeEntry hgw (s.fixedCode e d),
    by rw [hg]; rfl, by rw [hg]; rfl, by rw [hg]; rfl, by rw [hg]; rfl⟩

/-! ## A skip -/

/-- A skip touches a counter of its Flyer, its frame's totals and records (spec 03 R82, R91, R92). -/
theorem skip_eq (e : Entry) (out : Nat) (s : State) : ∃ p r,
    s.skip e out = ((s.countFlyer e.bank (outcomeKey out)).modSpindle fun _ => p).modRecs fun _ => r :=
  account_eq none { e with outcome := out } s

theorem flyer_skip {s : State} (h : s.wf = true) (e : Entry) (out : Nat) : (s.skip e out).flyer e.bank =
    { s.flyer e.bank with
      counters := Store.modify 0 (s.flyer e.bank).counters (outcomeKey out) fun v => (v + 1) % 2 ^ 32 } := by
  obtain ⟨p, r, hskip⟩ := s.skip_eq e out
  rw [hskip]
  exact flyer_countFlyer_same h _ _

end State

section Commit

variable {t ready : Tick} {b : Nat} {x : Shot} {rest : List Shot} {s : State}

/-- COMMIT is the turn of a shot where no sync waits for its reservation, and where its Flyer does not pass the end of the code
store with it. -/
theorem exec_commit_eq {u : State} (hasked : ∀ n, n < 8 → (s.port n).asked = none)
    (hu : (s.advance t).commitShot b = u.passedEnd b) (hend : (u.flyer b).issued ≠ [] ∨ (u.flyer b).pc < 2048) :
    exec (.commit t b) s = .next u := by
  have hsync := State.offerSyncs_of_none_asked (s := s.advance t) hasked
  exact congrArg Host.Outcome.next ((congrArg (State.commitShot b) hsync).trans
    (hu.trans (State.passedEnd_of_unfinished hend)))

/-- COMMIT of a shot that passes every check, with a fixed code (spec 03 R74, R82-R86, 04 R100). -/
theorem exec_commit_of_good (ht : s.now ≤ t) (hw : s.wf = true) (hasked : ∀ n, n < 8 → (s.port n).asked = none)
    (hi : (s.flyer b).issued = x :: rest) (hpc : rest ≠ [] ∨ (s.flyer b).pc < 2048)
    (hr : (s.advance t).readyAt b = some ready) (hm : (s.advance t).mayCommit b = true)
    {e : Entry} (he : e = (s.advance t).entryOf b x)
    (hchecks : (s.advance t).firstChecks e x.desc (max ready (t - ns 8)) = none) (hfix : descField x.desc 41 2 = 0)
    (hcode : codeValid ((Store.read 0 (s.flyer b).codes (descField x.desc 43 8)).setWidth 20) = true)
    (hroom : (s.advance t).roomFor e = none) :
    ∃ u, exec (.commit t b) s = .next u ∧ (u.flyer b).issued = rest
      ∧ (u.entry (firstGap 0 s.skein)).state = .committed ∧ (u.entry (firstGap 0 s.skein)).planned = e.planned
      ∧ (u.entry (firstGap 0 s.skein)).element = e.element ∧ (u.entry (firstGap 0 s.skein)).order = s.order
      ∧ (e.symbolAt, Reserved.fire (firstGap 0 s.skein)) ∈ (u.port (elemPort e.element)).reserved
      ∧ u.order = s.order + 1 ∧ u.dev = s.dev ∧ u.latch = s.latch ∧ u.whorl = s.whorl := by
  have hbank : e.bank = b := he ▸ rfl
  have hflyer := State.flyer_takeTurn (s := s.advance t) hw b e.lt.frame rest
  have hcode' : codeValid (((s.advance t).takeTurn b e.lt.frame rest).fixedCode e x.desc).code = true := by
    rw [State.fixedCode, hbank, hflyer]
    exact hcode
  have hcommit := State.commitShot_of_good (s := s.advance t) hi hr hm
    (by rw [← he, show (s.advance t).now = t from max_eq_right ht]; exact hchecks)
  rw [← he] at hcommit
  obtain ⟨hissued, hcount, hentry, hreserved, hrest⟩ := State.codeAndCommit_of_fixed_effect
    (State.wf_takeTurn (s := s.advance t) hw b e.lt.frame rest) hfix hcode' hroom
  rw [hbank, hflyer] at hissued hcount
  exact ⟨_, exec_commit_eq hasked hcommit (by rw [hissued, hcount]; exact hpc), hissued, congrArg Entry.state hentry,
    (congrArg Entry.planned hentry).trans rfl, (congrArg Entry.element hentry).trans rfl, congrArg Entry.order hentry,
    hreserved, hrest⟩

/-- COMMIT of a shot that fails a check (spec 03 R82, R84, R92). -/
theorem exec_commit_of_bad (ht : s.now ≤ t) (hw : s.wf = true) (hasked : ∀ n, n < 8 → (s.port n).asked = none)
    (hi : (s.flyer b).issued = x :: rest) (hpc : rest ≠ [] ∨ (s.flyer b).pc < 2048)
    (hr : (s.advance t).readyAt b = some ready) (hm : (s.advance t).mayCommit b = true) {out : Nat} {stream : Bool}
    {e : Entry} (he : e = (s.advance t).entryOf b x)
    (hchecks : (s.advance t).firstChecks e x.desc (max ready (t - ns 8)) = some (out, stream))
    (hcounters : Store.wf 0 (s.flyer b).counters = true) :
    ∃ u, exec (.commit t b) s = .next u ∧ (u.flyer b).issued = rest ∧ u.skein = s.skein ∧ u.order = s.order
      ∧ Store.read 0 (u.flyer b).counters (State.outcomeKey out)
        = (Store.read 0 (s.flyer b).counters (State.outcomeKey out) + 1) % 2 ^ 32
      ∧ u.ports = s.ports ∧ u.dev = s.dev ∧ u.latch = s.latch ∧ u.whorl = s.whorl := by
  have hbank : e.bank = b := he ▸ rfl
  have hskip := State.flyer_skip (State.wf_skipTurn (s := s.advance t) hw b e rest stream) e out
  rw [hbank, State.flyer_skipTurn (s := s.advance t) hw] at hskip
  have hcommit := State.commitShot_of_bad (stream := stream) (s := s.advance t) hi hr hm
    (by rw [← he, show (s.advance t).now = t from max_eq_right ht]; exact hchecks)
  rw [← he] at hcommit
  have hother : State.outcomeKey out ≠ 0 := by simp [State.outcomeKey]
  have hcount : Store.read 0 (Store.modify 0 (Store.modify 0 (s.flyer b).counters 0 fun v => (v + 1) % 2 ^ 32)
      (State.outcomeKey out) fun v => (v + 1) % 2 ^ 32) (State.outcomeKey out)
        = (Store.read 0 (s.flyer b).counters (State.outcomeKey out) + 1) % 2 ^ 32 := by
    rw [Store.read_modify _ _ _ _ _ (Store.wf_modify _ _ _ _ hcounters), if_pos rfl,
      Store.read_modify _ _ _ _ _ hcounters, if_neg hother]
  obtain ⟨m, hturn⟩ := (s.advance t).skipTurn_eq b e rest stream
  obtain ⟨p, r, hsame⟩ := ((s.advance t).skipTurn b e rest stream).skip_eq e out
  refine ⟨_, exec_commit_eq hasked hcommit (by rw [hskip]; exact hpc), by rw [hskip], ?_, ?_,
    by rw [hskip]; exact hcount, ?_⟩ <;>
    rw [hsame, hturn]
  · rfl
  · rfl
  · exact ⟨rfl, rfl, rfl, rfl⟩

end Commit

/-- Settles O17: a shot that passes and one that fails a check each leave their turn by the equation of the operation. -/
theorem commitTakesAnEntry : Obligations.CommitTakesAnEntry := by
  unfold Obligations.CommitTakesAnEntry
  intro t ready b x rest s _ ht hw hasked a e hi hpc hr hm
  exact ⟨fun hchecks hfix hcode hroom => exec_commit_of_good ht hw hasked hi hpc hr hm rfl hchecks hfix hcode hroom,
    fun out stream hchecks hcounters => exec_commit_of_bad ht hw hasked hi hpc hr hm rfl hchecks hcounters⟩

end Sys2Proof.Machine
end

section
/-! PROOFS. The fire symbol (spec 03 R86, 04 R99, 16 R372): what a retirement touches, and what a symbol that leaves touches. -/

namespace Sys2Proof.Machine

namespace State

/-- Entries are read from the Skein alone. -/
theorem entry_of_skein {s u : State} (h : u.skein = s.skein) (i : Nat) : u.entry i = s.entry i := by
  rw [entry, h, entry]

/-- Ports are read from the ports alone. -/
theorem port_of_ports {s u : State} (h : u.ports = s.ports) (n : Nat) : u.port n = s.port n := by
  rw [port, h, port]

/-- DISARM and RANGING STOP that complete touch Distaff alone (spec 15 Table 15-8). -/
theorem retireDone_eq (s : State) : ∃ d, s.retireDone = s.modDist fun _ => d := by
  unfold retireDone
  split
  · exact ⟨s.dist, rfl⟩
  · refine each_rel (R := fun a b => ∃ d, b = a.modDist fun _ => d) (fun a => ⟨a.dist, rfl⟩) ?_ (fun h u => ?_) _
      (s.modDist fun d => { d with awaitRetire := [] })
    · rintro _ _ _ ⟨_, rfl⟩ ⟨d, rfl⟩
      exact ⟨d, rfl⟩
    · obtain ⟨d, -, h⟩ := completeWith_keeps_staged h 0 0 0 none [] u
      exact ⟨d, h⟩

@[simp] theorem retireDone_skein (s : State) : s.retireDone.skein = s.skein := by
  obtain ⟨d, h⟩ := s.retireDone_eq
  rw [h, modDist_skein]

@[simp] theorem retireDone_ports (s : State) : s.retireDone.ports = s.ports := by
  obtain ⟨d, h⟩ := s.retireDone_eq
  rw [h, modDist_ports]

@[simp] theorem retireDone_whorl (s : State) : s.retireDone.whorl = s.whorl := by
  obtain ⟨d, h⟩ := s.retireDone_eq
  rw [h, modDist_whorl]

/-! ## Retirement -/

@[simp] theorem account_skein (i : Option Nat) (e : Entry) (s : State) : (s.account i e).skein = s.skein := by
  obtain ⟨p, r, h⟩ := s.account_eq i e
  rw [h]
  rfl

@[simp] theorem account_ports (i : Option Nat) (e : Entry) (s : State) : (s.account i e).ports = s.ports := by
  obtain ⟨p, r, h⟩ := s.account_eq i e
  rw [h]
  rfl

@[simp] theorem account_whorl (i : Option Nat) (e : Entry) (s : State) : (s.account i e).whorl = s.whorl := by
  obtain ⟨p, r, h⟩ := s.account_eq i e
  rw [h]
  rfl

/-- The entry as it stands when it has retired with an outcome (spec 03 R86). -/
def retired (s : State) (i out : Nat) : Entry :=
  { s.entry i with state := .retired, outcome := out, windows := [], endedAt := some s.now }

@[simp] theorem retire_skein (i out : Nat) (s : State) :
    (s.retire i out).skein = (s.modEntry i fun _ => s.retired i out).skein := by
  rw [retire, cond_eq]
  split
  · exact account_skein ..
  · rfl

@[simp] theorem retire_ports (i out : Nat) (s : State) : (s.retire i out).ports =
    (s.modPort (elemPort (s.entry i).element) fun p =>
      { p with reserved := p.reserved.filter fun r => r.2 ≠ .fire i }).ports := by
  rw [retire, cond_eq]
  split
  · exact account_ports ..
  · rfl

@[simp] theorem retire_whorl (i out : Nat) (s : State) : (s.retire i out).whorl = s.whorl := by
  rw [retire, cond_eq]
  split
  · exact account_whorl ..
  · rfl

theorem entry_retire_same {s : State} (h : s.wf = true) (i out : Nat) : (s.retire i out).entry i = s.retired i out :=
  (entry_of_skein (s.retire_skein i out) i).trans (entry_modEntry_same h i _)

theorem entry_retire_other {s : State} (h : s.wf = true) {i j : Nat} (hj : j ≠ i) (out : Nat) :
    (s.retire i out).entry j = s.entry j :=
  (entry_of_skein (s.retire_skein i out) j).trans (entry_modEntry_other h hj _)

/-- No symbol leaves by a retirement. -/
theorem symbols_retire {s : State} (h : s.wf = true) (i out m : Nat) :
    ((s.retire i out).port m).symbols = (s.port m).symbols := by
  rw [port_of_ports (s.retire_ports i out) m]
  by_cases hm : m = elemPort (s.entry i).element
  · rw [hm, port_modPort_same h]
  · rw [port_modPort_other h hm]

/-! ## The fire symbol -/

theorem sendFire_of_closed {i : Nat} {s : State} (hs : (s.entry i).state = .passed) (hx : (s.entry i).symbolAt ≤ s.now)
    (hg : s.gateOpen (elemPort (s.entry i).element) = false)
    (ha : (s.port (elemPort (s.entry i).element)).state = .admitted) : s.sendFire i = s.retire i 0x21 := by
  simp [sendFire, hs, Nat.not_lt.mpr hx, hg, ha]

/-- Through an open gate the symbol leaves, the last of its port's, and the entry is FIRED; no other entry and no other port
changes (spec 03 R86, 04 R99). -/
theorem sendFire_of_open {i : Nat} {s : State} (h : s.wf = true) (hs : (s.entry i).state = .passed)
    (hx : (s.entry i).symbolAt ≤ s.now) (hg : s.gateOpen (elemPort (s.entry i).element) = true) (hl : s.latch.set = false) :
    ((s.sendFire i).entry i).state = .fired
      ∧ ((s.sendFire i).port (elemPort (s.entry i).element)).symbols.getLast?
        = some ((s.entry i).symbolAt, shortBits ((s.entry i).element % 64))
      ∧ (∀ j, j ≠ i → (s.sendFire i).entry j = s.entry j)
      ∧ (∀ m, m ≠ elemPort (s.entry i).element → (s.sendFire i).port m = s.port m) := by
  obtain ⟨before, data, hsymbol⟩ := sendSymbol_eq (s := s.modEntry i fun e => { e with state := .fired }) hl
    (elemPort (s.entry i).element) (s.entry i).symbolAt ((s.entry i).element % 64)
  have hsend : (s.sendFire i).skein = (s.modEntry i fun e => { e with state := .fired }).skein
      ∧ (s.sendFire i).ports = ((s.modPort (elemPort (s.entry i).element) fun p => { p with
        symbols := before ++ [((s.entry i).symbolAt, shortBits ((s.entry i).element % 64))], data := data }).modPort
          (elemPort (s.entry i).element) fun p => { p with
            reserved := p.reserved.filter fun r => r.2 ≠ .fire i }).ports := by
    simp only [sendFire, hs, hg, hsymbol, Nat.not_lt.mpr hx, ne_eq, not_true_eq_false, or_self, Bool.not_true,
      Bool.false_eq_true, if_false, cond_eq]
    split <;> exact ⟨rfl, rfl⟩
  obtain ⟨hskein, hports⟩ := hsend
  refine ⟨?_, ?_, fun j hj => (entry_of_skein hskein j).trans (entry_modEntry_other h hj _), fun m hm => ?_⟩
  · rw [entry_of_skein hskein, entry_modEntry_same h]
  · rw [port_of_ports hports, port_modPort_same (wf_modPort h _ _), port_modPort_same h]
    exact List.getLast?_concat ..
  · rw [port_of_ports hports, port_modPort_other (wf_modPort h _ _) hm, port_modPort_other h hm]

end State

section FireSymbol

variable {t : Tick} {i : Nat} {s : State}

/-- FIRE_SYMBOL_SEND through an open gate (spec 03 R86, 04 R99). -/
theorem exec_fireSymbolSend_open (ht : s.now ≤ t) (hw : s.wf = true) (hs : (s.entry i).state = .passed)
    (hx : (s.entry i).symbolAt ≤ t) (hg : s.gateOpen (elemPort (s.entry i).element) = true) (hl : s.latch.set = false) :
    ∃ u, exec (.fireSymbolSend t i) s = .next u ∧ (u.entry i).state = .fired
      ∧ (u.port (elemPort (s.entry i).element)).symbols.getLast?
        = some ((s.entry i).symbolAt, shortBits ((s.entry i).element % 64))
      ∧ (∀ j, j ≠ i → u.entry j = s.entry j)
      ∧ (∀ m, m ≠ elemPort (s.entry i).element → u.port m = s.port m) := by
  have hnow : (s.advance t).now = t := max_eq_right ht
  obtain ⟨hfired, hsymbol, hentries, hports⟩ :=
    State.sendFire_of_open (s := s.advance t) hw hs (hx.trans_eq hnow.symm) hg hl
  have hentry (j : Nat) := State.entry_of_skein (((s.advance t).sendFire i).retireDone_skein) j
  have hport (m : Nat) := State.port_of_ports (((s.advance t).sendFire i).retireDone_ports) m
  exact ⟨_, rfl, (congrArg Entry.state (hentry i)).trans hfired,
    (congrArg (fun p : Port => p.symbols.getLast?) (hport _)).trans hsymbol, fun j hj => (hentry j).trans (hentries j hj),
    fun m hm => (hport m).trans (hports m hm)⟩

/-- FIRE_SYMBOL_SEND at a closed gate of an admitted port (spec 03 R86, 16 R372). -/
theorem exec_fireSymbolSend_closed (ht : s.now ≤ t) (hw : s.wf = true) (hs : (s.entry i).state = .passed)
    (hx : (s.entry i).symbolAt ≤ t) (hg : s.gateOpen (elemPort (s.entry i).element) = false)
    (ha : (s.port (elemPort (s.entry i).element)).state = .admitted) :
    ∃ u, exec (.fireSymbolSend t i) s = .next u ∧ (u.entry i).state = .retired ∧ (u.entry i).outcome = 0x21
      ∧ (∀ m, (u.port m).symbols = (s.port m).symbols) ∧ (∀ j, j ≠ i → u.entry j = s.entry j) := by
  have hnow : (s.advance t).now = t := max_eq_right ht
  have hfire := State.sendFire_of_closed (s := s.advance t) hs (hx.trans_eq hnow.symm) hg ha
  have hentry (j : Nat) : ((s.advance t).sendFire i).retireDone.entry j = ((s.advance t).retire i 0x21).entry j := by
    rw [State.entry_of_skein (State.retireDone_skein _), hfire]
  have hport (m : Nat) : ((s.advance t).sendFire i).retireDone.port m = ((s.advance t).retire i 0x21).port m := by
    rw [State.port_of_ports (State.retireDone_ports _), hfire]
  have hretired := (hentry i).trans (State.entry_retire_same (s := s.advance t) hw i 0x21)
  exact ⟨_, rfl, congrArg Entry.state hretired, congrArg Entry.outcome hretired,
    fun m => (congrArg Port.symbols (hport m)).trans (State.symbols_retire (s := s.advance t) hw i 0x21 m),
    fun j hj => (hentry j).trans (State.entry_retire_other (s := s.advance t) hw hj 0x21)⟩

end FireSymbol

/-- Settles O19: the symbol by the two forms of the operation, at an open gate and at a closed one. -/
theorem fireSymbolLeavesOnlyThroughAnOpenGate : Obligations.FireSymbolLeavesOnlyThroughAnOpenGate := by
  unfold Obligations.FireSymbolLeavesOnlyThroughAnOpenGate
  exact fun t i s ht hw hs hx =>
    ⟨fun hg hl => exec_fireSymbolSend_open ht hw hs hx hg hl, fun hg ha => exec_fireSymbolSend_closed ht hw hs hx hg ha⟩

end Sys2Proof.Machine
end

section
/-! PROOFS. The windows of a shot (spec 03 R72, R86, R88, 09 R221): what the receive path does at them leaves the Skein and
Whorl as they are, so that the entry itself says what becomes of it. -/

namespace Sys2Proof.Machine

namespace State

/-- The Skein and Whorl's state. -/
def ledger (s : State) : Store Entry × Whorl := (s.skein, s.whorl)

theorem entry_of_ledger {s u : State} (h : u.ledger = s.ledger) (i : Nat) : u.entry i = s.entry i :=
  entry_of_skein (congrArg Prod.fst h) i

theorem whorl_of_ledger {s u : State} (h : u.ledger = s.ledger) : u.whorl = s.whorl := congrArg Prod.snd h

/-- Where the ledger is that of a changed entry, the entry reads as it was changed, another one as before, and Whorl's state
stays. -/
theorem effect_of_modEntry_ledger {s u : State} (hw : s.wf = true) {i : Nat} {g : Entry → Entry}
    (h : u.ledger = (s.modEntry i g).ledger) :
    u.entry i = g (s.entry i) ∧ (∀ j, j ≠ i → u.entry j = s.entry j) ∧ u.whorl = s.whorl :=
  ⟨(entry_of_ledger h i).trans (entry_modEntry_same hw i g),
    fun j hj => (entry_of_ledger h j).trans (entry_modEntry_other hw hj g), congrArg Prod.snd h⟩

/-- A change of an entry goes into the Skein alone. -/
@[simp] theorem modEntry_ledger (i : Nat) (g : Entry → Entry) (s : State) :
    (s.modEntry i g).ledger = (Store.modify {} s.ledger.1 i g, s.ledger.2) := rfl

/-! ## Changes beside the ledger -/

@[simp] theorem modDist_ledger (g : Distaff → Distaff) (s : State) : (s.modDist g).ledger = s.ledger := Prod.ext rfl rfl
@[simp] theorem modRuns_ledger (g : List StatRun → List StatRun) (s : State) : (s.modRuns g).ledger = s.ledger :=
  Prod.ext rfl rfl
@[simp] theorem modDram_ledger (g : Dram → Dram) (s : State) : (s.modDram g).ledger = s.ledger := Prod.ext rfl rfl
@[simp] theorem modCal_ledger (g : Cal → Cal) (s : State) : (s.modCal g).ledger = s.ledger := Prod.ext rfl rfl
@[simp] theorem modChan_ledger (c : Nat) (g : Channel → Channel) (s : State) : (s.modChan c g).ledger = s.ledger :=
  Prod.ext rfl rfl
@[simp] theorem count_ledger (k i n : Nat) (s : State) : (s.count k i n).ledger = s.ledger := Prod.ext rfl rfl

@[simp] theorem each_ledger {α : Type} {f : α → State → State} (h : ∀ a u, (f a u).ledger = u.ledger) (l : List α)
    (s : State) : (s.each l f).ledger = s.ledger :=
  each_rel (R := fun a b => b.ledger = a.ledger) (fun _ => rfl) (fun h k => k.trans h) (fun a u => h a u) l s

@[simp] theorem cond_ledger {f : State → State} (h : ∀ u, (f u).ledger = u.ledger) (b : Bool) (s : State) :
    (s.cond b f).ledger = s.ledger := by
  cases b
  · rfl
  · exact h s

@[simp] theorem ite_ledger {p : Prop} [Decidable p] (a b : State) :
    (if p then a else b).ledger = if p then a.ledger else b.ledger := apply_ite ledger p a b

@[simp] theorem health_ledger (code subject : Nat) (details : List (Nat × Nat)) (seqs : List Nat) (s : State) :
    (s.health code subject details seqs).ledger = s.ledger := by simp [ledger]

@[simp] theorem succeed_ledger (handle : Nat) (result : List Byte) (s : State) :
    (s.succeed handle result).ledger = s.ledger := by
  obtain ⟨d, -, h⟩ := completeWith_keeps_staged handle 0 0 0 none result s
  rw [succeed, h, modDist_ledger]

@[simp] theorem retireDone_ledger (s : State) : s.retireDone.ledger = s.ledger := by simp [ledger]

@[simp] theorem placeholder_ledger (c : Nat) (e : Entry) (s : State) : (s.placeholder c e).ledger = s.ledger := by
  unfold placeholder
  split <;> rfl

/-! ## Front end, Carding and statistics -/

@[simp] theorem modCard_ledger (c : Nat) (g : Carding → Carding) (s : State) : (s.modCard c g).ledger = s.ledger :=
  Prod.ext rfl rfl
@[simp] theorem noteWindow_ledger (c : Nat) (close : Tick) (s : State) : (s.noteWindow c close).ledger = s.ledger :=
  Prod.ext rfl rfl
@[simp] theorem modFe_ledger (c : Nat) (g : FrontEnd → FrontEnd) (s : State) : (s.modFe c g).ledger = s.ledger :=
  Prod.ext rfl rfl

@[simp] theorem openGate_ledger (c i : Nat) (window : Tick) (s : State) : (s.openGate c i window).ledger = s.ledger := by
  simp [openGate]

@[simp] theorem cohShot_ledger (c element : Nat) (x : Tick) (s : State) : (s.cohShot c element x).2.ledger = s.ledger := by
  unfold cohShot
  split
  · rfl
  · dsimp only
    split <;> rfl

@[simp] theorem cohEntry_ledger (c element : Nat) (tofs : List Nat) (s : State) :
    (s.cohEntry c element tofs).ledger = s.ledger := Prod.ext rfl rfl

@[simp] theorem assess_ledger (c : Nat) (edge : Tick) (s : State) : (s.assess c edge).ledger = s.ledger := by
  unfold assess
  split <;> simp

@[simp] theorem unmatched_ledger (c : Nat) (stops : List Int) (s : State) : (s.unmatched c stops).ledger = s.ledger := by
  simp [unmatched]

@[simp] theorem receive_ledger (r : Ret) (s : State) : (s.receive r).ledger = s.ledger := Prod.ext rfl rfl

@[simp] theorem eachRun_ledger (g : StatRun → StatRun) (s : State) : (s.eachRun g).ledger = s.ledger := by
  simp [eachRun, endRun]

@[simp] theorem formed_ledger (r : Ret) (s : State) : (s.formed r).ledger = s.ledger := by simp [formed]

/-! ## Bobbin -/

@[simp] theorem modBob_ledger (c k : Nat) (g : BobSlot → BobSlot) (s : State) : (s.modBob c k g).ledger = s.ledger :=
  Prod.ext rfl rfl
@[simp] theorem bobExclude_ledger (c k cause : Nat) (s : State) : (s.bobExclude c k cause).ledger = s.ledger := Prod.ext rfl rfl

@[simp] theorem enterAll_ledger (l : List DramReq) (s : State) : (s.enterAll l).2.ledger = s.ledger := by
  unfold enterAll
  refine List.foldlRecOn l _ (motive := fun a : List DramReq × State => a.2.ledger = s.ledger) rfl fun a ha r _ => ?_
  split
  · exact ha
  · exact ha

@[simp] theorem request_ledger (l : List DramReq) (s : State) : (s.request l).ledger = s.ledger := by
  simp [request, fillQueues]

@[simp] theorem askBins_ledger (c k : Nat) (s : State) : (s.askBins c k).ledger = s.ledger := by simp [askBins]

@[simp] theorem bobFinish_ledger (c k : Nat) (part : Bool) (s : State) : (s.bobFinish c k part).ledger = s.ledger := by
  simp [bobFinish]

@[simp] theorem bobShot_ledger (i c : Nat) (s : State) : (s.bobShot i c).ledger = s.ledger := by
  unfold bobShot
  dsimp only
  split
  · rfl
  · exact each_ledger (fun k u => by simp) _ s

@[simp] theorem keepForBobbin_ledger (i : Nat) (e : Entry) (s : State) : (s.keepForBobbin i e).ledger = s.ledger :=
  each_ledger (fun _ u => each_ledger (fun _ v => cond_ledger (fun w => modBob_ledger _ _ _ w) _ v) _ u) _ s

/-! ## Ply -/

@[simp] theorem openSlot_ledger (i c : Nat) (closeAt : Tick) (first : Bool) (s : State) :
    (s.openSlot i c closeAt first).ledger = s.ledger := Prod.ext rfl rfl

@[simp] theorem countFlight_ledger (c : Nat) (f : Flight) (s : State) : (s.countFlight c f).ledger = s.ledger := by
  unfold countFlight
  split <;> simp

@[simp] theorem keepHyp_ledger (c : Nat) (h : Hyp) (amb : Bool) (s : State) : (s.keepHyp c h amb).ledger = s.ledger := by
  unfold keepHyp
  dsimp only
  split <;> simp

@[simp] theorem resolve_ledger (c : Nat) (cl : List Hyp) (s : State) : (s.resolve c cl).ledger = s.ledger := by
  unfold resolve
  dsimp only
  rw [modChan_ledger]
  refine List.foldlRecOn _ _ (motive := fun a : (List Nat × List Nat) × State => a.2.ledger = s.ledger) rfl
    fun a ha x _ => ?_
  split <;> simp [ha]

@[simp] theorem calReturn_ledger (e : Entry) (r : Ret) (s : State) : (s.calReturn e r).ledger = s.ledger := by
  simp [calReturn]

@[simp] theorem passReturn_ledger (c i : Nat) (r : Ret) (s : State) : (s.passReturn c i r).ledger = s.ledger := by
  simp [passReturn]

@[simp] theorem passSlot_ledger (c i : Nat) (least : Option Int) (s : State) : (s.passSlot c i least).ledger = s.ledger := by
  simp [passSlot]

@[simp] theorem resolveClusters_ledger (c : Nat) (pick : List Hyp → Bool) (s : State) :
    (s.resolveClusters c pick).ledger = s.ledger := by simp [resolveClusters, passReturns]

@[simp] theorem settleSlot_ledger (i c : Nat) (s : State) : (s.settleSlot i c).ledger = s.ledger := by simp [settleSlot]

@[simp] theorem closeSlot_ledger (i c : Nat) (s : State) : (s.closeSlot i c).ledger = s.ledger := by simp [closeSlot]

/-! ## The windows of an entry -/

/-- A window that opens adds to what its entry has to finalise, where its channel has a slot, and leaves the rest of the
ledger. -/
theorem openWindow_ledger (i c : Nat) (s : State) : (s.openWindow i c).ledger = s.ledger
    ∨ (s.openWindow i c).ledger = (s.modEntry i fun e => { e with unfinal := e.unfinal ++ [c] }).ledger := by
  unfold openWindow
  dsimp only
  split
  · exact .inl (by simp)
  · refine .inr ?_
    rw [cond_ledger fun u => bobShot_ledger i c u, cond_ledger fun u => modCard_ledger c _ u, modEntry_ledger,
      modEntry_ledger, openSlot_ledger]
    split <;> simp

/-- A window that opens leaves its entry FIRED and opened as it was, and every other entry and Whorl as they were. -/
theorem openWindow_effect {s : State} (h : s.wf = true) (i c : Nat) :
    ((s.openWindow i c).entry i).opened = (s.entry i).opened ∧ ((s.openWindow i c).entry i).state = (s.entry i).state
      ∧ (∀ j, j ≠ i → (s.openWindow i c).entry j = s.entry j) ∧ (s.openWindow i c).whorl = s.whorl := by
  rcases s.openWindow_ledger i c with hl | hl
  · exact ⟨by rw [entry_of_ledger hl], by rw [entry_of_ledger hl], fun j _ => entry_of_ledger hl j, whorl_of_ledger hl⟩
  · obtain ⟨hentry, hothers, hwhorl⟩ := effect_of_modEntry_ledger h hl
    exact ⟨by rw [hentry], by rw [hentry], hothers, hwhorl⟩

theorem scheduledStart_state (e : Entry) : (scheduledStart e).state = e.state := by
  unfold scheduledStart
  split <;> [rfl; split <;> rfl]

theorem scheduledStart_opened (e : Entry) : (scheduledStart e).opened = e.opened := by
  unfold scheduledStart
  split <;> [rfl; split <;> rfl]

/-- The one window of a fired shot opens at its planned instant (spec 03 R72). -/
theorem openWindows_of_one {i c : Nat} {s : State} (hf : (s.entry i).state = .fired) (ho : (s.entry i).opened = false)
    (hp : (s.entry i).planned ≤ s.now) (hc : (s.entry i).windows = [c]) : s.openWindows i =
      (s.modEntry i fun e => scheduledStart { e with opened := true }).openWindow i c := by
  simp [openWindows, hf, ho, Nat.not_lt.mpr hp, hc, each]

/-- The one window of a fired shot closes, and the entry retires, complete (spec 03 R86). -/
theorem closeWindow_of_one {i c : Nat} {s : State} (h : s.wf = true) (hf : (s.entry i).state = .fired)
    (ho : (s.entry i).opened = true) (hc : (s.entry i).windows = [c])
    (hp : (s.entry i).planned + ns (8 * (s.entry i).window) ≤ s.now) :
    ∃ v : State, v.wf = true ∧ (∀ j, j ≠ i → v.entry j = s.entry j) ∧ v.whorl = s.whorl
      ∧ s.closeWindow i c = (v.retire i 0).retireDone := by
  obtain ⟨v, hv⟩ : ∃ v, v = (s.modEntry i fun e => { e with windows := e.windows.filter (· ≠ c) }).cond
      (decide (c ∈ (s.entry i).unfinal) && !(s.entry i).refWindow c) (modCard c fun k => { k with
        openCount := k.openCount - 1
        openTime := if k.openCount = 1 then k.openTime + (s.now - k.openSince) else k.openTime }) := ⟨_, rfl⟩
  have hwf : v.wf = true := hv ▸ (cond_kept (fun u => modCard_kept (.refl u)) (.refl _)).wf (wf_modEntry h i _)
  have hledger : v.ledger = (s.modEntry i fun e => { e with windows := e.windows.filter (· ≠ c) }).ledger :=
    hv ▸ cond_ledger (fun u => modCard_ledger c _ u) _ _
  obtain ⟨hentry, hothers, hwhorl⟩ := effect_of_modEntry_ledger h hledger
  have hlast : (v.entry i).windows = [] := by simp [hentry, hc]
  have hopen : ¬((s.entry i).state ≠ .fired ∨ (!(s.entry i).opened) = true ∨ c ∉ (s.entry i).windows
      ∨ s.now < (s.entry i).planned + ns (8 * (s.entry i).window)) := by
    simp [hf, ho, hc, Nat.not_lt.mpr hp]
  refine ⟨v, hwf, hothers, hwhorl, ?_⟩
  unfold closeWindow
  dsimp only
  rw [if_neg hopen, ← hv, if_pos hlast]

/-- A slot that is finalised leaves what its entry has to finalise (spec 09 R221). -/
theorem finalise_ledger {i c : Nat} {s : State} (hc : c ∈ (s.entry i).unfinal)
    (hp : (s.entry i).planned + ns (8 * (s.entry i).window + 64) ≤ s.now) (hcal : (s.entry i).cal = false) :
    (s.finalise i c).ledger = (s.modEntry i fun e => { e with unfinal := e.unfinal.filter (· ≠ c) }).ledger := by
  simp [finalise, hc, Nat.not_lt.mpr hp, hcal]

/-- A retired entry with nothing to finalise is FREE again (spec 03 R88). -/
theorem freeEntry_ledger {i : Nat} {s : State} (hs : (s.entry i).state = .retired) (hf : (s.entry i).unfinal = [])
    (hcal : (s.entry i).cal = false) : (s.freeEntry i).ledger = (s.modEntry i fun _ => {}).ledger := by
  simp [freeEntry, hs, hf, hcal, cond_eq]

end State

section Windows

variable {t : Tick} {i c : Nat} {s : State}

/-- WINDOW_OPEN of a shot with one window (spec 03 R72). -/
theorem exec_windowOpen_one (ht : s.now ≤ t) (hw : s.wf = true) (hf : (s.entry i).state = .fired)
    (ho : (s.entry i).opened = false) (hp : (s.entry i).planned ≤ t) (hc : (s.entry i).windows = [c]) :
    ∃ u, exec (.windowOpen t i) s = .next u ∧ (u.entry i).opened = true ∧ (u.entry i).state = .fired
      ∧ (∀ j, j ≠ i → u.entry j = s.entry j) ∧ u.whorl = s.whorl := by
  have hnow : (s.advance t).now = t := max_eq_right ht
  obtain ⟨v, hv⟩ : ∃ v, v =
      (s.advance t).modEntry i fun e => State.scheduledStart { e with opened := true } := ⟨_, rfl⟩
  have hopen := State.openWindows_of_one (s := s.advance t) hf ho (hp.trans_eq hnow.symm) hc
  rw [← hv] at hopen
  obtain ⟨hentry, hothers, hwhorl⟩ := State.effect_of_modEntry_ledger (s := s.advance t) hw (congrArg State.ledger hv)
  obtain ⟨hopened, hstate, hothers', hwhorl'⟩ :=
    State.openWindow_effect (hv ▸ State.wf_modEntry (s := s.advance t) hw i _) i c
  rw [hentry] at hopened hstate
  have hread (j : Nat) := State.entry_of_skein (v.openWindow i c).retireDone_skein j
  exact ⟨_, congrArg (fun u => Host.Outcome.next (State.retireDone u)) hopen,
    by rw [hread, hopened, State.scheduledStart_opened], by rw [hread, hstate, State.scheduledStart_state]; exact hf,
    fun j hj => (hread j).trans ((hothers' j hj).trans (hothers j hj)),
    (State.retireDone_whorl _).trans (hwhorl'.trans hwhorl)⟩

/-- WINDOW_CLOSE of the one window of a shot (spec 03 R72, R86). -/
theorem exec_windowClose_one (ht : s.now ≤ t) (hw : s.wf = true) (hf : (s.entry i).state = .fired)
    (ho : (s.entry i).opened = true) (hc : (s.entry i).windows = [c])
    (hp : (s.entry i).planned + ns (8 * (s.entry i).window) ≤ t) :
    ∃ u, exec (.windowClose t i c) s = .next u ∧ (u.entry i).state = .retired ∧ (u.entry i).outcome = 0
      ∧ (u.entry i).windows = [] ∧ (∀ j, j ≠ i → u.entry j = s.entry j) ∧ u.whorl = s.whorl := by
  have hnow : (s.advance t).now = t := max_eq_right ht
  obtain ⟨v, hvw, hother, hwhorl, hclose⟩ :=
    State.closeWindow_of_one (s := s.advance t) hw hf ho hc (hp.trans_eq hnow.symm)
  have hentry (j : Nat) := State.entry_of_skein (v.retire i 0).retireDone_skein j
  have hretired := (hentry i).trans (State.entry_retire_same hvw i 0)
  exact ⟨_, congrArg Host.Outcome.next hclose, congrArg Entry.state hretired, congrArg Entry.outcome hretired,
    congrArg Entry.windows hretired,
    fun j hj => ((hentry j).trans (State.entry_retire_other hvw hj 0)).trans (hother j hj),
    ((State.retireDone_whorl _).trans (State.retire_whorl ..)).trans hwhorl⟩

/-- SLOT_FINALISE (spec 09 R221). -/
theorem exec_slotFinalise_due (ht : s.now ≤ t) (hw : s.wf = true) (hc : c ∈ (s.entry i).unfinal)
    (hp : (s.entry i).planned + ns (8 * (s.entry i).window + 64) ≤ t) (hcal : (s.entry i).cal = false) :
    ∃ u, exec (.slotFinalise t i c) s = .next u ∧ c ∉ (u.entry i).unfinal ∧ u.whorl = s.whorl := by
  have hnow : (s.advance t).now = t := max_eq_right ht
  have hledger := State.finalise_ledger (s := s.advance t) hc (hp.trans_eq hnow.symm) hcal
  obtain ⟨hentry, -, hwhorl⟩ := State.effect_of_modEntry_ledger (s := s.advance t) hw hledger
  exact ⟨_, rfl, by simp [hentry], hwhorl⟩

/-- ENTRY_FREE (spec 03 R88). -/
theorem exec_entryFree_done (hw : s.wf = true) (hs : (s.entry i).state = .retired) (hf : (s.entry i).unfinal = [])
    (hcal : (s.entry i).cal = false) :
    ∃ u, exec (.entryFree t i) s = .next u ∧ u.entry i = {} ∧ (∀ j, j ≠ i → u.entry j = s.entry j)
      ∧ u.whorl = s.whorl := by
  have hledger := State.freeEntry_ledger (s := s.advance t) hs hf hcal
  exact ⟨_, rfl, State.effect_of_modEntry_ledger (s := s.advance t) hw hledger⟩

end Windows

/-- Settles O20: each event by what becomes of its entry, the rest of the ledger staying as it is. -/
theorem windowsOpenCloseAndFree : Obligations.WindowsOpenCloseAndFree := by
  unfold Obligations.WindowsOpenCloseAndFree
  exact fun t i c s ht hw => ⟨exec_windowOpen_one ht hw, exec_windowClose_one ht hw, exec_slotFinalise_due ht hw,
    exec_entryFree_done hw⟩

end Sys2Proof.Machine
end

section
/-! PROOFS. Lamp boards (spec 04 R97-R104, R108, R112-R114): what follows every change of a powered board, so that each message,
symbol and condition is said by its change alone. -/

namespace Sys2Proof.Machine

/-- A board but for what follows every change of it: the upstream words, the last fault and the indicator. -/
def Board.core (y : Board) : Board :=
  { y with faultAt := none, up := [], pattern := 0, led := 0, patternAt := 0, leds := [] }

namespace State

/-! ## Changes of one board -/

/-- Board `i` of `s` becomes `y` in `u` but for what follows a change of it, and still has to send what `y` had to; nothing but
this board changes. -/
structure BoardBecomes (i : Nat) (y : Board) (s u : State) : Prop where
  wf : u.wf = true
  only : ∃ m, u = s.modLamps fun _ => m
  others : ∀ j, j ≠ i → u.lamp j = s.lamp j
  core : (u.lamp i).core = y.core
  up : y.up <+: (u.lamp i).up

section
variable {n b i : Nat} {y : Board} {s u : State}

theorem becomes_self (h : s.wf = true) (i : Nat) : BoardBecomes i (s.lamp i) s s :=
  ⟨h, ⟨s.lamps, rfl⟩, fun _ _ => rfl, rfl, List.prefix_rfl⟩

theorem becomes_modLamp (h : s.wf = true) (i : Nat) (g : Board → Board) :
    BoardBecomes i (g (s.lamp i)) s (s.modLamp i g) := by
  have hread (j : Nat) := lamp_modLamp h i j g
  refine ⟨(modLamp_kept (.refl s)).wf h, ⟨_, rfl⟩, fun j hj => by rw [hread, if_neg hj], ?_, ?_⟩ <;> rw [hread, if_pos rfl]

/-- A further change of the same board that leaves its core and adds to what it has to send. -/
theorem BoardBecomes.modLamp (h : BoardBecomes i y s u) {g : Board → Board} (hcore : ∀ z : Board, (g z).core = z.core)
    (hup : ∀ z : Board, z.up <+: (g z).up) : BoardBecomes i y s (u.modLamp i g) := by
  obtain ⟨m, hm⟩ := h.only
  obtain ⟨hwf, -, hothers, hsame, hnext⟩ := becomes_modLamp h.wf i g
  exact ⟨hwf, ⟨_, by rw [hm]; rfl⟩, fun j hj => (hothers j hj).trans (h.others j hj),
    hsame.trans ((hcore _).trans h.core), h.up.trans ((hup _).trans hnext)⟩

theorem BoardBecomes.afterItem (h : BoardBecomes (4 * n + b) y s u) (item v : Nat) :
    BoardBecomes (4 * n + b) y s (u.sendItem n b item v) := h.modLamp (fun _ => rfl) fun _ => List.prefix_append ..

/-- A status item that goes upstream under a condition. -/
theorem BoardBecomes.report (h : BoardBecomes (4 * n + b) y s u) {p : Bool} {item v : Nat} :
    BoardBecomes (4 * n + b) y s (u.cond p (sendItem n b item v)) := by
  cases p
  · exact h
  · exact h.afterItem item v

/-- The indicator follows, and the rest of the board stays (spec 04 R114). -/
theorem BoardBecomes.treadle (h : BoardBecomes (4 * n + b) y s u) : BoardBecomes (4 * n + b) y s (u.treadle n b) := by
  refine h.modLamp (fun z => ?_) fun z => ?_
  · dsimp only
    split
    · rfl
    · split <;> rfl
  · dsimp only
    split
    · exact List.prefix_rfl
    · split <;> exact List.prefix_rfl

/-- The pattern shown is that of the board's state (spec 04 R114, Table 4-10). -/
theorem treadle_pattern (h : s.wf = true) (n b : Nat) :
    ((s.treadle n b).lamp (4 * n + b)).pattern = patternOf (s.lamp (4 * n + b)) s.now := by
  rw [State.treadle, lamp_modLamp h, if_pos rfl]
  dsimp only
  split
  · rfl
  · next hp =>
    rw [not_not] at hp
    split <;> exact hp.symm

/-- A powered board becomes what its change makes of it (spec 04 R107, R108, R114). -/
theorem onBoard_becomes (h : s.wf = true) (hp : (s.lamp (4 * n + b)).powered = true) (g : Board → Board) :
    BoardBecomes (4 * n + b) (g (s.lamp (4 * n + b))) s (s.onBoard n b g) := by
  unfold onBoard
  dsimp only
  rw [hp, if_neg (by decide)]
  refine .treadle (.report (.report (.report ?_)))
  exact (becomes_modLamp h (4 * n + b) g).modLamp (fun _ => rfl) fun _ => List.prefix_rfl

end

/-! ## Short symbols -/

/-- A symbol with right check bits and a type that is not reserved is taken with its payload (spec 04 R97). -/
theorem shortPayload_shortBits : ∀ k < 192, shortPayload (shortBits k) = some k := by decide +kernel

/-- A symbol of its type reaches a board with the six bits of its payload (spec 04 R97). -/
theorem boardSymbol_of_type {n b k type : Nat} {g : Nat → Board → Board} {s : State} (hk : k < 64) (ht : type < 3) :
    s.boardSymbol n b (shortBits (64 * type + k)) type g = s.onBoard n b (g k) := by
  have hpayload := shortPayload_shortBits (64 * type + k) (by omega)
  simp only [boardSymbol, hpayload]
  rw [if_pos (by omega), show (64 * type + k) % 64 = k by omega]

/-- A fire symbol that names the board fires its element while the board is ENABLED with the element enabled (spec 04 R99,
R113). -/
theorem fired_fireSymbol {b e : Nat} {x : Tick} {y : Board} (he : e < 16) (hy : y.enabled = true)
    (hen : y.enables.getLsbD e = true) : (fireSymbol b x (16 * b + e) y).fired.getLast? = some (x, e) := by
  have hboard : (16 * b + e) / 16 = b := by omega
  have helement : (16 * b + e) % 16 = e := by omega
  simp [fireSymbol, hboard, helement, hy, hen]

/-- A board that is SILENT fires nothing (spec 04 R113). -/
theorem fired_fireSymbol_of_silent {b p : Nat} {x : Tick} {y : Board} (hy : y.enabled = false) :
    (fireSymbol b x p y).fired = y.fired := by
  unfold fireSymbol
  split
  · rfl
  · simp [hy]

theorem getLsbD_addFault {i : Nat} (hi : i < 9) (y : Board) : (addFault i y).faults.getLsbD i = true := by
  have hbit : ∀ i < 9, (BitVec.ofNat 9 (2 ^ i)).getLsbD i = true := by decide
  rw [addFault, BitVec.getLsbD_or, hbit i hi, Bool.or_true]

end State

section BoardEvent

variable {t : Tick} {n b : Nat} {s : State}

/-- An instruction that acts on a powered board makes of it what its change says, and leaves everything else. -/
theorem exec_onBoard (hw : s.wf = true) (hp : (s.lamp (4 * n + b)).powered = true) {i : Instr} {g : Board → Board}
    (h : exec i s = .next ((s.advance t).onBoard n b g)) :
    ∃ u, exec i s = .next u ∧ (u.lamp (4 * n + b)).core = (g (s.lamp (4 * n + b))).core
      ∧ u = { s with clock := u.clock, lamps := u.lamps } ∧ ∀ j, j ≠ 4 * n + b → u.lamp j = s.lamp j := by
  obtain ⟨-, ⟨m, hm⟩, hothers, hcore, -⟩ := State.onBoard_becomes (s := s.advance t) hw hp g
  exact ⟨_, h, hcore, by rw [hm]; rfl, hothers⟩

/-- Whatever symbol reaches a board that is SILENT, the board fires nothing (spec 04 R97, R113). -/
theorem exec_boardFire_of_silent (hw : s.wf = true) (hp : (s.lamp (4 * n + b)).powered = true)
    (he : (s.lamp (4 * n + b)).enabled = false) (x : BitVec 10) :
    ∃ u, exec (.boardFire t n b x) s = .next u ∧ (u.lamp (4 * n + b)).fired = (s.lamp (4 * n + b)).fired
      ∧ u = { s with clock := u.clock, lamps := u.lamps } ∧ ∀ j, j ≠ 4 * n + b → u.lamp j = s.lamp j := by
  have hexec : exec (.boardFire t n b x) s
      = .next ((s.advance t).boardSymbol n b x 0 (State.fireSymbol b (s.advance t).now)) := rfl
  unfold State.boardSymbol at hexec
  split at hexec
  · obtain ⟨u, hu, hcore, hsame⟩ := exec_onBoard hw hp hexec
    exact ⟨u, hu, (congrArg Board.fired hcore :), hsame⟩
  · split at hexec
    · obtain ⟨u, hu, hcore, hsame⟩ := exec_onBoard hw hp hexec
      exact ⟨u, hu, (congrArg Board.fired hcore).trans (State.fired_fireSymbol_of_silent he), hsame⟩
    · exact ⟨_, hexec, rfl, rfl, fun _ _ => rfl⟩

/-- A sync that is due brings what is staged into force, where no share has failed (spec 04 R103, R104). -/
theorem exec_boardSyncApply_due (ht : s.now ≤ t) (hw : s.wf = true) (hp : (s.lamp (4 * n + b)).powered = true) {a : Nat}
    {arrival : Tick} (ha : a < 64) (hf : (s.lamp (4 * n + b)).shareFail = false)
    (hdue : State.syncDue arrival a (s.lamp (4 * n + b)).comp ≤ t) :
    ∃ u, exec (.boardSyncApply t n b ⟨shortBits (64 + a), arrival⟩) s = .next u
      ∧ (u.lamp (4 * n + b)).enables = (s.lamp (4 * n + b)).stagedEnables.getD (s.lamp (4 * n + b)).enables
      ∧ (u.lamp (4 * n + b)).brightness = (s.lamp (4 * n + b)).stagedBrightness.getD (s.lamp (4 * n + b)).brightness
      ∧ (u.lamp (4 * n + b)).stagedEnables = none
      ∧ u = { s with clock := u.clock, lamps := u.lamps } ∧ ∀ j, j ≠ 4 * n + b → u.lamp j = s.lamp j := by
  have hnow : (s.advance t).now = t := max_eq_right ht
  obtain ⟨u, hu, hcore, hsame⟩ := exec_onBoard hw hp (t := t) (i := .boardSyncApply t n b ⟨shortBits (64 + a), arrival⟩)
    (congrArg Host.Outcome.next (State.boardSymbol_of_type (type := 1) ha (by decide)))
  rw [hnow, if_pos hdue, State.applySync, hf, if_neg (by decide)] at hcore
  exact ⟨u, hu, congrArg Board.enables hcore, congrArg Board.brightness hcore, congrArg Board.stagedEnables hcore, hsame⟩

end BoardEvent

/-- Settles O12: each message and symbol by the change that it makes of the board. -/
theorem boardMessagesAndSymbolsTakeEffect : Obligations.BoardMessagesAndSymbolsTakeEffect := by
  unfold Obligations.BoardMessagesAndSymbolsTakeEffect
  refine ⟨fun t n b s _ _ ht hw hp => ?messages, fun t n b s _ hb ht hw hp => ?symbols⟩
  case messages =>
    have effect {i : Instr} {g : Board → Board} (h : exec i s = .next ((s.advance t).onBoard n b g)) := exec_onBoard hw hp h
    refine ⟨fun mask => ?_, fun e c he hc hcodes => ?_, fun p => ?_, fun hcool => ?_, ?_, fun v h1 h0 => ?_, fun c => ?_, ?_,
      ?_, ?_⟩
    · obtain ⟨u, hu, hcore, hsame⟩ := effect (i := .elementEnable t n b mask) rfl
      exact ⟨u, hu, congrArg Board.stagedEnables hcore, (congrArg Board.enables hcore :), hsame⟩
    · obtain ⟨u, hu, hcore, hsame⟩ := effect (i := .driveCode t n b e c) rfl
      have hstaged : (u.lamp (4 * n + b)).stagedCodes
          = Store.write none (s.lamp (4 * n + b)).stagedCodes (e % 16) (some (c % 256)) := congrArg Board.stagedCodes hcore
      rw [Nat.mod_eq_of_lt he, Nat.mod_eq_of_lt hc] at hstaged
      exact ⟨u, hu, by rw [hstaged]; exact Store.read_write_same _ _ none e _ hcodes, (congrArg Board.codes hcore :), hsame⟩
    · obtain ⟨u, hu, hcore, hsame⟩ := effect (i := .indicatorBrightness t n b p) rfl
      exact ⟨u, hu, congrArg Board.stagedBrightness hcore, (congrArg Board.brightness hcore :), hsame⟩
    · obtain ⟨u, hu, hcore, hsame⟩ := effect (i := .emission t n b 0xA5) rfl
      rw [State.boardMsg, if_pos rfl, hcool, if_neg (by decide)] at hcore
      exact ⟨u, hu, (congrArg Board.enabled hcore :), hsame⟩
    · obtain ⟨u, hu, hcore, hsame⟩ := effect (i := .emission t n b 0x00) rfl
      exact ⟨u, hu, (congrArg Board.enabled hcore :), hsame⟩
    · obtain ⟨u, hu, hcore, hsame⟩ := effect (i := .emission t n b v) rfl
      rw [State.boardMsg, if_neg h1, if_neg h0] at hcore
      exact ⟨u, hu, (congrArg Board.enabled hcore :), hsame⟩
    · obtain ⟨u, hu, hcore, hsame⟩ := effect (i := .syncCompensation t n b c) rfl
      exact ⟨u, hu, congrArg Board.comp hcore, hsame⟩
    · obtain ⟨u, hu, hcore, hsame⟩ := effect (i := .descriptorRead t n b) rfl
      exact ⟨u, hu, congrArg Board.sending hcore, hsame⟩
    · obtain ⟨u, hu, hcore, hsame⟩ := effect (i := .scannerReports t n b 0x01) rfl
      exact ⟨u, hu, congrArg Board.reports hcore, hsame⟩
    · obtain ⟨u, hu, hcore, hsame⟩ := effect (i := .shareCounterReset t n b) rfl
      exact ⟨u, hu, congrArg Board.shares hcore, hsame⟩
  case symbols =>
    have hnow : (s.advance t).now = t := max_eq_right ht
    refine ⟨fun e he hen hel => ?fire, fun x hen => exec_boardFire_of_silent hw hp hen x,
      fun a arrival ha hf hdue => exec_boardSyncApply_due ht hw hp ha hf hdue, fun k hk => ?keepAlive,
      fun hen hlate => ?silence⟩
    case fire =>
      obtain ⟨u, hu, hcore, hsame⟩ := exec_onBoard hw hp (t := t) (i := .boardFire t n b (shortBits (16 * b + e)))
        (congrArg Host.Outcome.next (by
          rw [show 16 * b + e = 64 * 0 + (16 * b + e) by omega]
          exact State.boardSymbol_of_type (type := 0) (by omega) (by decide)))
      rw [hnow] at hcore
      exact ⟨u, hu, (congrArg (fun y : Board => y.fired.getLast?) hcore).trans (State.fired_fireSymbol he hen hel), hsame⟩
    case keepAlive =>
      obtain ⟨u, hu, hcore, hsame⟩ := exec_onBoard hw hp (t := t) (i := .boardKeepAlive t n b (shortBits (128 + k)))
        (congrArg Host.Outcome.next (State.boardSymbol_of_type (type := 2) hk (by decide)))
      exact ⟨u, hu, (congrArg Board.lastKeepAlive hcore).trans hnow, congrArg Board.keepAlive hcore, hsame⟩
    case silence =>
      obtain ⟨u, hu, hcore, hsame⟩ := exec_onBoard hw hp (t := t) (i := .keepAliveTimeout t n b) rfl
      rw [hnow, State.keepAliveTimeout, hen, decide_eq_true hlate, Bool.and_self, if_pos rfl] at hcore
      exact ⟨u, hu, congrArg Board.enabled hcore,
        (congrArg (fun y : Board => y.faults.getLsbD 2) hcore).trans (State.getLsbD_addFault (by decide) _), hsame⟩

end Sys2Proof.Machine
end

section
/-! PROOFS. What happens to a powered board of itself, and the data frames that reach it (spec 04 R96, R102, R103, R108,
R112-R114). -/

namespace Sys2Proof.Machine

namespace State

/-! ## Pulses and bytes (spec 04 R96, R102) -/

/-- The bits of a byte, most significant first. -/
def bitsOf (x : Byte) : List Bool := (List.range 8).map fun i => x.getLsbD (7 - i)

theorem ofNat_bitsOf : ∀ x : Byte, BitVec.ofNat 8 ((bitsOf x).foldl (fun v x => 2 * v + x.toNat) 0) = x := by decide +kernel

theorem length_cellsOf (bytes : List Byte) : (cellsOf bytes).length = 8 * bytes.length := by
  simp [cellsOf, List.length_flatMap, Nat.mul_comm]

theorem cellOf_sent (c : Bool) : cellOf (if c then 70 else 30) = some c := by cases c <;> rfl

/-- The cells of bytes are in the accepted classes. -/
theorem filter_cellsOf (bytes : List Byte) : ((cellsOf bytes).filter fun h => (cellOf h).isNone) = [] := by
  simp only [cellsOf, List.filter_eq_nil_iff, List.mem_flatMap, List.mem_map]
  rintro _ ⟨x, -, i, -, rfl⟩
  simp [cellOf_sent]

/-- They are read as the bits of the bytes. -/
theorem filterMap_cellsOf (bytes : List Byte) : (cellsOf bytes).filterMap cellOf = bytes.flatMap bitsOf := by
  simp only [cellsOf, List.filterMap_flatMap, List.filterMap_map, Function.comp_def, cellOf_sent, List.filterMap_eq_map']
  rfl

theorem bytesOf_flatMap (bytes : List Byte) : bytesOf bytes.length (bytes.flatMap bitsOf) = bytes := by
  induction bytes with
  | nil => rfl
  | cons x r ih =>
    have hlen : (bitsOf x).length = 8 := by simp [bitsOf]
    rw [List.flatMap_cons, List.length_cons, bytesOf, List.take_left' hlen, List.drop_left' hlen, ofNat_bitsOf, ih]

/-- A board takes the pulses of bytes as a frame of those bytes. -/
theorem boardPulses_cellsOf (n b : Nat) (bytes : List Byte) (s : State) :
    s.boardPulses n b (cellsOf bytes) = s.boardFrame n b bytes := by
  simp only [boardPulses, filter_cellsOf, List.length_nil, if_true, filterMap_cellsOf, length_cellsOf]
  rw [Nat.mul_div_cancel_left _ (by decide), bytesOf_flatMap]

/-! ## Shares (spec 04 R102, R103) -/

/-- What the last board of a chain makes of its share: it counts, and its messages run where the CRC agrees. -/
def takeShare (mine : List Byte) (y : Board) : Board :=
  let z := { y with shares := (y.shares + 1) % 16, shareGood := shareGood mine }
  if shareGood mine then runShare (num mine 0 1 + 1) ((mine.drop 1).take (num mine 0 1)) z else z

/-- A frame of one share comes to that share. -/
theorem boardFrame_of_one {n b : Nat} {mine : List Byte} {s : State} (hmax : num mine 0 1 ≤ 64)
    (hsize : mine.length = if num mine 0 1 = 0 then 1 else num mine 0 1 + 3) :
    s.boardFrame n b (1 :: mine) = s.onBoard n b (takeShare mine) := by
  have hcount : num (1 :: mine) 0 1 = 1 := rfl
  simp only [boardFrame, hcount, List.drop_succ_cons, List.drop_zero, ← hsize, List.take_length, if_true]
  rw [if_neg (by omega)]
  rfl

/-- The message EMISSION 0x00 in a good share silences the board (spec 04 R103, R113). -/
theorem enabled_takeShare_silent {c₁ c₂ : Byte} (h : shareGood [2, 0x04, 0x00, c₁, c₂] = true) (y : Board) :
    (takeShare [2, 0x04, 0x00, c₁, c₂] y).enabled = false := by
  rw [takeShare, h]
  rfl

/-! ## Temperatures (spec 04 R108, R112) -/

/-- What a board notes as it sends its temperature, with the check errors of the last millisecond. -/
def noteTemperature (x : Tick) (temp errors stop : Nat) (y : Board) : Board :=
  let z := { y with temp := temp, tempAt := some x, checkErrors := 0, checkSent := errors }
  if (temp : Int) - 80 + 10 ≤ stop then dropFault 1 z else z

theorem noteTemperature_effect (x : Tick) (temp errors stop : Nat) (y : Board) :
    (noteTemperature x temp errors stop y).temp = temp ∧ (noteTemperature x temp errors stop y).checkErrors = 0 := by
  unfold noteTemperature
  split <;> exact ⟨rfl, rfl⟩

/-- An instant that lies far enough back, where there is one, is not too recent. -/
theorem not_any_early_of_all_due {o : Option Tick} {k now : Tick} (h : (o.all fun x => decide (x + k ≤ now)) = true) :
    (o.any fun x => decide (now < x + k)) = false := by
  cases o with
  | none => rfl
  | some x => simpa using h

/-- A powered board whose last temperature is 0.9 ms old sends the next one. -/
theorem boardSends_of_due {n b temp : Nat} {s : State} (hp : (s.lamp (4 * n + b)).powered = true)
    (hdue : ((s.lamp (4 * n + b)).tempAt.all fun x => decide (x + us 900 ≤ s.now)) = true) :
    s.boardSends n b temp = ((s.onBoard n b (noteTemperature s.now temp (min 511 (s.lamp (4 * n + b)).checkErrors)
      (s.boardOwn n b).derateStop)).sendItem n b 0 temp).cond
        (decide (min 511 (s.lamp (4 * n + b)).checkErrors ≠ (s.lamp (4 * n + b)).checkSent))
        (sendItem n b 4 (min 511 (s.lamp (4 * n + b)).checkErrors)) := by
  have hready := not_any_early_of_all_due hdue
  unfold boardSends
  dsimp only
  rw [hp, hready, if_neg (by decide)]
  rfl

/-- The temperature goes upstream, and nothing but the board changes. -/
theorem boardSends_effect {n b temp : Nat} {s : State} (hw : s.wf = true) (hp : (s.lamp (4 * n + b)).powered = true)
    (hdue : ((s.lamp (4 * n + b)).tempAt.all fun x => decide (x + us 900 ≤ s.now)) = true) :
    (s.now, statusBits b 0 temp) ∈ ((s.boardSends n b temp).lamp (4 * n + b)).up
      ∧ BoardBecomes (4 * n + b) (noteTemperature s.now temp (min 511 (s.lamp (4 * n + b)).checkErrors)
        (s.boardOwn n b).derateStop (s.lamp (4 * n + b))) s (s.boardSends n b temp) := by
  have hboard := onBoard_becomes hw hp (noteTemperature s.now temp (min 511 (s.lamp (4 * n + b)).checkErrors)
    (s.boardOwn n b).derateStop)
  obtain ⟨m, hm⟩ := hboard.only
  have hsent := hboard.afterItem 0 temp
  rw [boardSends_of_due hp hdue]
  refine ⟨(becomes_self hsent.wf (4 * n + b)).report.up.subset ?_, hsent.report⟩
  rw [sendItem, lamp_modLamp hboard.wf, if_pos rfl, hm]
  exact List.mem_append_right _ (List.mem_singleton_self _)

end State

section BoardCondition

variable {t : Tick} {n b : Nat} {s : State}

/-- BOARD_TEMPERATURE_SEND (spec 04 R108). -/
theorem exec_boardTemperatureSend_due (ht : s.now ≤ t) (hw : s.wf = true) (hp : (s.lamp (4 * n + b)).powered = true)
    (temp : Nat) (hdue : ((s.lamp (4 * n + b)).tempAt.all fun x => decide (x + us 900 ≤ t)) = true) :
    ∃ u, exec (.boardTemperatureSend t n b temp) s = .next u ∧ (u.lamp (4 * n + b)).temp = temp
      ∧ (t, State.statusBits b 0 temp) ∈ (u.lamp (4 * n + b)).up ∧ (u.lamp (4 * n + b)).checkErrors = 0
      ∧ u = { s with clock := u.clock, lamps := u.lamps } ∧ ∀ j, j ≠ 4 * n + b → u.lamp j = s.lamp j := by
  have hnow : (s.advance t).now = t := max_eq_right ht
  obtain ⟨hword, -, ⟨m, hm⟩, hothers, hcore, -⟩ := State.boardSends_effect (s := s.advance t) (temp := temp) hw hp
    (by rw [hnow]; exact hdue)
  obtain ⟨htemp, herrors⟩ := State.noteTemperature_effect (s.advance t).now temp (min 511 (s.lamp (4 * n + b)).checkErrors)
    ((s.advance t).boardOwn n b).derateStop (s.lamp (4 * n + b))
  rw [hnow] at hword
  exact ⟨_, rfl, (congrArg Board.temp hcore).trans htemp, hword, (congrArg Board.checkErrors hcore).trans herrors,
    by rw [hm]; rfl, hothers⟩

/-- INDICATOR_PATTERN_TIMEOUT (spec 04 R114). -/
theorem exec_indicatorPatternTimeout (ht : s.now ≤ t) (hw : s.wf = true) (hp : (s.lamp (4 * n + b)).powered = true) :
    ∃ u, exec (.indicatorPatternTimeout t n b) s = .next u
      ∧ (u.lamp (4 * n + b)).pattern = State.patternOf (s.lamp (4 * n + b)) t
      ∧ u = { s with clock := u.clock, lamps := u.lamps } ∧ ∀ j, j ≠ 4 * n + b → u.lamp j = s.lamp j := by
  have hnow : (s.advance t).now = t := max_eq_right ht
  have hexec : exec (.indicatorPatternTimeout t n b) s = .next ((s.advance t).treadle n b) :=
    congrArg Host.Outcome.next (if_pos hp)
  obtain ⟨-, ⟨m, hm⟩, hothers, -, -⟩ := (State.becomes_self (s := s.advance t) hw (4 * n + b)).treadle
  have hpattern := State.treadle_pattern (s := s.advance t) hw n b
  rw [hnow] at hpattern
  exact ⟨_, hexec, hpattern, by rw [hm]; rfl, hothers⟩

/-- DATA_FRAME of one share (spec 04 R102, R103). -/
theorem exec_dataFrame_of_one (hw : s.wf = true) (hp : (s.lamp (4 * n + b)).powered = true) {mine : List Byte}
    (hmax : State.num mine 0 1 ≤ 64)
    (hsize : mine.length = if State.num mine 0 1 = 0 then 1 else State.num mine 0 1 + 3) :
    ∃ u, exec (.dataFrame t n b (State.cellsOf (1 :: mine))) s = .next u
      ∧ (u.lamp (4 * n + b)).core = (State.takeShare mine (s.lamp (4 * n + b))).core
      ∧ u = { s with clock := u.clock, lamps := u.lamps } ∧ ∀ j, j ≠ 4 * n + b → u.lamp j = s.lamp j :=
  exec_onBoard hw hp (congrArg Host.Outcome.next
    ((State.boardPulses_cellsOf n b _ _).trans (State.boardFrame_of_one hmax hsize)))

/-- DATA_FRAME of count 0 (spec 04 R102). -/
theorem exec_dataFrame_of_none (hw : s.wf = true) (hp : (s.lamp (4 * n + b)).powered = true) :
    ∃ u, exec (.dataFrame t n b (State.cellsOf [0])) s = .next u
      ∧ (u.lamp (4 * n + b)).violations = (s.lamp (4 * n + b)).violations + 1
      ∧ u = { s with clock := u.clock, lamps := u.lamps } ∧ ∀ j, j ≠ 4 * n + b → u.lamp j = s.lamp j := by
  obtain ⟨u, hu, hcore, hsame⟩ := exec_onBoard (t := t) hw hp (i := .dataFrame t n b (State.cellsOf [0]))
    (congrArg Host.Outcome.next ((State.boardPulses_cellsOf n b _ _).trans rfl))
  exact ⟨u, hu, (congrArg Board.violations hcore :), hsame⟩

/-- DATA_FRAME with pulses outside the accepted classes (spec 04 R96). -/
theorem exec_dataFrame_of_bad (hw : s.wf = true) (hp : (s.lamp (4 * n + b)).powered = true) {pulses : List Nat}
    (hbad : pulses.any (fun h => (State.cellOf h).isNone) = true) :
    ∃ u, exec (.dataFrame t n b pulses) s = .next u ∧ (u.lamp (4 * n + b)).shares = (s.lamp (4 * n + b)).shares
      ∧ (u.lamp (4 * n + b)).violations = (s.lamp (4 * n + b)).violations
        + (pulses.filter fun h => (State.cellOf h).isNone).length
      ∧ u = { s with clock := u.clock, lamps := u.lamps } ∧ ∀ j, j ≠ 4 * n + b → u.lamp j = s.lamp j := by
  have hne : (pulses.filter fun h => (State.cellOf h).isNone).length ≠ 0 := by
    simpa [List.filter_eq_nil_iff] using hbad
  obtain ⟨u, hu, hcore, hsame⟩ := exec_onBoard (t := t) hw hp (i := .dataFrame t n b pulses)
    (congrArg Host.Outcome.next (if_neg hne))
  exact ⟨u, hu, (congrArg Board.shares hcore :), (congrArg Board.violations hcore :), hsame⟩

/-- BOARD_OVER_TEMPERATURE (spec 04 R112, R113). -/
theorem exec_boardOverTemperature_hot (hw : s.wf = true) (hp : (s.lamp (4 * n + b)).powered = true) {temp : Nat}
    (hhot : ((s.boardOwn n b).derateStop : Int) ≤ (temp : Int) - 80) :
    ∃ u, exec (.boardOverTemperature t n b temp) s = .next u ∧ (u.lamp (4 * n + b)).enabled = false
      ∧ (u.lamp (4 * n + b)).faults.getLsbD 1 = true
      ∧ u = { s with clock := u.clock, lamps := u.lamps } ∧ ∀ j, j ≠ 4 * n + b → u.lamp j = s.lamp j := by
  obtain ⟨u, hu, hcore, hsame⟩ := exec_onBoard (t := t) hw hp (i := .boardOverTemperature t n b temp)
    (congrArg Host.Outcome.next (if_neg (not_lt.mpr hhot)))
  exact ⟨u, hu, congrArg Board.enabled hcore,
    (congrArg (fun y : Board => y.faults.getLsbD 1) hcore).trans (State.getLsbD_addFault (by decide) _), hsame⟩

/-- DRIVER_FAULT (spec 04 R113). -/
theorem exec_driverFault (hw : s.wf = true) (hp : (s.lamp (4 * n + b)).powered = true) :
    ∃ u, exec (.driverFault t n b) s = .next u ∧ (u.lamp (4 * n + b)).enabled = false
      ∧ (u.lamp (4 * n + b)).faults.getLsbD 3 = true
      ∧ u = { s with clock := u.clock, lamps := u.lamps } ∧ ∀ j, j ≠ 4 * n + b → u.lamp j = s.lamp j := by
  obtain ⟨u, hu, hcore, hsame⟩ := exec_onBoard (t := t) hw hp (i := .driverFault t n b) rfl
  exact ⟨u, hu, congrArg Board.enabled hcore,
    (congrArg (fun y : Board => y.faults.getLsbD 3) hcore).trans (State.getLsbD_addFault (by decide) _), hsame⟩

end BoardCondition

end Sys2Proof.Machine
end

section
/-! PROOFS. Head ports as their stream leaves them (spec 04 R95-R105): what is sent on a port, reserved on it and cancelled of its
shots touches neither another port nor the state of this one. -/

namespace Sys2Proof

/-- The keys of a canonical store lie above its bound. -/
theorem Store.lt_of_mem {α : Type} [DecidableEq α] {d : α} {m : Store α} {l : Nat} (h : Store.wfFrom d (some l) m = true)
    {x : Nat × α} (hx : x ∈ m) : l < x.1 := by
  induction m generalizing l with
  | nil => simp at hx
  | cons p r ih =>
    simp only [Store.wfFrom, Bool.and_eq_true, Option.all_some, decide_eq_true_eq] at h
    rcases List.mem_cons.mp hx with rfl | hr
    · exact h.1.1
    · exact h.1.1.trans (ih h.2 hr)

/-- An entry of a canonical store is what its key reads. -/
theorem Store.read_of_mem {α : Type} [DecidableEq α] {d : α} {m : Store α} {lo : Option Nat}
    (h : Store.wfFrom d lo m = true) {x : Nat × α} (hx : x ∈ m) : Store.read d m x.1 = x.2 := by
  induction m generalizing lo with
  | nil => simp at hx
  | cons p r ih =>
    simp only [Store.wfFrom, Bool.and_eq_true] at h
    rcases List.mem_cons.mp hx with rfl | hr
    · exact if_pos rfl
    · rw [Store.read, if_neg (Store.lt_of_mem h.2 hr).ne', ih h.2 hr]

namespace Machine

/-- What is known of a board but for drive codes. -/
def BoardView.known (v : BoardView) : BoardView := { v with codes := [], requested := [], next := [] }

/-- A port but for its boards, for what its stream brings, and for its gate. -/
def Port.station (p : Port) : Port :=
  { p with
    reserved := [], sent := [], syncFor := none, boards := [], gate := false, gateCause := 0, gateAt := none, emit := false
    largest := [], latencyHead := 0, symbols := [], frames := [], dataFrom := 0, data := [], recap := [], owed := none
    asked := none, scannerReports := false }

/-- A shot is as it was, or it is one of port `n` and has not come to wait. -/
def ShotGone (n : Nat) (e e' : Entry) : Prop :=
  e' = e ∨ State.onPort n e = true ∧ e'.element = e.element ∧ (e'.waiting = true → e.waiting = true)

theorem ShotGone.element {n : Nat} {e e' : Entry} (h : ShotGone n e e') : e'.element = e.element := by
  rcases h with rfl | ⟨-, h, -⟩
  · rfl
  · exact h

theorem ShotGone.onPort {n : Nat} {e e' : Entry} (h : ShotGone n e e') : State.onPort n e' = State.onPort n e := by
  rw [State.onPort, h.element, State.onPort]

theorem ShotGone.waiting {n : Nat} {e e' : Entry} (h : ShotGone n e e') (hw : e'.waiting = true) : e.waiting = true := by
  rcases h with rfl | ⟨-, -, h⟩
  · exact hw
  · exact h hw

theorem ShotGone.trans {n : Nat} {e e' e'' : Entry} (h : ShotGone n e e') (k : ShotGone n e' e'') : ShotGone n e e'' := by
  rcases k with rfl | ⟨hon, helement, hwaiting⟩
  · exact h
  · exact .inr ⟨h.onPort.symm.trans hon, helement.trans h.element, fun hw => h.waiting (hwaiting hw)⟩

namespace State

/-- From `s` to `u` only the stream of port `n` has gone on: no other port and no shot of one has changed, of this port neither its
station nor what is known of its boards, and no shot has come to wait. -/
structure StreamGone (n : Nat) (s u : State) : Prop where
  wf : u.wf = true
  others : ∀ m, m ≠ n → u.port m = s.port m
  station : (u.port n).station = (s.port n).station
  views : Store.wf {} (s.port n).boards = true →
    Store.wf {} (u.port n).boards = true ∧ ∀ b, (u.view n b).known = (s.view n b).known
  shots : ∀ i, ShotGone n (s.entry i) (u.entry i)

/-- What an operation on the stream of port `n` does to a sound state. -/
structure Streams (n : Nat) (s u : State) : Prop where
  gone : s.wf = true → StreamGone n s u

namespace Streams

variable {n : Nat} {s u v : State}

theorem refl (s : State) : Streams n s s := ⟨fun h => ⟨h, fun _ _ => rfl, rfl, fun h => ⟨h, fun _ => rfl⟩, fun _ => .inl rfl⟩⟩

theorem trans (h : Streams n s u) (k : Streams n u v) : Streams n s v := by
  refine ⟨fun hw => ?_⟩
  obtain ⟨hwf, hothers, hstation, hviews, hshots⟩ := h.gone hw
  obtain ⟨hwf', hothers', hstation', hviews', hshots'⟩ := k.gone hwf
  refine ⟨hwf', fun m hm => (hothers' m hm).trans (hothers m hm), hstation'.trans hstation, fun hb => ?_,
    fun i => (hshots i).trans (hshots' i)⟩
  obtain ⟨hb', hknown⟩ := hviews hb
  obtain ⟨hb'', hknown'⟩ := hviews' hb'
  exact ⟨hb'', fun b => (hknown' b).trans (hknown b)⟩

/-- A change that leaves ports and Skein. -/
theorem of_same (hk : Kept s u) (hp : u.ports = s.ports) (hs : u.skein = s.skein) : Streams n s u := by
  have hport (m : Nat) := port_of_ports hp m
  exact ⟨fun hw => ⟨hk.wf hw, fun m _ => hport m, by rw [hport], fun hb => by simpa [view, hport] using hb,
    fun i => .inl (entry_of_skein hs i)⟩⟩

/-- A change of the port's own stream. -/
theorem modPort (s : State) {g : Port → Port} (hg : ∀ p, (g p).station = p.station := by exact fun _ => rfl)
    (hb : ∀ p, (g p).boards = p.boards := by exact fun _ => rfl) : Streams n s (s.modPort n g) := by
  refine ⟨fun hw => ?_⟩
  have hport := port_modPort_same hw n g
  exact ⟨wf_modPort hw n g, fun m hm => port_modPort_other hw hm g, by rw [hport, hg],
    fun h => by simpa [view, hport, hb] using h, fun _ => .inl rfl⟩

/-- A change of what is to be sent to one of the port's boards. -/
theorem modView (s : State) {b : Nat} {g : BoardView → BoardView}
    (hg : ∀ y, (g y).known = y.known := by exact fun _ => rfl) : Streams n s (s.modView n b g) := by
  refine ⟨fun hw => ?_⟩
  have hport := port_modPort_same hw n fun p => { p with boards := Store.modify {} p.boards b g }
  refine ⟨wf_modPort hw n _, fun m hm => port_modPort_other hw hm _, by rw [State.modView, hport]; rfl,
    fun h => ⟨by rw [State.modView, hport]; exact Store.wf_modify _ _ _ _ h, fun k => ?_⟩, fun _ => .inl rfl⟩
  rw [view_modView hw h]
  split
  · next e => rw [hg, e]
  · rfl

/-- A change of a shot of the port that leaves its element and does not make it wait. -/
theorem modEntry {s : State} {i : Nat} {g : Entry → Entry} (hi : onPort n (s.entry i) = true)
    (hg : ∀ e, (g e).element = e.element := by exact fun _ => rfl)
    (hw : ∀ e, (g e).waiting = true → e.waiting = true := by exact fun _ h => h) : Streams n s (s.modEntry i g) := by
  refine ⟨fun h => ⟨wf_modEntry h i g, fun _ _ => rfl, rfl, fun h => ⟨h, fun _ => rfl⟩, fun j => ?_⟩⟩
  by_cases hj : j = i
  · rw [hj, entry_modEntry_same h]
    exact .inr ⟨hi, hg _, hw _⟩
  · exact .inl (entry_modEntry_other h hj g)

/-- A shot of the port is one after the port's stream has gone on. -/
theorem then_shot {i : Nat} (h : Streams n s u) (hi : onPort n (s.entry i) = true)
    (k : onPort n (u.entry i) = true → Streams n u v) : Streams n s v :=
  ⟨fun hw => (h.trans (k (((h.gone hw).shots i).onPort.trans hi))).gone hw⟩

theorem each {α : Type} {f : α → State → State} (h : ∀ a u, Streams n u (f a u)) (l : List α) (s : State) :
    Streams n s (s.each l f) := each_rel refl trans h l s

theorem cond {f : State → State} (h : ∀ u, Streams n u (f u)) (b : Bool) (s : State) : Streams n s (s.cond b f) := by
  cases b
  · exact refl s
  · exact h s

/-- Steps for entries of the port's elements. -/
theorem each_entry {l : List (Nat × Entry)} {f : Nat × Entry → State → State}
    (h : ∀ x u, onPort n (u.entry x.1) = true → Streams n u (f x u)) (hl : ∀ x ∈ l, onPort n (s.entry x.1) = true) :
    Streams n s (s.each l f) := by
  induction l generalizing s with
  | nil => exact refl s
  | cons x l ih =>
    obtain ⟨hx, hl⟩ := List.forall_mem_cons.mp hl
    exact ⟨fun hw => ((h x s hx).trans (ih fun y hy => (((h x s hx).gone hw).shots y.1).onPort.trans (hl y hy))).gone hw⟩

end Streams

section
variable {n : Nat}

/-! ## Reports and frames -/

theorem event_streams (src code : Nat) (payload : List (Nat × Nat)) (s : State) : Streams n s (s.event src code payload) :=
  .of_same (event_kept (.refl s)) (event_ports ..) (event_skein ..)

theorem portEvent_streams (m code : Nat) (payload : List (Nat × Nat)) (s : State) :
    Streams n s (s.portEvent m code payload) :=
  .of_same (portEvent_kept (.refl s)) (portEvent_ports ..) (portEvent_skein ..)

theorem sendFrame_streams (shares : List (List Byte)) (s : State) : Streams n s (s.sendFrame n shares) :=
  .cond (fun u => Streams.modPort u) _ s

theorem updateEmission_streams (s : State) : Streams n s (s.updateEmission n) := by
  unfold updateEmission
  dsimp only
  split
  · exact .refl s
  · exact (sendFrame_streams _ s).trans (Streams.modPort _)

theorem gateBlame_streams (cause : Nat) (s : State) : Streams n s (s.gateBlame cause n) :=
  .cond (fun u => (Streams.modPort (g := fun p => { p with gateCause := cause }) u).trans
    (.of_same (amend_kept (.refl _)) rfl rfl)) _ s

theorem updateGate_streams (cause : Nat) (s : State) : Streams n s (s.updateGate cause n) := by
  unfold updateGate
  dsimp only
  refine Streams.trans ?_ (updateEmission_streams _)
  split
  · exact gateBlame_streams cause s
  · exact (Streams.modPort s).trans (event_streams ..)

theorem setScanner_streams (m : Nat) (x : Scanner) (s : State) : Streams n s (s.setScanner m x) := by
  refine .of_same (setScanner_kept (.refl s)) ?_ ?_ <;>
  · unfold setScanner
    dsimp only
    split <;> simp

theorem updateScanner_streams (m : Nat) (s : State) : Streams n s (s.updateScanner m) := by
  unfold updateScanner
  split <;> split
  · exact setScanner_streams ..
  · exact .refl s
  · exact .refl s
  · exact setScanner_streams ..

theorem updateReports_streams (s : State) : Streams n s (s.updateReports n) := by
  unfold updateReports
  dsimp only
  split
  · exact .refl s
  · exact (sendFrame_streams _ s).trans (Streams.modPort _)

theorem placeKeepAlive_streams (k : Nat) (start : Tick) (s : State) : Streams n s (s.placeKeepAlive n k start) := by
  unfold placeKeepAlive
  dsimp only
  split
  · exact .refl s
  · split
    · exact .refl s
    · exact Streams.modPort s

theorem startKeepAlives_streams (s : State) : Streams n s (s.startKeepAlives n) :=
  (placeKeepAlive_streams _ _ s).trans (placeKeepAlive_streams ..)

/-! ## Syncs and acknowledgements -/

theorem busyAck_streams (s : State) : Streams n s (s.busyAck n) := by
  unfold busyAck
  split
  · exact .refl s
  · exact (Streams.modPort s).trans
      (.of_same (ackWith_kept (modDist_kept (.refl _))) (ackWith_ports ..) (ackWith_skein ..))

theorem dropSync_streams (s : State) : Streams n s (s.dropSync n) := by
  have hdrop := (Streams.modPort (n := n) s (g := fun p => { p with
    syncFor := none
    reserved := p.reserved.filter fun r => match r.2 with | .sync _ _ => false | _ => true })).trans (busyAck_streams _)
  unfold dropSync
  dsimp only
  split
  · exact hdrop.trans (.of_same (failedOpen_kept (.refl _)) (failedOpen_ports ..) (failedOpen_skein ..))
  · exact hdrop

/-! ## Retirement and cancellation of the port's shots -/

theorem count_streams (k i x : Nat) (s : State) : Streams n s (s.count k i x) := .of_same (count_kept (.refl s)) rfl rfl

theorem retired_streams {i : Nat} {s : State} (hi : onPort n (s.entry i) = true) (out : Nat) :
    Streams n s (s.modEntry i fun _ => s.retired i out) := by
  refine ⟨fun h => ⟨wf_modEntry h i _, fun _ _ => rfl, rfl, fun h => ⟨h, fun _ => rfl⟩, fun j => ?_⟩⟩
  by_cases hj : j = i
  · rw [hj, entry_modEntry_same h]
    exact .inr ⟨hi, rfl, fun hw => absurd hw Bool.false_ne_true⟩
  · exact .inl (entry_modEntry_other h hj _)

theorem retire_streams {i out : Nat} {s : State} (hi : onPort n (s.entry i) = true) : Streams n s (s.retire i out) := by
  have hport : elemPort (s.entry i).element = n := of_decide_eq_true hi
  have hentry : Streams n s (s.modEntry i fun _ => s.retired i out) := retired_streams hi out
  refine (hentry.trans (.modPort _ (g := fun p => { p with reserved := p.reserved.filter fun r => r.2 ≠ .fire i }))).trans ?_
  have hretire : s.retire i out = ((s.modEntry i fun _ => s.retired i out).modPort n fun p => { p with
      reserved := p.reserved.filter fun r => r.2 ≠ .fire i }).cond (!(s.entry i).cal) (account (some i) (s.retired i out)) := by
    rw [← hport]; rfl
  rw [hretire]
  exact .cond (fun u => .of_same (account_kept (.refl u)) (account_ports ..) (account_skein ..)) _ _

theorem revise_streams {i : Nat} {s : State} (hi : onPort n (s.entry i) = true) (out : Nat) : Streams n s (s.revise i out) := by
  unfold revise
  dsimp only
  have hentry : Streams n s (s.modEntry i fun e => { e with outcome := out }) := .modEntry hi
  split
  · exact hentry
  · exact hentry.trans (.of_same (modRecs_kept (countFlyer_kept (modFlyer_kept (.refl _)))) rfl rfl)

/-- The entries that the Skein lists are what it reads. -/
theorem entry_of_mem {s : State} (hw : s.wf = true) {x : Nat × Entry} (hx : x ∈ s.skein) : s.entry x.1 = x.2 :=
  Store.read_of_mem (skein_wf hw) hx

/-- The listed entries that `pick` names are read as ones of the port. -/
theorem onPort_of_mem {pick : Entry → Bool} (hp : ∀ e, pick e = true → onPort n e = true) {s : State} (hw : s.wf = true)
    {p : Nat × Entry → Bool} {x : Nat × Entry} (hx : x ∈ s.skein.filter fun x => p x && pick x.2) :
    onPort n (s.entry x.1) = true := by
  obtain ⟨hmem, hpick⟩ := List.mem_filter.mp hx
  rw [entry_of_mem hw hmem]
  exact hp _ (Bool.and_eq_true_iff.mp hpick).2

/-- A cancellation before it retires any shot: late ones are marked, those that other causes cancelled are revised. -/
def markCancelled (pick : Entry → Bool) (out : Nat) (s : State) : State :=
  (s.each (s.skein.filter fun x => s.sending x.2 && pick x.2) fun x u =>
    u.modEntry x.1 fun e => { e with lateCancel := true }).each (s.revisable pick out) fun x u => u.revise x.1 out

theorem cancel_eq (pick : Entry → Bool) (out : Nat) (s : State) :
    s.cancel pick out = (s.markCancelled pick out).each (s.cancellable pick) fun x u => u.retire x.1 out := rfl

theorem markCancelled_streams {pick : Entry → Bool} (hp : ∀ e, pick e = true → onPort n e = true) (out : Nat) (s : State) :
    Streams n s (s.markCancelled pick out) := by
  refine ⟨fun hw => ?_⟩
  have hlate : Streams n s (s.each (s.skein.filter fun x => s.sending x.2 && pick x.2) fun x u =>
      u.modEntry x.1 fun e => { e with lateCancel := true }) :=
    .each_entry (fun x u hx => .modEntry hx) fun x hx => onPort_of_mem hp hw hx
  exact (hlate.trans (.each_entry (fun x u hx => revise_streams hx out) fun x hx =>
    ((hlate.gone hw).shots x.1).onPort.trans (onPort_of_mem hp hw hx))).gone hw

theorem cancel_streams {pick : Entry → Bool} (hp : ∀ e, pick e = true → onPort n e = true) (out : Nat) (s : State) :
    Streams n s (s.cancel pick out) := by
  have hmarked := markCancelled_streams hp out s
  rw [cancel_eq]
  exact ⟨fun hw => (hmarked.trans (.each_entry (fun x u hx => retire_streams hx) fun x hx =>
    ((hmarked.gone hw).shots x.1).onPort.trans (onPort_of_mem hp hw hx))).gone hw⟩

theorem uncharge_streams (a : Account) (x : Tick) (e : Nat) (s : State) : Streams n s (s.uncharge a x e) :=
  .of_same (uncharge_kept (.refl s)) rfl rfl

theorem refuseEarlier_streams (k : Nat) {x : Nat × Entry} {s : State} (hx : onPort n (s.entry x.1) = true) :
    Streams n s (s.refuseEarlier k x) := by
  unfold refuseEarlier
  dsimp only
  refine ((Streams.cond (fun u => .each (fun a v => .cond (fun w => ?_) _ v) _ u) _ s).trans
    ((count_streams ..).trans (count_streams ..))).then_shot hx .modEntry
  exact (Streams.of_same (modWhorl_kept (.refl w)) rfl rfl).trans
    (.cond (fun w => .of_same (unsay_kept (.refl w)) rfl rfl) _ _)

theorem refuseNow_streams (k : Nat) (s : State) : Streams n s (s.refuseNow (onPort n) k) := by
  refine ⟨fun hw => ?_⟩
  have hearlier : Streams n s (s.each (s.skein.filter fun x =>
      x.2.endedAt = some s.now && (x.2.refusedBy.any fun j => decide (k < j)) && onPort n x.2) (refuseEarlier k)) :=
    .each_entry (fun x u hx => refuseEarlier_streams k hx) fun x hx => onPort_of_mem (fun _ h => h) hw hx
  refine (hearlier.trans (.each_entry (fun x u hx => ?_) fun x hx =>
    ((hearlier.gone hw).shots x.1).onPort.trans (onPort_of_mem (fun _ h => h) hw hx))).gone hw
  have hcharge := (Streams.each (n := n) (fun a v => uncharge_streams a x.2.planned x.2.charge v)
    (u.accountsOf x.2.element) u).trans (count_streams (Kind.refused1 + k) (elemPort x.2.element) 1 _)
  have hmark := hcharge.then_shot hx (Streams.modEntry (g := fun e => { e with refusedBy := some k }))
  exact hmark.then_shot hx retire_streams

end

end State
end Machine
end Sys2Proof
end

section
/-! PROOFS. The port states (spec 04 R94, R95, R101, R115, R116): what a port takes with a state, and that its going there leaves the
other ports and the standing of the device. -/

namespace Sys2Proof.Machine

/-- A port that sends no longer: nothing stays reserved or known of its head (spec 04 R101, R116). -/
def Port.cleared (p : Port) : Port :=
  { p with
    reserved := [], sent := [], scannerReports := false, emit := false, limits := false, seen := false, chain := 0
    boards := [], recap := [], dataFrom := 0, data := [], word := none }

namespace State

/-! ## The standing of the device -/

@[simp] theorem modLamps_standing (g : Store Board → Store Board) (s : State) : (s.modLamps g).standing = s.standing := rfl
@[simp] theorem modLamp_standing (i : Nat) (g : Board → Board) (s : State) :
    (s.modLamp i g).standing = s.standing := by simp [modLamp]
@[simp] theorem portEvent_standing (n code : Nat) (payload : List (Nat × Nat)) (s : State) :
    (s.portEvent n code payload).standing = s.standing := by simp [portEvent]
@[simp] theorem failedOpen_standing (handle : Nat) (s : State) : (s.failedOpen handle).standing = s.standing := by
  simp [failedOpen]
@[simp] theorem unpower_standing (n : Nat) (s : State) : (s.unpower n).standing = s.standing := by simp [unpower]

@[simp] theorem placeKeepAlive_standing (n k : Nat) (start : Tick) (s : State) :
    (s.placeKeepAlive n k start).standing = s.standing := by
  unfold placeKeepAlive
  dsimp only
  split
  · rfl
  · split <;> simp

@[simp] theorem startKeepAlives_standing (n : Nat) (s : State) :
    (s.startKeepAlives n).standing = s.standing := by simp [startKeepAlives]

@[simp] theorem dropSync_standing (n : Nat) (s : State) : (s.dropSync n).standing = s.standing := by
  unfold dropSync
  dsimp only
  split <;> simp

/-- A port that goes to another state leaves the standing of the device. -/
@[simp] theorem setPort_standing (n : Nat) (st : PortState) (cause : Nat) (s : State) :
    (s.setPort n st cause).standing = s.standing := by
  simp [setPort]

/-! ## What a port takes with a state -/

/-- Port `n` of `s` has gone to state `st` in `u`; it keeps its head, and its limits while it sends, and no other port has
changed. -/
structure PortMoved (n : Nat) (st : PortState) (s u : State) : Prop where
  wf : u.wf = true
  others : ∀ m, m ≠ n → u.port m = s.port m
  state : (u.port n).state = st
  enteredAt : (u.port n).enteredAt = s.now
  head : (u.port n).head = (s.port n).head
  limits : (u.port n).limits = (st.sends && (s.port n).limits)

section
variable {n : Nat} {st : PortState} {s u v : State}

theorem PortMoved.streams (h : PortMoved n st s u) (k : Streams n u v) : PortMoved n st s v := by
  obtain ⟨hwf, hothers, hstation, -, -⟩ := k.gone h.wf
  exact ⟨hwf, fun m hm => (hothers m hm).trans (h.others m hm), (congrArg Port.state hstation :).trans h.state,
    (congrArg Port.enteredAt hstation :).trans h.enteredAt, (congrArg Port.head hstation :).trans h.head,
    (congrArg Port.limits hstation :).trans h.limits⟩

theorem PortMoved.of_ports (h : PortMoved n st s u) (hk : Kept u v) (hp : v.ports = u.ports) : PortMoved n st s v := by
  have hport (m : Nat) := port_of_ports hp m
  obtain ⟨hwf, hothers, hstate, hentered, hhead, hlimits⟩ := h
  exact ⟨hk.wf hwf, fun m hm => (hport m).trans (hothers m hm), by rw [hport, hstate], by rw [hport, hentered],
    by rw [hport, hhead], by rw [hport, hlimits]⟩

/-- The shots of a port that leaves ADMITTED are cancelled first (spec 04 R116). -/
def leaveAdmitted (n : Nat) (s : State) : State :=
  s.cond ((s.port n).state = .admitted) fun s => (s.refuseNow (onPort n) 1).cancel (onPort n) 0x25

theorem leaveAdmitted_streams (n : Nat) (s : State) : Streams n s (s.leaveAdmitted n) :=
  .cond (fun u => (refuseNow_streams 1 u).trans (cancel_streams (fun _ h => h) 0x25 _)) _ s

@[simp] theorem leaveAdmitted_standing (n : Nat) (s : State) : (s.leaveAdmitted n).standing = s.standing := by
  simp [leaveAdmitted]

/-- The port with its new state alone. -/
def takeState (n : Nat) (st : PortState) (s : State) : State :=
  (s.leaveAdmitted n).modPort n fun p => { p with state := st, enteredAt := s.now, probeEnd := 0 }

/-- The port in its new state, before its gate follows. -/
def movePort (n : Nat) (st : PortState) (s : State) : State :=
  if st.sends then
    if (s.port n).state.sends then s.takeState n st else (s.takeState n st).startKeepAlives n
  else (((s.takeState n st).dropSync n).modPort n Port.cleared).cond (st ≠ .probing) (unpower n)

theorem setPort_eq (n : Nat) (st : PortState) (cause : Nat) (s : State) :
    s.setPort n st cause = (((s.movePort n st).updateGate cause n).updateScanner n).updateReports n := rfl

theorem takeState_effect (hw : s.wf = true) (n : Nat) (st : PortState) :
    (s.takeState n st).wf = true ∧ (∀ m, m ≠ n → (s.takeState n st).port m = s.port m)
      ∧ ((s.takeState n st).port n).station = { (s.port n).station with state := st, enteredAt := s.now, probeEnd := 0 } := by
  obtain ⟨hwf, hothers, hstation, -, -⟩ := (leaveAdmitted_streams n s).gone hw
  refine ⟨wf_modPort hwf n _, fun m hm => (port_modPort_other hwf hm _).trans (hothers m hm), ?_⟩
  rw [takeState, port_modPort_same hwf, ← hstation]
  rfl

/-- While it goes on sending, a port keeps what the device holds of its head (spec 04 R101). -/
theorem takeState_moves (hw : s.wf = true) (n : Nat) (hst : st.sends = true) : PortMoved n st s (s.takeState n st) := by
  obtain ⟨hwf, hothers, hstation⟩ := takeState_effect hw n st
  exact ⟨hwf, hothers, (congrArg Port.state hstation :), (congrArg Port.enteredAt hstation :),
    (congrArg Port.head hstation :), by rw [hst]; exact (congrArg Port.limits hstation :)⟩

/-- A port that stops sending is cleared (spec 04 R101, R116). -/
theorem clear_moves (hw : s.wf = true) (n : Nat) (hst : st.sends = false) :
    PortMoved n st s (((s.takeState n st).dropSync n).modPort n Port.cleared) := by
  obtain ⟨hwf, hothers, hstation⟩ := takeState_effect hw n st
  obtain ⟨hdwf, hdothers, hdstation, -, -⟩ := (dropSync_streams (s.takeState n st)).gone hwf
  have hport := port_modPort_same hdwf n Port.cleared
  rw [hstation] at hdstation
  refine ⟨wf_modPort hdwf n _, fun m hm => ?_, ?_, ?_, ?_, ?_⟩
  · rw [port_modPort_other hdwf hm, hdothers m hm, hothers m hm]
  · rw [hport]
    exact (congrArg Port.state hdstation :)
  · rw [hport]
    exact (congrArg Port.enteredAt hdstation :)
  · rw [hport]
    exact (congrArg Port.head hdstation :)
  · rw [hport, hst]
    rfl

theorem unpower_ports (n : Nat) (s : State) : (s.unpower n).ports = s.ports := rfl

theorem movePort_moves (hw : s.wf = true) (n : Nat) (st : PortState) : PortMoved n st s (s.movePort n st) := by
  unfold movePort
  split
  case isTrue hst =>
    split
    · exact takeState_moves hw n hst
    · exact (takeState_moves hw n hst).streams (startKeepAlives_streams _)
  case isFalse hst =>
    refine (clear_moves hw n (Bool.eq_false_iff.mpr hst)).of_ports (cond_kept (fun u => unpower_kept (.refl u)) (.refl _)) ?_
    rw [cond_eq]
    split
    · exact unpower_ports ..
    · rfl

theorem setPort_moves (hw : s.wf = true) (n : Nat) (st : PortState) (cause : Nat) :
    PortMoved n st s (s.setPort n st cause) :=
  (movePort_moves hw n st).streams (((updateGate_streams cause _).trans (updateScanner_streams n _)).trans
    (updateReports_streams _))

end

end State

/-- An instruction that ends in a port's going to a state, and in reports. -/
theorem exec_setPort {t : Tick} {n cause : Nat} {st : PortState} {s : State} {i : Instr} (hw : s.wf = true)
    {f : State → State} (hp : ∀ v, (f v).ports = v.ports) (hd : ∀ v, (f v).dev = v.dev)
    (h : exec i s = .next (f ((s.advance t).setPort n st cause))) :
    ∃ u, exec i s = .next u ∧ (u.port n).state = st ∧ u.dev = s.dev ∧ ∀ m, m ≠ n → (u.port m).state = (s.port m).state := by
  obtain ⟨-, hothers, hstate, -, -, -⟩ := State.setPort_moves (s := s.advance t) hw n st cause
  have hport (m : Nat) := State.port_of_ports (hp ((s.advance t).setPort n st cause)) m
  exact ⟨_, h, by rw [hport, hstate], (hd _).trans (State.dev_of_standing (State.setPort_standing ..)),
    fun m hm => by rw [hport, hothers m hm]; rfl⟩

/-- Settles O10: each event is the port's going to a state, where its guard holds. -/
theorem portStatesFollowTheHead : Obligations.PortStatesFollowTheHead := by
  unfold Obligations.PortStatesFollowTheHead
  intro t n s _ ht hw
  have hnow : (s.advance t).now = t := max_eq_right ht
  refine ⟨fun current hs h100 hend h2000 hcur => ?presence, fun current hc hcur => ?trip, fun cause last hc hcause => ?removal,
    fun hs h250 => ?removed, fun hs hseen h50 => ?silent, fun hs h2 => ?unread⟩
  case presence =>
    have hclosed : (s.advance t).switchClosed n = true := by
      rw [State.switchClosed, hnow]
      exact Bool.or_eq_true_iff.mpr (.inr (Bool.and_eq_true_iff.mpr ⟨decide_eq_true hs, decide_eq_true hend⟩))
    have hpresent : ¬(((s.advance t).port n).state ≠ .probing ∨ (s.advance t).now < ((s.advance t).port n).closedAt + us 100
        ∨ ((s.advance t).port n).closedAt + us 2000 < (s.advance t).now ∨ (!(s.advance t).switchClosed n) = true
        ∨ current < 10 * (s.advance t).pnum Par.presThreshold n) := by
      rw [hclosed, hnow]
      rintro (h | h | h | h | h)
      · exact h hs
      · exact h.not_ge h100
      · exact h.not_ge h2000
      · exact absurd h (by decide)
      · exact h.not_ge hcur
    exact exec_setPort hw (fun v => State.portEvent_ports n 0x30 [(1, n)] v) (State.portEvent_dev n 0x30 [(1, n)])
      (congrArg Host.Outcome.next (if_neg hpresent))
  case trip =>
    have htrips : ¬((!(s.advance t).switchClosed n && !(s.advance t).justRemoved n) = true
        ∨ current ≤ (s.advance t).tripLevel n) := by
      simp [hc, hcur]
    exact exec_setPort hw (fun v => (State.portEvent_ports ..).trans (State.setFlag_ports 17 v))
      (fun v => (State.portEvent_dev ..).trans (State.setFlag_dev 17 v)) (congrArg Host.Outcome.next (if_neg htrips))
  case removal =>
    have hgone : ¬((!((s.advance t).port n).state.closed) = true
        ∨ (cause = 1 ∧ last.all (fun l => decide ((s.advance t).now < l + ns 1500)) = true)) := by
      rw [show ((s.advance t).port n).state.closed = true from hc, hnow]
      rintro (h | ⟨h, hlast⟩)
      · exact absurd h (by decide)
      · obtain ⟨l, rfl, hl⟩ := hcause h
        rw [Option.all_some] at hlast
        have hearly : t < l + ns 1500 := of_decide_eq_true hlast
        exact hl.not_gt hearly
    exact exec_setPort hw (fun v => (State.portEvent_ports ..).trans (State.setFlag_ports 17 v))
      (fun v => (State.portEvent_dev ..).trans (State.setFlag_dev 17 v)) (congrArg Host.Outcome.next (if_neg hgone))
  case removed =>
    exact exec_setPort hw (f := id) (fun _ => rfl) (fun _ => rfl)
      (congrArg Host.Outcome.next (if_pos ⟨hs, h250.trans_eq hnow.symm⟩))
  case silent =>
    exact exec_setPort hw (fun _ => State.portEvent_ports ..) (fun _ => State.portEvent_dev ..)
      (congrArg Host.Outcome.next (if_pos ⟨hs, by simp [show ((s.advance t).port n).seen = false from hseen],
        h50.trans_eq hnow.symm⟩))
  case unread =>
    exact exec_setPort hw (fun _ => State.portEvent_ports ..) (fun _ => State.portEvent_dev ..)
      (congrArg Host.Outcome.next (if_pos ⟨hs, h2.trans_eq hnow.symm⟩))

end Sys2Proof.Machine
end

section
/-! PROOFS. What the device concludes of a board (spec 04 R95, R110, R112, 17 R405): caps and the sends that they call for keep to the
port's stream, so that a stale board is stopped, and a whole descriptor is verified or its head rejected. -/

namespace Sys2Proof.Machine

namespace State

section
variable {n : Nat} {s : State}

/-! ## The standing of the device -/

@[simp] theorem modView_standing (m b : Nat) (g : BoardView → BoardView) (s : State) :
    (s.modView m b g).standing = s.standing := by simp [modView]
@[simp] theorem renewCode_standing (m b i : Nat) (s : State) : (s.renewCode m b i).standing = s.standing := by simp [renewCode]
@[simp] theorem blame_standing (m : Nat) (a : Account) (s : State) : (s.blame m a).standing = s.standing := by simp [blame]
@[simp] theorem noteSums_standing (e : Nat) (x : Tick) (energy : Nat) (s : State) :
    (s.noteSums e x energy).standing = s.standing := by simp [noteSums, noteSum]
@[simp] theorem chargeAll_standing (e : Nat) (x : Tick) (energy : Nat) (s : State) :
    (s.chargeAll e x energy).standing = s.standing := by simp [chargeAll, addCharge]
@[simp] theorem recharge_standing (i : Nat) (s : State) : (s.recharge i).standing = s.standing := by simp [recharge]

@[simp] theorem rechargePort_standing (m : Nat) (s : State) : (s.rechargePort m).standing = s.standing := by
  unfold rechargePort
  split <;> simp

@[simp] theorem reserveSync_standing (m a : Nat) (x : Tick) (handle : Option Nat) (s : State) :
    (s.reserveSync m a x handle).standing = s.standing := by simp [reserveSync]

/-- The boards of a list sent the codes that their caps call for (spec 04 R112). -/
def capsSent (n : Nat) (l : List Nat) (frame : List (List Byte)) (s : State) : State :=
  ((s.each l fun b u => u.each ((u.view n b).requested.map fun x => x.1) (renewCode n b)).sendFrame n frame).modPort n
    fun p => { p with recap := [] }

/-- Capped codes are sent or wait; those that are sent come with the sync that is reserved or with a new one (spec 04 R112). -/
theorem sendCaps_cases (n : Nat) (s : State) : s.sendCaps n = s
    ∨ (∃ l frame, s.sendCaps n = (s.capsSent n l frame).rechargePort n)
    ∨ ∃ l frame a x, s.sendCaps n = (s.capsSent n l frame).reserveSync n a x none := by
  unfold sendCaps
  dsimp only
  generalize (if (s.port n).asked.isSome = true then [] else (s.port n).recap) = l
  split
  · exact .inl rfl
  · split <;> split
    · exact .inr (.inl ⟨_, _, rfl⟩)
    · exact .inl rfl
    · exact .inr (.inr ⟨_, _, _, _, rfl⟩)
    · exact .inl rfl

@[simp] theorem capsSent_standing (m : Nat) (l : List Nat) (frame : List (List Byte)) (s : State) :
    (s.capsSent m l frame).standing = s.standing := by simp [capsSent]

@[simp] theorem sendCaps_standing (m : Nat) (s : State) : (s.sendCaps m).standing = s.standing := by
  rcases s.sendCaps_cases m with h | ⟨l, frame, h⟩ | ⟨l, frame, a, x, h⟩ <;> simp [h]

@[simp] theorem setCap_standing (m b temp cap : Nat) (s : State) : (s.setCap m b temp cap).standing = s.standing := by
  simp [setCap]
@[simp] theorem boardTemp_standing (m b temp : Nat) (s : State) : (s.boardTemp m b temp).standing = s.standing := by
  simp [boardTemp]

/-! ## Recharging (spec 16 R380) -/

theorem blame_streams (m : Nat) (a : Account) (s : State) : Streams n s (s.blame m a) :=
  (Streams.of_same (modWhorl_kept (.refl s)) rfl rfl).trans (.cond (fun u => event_streams _ _ _ u) _ _)

theorem noteSums_streams {e : Nat} (he : elemPort e = n) (x : Tick) (energy : Nat) (s : State) :
    Streams n s (s.noteSums e x energy) := by
  subst he
  exact .each (fun _ u => .modPort u) _ s

theorem chargeAll_streams (e : Nat) (x : Tick) (energy : Nat) (s : State) : Streams n s (s.chargeAll e x energy) :=
  .each (fun _ u => .of_same (addCharge_kept (.refl u)) rfl rfl) _ s

theorem recharge_streams {i : Nat} (hi : onPort n (s.entry i) = true) : Streams n s (s.recharge i) := by
  have hnotes := noteSums_streams (of_decide_eq_true hi) (s.entry i).planned (s.chargeOf (s.entry i) - (s.entry i).charge) s
  unfold recharge
  dsimp only
  split
  · exact .refl s
  · split
    · refine ((hnotes.trans (.each (fun a u => blame_streams _ a u) _ _)).trans (count_streams ..)).trans
        (cancel_streams (fun e he => ?_) 0x21 _)
      rw [of_decide_eq_true he]
      exact hi
    · exact (hnotes.trans (chargeAll_streams ..)).then_shot hi .modEntry

theorem rechargePort_streams (s : State) : Streams n s (s.rechargePort n) := by
  unfold rechargePort
  split
  · exact .refl s
  · refine ⟨fun hw => (Streams.each_entry (fun x u hx => recharge_streams hx) fun x hx => ?_).gone hw⟩
    obtain ⟨hmem, hpick⟩ := List.mem_filter.mp ((mem_sortBy _ _ x).mp hx)
    rw [entry_of_mem hw hmem]
    exact (Bool.and_eq_true_iff.mp (Bool.and_eq_true_iff.mp hpick).1).2

/-! ## Caps (spec 04 R112) -/

theorem reserveSync_streams (a : Nat) (x : Tick) (handle : Option Nat) (s : State) :
    Streams n s (s.reserveSync n a x handle) := (Streams.modPort s).trans (rechargePort_streams _)

theorem capsSent_streams (l : List Nat) (frame : List (List Byte)) (s : State) : Streams n s (s.capsSent n l frame) :=
  ((Streams.each (fun _ u => .each (fun _ v => .modView v) _ u) l s).trans (sendFrame_streams ..)).trans (.modPort _)

theorem sendCaps_streams (s : State) : Streams n s (s.sendCaps n) := by
  rcases s.sendCaps_cases n with h | ⟨l, frame, h⟩ | ⟨l, frame, a, x, h⟩ <;> rw [h]
  · exact .refl s
  · exact (capsSent_streams ..).trans (rechargePort_streams _)
  · exact (capsSent_streams ..).trans (reserveSync_streams ..)

/-- The view of board `b` of port `n` becomes `y` but for drive codes; no other view, no other port and not the station of this
one change. -/
structure ViewBecomes (n b : Nat) (y : BoardView) (s u : State) : Prop where
  wf : u.wf = true
  boards : Store.wf {} (u.port n).boards = true
  others : ∀ m, m ≠ n → u.port m = s.port m
  station : (u.port n).station = (s.port n).station
  known : ∀ k, (u.view n k).known = if k = b then y.known else (s.view n k).known

section
variable {b : Nat} {y z : BoardView} {u v : State}

theorem viewBecomes_modView (hw : s.wf = true) (hb : Store.wf {} (s.port n).boards = true) (b : Nat)
    (g : BoardView → BoardView) : ViewBecomes n b (g (s.view n b)) s (s.modView n b g) := by
  have hport := port_modPort_same hw n fun p => { p with boards := Store.modify {} p.boards b g }
  refine ⟨wf_modPort hw n _, ?_, fun m hm => port_modPort_other hw hm _, ?_, fun k => ?_⟩
  · rw [modView, hport]
    exact Store.wf_modify _ _ _ _ hb
  · rw [modView, hport]
    rfl
  · rw [view_modView hw hb]
    split <;> rfl

theorem ViewBecomes.streams (h : ViewBecomes n b y s u) (k : Streams n u v) : ViewBecomes n b y s v := by
  obtain ⟨hwf, hothers, hstation, hviews, -⟩ := k.gone h.wf
  obtain ⟨hboards, hknown⟩ := hviews h.boards
  exact ⟨hwf, hboards, fun m hm => (hothers m hm).trans (h.others m hm), hstation.trans h.station,
    fun k => (hknown k).trans (h.known k)⟩

/-- A further change of the same view, whose effect on what is known is `z`. -/
theorem ViewBecomes.trans (h : ViewBecomes n b y s u) (k : ViewBecomes n b z u v) : ViewBecomes n b z s v := by
  refine ⟨k.wf, k.boards, fun m hm => (k.others m hm).trans (h.others m hm), k.station.trans h.station, fun j => ?_⟩
  rw [k.known, h.known]
  split <;> rfl

theorem ViewBecomes.congr (h : ViewBecomes n b y s u) (hz : y.known = z.known) : ViewBecomes n b z s u :=
  ⟨h.wf, h.boards, h.others, h.station, fun k => by rw [h.known, hz]⟩

theorem setCap_becomes (hw : s.wf = true) (hb : Store.wf {} (s.port n).boards = true) (b temp cap : Nat) :
    ViewBecomes n b { s.view n b with cap := cap } s (s.setCap n b temp cap) := by
  unfold setCap
  split
  case isTrue h =>
    refine ⟨hw, hb, fun _ _ => rfl, rfl, fun k => ?_⟩
    rw [← h]
    split
    case isTrue hk => rw [hk]
    case isFalse => rfl
  case isFalse =>
    exact (viewBecomes_modView hw hb b fun y => { y with cap := cap }).streams
      (((portEvent_streams ..).trans (.cond (fun u => .modPort u) _ _)).trans (sendCaps_streams _))

/-- A temperature that is taken stops its board or lets it go on, and sets its cap (spec 04 R112). -/
theorem boardTemp_becomes (hw : s.wf = true) (hb : Store.wf {} (s.port n).boards = true) (b temp : Nat) :
    ViewBecomes n b { s.view n b with
      stopped := if ((s.boardDesc n b).derateStop : Int) ≤ (temp : Int) - 80 then true
        else if (temp : Int) - 80 + 10 ≤ (s.boardDesc n b).derateStop then false else (s.view n b).stopped
      cap := capAt (s.boardDesc n b) temp } s (s.boardTemp n b temp) := by
  have hstop := viewBecomes_modView hw hb b fun y => { y with
    stopped := if ((s.boardDesc n b).derateStop : Int) ≤ (temp : Int) - 80 then true
      else if (temp : Int) - 80 + 10 ≤ (s.boardDesc n b).derateStop then false else (s.view n b).stopped }
  have hcap := setCap_becomes hstop.wf hstop.boards b temp (capAt (s.boardDesc n b) temp)
  rw [view_modView hw hb, if_pos rfl] at hcap
  exact hstop.trans hcap

theorem capAt_derateStop {d : Descriptor} (h : d.derateStart < d.derateStop) : capAt d (d.derateStop + 80) = 0 := by
  have htemp : ((d.derateStop + 80 : Nat) : Int) - 80 = d.derateStop := by omega
  simp only [capAt, htemp]
  rw [if_neg (by omega), if_pos le_rfl]

/-- At its derating stop a board is stopped, and where its derating has a range its cap is 0 (spec 04 R112). -/
theorem boardTemp_at_stop (hw : s.wf = true) (hb : Store.wf {} (s.port n).boards = true) (b : Nat) :
    ((s.boardTemp n b ((s.boardDesc n b).derateStop + 80)).view n b).stopped = true
      ∧ ((s.boardDesc n b).derateStart < (s.boardDesc n b).derateStop →
        ((s.boardTemp n b ((s.boardDesc n b).derateStop + 80)).view n b).cap = 0) := by
  have hknown := (boardTemp_becomes hw hb b ((s.boardDesc n b).derateStop + 80)).known b
  rw [if_pos rfl] at hknown
  have htemp : (((s.boardDesc n b).derateStop + 80 : Nat) : Int) - 80 = (s.boardDesc n b).derateStop := by omega
  exact ⟨(congrArg BoardView.stopped hknown :).trans (if_pos htemp.ge),
    fun hrange => (congrArg BoardView.cap hknown :).trans (capAt_derateStop hrange)⟩

/-! ## Descriptors (spec 04 R110, 17 R405) -/

theorem sendComps_streams (s : State) : Streams n s (s.sendComps n) := sendFrame_streams _ s

/-- A port whose head has verified, before its accounts, its records and its gate follow. -/
def takeHead (n : Nat) (s : State) : State :=
  s.modPort n fun p => { p with
    state := .verified, enteredAt := s.now, head := (s.headDesc n).head, limits := true, windows := (s.headDesc n).windows }

theorem headVerified_streams (old : List Nat) (s : State) : Streams n (s.takeHead n) (s.headVerified n old) :=
  ((((((Streams.cond (fun u => (Streams.of_same (clearLatencies_kept (.refl u)) rfl rfl).trans (.modPort _)) _ _).trans
    (.of_same (rebucket_kept (.refl _)) rfl rfl)).trans (event_streams ..)).trans (portEvent_streams ..)).trans
      (sendComps_streams _)).trans (updateGate_streams ..))

theorem headVerified_effect (hw : s.wf = true) (hb : Store.wf {} (s.port n).boards = true) (old : List Nat) :
    (∀ m, m ≠ n → (s.headVerified n old).port m = s.port m)
      ∧ ∀ k, ((s.headVerified n old).view n k).known = (s.view n k).known := by
  obtain ⟨-, hothers, -, hviews, -⟩ := (headVerified_streams old s).gone (wf_modPort hw n _)
  have hport : (s.takeHead n).port n = _ := port_modPort_same hw n _
  have hview (k : Nat) : (s.takeHead n).view n k = s.view n k := by rw [view, hport]; rfl
  exact ⟨fun m hm => (hothers m hm).trans (port_modPort_other hw hm _),
    fun k => ((hviews (by rw [hport]; exact hb)).2 k).trans (by rw [hview])⟩

theorem headVerified_standing (old : List Nat) (s : State) : (s.headVerified n old).standing = s.standing := by
  simp [headVerified, clearLatencies, rebucket]

end

end

/-! ## The check of a descriptor (spec 04 R95, R110, 17 R405) -/

/-- The octets of board `b`'s descriptor with its signature block. -/
def wholeDescriptor (s : State) (n b : Nat) : List Byte :=
  (s.view n b).bytes.take (num (s.view n b).bytes 2 2 + sigLength)

/-- What is noted of a board whose descriptor has verified, with its signer (spec 17 R405). -/
def noteVerified (whole : List Byte) (y : BoardView) : BoardView :=
  { y with
    desc := some (descriptorOf (whole.take (num y.bytes 2 2))), verified := true
    signer := num whole (num y.bytes 2 2 + 2) 1, digest := Config.sha384 (whole.take (num y.bytes 2 2))
    signed := whole.take (num y.bytes 2 2) }

/-- The state with a verified board, and with its last temperature checked against its descriptor (spec 04 R112). -/
def takeDescriptor (n b : Nat) (s : State) : State :=
  let noted := s.modView n b (noteVerified (s.wholeDescriptor n b))
  match (s.view n b).temp with
  | some v => noted.boardTemp n b v
  | none => noted

section
variable {n b : Nat} {s : State}

/-- The body length stands in the descriptor's first four octets. -/
theorem num_wholeDescriptor (s : State) (n b : Nat) : num (s.wholeDescriptor n b) 2 2 = num (s.view n b).bytes 2 2 := by
  unfold wholeDescriptor
  unfold num
  rw [List.drop_take, List.take_take, min_eq_left]
  unfold sigLength
  omega

/-- A whole descriptor is checked in its turn: its head is rejected, or its board noted (spec 04 R95, 17 R405). -/
theorem checkDescriptor_in_turn (hs : (s.port n).state = .reading) (hc : b < (s.port n).chain)
    (hv : (s.view n b).verified = false) (h4 : 4 ≤ (s.view n b).bytes.length)
    (hlen : num (s.view n b).bytes 2 2 + sigLength ≤ (s.view n b).bytes.length)
    (hturn : (List.range b).all (fun k => (s.view n k).verified) = true) :
    s.checkDescriptor n b = match s.descriptorFault b (s.wholeDescriptor n b) (if b = 0 then none else some (s.headDesc n)) with
      | some cause => s.rejectHead n cause
      | none => if b + 1 = (s.port n).chain then (s.takeDescriptor n b).headVerified n (s.port n).windows
          else s.takeDescriptor n b := by
  unfold checkDescriptor
  dsimp only
  rw [if_neg (by simp [hs, hc, hv, h4, hlen, hturn])]
  rfl

theorem takeDescriptor_standing (n b : Nat) (s : State) : (s.takeDescriptor n b).standing = s.standing := by
  unfold takeDescriptor
  dsimp only
  split <;> simp

/-- A board that is noted keeps its descriptor when its temperature is checked against it. -/
theorem takeDescriptor_effect (hw : s.wf = true) (hb : Store.wf {} (s.port n).boards = true) :
    ∃ y, y.verified = true ∧ y.desc = some (descriptorOf ((s.wholeDescriptor n b).take (num (s.wholeDescriptor n b) 2 2)))
      ∧ ViewBecomes n b y s (s.takeDescriptor n b) := by
  have hnote := viewBecomes_modView hw hb b (noteVerified (s.wholeDescriptor n b))
  have hdesc : (noteVerified (s.wholeDescriptor n b) (s.view n b)).desc
      = some (descriptorOf ((s.wholeDescriptor n b).take (num (s.wholeDescriptor n b) 2 2))) := by
    rw [num_wholeDescriptor]
    rfl
  unfold takeDescriptor
  dsimp only
  split
  · next v _ =>
    have htemp := boardTemp_becomes hnote.wf hnote.boards b v
    rw [view_modView hw hb, if_pos rfl] at htemp
    refine ⟨_, ?_, ?_, hnote.trans htemp⟩
    · rfl
    · exact hdesc
  · exact ⟨_, rfl, hdesc, hnote⟩

theorem verified_eq_of_known {x y : BoardView} (h : x.known = y.known) : x.verified = y.verified :=
  (congrArg BoardView.verified h :)

theorem desc_eq_of_known {x y : BoardView} (h : x.known = y.known) : x.desc = y.desc := (congrArg BoardView.desc h :)

/-- A whole descriptor without a fault: its board is verified with it, and nothing else of what the ports stand in changes. -/
theorem checkDescriptor_of_good (hw : s.wf = true) (hb : Store.wf {} (s.port n).boards = true)
    (hs : (s.port n).state = .reading) (hc : b < (s.port n).chain) (hv : (s.view n b).verified = false)
    (h4 : 4 ≤ (s.view n b).bytes.length) (hlen : num (s.view n b).bytes 2 2 + sigLength ≤ (s.view n b).bytes.length)
    (hturn : (List.range b).all (fun k => (s.view n k).verified) = true)
    (hf : s.descriptorFault b (s.wholeDescriptor n b) (if b = 0 then none else some (s.headDesc n)) = none) :
    (s.checkDescriptor n b).dev = s.dev ∧ (∀ m, m ≠ n → (s.checkDescriptor n b).port m = s.port m)
      ∧ ((s.checkDescriptor n b).view n b).verified = true
      ∧ ((s.checkDescriptor n b).view n b).desc
        = some (descriptorOf ((s.wholeDescriptor n b).take (num (s.wholeDescriptor n b) 2 2))) := by
  obtain ⟨y, hver, hdesc, hwf, hboards, hothers, -, hknown⟩ := takeDescriptor_effect (b := b) hw hb
  have hdev := dev_of_standing (takeDescriptor_standing n b s)
  have hown := hknown b
  rw [if_pos rfl] at hown
  rw [checkDescriptor_in_turn hs hc hv h4 hlen hturn, hf]
  dsimp only
  split
  · obtain ⟨hothers', hknown'⟩ := headVerified_effect hwf hboards (s.port n).windows
    have hlast := (hknown' b).trans hown
    exact ⟨(dev_of_standing (headVerified_standing ..)).trans hdev, fun m hm => (hothers' m hm).trans (hothers m hm),
      (verified_eq_of_known hlast).trans hver, (desc_eq_of_known hlast).trans hdesc⟩
  · exact ⟨hdev, hothers, (verified_eq_of_known hown).trans hver, (desc_eq_of_known hown).trans hdesc⟩

end

end State

section BoardConclusion

variable {t : Tick} {n b : Nat} {s : State}

/-- BOARD_TEMPERATURE_STALE (spec 04 R112). -/
theorem exec_boardTemperatureStale_late (ht : s.now ≤ t) (hw : s.wf = true) (hc : b < (s.port n).chain)
    (hb : Store.wf {} (s.port n).boards = true) (hs : (s.port n).state.closed = true)
    (hd : (s.view n b).desc.isSome = true) (hlate : (s.view n b).tempAt + us 10000 ≤ t) :
    ∃ u, exec (.boardTemperatureStale t n b) s = .next u ∧ (u.view n b).stopped = true ∧ u.dev = s.dev
      ∧ ((s.boardDesc n b).derateStart < (s.boardDesc n b).derateStop → (u.view n b).cap = 0)
      ∧ u.whorl.inhibit = s.whorl.inhibit ∧ u.latch = s.latch := by
  have hnow : (s.advance t).now = t := max_eq_right ht
  have hstale : ¬((!((s.advance t).port n).state.closed) = true ∨ ((s.advance t).port n).chain ≤ b
      ∨ ((s.advance t).view n b).desc.isNone = true ∨ (s.advance t).now < ((s.advance t).view n b).tempAt + us 10000) := by
    rw [show ((s.advance t).port n).state.closed = true from hs, hnow]
    rintro (h | h | h | h)
    · exact absurd h (by decide)
    · exact h.not_gt hc
    · rw [← Option.not_isSome, show ((s.advance t).view n b).desc.isSome = true from hd] at h
      exact absurd h (by decide)
    · exact h.not_ge hlate
  have hstanding : ((s.advance t).boardTemp n b (((s.advance t).boardDesc n b).derateStop + 80)).standing = s.standing :=
    State.boardTemp_standing ..
  obtain ⟨hstop, hcap⟩ := State.boardTemp_at_stop (s := s.advance t) hw hb b
  exact ⟨_, congrArg Host.Outcome.next (if_neg hstale), hstop, State.dev_of_standing hstanding, hcap,
    congrArg State.Standing.inhibit hstanding, congrArg State.Standing.latch hstanding⟩

end BoardConclusion

/-- Settles O13: a board's own conditions by the change that each makes of it, what the device concludes by what becomes of the
board's view or of its port. -/
theorem boardConditionsAndViews : Obligations.BoardConditionsAndViews := by
  unfold Obligations.BoardConditionsAndViews
  refine ⟨fun t n b s _ _ ht hw hp => ?board, fun t n b s _ _ ht hw hc hb => ⟨?stale, ?descriptor⟩⟩
  case board =>
    refine ⟨fun temp hdue => exec_boardTemperatureSend_due ht hw hp temp hdue,
      fun temp hhot => exec_boardOverTemperature_hot hw hp hhot, exec_driverFault hw hp,
      exec_indicatorPatternTimeout ht hw hp, ?empty, fun c₁ c₂ hgood => ?share, exec_dataFrame_of_none hw hp,
      fun pulses hbad => exec_dataFrame_of_bad hw hp hbad⟩
    case empty =>
      obtain ⟨u, hu, hcore, hsame⟩ := exec_dataFrame_of_one (t := t) hw hp (mine := [0]) (by decide) (by decide)
      exact ⟨u, hu, congrArg Board.shareGood hcore, (congrArg Board.shares hcore :), hsame⟩
    case share =>
      obtain ⟨u, hu, hcore, hsame⟩ := exec_dataFrame_of_one (t := t) hw hp (mine := [2, 0x04, 0x00, c₁, c₂])
        (show (2 : Nat) ≤ 64 by decide) rfl
      exact ⟨u, hu, (congrArg Board.enabled hcore :).trans (State.enabled_takeShare_silent hgood _), hsame⟩
  case stale => exact fun hs hd hlate => exec_boardTemperatureStale_late ht hw hc hb hs hd hlate
  case descriptor =>
    intro hs hv h4 hlen hturn whole fault
    cases hf : fault with
    | none =>
      obtain ⟨hdev, hothers, hver, hdesc⟩ := State.checkDescriptor_of_good (s := s.advance t) hw hb hs hc hv h4 hlen hturn hf
      exact ⟨_, rfl, hdev, fun m hm => congrArg Port.state (hothers m hm), hver, hdesc⟩
    | some cause =>
      have hcheck := State.checkDescriptor_in_turn (s := s.advance t) hs hc hv h4 hlen hturn
      rw [show (s.advance t).descriptorFault b ((s.advance t).wholeDescriptor n b)
        (if b = 0 then none else some ((s.advance t).headDesc n)) = some cause from hf] at hcheck
      obtain ⟨u, hu, hstate, hdev, hothers⟩ := exec_setPort (i := .descriptorCheckDone t n b) hw
        (fun _ => State.portEvent_ports ..) (fun _ => State.portEvent_dev ..) (congrArg Host.Outcome.next hcheck)
      exact ⟨u, hu, hdev, hothers, hstate⟩

end Sys2Proof.Machine
end

section
/-! PROOFS. Commands (spec 15 R354-R360): what an accepted command's effect starts from, and that one whose handle no operation has
taken away completes with an answer. -/

namespace Sys2Proof.Machine.State

/-! ## The start of a command -/

/-- A handle is issued with an index that no live one has (spec 15 R357). -/
theorem nextIndex_spec {s : State} {i : Nat} (h : s.nextIndex = some i) :
    i < 4096 ∧ ∀ l ∈ s.dist.live, l.handle % 4096 ≠ i := by
  have hfree : s.indexFree i = true := List.find?_some h
  obtain ⟨k, -, hk⟩ := List.mem_map.mp (List.mem_of_find?_eq_some h)
  simp only [indexFree, Bool.not_eq_true', List.any_eq_false, decide_eq_true_eq] at hfree
  exact ⟨hk ▸ Nat.mod_lt _ (by decide), hfree⟩

theorem takes_nextIndex {op : Nat} {h : Hdr} {s : State} (k : s.takes op h = true) : ∃ i, s.nextIndex = some i := by
  simp only [takes, Bool.and_eq_true] at k
  exact Option.isSome_iff_exists.mp k.1.2

theorem takeIntake_live (s : State) : s.takeIntake.dist.live = s.dist.live := by
  unfold takeIntake
  split <;> rfl

theorem takeIntake_waiting (s : State) : s.takeIntake.dist.waiting = s.dist.waiting := by
  unfold takeIntake
  split <;> rfl

theorem takeIntake_generations (s : State) : s.takeIntake.dist.generations = s.dist.generations := by
  unfold takeIntake
  split <;> rfl

section
variable {op : Nat} {h : Hdr} {s : State} (t : Tick)

/-- The handle that a command is issued is the next one. -/
theorem issue_nextHandle {i : Nat} (hi : s.nextIndex = some i) :
    ((s.advance t).takeIntake.issue op h i).1 = s.nextHandle := by
  simp only [issue, nextHandle, nextGeneration, takeIntake_generations, hi, Option.getD_some]
  rfl

theorem startOf_eq_issue {i : Nat} (hi : s.nextIndex = some i) :
    s.startOf t op h = ((s.advance t).takeIntake.issue op h i).2.ackWith h .accepted s.nextHandle := by
  have hnext : (s.advance t).takeIntake.nextIndex = some i := (takeIntake_nextIndex _).trans hi
  simp only [startOf, hnext, Option.getD_some, issue_nextHandle t hi]

/-- An accepted command is its effect on its start, under the next handle (spec 15 R354, R357). -/
theorem command_startOf {check : State → Ack} {effect : Nat → State → State} (k : s.takes op h = true)
    (c : check (s.advance t).takeIntake = .accepted) :
    (s.advance t).command op h check effect = effect s.nextHandle (s.startOf t op h) := by
  obtain ⟨i, hi, hcommand⟩ := command_takes (s := s.advance t) (effect := effect) k c
  have hi' : s.nextIndex = some i := hi
  rw [hcommand, issue_nextHandle t hi', startOf_eq_issue t hi']

/-- A command starts without any change but of Dreid's own state and of the time. -/
theorem startOf_eq (op : Nat) (h : Hdr) (s : State) : ∃ d, s.startOf t op h = (s.advance t).modDist fun _ => d := by
  obtain ⟨d, hd⟩ : ∃ d, (s.advance t).takeIntake = (s.advance t).modDist fun _ => d := by
    unfold takeIntake
    split <;> exact ⟨_, rfl⟩
  simp only [startOf, hd]
  exact ⟨_, rfl⟩

@[simp] theorem startOf_ports (op : Nat) (h : Hdr) (s : State) : (s.startOf t op h).ports = s.ports := by
  obtain ⟨d, hd⟩ := startOf_eq t op h s
  rw [hd]
  rfl

theorem startOf_port (op : Nat) (h : Hdr) (s : State) (n : Nat) : (s.startOf t op h).port n = s.port n :=
  port_of_ports (startOf_ports t op h s) n

@[simp] theorem startOf_skein (op : Nat) (h : Hdr) (s : State) : (s.startOf t op h).skein = s.skein := by
  obtain ⟨d, hd⟩ := startOf_eq t op h s
  rw [hd]
  rfl

@[simp] theorem startOf_standing (op : Nat) (h : Hdr) (s : State) : (s.startOf t op h).standing = s.standing := by
  obtain ⟨d, hd⟩ := startOf_eq t op h s
  rw [hd]
  rfl

@[simp] theorem startOf_latch (op : Nat) (h : Hdr) (s : State) : (s.startOf t op h).latch = s.latch :=
  congrArg Standing.latch (startOf_standing t op h s)

theorem startOf_wf (op : Nat) (h : Hdr) (hw : s.wf = true) : (s.startOf t op h).wf = true := by
  obtain ⟨d, hd⟩ := startOf_eq t op h s
  rw [hd]
  exact hw

theorem startOf_now {t : Tick} (op : Nat) (h : Hdr) (ht : s.now ≤ t) : (s.startOf t op h).now = t := by
  obtain ⟨d, hd⟩ := startOf_eq t op h s
  rw [hd]
  exact max_eq_right ht

theorem nextHandle_mod {i : Nat} (hi : s.nextIndex = some i) : s.nextHandle % 4096 = i := by
  have hlt := (nextIndex_spec hi).1
  simp only [nextHandle, hi, Option.getD_some]
  omega

/-- The next handle is no live command's. -/
theorem liveOf_nextHandle {i : Nat} (hi : s.nextIndex = some i) : s.liveOf s.nextHandle = none := by
  refine List.find?_eq_none.mpr fun l hl => ?_
  have hne : l.handle ≠ s.nextHandle := fun e => (nextIndex_spec hi).2 l hl (e ▸ nextHandle_mod hi)
  simp [hne]

/-- A command that has started is live. -/
theorem startOf_liveOf (k : s.takes op h = true) : (s.startOf t op h).liveOf s.nextHandle
    = some ⟨s.nextHandle, h.tag, op, h.path, (s.startOf t op h).dist.arrivedAt, false, false⟩ := by
  obtain ⟨i, hi⟩ := takes_nextIndex k
  have hnone := liveOf_nextHandle hi
  have hlive : (s.startOf t op h).dist.live = s.dist.live
      ++ [⟨s.nextHandle, h.tag, op, h.path, (s.startOf t op h).dist.arrivedAt, false, false⟩] := by
    have hstart := startOf_eq_issue (op := op) (h := h) t hi
    have hissue := issue_nextHandle (op := op) (h := h) t hi
    rw [hstart]
    simp only [ackWith, issue, modDist, takeIntake_live] at hissue ⊢
    rw [hissue]
    rfl
  unfold liveOf at hnone ⊢
  rw [hlive, List.find?_append, hnone]
  simp

end

/-! ## Commands that an operation leaves under way -/

/-- The command with handle `n` is as far in `u` as in `s`, and of what waited in `s` nothing is lost. -/
structure Underway (n : Nat) (s u : State) : Prop where
  live : u.liveOf n = s.liveOf n
  waiting : s.dist.waiting <+: u.dist.waiting

section
variable {n : Nat} {s u v : State}

theorem Underway.refl (s : State) : Underway n s s := ⟨rfl, List.prefix_refl _⟩

theorem Underway.trans (h : Underway n s u) (k : Underway n u v) : Underway n s v :=
  ⟨k.live.trans h.live, h.waiting.trans k.waiting⟩

theorem Underway.of_dist (h : u.dist = s.dist) : Underway n s u :=
  ⟨by rw [liveOf, h, liveOf], h ▸ List.prefix_refl _⟩

/-- What answers another command leaves this one under way. -/
theorem completeWith_underway {m : Nat} (hm : m ≠ n) (status detail flags : Nat) (boundary : Option LineTime)
    (result : List Byte) (s : State) : Underway n s (s.completeWith m status detail flags boundary result) := by
  unfold completeWith
  split
  · exact .refl s
  · refine ⟨?_, List.prefix_append _ _⟩
    simp only [liveOf, modDist, List.find?_map]
    have hsame : ((fun l : Live => decide (l.handle = n) && !l.completed)
        ∘ fun x => if x.handle = m then { x with completed := true } else x)
        = fun l : Live => decide (l.handle = n) && !l.completed := by
      funext x
      by_cases hx : x.handle = m
      · simp [hx, hm]
      · simp [hx]
    rw [hsame]
    cases hfind : s.dist.live.find? fun l => decide (l.handle = n) && !l.completed with
    | none => rfl
    | some l =>
      have hl := List.find?_some hfind
      have hne : l.handle ≠ m := fun e => by simp [e, hm] at hl
      simp [hne]

theorem failedOpen_underway {m : Nat} (hm : m ≠ n) (s : State) : Underway n s (s.failedOpen m) :=
  have hdraw : Underway n s (s.draw 65536).2 := .of_dist rfl
  hdraw.trans (completeWith_underway hm 1 (s.draw 65536).1 0 none [] _)

/-- A command that completes is not live any more, and its answer waits on its path (spec 15 R360). -/
theorem answered_completeWith {b : State} {op : Nat} {h : Hdr}
    (hb : b.liveOf n = some ⟨n, h.tag, op, h.path, b.dist.arrivedAt, false, false⟩) (hu : Underway n b u)
    (status detail : Nat) (result : List Byte) :
    (u.completeWith n status detail 0 none result).answered b op h n status detail result := by
  have hlive := hu.live.trans hb
  unfold completeWith
  rw [hlive]
  refine ⟨hu.waiting.trans (List.prefix_append _ _), ?_, List.mem_append_right _ (List.mem_singleton.mpr rfl)⟩
  refine List.find?_eq_none.mpr fun l hl => ?_
  obtain ⟨x, -, rfl⟩ := List.mem_map.mp hl
  split
  · simp
  · next hx => simp [hx]

/-- A command that is left under way waits for its completion. -/
theorem waits_of_underway {op : Nat} {h : Hdr} {t : Tick} (k : s.takes op h = true)
    (hu : Underway s.nextHandle (s.startOf t op h) u) : u.waits (s.startOf t op h) s.nextHandle :=
  ⟨hu.waiting, by rw [hu.live, startOf_liveOf t k]; rfl⟩

/-- A command that has been left under way and completes is answered. -/
theorem answered_of_underway {op : Nat} {h : Hdr} {t : Tick} (k : s.takes op h = true)
    (hu : Underway s.nextHandle (s.startOf t op h) u) (status detail : Nat) (result : List Byte) :
    (u.completeWith s.nextHandle status detail 0 none result).answered (s.startOf t op h) op h s.nextHandle status detail
      result := answered_completeWith (startOf_liveOf t k) hu status detail result

end

end Sys2Proof.Machine.State
end

section
/-! PROOFS. PORT ENABLE, PORT DISABLE and ADMIT (spec 04 R95, R118): a port that goes to another state leaves every command but its
own under way, keeps the shots of the others and takes the gate that its new state calls for. -/

namespace Sys2Proof.Machine

/-- What commands wait for on a port, its sync, the acknowledgement owed and the settings that are sent, and its gate. -/
def Port.held (p : Port) : Option (Tick × Option Nat) × Option (Hdr × Nat × Tick × LineTime × Bool) × Option Asked × Bool :=
  (p.syncFor, p.owed, p.asked, p.gate)

/-- No command with handle `n` waits on the port. -/
def Port.Unclaimed (n : Nat) (p : Port) : Prop :=
  (∀ x, p.syncFor = some x → x.2 ≠ some n) ∧ (∀ x, p.owed = some x → x.2.1 ≠ n) ∧ ∀ q, p.asked = some q → q.handle ≠ n

theorem Port.Unclaimed.of_held {n : Nat} {p q : Port} (h : p.Unclaimed n) (hc : q.held = p.held) : q.Unclaimed n := by
  obtain ⟨hsync, hrest⟩ := Prod.mk.inj hc
  obtain ⟨howed, hrest⟩ := Prod.mk.inj hrest
  obtain ⟨hasked, -⟩ := Prod.mk.inj hrest
  unfold Port.Unclaimed
  rwa [hsync, howed, hasked]

/-- A port without its sync. -/
def Port.syncDropped (p : Port) : Port :=
  { p with syncFor := none, reserved := p.reserved.filter fun r => match r.2 with | .sync _ _ => false | _ => true }

theorem Port.Unclaimed.syncDropped {n : Nat} {p : Port} (h : p.Unclaimed n) : p.syncDropped.Unclaimed n :=
  ⟨fun x hx => absurd (show none = some x from hx) (by simp), h.2.1, h.2.2⟩

namespace State

/-! ## Commands and shots in hand -/

/-- Distaff's own state and the shots. -/
def desk (s : State) : Distaff × Store Entry := (s.dist, s.skein)

section
variable (n : Nat) (s : State)

@[simp] theorem modPort_desk (g : Port → Port) : (s.modPort n g).desk = s.desk := rfl
@[simp] theorem event_desk (src code : Nat) (payload : List (Nat × Nat)) : (s.event src code payload).desk = s.desk := by
  simp [desk]
@[simp] theorem cond_desk {f : State → State} (h : ∀ u, (f u).desk = u.desk) (b : Bool) : (s.cond b f).desk = s.desk := by
  cases b
  · rfl
  · exact h s

@[simp] theorem sendFrame_desk (shares : List (List Byte)) : (s.sendFrame n shares).desk = s.desk := by
  unfold sendFrame
  exact cond_desk _ (by exact fun _ => rfl) _

@[simp] theorem updateEmission_desk : (s.updateEmission n).desk = s.desk := by
  unfold updateEmission
  dsimp only
  split <;> simp

@[simp] theorem gateBlame_desk (cause : Nat) : (s.gateBlame cause n).desk = s.desk := by
  unfold gateBlame
  exact cond_desk _ (by exact fun _ => rfl) _

@[simp] theorem updateGate_desk (cause : Nat) : (s.updateGate cause n).desk = s.desk := by
  unfold updateGate
  dsimp only
  split <;> simp

@[simp] theorem setScanner_desk (m : Scanner) : (s.setScanner n m).desk = s.desk := by
  unfold setScanner
  dsimp only
  split
  · rfl
  · exact event_desk _ ..

@[simp] theorem updateScanner_desk : (s.updateScanner n).desk = s.desk := by
  unfold updateScanner
  split <;> split <;> simp

@[simp] theorem updateReports_desk : (s.updateReports n).desk = s.desk := by
  unfold updateReports
  dsimp only
  split <;> simp

@[simp] theorem placeKeepAlive_desk (k : Nat) (start : Tick) : (s.placeKeepAlive n k start).desk = s.desk := by
  unfold placeKeepAlive
  dsimp only
  split
  · rfl
  · split <;> rfl

@[simp] theorem startKeepAlives_desk : (s.startKeepAlives n).desk = s.desk := by simp [startKeepAlives]

@[simp] theorem unpower_desk : (s.unpower n).desk = s.desk := rfl

end

/-! ## What cancellation leaves to commands -/

/-- Commands, what they wait for on port `n`, and the gate of the port have stayed. -/
structure Quiet (n : Nat) (s u : State) : Prop where
  gone : s.wf = true → u.wf = true ∧ u.dist = s.dist ∧ (u.port n).held = (s.port n).held

section
variable {n : Nat} {s u v : State}

theorem Quiet.refl (s : State) : Quiet n s s := ⟨fun h => ⟨h, rfl, rfl⟩⟩

theorem Quiet.trans (h : Quiet n s u) (k : Quiet n u v) : Quiet n s v := by
  refine ⟨fun hw => ?_⟩
  obtain ⟨hwf, hdist, hheld⟩ := h.gone hw
  obtain ⟨hwf', hdist', hheld'⟩ := k.gone hwf
  exact ⟨hwf', hdist'.trans hdist, hheld'.trans hheld⟩

theorem Quiet.of_same (hk : Kept s u) (hd : u.dist = s.dist) (hp : u.ports = s.ports) : Quiet n s u :=
  ⟨fun hw => ⟨hk.wf hw, hd, congrArg Port.held (port_of_ports hp n)⟩⟩

theorem Quiet.each {α : Type} {f : α → State → State} (h : ∀ a u, Quiet n u (f a u)) (l : List α) (s : State) :
    Quiet n s (s.each l f) := each_rel Quiet.refl Quiet.trans h l s

theorem Quiet.cond {f : State → State} (h : ∀ u, Quiet n u (f u)) (b : Bool) (s : State) : Quiet n s (s.cond b f) := by
  cases b
  · exact .refl s
  · exact h s

theorem modPort_quiet (m : Nat) {g : Port → Port} (s : State) (hg : ∀ p, (g p).held = p.held := by exact fun _ => rfl) :
    Quiet n s (s.modPort m g) := by
  refine ⟨fun hw => ⟨wf_modPort hw m g, rfl, ?_⟩⟩
  by_cases hm : n = m
  · rw [hm, port_modPort_same hw, hg]
  · rw [port_modPort_other hw hm]

theorem modEntry_quiet (i : Nat) (g : Entry → Entry) (s : State) : Quiet n s (s.modEntry i g) :=
  ⟨fun hw => ⟨wf_modEntry hw i g, rfl, rfl⟩⟩

theorem account_dist (i : Option Nat) (e : Entry) (s : State) : (s.account i e).dist = s.dist := by
  obtain ⟨p, r, h⟩ := s.account_eq i e
  rw [h]
  rfl

theorem retire_dist (i out : Nat) (s : State) : (s.retire i out).dist = s.dist := by
  rw [retire, cond_eq]
  split
  · exact account_dist ..
  · rfl

theorem retire_quiet (i out : Nat) (s : State) : Quiet n s (s.retire i out) := by
  refine ⟨fun hw => ⟨(retire_kept (.refl s)).wf hw, retire_dist i out s, ?_⟩⟩
  have hports := (modPort_quiet (n := n) (elemPort (s.entry i).element)
    (g := fun p => { p with reserved := p.reserved.filter fun r => r.2 ≠ .fire i }) s).gone hw
  exact (congrArg Port.held (port_of_ports (s.retire_ports i out) n)).trans hports.2.2

theorem revise_quiet (i out : Nat) (s : State) : Quiet n s (s.revise i out) := by
  unfold revise
  dsimp only
  split
  · exact modEntry_quiet ..
  · exact (modEntry_quiet ..).trans (.of_same (modRecs_kept (countFlyer_kept (modFlyer_kept (.refl _)))) rfl rfl)

theorem cancel_quiet (pick : Entry → Bool) (out : Nat) (s : State) : Quiet n s (s.cancel pick out) :=
  ((Quiet.each (fun _ u => modEntry_quiet _ _ u) _ s).trans (.each (fun _ u => revise_quiet _ out u) _ _)).trans
    (.each (fun _ u => retire_quiet _ out u) _ _)

theorem count_quiet (k i x : Nat) (s : State) : Quiet n s (s.count k i x) := .of_same (count_kept (.refl s)) rfl rfl

theorem refuseEarlier_quiet (k : Nat) (x : Nat × Entry) (s : State) : Quiet n s (s.refuseEarlier k x) := by
  unfold refuseEarlier
  dsimp only
  refine ((Quiet.cond (fun u => .each (fun _ v => .cond (fun w => ?_) _ v) _ u) _ s).trans
    ((count_quiet ..).trans (count_quiet ..))).trans (modEntry_quiet ..)
  exact (Quiet.of_same (modWhorl_kept (.refl w)) rfl rfl).trans
    (.cond (fun w => .of_same (unsay_kept (.refl w)) rfl rfl) _ _)

theorem refuseNow_quiet (pick : Entry → Bool) (k : Nat) (s : State) : Quiet n s (s.refuseNow pick k) :=
  (Quiet.each (fun x u => refuseEarlier_quiet k x u) _ s).trans (.each (fun _ u =>
    (((Quiet.each (fun _ v => .of_same (uncharge_kept (.refl v)) rfl rfl) _ u).trans (count_quiet ..)).trans
      (modEntry_quiet ..)).trans (retire_quiet ..)) _ _)

theorem leaveAdmitted_quiet (m : Nat) (s : State) : Quiet n s (s.leaveAdmitted m) :=
  .cond (fun u => (refuseNow_quiet _ 1 u).trans (cancel_quiet _ 0x25 _)) _ s

/-! ## Commands that wait on the port -/

/-- BOARD SETTINGS of another handle that cannot be carried out any more leaves a command under way. -/
theorem busyAck_underway {p : Nat} (h : (s.port p).Unclaimed n) : Underway n s (s.busyAck p) := by
  obtain ⟨-, howed, hasked⟩ := h
  unfold busyAck
  split
  · exact .refl s
  · next hdr handle hx =>
    have hne : handle ≠ n := by
      cases ho : (s.port p).owed with
      | some x =>
        rw [ho] at hx
        obtain rfl : x.2.1 = handle := congrArg Prod.snd (Option.some.inj hx)
        exact howed x ho
      | none =>
        rw [ho] at hx
        cases hq : (s.port p).asked with
        | none => rw [hq] at hx; exact absurd hx (by simp)
        | some q =>
          rw [hq] at hx
          obtain rfl : q.handle = handle := congrArg Prod.snd (Option.some.inj hx)
          exact hasked q hq
    refine ⟨?_, List.prefix_append _ _⟩
    show (s.dist.live.filter fun l => l.handle ≠ handle).find? (fun l => l.handle = n && !l.completed) = _
    rw [List.find?_filter, liveOf]
    congr 1
    funext l
    by_cases hl : l.handle = n
    · simp [hl, hne.symm]
    · simp [hl]

theorem dropSync_eq (p : Nat) (s : State) : s.dropSync p = match (s.port p).syncFor.bind fun x => x.2 with
    | some h => ((s.modPort p Port.syncDropped).busyAck p).failedOpen h
    | none => (s.modPort p Port.syncDropped).busyAck p := rfl

theorem dropSync_underway (hw : s.wf = true) {p : Nat} (h : (s.port p).Unclaimed n) : Underway n s (s.dropSync p) := by
  have hdropped : ((s.modPort p Port.syncDropped).port p).Unclaimed n := by
    rw [port_modPort_same hw]
    exact h.syncDropped
  have hmod : Underway n s (s.modPort p Port.syncDropped) := .of_dist rfl
  have hbusy := hmod.trans (busyAck_underway hdropped)
  rw [dropSync_eq]
  split
  · next m hm =>
    obtain ⟨x, hx, hxm⟩ := Option.bind_eq_some_iff.mp hm
    exact hbusy.trans (failedOpen_underway (fun e => h.1 x hx (hxm.trans (congrArg some e))) _)
  · exact hbusy

theorem busyAck_skein (p : Nat) (s : State) : (s.busyAck p).skein = s.skein := by
  unfold busyAck
  split
  · rfl
  · exact ackWith_skein ..

theorem dropSync_skein (p : Nat) (s : State) : (s.dropSync p).skein = s.skein := by
  unfold dropSync
  dsimp only
  split
  · exact (failedOpen_skein ..).trans (busyAck_skein ..)
  · exact busyAck_skein ..

theorem skein_of_desk (h : u.desk = s.desk) : u.skein = s.skein := congrArg Prod.snd h

theorem underway_of_desk (h : u.desk = s.desk) : Underway n s u := .of_dist (congrArg Prod.fst h)

/-! ## Going to a state -/

theorem movePort_skein (p : Nat) (st : PortState) (s : State) : (s.movePort p st).skein = (s.leaveAdmitted p).skein := by
  unfold movePort
  split
  · split
    · rfl
    · exact skein_of_desk (startKeepAlives_desk p _)
  · exact (skein_of_desk (cond_desk _ (fun u => unpower_desk p u) _)).trans (dropSync_skein ..)

/-- Only its leaving ADMITTED touches the shots of a port that goes to another state (spec 04 R116). -/
theorem setPort_skein (p : Nat) (st : PortState) (cause : Nat) (s : State) :
    (s.setPort p st cause).skein = (s.leaveAdmitted p).skein := by
  rw [setPort_eq]
  exact (skein_of_desk (by simp)).trans (movePort_skein p st s)

theorem leaveAdmitted_of_not_admitted {p : Nat} (h : (s.port p).state ≠ .admitted) : s.leaveAdmitted p = s := by
  simp [leaveAdmitted, cond_eq, h]

theorem movePort_underway (hw : s.wf = true) {p : Nat} (h : (s.port p).Unclaimed n) (st : PortState) :
    Underway n s (s.movePort p st) := by
  obtain ⟨hwf, hdist, hheld⟩ := (leaveAdmitted_quiet (n := p) p s).gone hw
  have htake : Underway n s (s.takeState p st) := .of_dist hdist
  have hunclaimed : ((s.takeState p st).port p).Unclaimed n :=
    h.of_held (by rw [takeState, port_modPort_same hwf]; exact hheld)
  unfold movePort
  split
  · split
    · exact htake
    · exact htake.trans (underway_of_desk (startKeepAlives_desk p _))
  · exact (htake.trans (dropSync_underway (wf_modPort hwf p _) hunclaimed)).trans
      (underway_of_desk (cond_desk _ (fun u => unpower_desk p u) _))

/-- A port that goes to another state leaves a command under way that does not wait on it. -/
theorem setPort_underway (hw : s.wf = true) {p : Nat} (h : (s.port p).Unclaimed n) (st : PortState) (cause : Nat) :
    Underway n s (s.setPort p st cause) := by
  rw [setPort_eq]
  exact (movePort_underway hw h st).trans (underway_of_desk (by simp))

end

end State
end Sys2Proof.Machine
end

section
/-! PROOFS. PORT ENABLE, PORT DISABLE and ADMIT (spec 04 R95, R118, 16 R372): the gate that a port's state calls for, the shots that
leaving ADMITTED takes, and the commands. -/

namespace Sys2Proof

/-- What does not read as the default stands in the store. -/
theorem Store.mem_of_read {α : Type} [DecidableEq α] {d : α} {m : Store α} {k : Nat} (h : Store.read d m k ≠ d) :
    (k, Store.read d m k) ∈ m := by
  induction m with
  | nil => exact absurd rfl h
  | cons p r ih =>
    rw [Store.read] at h ⊢
    split
    case isTrue e => exact e ▸ List.mem_cons_self
    case isFalse e =>
      rw [if_neg e] at h
      exact List.mem_cons_of_mem _ (ih h)

namespace Machine.State

/-! ## The gate -/

section
variable {n : Nat} {s : State}

theorem event_quiet (src code : Nat) (payload : List (Nat × Nat)) (s : State) : Quiet n s (s.event src code payload) :=
  .of_same (event_kept (.refl s)) (event_dist ..) (event_ports ..)

theorem sendFrame_quiet (m : Nat) (shares : List (List Byte)) (s : State) : Quiet n s (s.sendFrame m shares) :=
  .cond (fun u => modPort_quiet m u) _ s

theorem updateEmission_quiet (m : Nat) (s : State) : Quiet n s (s.updateEmission m) := by
  unfold updateEmission
  dsimp only
  split
  · exact .refl s
  · exact (sendFrame_quiet ..).trans (modPort_quiet m _)

theorem gateBlame_quiet (cause m : Nat) (s : State) : Quiet n s (s.gateBlame cause m) :=
  .cond (fun u => (modPort_quiet m (g := fun p => { p with gateCause := cause }) u).trans
    (.of_same (amend_kept (.refl _)) rfl rfl)) _ s

theorem updateScanner_quiet (m : Nat) (s : State) : Quiet n s (s.updateScanner m) := by
  have hset (x : Scanner) : Quiet n s (s.setScanner m x) := by
    refine .of_same (setScanner_kept (.refl s)) (congrArg Prod.fst (setScanner_desk m s x)) ?_
    unfold setScanner
    dsimp only
    split
    · rfl
    · exact event_ports ..
  unfold updateScanner
  split <;> split
  · exact hset _
  · exact .refl s
  · exact .refl s
  · exact hset _

theorem updateReports_quiet (m : Nat) (s : State) : Quiet n s (s.updateReports m) := by
  unfold updateReports
  dsimp only
  split
  · exact .refl s
  · exact (sendFrame_quiet ..).trans (modPort_quiet m _)

theorem Quiet.gate {u : State} (h : Quiet n s u) (hw : s.wf = true) : (u.port n).gate = (s.port n).gate :=
  congrArg (fun x => x.2.2.2) (h.gone hw).2.2

/-- The gate of a port is what its state, its limits and the inhibit causes say (spec 16 R372). -/
theorem gate_updateGate (hw : s.wf = true) (cause n : Nat) : ((s.updateGate cause n).port n).gate = s.gateOpen n := by
  unfold updateGate
  dsimp only
  split
  · next heq =>
    have hblame := gateBlame_quiet (n := n) cause n s
    rw [((hblame.trans (updateEmission_quiet n _))).gate hw, ← heq]
  · have hevent := (event_quiet (n := n) Src.whorl 0x44 [(1, n), (1, (s.gateOpen n).toNat), (1, cause)]
      (s.modPort n fun p => { p with
        gate := s.gateOpen n, gateCause := cause, gateAt := if s.gateOpen n then none else some s.now })).trans
      (updateEmission_quiet n _)
    rw [hevent.gate (wf_modPort hw n _), port_modPort_same hw]

theorem inhibited_of_standing {u : State} (h : u.standing = s.standing) : u.inhibited = s.inhibited :=
  congrArg (fun x : Standing => decide (x.inhibit ≠ 0) || x.latch.set) h

theorem movePort_standing (n : Nat) (st : PortState) (s : State) : (s.movePort n st).standing = s.standing := by
  simp [movePort, takeState]

/-- Only an ADMITTED port has its gate open (spec 16 R372). -/
theorem gate_setPort (hw : s.wf = true) (n : Nat) (st : PortState) (cause : Nat) :
    ((s.setPort n st cause).port n).gate = (decide (st = .admitted) && (st.sends && (s.port n).limits) && !s.inhibited) := by
  obtain ⟨hwf, -, hstate, -, -, hlimits⟩ := movePort_moves hw n st
  have hafter : Quiet n ((s.movePort n st).updateGate cause n) (s.setPort n st cause) :=
    (updateScanner_quiet n _).trans (updateReports_quiet n _)
  rw [hafter.gate ((updateGate_kept (.refl _)).wf hwf), gate_updateGate hwf, gateOpen, hstate, hlimits,
    inhibited_of_standing (movePort_standing n st s)]

/-! ## Shots that wait -/

/-- Where a cancellation reaches its last shots, no entry that it names waits any more. -/
theorem retires_waiting {l : List (Nat × Entry)} {out : Nat} {x : Nat × Entry} (hw : s.wf = true)
    (hl : ∀ y ∈ l, onPort n (s.entry y.1) = true) (hx : x ∈ l) :
    ((s.each l fun x u => u.retire x.1 out).entry x.1).waiting = false := by
  induction l generalizing s with
  | nil => simp at hx
  | cons y l ih =>
    obtain ⟨hy, hl⟩ := List.forall_mem_cons.mp hl
    obtain ⟨hwf, -, -, -, hshots⟩ := (retire_streams (out := out) hy).gone hw
    have hrest : ∀ z ∈ l, onPort n ((s.retire y.1 out).entry z.1) = true := fun z hz => (hshots z.1).onPort.trans (hl z hz)
    rcases List.mem_cons.mp hx with rfl | hx
    · have hgone := ((Streams.each_entry (fun x u hx => retire_streams (out := out) hx) hrest).gone hwf).shots x.1
      by_contra hwaits
      have := hgone.waiting (Bool.of_not_eq_false hwaits)
      rw [entry_retire_same hw] at this
      exact Bool.false_ne_true this
    · exact ih hwf hrest hx

/-- No shot of a port waits after its cancellation (spec 04 R116). -/
theorem cancel_leaves_none (hw : s.wf = true) (out i : Nat) (hi : onPort n (s.entry i) = true) :
    ((s.cancel (onPort n) out).entry i).waiting = false := by
  have hmarked := (markCancelled_streams (n := n) (fun _ h => h) out s).gone hw
  have hl : ∀ y ∈ s.cancellable (onPort n), onPort n ((s.markCancelled (onPort n) out).entry y.1) = true :=
    fun y hy => (hmarked.shots y.1).onPort.trans (onPort_of_mem (fun _ h => h) hw hy)
  by_contra hwaits
  have hwaits := Bool.of_not_eq_false hwaits
  rw [cancel_eq] at hwaits
  have hretired := (Streams.each_entry (fun x u hx => retire_streams (out := out) hx) hl).gone hmarked.wf
  have hwaiting : (s.entry i).waiting = true := (hmarked.shots i).waiting ((hretired.shots i).waiting hwaits)
  have hmem : (i, s.entry i) ∈ s.skein := Store.mem_of_read fun e => by
    rw [entry, e] at hwaiting
    exact Bool.false_ne_true hwaiting
  have hhit : (i, s.entry i) ∈ s.cancellable (onPort n) :=
    List.mem_filter.mpr ⟨hmem, Bool.and_eq_true_iff.mpr ⟨hwaiting, hi⟩⟩
  rw [retires_waiting hmarked.wf hl hhit] at hwaits
  exact Bool.false_ne_true hwaits

/-- No shot of a port that has left ADMITTED waits (spec 04 R116). -/
theorem leaveAdmitted_leaves_none (hw : s.wf = true) (ha : (s.port n).state = .admitted) (i : Nat)
    (hi : ((s.leaveAdmitted n).entry i).waiting = true) : elemPort ((s.leaveAdmitted n).entry i).element ≠ n := by
  intro hn
  have hrefused := (refuseNow_streams (n := n) 1 s).gone hw
  have hleft : s.leaveAdmitted n = (s.refuseNow (onPort n) 1).cancel (onPort n) 0x25 := by
    simp [leaveAdmitted, cond_eq, ha]
  rw [hleft] at hi hn
  have hcancelled := (cancel_streams (n := n) (fun _ h => h) 0x25 (s.refuseNow (onPort n) 1)).gone hrefused.wf
  have hon : onPort n ((s.refuseNow (onPort n) 1).entry i) = true :=
    (hcancelled.shots i).onPort.symm.trans (decide_eq_true hn)
  rw [cancel_leaves_none hrefused.wf 0x25 i hon] at hi
  exact Bool.false_ne_true hi

/-- A shot that waits after its port has left ADMITTED is as it was. -/
theorem entry_leaveAdmitted (hw : s.wf = true) (i : Nat) (hi : ((s.leaveAdmitted n).entry i).waiting = true) :
    (s.leaveAdmitted n).entry i = s.entry i := by
  by_cases ha : (s.port n).state = .admitted
  · rcases ((leaveAdmitted_streams n s).gone hw).shots i with h | ⟨hon, helement, -⟩
    · exact h
    · exact absurd (helement ▸ of_decide_eq_true hon) (leaveAdmitted_leaves_none hw ha i hi)
  · rw [leaveAdmitted_of_not_admitted ha]

end

/-! ## The commands -/

section
variable {t : Tick} {h : Hdr} {p : Nat} {s : State}

theorem succeed_port (handle : Nat) (result : List Byte) (s : State) (k : Nat) :
    (s.succeed handle result).port k = s.port k := port_of_ports (succeed_ports handle result s) k

/-- A port that goes on sending leaves every command as it is. -/
theorem setPort_desk_of_sends {st : PortState} (hs : (s.port p).state.sends = true) (ha : (s.port p).state ≠ .admitted)
    (hst : st.sends = true) (cause : Nat) : (s.setPort p st cause).desk = s.desk := by
  have htake : (s.takeState p st).desk = s.desk := by rw [takeState, leaveAdmitted_of_not_admitted ha]; rfl
  simp [setPort_eq, movePort, hst, hs, htake]

/-- A command's port goes to another state at the instant of the command. -/
theorem setPort_startOf (op : Nat) (h : Hdr) (hw : s.wf = true) (st : PortState) (cause : Nat) :
    PortMoved p st (s.advance t) ((s.startOf t op h).setPort p st cause) := by
  have hmoved := setPort_moves (startOf_wf t op h hw) p st cause
  obtain ⟨d, hd⟩ := startOf_eq t op h s
  rw [hd] at hmoved ⊢
  obtain ⟨hwf, hothers, hstate, hentered, hhead, hlimits⟩ := hmoved
  exact ⟨hwf, hothers, hstate, hentered, hhead, hlimits⟩

theorem leaveAdmitted_startOf (op : Nat) (h : Hdr) (ha : (s.port p).state ≠ .admitted) :
    ((s.startOf t op h).leaveAdmitted p).skein = s.skein := by
  rw [leaveAdmitted_of_not_admitted (by rwa [startOf_port]), startOf_skein]

theorem exec_portEnable_eq (hk : s.takes 0x0401 h = true) (hp : p < 8) : exec (.portEnable t h p) s = .next
    (if (s.startOf t 0x0401 h).latch.set then (s.startOf t 0x0401 h).failedOpen s.nextHandle
    else (if ((s.startOf t 0x0401 h).port p).state = .off ∨ ((s.startOf t 0x0401 h).port p).state = .tripped then
      (s.startOf t 0x0401 h).setPort p .probing 0 else s.startOf t 0x0401 h).succeed s.nextHandle []) :=
  congrArg Host.Outcome.next (command_startOf t hk (if_neg (by omega)))

/-- PORT ENABLE fails while the latch is set (spec 16 R389). -/
theorem exec_portEnable_latched (hk : s.takes 0x0401 h = true) (hp : p < 8) (hl : s.latch.set = true) :
    ∃ u d, exec (.portEnable t h p) s = .next u ∧ u.answered (s.startOf t 0x0401 h) 0x0401 h s.nextHandle 1 d []
      ∧ u = { s with clock := u.clock, dist := u.dist } := by
  have hexec := exec_portEnable_eq (t := t) hk hp
  rw [if_pos (by rw [startOf_latch, hl])] at hexec
  have hunder : Underway s.nextHandle (s.startOf t 0x0401 h) ((s.startOf t 0x0401 h).draw 65536).2 := .of_dist rfl
  refine ⟨_, _, hexec, answered_of_underway hk hunder 1 _ [], ?_⟩
  obtain ⟨d, hd⟩ := startOf_eq t 0x0401 h s
  obtain ⟨d', -, hd'⟩ := completeWith_keeps_staged s.nextHandle 1 ((s.startOf t 0x0401 h).draw 65536).1 0 none []
    ((s.startOf t 0x0401 h).draw 65536).2
  have hfailed : (s.startOf t 0x0401 h).failedOpen s.nextHandle
      = ((s.startOf t 0x0401 h).draw 65536).2.modDist fun _ => d' := hd'
  rw [hfailed, hd]
  rfl

/-- PORT ENABLE takes a port that is off or tripped to PROBING (spec 04 R95). -/
theorem exec_portEnable_clear (ht : s.now ≤ t) (hw : s.wf = true) (hk : s.takes 0x0401 h = true) (hp : p < 8)
    (hl : s.latch.set = false) (hu : (s.port p).Unclaimed s.nextHandle) :
    ∃ u, exec (.portEnable t h p) s = .next u ∧ u.answered (s.startOf t 0x0401 h) 0x0401 h s.nextHandle 0 0 []
      ∧ ((s.port p).state = .off ∨ (s.port p).state = .tripped → (u.port p).state = .probing ∧ (u.port p).enteredAt = t)
      ∧ ((s.port p).state ≠ .off → (s.port p).state ≠ .tripped → u.port p = s.port p)
      ∧ (∀ k, k ≠ p → u.port k = s.port k) ∧ u.dev = s.dev ∧ u.skein = s.skein ∧ u.latch = s.latch := by
  have hexec := exec_portEnable_eq (t := t) hk hp
  rw [if_neg (by rw [startOf_latch, hl]; decide), startOf_port] at hexec
  by_cases hoff : (s.port p).state = .off ∨ (s.port p).state = .tripped
  · rw [if_pos hoff] at hexec
    obtain ⟨-, hothers, hstate, hentered, -, -⟩ := setPort_startOf (t := t) (p := p) 0x0401 h hw .probing 0
    have hunder := setPort_underway (startOf_wf t 0x0401 h hw) (by rwa [startOf_port]) .probing 0
    have hstanding : ((s.startOf t 0x0401 h).setPort p .probing 0).standing = s.standing := by simp
    have hleft : (s.port p).state ≠ .admitted := by rcases hoff with e | e <;> rw [e] <;> decide
    exact ⟨_, hexec, answered_of_underway hk hunder 0 0 [],
      fun _ => ⟨by rw [succeed_port, hstate], by rw [succeed_port, hentered]; exact max_eq_right ht⟩,
      fun ho htr => absurd hoff (not_or.mpr ⟨ho, htr⟩), fun k hne => by rw [succeed_port, hothers k hne]; rfl,
      (succeed_dev ..).trans (dev_of_standing hstanding),
      by rw [succeed_skein, setPort_skein, leaveAdmitted_startOf 0x0401 h hleft],
      (succeed_latch ..).trans (congrArg Standing.latch hstanding)⟩
  · rw [if_neg hoff] at hexec
    exact ⟨_, hexec, answered_of_underway hk (.refl _) 0 0 [], fun ho => absurd ho hoff,
      fun _ _ => by rw [succeed_port, startOf_port], fun k _ => by rw [succeed_port, startOf_port],
      (succeed_dev ..).trans (dev_of_standing (startOf_standing t 0x0401 h s)), by rw [succeed_skein, startOf_skein],
      by rw [succeed_latch, startOf_latch]⟩

/-- PORT DISABLE takes a port to OFF and the shots of one that leaves ADMITTED with it (spec 04 R95, R116). -/
theorem exec_portDisable (hw : s.wf = true) (hk : s.takes 0x0402 h = true) (hp : p < 8)
    (hu : (s.port p).Unclaimed s.nextHandle) :
    ∃ u, exec (.portDisable t h p) s = .next u ∧ u.answered (s.startOf t 0x0402 h) 0x0402 h s.nextHandle 0 0 []
      ∧ (u.port p).state = .off ∧ (u.port p).gate = false ∧ (∀ k, k ≠ p → u.port k = s.port k)
      ∧ (∀ i, (u.entry i).waiting = true → u.entry i = s.entry i) ∧ u.dev = s.dev ∧ u.latch = s.latch
      ∧ ((s.port p).state = .admitted → ∀ i, (u.entry i).waiting = true → elemPort (u.entry i).element ≠ p) := by
  have hexec : exec (.portDisable t h p) s = .next (((s.startOf t 0x0402 h).setPort p .off 5).succeed s.nextHandle []) :=
    congrArg Host.Outcome.next (command_startOf t hk (if_neg (by omega)))
  have hbwf := startOf_wf t 0x0402 h hw
  obtain ⟨-, hothers, hstate, -, -, -⟩ := setPort_startOf (t := t) (p := p) 0x0402 h hw .off 5
  have hunder := setPort_underway hbwf (by rwa [startOf_port]) .off 5
  have hstanding : ((s.startOf t 0x0402 h).setPort p .off 5).standing = s.standing := by simp
  have hskein := (succeed_skein s.nextHandle [] _).trans (setPort_skein p .off 5 (s.startOf t 0x0402 h))
  have hentry (i : Nat) := entry_of_skein hskein i
  have hbentry (i : Nat) := entry_of_skein (startOf_skein t 0x0402 h s) i
  refine ⟨_, hexec, answered_of_underway hk hunder 0 0 [], by rw [succeed_port, hstate],
    by rw [succeed_port, gate_setPort hbwf]; rfl, fun k hne => by rw [succeed_port, hothers k hne]; rfl, fun i hi => ?_,
    (succeed_dev ..).trans (dev_of_standing hstanding), (succeed_latch ..).trans (congrArg Standing.latch hstanding),
    fun ha i hi => ?_⟩
  · rw [hentry] at hi ⊢
    rw [entry_leaveAdmitted hbwf i hi, hbentry]
  · rw [hentry] at hi ⊢
    exact leaveAdmitted_leaves_none hbwf (by rwa [startOf_port]) i hi

/-- ADMIT takes a port whose head has verified to ADMITTED, where its gate follows its limits and the inhibit causes (spec 04
R118, 16 R372). -/
theorem exec_admitHead (hw : s.wf = true) (hk : s.takes 0x0403 h = true) (hp : p < 8)
    (hv : (s.port p).state = .verified) :
    ∃ u, exec (.admitHead t h p (s.port p).head) s = .next u
      ∧ u.answered (s.startOf t 0x0403 h) 0x0403 h s.nextHandle 0 0 []
      ∧ (u.port p).state = .admitted ∧ (u.port p).head = (s.port p).head
      ∧ (u.port p).gate = ((s.port p).limits && !s.inhibited) ∧ (∀ k, k ≠ p → u.port k = s.port k) ∧ u.dev = s.dev
      ∧ u.skein = s.skein ∧ u.latch = s.latch := by
  have hcheck : ¬(8 ≤ p ∨ ((s.advance t).takeIntake.port p).state ≠ .verified) := by
    rw [port_of_ports ((takeIntake_ports (s.advance t)))]
    simp [show ((s.advance t).port p).state = .verified from hv, hp]
  have hhead : ¬((s.advance t).takeIntake.port p).head ≠ (s.port p).head := by
    rw [port_of_ports ((takeIntake_ports (s.advance t)))]
    exact not_not.mpr rfl
  have hexec : exec (.admitHead t h p (s.port p).head) s = .next ((((s.startOf t 0x0403 h).setPort p .admitted 0).portEvent p
      0x33 [(1, p), (8, (s.port p).head.toNat)]).succeed s.nextHandle []) :=
    congrArg Host.Outcome.next (command_startOf t hk ((if_neg hcheck).trans (if_neg hhead)))
  have hbwf := startOf_wf t 0x0403 h hw
  obtain ⟨-, hothers, hstate, -, hkeeps, -⟩ := setPort_startOf (t := t) (p := p) 0x0403 h hw .admitted 0
  have hdesk : ((s.startOf t 0x0403 h).setPort p .admitted 0).desk = (s.startOf t 0x0403 h).desk :=
    setPort_desk_of_sends (by rw [startOf_port, hv]; decide) (by rw [startOf_port, hv]; decide) rfl 0
  have hevent := portEvent_ports p 0x33 [(1, p), (8, (s.port p).head.toNat)] ((s.startOf t 0x0403 h).setPort p .admitted 0)
  have hport (k : Nat) := (succeed_port s.nextHandle [] _ k).trans (port_of_ports hevent k)
  have hunder : Underway s.nextHandle (s.startOf t 0x0403 h) _ := (underway_of_desk hdesk).trans
    (.of_dist (portEvent_dist p 0x33 [(1, p), (8, (s.port p).head.toNat)] _))
  have hstanding : (((s.startOf t 0x0403 h).setPort p .admitted 0).portEvent p 0x33
    [(1, p), (8, (s.port p).head.toNat)]).standing = s.standing := by simp
  refine ⟨_, hexec, answered_of_underway hk hunder 0 0 [], by rw [hport, hstate], by rw [hport, hkeeps]; rfl, ?_,
    fun k hne => by rw [hport, hothers k hne]; rfl, (succeed_dev ..).trans (dev_of_standing hstanding), ?_,
    (succeed_latch ..).trans (congrArg Standing.latch hstanding)⟩
  · rw [hport, gate_setPort hbwf, startOf_port, inhibited_of_standing (startOf_standing t 0x0403 h s)]
    rfl
  · rw [succeed_skein, portEvent_skein, skein_of_desk hdesk, startOf_skein]

end

end Machine.State
end Sys2Proof
end

section
/-! PROOFS. BOARD SETTINGS as it is accepted (spec 04 R103-R105): its frames are sent, and its acknowledgement waits. -/

namespace Sys2Proof.Machine

/-- A port but for the data frames that go out on it. -/
def Port.framesLeft (p : Port) : Port := { p with frames := [], dataFrom := 0, data := [] }

namespace State

/-! ## A command that is acknowledged later -/

/-- The verdict on a command that the front end takes and whose own checks are met (spec 15 Table 15-3). -/
theorem verdict_of_takes {op : Nat} {h : Hdr} {check : State → Ack} {s : State} (k : s.takes op h = true)
    (c : check s.takeIntake = .accepted) : s.takeIntake.verdict op h check = .accepted := by
  obtain ⟨i, hi⟩ := takes_nextIndex k
  simp only [takes, Bool.and_eq_true, decide_eq_true_eq] at k
  obtain ⟨⟨⟨⟨⟨-, hknown⟩, hdev⟩, hgood⟩, -⟩, hrow⟩ := k
  obtain ⟨r, hr⟩ : ∃ r, opRow op = some r := Option.isSome_iff_exists.mp (Bool.and_eq_true_iff.mp hknown).1
  simp only [hr, Option.map_some, Option.getD_some, Bool.and_eq_true, Bool.or_eq_true, decide_eq_true_eq] at hrow
  obtain ⟨hup, hstate⟩ := hrow
  have hdown : ¬(!s.dist.up && !r.down) = true := by
    rcases hup with hup | hup <;> simp [hup]
  simp only [verdict, takeIntake_dev, if_neg hdev, hr, hknown, Option.filter_some, if_true, hgood, Bool.not_true,
    Bool.false_eq_true, if_false, takeIntake_up, if_neg hdown, hstate, not_true_eq_false, c, takeIntake_nextIndex, hi,
    Option.isNone_some]

/-- The state in which an accepted command has its handle and no acknowledgement yet. -/
def issuedOf (t : Tick) (op : Nat) (h : Hdr) (s : State) : State :=
  ((s.advance t).takeIntake.issue op h ((s.advance t).takeIntake.nextIndex.getD 0)).2

section
variable {op : Nat} {h : Hdr} {s : State} (t : Tick)

/-- An accepted command that is acknowledged later is its effect where its handle has been issued. -/
theorem commandLater_issuedOf {check : State → Ack} {effect : Nat → State → State} (k : s.takes op h = true)
    (c : check (s.advance t).takeIntake = .accepted) :
    (s.advance t).commandLater op h check effect = effect s.nextHandle (s.issuedOf t op h) := by
  obtain ⟨i, hi⟩ := takes_nextIndex k
  have hnext : (s.advance t).takeIntake.nextIndex = some i := (takeIntake_nextIndex _).trans hi
  have hverdict := verdict_of_takes (s := s.advance t) k c
  have hissue := issue_nextHandle (op := op) (h := h) t hi
  simp only [takes, Bool.and_eq_true, decide_eq_true_eq] at k
  obtain ⟨⟨⟨⟨⟨hturn, hknown⟩, -⟩, -⟩, -⟩, -⟩ := k
  have hturn' : (s.advance t).itsTurn op h = true := hturn
  rw [commandLater, answerFronts_of_itsTurn hturn' hknown]
  simp only [hturn', Bool.not_true, Bool.false_eq_true, if_false, hverdict, hnext, issuedOf, Option.getD_some, hissue]

theorem takeIntake_eq (s : State) : s.takeIntake = s.modDist fun _ => s.takeIntake.dist := by
  unfold takeIntake
  split <;> rfl

theorem issuedOf_eq (op : Nat) (h : Hdr) (s : State) :
    s.issuedOf t op h = (s.advance t).modDist fun _ => (s.issuedOf t op h).dist := by
  unfold issuedOf
  rw [takeIntake_eq]
  rfl

/-- Settings are kept over a command's start. -/
theorem issuedOf_params (op : Nat) (h : Hdr) (s : State) : (s.issuedOf t op h).dist.params = s.dist.params := by
  unfold issuedOf takeIntake
  split <;> rfl

theorem takeIntake_params (s : State) : s.takeIntake.dist.params = s.dist.params := by
  unfold takeIntake
  split <;> rfl

theorem issuedOf_waiting (op : Nat) (h : Hdr) (s : State) : (s.issuedOf t op h).dist.waiting = s.dist.waiting :=
  takeIntake_waiting (s.advance t)

/-- A command whose handle has been issued is live. -/
theorem issuedOf_liveOf (k : s.takes op h = true) : ((s.issuedOf t op h).liveOf s.nextHandle).isSome = true := by
  have hlive := startOf_liveOf t k
  exact congrArg Option.isSome (show (s.issuedOf t op h).liveOf s.nextHandle = _ from hlive)

end

/-! ## What settings are sent -/

section
variable {s : State} {d : Distaff} (hd : d.params = s.dist.params)
include hd

theorem popt_modDist (id target : Nat) : (s.modDist fun _ => d).popt id target = s.popt id target := by
  show PVal.opt ((Store.read none d.params _).getD _) = _
  rw [hd]
  rfl

theorem lineDiv_modDist : (s.modDist fun _ => d).lineDiv = s.lineDiv := by
  rw [lineDiv, popt_modDist hd]
  rfl

theorem sentCode_modDist : (s.modDist fun _ => d).sentCode = s.sentCode := by
  funext e requested
  rw [sentCode, popt_modDist hd]
  rfl

theorem sentMsg_modDist : (s.modDist fun _ => d).sentMsg = s.sentMsg := by
  funext n b m
  cases m with
  | driveCode e c => rw [sentMsg, sentCode_modDist hd]; rfl
  | _ => rfl

/-- The messages of BOARD SETTINGS depend, of Distaff, on its parameters alone (spec 04 R111). -/
theorem msgFrames_modDist : (s.modDist fun _ => d).msgFrames = s.msgFrames := by
  funext n msgs
  rw [msgFrames, sentMsg_modDist hd]
  rfl

theorem boundaryAfter_modDist : (s.modDist fun _ => d).boundaryAfter = s.boundaryAfter := by
  funext k
  rw [boundaryAfter, lineDiv_modDist hd]
  rfl

theorem chooseSync_modDist : (s.modDist fun _ => d).chooseSync = s.chooseSync := by
  funext n limit start
  rw [chooseSync, boundaryAfter_modDist hd, linePeriod, lineDiv_modDist hd]
  rfl

/-- So do its checks. -/
theorem settingsCheck_modDist (n : Nat) (msgs : List (Nat × BoardMsg)) :
    (s.modDist fun _ => d).settingsCheck n msgs = s.settingsCheck n msgs := by
  rw [settingsCheck, chooseSync_modDist hd, settingsSent, msgFrames_modDist hd]
  rfl

end

/-! ## The frames -/

/-- The frames `l` have been sent on port `n`, from `s` to `u`: nothing but its stream of data frames has changed, and while the
latch is clear they stand at its end. -/
structure FramesSent (n : Nat) (l : List (List (List Byte))) (s u : State) : Prop where
  same : u = s.modPorts fun _ => u.ports
  wf : u.wf = true
  others : ∀ m, m ≠ n → u.port m = s.port m
  own : (u.port n).framesLeft = (s.port n).framesLeft
  frames : s.latch.set = false → (s.port n).state.sends = true → (∀ f ∈ l, f.length ≠ 0) →
    (u.port n).frames = (s.port n).frames ++ l.map headFrame

section
variable {n : Nat} {s : State}

theorem only_ports {u v : State} (h : u = s.modPorts fun _ => u.ports) (k : v = u.modPorts fun _ => v.ports) :
    v = s.modPorts fun _ => v.ports := by
  rw [h] at k
  exact k

theorem sendFrame_sent (hw : s.wf = true) (f : List (List Byte)) : FramesSent n [f] s (s.sendFrame n f) := by
  unfold sendFrame
  rw [cond_eq]
  split
  case isTrue =>
    dsimp only
    have hport := fun g => port_modPort_same hw n g
    refine ⟨rfl, wf_modPort hw n _, fun m hm => port_modPort_other hw hm _, ?_, fun _ _ _ => ?_⟩ <;> rw [hport]
    · rfl
    · rfl
  case isFalse hno =>
    refine ⟨rfl, hw, fun _ _ => rfl, rfl, fun hl hs hf => absurd ?_ hno⟩
    simp [hl, hs, hf f (List.mem_singleton.mpr rfl)]

theorem sendFrames_sent (hw : s.wf = true) (l : List (List (List Byte))) :
    FramesSent n l s (s.each l fun f u => u.sendFrame n f) := by
  induction l generalizing s with
  | nil => exact ⟨rfl, hw, fun _ _ => rfl, rfl, fun _ _ _ => (List.append_nil _).symm⟩
  | cons f l ih =>
    obtain ⟨hsame, hwf, hothers, hown, hframes⟩ := sendFrame_sent (n := n) hw f
    obtain ⟨hsame', hwf', hothers', hown', hframes'⟩ := ih hwf
    have hlatch : (s.sendFrame n f).latch = s.latch := congrArg Standing.latch (sendFrame_standing n f s)
    have hstate : ((s.sendFrame n f).port n).state = (s.port n).state := (congrArg Port.state hown :)
    refine ⟨only_ports hsame hsame', hwf', fun m hm => (hothers' m hm).trans (hothers m hm), hown'.trans hown,
      fun hl hs hf => ?_⟩
    obtain ⟨hf, hrest⟩ := List.forall_mem_cons.mp hf
    have hfirst := hframes hl hs (by simpa using hf)
    exact (hframes' (hlatch ▸ hl) (hstate ▸ hs) hrest).trans (by rw [hfirst, List.append_assoc]; rfl)

/-- A share for each board stands in every frame of messages. -/
theorem length_of_mem_msgFrames {msgs : List (Nat × BoardMsg)} {f : List (List Byte)} (hf : f ∈ s.msgFrames n msgs) :
    f.length = (s.port n).chain := by
  obtain ⟨j, -, rfl⟩ := List.mem_map.mp hf
  simp

theorem settingsCheck_accepted {msgs : List (Nat × BoardMsg)} (h : s.settingsCheck n msgs = .accepted) :
    (s.port n).state.sends = true ∧ (s.port n).chain ≠ 0 ∧ (s.port n).syncFor = none := by
  unfold settingsCheck at h
  split at h
  · contradiction
  split at h
  · contradiction
  split at h
  · contradiction
  split at h
  · contradiction
  next hsends _ hfree =>
    obtain ⟨hs, hc⟩ := not_or.mp hsends
    obtain ⟨hf, -⟩ := not_or.mp hfree
    exact ⟨by simpa using hs, hc, by simpa using hf⟩

end

/-- BOARD SETTINGS that is accepted: its frames go out, and it is not yet acknowledged (spec 04 R103, R105). -/
theorem exec_boardSettings {t : Tick} {h : Hdr} {p : Nat} {msgs : List (Nat × BoardMsg)} {s : State} (ht : s.now ≤ t)
    (hw : s.wf = true) (hk : s.takes 0x0404 h = true) (hc : (s.advance t).settingsCheck p msgs = .accepted) :
    ∃ u q, exec (.boardSettings t h p msgs) s = .next u ∧ (u.liveOf s.nextHandle).isSome ∧ u.dist.waiting = s.dist.waiting
      ∧ (u.port p).asked = some q ∧ q.hdr = h ∧ q.handle = s.nextHandle ∧ q.limit = t + us 18 ∧ q.msgs = msgs
      ∧ (u.port p).syncFor = none ∧ (∀ k, k ≠ p → u.port k = s.port k) ∧ (u.port p).state = (s.port p).state
      ∧ (s.latch.set = false →
          (u.port p).frames = (s.port p).frames ++ ((s.advance t).msgFrames p msgs).map State.headFrame)
      ∧ u = { s with clock := u.clock, dist := u.dist, ports := u.ports } := by
  obtain ⟨b, hb⟩ : ∃ b, b = s.issuedOf t 0x0404 h := ⟨_, rfl⟩
  have hdist : b = (s.advance t).modDist fun _ => b.dist := hb ▸ issuedOf_eq t 0x0404 h s
  have hparams : b.dist.params = (s.advance t).dist.params := hb ▸ issuedOf_params t 0x0404 h s
  have hcheck : (s.advance t).takeIntake.settingsCheck p msgs = .accepted := by
    rw [takeIntake_eq, settingsCheck_modDist (takeIntake_params _), hc]
  have hexec : exec (.boardSettings t h p msgs) s = .next (b.boardSettings p msgs h s.nextHandle) :=
    congrArg Host.Outcome.next ((commandLater_issuedOf t hk hcheck).trans (by rw [hb]))
  have hframes : b.msgFrames = (s.advance t).msgFrames := by rw [hdist, msgFrames_modDist hparams]
  have hbwf : b.wf = true := by rw [hdist]; exact hw
  have hnow : b.now = t := by rw [hdist]; exact max_eq_right ht
  obtain ⟨hsends, hchain, hsync⟩ := settingsCheck_accepted hc
  obtain ⟨hsame, hwf, hothers, hown, hsent⟩ := sendFrames_sent (n := p) hbwf (b.msgFrames p msgs)
  have hsends' : (b.port p).state.sends = true := by rw [hdist]; exact hsends
  have hlengths : ∀ f ∈ b.msgFrames p msgs, f.length ≠ 0 := fun f hf => by
    rw [length_of_mem_msgFrames hf, hdist]
    exact hchain
  obtain ⟨v, hv⟩ : ∃ v, v = b.each (b.msgFrames p msgs) fun f u => u.sendFrame p f := ⟨_, rfl⟩
  obtain ⟨q, hq⟩ : ∃ q : Asked, q = ⟨h, s.nextHandle, b.now + us 18, msgs, b.sentCodes p msgs⟩ := ⟨_, rfl⟩
  rw [← hv] at hsame hwf hothers hown hsent
  have hport := port_modPort_same hwf p fun y => { y with asked := some q }
  have hu : b.boardSettings p msgs h s.nextHandle = v.modPort p fun y => { y with asked := some q } := by rw [hv, hq]; rfl
  rw [hu] at hexec
  have hdist' : v.dist = b.dist := (congrArg State.dist hsame :)
  have hlive : (b.liveOf s.nextHandle).isSome = true := by rw [hb]; exact issuedOf_liveOf t hk
  have hwaiting : b.dist.waiting = s.dist.waiting := by rw [hb]; exact issuedOf_waiting t 0x0404 h s
  refine ⟨_, q, hexec, ?_, ?_, by rw [hport], by rw [hq], by rw [hq], by rw [hq, hnow], by rw [hq], ?_, fun k hne => ?_, ?_,
    fun hl => ?_, ?_⟩
  · exact (congrArg Option.isSome (Underway.of_dist hdist').live).trans hlive
  · exact (congrArg Distaff.waiting hdist').trans hwaiting
  · rw [hport]
    exact (congrArg Port.syncFor hown :).trans (by rw [hdist]; exact hsync)
  · rw [port_modPort_other hwf hne, hothers k hne, hdist]
    rfl
  · rw [hport]
    exact (congrArg Port.state hown :).trans (by rw [hdist]; rfl)
  · rw [hport]
    refine (hsent (by rw [hdist]; exact hl) hsends' hlengths).trans ?_
    rw [hframes, hdist]
    rfl
  · rw [hsame, hdist]
    rfl

end State
end Sys2Proof.Machine
end

section
/-! PROOFS. The sync of BOARD SETTINGS (spec 04 R104, R105): once the frames have been sent it is reserved, and the command is
acknowledged before its boundary or is BUSY. -/

namespace Sys2Proof.Machine

/-- A port on which no settings wait. -/
def Port.settled (p : Port) : Port := { p with owed := none, asked := none }

namespace State

/-- From `s` to `u` only port `n` has changed, and of it nothing but what `rest` leaves out. -/
structure OnlyPort (n : Nat) (rest : Port → Port) (s u : State) : Prop where
  wf : u.wf = true
  same : u = s.modPorts fun _ => u.ports
  others : ∀ m, m ≠ n → u.port m = s.port m
  own : rest (u.port n) = rest (s.port n)

section
variable {n : Nat} {rest : Port → Port} {s u v : State}

theorem OnlyPort.refl (hw : s.wf = true) : OnlyPort n rest s s := ⟨hw, rfl, fun _ _ => rfl, rfl⟩

theorem OnlyPort.andThen (h : OnlyPort n rest s u) (k : u.wf = true → OnlyPort n rest u v) : OnlyPort n rest s v := by
  obtain ⟨hwf, hsame, hothers, hown⟩ := k h.wf
  exact ⟨hwf, only_ports h.same hsame, fun m hm => (hothers m hm).trans (h.others m hm), hown.trans h.own⟩

theorem onlyPort_modPort (hw : s.wf = true) (g : Port → Port) (hg : rest (g (s.port n)) = rest (s.port n)) :
    OnlyPort n rest s (s.modPort n g) :=
  ⟨wf_modPort hw n g, rfl, fun _ hm => port_modPort_other hw hm g, by rw [port_modPort_same hw, hg]⟩

theorem OnlyPort.each {α : Type} {f : α → State → State} (h : ∀ a u, u.wf = true → OnlyPort n rest u (f a u)) (l : List α)
    (hw : s.wf = true) : OnlyPort n rest s (s.each l f) := by
  induction l generalizing s with
  | nil => exact .refl hw
  | cons a l ih => exact (h a s hw).andThen ih

/-! ## The device's own record of messages -/

/-- What is noted of messages stands in the views of the port's boards. -/
theorem noteMsgs_onlyPort (hw : s.wf = true) (q : Asked) :
    OnlyPort n (fun p => { p with boards := [] }) s (s.noteMsgs n q) := by
  unfold noteMsgs
  refine OnlyPort.andThen (.each (fun m u hu => ?_) _ hw) (OnlyPort.each (fun x u hu => onlyPort_modPort hu _ rfl) _)
  split
  · exact onlyPort_modPort hu _ rfl
  · exact .refl hu

/-! ## The keep-alive that is placed then -/

theorem placeKeepAlive_cases (n k : Nat) (start : Tick) (s : State) : s.placeKeepAlive n k start = s
    ∨ ∃ r, s.placeKeepAlive n k start = s.modPort n fun p => { p with reserved := p.reserved ++ [r] } := by
  unfold placeKeepAlive
  dsimp only
  split
  · exact .inl rfl
  · split
    · exact .inl rfl
    · exact .inr ⟨_, rfl⟩

theorem rechargePort_of_no_shots (h : s.skein = []) : s.rechargePort n = s := by
  unfold rechargePort
  split
  · rfl
  · simp [h, sortBy, State.each]

/-- KEEP_ALIVE_PLACE once the sync has been offered: a keep-alive may be reserved beside what is, and no codes wait. -/
theorem keepAlive_after (hw : s.wf = true) (hr : (s.port n).recap = []) (k : Nat) (start : Tick) :
    ((s.placeKeepAlive n k start).sendCaps n).dist = s.dist ∧ ((s.placeKeepAlive n k start).sendCaps n).dev = s.dev
      ∧ (∀ m, m ≠ n → ((s.placeKeepAlive n k start).sendCaps n).port m = s.port m)
      ∧ ∃ l, ((s.placeKeepAlive n k start).sendCaps n).port n = { s.port n with reserved := (s.port n).reserved ++ l } := by
  rcases s.placeKeepAlive_cases n k start with h | ⟨r, h⟩
  · rw [h, sendCaps_of_no_recap hr]
    exact ⟨rfl, rfl, fun _ _ => rfl, [], by rw [List.append_nil]⟩
  · have hport := port_modPort_same hw n fun p => { p with reserved := p.reserved ++ [r] }
    rw [h, sendCaps_of_no_recap (by rw [hport]; exact hr)]
    exact ⟨rfl, rfl, fun m hm => port_modPort_other hw hm _, [r], hport⟩

/-! ## The offer -/

theorem offerSync_none {q : Asked} (hq : (s.port n).asked = some q) (he : s.dataEnd n [] ≤ s.now)
    (hc : s.chooseSync n q.limit s.now = none) : s.offerSync n = (s.busyAck n).sendCaps n := by
  simp only [offerSync, hq, he.not_gt, false_and, if_false, hc]

theorem offerSync_some {q : Asked} (hq : (s.port n).asked = some q) (he : s.dataEnd n [] ≤ s.now) {x : Tick} {a : Nat}
    (hc : s.chooseSync n q.limit s.now = some (x, a)) : s.offerSync n =
      ((((s.noteMsgs n q).modPort n fun p => { p with
        asked := none, owed := some (q.hdr, q.handle, x + ns (4 * a), s.lineTimeAt (x + ns (4 * a)), false) }).reserveSync n a x
          (some q.handle)).cond (s.boundaryNext (x + ns (4 * a))) (payAck n)).sendCaps n := by
  simp only [offerSync, hq, he.not_gt, false_and, if_false, hc]

/-- An acknowledgement waits on its command's path (spec 15 R355). -/
theorem ackWith_eq (h : Hdr) (a : Ack) (handle : Nat) (s : State) : ∃ y : Resp, y.ack = true ∧ y.path = h.path
    ∧ s.ackWith h a handle = s.modDist fun d => { d with waiting := d.waiting ++ [y] } := ⟨_, rfl, rfl, rfl⟩

/-- Without an opening the command is BUSY and holds no handle; its port's sync and boards stay (spec 04 R105). -/
theorem offerSync_of_no_opening {q : Asked} (hw : s.wf = true) (hq : (s.port n).asked = some q)
    (ho : (s.port n).owed = none) (hr : (s.port n).recap = []) (he : s.dataEnd n [] ≤ s.now)
    (hc : s.chooseSync n q.limit s.now = none) :
    (s.offerSync n).wf = true ∧ (s.offerSync n).dev = s.dev ∧ (∀ m, m ≠ n → (s.offerSync n).port m = s.port m)
      ∧ (s.offerSync n).port n = (s.port n).settled
      ∧ (s.offerSync n).dist.live = s.dist.live.filter (fun l => l.handle ≠ q.handle)
      ∧ ∃ y, (s.offerSync n).dist.waiting = s.dist.waiting ++ [y] ∧ y.ack = true ∧ y.path = q.hdr.path := by
  have hport := port_modPort_same hw n Port.settled
  obtain ⟨y, hack, hpath, hy⟩ := ackWith_eq q.hdr (.busy 1) 0 ((s.modPort n Port.settled).modDist fun d => { d with
    live := d.live.filter fun l => l.handle ≠ q.handle })
  have hbusy : s.busyAck n = _ := Eq.trans (by simp only [busyAck, hq, ho]; rfl) hy
  have hoffer : s.offerSync n = s.busyAck n := by
    rw [offerSync_none hq he hc]
    refine sendCaps_of_no_recap ?_
    rw [hbusy]
    exact (congrArg Port.recap hport).trans hr
  rw [hoffer, hbusy]
  exact ⟨(modDist_kept (modDist_kept (.refl _))).wf (wf_modPort hw n _), rfl,
    fun m hm => port_modPort_other hw hm Port.settled, hport, rfl, y, rfl, hack, hpath⟩

/-- With an opening the sync is reserved there, and the command is acknowledged where its boundary is the next (spec 04
R104, R105). -/
theorem offerSync_of_opening {q : Asked} (hw : s.wf = true) (hq : (s.port n).asked = some q) (hr : (s.port n).recap = [])
    (hs : s.skein = []) (he : s.dataEnd n [] ≤ s.now) {x : Tick} {a : Nat}
    (hc : s.chooseSync n q.limit s.now = some (x, a)) :
    (s.offerSync n).wf = true ∧ (s.offerSync n).dev = s.dev ∧ (∀ m, m ≠ n → (s.offerSync n).port m = s.port m)
      ∧ ((s.offerSync n).port n).recap = [] ∧ ((s.offerSync n).port n).asked = none
      ∧ ((s.offerSync n).port n).syncFor = some (x + ns (4 * a), some q.handle)
      ∧ (x, Reserved.sync a (x + ns (4 * a))) ∈ ((s.offerSync n).port n).reserved
      ∧ if s.boundaryNext (x + ns (4 * a)) then ((s.offerSync n).port n).owed = none
          ∧ ∃ y, (s.offerSync n).dist.waiting = s.dist.waiting ++ [y] ∧ y.ack = true ∧ y.path = q.hdr.path
        else ((s.offerSync n).port n).owed = some (q.hdr, q.handle, x + ns (4 * a), s.lineTimeAt (x + ns (4 * a)), false)
          ∧ (s.offerSync n).dist.waiting = s.dist.waiting := by
  obtain ⟨b, hb⟩ : ∃ b, b = x + ns (4 * a) := ⟨_, rfl⟩
  have hoffer := offerSync_some hq he hc
  obtain ⟨u, hu⟩ : ∃ u, u = s.noteMsgs n q := ⟨_, rfl⟩
  obtain ⟨hwf, hsame, hothers, hown⟩ := hu ▸ noteMsgs_onlyPort (n := n) hw q
  obtain ⟨v, hv⟩ : ∃ v, v = (u.modPort n fun p => { p with
    asked := none, owed := some (q.hdr, q.handle, b, s.lineTimeAt b, false) }).modPort n fun p => { p with
      reserved := p.reserved ++ [(x, .sync a b)], syncFor := some (b, some q.handle) } := ⟨_, rfl⟩
  have hvwf : v.wf = true := hv ▸ wf_modPort (wf_modPort hwf n _) n _
  have hvothers (m : Nat) (hm : m ≠ n) : v.port m = s.port m := by
    rw [hv, port_modPort_other (wf_modPort hwf n _) hm, port_modPort_other hwf hm, hothers m hm]
  have hvport : v.port n = { u.port n with
      asked := none, owed := some (q.hdr, q.handle, b, s.lineTimeAt b, false)
      reserved := (u.port n).reserved ++ [(x, .sync a b)], syncFor := some (b, some q.handle) } := by
    rw [hv, port_modPort_same (wf_modPort hwf n _), port_modPort_same hwf]
  have hvsame : v = s.modPorts fun _ => v.ports := by
    rw [hv, hsame]
    rfl
  have hvrecap : (v.port n).recap = [] := by
    rw [hvport]
    exact (congrArg Port.recap hown :).trans hr
  have hpay : s.offerSync n = (v.cond (s.boundaryNext b) (payAck n)).sendCaps n := by
    have hreserve : (u.modPort n fun p => { p with
        asked := none, owed := some (q.hdr, q.handle, b, s.lineTimeAt b, false) }).reserveSync n a x (some q.handle) = v := by
      rw [hv, hb]
      exact rechargePort_of_no_shots ((congrArg State.skein hsame :).trans hs)
    rw [hoffer, ← hreserve, hu, hb]
  rw [← hb, hpay]
  cases hnext : s.boundaryNext b with
  | false =>
    rw [cond_eq, if_neg Bool.false_ne_true, sendCaps_of_no_recap hvrecap, if_neg Bool.false_ne_true, hvport]
    exact ⟨hvwf, (congrArg State.dev hvsame :), hvothers, hvport ▸ hvrecap, rfl, rfl,
      List.mem_append_right _ (List.mem_singleton.mpr rfl), rfl, (congrArg (fun w : State => w.dist.waiting) hvsame :)⟩
  | true =>
    obtain ⟨y, hack, hpath, hy⟩ := ackWith_eq q.hdr .accepted q.handle (v.modPort n fun p => { p with owed := none })
    have hpaid : v.payAck n = _ := Eq.trans (by rw [payAck, hvport]; rfl) hy
    have hport := port_modPort_same hvwf n fun p => { p with owed := none }
    have hpaidport : (v.payAck n).port n = { v.port n with owed := none } := by rw [hpaid]; exact hport
    have hpaidothers (m : Nat) (hm : m ≠ n) : (v.payAck n).port m = s.port m := by
      rw [hpaid]
      exact (port_modPort_other hvwf hm fun p => { p with owed := none }).trans (hvothers m hm)
    have hpaidwf : (v.payAck n).wf = true := (payAck_kept (.refl v)).wf hvwf
    have hrecap : ((v.payAck n).port n).recap = [] := by rw [hpaidport]; exact hvrecap
    have hwaiting : (v.payAck n).dist.waiting = s.dist.waiting ++ [y] := by
      rw [hpaid]
      exact congrArg (· ++ [y]) (congrArg (fun w : State => w.dist.waiting) hvsame :)
    have hdev : (v.payAck n).dev = s.dev := by
      rw [hpaid]
      exact (congrArg State.dev hvsame :)
    rw [cond_eq, if_pos rfl, sendCaps_of_no_recap hrecap, if_pos rfl]
    refine ⟨hpaidwf, hdev, hpaidothers, hrecap, ?_, ?_, ?_, ?_, y, hwaiting, hack, hpath⟩ <;> rw [hpaidport, hvport]
    exact List.mem_append_right _ (List.mem_singleton.mpr rfl)

end

end State

/-- KEEP_ALIVE_PLACE where BOARD SETTINGS finds no opening (spec 04 R105). -/
theorem exec_keepAlivePlace_busy {t : Tick} {p : Nat} {q : Asked} {s : State} (ht : s.now ≤ t) (hw : s.wf = true)
    (hq : (s.port p).asked = some q) (ho : (s.port p).owed = none) (hr : (s.port p).recap = [])
    (he : (s.advance t).dataEnd p [] ≤ t) (hc : (s.advance t).chooseSync p q.limit t = none) :
    ∃ u y, exec (.keepAlivePlace t p) s = .next u ∧ (u.port p).asked = none ∧ (u.port p).syncFor = (s.port p).syncFor
      ∧ u.dist.live = s.dist.live.filter (fun l => l.handle ≠ q.handle)
      ∧ u.dist.waiting = s.dist.waiting ++ [y] ∧ y.ack = true ∧ y.path = q.hdr.path
      ∧ (∀ k, k ≠ p → u.port k = s.port k) ∧ u.dev = s.dev := by
  have hnow : (s.advance t).now = t := max_eq_right ht
  obtain ⟨hwf, hdev, hothers, hport, hlive, y, hwaiting, hack, hpath⟩ := State.offerSync_of_no_opening (s := s.advance t)
    hw hq ho hr (by rwa [hnow]) (by rwa [hnow])
  obtain ⟨hdist, hdev', hothers', l, hown⟩ := State.keepAlive_after (n := p) hwf (by rw [hport]; exact hr)
    ((s.advance t).periodOf (s.advance t).now + 1) (s.advance t).now
  rw [hport] at hown
  exact ⟨_, y, rfl, by rw [hown]; rfl, by rw [hown]; rfl, by rw [hdist, hlive]; rfl, by rw [hdist, hwaiting]; rfl, hack,
    hpath, fun k hk => (hothers' k hk).trans (hothers k hk), hdev'.trans hdev⟩

/-- KEEP_ALIVE_PLACE where BOARD SETTINGS finds an opening (spec 04 R104, R105). -/
theorem exec_keepAlivePlace_opening {t : Tick} {p : Nat} {q : Asked} {s : State} (ht : s.now ≤ t) (hw : s.wf = true)
    (hq : (s.port p).asked = some q) (hr : (s.port p).recap = []) (hs : s.skein = [])
    (he : (s.advance t).dataEnd p [] ≤ t) {x : Tick} {a : Nat}
    (hc : (s.advance t).chooseSync p q.limit t = some (x, a)) :
    let b := x + ns (4 * a)
    ∃ u, exec (.keepAlivePlace t p) s = .next u ∧ (u.port p).asked = none ∧ (u.port p).syncFor = some (b, some q.handle)
      ∧ (x, Reserved.sync a b) ∈ (u.port p).reserved ∧ (∀ k, k ≠ p → u.port k = s.port k) ∧ u.dev = s.dev
      ∧ (if (s.advance t).boundaryNext b then (u.port p).owed = none
          ∧ ∃ y, u.dist.waiting = s.dist.waiting ++ [y] ∧ y.ack = true ∧ y.path = q.hdr.path
        else (u.port p).owed = some (q.hdr, q.handle, b, (s.advance t).lineTimeAt b, false)
          ∧ u.dist.waiting = s.dist.waiting) := by
  have hnow : (s.advance t).now = t := max_eq_right ht
  obtain ⟨hwf, hdev, hothers, hrecap, hasked, hsync, hreserved, hack⟩ := State.offerSync_of_opening (s := s.advance t)
    hw hq hr hs (by rwa [hnow]) (by rwa [hnow])
  obtain ⟨hdist, hdev', hothers', l, hown⟩ := State.keepAlive_after (n := p) hwf hrecap
    ((s.advance t).periodOf (s.advance t).now + 1) (s.advance t).now
  refine ⟨_, rfl, by rw [hown]; exact hasked, by rw [hown]; exact hsync, by rw [hown]; exact List.mem_append_left _ hreserved,
    fun k hk => (hothers' k hk).trans (hothers k hk), hdev'.trans hdev, ?_⟩
  rw [hown, hdist]
  exact hack

end Sys2Proof.Machine
end

section
/-! PROOFS. Commands to the link (spec 14 R338, R341, R343): RECOVERY and TEST by what a state's entry leaves of the link, and
the board table by the pages that its write queues. -/

namespace Sys2Proof.Machine

/-- A link but for its state and what a change of the state notes. -/
def Link.carried (l : Link) : Link :=
  { l with state := .down, stage := .down, since := 0, leftAt := none, discarded := false, lastWidth := 0 }

namespace State

/-! ## States of the link -/

/-- `u` is `s` with the link `l`, but for what reports write. -/
def Relinked (s : State) (l : Link) (u : State) : Prop := Reported (s.modLink fun _ => l) u

section
variable {s u : State} {l : Link}

theorem Relinked.modLink (h : Relinked s l u) (g : Link → Link) : Relinked s (g l) (u.modLink g) := by
  obtain ⟨r, c, p, rfl⟩ := h
  exact ⟨r, c, p, rfl⟩

theorem Relinked.reported {v : State} (h : Relinked s l u) (k : Reported u v) : Relinked s l v := Reported.trans h k

theorem Relinked.trans {l' : Link} {v : State} (h : Relinked s l u) (k : Relinked u l' v) : Relinked s l' v := by
  obtain ⟨r, c, p, rfl⟩ := h
  obtain ⟨r', c', p', rfl⟩ := k
  exact ⟨r', c', p', rfl⟩

theorem Relinked.link (h : Relinked s l u) : u.link = l := by
  obtain ⟨r, c, p, rfl⟩ := h
  rfl

theorem Relinked.dist (h : Relinked s l u) : u.dist = s.dist := by
  obtain ⟨r, c, p, rfl⟩ := h
  rfl

theorem Relinked.dev (h : Relinked s l u) : u.dev = s.dev := by
  obtain ⟨r, c, p, rfl⟩ := h
  rfl

theorem Relinked.now (h : Relinked s l u) : u.now = s.now := by
  obtain ⟨r, c, p, rfl⟩ := h
  rfl

theorem Relinked.refl (s : State) : Relinked s s.link s := Reported.refl s

theorem setFlag_reported (n : Nat) (s : State) : Reported s (s.setFlag n) := (Reported.refl s).modSide _

/-- From `s` to `u` the link has taken state `st`, and what it carries has stayed. -/
def Took (st : LinkState) (s u : State) : Prop := ∃ l, Relinked s l u ∧ l.state = st ∧ l.carried = s.link.carried

section
variable {st : LinkState}

theorem Took.modLink (h : Took st s u) {g : Link → Link} (hs : ∀ l, (g l).state = l.state := by exact fun _ => rfl)
    (hc : ∀ l, (g l).carried = l.carried := by exact fun _ => rfl) : Took st s (u.modLink g) := by
  obtain ⟨l, hl, hstate, hcarried⟩ := h
  exact ⟨g l, hl.modLink g, (hs l).trans hstate, (hc l).trans hcarried⟩

theorem Took.reported {v : State} (h : Took st s u) (k : Reported u v) : Took st s v := by
  obtain ⟨l, hl, hstate, hcarried⟩ := h
  exact ⟨l, hl.reported k, hstate, hcarried⟩

theorem Took.cond (h : Took st s u) {f : State → State} (hf : ∀ v, Took st s v → Took st s (f v)) (b : Bool) :
    Took st s (u.cond b f) := by
  cases b
  · exact h
  · exact hf u h

/-- The link takes a state (spec 14 R334, R342). -/
theorem setLink_took (st : LinkState) (s : State) : Took st s (s.setLink st) := by
  unfold setLink
  dsimp only
  split
  case isTrue hst => exact ⟨_, (Relinked.refl s).modLink _, hst.symm, rfl⟩
  case isFalse =>
    have hstate : Took st s (s.modLink fun l => { l with state := st, stage := st, since := s.now }) :=
      ⟨_, (Relinked.refl s).modLink _, rfl, rfl⟩
    refine ((hstate.reported (log_reported ..)).cond (fun v hv => ?_) _).cond (fun v hv => ?_) _
    · exact hv.modLink.reported (setFlag_reported 12 _)
    · exact (hv.cond (fun w hw => hw.reported (setFlag_reported 13 w)) _).modLink

end

/-! ## RECOVERY -/

/-- TRAIN blocks change what the lanes carry alone (spec 14 R323). -/
theorem putTrain_eq (l : List Nat) (s : State) : ∃ x w,
    s.each l (fun i u => u.putBlock i true (u.trainWord i)) = s.modLink fun l => { l with scramblers := x, wire := w } := by
  induction l generalizing s with
  | nil => exact ⟨s.link.scramblers, s.link.wire, rfl⟩
  | cons i l ih =>
    obtain ⟨x, w, h⟩ := ih (s.putBlock i true (s.trainWord i))
    exact ⟨x, w, h⟩

theorem toStage_of_recovery (st : LinkState) (hs : s.link.state = .recovery) :
    s.toStage st = s.modLink fun l => { l with stage := st, since := s.now } := if_pos hs

/-- TRAIN in RECOVERY starts on its lanes at its rate (spec 14 R339). -/
theorem startTrain_recovery (lanes : BitVec 8) (r : Nat) (hs : s.link.state = .recovery) :
    ∃ l, s.startTrain lanes (some r) = s.modLink (fun _ => l) ∧ l.state = .recovery ∧ l.stage = .train ∧ l.lanes = lanes
      ∧ l.rate = r ∧ l.recoverAt = s.link.recoverAt ∧ l.unacked = s.link.unacked := by
  unfold startTrain
  dsimp only
  rw [toStage_of_recovery]
  · obtain ⟨x, w, h⟩ := putTrain_eq ((List.range 8).filter fun i => lanes.getLsbD i) _
    rw [h]
    exact ⟨_, rfl, hs, rfl, rfl, rfl, rfl, rfl⟩
  · exact hs

/-- Without a rate that is left the link goes DOWN, and its frames that are not acknowledged stay (spec 14 R339). -/
theorem startTrain_down (lanes : BitVec 8) (hr : s.link.retrain = none) :
    ∃ l, Relinked s l (s.startTrain lanes none) ∧ l.unacked = s.link.unacked := by
  obtain ⟨l, hl, -, hcarried⟩ := setLink_took .down s
  have hdown : s.startTrain lanes none = (s.setLink .down).modLink fun l => { l with
      stage := .down, width := 0, first := 0, retrain := none, test := none } := by
    simp only [startTrain, linkDown, hr]
  rw [hdown]
  exact ⟨_, hl.modLink _, (congrArg Link.unacked hcarried :)⟩

/-- RECOVERY is entered on a set of lanes, at a rate where one is left (spec 14 R339). -/
theorem enterRecovery_effect (lanes : BitVec 8) (rate : Option Nat) (hr : s.link.retrain = none) :
    ∃ l, Relinked s l (s.enterRecovery lanes rate) ∧ l.unacked = s.link.unacked
      ∧ ∀ r, rate = some r → l.state = .recovery ∧ l.stage = .train ∧ l.lanes = lanes ∧ l.rate = r ∧ l.recoverAt = s.now := by
  obtain ⟨l, hl, hstate, hcarried⟩ := setLink_took .recovery s
  have hentered := hl.modLink fun l => { l with
    recoverAt := s.now, replay := [], nakIn := none, nakAt := none }
  obtain ⟨u, hu⟩ : ∃ u, u = (s.setLink .recovery).modLink fun l => { l with
    recoverAt := s.now, replay := [], nakIn := none, nakAt := none } := ⟨_, rfl⟩
  rw [← hu] at hentered
  have henter : s.enterRecovery lanes rate = u.startTrain lanes rate := by rw [hu]; rfl
  have hunacked : u.link.unacked = s.link.unacked := hentered.link ▸ (congrArg Link.unacked hcarried :)
  rw [henter]
  cases rate with
  | none =>
    obtain ⟨l', hl', hsame⟩ := startTrain_down (s := u) lanes
      (by rw [hentered.link]; exact (congrArg Link.retrain hcarried :).trans hr)
    exact ⟨l', hentered.trans hl', hsame.trans hunacked, fun r hr => absurd hr (by simp)⟩
  | some r =>
    obtain ⟨l', hl', hstate', hstage, hlanes, hrate, hat, hsame⟩ := startTrain_recovery (s := u) lanes r
      (by rw [hentered.link]; exact hstate)
    have hrecover : u.link.recoverAt = s.now := by rw [hentered.link]
    refine ⟨l', hentered.trans (hl' ▸ (Relinked.refl u).modLink fun _ => l'), hsame.trans hunacked, fun r' hr' => ?_⟩
    obtain rfl := Option.some.inj hr'
    exact ⟨hstate', hstage, hlanes, hrate, hat.trans hrecover⟩

/-! ## LINK RETRAIN (spec 14 R341) -/

theorem startOf_link (t : Tick) (op : Nat) (h : Hdr) (s : State) : (s.startOf t op h).link = s.link := by
  obtain ⟨d, hd⟩ := startOf_eq t op h s
  rw [hd]
  rfl

/-- LINK RETRAIN leaves an ACTIVE link in RECOVERY, and waits (spec 14 R341). -/
theorem exec_linkRetrain {t : Tick} {h : Hdr} (ht : s.now ≤ t) (hk : s.takes 0x0E02 h = true)
    (hrec : s.link.state ≠ .recovery) (htest : s.link.state ≠ .test) (hr : s.link.retrain = none) :
    ∃ u, exec (.linkRetrain t h) s = .next u ∧ u.waits (s.startOf t 0x0E02 h) s.nextHandle
      ∧ u.link.retrain = some s.nextHandle
      ∧ (∀ r, s.link.state = .active → (s.modLink fun l => { l with peerRates := 7 }).rateBelow 3 = some r →
          u.link.state = .recovery ∧ u.link.stage = .train ∧ u.link.lanes = s.link.detected ∧ u.link.rate = r
          ∧ u.link.recoverAt = t)
      ∧ (s.link.state ≠ .active → u = { s with clock := u.clock, dist := u.dist, link := u.link }) ∧ u.dev = s.dev
      ∧ u.link.unacked = s.link.unacked := by
  have hcheck : (s.advance t).takeIntake.linkRetrainCheck = .accepted := by
    rw [linkRetrainCheck, takeIntake_link]
    exact if_neg (by simp [hrec, htest, hr])
  have hexec : exec (.linkRetrain t h) s = .next ((s.startOf t 0x0E02 h).linkRetrain s.nextHandle) :=
    congrArg Host.Outcome.next (command_startOf t hk hcheck)
  have hlink := startOf_link t 0x0E02 h s
  refine ⟨_, hexec, ?_⟩
  unfold linkRetrain
  rw [hlink, cond_eq]
  by_cases ha : s.link.state = .active
  · rw [if_pos (decide_eq_true ha)]
    obtain ⟨v, hv⟩ : ∃ v, v = (s.startOf t 0x0E02 h).modLink fun l => { l with peerRates := 7 } := ⟨_, rfl⟩
    have hrate : v.rateBelow 3 = (s.modLink fun l => { l with peerRates := 7 }).rateBelow 3 := by
      rw [hv]
      obtain ⟨d, hd⟩ := startOf_eq t 0x0E02 h s
      rw [hd]
      rfl
    have hvlink : v.link = { s.link with peerRates := 7 } := by rw [hv, ← hlink]; rfl
    have hvdist : v.dist = (s.startOf t 0x0E02 h).dist := by rw [hv]; rfl
    have hvdev : v.dev = s.dev := by rw [hv]; exact dev_of_standing (startOf_standing t 0x0E02 h s)
    have hvnow : v.now = t := by rw [hv]; exact startOf_now 0x0E02 h ht
    obtain ⟨l, hl, hunacked, hentered⟩ := enterRecovery_effect (s := v) s.link.detected (v.rateBelow 3)
      (by rw [hvlink]; exact hr)
    rw [← hv, hlink]
    have hretrain := hl.modLink fun l => { l with retrain := some s.nextHandle }
    have hunder := Underway.of_dist (n := s.nextHandle) (hretrain.dist.trans hvdist)
    refine ⟨waits_of_underway hk hunder, by rw [hretrain.link], fun r _ hr => ?_,
      fun hno => absurd ha hno, hretrain.dev.trans hvdev, ?_⟩
    · obtain ⟨hstate, hstage, hlanes, hr', hat⟩ := hentered r (hrate.trans hr)
      rw [hretrain.link]
      exact ⟨hstate, hstage, hlanes, hr', hat.trans hvnow⟩
    · rw [hretrain.link]
      exact hunacked.trans (by rw [hvlink])
  · rw [if_neg (by simp [ha])]
    obtain ⟨v, hv⟩ : ∃ v, v = (s.startOf t 0x0E02 h).modLink fun l => { l with retrain := some s.nextHandle } := ⟨_, rfl⟩
    rw [← hv]
    have hretrain : Relinked (s.startOf t 0x0E02 h) _ v := hv ▸ (Relinked.refl _).modLink _
    have hunder := Underway.of_dist (n := s.nextHandle) hretrain.dist
    refine ⟨waits_of_underway hk hunder, by rw [hretrain.link], fun _ hactive => absurd hactive ha,
      fun _ => ?_, hretrain.dev.trans (dev_of_standing (startOf_standing t 0x0E02 h s)),
      by rw [hretrain.link]; exact (congrArg Link.unacked hlink :)⟩
    obtain ⟨d, hd⟩ := startOf_eq t 0x0E02 h s
    rw [hv, hd]
    rfl

/-! ## LINK TEST and LINK TEST STOP (spec 14 R343) -/

theorem linkTestCheck_takeIntake (t : Tick) (path : Path) (duration : Nat) (lanes : List LaneTest) :
    (s.advance t).takeIntake.linkTestCheck path duration lanes = s.linkTestCheck path duration lanes := by
  rw [takeIntake_eq]
  rfl

/-- LINK TEST takes the link to TEST until its time, and waits (spec 14 R343). -/
theorem exec_linkTest {t : Tick} {h : Hdr} {duration : Nat} {lanes : List LaneTest} (ht : s.now ≤ t)
    (hk : s.takes 0x0E03 h = true) (hc : s.linkTestCheck h.path duration lanes = .accepted) :
    ∃ u, exec (.linkTest t h duration lanes) s = .next u ∧ u.waits (s.startOf t 0x0E03 h) s.nextHandle
      ∧ u.link.state = .test
      ∧ u.link.test = some (s.nextHandle, if duration = 0 then none else some (t + us (1000 * duration)), lanes)
      ∧ u.link.unacked = s.link.unacked
      ∧ u = { s with clock := u.clock, dist := u.dist, link := u.link, recs := u.recs, nvCtl := u.nvCtl, side := u.side } := by
  have hexec : exec (.linkTest t h duration lanes) s = .next ((s.startOf t 0x0E03 h).linkTest duration lanes s.nextHandle) :=
    congrArg Host.Outcome.next (command_startOf t hk ((linkTestCheck_takeIntake t h.path duration lanes).trans hc))
  obtain ⟨l, hl, hstate, hcarried⟩ := setLink_took .test ((s.startOf t 0x0E03 h).draw (2 ^ 512)).2
  obtain ⟨raw, hraw⟩ : ∃ raw, (s.startOf t 0x0E03 h).linkTest duration lanes s.nextHandle
      = (((s.startOf t 0x0E03 h).draw (2 ^ 512)).2.setLink .test).modLink fun l => { l with
        raw := raw, stage := .test
        test := some (s.nextHandle, if duration = 0 then none else some (t + us (1000 * duration)), lanes) } :=
    ⟨_, by rw [linkTest, startOf_now 0x0E03 h ht]⟩
  rw [hraw] at hexec
  obtain ⟨u, hu⟩ : ∃ u, u = (((s.startOf t 0x0E03 h).draw (2 ^ 512)).2.setLink .test).modLink fun l => { l with
    raw := raw, stage := .test
    test := some (s.nextHandle, if duration = 0 then none else some (t + us (1000 * duration)), lanes) } := ⟨_, rfl⟩
  rw [← hu] at hexec
  have htest := hu ▸ hl.modLink fun l => { l with
    raw := raw, stage := .test
    test := some (s.nextHandle, if duration = 0 then none else some (t + us (1000 * duration)), lanes) }
  have hunder := Underway.of_dist (n := s.nextHandle) (s := s.startOf t 0x0E03 h) htest.dist
  have hunacked : l.unacked = s.link.unacked :=
    (congrArg Link.unacked hcarried :).trans (congrArg Link.unacked (startOf_link t 0x0E03 h s) :)
  refine ⟨u, hexec, waits_of_underway hk hunder, by rw [htest.link]; exact hstate, by rw [htest.link],
    by rw [htest.link]; exact hunacked, ?_⟩
  obtain ⟨r, c, p, hreported⟩ := htest
  obtain ⟨d, hd⟩ := startOf_eq t 0x0E03 h s
  rw [hreported, hd]
  rfl

/-- LINK TEST STOP sets the end of an unlimited test at the present instant (spec 14 R343). -/
theorem exec_linkTestStop {t : Tick} {h : Hdr} {o : Nat} {k : Option Tick} {x : List LaneTest} (ht : s.now ≤ t)
    (hk : s.takes 0x0E04 h = true) (htest : s.link.test = some (o, k, x)) :
    exec (.linkTestStop t h) s = .next (((s.startOf t 0x0E04 h).modLink fun l => { l with
      test := some (o, some (k.getD t), x) }).succeed s.nextHandle []) := by
  have hexec : exec (.linkTestStop t h) s = .next ((s.startOf t 0x0E04 h).linkTestStop s.nextHandle) :=
    congrArg Host.Outcome.next (command_startOf t hk rfl)
  have htest' : (s.startOf t 0x0E04 h).link.test = some (o, k, x) := by rw [startOf_link, htest]
  rw [hexec, linkTestStop, startOf_now 0x0E04 h ht, modLink, modLink, htest']
  rfl

/-! ## WRITE BOARD TABLE (spec 14 R338) -/

theorem length_boardEntryBytes (l : List BoardEntry) : (l.flatMap boardEntryBytes).length = 8 * l.length := by
  induction l with
  | nil => rfl
  | cons e l ih =>
    have hentry : (boardEntryBytes e).length = 8 := rfl
    rw [List.flatMap_cons, List.length_append, ih, List.length_cons, hentry, Nat.mul_succ, Nat.add_comm]

theorem boardCheck_accepted {entries : List BoardEntry} (h : boardCheck entries s = .accepted) : entries.length = 24 := by
  unfold boardCheck at h
  split at h
  · contradiction
  · next hlen => exact not_not.mp hlen

/-- The page jobs that bring 192 bytes to object `k`: three data pages and the commit page (spec 18 R434). -/
def tableJobs (bytes : List Byte) (handle : Option Nat) : List PageJob :=
  (List.range 3).map (fun i => (⟨i, padTo 64 ((bytes.drop (64 * i)).take 64), 0, 2, none⟩ : PageJob)) ++ [⟨0, [], 1, 2, handle⟩]

theorem flatMap_tableJobs {bytes : List Byte} (hb : bytes.length = 192) (handle : Option Nat) :
    ((tableJobs bytes handle).flatMap fun j => j.bytes) = bytes := by
  have hpage (i : Nat) (hi : i < 3) : padTo 64 ((bytes.drop (64 * i)).take 64) = (bytes.drop (64 * i)).take 64 := by
    have hlength : ((bytes.drop (64 * i)).take 64).length = 64 := by
      rw [List.length_take, List.length_drop]
      omega
    rw [padTo, hlength]
    exact List.append_nil _
  have hsplit (i : Nat) : (bytes.drop (64 * i)).take 64 ++ bytes.drop (64 * (i + 1)) = bytes.drop (64 * i) := by
    rw [Nat.mul_succ, ← List.drop_drop, List.take_append_drop]
  have hend : bytes.drop (64 * 3) = [] := List.drop_eq_nil_of_le (by omega)
  calc ((tableJobs bytes handle).flatMap fun j => j.bytes)
      = padTo 64 ((bytes.drop (64 * 0)).take 64) ++ (padTo 64 ((bytes.drop (64 * 1)).take 64)
        ++ (padTo 64 ((bytes.drop (64 * 2)).take 64) ++ [])) := rfl
    _ = bytes := by
      rw [hpage 0 (by omega), hpage 1 (by omega), hpage 2 (by omega), ← hend, hsplit 2, hsplit 1, hsplit 0]
      rfl

/-- The write of the board table queues its jobs behind those that wait (spec 18 R434). -/
theorem nvWrite_table {bytes : List Byte} (hb : bytes.length = 192) (hp : s.power.nvAllowed = true) (handle : Option Nat) :
    ∃ c, s.nvWrite 2 bytes handle = s.modNvCtl (fun _ => c) ∧ c.jobs = s.nvCtl.jobs ++ tableJobs bytes handle := by
  have hpages : min (nvSpan 2).2.2.2 (max 1 ((bytes.length + 63) / 64)) = 3 := by rw [hb]; rfl
  unfold nvWrite
  dsimp only
  rw [hp, hpages]
  exact ⟨_, rfl, rfl⟩

/-- WRITE BOARD TABLE is written as object 2, and waits for its commit page (spec 14 R338). -/
theorem exec_writeBoardTable {t : Tick} {h : Hdr} {entries : List BoardEntry} (hk : s.takes 0x0E05 h = true)
    (hc : boardCheck entries s = .accepted) (hp : s.power.nvAllowed = true) :
    ∃ u jobs, exec (.writeBoardTable t h entries) s = .next u ∧ u.waits (s.startOf t 0x0E05 h) s.nextHandle
      ∧ u.nvCtl.jobs = s.nvCtl.jobs ++ jobs ∧ jobs.length = 4 ∧ (∀ j, j ∈ jobs → j.object = 2)
      ∧ (jobs.flatMap fun j => j.bytes) = entries.flatMap State.boardEntryBytes
      ∧ (jobs.getLast?.map fun j => (j.kind, j.handle)) = some (1, some s.nextHandle)
      ∧ u = { s with clock := u.clock, dist := u.dist, nvCtl := u.nvCtl } := by
  have hbytes : (entries.flatMap boardEntryBytes).length = 192 := by
    rw [length_boardEntryBytes, boardCheck_accepted hc]
  have hexec : exec (.writeBoardTable t h entries) s
      = .next ((s.startOf t 0x0E05 h).nvWrite 2 (entries.flatMap boardEntryBytes) (some s.nextHandle)) :=
    congrArg Host.Outcome.next (command_startOf t hk hc)
  obtain ⟨d, hd⟩ := startOf_eq t 0x0E05 h s
  obtain ⟨c, hwrite, hjobs⟩ := nvWrite_table (s := s.startOf t 0x0E05 h) hbytes (by rw [hd]; exact hp) (some s.nextHandle)
  rw [hwrite] at hexec
  have hqueue : (s.startOf t 0x0E05 h).nvCtl = s.nvCtl := by rw [hd]; rfl
  have hunder : Underway s.nextHandle (s.startOf t 0x0E05 h) ((s.startOf t 0x0E05 h).modNvCtl fun _ => c) := .of_dist rfl
  refine ⟨_, tableJobs (entries.flatMap boardEntryBytes) (some s.nextHandle), hexec, waits_of_underway hk hunder,
    hjobs.trans (by rw [hqueue]), rfl, fun j hj => ?_, flatMap_tableJobs hbytes _, rfl, by rw [hd]; rfl⟩
  rcases List.mem_append.mp hj with hj | hj
  · obtain ⟨i, -, rfl⟩ := List.mem_map.mp hj
    rfl
  · rw [List.mem_singleton.mp hj]

end

end State

/-- Settles O58: each command by what it leaves in its port, in the link or in the store, and by its answer. -/
theorem portAndLinkCommandsTakeEffect : Obligations.PortAndLinkCommandsTakeEffect := by
  unfold Obligations.PortAndLinkCommandsTakeEffect
  intro t h s ht hw
  refine ⟨fun p hk hp hl => State.exec_portEnable_latched hk hp hl,
    fun p hk hp hl hu => State.exec_portEnable_clear ht hw hk hp hl hu,
    fun p hk hp hu => State.exec_portDisable hw hk hp hu, fun p id hk hp hv hid => ?admission,
    fun p msgs hk hc => State.exec_boardSettings ht hw hk hc,
    fun p q _ hq ho hr hs he => ⟨fun x a hc => ?opening, fun hc => ?busy⟩,
    fun hk hrec htest hr => State.exec_linkRetrain ht hk hrec htest hr,
    fun duration lanes hk hc => State.exec_linkTest ht hk hc,
    fun o k x hk _ htest => State.exec_linkTestStop ht hk htest, fun entries hk hc hp => State.exec_writeBoardTable hk hc hp⟩
  case admission =>
    subst hid
    exact State.exec_admitHead hw hk hp hv
  case opening => exact exec_keepAlivePlace_opening ht hw hq hr hs he hc
  case busy => exact exec_keepAlivePlace_busy ht hw hq ho hr he hc

end Sys2Proof.Machine
end

section
/-! PROOFS. Channels (spec 05, 10): what is read of a channel after a change, the operations that touch one channel alone,
and the blinded test, which reports besides. -/

namespace Sys2Proof.Machine.State

/-! ## Reading channels after a change -/

theorem chans_wf {s : State} (h : s.wf = true) : Store.wf {} s.chans = true := by
  simp only [wf, partsWf, Bool.and_eq_true] at h
  tauto

/-- A channel reads as it was changed. -/
theorem chan_modChan_same {s : State} (h : s.wf = true) (c : Nat) (g : Channel → Channel) :
    (s.modChan c g).chan c = g (s.chan c) := Store.read_write_same _ _ none c _ (chans_wf h)

/-- Another channel reads as before. -/
theorem chan_modChan_other {s : State} (h : s.wf = true) {c k : Nat} (hk : k ≠ c) (g : Channel → Channel) :
    (s.modChan c g).chan k = s.chan k := Store.read_write_other _ _ none c k _ (chans_wf h) hk

theorem wf_modChan {s : State} (h : s.wf = true) (c : Nat) (g : Channel → Channel) : (s.modChan c g).wf = true :=
  (modChan_kept (.refl s)).wf h

theorem wf_count {s : State} (h : s.wf = true) (k i n : Nat) : (s.count k i n).wf = true :=
  (count_kept (.refl s)).wf h

/-! ## Operations on one channel -/

section
variable {α β : Type} {c : Nat} {view : Channel → α} {s u v : State}

/-- From `s` to `u` only channel `c` has changed, and of it nothing that `view` shows. -/
structure OnlyChan (c : Nat) (view : Channel → α) (s u : State) : Prop where
  wf : u.wf = true
  same : ∃ m, u = s.modChans fun _ => m
  others : ∀ k, k ≠ c → u.chan k = s.chan k
  own : view (u.chan c) = view (s.chan c)

theorem OnlyChan.refl (hw : s.wf = true) : OnlyChan c view s s := ⟨hw, ⟨s.chans, rfl⟩, fun _ _ => rfl, rfl⟩

theorem OnlyChan.andThen (h : OnlyChan c view s u) (k : u.wf = true → OnlyChan c view u v) : OnlyChan c view s v := by
  obtain ⟨hwf, ⟨m, hv⟩, hothers, hown⟩ := k h.wf
  obtain ⟨n, hu⟩ := h.same
  exact ⟨hwf, ⟨m, by rw [hv, hu]; rfl⟩, fun k hk => (hothers k hk).trans (h.others k hk), hown.trans h.own⟩

/-- What the view shows, less of it is shown unchanged too. -/
theorem OnlyChan.map (h : OnlyChan c view s u) (f : α → β) : OnlyChan c (fun ch => f (view ch)) s u :=
  ⟨h.wf, h.same, h.others, congrArg f h.own⟩

theorem onlyChan_modChan (hw : s.wf = true) (g : Channel → Channel) (hg : view (g (s.chan c)) = view (s.chan c)) :
    OnlyChan c view s (s.modChan c g) :=
  ⟨wf_modChan hw c g, ⟨_, rfl⟩, fun _ hk => chan_modChan_other hw hk g, by rw [chan_modChan_same hw, hg]⟩

theorem onlyChan_cond {f : State → State} (hw : s.wf = true) (h : OnlyChan c view s (f s)) (b : Bool) :
    OnlyChan c view s (s.cond b f) := by
  cases b
  · exact .refl hw
  · exact h

/-- The counters stand beside the channels. -/
theorem OnlyChan.count (h : OnlyChan c view s u) (k i n : Nat) : OnlyChan c view (s.count k i n) (u.count k i n) := by
  refine ⟨wf_count h.wf k i n, ?_, h.others, h.own⟩
  obtain ⟨m, rfl⟩ := h.same
  exact ⟨m, rfl⟩

theorem OnlyChan.dist (h : OnlyChan c view s u) : u.dist = s.dist := by
  obtain ⟨m, rfl⟩ := h.same
  rfl

/-- The front end of a channel reads as it was changed. -/
theorem chan_modFe_same (hw : s.wf = true) (c : Nat) (g : FrontEnd → FrontEnd) :
    ((s.modFe c g).chan c).fe = g (s.chan c).fe := by
  rw [modFe, chan_modChan_same hw]

theorem wf_modFe (hw : s.wf = true) (c : Nat) (g : FrontEnd → FrontEnd) : (s.modFe c g).wf = true := wf_modChan hw c _

theorem onlyChan_modFe (hw : s.wf = true) (g : FrontEnd → FrontEnd)
    (hg : view { s.chan c with fe := g (s.chan c).fe } = view (s.chan c)) : OnlyChan c view s (s.modFe c g) :=
  onlyChan_modChan hw _ hg

/-- A change of Carding's state leaves the front end. -/
theorem onlyChan_modCard (hw : s.wf = true) (g : Carding → Carding) : OnlyChan c (·.fe) s (s.modCard c g) :=
  onlyChan_modChan hw _ rfl

end

/-! ## What an operation reads of the parameters -/

theorem popt_of_dist {s u : State} (h : u.dist = s.dist) (id target : Nat) : u.popt id target = s.popt id target := by
  simp only [popt, param, paramAt, h]

theorem pnum_of_dist {s u : State} (h : u.dist = s.dist) (id target : Nat) : u.pnum id target = s.pnum id target := by
  simp only [pnum, param, paramAt, h]

theorem autoRanging_of_dist {s u : State} (h : u.dist = s.dist) (c : Nat) : u.autoRanging c = s.autoRanging c := by
  simp only [autoRanging, popt_of_dist h]

/-! ## The blinded test (spec 10 R241) -/

/-- From `s` to `u` one channel has changed, of it nothing that `view` shows, and counters and reports have been written. -/
structure ChanReports {α : Type} (c : Nat) (view : Channel → α) (s u : State) : Prop where
  same : ∃ m n, Reported ((s.modChans fun _ => m).modCounters fun _ => n) u
  others : ∀ k, k ≠ c → u.chan k = s.chan k
  own : view (u.chan c) = view (s.chan c)

section
variable {α : Type} {c : Nat} {view : Channel → α} {s u v : State}

theorem OnlyChan.reports (h : OnlyChan c view s u) : ChanReports c view s u := by
  refine ⟨?_, h.others, h.own⟩
  obtain ⟨m, rfl⟩ := h.same
  exact ⟨m, s.counters, .refl _⟩

theorem OnlyChan.thenReports (h : OnlyChan c view s u) (k : u.wf = true → ChanReports c view u v) :
    ChanReports c view s v := by
  obtain ⟨⟨m, n, hv⟩, hothers, hown⟩ := k h.wf
  refine ⟨⟨m, n, ?_⟩, fun k hk => (hothers k hk).trans (h.others k hk), hown.trans h.own⟩
  obtain ⟨_, rfl⟩ := h.same
  exact hv

theorem ChanReports.map {β : Type} (h : ChanReports c view s u) (f : α → β) :
    ChanReports c (fun ch => f (view ch)) s u := ⟨h.same, h.others, congrArg f h.own⟩

theorem chanReports_cond {f : State → State} (hw : s.wf = true) (h : ChanReports c view s (f s)) (b : Bool) :
    ChanReports c view s (s.cond b f) := by
  cases b
  · exact (OnlyChan.refl hw).reports
  · exact h

/-- A counter and a report after a change of one channel. -/
theorem OnlyChan.countReported (h : OnlyChan c view s u) (k i n : Nat) (hr : Reported (u.count k i n) v) :
    ChanReports c view s v := by
  obtain ⟨r, x, p, rfl⟩ := hr
  refine ⟨?_, h.others, h.own⟩
  obtain ⟨m, rfl⟩ := h.same
  exact ⟨m, _, r, x, p, rfl⟩

/-- The blinded test touches Carding's runs and verdict of its channel, a counter and the reports: neither the front end nor
the returns that wait for a decision. -/
theorem setBlind_reports (hw : s.wf = true) (on : Bool) :
    ChanReports c (fun ch => (ch.fe, ch.card.inbox)) s (s.setBlind c on) := by
  unfold setBlind
  split
  · exact (OnlyChan.refl hw).reports
  · exact (onlyChan_modChan hw _ rfl).countReported Kind.blind c 1 (health_reported ..)

/-- The runs of the blinded test at a boundary, before its verdict. -/
def blindRuns (c : Nat) (sat high clear : Bool) (s : State) : State :=
  s.modCard c fun k => { k with
    satRun := if sat then k.satRun + 1 else 0, levelRun := if high then k.levelRun + 1 else 0
    clearRun := if clear then k.clearRun + 1 else 0 }

theorem blindStep_eq (c : Nat) (sat high clear : Bool) (s : State) : s.blindStep c sat high clear
    = let u := s.blindRuns c sat high clear
      let k := u.card c
      if !k.blinded ∧ (16 ≤ k.satRun ∨ 16 ≤ k.levelRun) then u.setBlind c true
      else if k.blinded ∧ 64 ≤ k.clearRun then u.setBlind c false else u := rfl

theorem blindStep_reports (hw : s.wf = true) (sat high clear : Bool) :
    ChanReports c (fun ch => (ch.fe, ch.card.inbox)) s (s.blindStep c sat high clear) := by
  have hruns : OnlyChan c (fun ch => (ch.fe, ch.card.inbox)) s (s.blindRuns c sat high clear) :=
    onlyChan_modChan hw _ rfl
  rw [blindStep_eq]
  dsimp only
  split
  · exact hruns.thenReports fun h => setBlind_reports h true
  · split
    · exact hruns.thenReports fun h => setBlind_reports h false
    · exact hruns.reports

end

end Sys2Proof.Machine.State
end

section
/-! PROOFS. The clamp and the gates of charge-integrating fallback (spec 05 R120-R131). -/

namespace Sys2Proof.Machine

namespace State

section
variable {α : Type} {c : Nat} {view : Channel → α} {s : State}

/-! ## Servo, marks and ranges: what a view of the channel shows where it leaves out what they write -/

theorem servoTakes_onlyChan (hw : s.wf = true) (x : Nat) (hv : ∀ (ch : Channel) (y : Nat) (a b : Bool),
    view { ch with fe := { ch.fe with servo := y, saturated := a, satAll := b } } = view ch) :
    OnlyChan c view s (s.servoTakes c x) := onlyChan_cond hw (onlyChan_modChan hw _ (hv ..)) _

theorem markChan_onlyChan (hw : s.wf = true) (k : MarkKind) (code : Nat) (stop : Option Tick)
    (hv : ∀ (ch : Channel) (l : List Mark), view { ch with marks := l } = view ch) :
    OnlyChan c view s (s.markChan c k code stop) := onlyChan_modChan hw _ (hv ..)

theorem setRange_onlyChan (hw : s.wf = true) (r : Nat) (hv : ∀ (ch : Channel) (l : List Mark) (y : Nat)
    (p : List (Tick × Nat)), view { ch with marks := l, fe := { ch.fe with range := y, past := p } } = view ch) :
    OnlyChan c view s (s.setRange c r) := by
  unfold setRange
  split
  · exact .refl hw
  · exact (onlyChan_modChan hw _ (hv (s.chan c) (s.chan c).marks ..)).andThen fun h =>
      markChan_onlyChan h _ _ _ fun ch l => hv ch l ch.fe.range ch.fe.past

/-- The range stands as it is switched. -/
theorem range_setRange (hw : s.wf = true) (r : Nat) : ((s.setRange c r).chan c).fe.range = r := by
  unfold setRange
  split
  · next h => exact h
  · rw [markChan, chan_modChan_same (wf_modChan hw c _), chan_modChan_same hw]

/-! ## A clamp event -/

/-- A clamp event as it starts, before the rescue switch: counted, flagged and marked (spec 05 R120, R121). -/
def clampSeen (c servo : Nat) (s : State) : State :=
  (((s.servoTakes c servo).modFe c fun f => { f with
    clamping := true, clampAt := some s.now, clampFlag := true, clampInPeriod := true }).count Kind.clamp c 1).markChan c
      .clamp 2 none

theorem clampSeen_onlyChan (hw : s.wf = true) (servo : Nat) :
    OnlyChan c (·.fe.range) (s.count Kind.clamp c 1) (s.clampSeen c servo) := by
  have hserved : OnlyChan c (·.fe.range) s (s.servoTakes c servo) :=
    servoTakes_onlyChan hw servo fun _ _ _ _ => rfl
  exact ((hserved.andThen fun h => onlyChan_modFe h _ rfl).count Kind.clamp c 1).andThen fun h =>
    markChan_onlyChan h _ _ _ fun _ _ => rfl

theorem clampSeen_flags (hw : s.wf = true) (servo : Nat) :
    ((s.clampSeen c servo).chan c).fe.clamping = true ∧ ((s.clampSeen c servo).chan c).fe.clampFlag = true := by
  have hserved : OnlyChan c (fun _ => ()) s (s.servoTakes c servo) := servoTakes_onlyChan hw servo fun _ _ _ _ => rfl
  have hread := chan_modFe_same hserved.wf c fun f => { f with
    clamping := true, clampAt := some s.now, clampFlag := true, clampInPeriod := true }
  have hmarked : ((s.clampSeen c servo).chan c).fe = _ :=
    (markChan_onlyChan (view := Channel.fe) (wf_count (wf_modFe hserved.wf c _) Kind.clamp c 1) _ _ _
      fun _ _ => rfl).own.trans hread
  exact ⟨congrArg FrontEnd.clamping hmarked, congrArg FrontEnd.clampFlag hmarked⟩

/-- The switch of a clamp event that rescues: to range 0 at once (spec 05 R126). -/
def rescue (c : Nat) (at_ : Tick) (s : State) : State :=
  (s.setRange c 0).modFe c fun f => { f with rescuedAt := some at_, down := 0, held := s.modeOf c = 1 }

theorem clampStart_eq (c servo : Nat) (s : State) : s.clampStart c servo
    = if (s.clampSeen c servo).rescues c then (s.clampSeen c servo).rescue c s.now else s.clampSeen c servo := rfl

theorem rescue_onlyChan (hw : s.wf = true) (x : Tick) :
    OnlyChan c (fun ch => (ch.fe.clamping, ch.fe.clampFlag)) s (s.rescue c x) :=
  (setRange_onlyChan hw 0 fun _ _ _ _ => rfl).andThen fun h => onlyChan_modFe h _ rfl

theorem range_rescue (hw : s.wf = true) (x : Tick) : ((s.rescue c x).chan c).fe.range = 0 := by
  have hswitched : OnlyChan c (fun _ => ()) s (s.setRange c 0) := setRange_onlyChan hw 0 fun _ _ _ _ => rfl
  rw [rescue, chan_modFe_same hswitched.wf]
  exact range_setRange hw 0

/-- Without auto-ranging nothing is rescued; with it, what is not rescued stands in range 0 already (spec 05 R126). -/
theorem rescues_cases : (s.rescues c = true → s.autoRanging c = true)
    ∧ (s.rescues c = false → s.autoRanging c = true → (s.chan c).fe.range = 0) := by
  simp only [rescues, Bool.and_eq_true]
  refine ⟨And.left, fun h ha => ?_⟩
  by_contra hr
  simp [ha, hr] at h

/-- A clamp event is counted and flagged, and an auto-ranging channel stands in range 0 at once (spec 05 R120, R126). -/
theorem clampStart_effect (hw : s.wf = true) (servo : Nat) :
    OnlyChan c (fun _ => ()) (s.count Kind.clamp c 1) (s.clampStart c servo)
      ∧ ((s.clampStart c servo).chan c).fe.clamping = true ∧ ((s.clampStart c servo).chan c).fe.clampFlag = true
      ∧ (s.autoRanging c = true → ((s.clampStart c servo).chan c).fe.range = 0)
      ∧ (s.autoRanging c = false → ((s.clampStart c servo).chan c).fe.range = (s.chan c).fe.range) := by
  have hseen := clampSeen_onlyChan (c := c) hw servo
  have hauto : (s.clampSeen c servo).autoRanging c = s.autoRanging c := autoRanging_of_dist hseen.dist c
  obtain ⟨hclamping, hflag⟩ := clampSeen_flags (c := c) hw servo
  obtain ⟨honly, hrange⟩ := rescues_cases (c := c) (s := s.clampSeen c servo)
  rw [hauto] at honly hrange
  rw [clampStart_eq]
  split
  · next h =>
    have hrescue := rescue_onlyChan (c := c) hseen.wf s.now
    refine ⟨(hseen.map fun _ => ()).andThen fun _ => hrescue.map fun _ => (), ?_, ?_, fun _ => range_rescue hseen.wf _,
      fun ha => absurd (honly h) (by simp [ha])⟩
    · exact (congrArg Prod.fst hrescue.own).trans hclamping
    · exact (congrArg Prod.snd hrescue.own).trans hflag
  · next h => exact ⟨hseen.map fun _ => (), hclamping, hflag, hrange (by simpa using h), fun _ => hseen.own⟩

/-! ## The gates -/

/-- The integrator's gate ends at the present instant. -/
def gateEnded (c : Nat) (s : State) : State := s.modFe c fun f => { f with gate := none, lastGateEnd := s.now }

theorem gateEnded_onlyChan (hw : s.wf = true) : OnlyChan c (·.card.inbox) s (s.gateEnded c) := onlyChan_modFe hw _ rfl

theorem fe_gateEnded (hw : s.wf = true) :
    ((s.gateEnded c).chan c).fe = { (s.chan c).fe with gate := none, lastGateEnd := s.now } := chan_modFe_same hw c _

/-- The return that the measuring gate of entry `i` gives as it closes (spec 05 R130). -/
def chargeReturn (c i raw : Nat) (ovr : Bool) (s : State) : Ret :=
  let v := Store.read (0, 0, 0) (s.chan c).fe.inter 0
  let integral := (correct raw v.1 v.2.1).toNat
  let e := s.entry i
  { c := c, element := e.element, tag := (s.chan c).fe.range, epoch := e.epoch, lt := e.lt
    validity := max (s.validAt c s.now) (if e.pickoff then e.pickValidity else 0), charge := true
    predicted := e.holdover || e.freeRun
    amplitude := integral, clipped := ovr || integral = 255, pickMissing := e.pickMissing, entry := i
    closeAt := e.planned + ns (8 * e.window) }

/-- A measuring gate that is due closes, with a return unless its shot calibrates or its channel is declared. -/
theorem gateClose_measuring {i raw current : Nat} {x : Tick} {ovr : Bool} (hg : (s.chan c).fe.gate = some ⟨some i, x⟩)
    (hx : x ≤ s.now) : s.gateClose c raw ovr current
      = (s.gateEnded c).cond (!(s.entry i).cal && !s.declared c)
        fun u => (u.count Kind.returns c 1).receive (s.chargeReturn c i raw ovr) := by
  simp only [gateClose, hg]
  rw [if_neg (Nat.not_lt.mpr hx)]
  rfl

/-- A charge return is of class 3, and waits behind those that came before it (spec 10 R245). -/
theorem inbox_receive_charge {r : Ret} (hw : s.wf = true) (hr : r.charge = true) :
    ((s.receive r).chan r.c).card.inbox = (s.chan r.c).card.inbox
      ++ [{ r with cls := 3, wide := s.wide r, seen := decide (1 ≤ (s.cohOf r).2), dropped := s.drops r.c 3 }] := by
  have hclass : s.classOf r = 3 := by simp [classOf, hr]
  rw [receive, hclass, modCard, chan_modChan_same hw]

theorem receive_onlyChan {r : Ret} (hw : s.wf = true) : OnlyChan r.c (·.fe) s (s.receive r) := by
  unfold receive
  exact onlyChan_modCard hw _

/-- An ambient gate that is due closes, and counts towards the return from fallback (spec 05 R129, R131). -/
theorem gateClose_ambient {raw current : Nat} {x : Tick} {ovr : Bool} (hg : (s.chan c).fe.gate = some ⟨none, x⟩)
    (hx : x ≤ s.now) : ∃ (y : Nat) (full : Bool), s.gateClose c raw ovr current
      = (((s.gateEnded c).modFe c fun f => { f with fbGood := if current < 2000 then f.fbGood + 1 else 0 }).cond
        (!s.underCal c) (chargeReading c y)).cond (!s.underCal c) (blindStep c full false (!full)) := by
  simp only [gateClose, hg]
  rw [if_neg (Nat.not_lt.mpr hx)]
  exact ⟨_, _, rfl⟩

theorem chargeReading_onlyChan (hw : s.wf = true) (y : Nat) :
    OnlyChan c (fun ch => (ch.fe, ch.card.inbox)) s (s.chargeReading c y) := onlyChan_modChan hw _ rfl

/-- An ambient gate touches its channel and, by the blinded test, reports; the count towards the return from fallback goes on
or starts over, and no return is given (spec 05 R129, R131). -/
theorem gateClose_ambient_effect (hw : s.wf = true) {raw current : Nat} {x : Tick} {ovr : Bool}
    (hg : (s.chan c).fe.gate = some ⟨none, x⟩) (hx : x ≤ s.now) :
    ChanReports c (·.card.inbox) s (s.gateClose c raw ovr current)
      ∧ ((s.gateClose c raw ovr current).chan c).fe = { (s.chan c).fe with
        gate := none, lastGateEnd := s.now, fbGood := if current < 2000 then (s.chan c).fe.fbGood + 1 else 0 } := by
  obtain ⟨y, full, heq⟩ := gateClose_ambient (raw := raw) (current := current) (ovr := ovr) hg hx
  have hended := gateEnded_onlyChan (c := c) hw
  have hcounted := chan_modFe_same hended.wf c fun f => { f with fbGood := if current < 2000 then f.fbGood + 1 else 0 }
  have hclosed := hended.andThen fun h => onlyChan_modFe h (fun f =>
    { f with fbGood := if current < 2000 then f.fbGood + 1 else 0 }) rfl
  have hread := onlyChan_cond hclosed.wf (chargeReading_onlyChan (c := c) hclosed.wf y) (!s.underCal c)
  have hrest := hread.thenReports fun h => chanReports_cond h
    (blindStep_reports (c := c) h full false (!full)) (!s.underCal c)
  rw [heq]
  refine ⟨hclosed.thenReports fun _ => hrest.map Prod.snd, (congrArg Prod.fst hrest.own).trans (hcounted.trans ?_)⟩
  rw [fe_gateEnded hw]

end

end State

/-! ## The events -/

section
variable {t : Tick} {c : Nat} {s : State}

/-- CLAMP_EVENT (spec 05 R120, R126). -/
theorem exec_clampEvent (hw : s.wf = true) (servo : Nat) :
    ∃ u, exec (.clampEvent t ⟨c, servo⟩) s = .next u ∧ (u.chan c).fe.clamping = true
      ∧ (u.chan c).fe.clampFlag = true ∧ u.counter Kind.clamp c = (s.counter Kind.clamp c + 1) % 2 ^ 32
      ∧ (s.autoRanging c = true → (u.chan c).fe.range = 0)
      ∧ (s.autoRanging c = false → (u.chan c).fe.range = (s.chan c).fe.range) ∧ (∀ k, k ≠ c → u.chan k = s.chan k)
      ∧ u = { s with clock := u.clock, chans := u.chans, counters := u.counters } := by
  obtain ⟨honly, hclamping, hflag, hauto, hfixed⟩ := State.clampStart_effect (s := s.advance t) (c := c) hw servo
  refine ⟨_, rfl, hclamping, hflag, ?_, hauto, hfixed, honly.others, ?_⟩
  · obtain ⟨m, hm⟩ := honly.same
    rw [hm]
    exact State.counter_count_same hw Kind.clamp c 1
  · obtain ⟨m, hm⟩ := honly.same
    change (s.advance t).clampStart c servo = _
    rw [hm]
    rfl

/-- CLAMP_END (spec 05 R121, R123). -/
theorem exec_clampEnd (ht : s.now ≤ t) (hc : (s.chan c).fe.clamping = true) :
    exec (.clampEnd t c) s = .next ((s.advance t).modChan c fun ch => { ch with
      fe := { ch.fe with clamping := false, servoUntil := t + us 1 }, marks := endMark .clamp (t + ns 10) ch.marks }) := by
  have hnow : (s.advance t).now = t := by simp [ht]
  change Host.Outcome.next ((s.advance t).clampEnd c) = _
  rw [State.clampEnd, if_pos (show ((s.advance t).chan c).fe.clamping = true from hc), hnow]

/-- AMBIENT_GATE_OPEN (spec 05 R129). -/
theorem exec_ambientGateOpen (ht : s.now ≤ t) (hm : s.modeOf c = 2) (hg : (s.chan c).fe.gate = none)
    (hi : (s.chan c).fe.lastGateEnd + ns 8 ≤ t) (ho : (s.advance t).windowOpening c = false) :
    exec (.ambientGateOpen t c) s = .next ((s.advance t).modChan c fun ch => { ch with
      fe := { ch.fe with gate := some ⟨none, t + ns 4096⟩ } }) := by
  have hnow : (s.advance t).now = t := by simp [ht]
  have hmode : (s.advance t).modeOf c = 2 := hm
  have hgate : ((s.advance t).chan c).fe.gate = none := hg
  have hidle : ¬t < ((s.advance t).chan c).fe.lastGateEnd + ns 8 := Nat.not_lt.mpr hi
  change Host.Outcome.next ((s.advance t).ambientGate c) = _
  simp only [State.ambientGate, hmode, hgate, hnow, ho, hidle]
  rfl

/-- GATE_CLOSE of a measuring gate whose shot calibrates or whose channel is declared (spec 05 R130). -/
theorem exec_gateClose_untaken (ht : s.now ≤ t) (hw : s.wf = true) {i x : Nat} (integral current : Nat) (ovr : Bool)
    (hg : (s.chan c).fe.gate = some ⟨some i, x⟩) (hx : x ≤ t) (hno : (s.entry i).cal = true ∨ s.declared c = true) :
    ∃ u, exec (.gateClose t c ⟨integral, current⟩ ovr) s = .next u ∧ (u.chan c).fe.gate = none
      ∧ (u.chan c).card.inbox = (s.chan c).card.inbox ∧ (∀ k, k ≠ c → u.chan k = s.chan k)
      ∧ u = { s with clock := u.clock, chans := u.chans, counters := u.counters } := by
  have hnow : (s.advance t).now = t := by simp [ht]
  have heq := State.gateClose_measuring (s := s.advance t) (raw := integral) (current := current) (ovr := ovr) hg
    (hx.trans hnow.ge)
  have hskip : (!((s.advance t).entry i).cal && !(s.advance t).declared c) = false := by
    rcases hno with h | h
    · rw [show ((s.advance t).entry i).cal = true from h]
      rfl
    · rw [show (s.advance t).declared c = true from h]
      simp
  rw [hskip] at heq
  have hended := State.gateEnded_onlyChan (s := s.advance t) (c := c) hw
  refine ⟨_, congrArg Host.Outcome.next heq, ?_, hended.own, hended.others, rfl⟩
  exact congrArg FrontEnd.gate (State.fe_gateEnded (s := s.advance t) hw)

/-- GATE_CLOSE of any other measuring gate gives one return (spec 05 R130, 06 R151, 10 R245). -/
theorem exec_gateClose_returned (ht : s.now ≤ t) (hw : s.wf = true) {i x : Nat} (integral current : Nat) (ovr : Bool)
    (hg : (s.chan c).fe.gate = some ⟨some i, x⟩) (hx : x ≤ t) (hcal : (s.entry i).cal = false)
    (hdecl : s.declared c = false) :
    let v := Store.read (0, 0, 0) (s.chan c).fe.inter 0
    ∃ u r, exec (.gateClose t c ⟨integral, current⟩ ovr) s = .next u ∧ (u.chan c).fe.gate = none
      ∧ (u.chan c).card.inbox = (s.chan c).card.inbox ++ [r] ∧ r.charge = true ∧ r.cls = 3
      ∧ r.amplitude = (correct integral v.1 v.2.1).toNat
      ∧ r.element = (s.entry i).element ∧ r.lt = (s.entry i).lt ∧ r.c = c ∧ r.tag = (s.chan c).fe.range
      ∧ u.counter Kind.returns c = (s.counter Kind.returns c + 1) % 2 ^ 32 ∧ (∀ k, k ≠ c → u.chan k = s.chan k)
      ∧ u = { s with clock := u.clock, chans := u.chans, counters := u.counters } := by
  have hnow : (s.advance t).now = t := by simp [ht]
  have heq := State.gateClose_measuring (s := s.advance t) (raw := integral) (current := current) (ovr := ovr) hg
    (hx.trans hnow.ge)
  have htake : (!((s.advance t).entry i).cal && !(s.advance t).declared c) = true := by
    rw [show ((s.advance t).entry i).cal = false from hcal, show (s.advance t).declared c = false from hdecl]
    rfl
  rw [htake] at heq
  have hended := State.gateEnded_onlyChan (s := s.advance t) (c := c) hw
  have hcounted := State.wf_count hended.wf Kind.returns c 1
  have hinbox := State.inbox_receive_charge (r := (s.advance t).chargeReturn c i integral ovr) hcounted rfl
  have hreceived := State.receive_onlyChan (r := (s.advance t).chargeReturn c i integral ovr) hcounted
  have hgate := congrArg FrontEnd.gate (hreceived.own.trans (State.fe_gateEnded (s := s.advance t) hw))
  refine ⟨_, _, congrArg Host.Outcome.next heq, hgate, hinbox.trans (congrArg (· ++ _) hended.own), rfl, rfl, rfl, rfl,
    rfl, rfl, rfl, ?_, fun k hk => (hreceived.others k hk).trans (hended.others k hk), rfl⟩
  exact State.counter_count_same hended.wf Kind.returns c 1

/-- GATE_CLOSE of an ambient gate (spec 05 R129, R131). -/
theorem exec_gateClose_ambient (ht : s.now ≤ t) (hw : s.wf = true) {x : Nat} (integral current : Nat) (ovr : Bool)
    (hg : (s.chan c).fe.gate = some ⟨none, x⟩) (hx : x ≤ t) :
    ∃ u, exec (.gateClose t c ⟨integral, current⟩ ovr) s = .next u ∧ (u.chan c).fe.gate = none
      ∧ (u.chan c).fe.fbGood = (if current < 2000 then (s.chan c).fe.fbGood + 1 else 0)
      ∧ (u.chan c).card.inbox = (s.chan c).card.inbox ∧ (∀ k, k ≠ c → u.chan k = s.chan k)
      ∧ u = { s with clock := u.clock, chans := u.chans, counters := u.counters, recs := u.recs, nvCtl := u.nvCtl
                     side := u.side } := by
  have hnow : (s.advance t).now = t := by simp [ht]
  obtain ⟨⟨⟨m, n, r, q, p, hsame⟩, hothers, hinbox⟩, hfe⟩ := State.gateClose_ambient_effect (s := s.advance t)
    (raw := integral) (current := current) (ovr := ovr) hw hg (hx.trans hnow.ge)
  refine ⟨_, rfl, congrArg FrontEnd.gate hfe, congrArg FrontEnd.fbGood hfe, hinbox, hothers, ?_⟩
  change (s.advance t).gateClose c integral ovr current = _
  rw [hsame]
  rfl

end

/-- Settles O21: each clause follows from the effect of its event's operation. -/
theorem clampAndGatesTakeEffect : Obligations.ClampAndGatesTakeEffect := by
  unfold Obligations.ClampAndGatesTakeEffect
  intro t c s ht hw
  refine ⟨fun servo => exec_clampEvent hw servo, exec_clampEnd ht, exec_ambientGateOpen ht,
    fun i x integral current ovr hg hx => ⟨?untaken, ?returned⟩, fun x integral current ovr hg hx =>
      exec_gateClose_ambient ht hw integral current ovr hg hx⟩
  case untaken => exact exec_gateClose_untaken ht hw integral current ovr hg hx
  case returned => exact exec_gateClose_returned ht hw integral current ovr hg hx

end Sys2Proof.Machine
end

section
/-! PROOFS. Range boundaries of an auto-ranging channel (spec 05 R124-R126): what each part of a boundary leaves of the range
and of its count, and how auto-ranging moves them. -/

namespace Sys2Proof.Machine

/-- What auto-ranging starts from: the range and the count towards the way up, whether the period saw a clamp event, the last
rescue, and whether the channel is in fallback. -/
def FrontEnd.ranging (f : FrontEnd) : Nat × Nat × Bool × Option Tick × Bool :=
  (f.range, f.down, f.clampInPeriod, f.rescuedAt, f.fallback)

namespace State

section
variable {c dev : Nat} {ovr : Bool} {s u : State}

theorem modeOf_of_dist (h : u.dist = s.dist) (hf : (u.chan c).fe.fallback = (s.chan c).fe.fallback) :
    u.modeOf c = s.modeOf c := by simp only [modeOf, hf, popt_of_dist h]

/-! ## The servo and the ambient reading at a boundary (spec 05 R123, 10 R236) -/

/-- A boundary as it begins: the servo has taken its current. -/
def boundaryNoted (c servo : Nat) (s : State) : State :=
  (s.servoTakes c servo).modFe c fun f => { f with lastBoundary := some s.now }

/-- A boundary before auto-ranging: the ambient reading has been taken. -/
def boundaryTaken (c servo : Nat) (s : State) : State :=
  let x := s.boundaryNoted c servo
  x.cond (x.modeOf c ≠ 2 && !x.underCal c) (ambientReading c (x.chan c).fe.servo)

theorem ambientReading_onlyChan (hw : s.wf = true) (x : Nat) : OnlyChan c (·.fe) s (s.ambientReading c x) := by
  unfold ambientReading
  exact onlyChan_modCard hw _

theorem boundaryTaken_effect (hw : s.wf = true) (servo : Nat) :
    OnlyChan c (·.fe.ranging) s (s.boundaryTaken c servo)
      ∧ ((s.boundaryTaken c servo).chan c).fe.lastBoundary = some s.now := by
  have hserved : OnlyChan c (·.fe.ranging) s (s.servoTakes c servo) := servoTakes_onlyChan hw servo fun _ _ _ _ => rfl
  have hnoted : OnlyChan c (·.fe.ranging) s (s.boundaryNoted c servo) :=
    hserved.andThen fun h => onlyChan_modFe h _ rfl
  have hread : OnlyChan c (·.fe) (s.boundaryNoted c servo) (s.boundaryTaken c servo) :=
    onlyChan_cond hnoted.wf (ambientReading_onlyChan hnoted.wf _) _
  refine ⟨hnoted.andThen fun _ => hread.map FrontEnd.ranging, (congrArg FrontEnd.lastBoundary hread.own).trans ?_⟩
  rw [boundaryNoted, chan_modFe_same hserved.wf]

/-! ## Auto-ranging (spec 05 R125) -/

/-- How auto-ranging moves the range and its count from `s` to `u`, where `dev` is the largest deviation of the period's
samples and `ovr` says that one of them was over range. -/
structure Ranges (c dev : Nat) (ovr : Bool) (s u : State) : Prop where
  toLess : 204 ≤ dev ∨ ovr = true → 0 < (s.chan c).fe.range → (u.chan c).fe.range = (s.chan c).fe.range - 1
  toMore : dev ≤ 43 → ovr = false ∨ (s.chan c).fe.range = 0 → (s.chan c).fe.clampInPeriod = false →
    (s.chan c).fe.range < 3 →
    (s.pnum Par.downCount c ≤ (s.chan c).fe.down + 1 → (u.chan c).fe.range = (s.chan c).fe.range + 1)
    ∧ ((s.chan c).fe.down + 1 < s.pnum Par.downCount c →
      (u.chan c).fe.range = (s.chan c).fe.range ∧ (u.chan c).fe.down = (s.chan c).fe.down + 1)
  stays : 43 < dev → (dev < 204 ∧ ovr = false) ∨ (s.chan c).fe.range = 0 →
    (u.chan c).fe.range = (s.chan c).fe.range ∧ (u.chan c).fe.down = 0

/-- The period that the boundary ends is over for the rescue and for the clamp. -/
def newPeriod (c : Nat) (s : State) : State :=
  s.modFe c fun f => { f with
    rescuedAt := if f.rescuedAt = some s.now then f.rescuedAt else none, clampInPeriod := f.clamping }

theorem autoRange_eq (hm : s.modeOf c = 0) (ha : s.autoRanging c = true) (hr : (s.chan c).fe.rescuedAt = none) :
    s.autoRange c dev ovr =
      if (204 ≤ dev ∨ ovr = true) ∧ 0 < (s.chan c).fe.range then
        ((s.newPeriod c).modFe c fun f => { f with down := 0 }).setRange c ((s.chan c).fe.range - 1)
      else if dev ≤ 43 ∧ (s.chan c).fe.clampInPeriod = false then
        if s.pnum Par.downCount c ≤ (s.chan c).fe.down + 1 ∧ (s.chan c).fe.range < 3 then
          ((s.newPeriod c).modFe c fun f => { f with down := 0 }).setRange c ((s.chan c).fe.range + 1)
        else (s.newPeriod c).modFe c fun f => { f with down := f.down + 1 }
      else (s.newPeriod c).modFe c fun f => { f with down := 0 } := by
  simp only [autoRange, hm, ha, hr, newPeriod, ne_eq, not_true_eq_false, Bool.not_true, Bool.false_eq_true, or_self,
    if_false, Bool.not_eq_true']

theorem autoRange_onlyChan (hw : s.wf = true) (hm : s.modeOf c = 0) (ha : s.autoRanging c = true)
    (hr : (s.chan c).fe.rescuedAt = none) : OnlyChan c (·.fe.lastBoundary) s (s.autoRange c dev ovr) := by
  have hstep (g : FrontEnd → FrontEnd) (hg : ∀ f, (g f).lastBoundary = f.lastBoundary) :
      OnlyChan c (·.fe.lastBoundary) s ((s.newPeriod c).modFe c g) :=
    (onlyChan_modFe hw _ rfl).andThen fun h => onlyChan_modFe h _ (hg _)
  have hswitch (r : Nat) : OnlyChan c (·.fe.lastBoundary) s
      (((s.newPeriod c).modFe c fun f => { f with down := 0 }).setRange c r) :=
    (hstep (fun f => { f with down := 0 }) fun _ => rfl).andThen fun h => setRange_onlyChan h r fun _ _ _ _ => rfl
  rw [autoRange_eq hm ha hr]
  split_ifs
  · exact hswitch _
  · exact hswitch _
  · exact hstep _ fun _ => rfl
  · exact hstep _ fun _ => rfl

/-- Each kind of period takes its own branch. -/
theorem autoRange_ranges (hw : s.wf = true) (hm : s.modeOf c = 0) (ha : s.autoRanging c = true)
    (hr : (s.chan c).fe.rescuedAt = none) : Ranges c dev ovr s (s.autoRange c dev ovr) := by
  have hperiod : (s.newPeriod c).wf = true := wf_modFe hw c _
  have hread (g : FrontEnd → FrontEnd) : (((s.newPeriod c).modFe c g).chan c).fe = g { (s.chan c).fe with
      rescuedAt := if (s.chan c).fe.rescuedAt = some s.now then (s.chan c).fe.rescuedAt else none
      clampInPeriod := (s.chan c).fe.clamping } := by
    rw [chan_modFe_same hperiod, newPeriod, chan_modFe_same hw]
  rw [autoRange_eq hm ha hr]
  refine ⟨fun hd h0 => ?_, fun hd ho hc h3 => ?_, fun hd h => ?_⟩
  · rw [if_pos ⟨hd, h0⟩]
    exact range_setRange (wf_modFe hperiod c _) _
  · have hno : ¬((204 ≤ dev ∨ ovr = true) ∧ 0 < (s.chan c).fe.range) := by
      rintro ⟨h | h, h0⟩
      · omega
      · rcases ho with ho | ho
        · simp [h] at ho
        · omega
    rw [if_neg hno, if_pos ⟨hd, hc⟩]
    refine ⟨fun hn => ?_, fun hn => ?_⟩
    · rw [if_pos ⟨hn, h3⟩]
      exact range_setRange (wf_modFe hperiod c _) _
    · rw [if_neg (by omega), hread]
      exact ⟨rfl, rfl⟩
  · have hno : ¬((204 ≤ dev ∨ ovr = true) ∧ 0 < (s.chan c).fe.range) := by
      rintro ⟨hd', h0⟩
      rcases h with ⟨h, ho⟩ | h
      · rcases hd' with h' | h'
        · omega
        · simp [h'] at ho
      · omega
    rw [if_neg hno, if_neg (by omega), hread]
    exact ⟨rfl, rfl⟩

/-- What stands before and after auto-ranging may stand elsewhere. -/
theorem Ranges.of_same {s' u' : State} (h : Ranges c dev ovr s' u') (hd : s'.dist = s.dist)
    (hs : (s'.chan c).fe.ranging = (s.chan c).fe.ranging)
    (hrange' : (u.chan c).fe.range = (u'.chan c).fe.range) (hdown' : (u.chan c).fe.down = (u'.chan c).fe.down) :
    Ranges c dev ovr s u := by
  simp only [FrontEnd.ranging, Prod.mk.injEq] at hs
  obtain ⟨hrange, hdown, hclamp, -, -⟩ := hs
  obtain ⟨toLess, toMore, stays⟩ := h
  rw [hrange, ← hrange'] at toLess
  rw [hrange, hdown, hclamp, pnum_of_dist hd, ← hrange', ← hdown'] at toMore
  rw [hrange, ← hrange', ← hdown'] at stays
  exact ⟨toLess, toMore, stays⟩

/-! ## What follows auto-ranging -/

/-- With automatic fallback off, the fallback test touches its own counts alone (spec 05 R131). -/
theorem fallbackStep_of_off (hf : s.popt Par.autoFallback c = 0) (clamped : Bool) :
    s.fallbackStep c clamped = s.modFe c fun f => { f with
      fbClamp := if clamped then f.fbClamp + 1 else 0, fbSat := if f.satAll then f.fbSat + 1 else 0
      satAll := f.saturated } := by
  simp only [fallbackStep, hf, true_or, if_true]

/-- Carding's levels stand beside the front end (spec 10 R238-R240). -/
theorem levels_onlyChan (hw : s.wf = true) (changed : Bool) : OnlyChan c (·.fe) s (s.levels c changed) := by
  unfold levels
  exact (onlyChan_cond hw (onlyChan_modCard hw _) _).andThen fun h => onlyChan_cond h (onlyChan_modCard h _) _

/-- What a boundary does once the range has been moved from `range`: the fallback test, the levels and the blinded test. -/
def afterRanging (c range : Nat) (clamped sat : Bool) (s : State) : State :=
  let x := s.fallbackStep c clamped
  if x.modeOf c = 2 ∨ x.underCal c then x
  else
    let y := x.levels c ((x.chan c).fe.range ≠ range)
    let l := y.levelFor c
    let blind := y.pnum Par.blindLevel c
    y.blindStep c sat (decide (blind ≤ l)) (!sat && decide (4 * l < 3 * blind))

theorem rangeBoundary_eq (hb : s.atBoundary c = true) (servo : Nat) : ∃ range clamped sat,
    s.rangeBoundary c dev ovr servo = ((s.boundaryTaken c servo).autoRange c dev ovr).afterRanging c range clamped sat := by
  let f := ((s.boundaryNoted c servo).chan c).fe
  refine ⟨f.range, f.clampInPeriod && f.range = 0, f.saturated, ?_⟩
  rw [rangeBoundary, hb]
  unfold afterRanging boundaryTaken
  dsimp only
  rw [if_neg (by simp)]
  rfl

/-- It leaves the range and its count. -/
theorem afterRanging_reports (hw : s.wf = true) (hf : s.popt Par.autoFallback c = 0) (range : Nat) (clamped sat : Bool) :
    ChanReports c (fun ch => (ch.fe.lastBoundary, ch.fe.range, ch.fe.down)) s (s.afterRanging c range clamped sat) := by
  have hstep : OnlyChan c (fun ch => (ch.fe.lastBoundary, ch.fe.range, ch.fe.down)) s (s.fallbackStep c clamped) := by
    rw [fallbackStep_of_off hf]
    exact onlyChan_modFe hw _ rfl
  have hlevels := (levels_onlyChan (c := c) hstep.wf
    (((s.fallbackStep c clamped).chan c).fe.range ≠ range)).map fun f => (f.lastBoundary, f.range, f.down)
  unfold afterRanging
  dsimp only
  split
  · exact hstep.reports
  · exact hstep.thenReports fun _ => hlevels.thenReports fun h =>
      (blindStep_reports h ..).map fun p => (p.1.lastBoundary, p.1.range, p.1.down)

/-- A boundary is noted, and moves the range by its rule; its channel alone changes, and the blinded test may report. -/
theorem rangeBoundary_effect (hw : s.wf = true) (hm : s.modeOf c = 0) (ha : s.autoRanging c = true)
    (hf : s.popt Par.autoFallback c = 0) (hr : (s.chan c).fe.rescuedAt = none) (hb : s.atBoundary c = true) (servo : Nat) :
    ChanReports c (fun _ => ()) s (s.rangeBoundary c dev ovr servo)
      ∧ ((s.rangeBoundary c dev ovr servo).chan c).fe.lastBoundary = some s.now
      ∧ Ranges c dev ovr s (s.rangeBoundary c dev ovr servo) := by
  obtain ⟨htaken, hnoted⟩ := boundaryTaken_effect (c := c) hw servo
  have hranging := htaken.own
  simp only [FrontEnd.ranging, Prod.mk.injEq] at hranging
  obtain ⟨-, -, -, hrescued, hfallback⟩ := hranging
  have hmode := (modeOf_of_dist htaken.dist hfallback).trans hm
  have hauto := (autoRanging_of_dist htaken.dist c).trans ha
  have hranged := autoRange_onlyChan (dev := dev) (ovr := ovr) htaken.wf hmode hauto (hrescued.trans hr)
  have hmoves := autoRange_ranges (dev := dev) (ovr := ovr) htaken.wf hmode hauto (hrescued.trans hr)
  have hoff := (popt_of_dist (hranged.dist.trans htaken.dist) Par.autoFallback c).trans hf
  obtain ⟨range, clamped, sat, heq⟩ := rangeBoundary_eq (dev := dev) (ovr := ovr) hb servo
  have hafter := afterRanging_reports hranged.wf hoff range clamped sat
  rw [← heq] at hafter
  generalize s.rangeBoundary c dev ovr servo = u at hafter ⊢
  obtain ⟨hlast, hmoved⟩ := Prod.mk.inj hafter.own
  obtain ⟨hrange, hdown⟩ := Prod.mk.inj hmoved
  refine ⟨?_, hlast.trans (hranged.own.trans hnoted), hmoves.of_same htaken.dist htaken.own hrange hdown⟩
  exact (htaken.map fun _ => ()).thenReports fun _ => (hranged.map fun _ => ()).thenReports fun _ => hafter.map fun _ => ()

end

end State

/-- RANGE_BOUNDARY of an auto-ranging waveform channel (spec 05 R124-R126). -/
theorem exec_rangeBoundary {t : Tick} {c dev : Nat} {ovr : Bool} {s : State} (ht : s.now ≤ t) (hw : s.wf = true)
    (hm : s.modeOf c = 0) (ha : s.autoRanging c = true) (hf : s.popt Par.autoFallback c = 0)
    (hr : (s.chan c).fe.rescuedAt = none) (hb : (s.advance t).atBoundary c = true) (servo : Nat) :
    ∃ u, exec (.rangeBoundary t c dev ovr servo) s = .next u ∧ (u.chan c).fe.lastBoundary = some t
      ∧ State.Ranges c dev ovr s u ∧ (∀ k, k ≠ c → u.chan k = s.chan k)
      ∧ u = { s with clock := u.clock, chans := u.chans, counters := u.counters, recs := u.recs, nvCtl := u.nvCtl
                     side := u.side } := by
  have hnow : (s.advance t).now = t := by simp [ht]
  obtain ⟨⟨⟨m, n, r, q, p, hsame⟩, hothers, -⟩, hlast, hranges⟩ := State.rangeBoundary_effect (s := s.advance t)
    (dev := dev) (ovr := ovr) hw hm ha hf hr hb servo
  refine ⟨_, rfl, hlast.trans (congrArg some hnow), hranges.of_same rfl rfl rfl rfl, hothers, ?_⟩
  rw [hsame]
  rfl

/-- Settles O22: auto-ranging moves the range by its rule, and the rest of the boundary leaves it. -/
theorem autoRangingMovesOneRange : Obligations.AutoRangingMovesOneRange := by
  unfold Obligations.AutoRangingMovesOneRange
  intro t c dev servo ovr s ht hw hm ha hf hr hb
  obtain ⟨u, hexec, hlast, ⟨toLess, toMore, stays⟩, hothers, hframe⟩ := exec_rangeBoundary (dev := dev) (ovr := ovr) ht
    hw hm ha hf hr hb servo
  exact ⟨u, hexec, hlast, toLess, toMore, stays, hothers, hframe⟩

end Sys2Proof.Machine
end

section
/-! PROOFS. The detector bias of a bank (spec 05 R133-R138): what is read of a bank after changes, and what its events do. -/

namespace Sys2Proof.Machine

namespace State

/-! ## Changes of one bank -/

theorem banks_wf {s : State} (h : s.wf = true) : Store.wf {} s.banks = true := by
  simp only [wf, partsWf, Bool.and_eq_true] at h
  tauto

/-- A bank reads as it was changed. -/
theorem bank_modBank_same {s : State} (h : s.wf = true) (b : Nat) (g : Bank → Bank) :
    (s.modBank b g).bank b = g (s.bank b) := Store.read_write_same _ _ none b _ (banks_wf h)

/-- Another bank reads as before. -/
theorem bank_modBank_other {s : State} (h : s.wf = true) {b k : Nat} (hk : k ≠ b) (g : Bank → Bank) :
    (s.modBank b g).bank k = s.bank k := Store.read_write_other _ _ none b k _ (banks_wf h) hk

/-- From `s` to `u` only bank `b` has changed, and its bias controller is `x` now. -/
structure BiasBecomes (b : Nat) (x : Bias) (s u : State) : Prop where
  wf : u.wf = true
  same : ∃ m, u = s.modBanks fun _ => m
  others : ∀ k, k ≠ b → u.bank k = s.bank k
  own : (u.bank b).bias = x

section
variable {b : Nat} {x y : Bias} {s u v : State}

theorem biasBecomes_self (hw : s.wf = true) (b : Nat) : BiasBecomes b (s.bank b).bias s s :=
  ⟨hw, ⟨s.banks, rfl⟩, fun _ _ => rfl, rfl⟩

theorem BiasBecomes.modBank (h : BiasBecomes b x s u) {g : Bank → Bank} (hg : (g (u.bank b)).bias = y) :
    BiasBecomes b y s (u.modBank b g) := by
  refine ⟨(modBank_kept (.refl u)).wf h.wf, ?_, fun k hk => ?_, ?_⟩
  · obtain ⟨m, hm⟩ := h.same
    exact ⟨_, by rw [hm]; rfl⟩
  · exact (bank_modBank_other h.wf hk g).trans (h.others k hk)
  · exact (congrArg Bank.bias (bank_modBank_same h.wf b g)).trans hg

theorem BiasBecomes.modBias (h : BiasBecomes b x s u) {g : Bias → Bias} (hg : g x = y) :
    BiasBecomes b y s (u.modBias b g) := h.modBank ((congrArg g h.own).trans hg)

/-- Marks of the bank stand beside its bias. -/
theorem BiasBecomes.markBank (h : BiasBecomes b x s u) (k : MarkKind) (code : Nat) (stop : Option Tick) :
    BiasBecomes b x s (u.markBank b k code stop) := h.modBank h.own

/-- The gate stops, and the reference stands still (spec 05 R136, R137). -/
theorem BiasBecomes.stopGate (h : BiasBecomes b x s u) : BiasBecomes b { x with
    reference := u.biasReference b, rampAt := u.now, gateOn := false, moving := false, settled := false } s
      (u.stopGate b) := h.modBias rfl

/-- A change of bias aims at its target and moves; the rest of the regulation stands (spec 05 R133, R134). -/
theorem BiasBecomes.startBiasChange (h : BiasBecomes b x s u) (target : Nat) : BiasBecomes b { x with
    target := target, reference := u.biasReference b, rampAt := u.now, moving := true, settled := false } s
      (u.startBiasChange b target) := by
  have haimed : BiasBecomes b { x with target := target, reference := u.biasReference b, rampAt := u.now } s
      (u.aimBias b target) := h.modBias rfl
  refine BiasBecomes.markBank ?_ _ _ _
  exact haimed.modBias rfl

/-- So it reads after reports too. -/
theorem BiasBecomes.reported (h : BiasBecomes b x s u) (hr : Reported u v) :
    (v.bank b).bias = x ∧ (∀ k, k ≠ b → v.bank k = s.bank k) ∧ ∃ m, Reported (s.modBanks fun _ => m) v := by
  obtain ⟨m, rfl⟩ := h.same
  obtain ⟨r, c, p, rfl⟩ := hr
  exact ⟨h.own, h.others, m, r, c, p, rfl⟩

end

/-! ## Parameters -/

/-- A parameter's entry reads as it was stored; a default is not listed. -/
theorem paramAt_setParam_same {s : State} (h : Store.wf none s.dist.params = true) (id sub target : Nat) (v : PVal) :
    (s.setParam id sub target v).paramAt id sub target = v := by
  rw [paramAt, setParam, modDist_dist, Store.read_write_same none _ none _ _ h]
  split
  · next hd => exact hd.symm
  · rfl

/-! ## The operations -/

section
variable {b : Nat} {s : State}

/-- The eighth reading near the target ends the change, and the marks of the change and of a fault (spec 05 R133, R136). -/
theorem biasSettled_effect (hw : s.wf = true) {readings : List Nat} (hm : (s.bank b).bias.moving = true)
    (hl : readings.length = 8) (hn : readings.all (s.biasNear b) = true) :
    BiasBecomes b { (s.bank b).bias with moving := false, settled := true } s (s.biasSettled b readings)
      ∧ ((s.biasSettled b readings).bank b).marks = endMark .biasFault s.now (endMark .bias s.now (s.bank b).marks) := by
  have hsettled := (biasBecomes_self hw b).modBias (g := fun x => { x with moving := false, settled := true }) rfl
  rw [biasSettled, if_pos ⟨hm, hl, hn⟩]
  refine ⟨hsettled.modBank hsettled.own, ?_⟩
  rw [bank_modBank_same hsettled.wf, State.modBias, bank_modBank_same hw]

theorem isBiasFault_iff {force : Nat} {since : Tick} : s.isBiasFault b force since = true ↔
    (102 * s.pnum Par.ceiling b < 100 * force ∧ since + us 1 ≤ s.now) ∨ 25500 < force
      ∨ 125 * s.pnum Par.dividerRatios b ≤ 4096 * force := by
  simp only [isBiasFault, Bool.or_eq_true, Bool.and_eq_true, decide_eq_true_eq, or_assoc]

/-- A bank bias fault stops the gate and clears the enable, whatever it marks and reports (spec 05 R136). -/
theorem biasFault_effect (hw : s.wf = true) {force : Nat} {since : Tick} (hf : s.isBiasFault b force since = true) :
    ((s.biasFault b force since).bank b).bias.gateOn = false ∧ ((s.biasFault b force since).bank b).bias.faulted = true
      ∧ (∀ k, k ≠ b → (s.biasFault b force since).bank k = s.bank k)
      ∧ ∃ m, Reported ((s.setParam Par.biasEnable 0 b ⟨0, 0⟩).modBanks fun _ => m) (s.biasFault b force since) := by
  have hcleared : (s.setParam Par.biasEnable 0 b ⟨0, 0⟩).wf = true := (setParam_kept (.refl s)).wf hw
  have hstopped := ((biasBecomes_self hcleared b).stopGate.modBias (g := fun x => { x with faulted := true })
    rfl).markBank .biasFault 3 none
  rw [biasFault, if_pos hf]
  obtain ⟨hbias, hothers, hreported⟩ := hstopped.reported (health_reported ..)
  exact ⟨congrArg Bias.gateOn hbias, congrArg Bias.faulted hbias, hothers, hreported⟩

/-- A sense line is open after three readings that differ by more than 5 V (spec 05 R138). -/
theorem senseLost_of_differ {readings : List (Nat × Nat)} (hl : readings.length = 3)
    (hd : ∀ r ∈ readings, 500 < ((r.1 : Int) - r.2).natAbs) : senseLost readings = true := by
  simp only [senseLost, hl, decide_true, Bool.true_and, List.all_eq_true, decide_eq_true_eq]
  exact hd

theorem leadOf_of_length {earlier : List Int} (h : earlier.length = 64) : leadOf earlier = quotOpen earlier.sum 64 := by
  rw [leadOf, recent, h, Nat.sub_self, List.drop_zero]

/-- A sense-line open holds the lead offset and regulates anew, by force alone, to the same target (spec 05 R138). -/
theorem senseOpen_effect (hw : s.wf = true) {readings : List (Nat × Nat)} {earlier : List Int}
    (ho : (s.bank b).bias.senseOpen = false) (hl : senseLost readings = true) (he : 64 ≤ earlier.length) :
    let u := s.senseOpen b readings earlier
    ((u.bank b).bias.forceOnly = true ∧ (u.bank b).bias.lead = leadOf earlier
      ∧ (u.bank b).bias.target = (s.bank b).bias.target ∧ (u.bank b).bias.moving = true)
      ∧ (∀ k, k ≠ b → u.bank k = s.bank k) ∧ ∃ m, Reported (s.modBanks fun _ => m) u := by
  have hchanged := ((biasBecomes_self hw b).modBias (g := fun x => { x with
    senseOpen := true, forceOnly := true, lead := leadOf earlier }) rfl).startBiasChange (s.bank b).bias.target
  have hdeclares : ¬((s.bias b).senseOpen = true ∨ (!senseLost readings) = true ∨ earlier.length < 64) := by
    simp only [bias, ho, hl]
    simpa using he
  dsimp only
  rw [senseOpen, if_neg hdeclares]
  obtain ⟨hbias, hrest⟩ := hchanged.reported (health_reported ..)
  refine ⟨?_, hrest⟩
  rw [bias, hbias]
  exact ⟨rfl, rfl, rfl, rfl⟩

end

end State

/-! ## The events -/

section
variable {t : Tick} {b : Nat} {s : State}

/-- BIAS_SETTLED (spec 05 R133, R136). -/
theorem exec_biasSettled (ht : s.now ≤ t) (hw : s.wf = true) {readings : List Nat} (hm : (s.bank b).bias.moving = true)
    (hl : readings.length = 8) (hn : readings.all (s.biasNear b) = true) :
    ∃ u, exec (.biasSettled t ⟨b, readings⟩) s = .next u
      ∧ (u.bank b).bias = { (s.bank b).bias with moving := false, settled := true }
      ∧ (u.bank b).marks = endMark .biasFault t (endMark .bias t (s.bank b).marks)
      ∧ (∀ k, k ≠ b → u.bank k = s.bank k) ∧ u = { s with clock := u.clock, banks := u.banks } := by
  have hnow : (s.advance t).now = t := by simp [ht]
  obtain ⟨⟨-, ⟨m, hsame⟩, hothers, hbias⟩, hmarks⟩ := State.biasSettled_effect (s := s.advance t) hw hm hl hn
  rw [hnow] at hmarks
  refine ⟨_, rfl, hbias, hmarks, hothers, ?_⟩
  change (s.advance t).biasSettled b readings = _
  rw [hsame]
  rfl

/-- BIAS_FAULT (spec 05 R136, 22 R491). -/
theorem exec_biasFault (ht : s.now ≤ t) (hw : s.wf = true) {force : Nat} {since : Tick}
    (hf : (102 * s.pnum Par.ceiling b < 100 * force ∧ since + us 1 ≤ t) ∨ 25500 < force
      ∨ 125 * s.pnum Par.dividerRatios b ≤ 4096 * force) (hp : Store.wf none s.dist.params = true) :
    ∃ u, exec (.biasFault t b ⟨force, since⟩) s = .next u ∧ (u.bank b).bias.gateOn = false
      ∧ (u.bank b).bias.faulted = true ∧ u.param Par.biasEnable b = ⟨0, 0⟩ ∧ (∀ k, k ≠ b → u.bank k = s.bank k)
      ∧ u = { s with
          clock := u.clock, banks := u.banks, dist := u.dist, recs := u.recs, nvCtl := u.nvCtl, side := u.side } := by
  have hnow : (s.advance t).now = t := by simp [ht]
  have hfault : (s.advance t).isBiasFault b force since = true := State.isBiasFault_iff.mpr (hnow.symm ▸ hf)
  obtain ⟨hgate, hfaulted, hothers, m, r, q, p, hsame⟩ := State.biasFault_effect (s := s.advance t) hw hfault
  have hexec : exec (.biasFault t b ⟨force, since⟩) s = .next ((s.advance t).biasFault b force since) := rfl
  generalize (s.advance t).biasFault b force since = u at *
  refine ⟨u, hexec, hgate, hfaulted, ?_, hothers, by rw [hsame]; rfl⟩
  rw [hsame]
  exact State.paramAt_setParam_same (s := s.advance t) hp Par.biasEnable 0 b ⟨0, 0⟩

/-- SENSE_LINE_OPEN (spec 05 R138). -/
theorem exec_senseLineOpen (hw : s.wf = true) {readings : List (Nat × Nat)} {earlier : List Int}
    (ho : (s.bank b).bias.senseOpen = false) (hl : readings.length = 3)
    (hd : ∀ r ∈ readings, 500 < ((r.1 : Int) - r.2).natAbs) (he : earlier.length = 64) :
    ∃ u, exec (.senseLineOpen t b ⟨readings, earlier⟩) s = .next u ∧ (u.bank b).bias.forceOnly = true
      ∧ (u.bank b).bias.lead = quotOpen earlier.sum 64
      ∧ (u.bank b).bias.target = (s.bank b).bias.target ∧ (u.bank b).bias.moving = true
      ∧ (∀ k, k ≠ b → u.bank k = s.bank k)
      ∧ u = { s with clock := u.clock, banks := u.banks, recs := u.recs, nvCtl := u.nvCtl, side := u.side } := by
  obtain ⟨⟨hforce, hlead, htarget, hmoving⟩, hothers, m, r, q, p, hsame⟩ := State.senseOpen_effect (s := s.advance t) hw ho
    (State.senseLost_of_differ hl hd) he.ge
  rw [State.leadOf_of_length he] at hlead
  refine ⟨_, rfl, hforce, hlead, htarget, hmoving, hothers, ?_⟩
  change (s.advance t).senseOpen b readings earlier = _
  rw [hsame]
  rfl

end

/-- Settles O23: each clause follows from what its event's operation makes of the bank. -/
theorem biasEventsTakeEffect : Obligations.BiasEventsTakeEffect := by
  unfold Obligations.BiasEventsTakeEffect
  intro t b s ht hw
  refine ⟨fun readings hm hl hn => ?settled, fun force since hf hp => ?fault, fun readings earlier ho hl hd he => ?sense⟩
  case settled => exact exec_biasSettled ht hw hm hl hn
  case fault => exact exec_biasFault ht hw hf hp
  case sense => exact exec_senseLineOpen hw ho hl hd he

end Sys2Proof.Machine
end

section
/-! PROOFS. Background tracking (spec 06 R147) of an interleave offset that stands outside -128 to 127: the soundness of a
state does not bound its offsets. -/

namespace Sys2Proof.Machine

/-- The state after reset, where channel 0 is in waveform mode and tracked, but for an offset of 1000 in its stage 0. -/
def State.offsetAboveRange : State :=
  State.reset.modChan 0 fun ch => { ch with fe := { ch.fe with inter := [(0, (1000, 0, 0))] } }

/-- A tracking block ends at 2^31 with 2^17 samples in every stage, the mean of stage 0 above the mean of all: the offset,
beyond the end of its range, stays. -/
theorem State.trackBlock_offsetAboveRange :
    (Store.read (0, 0, 0) (((State.offsetAboveRange.advance (2 ^ 31)).trackBlock 0 (List.replicate 8 (2 ^ 17))
      [10000, 0, 0, 0, 0, 0, 0, 0] (List.replicate 8 0)).chan 0).fe.inter 0).1 = 1000 := by
  decide

/-- Refutes O24: tracking leaves an offset above its range where it stands, though its stage's mean stands above too. -/
theorem not_converterEventsTakeEffect : ¬ Obligations.ConverterEventsTakeEffect := by
  unfold Obligations.ConverterEventsTakeEffect
  rintro ⟨-, -, -, h⟩
  obtain ⟨u, hexec, -, -, hmoves⟩ := h (2 ^ 31) 0 (List.replicate 8 (2 ^ 17)) [10000, 0, 0, 0, 0, 0, 0, 0]
    (List.replicate 8 0) State.offsetAboveRange (by decide) (by decide) (by decide) rfl rfl (by decide)
  obtain ⟨-, hdown, -⟩ := hmoves 0 (by decide)
  have hmoved := hdown (by decide) (by decide)
  injection hexec with hu
  rw [← hu] at hmoved
  exact absurd (hmoved.symm.trans State.trackBlock_offsetAboveRange) (by decide)

end Sys2Proof.Machine
end

section
/-! PROOFS. READ EVENT LOG (spec 18 R437) while the page of an entry waits to be written. -/

namespace Sys2Proof.Machine

theorem length_le (n v : Nat) : (le n v).length = n := by
  rw [le, List.length_map, List.length_range]

namespace State

/-- Results of one length are told apart by the completion entries that bear them (spec 15 Table 15-5). -/
theorem completionBytes_inj {s : State} {l : Live} {status detail flags : Nat} {boundary : Option LineTime}
    {r r' : List Byte} (hr : r.length = r'.length)
    (h : s.completionBytes l status detail flags boundary r = s.completionBytes l status detail flags boundary r') :
    r = r' := by
  simp only [completionBytes, padTo, hr] at h
  exact List.append_cancel_right (List.append_cancel_left h)

/-- So they are by the states that a live command leaves as it succeeds. -/
theorem succeed_inj {s : State} {n : Nat} {r r' : List Byte} (hl : (s.liveOf n).isSome = true) (hr : r.length = r'.length)
    (h : s.succeed n r = s.succeed n r') : r = r' := by
  obtain ⟨l, hl⟩ := Option.isSome_iff_exists.mp hl
  have hwaiting := congrArg (fun u : State => u.dist.waiting) h
  simp only [succeed, completeWith, hl, modDist] at hwaiting
  obtain ⟨-, hentry⟩ := List.append_inj' hwaiting rfl
  injection hentry with hresponse
  injection hresponse with _ _ _ hbytes
  exact completionBytes_inj hr hbytes

section
variable {h : Hdr} {s : State} (t : Tick)

/-- A command starts without any change to the log. -/
theorem readLog_startOf (op : Nat) (h : Hdr) (s : State) (first count : Nat) :
    (s.startOf t op h).readLog first count = s.readLog first count := by
  obtain ⟨d, hd⟩ := startOf_eq t op h s
  rw [hd]
  rfl

/-- READ EVENT LOG answers with the numbers held and the entries asked for (spec 18 R437). -/
theorem exec_readEventLog (k : s.takes 0x1202 h = true) {first count : Nat} (h0 : 0 < count) (h63 : count ≤ 63) :
    exec (.readEventLog t h first count) s
      = .next ((s.startOf t 0x1202 h).succeed s.nextHandle (s.readLog first count)) := by
  have hcheck : ¬(count = 0 ∨ 63 < count) := by omega
  rw [← readLog_startOf t 0x1202 h]
  exact congrArg Host.Outcome.next (command_startOf t k (if_neg hcheck))

/-- An answer that fits READ EVENT LOG's but for the newest number bears the newest number held (spec 18 R437). -/
theorem newest_of_exec_readEventLog (k : s.takes 0x1202 h = true) {first count newest : Nat} (h0 : 0 < count)
    (h63 : count ≤ 63) (hanswer : exec (.readEventLog t h first count) s = .next ((s.startOf t 0x1202 h).succeed s.nextHandle
      (le 4 s.nvCtl.oldest ++ le 4 newest ++ le 8 0 ++ (s.logEntries first count).flatten))) :
    le 4 newest = le 4 s.logNewest := by
  rw [exec_readEventLog t k h0 h63] at hanswer
  injection hanswer with hstates
  have hlive : ((s.startOf t 0x1202 h).liveOf s.nextHandle).isSome = true := by
    rw [startOf_liveOf t k]
    rfl
  have hresults := succeed_inj hlive (by simp only [readLog, List.length_append, length_le]) hstates
  simp only [readLog, List.append_assoc] at hresults
  obtain ⟨hnewest, -⟩ := List.append_inj (List.append_cancel_left hresults) (by simp only [length_le])
  exact hnewest.symm

end

/-- A device in SAFE with Distaff up, where the next event-log entry has number 5. -/
def beforeEntry5 : State :=
  (((State.reset.modDev fun _ => .safe).modPower fun p => { p with nvAllowed := true }).modDist fun d => { d with
    up := true }).modNvCtl fun c => { c with next := 5 }

/-- It has logged an event: the page of entry 5 waits to be written (spec 18 R433, R436). -/
def logPageWaits : State := beforeEntry5.log Src.device 0x10 []

/-- Number 6 is the next to be given, and 4 is the newest held. -/
theorem logNewest_logPageWaits : logPageWaits.nvCtl.next = 6 ∧ logPageWaits.logNewest = 4 := by decide

end State

/-- Refutes O54: while the page of entry 5 waits to be written, READ EVENT LOG answers that 4 is the newest number held, not
the one before the next to be given. -/
theorem not_readingCommandsAnswer : ¬ Obligations.ReadingCommandsAnswer := by
  unfold Obligations.ReadingCommandsAnswer
  intro hall
  obtain ⟨-, -, -, -, hlog, -⟩ := hall 0 ⟨.link, 7, none, 16, 16⟩ State.logPageWaits (Nat.le_refl 0)
  have htakes : State.logPageWaits.takes 0x1202 ⟨.link, 7, none, 16, 16⟩ = true := by decide
  have hnewest := State.newest_of_exec_readEventLog 0 htakes Nat.one_pos (by decide)
    (hlog 0 1 htakes Nat.one_pos (by decide))
  obtain ⟨hnext, hheld⟩ := State.logNewest_logPageWaits
  rw [hheld, hnext] at hnewest
  exact absurd hnewest (by decide)

end Sys2Proof.Machine
end

section
/-! PROOFS. The housekeeping converter (spec 06 R152-R166): its starts, its runs, its conversions and its reference. -/

namespace Sys2Proof.Machine

namespace State

/-! ## Delayed starts -/

section
variable {s : State}

/-- A timer event starts a period, and a delayed start where none is pending (spec 06 R158, R159). -/
theorem hkTimerEvent_of_due (hr : s.hk.running = true) (hp : s.popt Par.hkTimer 0 ≠ 0) (hd : s.hkTimerDue = true) :
    s.hkTimerEvent = if s.hk.timerDue.isSome then s.startTimer.refuseStart
      else s.startTimer.modHk fun k => { k with timerDue := some (s.now + us (s.pnum Par.hkTimerDelay 0)) } := by
  simp only [hkTimerEvent, hr, hp, hd, Bool.not_true, Bool.false_eq_true, or_self, if_false]

/-- An HKTRIG pulse that fits gives a delayed start where none is pending (spec 06 R158, R159). -/
theorem hktrigPulse_of_fits {high : Bool} {w : Nat} (hr : s.hk.running = true) (hp : s.popt Par.hkPulse 0 ≠ 0)
    (hpol : high = true ↔ s.popt Par.hkPolarity 0 = 0) (hmin : 10 * s.pnum Par.hkPulseMin 0 ≤ 2 * (w / 2))
    (hmax : 2 * (w / 2) ≤ 10 * s.pnum Par.hkPulseMax 0) :
    s.hktrigPulse high w = if s.hk.pulseDue.isSome then s.refuseStart
      else s.modHk fun k => { k with pulseDue := some (s.now + us (s.pnum Par.hkPulseDelay 0)) } := by
  have hpolarity : (s.popt Par.hkPolarity 0 = 0) = (high = true) := propext hpol.symm
  simp only [hktrigPulse, hr, hp, hpolarity, hmin, hmax, decide_true, Bool.and_self, Bool.not_true, Bool.false_eq_true,
    or_self, if_false]

end

/-! ## Runs -/

section
variable {i input : Nat} {s : State}

theorem hkSlot_of_input (h : s.hk.seq[i]? = some input) :
    s.hkSlot i = (s.modHk fun k => { k with run := some i }).startConv input i 0 0 := by
  rw [hkSlot, h]

theorem hkSlot_of_no_input (h : s.hk.seq[i]? = none) :
    s.hkSlot i = s.modHk fun k => { k with run := none, conv := none } := by
  rw [hkSlot, h]

/-- A run that goes on or ends changes the converter alone, and not its queue (spec 06 R158). -/
theorem hkSlot_effect (i : Nat) (s : State) : (s.hkSlot i).hk.queue = s.hk.queue
    ∧ (s.hkSlot i).hk.run = (if i < s.hk.seq.length then some i else none) ∧ ∃ k, s.hkSlot i = s.modHk fun _ => k := by
  rcases hslot : s.hk.seq[i]? with - | input
  case none =>
    rw [hkSlot_of_no_input hslot, if_neg (List.getElem?_eq_none_iff.mp hslot).not_gt]
    exact ⟨rfl, rfl, _, rfl⟩
  case some =>
    obtain ⟨hlt, -⟩ := List.getElem?_eq_some_iff.mp hslot
    rw [hkSlot_of_input hslot, if_pos hlt]
    exact ⟨rfl, rfl, _, rfl⟩

/-- The inputs of the slots of a run that starts now (spec 06 R157). -/
def slotInputs (s : State) : List Nat :=
  (List.range (s.pnum Par.hkLength 0)).map fun i => (s.paramAt Par.hkSlotInput i 0).num.toNat

theorem slotInputs_getElem? (h : i < s.pnum Par.hkLength 0) :
    s.slotInputs[i]? = some (s.paramAt Par.hkSlotInput i 0).num.toNat := by
  rw [slotInputs, List.getElem?_map, List.getElem?_range h, Option.map_some]

/-- The timer's start falls due while nothing runs: a run begins with its first slot (spec 06 R158). -/
theorem hkRunStart_of_due {d : Tick} (hd : d ≤ s.now) (hr : s.hk.run = none) (hc : s.hk.conv = none)
    (ht : s.hk.timerDue = some d) : s.hkRunStart false = (s.modHk fun k => { k with
      timerDue := none, seq := s.slotInputs, runNumber := (k.runNumber + 1) % 2 ^ 32 }).hkSlot 0 := by
  simp only [hkRunStart, Bool.false_eq_true, if_false, ht, hd.not_gt, modHk_hk, hr, hc, Option.isSome_none, false_and,
    or_self]
  rfl

end

/-! ## Conversions -/

/-- Nothing but what is kept by bank changes from `s` to `u`. -/
def OnlyBanks (s u : State) : Prop := ∃ m, u = s.modBanks fun _ => m

theorem OnlyBanks.refl (s : State) : OnlyBanks s s := ⟨s.banks, rfl⟩

theorem OnlyBanks.trans {s u v : State} (h : OnlyBanks s u) (k : OnlyBanks u v) : OnlyBanks s v := by
  obtain ⟨_, rfl⟩ := h
  obtain ⟨m, rfl⟩ := k
  exact ⟨m, rfl⟩

theorem cond_onlyBanks {f : State → State} (h : ∀ u, OnlyBanks u (f u)) (b : Bool) (s : State) :
    OnlyBanks s (s.cond b f) := by
  rw [cond_eq]
  split
  · exact h s
  · exact .refl s

theorem modBias_onlyBanks (b : Nat) (g : Bias → Bias) (s : State) : OnlyBanks s (s.modBias b g) := ⟨_, rfl⟩

theorem startBiasChange_onlyBanks (b target : Nat) (s : State) : OnlyBanks s (s.startBiasChange b target) := ⟨_, rfl⟩

/-- The target of a bank's bias, computed again, changes what is kept by bank alone (spec 05 R133, R135). -/
theorem retarget_onlyBanks (b : Nat) (byTerm : Bool) (s : State) : OnlyBanks s (s.retarget b byTerm) := by
  unfold retarget
  dsimp only
  split
  · exact .refl s
  · split
    · exact modBias_onlyBanks ..
    · exact startBiasChange_onlyBanks ..

/-- So does a temperature term (spec 05 R135). -/
theorem hkTerm_onlyBanks (input code : Nat) (s : State) : OnlyBanks s (s.hkTerm input code) := by
  refine each_rel .refl .trans (fun b u => ?_) _ s
  dsimp only
  split
  · exact (modBias_onlyBanks ..).trans (retarget_onlyBanks ..)
  · exact .refl u

theorem calAwake_of_no_run {s : State} (h : s.cal.run = none) : s.calAwake = s := by
  rw [calAwake, h]

/-- A conversion of the sequence completes: its entry is queued, and it is converted again where it was a settling one, else
the run goes on (spec 06 R155, R156, R163). -/
theorem hkDone_of_sequence {code : Nat} {c : HkConv} {s : State} (hcode : code < 65536) (hc : s.hk.conv = some c)
    (hsource : c.source = 0) (hs : c.startedAt + us 1 ≤ s.now) :
    ∃ m, s.hkDone code none =
      let s1 := (s.hkPush (s.hkEntry c code (s.hkValidity c.settling none))).modBanks fun _ => m
      if c.settling then s1.modHk fun k => { k with conv := some { c with settling := false, startedAt := s.now } }
      else s1.hkSlot (c.slot + 1) := by
  obtain ⟨m, hm⟩ := cond_onlyBanks (hkTerm_onlyBanks c.input code) (s.hkValidity c.settling none = 0)
    (s.hkPush (s.hkEntry c code (s.hkValidity c.settling none)))
  exact ⟨m, by simp only [hkDone, hc, hs.not_gt, if_false, Nat.mod_eq_of_lt hcode, hm, hsource, if_true]⟩

/-- An entry has room in a queue of fewer than 256 (spec 06 R163). -/
theorem hkPush_of_room {e : List Byte} {s : State} (h : s.hk.queue.length < 256) :
    s.hkPush e = s.modHk fun k => { k with queue := k.queue ++ [e], dropped := 0, overrun := false } := by
  simp only [hkPush, modHk, h, if_true]

/-! ## The reference -/

theorem refFault_iff {s : State} : s.refFault = true ↔
    s.popt Par.hkReference 0 = 1 ∧ (s.hk.hkref < 950 ∨ 3400 < s.hk.hkref) := by
  simp only [refFault, Bool.and_eq_true, Bool.or_eq_true, decide_eq_true_eq]

/-- HKREF's voltage is taken; where it ends a fault, the reference settles anew (spec 06 R154). -/
theorem hkrefIs_effect (mv : Nat) (s : State) : (s.hkrefIs mv).hk.hkref = mv ∧ (∃ k, s.hkrefIs mv = s.modHk fun _ => k)
    ∧ (s.refFault = true → (s.modHk fun k => { k with hkref := mv }).refFault = false → s.popt Par.hkReference 0 ≠ 2 →
      (s.hkrefIs mv).hk.settled = false ∧ (s.hkrefIs mv).hk.settleAt = s.now + us 200) := by
  rw [hkrefIs, cond_eq]
  split
  case isTrue =>
    refine ⟨rfl, ⟨_, rfl⟩, fun _ _ hsupply => ⟨rfl, ?_⟩⟩
    have hopt : (s.modHk fun k => { k with hkref := mv }).popt Par.hkReference 0 ≠ 2 := hsupply
    simp only [unsettle, if_neg hopt]
    rfl
  case isFalse hstays =>
    exact ⟨rfl, ⟨_, rfl⟩, fun hfault hends _ => absurd (by rw [hfault, hends]; rfl) hstays⟩

end State

/-! ## The events -/

section
variable {t : Tick} {s : State}

/-- HK_TIMER_EVENT (spec 06 R158, R159). -/
theorem exec_hkTimerEvent (ht : s.now ≤ t) (hr : s.hk.running = true) (hp : s.popt Par.hkTimer 0 ≠ 0)
    (hd : (s.advance t).hkTimerDue = true) :
    (s.hk.timerDue = none → exec (.hkTimerEvent t) s = .next ((s.advance t).modHk fun k => { k with
      timerFrom := t, timerPeriod := s.pnum Par.hkPeriod 0, timerDue := some (t + us (s.pnum Par.hkTimerDelay 0)) }))
    ∧ (s.hk.timerDue.isSome = true → exec (.hkTimerEvent t) s = .next ((s.advance t).modHk fun k => { k with
      timerFrom := t, timerPeriod := s.pnum Par.hkPeriod 0, overruns := (k.overruns + 1) % 2 ^ 32, overrun := true })) := by
  have hnow : (s.advance t).now = t := max_eq_right ht
  have hexec : exec (.hkTimerEvent t) s = .next (s.advance t).hkTimerEvent := rfl
  rw [hexec, State.hkTimerEvent_of_due (s := s.advance t) hr hp hd, State.startTimer, hnow]
  refine ⟨fun hnone => ?_, fun hpending => ?_⟩
  · rw [State.advance_hk, hnone]
    rfl
  · rw [State.advance_hk, if_pos hpending]
    rfl

/-- HKTRIG_PULSE (spec 06 R158, R159). -/
theorem exec_hktrigPulse {high : Bool} {w : Nat} (ht : s.now ≤ t) (hr : s.hk.running = true) (hp : s.popt Par.hkPulse 0 ≠ 0)
    (hpol : high = true ↔ s.popt Par.hkPolarity 0 = 0) (hmin : 10 * s.pnum Par.hkPulseMin 0 ≤ 2 * (w / 2))
    (hmax : 2 * (w / 2) ≤ 10 * s.pnum Par.hkPulseMax 0) :
    (s.hk.pulseDue = none → exec (.hktrigPulse t high w) s = .next ((s.advance t).modHk fun k => { k with
      pulseDue := some (t + us (s.pnum Par.hkPulseDelay 0)) }))
    ∧ (s.hk.pulseDue.isSome = true → exec (.hktrigPulse t high w) s = .next ((s.advance t).modHk fun k => { k with
      overruns := (k.overruns + 1) % 2 ^ 32, overrun := true })) := by
  have hnow : (s.advance t).now = t := max_eq_right ht
  have hexec : exec (.hktrigPulse t high w) s = .next ((s.advance t).hktrigPulse high w) := rfl
  rw [hexec, State.hktrigPulse_of_fits (s := s.advance t) hr hp hpol hmin hmax, hnow]
  refine ⟨fun hnone => ?_, fun hpending => ?_⟩
  · rw [State.advance_hk, hnone]
    rfl
  · rw [State.advance_hk, if_pos hpending]
    rfl

/-- HK_RUN_START of the timer (spec 06 R158). -/
theorem exec_hkRunStart {d : Tick} (hd : d ≤ t) (hr : s.hk.run = none) (hc : s.hk.conv = none)
    (hdue : s.hk.timerDue = some d) (hl : 1 ≤ s.pnum Par.hkLength 0) :
    ∃ u, exec (.hkRunStart t false) s = .next u ∧ u.hk.timerDue = none ∧ u.hk.run = some 0
      ∧ u.hk.runNumber = (s.hk.runNumber + 1) % 2 ^ 32 ∧ u.hk.seq.length = s.pnum Par.hkLength 0
      ∧ (∀ i, i < s.pnum Par.hkLength 0 → u.hk.seq[i]? = some (s.paramAt Par.hkSlotInput i 0).num.toNat)
      ∧ (u.hk.conv.map fun c => (c.input, c.slot, c.source)) = some ((s.paramAt Par.hkSlotInput 0 0).num.toNat, 0, 0)
      ∧ u = { s with clock := u.clock, hk := u.hk } := by
  have hstart := State.hkRunStart_of_due (s := s.advance t) (hd.trans (le_max_right ..)) hr hc hdue
  rw [State.hkSlot_of_input (State.slotInputs_getElem? hl)] at hstart
  have hlength : s.slotInputs.length = s.pnum Par.hkLength 0 := by rw [State.slotInputs, List.length_map, List.length_range]
  exact ⟨_, congrArg Host.Outcome.next hstart, rfl, rfl, rfl, hlength, fun i hi => State.slotInputs_getElem? hi, rfl, rfl⟩

/-- HK_CONVERSION_DONE of the sequence (spec 06 R155, R156, R163). -/
theorem exec_hkConversionDone {code i : Nat} {c : HkConv} (hcode : code < 65536) (hc : s.hk.conv = some c)
    (hsource : c.source = 0) (hr : s.hk.run = some i) (hroom : s.hk.queue.length < 256) (hcal : s.cal.run = none)
    (hs : c.startedAt + us 1 ≤ t) :
    ∃ u, exec (.hkConversionDone t code none) s = .next u
      ∧ u.hk.queue = s.hk.queue ++ [(s.advance t).hkEntry c code ((s.advance t).hkValidity c.settling none)]
      ∧ (c.settling = true → u.hk.conv = some { c with settling := false, startedAt := max s.now t } ∧ u.hk.run = some i)
      ∧ (c.settling = false → u.hk.run = if c.slot + 1 < s.hk.seq.length then some (c.slot + 1) else none)
      ∧ u = { s with clock := u.clock, hk := u.hk, banks := u.banks } := by
  have hexec : exec (.hkConversionDone t code none) s = .next ((s.advance t).hkDone code none).calAwake := rfl
  obtain ⟨m, hdone⟩ := State.hkDone_of_sequence (s := s.advance t) hcode hc hsource (hs.trans (le_max_right ..))
  rw [State.hkPush_of_room (s := s.advance t) hroom] at hdone
  cases hsettling : c.settling with
  | true =>
    simp only [hsettling, if_true] at hdone
    rw [hexec, hdone, State.calAwake_of_no_run (by simpa using hcal)]
    exact ⟨_, rfl, rfl, fun _ => ⟨rfl, hr⟩, nofun, rfl⟩
  | false =>
    simp only [hsettling, Bool.false_eq_true, if_false] at hdone
    obtain ⟨hqueue, hrun, k, hsame⟩ := State.hkSlot_effect (c.slot + 1) (((s.advance t).modHk fun k => { k with
      queue := k.queue ++ [(s.advance t).hkEntry c code ((s.advance t).hkValidity false none)]
      dropped := 0, overrun := false }).modBanks fun _ => m)
    rw [← hdone] at hqueue hrun hsame
    refine ⟨_, hexec, ?_⟩
    rw [State.calAwake_of_no_run (by rw [hsame]; exact hcal)]
    exact ⟨hqueue, nofun, fun _ => hrun, by rw [hsame]; rfl⟩

/-- REFERENCE_SETTLED (spec 06 R154). -/
theorem exec_referenceSettled (hr : s.hk.running = true) (hs : s.hk.settleAt ≤ t) :
    exec (.referenceSettled t) s = .next ((s.advance t).modHk fun k => { k with settled := true }) := by
  have hpassed : s.hk.settleAt ≤ max s.now t := hs.trans (le_max_right ..)
  have hsettled : ((s.advance t).hk.running && decide ((s.advance t).hk.settleAt ≤ (s.advance t).now)) = true :=
    Bool.and_eq_true_iff.mpr ⟨hr, decide_eq_true hpassed⟩
  exact congrArg Host.Outcome.next (if_pos hsettled)

/-- EXTERNAL_REFERENCE_FAULT (spec 06 R154). -/
theorem exec_externalReferenceFault (t : Tick) (mv : Nat) (s : State) :
    ∃ u, exec (.externalReferenceFault t mv) s = .next u ∧ u.hk.hkref = mv ∧ u = { s with clock := u.clock, hk := u.hk }
      ∧ (s.popt Par.hkReference 0 = 1 → (s.hk.hkref < 950 ∨ 3400 < s.hk.hkref) → 950 ≤ mv → mv ≤ 3400 →
        u.hk.settled = false ∧ u.hk.settleAt = max s.now t + us 200) := by
  obtain ⟨hvoltage, ⟨k, hsame⟩, hsettles⟩ := State.hkrefIs_effect mv (s.advance t)
  refine ⟨_, rfl, hvoltage, ?_, fun hexternal hout hlow hhigh => ?_⟩
  · rw [hsame]
    rfl
  · refine hsettles (State.refFault_iff.mpr ⟨hexternal, hout⟩) (Bool.eq_false_iff.mpr fun hfault => ?_) ?_
    · have hwindow : mv < 950 ∨ 3400 < mv := (State.refFault_iff.mp hfault).2
      omega
    · exact ne_of_eq_of_ne hexternal (by decide)

end

/-- Settles O26: each clause follows from what its event's operation makes of the converter. -/
theorem housekeepingConverts : Obligations.HousekeepingConverts := by
  unfold Obligations.HousekeepingConverts
  refine ⟨fun t s ht hr hp hd => ?timer, fun t high w s ht hr hp hpol hmin hmax => ?pulse,
    fun t d s hd hr hc hdue hl => ?start, fun t code i c s hcode hc hsource hr hroom hcal hs => ?conversion,
    fun t s hr hs => ?settled, fun t mv s => ?reference⟩
  case timer => exact exec_hkTimerEvent ht hr hp hd
  case pulse => exact exec_hktrigPulse ht hr hp hpol hmin hmax
  case start => exact exec_hkRunStart hd hr hc hdue hl
  case conversion => exact exec_hkConversionDone hcode hc hsource hr hroom hcal hs
  case settled => exact exec_referenceSettled hr hs
  case reference => exact exec_externalReferenceFault t mv s

end Sys2Proof.Machine
end

section
/-! PROOFS. One channel and what stands beside the channels: the relation that the operations of the filter output, of the TDC
stamps and of Ply's pulses respect. -/

namespace Sys2Proof.Machine.State

section
variable {α β : Type} {c : Nat} {rest : State → β} {view : Channel → α} {s u v : State}

/-- A well-formed `s` goes to a well-formed `u` that differs in channel `c` alone of the channels, there in nothing that `view`
shows, and beside the channels in nothing that `rest` shows. -/
structure Touches (c : Nat) (rest : State → β) (view : Channel → α) (s u : State) : Prop where
  of_wf : s.wf = true →
    u.wf = true ∧ rest u = rest s ∧ (∀ j, j ≠ c → u.chan j = s.chan j) ∧ view (u.chan c) = view (s.chan c)

namespace Touches

theorem refl (s : State) : Touches c rest view s s := ⟨fun h => ⟨h, rfl, fun _ _ => rfl, rfl⟩⟩

theorem trans (h : Touches c rest view s u) (k : Touches c rest view u v) : Touches c rest view s v := by
  refine ⟨fun hw => ?_⟩
  obtain ⟨hwf, hrest, hothers, hown⟩ := h.of_wf hw
  obtain ⟨hwf', hrest', hothers', hown'⟩ := k.of_wf hwf
  exact ⟨hwf', hrest'.trans hrest, fun j hj => (hothers' j hj).trans (hothers j hj), hown'.trans hown⟩

theorem cond {f : State → State} (h : Touches c rest view s (f s)) (b : Bool) : Touches c rest view s (s.cond b f) := by
  cases b
  · exact .refl s
  · exact h

theorem ite {p : Prop} [Decidable p] (h : Touches c rest view s u) (k : Touches c rest view s v) :
    Touches c rest view s (if p then u else v) := by
  split
  · exact h
  · exact k

theorem each {ι : Type} {f : ι → State → State} (h : ∀ a u, Touches c rest view u (f a u)) (l : List ι) (s : State) :
    Touches c rest view s (s.each l f) := each_rel refl (fun h k => h.trans k) h l s

/-- A change of the channel itself. -/
theorem modChan {g : Channel → Channel} (hr : rest (s.modChan c g) = rest s := by rfl)
    (hg : view (g (s.chan c)) = view (s.chan c) := by rfl) : Touches c rest view s (s.modChan c g) :=
  ⟨fun hw => ⟨wf_modChan hw c g, hr, fun _ hj => chan_modChan_other hw hj g, by rw [chan_modChan_same hw, hg]⟩⟩

/-- A change beside the channels. -/
theorem beside (hk : Kept s u) (hc : u.chans = s.chans) (hr : s.wf = true → rest u = rest s) : Touches c rest view s u :=
  ⟨fun hw => ⟨hk.wf hw, hr hw, fun j _ => by rw [chan, hc, chan], by rw [chan, hc, chan]⟩⟩

theorem count {k i n : Nat} (hr : s.wf = true → rest (s.count k i n) = rest s := by exact fun _ => rfl) :
    Touches c rest view s (s.count k i n) := beside (count_kept (.refl s)) rfl hr

end Touches

end

end Sys2Proof.Machine.State
end

section
/-! PROOFS. The comparators on the filter output (spec 07 R177-R182): what a crossing, and a truncation, make of the comparator
and of the channel's event store. The trigger unit that sees them (spec 11 R254-R258) touches banks and counters besides. -/

namespace Sys2Proof.Machine

/-- A comparator less the stamps that the other one leaves in its event (spec 11 R255). -/
def Cmp.own (z : Cmp) : Cmp := { z with otherLead := none, otherTrail := none }

/-- A comparator whose output has risen to its level: its event is open. -/
def Cmp.rises (level hyst : Nat) (lead out : Tick) (v : Nat) (z : Cmp) : Cmp := { z with
  armed := false, inEvent := true, above := true, level := level, hyst := hyst, lead := lead, leadOut := out, leadCode := v
  otherLead := none, otherTrail := none }

/-- A comparator whose event has ended at the output `stop`. -/
def Cmp.ends (trail stop : Tick) (z : Cmp) : Cmp := { z with inEvent := false, trailOut := stop, lastTrail := trail }

/-- Comparator `k` of a channel. -/
def Channel.cmp (k : Nat) (ch : Channel) : Cmp := if k = 0 then ch.cmp0 else ch.cmp1

/-- The event store of a channel and its comparator `k`. -/
def Channel.sensed (k : Nat) (ch : Channel) : List Event × Tick × Cmp := (ch.events, ch.evBusy, (ch.cmp k).own)

namespace State

/-- What stands beside the channels, the banks and the counters, with the events that comparator `k` has started. -/
def besideSensors (c k : Nat) (s : State) : State × Nat :=
  ({ s with chans := [], banks := [], counters := [] }, s.counter (Kind.started0 + k) c)

theorem eq_of_besideSensors {s u : State} {t : Tick} {c k : Nat}
    (h : (u.besideSensors c k).1 = ((s.advance t).besideSensors c k).1) :
    u = { s with clock := u.clock, chans := u.chans, banks := u.banks, counters := u.counters } := by
  have hsame : u = { ((s.advance t).besideSensors c k).1 with
      chans := u.chans, banks := u.banks, counters := u.counters } := by rw [← h]; rfl
  have hclock : u.clock = (s.advance t).clock := by rw [hsame]; rfl
  rw [hclock]
  exact hsame

section
variable {α : Type} {c k : Nat} {view : Channel → α} {s : State}

theorem cmp_eq (c k : Nat) (s : State) : s.cmp c k = (s.chan c).cmp k := rfl

/-- The counter of another kind reads as before. -/
theorem counter_count_other (hw : s.wf = true) {i j : Nat} (h : j ≠ i) (c n : Nat) :
    (s.count i c n).counter j c = s.counter j c := by
  have hread := Store.read_modify 0 s.counters (i * 1024 + c) (j * 1024 + c) (fun v => (v + n) % 2 ^ 32) (counters_wf hw)
  rwa [if_neg (by omega)] at hread

theorem count_touches (hk : k < 2) {i n : Nat} (hi : i < Kind.started0 ∨ Kind.started1 < i) :
    Touches c (besideSensors c k) view s (s.count i c n) := by
  have hother : Kind.started0 + k ≠ i := by unfold Kind.started0 Kind.started1 at *; omega
  exact .count fun hw => Prod.ext rfl (counter_count_other hw hother c n)

/-! ## Changes of a comparator -/

/-- A comparator reads as it was changed, and the event store as before. -/
theorem sensed_modCmp (hw : s.wf = true) (c k : Nat) (g : Cmp → Cmp) :
    ((s.modCmp c k g).chan c).sensed k = ((s.chan c).events, (s.chan c).evBusy, (g (s.cmp c k)).own) := by
  rw [modCmp, chan_modChan_same hw]
  by_cases hk : k = 0 <;> simp [Channel.sensed, Channel.cmp, cmp_eq, hk]

theorem chan_modCmp_other (hw : s.wf = true) {j : Nat} (hj : j ≠ c) (g : Cmp → Cmp) : (s.modCmp c k g).chan j = s.chan j :=
  chan_modChan_other hw hj _

/-- What one comparator leaves in the event of another bears on neither's own. -/
theorem modCmp_touches {i : Nat} {g : Cmp → Cmp} (hg : ∀ z, (g z).own = z.own := by exact fun _ => rfl) :
    Touches c (besideSensors c k) (Channel.sensed k) s (s.modCmp c i g) := by
  refine .modChan (hg := ?_)
  by_cases hi : i = 0 <;> by_cases hk : k = 0 <;> simp [Channel.sensed, Channel.cmp, hi, hk, hg]

/-! ## Trigger units (spec 11 R254-R258) -/

theorem unitTrigger_touches (hk : k < 2) (x : Tick) (v : Nat) :
    Touches c (besideSensors c k) view s (s.unitTrigger c x v) :=
  .ite (.refl s) (.ite (count_touches hk (by decide))
    (.trans (count_touches hk (by decide)) (.beside (modBank_kept (.refl _)) rfl fun _ => rfl)))

theorem trigLeading_touches (hk : k < 2) (lead : Tick) (v : Nat) :
    Touches c (besideSensors c k) (Channel.sensed k) s (s.trigLeading c k lead v) :=
  .trans (.cond .modChan _) (.ite (unitTrigger_touches hk ..)
    (.trans (.cond modCmp_touches _) (.cond (unitTrigger_touches hk ..) _)))

theorem trigClose_touches (hk : k < 2) (z : Cmp) (trail : Tick) (v : Nat) :
    Touches c (besideSensors c k) view s (s.trigClose c k z trail v) := .cond (unitTrigger_touches hk ..) _

/-! ## The leading crossing (spec 07 R177-R182) -/

/-- An event of comparator `k` opens at the output `out`, and is counted. -/
def opened (c k : Nat) (lead out : Tick) (v : Nat) (s : State) : State :=
  (s.modCmp c k (Cmp.rises (s.levelOf c k) (s.hystOf c k) lead out v)).count (Kind.started0 + k) c 1

theorem leading_of_rise {raw : List Nat} {ys : List Out} (hys : ys = s.outs c s.now raw) (hm : s.modeOf c = 0)
    (hl : 2 ≤ ys.length) (hin : (s.cmp c k).inEvent = false) (ha : s.cmpArmed c k ys = true)
    (hq : (nth {} ys 1).y < s.levelOf c k) (ho : (s.levelOf c k : Int) ≤ (nth {} ys 0).y) :
    ∃ lead v, s.leading c k raw = (s.opened c k lead (nth {} ys 0).at_ v).trigLeading c k lead v := by
  subst hys
  refine ⟨_, _, if_neg ?_⟩
  rintro (h | h | h | h | h | h)
  exacts [h hm, h.not_ge hl, by simp [hin] at h, by simp [ha] at h, h.not_ge ho, h.not_gt hq]

/-- The trigger unit leaves the event open and counted, and the store its events. -/
theorem opened_effect (hw : s.wf = true) (hk : k < 2) (lead out : Tick) (v : Nat) :
    let u := (s.opened c k lead out v).trigLeading c k lead v
    (u.cmp c k).own = (Cmp.rises (s.levelOf c k) (s.hystOf c k) lead out v (s.cmp c k)).own
      ∧ (u.chan c).events = (s.chan c).events
      ∧ u.counter (Kind.started0 + k) c = (s.counter (Kind.started0 + k) c + 1) % 2 ^ 32
      ∧ (∀ j, j ≠ c → u.chan j = s.chan j) ∧ (u.besideSensors c k).1 = (s.besideSensors c k).1 := by
  have hmod : (s.modCmp c k (Cmp.rises (s.levelOf c k) (s.hystOf c k) lead out v)).wf = true := wf_modChan hw c _
  obtain ⟨-, hbeside, hothers, hown⟩ := (trigLeading_touches hk lead v).of_wf (wf_count hmod (Kind.started0 + k) c 1)
  have hsensed := hown.trans (sensed_modCmp hw c k (Cmp.rises (s.levelOf c k) (s.hystOf c k) lead out v))
  exact ⟨congrArg (·.2.2) hsensed, congrArg Prod.fst hsensed,
    (congrArg Prod.snd hbeside).trans (counter_count_same hmod (Kind.started0 + k) c 1),
    fun j hj => (hothers j hj).trans (chan_modCmp_other hw hj _), (congrArg Prod.fst hbeside :)⟩

/-! ## The close of an event (spec 07 R177, R179, R182) -/

theorem storeEvent_touches (hk : k < 2) (e : Event) :
    Touches c (besideSensors c k) (Channel.cmp k) s (s.storeEvent c e) :=
  .ite (.trans .modChan (count_touches hk (by decide))) .modChan

/-- A store that has drained takes the event behind those that wait. -/
theorem events_storeEvent (hw : s.wf = true) (hb : (s.chan c).evBusy ≤ s.now) (e : Event) :
    ((s.storeEvent c e).chan c).events = (s.chan c).events ++ [{ e with overflow := (s.chan c).evOverflow }] := by
  have hroom : ¬ns 62 < (s.chan c).evBusy - s.now := not_lt_of_ge ((Nat.sub_eq_zero_of_le hb).trans_le (Nat.zero_le _))
  simp only [storeEvent, if_neg hroom, chan_modChan_same hw]

/-- From `s` to `u` the event of comparator `k` has closed; where the comparator feeds Ply, the event is stored. -/
structure EventClosed (c k : Nat) (truncated : Bool) (s u : State) : Prop where
  beside : u.besideSensors c k = s.besideSensors c k
  others : ∀ j, j ≠ c → u.chan j = s.chan j
  ended : (u.cmp c k).inEvent = false
  above : (u.cmp c k).above = (s.cmp c k).above
  stored : s.popt Par.plySource c = k → (s.chan c).evBusy ≤ s.now → ∃ e, (u.chan c).events = (s.chan c).events ++ [e]
    ∧ e.cmp = k ∧ e.lead = (s.cmp c k).lead ∧ e.truncated = truncated
  unfed : s.popt Par.plySource c ≠ k → (u.chan c).events = (s.chan c).events

theorem closeEvent_eq (c k : Nat) (raw : List Nat) (trail stop : Tick) (truncated : Bool) (s : State) :
    ∃ (e : Event) (v : Nat), e.cmp = k ∧ e.lead = (s.cmp c k).lead ∧ e.truncated = truncated
      ∧ s.closeEvent c k raw trail stop truncated = ((s.modCmp c k (Cmp.ends trail stop)).cond (s.popt Par.plySource c = k)
        (storeEvent c e)).trigClose c k (s.cmp c k) trail v :=
  ⟨_, _, rfl, rfl, rfl, rfl⟩

theorem closeEvent_closes (hw : s.wf = true) (hk : k < 2) (raw : List Nat) (trail stop : Tick) (truncated : Bool) :
    EventClosed c k truncated s (s.closeEvent c k raw trail stop truncated) := by
  obtain ⟨e, v, hcmp, hlead, htrunc, heq⟩ := closeEvent_eq c k raw trail stop truncated s
  rw [heq]
  have hended : (s.modCmp c k (Cmp.ends trail stop)).wf = true := wf_modChan hw c _
  have hsensed := sensed_modCmp hw c k (Cmp.ends trail stop)
  simp only [Channel.sensed, Prod.mk.injEq] at hsensed
  obtain ⟨hevents, hbusy, hown⟩ := hsensed
  obtain ⟨hstored, hbeside, hothers, hkept⟩ := (Touches.cond (storeEvent_touches hk e)
    (decide (s.popt Par.plySource c = k))).of_wf hended
  obtain ⟨-, hbeside', hothers', hchan⟩ := (trigClose_touches (view := id) hk (s.cmp c k) trail v).of_wf hstored
  have hlast : (Channel.cmp k _).own = _ := (congrArg Cmp.own ((congrArg (Channel.cmp k) hchan).trans hkept)).trans hown
  refine ⟨hbeside'.trans hbeside, fun j hj => (hothers' j hj).trans ((hothers j hj).trans (chan_modCmp_other hw hj _)),
    congrArg Cmp.inEvent hlast, (congrArg Cmp.above hlast :), fun hp hb => ⟨{ e with
      overflow := ((s.modCmp c k (Cmp.ends trail stop)).chan c).evOverflow }, ?_, hcmp, hlead, htrunc⟩, fun hp => ?_⟩
  · refine (congrArg Channel.events hchan).trans ?_
    rw [decide_eq_true hp, ← hevents]
    exact events_storeEvent hended (hbusy.trans_le hb) e
  · refine (congrArg Channel.events hchan).trans ?_
    rw [decide_eq_false hp]
    exact hevents

/-! ## The trailing crossing and the truncation (spec 07 R177, R180) -/

/-- The output has fallen below the level of comparator `k`; comparator 0 notes it of comparator 1 in its event. -/
def fallen (c k : Nat) (trail : Tick) (s : State) : State :=
  (s.modCmp c k fun z => { z with above := false }).cond (k = 1 && (s.cmp c 0).inEvent)
    fun s => s.modCmp c 0 fun z => { z with otherTrail := some trail }

theorem trailing_of_fall {raw : List Nat} {ys : List Out} (hys : ys = s.outs c s.now raw) (hm : s.modeOf c = 0)
    (hl : 2 ≤ ys.length) (hin : (s.cmp c k).inEvent = true) (ha : (s.cmp c k).above = true)
    (ho : (nth {} ys 0).y < (s.cmp c k).level) (hq : (s.cmp c k).level ≤ (nth {} ys 1).y) :
    ∃ trail, s.trailing c k raw = (s.fallen c k trail).closeEvent c k raw trail (nth {} ys 0).at_ false := by
  subst hys
  refine ⟨_, (if_neg ?_).trans (if_pos hin)⟩
  rintro (h | h | h | h | h)
  exacts [h hm, h.not_ge hl, by simp [ha] at h, h.not_gt ho, h.not_ge hq]

theorem fallen_effect (hw : s.wf = true) (c k : Nat) (trail : Tick) :
    let u := s.fallen c k trail
    u.wf = true ∧ u.besideSensors c k = s.besideSensors c k ∧ (∀ j, j ≠ c → u.chan j = s.chan j)
      ∧ (u.chan c).sensed k = ((s.chan c).events, (s.chan c).evBusy, { s.cmp c k with above := false }.own) := by
  have hmod : (s.modCmp c k fun z => { z with above := false }).wf = true := wf_modChan hw c _
  have hsensed := sensed_modCmp hw c k fun z => { z with above := false }
  obtain ⟨hwf, hbeside, hothers, hown⟩ := (Touches.cond (modCmp_touches (c := c) (k := k) (i := 0)
    (g := fun z => { z with otherTrail := some trail })) (k = 1 && (s.cmp c 0).inEvent)).of_wf hmod
  exact ⟨hwf, hbeside, fun j hj => (hothers j hj).trans (chan_modCmp_other hw hj _), hown.trans hsensed⟩

theorem truncateEvent_of_long {raw : List Nat} {ys : List Out} (hys : ys = s.outs c s.now raw) (hm : s.modeOf c = 0)
    (hin : (s.cmp c k).inEvent = true) (hl : 1025 ≤ (ys.filter fun o => (s.cmp c k).leadOut < o.at_).length) :
    ∃ trail stop, s.truncateEvent c k raw = s.closeEvent c k raw trail stop true := by
  subst hys
  refine ⟨_, _, if_neg ?_⟩
  rintro (h | h | h)
  exacts [h hm, by simp [hin] at h, h.not_ge hl]

end
end State

/-! ## The events -/

section
variable {t : Tick} {c k : Nat} {raw : List Nat} {s : State}

/-- LEADING_CROSSING (spec 07 R177-R182). -/
theorem exec_leadingCrossing {ys : List Out} (hys : ys = (s.advance t).outs c (s.advance t).now raw) (hw : s.wf = true)
    (hk : k < 2) (hm : s.modeOf c = 0) (hl : 2 ≤ ys.length) (hin : (s.cmp c k).inEvent = false)
    (ha : (s.advance t).cmpArmed c k ys = true) (hq : (nth {} ys 1).y < s.levelOf c k)
    (ho : (s.levelOf c k : Int) ≤ (nth {} ys 0).y) :
    ∃ u, exec (.leadingCrossing t c k raw) s = .next u ∧ (u.cmp c k).inEvent = true ∧ (u.cmp c k).armed = false
      ∧ (u.cmp c k).above = true ∧ (u.cmp c k).level = s.levelOf c k ∧ (u.cmp c k).leadOut = (nth {} ys 0).at_
      ∧ u.counter (Kind.started0 + k) c = (s.counter (Kind.started0 + k) c + 1) % 2 ^ 32
      ∧ (u.chan c).events = (s.chan c).events ∧ (∀ j, j ≠ c → u.chan j = s.chan j)
      ∧ u = { s with clock := u.clock, chans := u.chans, banks := u.banks, counters := u.counters } := by
  obtain ⟨lead, v, heq⟩ := State.leading_of_rise (s := s.advance t) hys hm hl hin ha hq ho
  obtain ⟨hcmp, hevents, hcount, hothers, hbeside⟩ := State.opened_effect (s := s.advance t) (c := c) hw hk lead
    (nth {} ys 0).at_ v
  exact ⟨_, congrArg Host.Outcome.next heq, congrArg Cmp.inEvent hcmp, congrArg Cmp.armed hcmp, congrArg Cmp.above hcmp,
    congrArg Cmp.level hcmp, congrArg Cmp.leadOut hcmp, hcount, hevents, hothers, State.eq_of_besideSensors hbeside⟩

/-- TRAILING_CROSSING (spec 07 R177, R179, R180, R182). -/
theorem exec_trailingCrossing {ys : List Out} (hys : ys = (s.advance t).outs c (s.advance t).now raw) (hw : s.wf = true)
    (hk : k < 2) (hm : s.modeOf c = 0) (hl : 2 ≤ ys.length) (hin : (s.cmp c k).inEvent = true)
    (ha : (s.cmp c k).above = true) (ho : (nth {} ys 0).y < (s.cmp c k).level)
    (hq : (s.cmp c k).level ≤ (nth {} ys 1).y) :
    ∃ u, exec (.trailingCrossing t c k raw) s = .next u ∧ (u.cmp c k).inEvent = false ∧ (u.cmp c k).above = false
      ∧ (s.popt Par.plySource c = k → (s.chan c).evBusy ≤ (s.advance t).now →
        ∃ e, (u.chan c).events = (s.chan c).events ++ [e] ∧ e.cmp = k ∧ e.lead = (s.cmp c k).lead ∧ e.truncated = false)
      ∧ (s.popt Par.plySource c ≠ k → (u.chan c).events = (s.chan c).events) ∧ (∀ j, j ≠ c → u.chan j = s.chan j)
      ∧ u = { s with clock := u.clock, chans := u.chans, banks := u.banks, counters := u.counters } := by
  obtain ⟨trail, heq⟩ := State.trailing_of_fall (s := s.advance t) hys hm hl hin ha ho hq
  obtain ⟨hwf, hbeside, hothers, hsensed⟩ := State.fallen_effect (s := s.advance t) hw c k trail
  simp only [Channel.sensed, Prod.mk.injEq] at hsensed
  obtain ⟨hevents, hbusy, hown⟩ := hsensed
  obtain ⟨hbeside', hothers', hended, habove, hstored, hunfed⟩ :=
    State.closeEvent_closes (c := c) hwf hk raw trail (nth {} ys 0).at_ false
  have hsame := congrArg Prod.fst hbeside
  have hnow : ((s.advance t).fallen c k trail).now = (s.advance t).now :=
    (congrArg State.now hsame :)
  have hsource : ((s.advance t).fallen c k trail).popt Par.plySource c = s.popt Par.plySource c :=
    State.popt_of_dist (congrArg State.dist hsame) ..
  have hlead : (((s.advance t).fallen c k trail).cmp c k).lead = (s.cmp c k).lead :=
    (congrArg Cmp.lead hown :)
  rw [hsource, hbusy, hnow, hevents, hlead] at hstored
  rw [hsource, hevents] at hunfed
  exact ⟨_, congrArg Host.Outcome.next heq, hended, habove.trans (congrArg Cmp.above hown), hstored, hunfed,
    fun j hj => (hothers' j hj).trans (hothers j hj), State.eq_of_besideSensors (congrArg Prod.fst (hbeside'.trans hbeside))⟩

/-- EVENT_TRUNCATION (spec 07 R177, R182). -/
theorem exec_eventTruncation {ys : List Out} (hys : ys = (s.advance t).outs c (s.advance t).now raw) (hw : s.wf = true)
    (hk : k < 2) (hm : s.modeOf c = 0) (hin : (s.cmp c k).inEvent = true)
    (hl : 1025 ≤ (ys.filter fun o => (s.cmp c k).leadOut < o.at_).length) :
    ∃ u, exec (.eventTruncation t c k raw) s = .next u ∧ (u.cmp c k).inEvent = false
      ∧ (u.cmp c k).above = (s.cmp c k).above
      ∧ (s.popt Par.plySource c = k → (s.chan c).evBusy ≤ (s.advance t).now →
        ∃ e, (u.chan c).events = (s.chan c).events ++ [e] ∧ e.cmp = k ∧ e.lead = (s.cmp c k).lead ∧ e.truncated = true)
      ∧ (∀ j, j ≠ c → u.chan j = s.chan j)
      ∧ u = { s with clock := u.clock, chans := u.chans, banks := u.banks, counters := u.counters } := by
  obtain ⟨trail, stop, heq⟩ := State.truncateEvent_of_long (s := s.advance t) hys hm hin hl
  have hclosed := State.closeEvent_closes (s := s.advance t) (c := c) hw hk raw trail stop true
  exact ⟨_, congrArg Host.Outcome.next heq, hclosed.ended, hclosed.above, hclosed.stored, hclosed.others,
    State.eq_of_besideSensors (congrArg Prod.fst hclosed.beside)⟩

end

/-- Settles O27: each crossing by what its event's operation makes of the comparator and of the event store. -/
theorem crossingsOpenAndCloseEvents : Obligations.CrossingsOpenAndCloseEvents := by
  unfold Obligations.CrossingsOpenAndCloseEvents
  intro t c k raw s hw hk hm
  refine ⟨fun hl hin ha hq ho => ?leading, fun hl hin ha ho hq => ?trailing, fun hin hl => ?truncation⟩
  case leading => exact exec_leadingCrossing rfl hw hk hm hl hin ha hq ho
  case trailing => exact exec_trailingCrossing rfl hw hk hm hl hin ha ho hq
  case truncation => exact exec_eventTruncation rfl hw hk hm hin hl

end Sys2Proof.Machine
end

section
/-! PROOFS. Detector readings and TDC stamps (spec 07 R183-R185, 08 R191-R194): what a window's end, a crossing, a hand-off and an
exchange of the interpolators make of their channel. -/

namespace Sys2Proof.Machine

namespace State

section
variable {α : Type} {c : Nat} {view : Channel → α} {s : State}

/-! ## Detector windows (spec 07 R183-R185) -/

theorem noiseReading_onlyChan (hw : s.wf = true) (range : Nat) (r : Reading)
    (hv : ∀ (ch : Channel) (k : Carding), view { ch with card := k } = view ch) :
    OnlyChan c view s (s.noiseReading c range r) := by
  unfold noiseReading
  split
  · exact .refl hw
  · exact onlyChan_modChan hw _ (hv ..)

/-- The reading of the window that ends at `z` stands, and the next window starts there. -/
def readingFormed (c : Nat) (z : Tick) (raw : List Nat) (s : State) : State :=
  s.modChan c fun ch => { ch with
    reading := some (s.readingOf c z raw).1, envelope := (s.readingOf c z raw).2, readsAt := z, readCut := none }

theorem detectorWindow_of_end {z : Tick} (hm : s.modeOf c = 0) (hz : s.detectorEnd c = some z) (raw : List Nat) :
    s.detectorWindow c raw
      = if (s.chan c).fe.past.any fun p => decide ((s.chan c).readsAt < p.1 ∧ p.1 < z) then s.readingFormed c z raw
        else (s.readingFormed c z raw).noiseReading c (s.rangeAt c (s.chan c).readsAt) (s.readingOf c z raw).1 := by
  simp only [detectorWindow, hz, hm, ne_eq, not_true_eq_false, if_false]
  rfl

/-- A detector window's end leaves its reading and touches its channel alone. -/
theorem detectorWindow_onlyChan {z : Tick} (hw : s.wf = true) (hm : s.modeOf c = 0) (hz : s.detectorEnd c = some z)
    (raw : List Nat) : OnlyChan c (fun ch => (ch.reading, ch.readsAt, ch.readCut)) (s.readingFormed c z raw)
      (s.detectorWindow c raw) := by
  have hformed : (s.readingFormed c z raw).wf = true := wf_modChan hw c _
  rw [detectorWindow_of_end hm hz]
  split
  · exact .refl hformed
  · exact noiseReading_onlyChan hformed _ _ fun _ _ => rfl

/-! ## Crossings of the comparator (spec 08 R191-R193) -/

/-- The stamp of a crossing at the present instant (spec 08 R191). -/
def crossingStamp (c tot : Nat) (s : State) : Stamp :=
  let x := s.tdcInstant s.now
  { lead := x, tot := min tot 255, tag := s.rangeAt c x, validity := s.stampValidity c x, inWindow := s.inWindow c x }

/-- The comparator stands above its level from the present instant on for its time over threshold. -/
def crossed (c tot : Nat) (s : State) : State :=
  s.modChan c fun ch => { ch with lastLead := some s.now, fallsAt := s.now + 1024 * tot }

/-- Without a run no crossing is lost to one (spec 08 R209). -/
theorem statLoss_of_no_runs (h : s.runs = []) : s.statLoss c = s := by
  simp only [statLoss, modRuns, h, List.map_nil]
  rw [← h]

/-- A crossing takes its stamp where the comparator has fallen, no crossing stands before it and the store has room. -/
theorem crossing_of_taken (hm : s.modeOf c ≠ 2) (hf : (s.chan c).fallsAt ≤ s.now) (hl : (s.chan c).lastLead = none)
    (hb : (s.chan c).stBusy ≤ s.now) (hr : s.runs = []) (tot : Nat) :
    s.crossing c tot = (s.crossed c tot).modChan c fun ch => { ch with
      forming := ch.forming ++ [{ (s.crossed c tot).crossingStamp c tot with overflow := ch.stOverflow }]
      stOverflow := false, stBusy := max ch.stBusy s.now + ns 2 } := by
  have hfallen : ¬s.now < (s.chan c).fallsAt := Nat.not_lt.mpr hf
  have hroom : ¬ns 62 < (s.chan c).stBusy - s.now := not_lt_of_ge ((Nat.sub_eq_zero_of_le hb).trans_le (Nat.zero_le _))
  have hevent : ∀ x, (s.crossed c tot).statEvent (.channel c) x = s.crossed c tot := fun x =>
    statEvent_of_no_runs (s := s.crossed c tot) hr (.channel c) x
  simp only [crossing, if_neg hm, if_neg hfallen, hl, Option.any_none, Bool.false_eq_true, if_false]
  rw [show (s.modChan c fun ch => { ch with lastLead := some s.now, fallsAt := s.now + 1024 * tot }) = s.crossed c tot from rfl,
    hevent]
  exact if_neg hroom

/-- A crossing before the comparator has fallen is lost, and counted (spec 08 R192). -/
theorem crossing_of_lost (hm : s.modeOf c ≠ 2) (hf : s.now < (s.chan c).fallsAt) (hr : s.runs = []) (tot : Nat) :
    s.crossing c tot = s.count Kind.deadTime c 1 := by
  simp only [crossing, if_neg hm, if_pos hf]
  exact statLoss_of_no_runs hr

/-! ## The hand-off of stamps (spec 08 R191, R193) -/

/-- What stands beside the channels, the counters and the reports. -/
def besideReports (s : State) : State := { s with chans := [], counters := [], recs := {}, nvCtl := {}, side := {} }

theorem eq_of_besideReports {u : State} {t : Tick} (h : u.besideReports = (s.advance t).besideReports) : u = { s with
    clock := u.clock, chans := u.chans, counters := u.counters, recs := u.recs, nvCtl := u.nvCtl, side := u.side } := by
  have hsame : u = { (s.advance t).besideReports with
      chans := u.chans, counters := u.counters, recs := u.recs, nvCtl := u.nvCtl, side := u.side } := by rw [← h]; rfl
  have hclock : u.clock = (s.advance t).clock := by rw [hsame]; rfl
  rw [hclock]
  exact hsame

theorem modCard_touches (g : Carding → Carding) : Touches c besideReports (·.forming) s (s.modCard c g) :=
  .modChan rfl rfl

theorem health_touches (code subject : Nat) (details : List (Nat × Nat)) (seqs : List Nat) :
    Touches c besideReports view s (s.health code subject details seqs) := by
  obtain ⟨r, n, p, hr⟩ := health_reported code subject details seqs s
  exact .beside (health_kept (.refl s)) (by rw [hr]) fun _ => by rw [hr]; rfl

theorem assess_touches (edge : Tick) : Touches c besideReports (·.forming) s (s.assess c edge) := by
  unfold assess
  split
  · exact .refl s
  · exact .ite (modCard_touches _) <|
      .trans (modCard_touches _) (.trans (modCard_touches _) (.trans .count (health_touches ..)))

theorem unmatched_touches (stops : List Int) : Touches c besideReports (·.forming) s (s.unmatched c stops) :=
  .trans (.cond .count _) (.trans (modCard_touches _) (assess_touches _))

theorem offerPulse_touches (p : Pulse) (blocked : List Nat) :
    Touches c besideReports (·.forming) s (s.offerPulse c p blocked) :=
  -- every way on begins with the slots that take the pulse and its counts
  have offered := .trans .modChan (.trans (.cond .count _) (.cond .count _))
  .ite offered (.ite (offered.trans (unmatched_touches _)) (offered.trans .count))

theorem pickArrive_touches (x : Int) (v : Nat) : Touches c besideReports (·.forming) s (s.pickArrive c x v) :=
  .ite .modChan .count

theorem stampAlone_touches (z : Stamp) (s : State) : Touches c besideReports (·.forming) s (s.stampAlone c z) :=
  .ite (pickArrive_touches ..) (.ite (.refl s) (offerPulse_touches ..))

theorem dropStamps_touches : Touches c besideReports (·.forming) s (s.dropStamps c) :=
  .ite (.trans .modChan (.each stampAlone_touches _ _)) (.trans .modChan (.cond .count _))

theorem offerStamp_touches (z : Stamp) : Touches c besideReports (·.forming) s (s.offerStamp c z) :=
  .trans .modChan (.trans (.cond .count _) (.cond .count _))

/-- The hand-off of the first stamp, once it is due, leaves those behind it (spec 08 R191). -/
theorem handoff_touches {z : Stamp} {rest : List Stamp} (hf : (s.chan c).forming = z :: rest)
    (hz : z.lead + max (ns 24) (1024 * z.tot) ≤ s.now) :
    Touches c besideReports (·.forming) (s.modChan c fun ch => { ch with forming := rest }) (s.handoff c) := by
  simp only [handoff, hf, if_neg (Nat.not_lt.mpr hz)]
  exact .ite (.trans (offerStamp_touches _) (stampAlone_touches ..))
    (.trans (offerStamp_touches _) (.trans .modChan dropStamps_touches))

/-! ## The interpolators (spec 08 R194) -/

theorem exchange_of_due {hits : List Nat} (hf : (s.chan c).fallsAt ≤ s.now) (he : (s.chan c).exchangedAt + us 900000 ≤ s.now)
    (hl : hits.length = 256) (hs : hits.sum = 2 ^ 20) : s.exchange c hits = s.modChan c fun ch => { ch with
      interpolator := !ch.interpolator, exchangedAt := s.now
      linear := Store.write [] ch.linear (!ch.interpolator).toNat (densityTable hits) } := by
  refine if_neg ?_
  rintro (h | h | h | h)
  exacts [hf.not_gt h, he.not_gt h, h hl, h hs]

end
end State

/-! ## The events -/

section
variable {t : Tick} {c : Nat} {s : State}

/-- DETECTOR_WINDOW_END (spec 07 R183, R185). -/
theorem exec_detectorWindowEnd (hw : s.wf = true) {z : Tick} (hm : s.modeOf c = 0)
    (hz : (s.advance t).detectorEnd c = some z) (raw : List Nat) :
    ∃ u, exec (.detectorWindowEnd t c raw) s = .next u ∧ (u.chan c).reading = some ((s.advance t).readingOf c z raw).1
      ∧ (u.chan c).readsAt = z ∧ (u.chan c).readCut = none ∧ (∀ k, k ≠ c → u.chan k = s.chan k)
      ∧ u = { s with clock := u.clock, chans := u.chans } := by
  have hread := State.chan_modChan_same (s := s.advance t) hw c fun ch => { ch with
    reading := some ((s.advance t).readingOf c z raw).1, envelope := ((s.advance t).readingOf c z raw).2, readsAt := z
    readCut := none }
  obtain ⟨-, ⟨m, hsame⟩, hothers, hown⟩ := State.detectorWindow_onlyChan (s := s.advance t) hw hm hz raw
  have hviewed := hown.trans (congrArg (fun ch : Channel => (ch.reading, ch.readsAt, ch.readCut)) hread)
  simp only [Prod.mk.injEq] at hviewed
  obtain ⟨hreading, hreads, hcut⟩ := hviewed
  refine ⟨_, rfl, hreading, hreads, hcut, fun k hk => (hothers k hk).trans (State.chan_modChan_other hw hk _), ?_⟩
  rw [hsame]
  rfl

/-- COMPARATOR_CROSSING that takes a stamp (spec 08 R191-R193). -/
theorem exec_comparatorCrossing_taken (ht : s.now ≤ t) (hw : s.wf = true) (hm : s.modeOf c ≠ 2)
    (hf : (s.chan c).fallsAt ≤ t) (hl : (s.chan c).lastLead = none) (hb : (s.chan c).stBusy ≤ t) (hr : s.runs = []) (tot : Nat) :
    ∃ u z, exec (.comparatorCrossing t c tot) s = .next u ∧ (u.chan c).forming = (s.chan c).forming ++ [z]
      ∧ z.lead = s.tdcInstant t ∧ z.tot = min tot 255 ∧ (u.chan c).lastLead = some t
      ∧ (∀ k, k ≠ c → u.chan k = s.chan k) ∧ u = { s with clock := u.clock, chans := u.chans } := by
  have hnow : (s.advance t).now = t := by simp [ht]
  have hcrossed : ((s.advance t).crossed c tot).wf = true := State.wf_modChan (s := s.advance t) hw c _
  have hread := State.chan_modChan_same (s := s.advance t) hw c fun ch => { ch with
    lastLead := some (s.advance t).now, fallsAt := (s.advance t).now + 1024 * tot }
  have htaken := State.chan_modChan_same hcrossed c fun ch => { ch with
    forming := ch.forming ++ [{ ((s.advance t).crossed c tot).crossingStamp c tot with overflow := ch.stOverflow }]
    stOverflow := false, stBusy := max ch.stBusy (s.advance t).now + ns 2 }
  refine ⟨_, _, congrArg Host.Outcome.next (State.crossing_of_taken (s := s.advance t) hm (hf.trans hnow.ge) hl
    (hb.trans hnow.ge) hr tot), (congrArg Channel.forming htaken).trans (congrArg (·.forming ++ _) hread),
    congrArg s.tdcInstant hnow, rfl, ?_, fun k hk => ?_, rfl⟩
  · exact (congrArg Channel.lastLead htaken).trans ((congrArg Channel.lastLead hread).trans (congrArg some hnow))
  · exact (State.chan_modChan_other hcrossed hk _).trans (State.chan_modChan_other (s := s.advance t) hw hk _)

/-- COMPARATOR_CROSSING before the comparator has fallen (spec 08 R192). -/
theorem exec_comparatorCrossing_lost (ht : s.now ≤ t) (hm : s.modeOf c ≠ 2) (hf : t < (s.chan c).fallsAt) (hr : s.runs = [])
    (tot : Nat) : exec (.comparatorCrossing t c tot) s = .next ((s.advance t).count Kind.deadTime c 1) := by
  have hnow : (s.advance t).now = t := by simp [ht]
  exact congrArg Host.Outcome.next (State.crossing_of_lost (s := s.advance t) hm (hnow.trans_lt hf) hr tot)

/-- STAMP_HANDOFF (spec 08 R191, R193). -/
theorem exec_stampHandoff (hw : s.wf = true) {z : Stamp} {rest : List Stamp} (hf : (s.chan c).forming = z :: rest)
    (hz : z.lead + max (ns 24) (1024 * z.tot) ≤ t) :
    ∃ u, exec (.stampHandoff t c) s = .next u ∧ (u.chan c).forming = rest ∧ (∀ k, k ≠ c → u.chan k = s.chan k)
      ∧ u = { s with
          clock := u.clock, chans := u.chans, counters := u.counters, recs := u.recs, nvCtl := u.nvCtl, side := u.side } := by
  have hread := State.chan_modChan_same (s := s.advance t) hw c fun ch => { ch with forming := rest }
  obtain ⟨-, hbeside, hothers, hown⟩ := (State.handoff_touches (s := s.advance t) hf (hz.trans (le_max_right ..))).of_wf
    (State.wf_modChan (s := s.advance t) hw c _)
  exact ⟨_, rfl, hown.trans (congrArg Channel.forming hread),
    fun k hk => (hothers k hk).trans (State.chan_modChan_other (s := s.advance t) hw hk _), State.eq_of_besideReports hbeside⟩

/-- INTERPOLATOR_EXCHANGE (spec 08 R194). -/
theorem exec_interpolatorExchange (ht : s.now ≤ t) {hits : List Nat} (hf : (s.chan c).fallsAt ≤ t)
    (he : (s.chan c).exchangedAt + us 900000 ≤ t) (hl : hits.length = 256) (hs : hits.sum = 2 ^ 20) :
    exec (.interpolatorExchange t ⟨c, hits⟩) s = .next ((s.advance t).modChan c fun ch => { ch with
      interpolator := !ch.interpolator, exchangedAt := t
      linear := Store.write [] ch.linear (!ch.interpolator).toNat (State.densityTable hits) }) := by
  have hnow : (s.advance t).now = t := by simp [ht]
  refine congrArg Host.Outcome.next ((State.exchange_of_due (s := s.advance t) (hf.trans hnow.ge) (he.trans hnow.ge) hl
    hs).trans ?_)
  rw [hnow]

end

/-- Settles O28: each clause follows from what its event's operation makes of the channel. -/
theorem readingsAndStampsAreTaken : Obligations.ReadingsAndStampsAreTaken := by
  unfold Obligations.ReadingsAndStampsAreTaken
  intro t c s ht hw
  refine ⟨fun raw z hm hz => ?reading, fun tot hm hf hl hb hr => ?stamp, fun tot hm hf hr => ?lost,
    fun z rest hf hz => ?handoff, fun hits hf he hl hs => ?exchange⟩
  case reading => exact exec_detectorWindowEnd hw hm hz raw
  case stamp => exact exec_comparatorCrossing_taken ht hw hm hf hl hb hr tot
  case lost => exact exec_comparatorCrossing_lost ht hm hf hr tot
  case handoff => exact exec_stampHandoff hw hf hz
  case exchange => exact exec_interpolatorExchange ht hf he hl hs

end Sys2Proof.Machine
end

section
/-! PROOFS. Statistics runs and AUXF inputs (spec 08 R208-R211): what a pending start given up, a timeout, an edge and the end of a
gate make of the runs and of the inputs, and that a command which completes is not live any more. -/

namespace Sys2Proof.Machine

namespace State

/-! ## Completion (spec 15 R360) -/

section
variable {s : State}

/-- A handle that completes is not live. -/
theorem liveOf_completeWith (n status detail flags : Nat) (boundary : Option LineTime) (result : List Byte) (s : State) :
    (s.completeWith n status detail flags boundary result).liveOf n = none := by
  cases hlive : s.liveOf n with
  | none => rw [completeWith, hlive]; exact hlive
  | some l =>
    rw [completeWith, hlive]
    refine List.find?_eq_none.mpr fun y hy => ?_
    obtain ⟨x, -, rfl⟩ := List.mem_map.mp hy
    split
    · simp
    · next hx => simp [hx]

/-- One entry more waits where a live handle completes. -/
theorem waiting_length_completeWith {n : Nat} {l : Live} (h : s.liveOf n = some l) (status detail flags : Nat)
    (boundary : Option LineTime) (result : List Byte) :
    (s.completeWith n status detail flags boundary result).dist.waiting.length = s.dist.waiting.length + 1 := by
  rw [completeWith, h]
  exact List.length_append

/-! ## Runs -/

theorem expire_of_late {r : StatRun} {o x : Tick} (ho : r.open_ = some o) (h : o + 16 * (2 ^ 24 - 1) < x) :
    StatRun.expire r x = { r with open_ := none, overflows := r.overflows + 1 } := by
  rw [StatRun.expire, ho, Option.any_some, if_pos (decide_eq_true h)]

theorem intervalTimeout_runs_same (i : Nat) (s : State) :
    (s.intervalTimeout i).runs[i]? = s.runs[i]?.map fun r => StatRun.expire r s.now := by
  rw [intervalTimeout, modRuns_runs, nthMod, List.getElem?_modify_eq]
  rfl

theorem intervalTimeout_runs_other {i k : Nat} (h : k ≠ i) (s : State) :
    (s.intervalTimeout i).runs[k]? = s.runs[k]? := by
  rw [intervalTimeout, modRuns_runs, nthMod, List.getElem?_modify_ne _ _ h.symm]

theorem runTimeout_of_due {i : Nat} {r : StatRun} (hr : s.runs[i]? = some r) (h : r.deadline ≤ s.now) :
    s.runTimeout i = s.endRun r true := by
  simp only [runTimeout, hr, if_pos h]

/-- A run that ends leaves the runs and answers its command, and changes nothing else (spec 08 R209). -/
theorem endRun_effect {r : StatRun} {l : Live} (hl : s.liveOf r.handle = some l) (timeout : Bool) :
    (s.endRun r timeout).liveOf r.handle = none
      ∧ (s.endRun r timeout).dist.waiting.length = s.dist.waiting.length + 1
      ∧ ∃ d, s.endRun r timeout = (s.modRuns fun m => m.filter fun x => x.handle ≠ r.handle).modDist fun _ => d := by
  obtain ⟨d, -, hsame⟩ := completeWith_keeps_staged r.handle 0 0 0 none (StatRun.bytes r timeout)
    (s.modRuns fun m => m.filter fun x => x.handle ≠ r.handle)
  exact ⟨liveOf_completeWith .., waiting_length_completeWith (s := s.modRuns _) hl .., d, hsame⟩

/-! ## AUXF inputs -/

variable {i : Nat}

theorem modAux_congr {g g' : Auxf → Auxf} (h : g (s.aux i) = g' (s.aux i)) : s.modAux i g = s.modAux i g' :=
  congrArg (fun a => s.modAuxf fun m => Store.write {} m i a) h

/-- An edge before the prescaler's sixteenth is counted by the prescaler alone (spec 08 R210). -/
theorem auxEdge_of_prescaled (hp : s.popt Par.prescaler i ≠ 0) (h : (s.aux i).prescale < 15) :
    s.auxEdge i = s.modAux i fun a => { a with prescale := a.prescale + 1 } := by
  have hnot : (s.aux i).prescale + 1 ≠ 16 := by omega
  have hmod : ((s.aux i).prescale + 1) % 16 = (s.aux i).prescale + 1 := Nat.mod_eq_of_lt (by omega)
  rw [auxEdge, if_neg hp]
  refine (if_neg hnot).trans (modAux_congr ?_)
  rw [hmod]

theorem auxEdge_of_unscaled (hp : s.popt Par.prescaler i = 0) : s.auxEdge i = s.auxCounted i (s.tdcInstant s.now) :=
  if_pos hp

/-- An input that is not the source of the drift comparison has no part in it (spec 08 R212). -/
theorem driftEdge_of_other_source (h : s.popt Par.driftSource 0 ≠ i + 1) (x : Tick) : s.driftEdge i x = s := by
  have hsource : s.isDriftSource i = false := decide_eq_false h
  simp only [driftEdge, hsource, Bool.not_false, true_or, if_true]

/-- The first edge in an open gate (spec 08 R211). -/
theorem auxCounted_of_first {g : FreqGate} {x : Tick} (hr : s.runs = []) (hd : s.popt Par.driftSource 0 ≠ i + 1)
    (hg : (s.aux i).gate = some g) (ho : g.opens ≤ x) (hc : x < g.closes) (hf : (s.aux i).first = none) :
    s.auxCounted i x = s.modAux i fun a => { a with first := some x, counted := 0, inGate := 1 } := by
  have hcounts : ¬(g.closes = 0 ∨ x < g.opens) := not_or.mpr ⟨Nat.ne_zero_of_lt hc, ho.not_gt⟩
  simp only [auxCounted, statEvent_of_no_runs hr, driftEdge_of_other_source hd, hg, hf, if_neg hcounts, if_neg hc.not_ge]

/-- A gate that has closed on fewer than two edges ends without a signal (spec 08 R211). -/
theorem gateEnd_of_no_signal {g : FreqGate} (hg : (s.aux i).gate = some g) (h0 : g.closes ≠ 0) (hc : g.closes ≤ s.now)
    (he : (s.aux i).inGate < 2) : s.gateEnd i = s.freqNone i g := by
  have hclosed : ¬(g.closes = 0 ∨ s.now < g.closes) := not_or.mpr ⟨h0, hc.not_gt⟩
  simp only [gateEnd, hg, if_neg hclosed, he, true_or, if_true]

/-- A measurement without a signal closes its gate and answers its command, and changes nothing else (spec 08 R211). -/
theorem freqNone_effect {g : FreqGate} {l : Live} (hl : s.liveOf g.handle = some l) (i : Nat) :
    (s.freqNone i g).liveOf g.handle = none
      ∧ (s.freqNone i g).dist.waiting.length = s.dist.waiting.length + 1
      ∧ ∃ d, s.freqNone i g = (s.modAux i fun a => { a with gate := none }).modDist fun _ => d := by
  obtain ⟨d, -, hsame⟩ := completeWith_keeps_staged g.handle 0 0 (g.forced.toNat + 2) none
    (place 0 [(8, 0), (8, 0), (8, 0)]) (s.modAux i fun a => { a with gate := none })
  exact ⟨liveOf_completeWith .., waiting_length_completeWith (s := s.modAux i _) hl .., d, hsame⟩

end

end State

/-! ## The events -/

section
variable {t : Tick} {i : Nat} {s : State}

/-- INTERVAL_TIMEOUT of a start that has waited too long (spec 08 R208). -/
theorem exec_intervalTimeout {o : Tick} {r : StatRun} (hr : s.runs[i]? = some r) (ho : r.open_ = some o)
    (h : o + 16 * (2 ^ 24 - 1) < t) :
    ∃ u, exec (.intervalTimeout t i) s = .next u ∧ u.runs[i]? = some { r with open_ := none, overflows := r.overflows + 1 }
      ∧ (∀ k, k ≠ i → u.runs[k]? = s.runs[k]?) ∧ u = { s with clock := u.clock, runs := u.runs } := by
  refine ⟨(s.advance t).intervalTimeout i, rfl, ?_, fun k hk => State.intervalTimeout_runs_other hk _, rfl⟩
  have hlate : o + 16 * (2 ^ 24 - 1) < (s.advance t).now := h.trans_le (le_max_right ..)
  rw [State.intervalTimeout_runs_same, State.advance_runs, hr, Option.map_some, State.expire_of_late ho hlate]

/-- STATISTICS_TIMEOUT of a run whose timeout has come (spec 08 R209). -/
theorem exec_statisticsTimeout {r : StatRun} {l : Live} (hr : s.runs[i]? = some r) (h : r.deadline ≤ t)
    (hl : s.liveOf r.handle = some l) :
    ∃ u, exec (.statisticsTimeout t i) s = .next u ∧ u.runs = s.runs.filter (fun x => x.handle ≠ r.handle)
      ∧ u.liveOf r.handle = none ∧ u.dist.waiting.length = s.dist.waiting.length + 1
      ∧ u = { s with clock := u.clock, runs := u.runs, dist := u.dist } := by
  have hends := State.runTimeout_of_due (s := s.advance t) hr (h.trans (le_max_right ..))
  obtain ⟨hlive, hwaiting, d, hsame⟩ := State.endRun_effect (s := s.advance t) hl true
  refine ⟨(s.advance t).endRun r true, congrArg Host.Outcome.next hends, ?runs, hlive, hwaiting, ?frame⟩
  case runs => rw [hsame]; rfl
  case frame => rw [hsame]; rfl

/-- AUXF_EDGE that the prescaler counts (spec 08 R210). -/
theorem exec_auxfEdge_prescaled (hp : s.popt Par.prescaler i ≠ 0) (h : (s.aux i).prescale < 15) :
    exec (.auxfEdge t i) s = .next ((s.advance t).modAux i fun a => { a with prescale := a.prescale + 1 }) :=
  congrArg Host.Outcome.next (State.auxEdge_of_prescaled (s := s.advance t) hp h)

/-- AUXF_EDGE that is the first in an open gate (spec 08 R210, R211). -/
theorem exec_auxfEdge_first {g : FreqGate} (ht : s.now ≤ t) (hr : s.runs = []) (hp : s.popt Par.prescaler i = 0)
    (hd : s.popt Par.driftSource 0 ≠ i + 1) (hg : (s.aux i).gate = some g) (ho : g.opens ≤ s.tdcInstant t)
    (hc : s.tdcInstant t < g.closes) (hf : (s.aux i).first = none) :
    exec (.auxfEdge t i) s = .next ((s.advance t).modAux i fun a => { a with
      first := some (s.tdcInstant t), counted := 0, inGate := 1 }) := by
  have hinstant : (s.advance t).tdcInstant (s.advance t).now = s.tdcInstant t := congrArg s.tdcInstant (max_eq_right ht)
  refine congrArg Host.Outcome.next ((State.auxEdge_of_unscaled (s := s.advance t) hp).trans ?_)
  rw [hinstant]
  exact State.auxCounted_of_first (s := s.advance t) hr hd hg ho hc hf

/-- FREQUENCY_GATE_END of a gate without two edges (spec 08 R211). -/
theorem exec_frequencyGateEnd_no_signal {g : FreqGate} {l : Live} (hw : s.wf = true) (hg : (s.aux i).gate = some g)
    (h0 : g.closes ≠ 0) (hc : g.closes ≤ t) (he : (s.aux i).inGate < 2) (hl : s.liveOf g.handle = some l) :
    ∃ u, exec (.frequencyGateEnd t i) s = .next u ∧ (u.aux i).gate = none ∧ u.liveOf g.handle = none
      ∧ u.dist.waiting.length = s.dist.waiting.length + 1
      ∧ u = { s with clock := u.clock, auxf := u.auxf, dist := u.dist } := by
  have hends := State.gateEnd_of_no_signal (s := s.advance t) hg h0 (hc.trans (le_max_right ..)) he
  obtain ⟨hlive, hwaiting, d, hsame⟩ := State.freqNone_effect (s := s.advance t) hl i
  refine ⟨(s.advance t).freqNone i g, congrArg Host.Outcome.next hends, ?gate, hlive, hwaiting, ?frame⟩
  case gate =>
    rw [hsame]
    exact congrArg Auxf.gate (State.aux_modAux_same (s := s.advance t) hw i fun a => { a with gate := none })
  case frame => rw [hsame]; rfl

end

/-- Settles O30: each clause follows from what its event's operation makes of the run or of the input. -/
theorem runsAndGatesEnd : Obligations.RunsAndGatesEnd := by
  unfold Obligations.RunsAndGatesEnd
  refine ⟨fun t o i r s hr ho h => ?pending, fun t i r l s hr h hl => ?timeout, fun t i s ht hw hr =>
    ⟨fun hp h => ?prescaled, fun g hp hd hg ho hc hf => ?first, fun g l hg h0 hc he hl => ?noSignal⟩⟩
  case pending => exact exec_intervalTimeout hr ho h
  case timeout => exact exec_statisticsTimeout hr h hl
  case prescaled => exact exec_auxfEdge_prescaled hp h
  case first => exact exec_auxfEdge_first ht hr hp hd hg ho hc hf
  case noSignal => exact exec_frequencyGateEnd_no_signal hw hg h0 hc he hl

end Sys2Proof.Machine
end

section
/-! PROOFS. Trigger units (spec 11 R255-R257): the trigger that a timeout of an ungated unit gives its channel. -/

namespace Sys2Proof.Machine

namespace State

section
variable {c : Nat} {x : Tick} {s : State}

/-- An ungated unit counts its trigger and hands it to its bank's combiner (spec 11 R256). -/
theorem unitTrigger_of_ungated (hwin : s.popt Par.windowGate c = 0) (hval : s.popt Par.validGate c = 0) (x : Tick) (v : Nat) :
    s.unitTrigger c x v = (s.count Kind.trig c 1).modBank (c / 16) fun y => { y with fresh := y.fresh ++ [(c, x)] } := by
  simp only [unitTrigger, hwin, hval, OfNat.zero_ne_ofNat, zero_ne_one, decide_false, Bool.false_and, Bool.or_self, false_and,
    Bool.false_eq_true, if_false]

/-- From `s` to `u` channel `c` has changed by `g`, and its trigger unit has given one trigger at instant `x`. -/
structure Triggered (c : Nat) (x : Tick) (g : Channel → Channel) (s u : State) : Prop where
  own : u.chan c = g (s.chan c)
  counted : u.counter Kind.trig c = (s.counter Kind.trig c + 1) % 2 ^ 32
  others : ∀ k, k ≠ c → u.chan k = s.chan k
  fresh : (u.bank (c / 16)).fresh = (s.bank (c / 16)).fresh ++ [(c, x)]
  same : u = { s with chans := u.chans, banks := u.banks, counters := u.counters }

theorem triggered_of_ungated (hw : s.wf = true) (hwin : s.popt Par.windowGate c = 0) (hval : s.popt Par.validGate c = 0)
    (g : Channel → Channel) (x : Tick) (v : Nat) : Triggered c x g s ((s.modChan c g).unitTrigger c x v) := by
  have hmod := wf_modChan hw c g
  rw [unitTrigger_of_ungated (s := s.modChan c g) hwin hval]
  refine ⟨(chan_modChan_same hw c g :), (counter_count_same hmod Kind.trig c 1 :),
    fun k hk => (chan_modChan_other hw hk g :), ?fresh, rfl⟩
  case fresh => exact congrArg Bank.fresh (bank_modBank_same (wf_count hmod Kind.trig c 1) (c / 16) _)

/-- A quiet unit triggers at the end of its timeout (spec 11 R255). -/
theorem quietTimeout_of_due (hm : s.modeOf c = 0) (hy : s.popt Par.trigType c = 4) (hq : s.sense c 1 = false)
    (hnot : ¬((s.cmp c (s.popt Par.trigCmp c)).inEvent = true
      ∧ max (s.cmp c (s.popt Par.trigCmp c)).lastTrail (s.chan c).trig.appliedAt ≤ (s.cmp c (s.popt Par.trigCmp c)).lead))
    (hd : (s.chan c).trig.quietDone = false)
    (hx : x = max (s.cmp c (s.popt Par.trigCmp c)).lastTrail (s.chan c).trig.appliedAt + ns (8 * s.pnum Par.trigTimeout c))
    (h : x ≤ s.now) :
    ∃ v, s.quietTimeout c
      = (s.modChan c fun ch => { ch with trig := { ch.trig with quietDone := true } }).unitTrigger c x v := by
  subst hx
  refine ⟨_, if_neg ?_⟩
  rintro (h' | h' | h' | h' | h' | h')
  exacts [h' hm, h' hy, by simp [hq] at h', hnot h', by simp [hd] at h', h.not_gt h']

/-- A held unit triggers at the end of its timeout (spec 11 R255). -/
theorem heldTimeout_of_due (hm : s.modeOf c = 0) (hy : s.popt Par.trigType c = 4) (hq : s.sense c 1 = true)
    (ha : (s.cmp c (s.popt Par.trigCmp c)).above = true) (hd : (s.chan c).trig.heldDone = false)
    (hcur : s.trigCurrent c (s.popt Par.trigCmp c) = true)
    (hx : x = (s.cmp c (s.popt Par.trigCmp c)).lead + ns (8 * s.pnum Par.trigTimeout c)) (h : x ≤ s.now) :
    ∃ v, s.heldTimeout c
      = (s.modChan c fun ch => { ch with trig := { ch.trig with heldDone := true } }).unitTrigger c x v := by
  subst hx
  refine ⟨_, if_neg ?_⟩
  rintro (h' | h' | h' | h' | h' | h' | h')
  exacts [h' hm, h' hy, by simp [hq] at h', by simp [ha] at h', by simp [hcur] at h', by simp [hd] at h', h.not_gt h']

end

/-- What changes channels, banks and counters after the clock has gone on changes those alone. -/
theorem Triggered.same_of_advance {t : Tick} {c : Nat} {x : Tick} {g : Channel → Channel} {s u : State}
    (h : Triggered c x g (s.advance t) u) :
    u = { s with clock := u.clock, chans := u.chans, banks := u.banks, counters := u.counters } := by
  rw [h.same]
  rfl

end State

/-! ## The events -/

section
variable {t : Tick} {c : Nat} {s : State}

/-- QUIET_TIMEOUT that has come (spec 11 R255, R256). -/
theorem exec_quietTimeout (hw : s.wf = true) (hm : s.modeOf c = 0) (hy : s.popt Par.trigType c = 4)
    (hq : s.sense c 1 = false) (hwin : s.popt Par.windowGate c = 0) (hval : s.popt Par.validGate c = 0)
    (hnot : ¬((s.cmp c (s.popt Par.trigCmp c)).inEvent = true
      ∧ max (s.cmp c (s.popt Par.trigCmp c)).lastTrail (s.chan c).trig.appliedAt ≤ (s.cmp c (s.popt Par.trigCmp c)).lead))
    (hd : (s.chan c).trig.quietDone = false) {x : Tick}
    (hx : x = max (s.cmp c (s.popt Par.trigCmp c)).lastTrail (s.chan c).trig.appliedAt + ns (8 * s.pnum Par.trigTimeout c))
    (h : x ≤ t) :
    ∃ u, exec (.quietTimeout t c) s = .next u
      ∧ State.Triggered c x (fun ch => { ch with trig := { ch.trig with quietDone := true } }) (s.advance t) u := by
  obtain ⟨v, hv⟩ := State.quietTimeout_of_due (s := s.advance t) hm hy hq hnot hd hx (h.trans (le_max_right ..))
  exact ⟨_, congrArg Host.Outcome.next hv, State.triggered_of_ungated (s := s.advance t) hw hwin hval _ x v⟩

/-- HELD_TIMEOUT that has come (spec 11 R255, R256). -/
theorem exec_heldTimeout (hw : s.wf = true) (hm : s.modeOf c = 0) (hy : s.popt Par.trigType c = 4)
    (hq : s.sense c 1 = true) (hwin : s.popt Par.windowGate c = 0) (hval : s.popt Par.validGate c = 0)
    (ha : (s.cmp c (s.popt Par.trigCmp c)).above = true) (hd : (s.chan c).trig.heldDone = false)
    (hcur : s.trigCurrent c (s.popt Par.trigCmp c) = true) {x : Tick}
    (hx : x = (s.cmp c (s.popt Par.trigCmp c)).lead + ns (8 * s.pnum Par.trigTimeout c)) (h : x ≤ t) :
    ∃ u, exec (.heldTimeout t c) s = .next u
      ∧ State.Triggered c x (fun ch => { ch with trig := { ch.trig with heldDone := true } }) (s.advance t) u := by
  obtain ⟨v, hv⟩ := State.heldTimeout_of_due (s := s.advance t) hm hy hq ha hd hcur hx (h.trans (le_max_right ..))
  exact ⟨_, congrArg Host.Outcome.next hv, State.triggered_of_ungated (s := s.advance t) hw hwin hval _ x v⟩

end

end Sys2Proof.Machine
end

section
/-! PROOFS. Capture staging (spec 01 R29, 11 R260, 12 R281): a request changes the DRAM's queues alone, and of the groups what
serves requests to make room changes nothing but readback. -/

namespace Sys2Proof

/-- What a key of a canonical store reads, written again, leaves the store as it is. -/
theorem Store.write_read {α : Type} [DecidableEq α] (d : α) (m : Store α) (lo : Option Nat) (k : Nat)
    (h : Store.wfFrom d lo m = true) : Store.write d m k (Store.read d m k) = m := by
  induction m generalizing lo with
  | nil => exact if_pos rfl
  | cons p r ih =>
    obtain ⟨k', v⟩ := p
    have hcons := h
    simp only [Store.wfFrom, Bool.and_eq_true, Bool.not_eq_true', decide_eq_false_iff_not] at h
    obtain ⟨⟨-, hv⟩, hr⟩ := h
    rw [Store.write, Store.read]
    rcases lt_trichotomy k k' with hk | hk | hk
    · rw [if_pos hk, if_neg hk.ne, Store.read_below d r k' k hr hk.le, if_pos rfl]
    · rw [if_neg hk.not_lt, if_pos hk, if_pos hk, if_neg hv, hk]
    · rw [if_neg hk.not_gt, if_neg hk.ne', if_neg hk.ne', ih _ hr]

namespace Machine

/-- A group less the captures that it reads back. -/
def Group.unread (y : Group) : Group := { y with read := none }

namespace State

/-! ## Reading groups after a change -/

section
variable {g : Nat} {s : State}

theorem groups_wf (h : s.wf = true) : Store.wf {} s.groups = true := by
  simp only [wf, partsWf, Bool.and_eq_true] at h
  tauto

/-- A group reads as it was changed. -/
theorem group_modGroup_same (h : s.wf = true) (g : Nat) (f : Group → Group) : (s.modGroup g f).group g = f (s.group g) :=
  Store.read_write_same _ _ none g _ (groups_wf h)

/-- Another group reads as before. -/
theorem group_modGroup_other (h : s.wf = true) {k : Nat} (hk : k ≠ g) (f : Group → Group) :
    (s.modGroup g f).group k = s.group k := Store.read_write_other _ _ none g k _ (groups_wf h) hk

theorem wf_modGroup (h : s.wf = true) (g : Nat) (f : Group → Group) : (s.modGroup g f).wf = true :=
  (modGroup_kept (.refl s)).wf h

/-! ## Requests (spec 12 R281) -/

/-- Nothing but the DRAM controller's own state changes from `s` to `u`. -/
def OnlyDram (s u : State) : Prop := ∃ d, u = s.modDram fun _ => d

theorem OnlyDram.refl (s : State) : OnlyDram s s := ⟨s.dram, rfl⟩

theorem OnlyDram.modDram {u : State} (h : OnlyDram s u) (f : Dram → Dram) : OnlyDram s (u.modDram f) := by
  obtain ⟨d, rfl⟩ := h
  exact ⟨f d, rfl⟩

theorem OnlyDram.enterQueue {u : State} (h : OnlyDram s u) (r : DramReq) : OnlyDram s (u.enterQueue r) := by
  unfold State.enterQueue modDramBank
  exact h.modDram _

theorem OnlyDram.enterAll {u : State} (h : OnlyDram s u) (l : List DramReq) : OnlyDram s (u.enterAll l).2 := by
  refine List.foldlRecOn l _ (motive := fun a : List DramReq × State => OnlyDram s a.2) h fun a ha r _ => ?_
  split
  · exact ha.enterQueue r
  · exact ha

theorem OnlyDram.fillQueues {u : State} (h : OnlyDram s u) : OnlyDram s u.fillQueues := by
  unfold State.fillQueues
  exact (((h.enterAll _).enterAll _).enterAll _).modDram _

theorem request_onlyDram (l : List DramReq) (s : State) : OnlyDram s (s.request l) := by
  unfold request
  split
  · exact .refl s
  · exact ((OnlyDram.refl s).modDram _).fillQueues

theorem OnlyDram.same {u : State} (h : OnlyDram s u) : u = { s with dram := u.dram } := by
  obtain ⟨d, rfl⟩ := h
  rfl

/-! ## Room in capture staging -/

theorem thatFit_of_room {room : Nat} {l : List DramReq} (h : (l.map maskBytes).sum ≤ room) : thatFit room l = l := by
  induction l generalizing room with
  | nil => rfl
  | cons r rest ih =>
    rw [List.map_cons, List.sum_cons] at h
    rw [thatFit, if_pos (by omega), ih (by omega)]

theorem stagedBytes_eq (s : State) : s.stagedBytes = (s.dram.staging.map maskBytes).sum := by
  rw [stagedBytes, List.sum_eq_foldl, List.foldl_map]

/-- What capture staging holds stays there where there is room for it (spec 01 R29). -/
theorem makeRoom_of_room (h : s.stagedBytes ≤ stagingSize) : s.makeRoom = s := by
  have hserved : (s.each (List.range s.dram.staging.length) fun _ u => u.cond (stagingSize < u.stagedBytes) (turn true)) = s :=
    each_eq_self fun _ _ => by rw [decide_eq_false h.not_gt]; rfl
  have hfits : thatFit stagingSize s.dram.staging = s.dram.staging := thatFit_of_room (stagedBytes_eq s ▸ h)
  rw [makeRoom, hserved, modDram, hfits]

end

/-! ## What serves requests to make room -/

/-- A well-formed `s` goes to a well-formed `u` with the counters, and the groups but for their readback, of `s`. -/
structure Serves (s u : State) : Prop where
  of_wf : s.wf = true → u.wf = true ∧ u.counters = s.counters ∧ ∀ k, (u.group k).unread = (s.group k).unread

namespace Serves

theorem refl (s : State) : Serves s s := ⟨fun h => ⟨h, rfl, fun _ => rfl⟩⟩

theorem trans {s u v : State} (h : Serves s u) (k : Serves u v) : Serves s v := by
  refine ⟨fun hw => ?_⟩
  obtain ⟨hwf, hcounters, hgroups⟩ := h.of_wf hw
  obtain ⟨hwf', hcounters', hgroups'⟩ := k.of_wf hwf
  exact ⟨hwf', hcounters'.trans hcounters, fun i => (hgroups' i).trans (hgroups i)⟩

theorem cond {f : State → State} (h : ∀ u, Serves u (f u)) (b : Bool) (s : State) : Serves s (s.cond b f) := by
  cases b
  · exact .refl s
  · exact h s

theorem each {ι : Type} {f : ι → State → State} (h : ∀ a u, Serves u (f a u)) (l : List ι) (s : State) :
    Serves s (s.each l f) := each_rel refl trans h l s

/-- A change beside counters and groups. -/
theorem beside {s u : State} (hk : Kept s u) (hc : u.counters = s.counters := by rfl)
    (hg : u.groups = s.groups := by rfl) : Serves s u :=
  ⟨fun hw => ⟨hk.wf hw, hc, fun k => by rw [group, hg, group]⟩⟩

theorem of_onlyDram {s u : State} (hk : Kept s u) (h : OnlyDram s u) : Serves s u :=
  .beside hk (by rw [h.same]) (by rw [h.same])

theorem request (l : List DramReq) (s : State) : Serves s (s.request l) :=
  .of_onlyDram (request_kept (.refl s)) (request_onlyDram l s)

theorem fillQueues (s : State) : Serves s s.fillQueues :=
  .of_onlyDram (fillQueues_kept (.refl s)) (OnlyDram.refl s).fillQueues

/-- Bytes that a group reads back stand in its readback. -/
theorem modGroup {g : Nat} {f : Group → Group} (hf : ∀ y, (f y).unread = y.unread) (s : State) :
    Serves s (s.modGroup g f) := by
  refine ⟨fun hw => ⟨wf_modGroup hw g f, rfl, fun k => ?_⟩⟩
  by_cases hk : k = g
  · rw [hk, group_modGroup_same hw, hf]
  · rw [group_modGroup_other hw hk]

theorem burstEffect (r : DramReq) (s : State) : Serves s (s.burstEffect r) := by
  have hkept : Kept s (s.burstEffect r) := burstEffect_kept (.refl s)
  by_cases hwrite : r.write = true
  · rw [State.burstEffect, if_pos hwrite] at hkept ⊢
    exact .beside hkept
  · rw [State.burstEffect, if_neg hwrite]
    dsimp only
    split
    · exact .refl s
    · exact .cond (fun u => .request _ u) _ s
    · exact .beside (modBob_kept (.refl s))
    · refine .modGroup (fun _ => ?_) s
      rfl

theorem serveReq (n : Nat) (r : DramReq) (s : State) : Serves s (s.serveReq n r) := by
  unfold State.serveReq
  dsimp only
  refine .trans (.trans ?_ (.cond (fun u => .beside (modDramBank_kept (.refl u))) _ _)) (.burstEffect r _)
  exact .beside (modDramCh_kept (modDramBank_kept (.refl s)))

theorem channelTurn (past : Bool) (ch : Nat) (s : State) : Serves s (s.channelTurn past ch) := by
  unfold State.channelTurn
  split
  · exact .refl s
  · split
    · exact .refl s
    · dsimp only
      split
      · exact .cond (fun u => .beside (modDramCh_kept (modDramBank_kept (.refl u)))) _ s
      · exact .serveReq ..

theorem turn (past : Bool) (s : State) : Serves s (s.turn past) := by
  unfold State.turn
  split
  · exact .trans (.each (channelTurn past) _ s) (.fillQueues _)
  · exact .refl s

theorem makeRoom (s : State) : Serves s s.makeRoom :=
  .trans (.each (fun _ u => .cond (turn true) _ u) _ s) (.beside (modDram_kept (.refl _)))

theorem stageBytes (g : Nat) (parts : List (Nat × List Byte)) (s : State) : Serves s (s.stageBytes g parts) :=
  .trans (.request _ s) (.makeRoom _)

theorem layWords (g : Nat) (words : List RawWord) (s : State) : Serves s (s.layWords g words) :=
  .cond (stageBytes g _) _ s

theorem storeHeads (g : Nat) (p : Capture) (s : State) : Serves s (s.storeHeads g p) := .stageBytes ..

end Serves

/-- Bytes that find room in capture staging are requests that wait there (spec 11 R260, 12 R281). -/
theorem stageBytes_of_room {g : Nat} {parts : List (Nat × List Byte)} {r : State} {s : State}
    (hr : r = s.request (writesOf 2 (.capture g)
      (parts.flatMap fun p => p.2.mapIdx fun j v => (regionAddr (s.group g) (p.1 + j), v))))
    (h : r.stagedBytes ≤ stagingSize) : s.stageBytes g parts = r ∧ r = { s with dram := r.dram } := by
  have honly : OnlyDram s r := hr ▸ request_onlyDram _ s
  rw [stageBytes, ← hr]
  exact ⟨makeRoom_of_room h, honly.same⟩

end State
end Machine
end Sys2Proof
end

section
/-! PROOFS. Capture groups (spec 11 R263-R267): arms, rings, triggers, captures and REARM. -/

namespace Sys2Proof.Machine

/-- A group's records of the capture `p`, whose last word ends at `e` (spec 11 R267, R268). -/
def Group.captured (p : Capture) (e : Tick) (y : Group) : Group := { y with
  captures := y.captures.filter (fun c => c.segment ≠ y.segment) ++ [p]
  number := (y.number + 1) % 2 ^ 32, made := y.made + 1, lastEnd := some e }

namespace State

section
variable {g : Nat} {s u : State}

/-- From `s` to `u` only group `g` has changed: `y` stands in it now. -/
structure GroupBecomes (g : Nat) (y : Group) (s u : State) : Prop where
  own : u.group g = y
  others : ∀ k, k ≠ g → u.group k = s.group k
  same : u = { s with groups := u.groups }

theorem groupBecomes_modGroup (hw : s.wf = true) (g : Nat) (f : Group → Group) :
    GroupBecomes g (f (s.group g)) s (s.modGroup g f) :=
  ⟨group_modGroup_same hw g f, fun _ hk => group_modGroup_other hw hk f, rfl⟩

/-- A second change of the group. -/
theorem GroupBecomes.modGroup {y : Group} (h : GroupBecomes g y s u) (hw : u.wf = true) (f : Group → Group) :
    GroupBecomes g (f y) s (u.modGroup g f) := by
  refine ⟨(group_modGroup_same hw g f).trans (congrArg f h.own), fun k hk => ?others, ?same⟩
  case others => exact (group_modGroup_other hw hk f).trans (h.others k hk)
  case same => rw [h.same]; rfl

/-- A change of a group after the clock has gone on. -/
theorem GroupBecomes.same_of_advance {t : Tick} {y : Group} (h : GroupBecomes g y (s.advance t) u) :
    u = { s with clock := u.clock, groups := u.groups } := by
  rw [h.same]
  rfl

/-! ## Arm and ring (spec 11 R263) -/

theorem armEffect_of_boundary (ha : (s.group g).armPending = true) (hc : (s.group g).closing = none)
    (hb : s.atWord = true) :
    ∃ f, s.armEffect g = s.modGroup g f ∧ ∀ y, (f y).armPending = false ∧ (f y).ringAt = s.now
      ∧ (f y).state = if (groupParams (s.group g)).continuous then .continuous
        else if (groupParams (s.group g)).pre = 0 then .waiting else .filling := by
  refine ⟨_, if_neg ?_, fun _ => ⟨rfl, rfl, rfl⟩⟩
  rintro (h | h | h)
  exacts [by simp [ha] at h, by simp [hc] at h, by simp [hb] at h]

theorem ringFilled_of_due (hs : (s.group g).state = .filling)
    (h : (s.group g).ringAt + wordTime * ((groupParams (s.group g)).pre / 8) ≤ s.now) (words : List RawWord) :
    s.ringFilled g words = (s.layWords g words).modGroup g fun y => { y with state := .waiting } := by
  simp only [ringFilled, hs, h, decide_true, Bool.and_self, cond_eq, if_true]

/-! ## Triggers (spec 11 R257, R264-R266) -/

/-- A bank whose units have given nothing combines nothing. -/
theorem combineBank_of_none (hw : s.wf = true) {b : Nat} (h : (s.bank b).fresh = []) : s.combineBank b = s := by
  have hread : ({ s.bank b with fresh := [] } : Bank) = s.bank b := by rw [← h]
  have hself : Store.write {} s.banks b (s.bank b) = s.banks := Store.write_read _ _ none b (banks_wf hw)
  have hsame : s.modBank b (fun y => { y with fresh := [] }) = s :=
    congrArg (fun m => { s with banks := m }) ((congrArg (Store.write {} s.banks b) hread).trans hself)
  simp only [combineBank, h, trigOrder, sortBy, List.foldr_nil, each, List.foldl_nil, hsame]

/-- The group that has accepted a trigger at instant `x` (spec 11 R264-R266). -/
structure Accepts (x : Tick) (source channel : Nat) (y z : Group) : Prop where
  state : z.state = .post
  trigger : z.trigger.map (fun a => (a.instant, a.source, a.channel)) = some (x, source, channel)
  seen : z.seen = y.seen
  schedDone : z.schedDone = y.schedDone

theorem acceptTrigger_eq (g : Nat) (x : Tick) (source channel : Nat) (s : State) :
    ∃ f, s.acceptTrigger g x source channel = s.modGroup g f ∧ ∀ y, Accepts x source channel y (f y) :=
  ⟨_, rfl, fun _ => ⟨rfl, rfl, rfl, rfl⟩⟩

/-- A waiting group takes a trigger of its ring (spec 11 R264). -/
theorem decideTrigger_of_waiting {x : Tick} (hc : (s.group g).closing = none) (hs : (s.group g).state = .waiting)
    (hx : (s.group g).ringAt ≤ x) (source channel : Nat) :
    s.decideTrigger g x source channel = s.acceptTrigger g x source channel := by
  simp only [decideTrigger, hc, hs, hx, Option.isSome_none, Bool.false_eq_true, if_false, or_true, and_self, if_true]

/-- A waiting group that is changed by `f` and takes the trigger then. -/
theorem decideTrigger_after (hw : s.wf = true) {f : Group → Group} {x : Tick}
    (hc : (f (s.group g)).closing = none) (hs : (f (s.group g)).state = .waiting) (hx : (f (s.group g)).ringAt ≤ x)
    (source channel : Nat) :
    ∃ z, GroupBecomes g z s ((s.modGroup g f).decideTrigger g x source channel)
      ∧ Accepts x source channel (f (s.group g)) z := by
  have hread := group_modGroup_same hw g f
  rw [decideTrigger_of_waiting (hread ▸ hc) (hread ▸ hs) (hread ▸ hx)]
  obtain ⟨accept, hf, haccepts⟩ := acceptTrigger_eq g x source channel (s.modGroup g f)
  rw [hf]
  exact ⟨_, (groupBecomes_modGroup hw g f).modGroup (wf_modGroup hw g f) accept, haccepts _⟩

/-- The decision of the one trigger that a waiting group has seen (spec 11 R257, R264). -/
theorem decideTriggers_of_one {words : List RawWord} {x : Tick} {source channel : Nat} {b : State}
    (hb : b = s.layWords g words) (hw : b.wf = true) (hseen : (b.group g).seen = [(x, source, channel)])
    (hs : (b.group g).state = .waiting) (hc : (b.group g).closing = none) (hx : (b.group g).ringAt ≤ x)
    (hfresh : ∀ i, i < 16 → (b.bank i).fresh = []) :
    ∃ z, GroupBecomes g z b (s.decideTriggers g words) ∧ Accepts x source channel { b.group g with seen := [] } z := by
  have hcombined : b.each (List.range 16) combineBank = b :=
    each_eq_self fun i hi => combineBank_of_none hw (hfresh i (List.mem_range.mp hi))
  have hread := group_modGroup_same hw g fun y => { y with seen := [] }
  have hwatches : ((b.modGroup g fun y => { y with seen := [] }).group g).state.watches = true := by
    rw [hread, hs]
    rfl
  obtain ⟨z, hz, haccepts⟩ := decideTrigger_after hw (f := fun y => { y with seen := [] }) hc hs hx source channel
  refine ⟨z, ?_, haccepts⟩
  unfold decideTriggers
  dsimp only
  rw [← hb, hcombined, hseen]
  change GroupBecomes g z b (State.cond _ _ _)
  rw [hwatches]
  exact hz

/-- The scheduled trigger of a waiting group (spec 11 R264). -/
theorem scheduledTrigger_of_due {f l q : Nat} (hw : s.wf = true)
    (hp : (groupParams (s.group g)).scheduled = some (f, l, q)) (hd : (s.group g).schedDone = false)
    (hs : (s.group g).state = .waiting) (hc : (s.group g).closing = none) (ht : s.spindle.hasTime = true)
    (hx : s.plannedInstant ⟨f, l, q⟩ ≤ s.now) (hr : (s.group g).ringAt ≤ s.plannedInstant ⟨f, l, q⟩) :
    ∃ z, GroupBecomes g z s (s.scheduledTrigger g)
      ∧ Accepts (s.plannedInstant ⟨f, l, q⟩) (2 ^ 17) 0xFF { s.group g with schedDone := true } z := by
  have heq : s.scheduledTrigger g = (s.modGroup g fun y => { y with schedDone := true }).decideTrigger g
      (s.plannedInstant ⟨f, l, q⟩) (2 ^ 17) 0xFF := by
    have hwatches : GroupState.waiting.watches = true := rfl
    simp only [scheduledTrigger, hp, hd, hs, hwatches, ht, hx.not_gt, Bool.not_true, Bool.false_eq_true, or_self, if_false]
  rw [heq]
  exact decideTrigger_after hw (f := fun y => { y with schedDone := true }) hc hs hr (2 ^ 17) 0xFF

/-! ## Captures (spec 11 R267, R268) -/

theorem addCapture_eq (g : Nat) (a : Accepted) (start : Nat) (turn : Option Nat) (n post : Nat) (flags : BitVec 10)
    (s : State) : ∃ (p : Capture) (e : Tick), p.trigger = a.instant ∧ p.source = a.source ∧ p.words = n
      ∧ p.segment = (s.group g).segment
      ∧ s.addCapture g a start turn n post flags = (s.storeHeads g p).modGroup g (Group.captured p e) :=
  ⟨_, _, rfl, rfl, rfl, rfl, rfl⟩

/-- From `s` to `u` group `g` has kept the capture `p`, with `f` after it, and `p`'s headers have gone to capture staging. -/
structure Captures (g : Nat) (p : Capture) (f : Group → Group) (s u : State) : Prop where
  wf : u.wf = true
  becomes : ∃ e, GroupBecomes g (f (((s.storeHeads g p).group g).captured p e)) (s.storeHeads g p) u
  segment : ((s.storeHeads g p).group g).segment = (s.group g).segment
  counters : u.counters = s.counters

theorem addCapture_captures (hw : s.wf = true) (a : Accepted) (start : Nat) (turn : Option Nat) (n post : Nat)
    (flags : BitVec 10) (f : Group → Group) :
    ∃ p, Captures g p f s ((s.addCapture g a start turn n post flags).modGroup g f) ∧ p.trigger = a.instant
      ∧ p.source = a.source ∧ p.words = n ∧ p.segment = (s.group g).segment := by
  obtain ⟨p, e, htrigger, hsource, hwords, hsegment, heq⟩ := addCapture_eq g a start turn n post flags s
  obtain ⟨hheads, hcounters, hgroups⟩ := (Serves.storeHeads g p s).of_wf hw
  have hkept := wf_modGroup hheads g (Group.captured p e)
  rw [heq]
  exact ⟨p, ⟨wf_modGroup hkept g f, ⟨e, (groupBecomes_modGroup hheads g _).modGroup hkept f⟩,
    (congrArg Group.segment (hgroups g) :),
    by simp only [modGroup, modGroups_counters, hcounters]⟩, htrigger, hsource, hwords, hsegment⟩

theorem Captures.captures_eq {p : Capture} {f : Group → Group} (h : Captures g p f s u)
    (hf : ∀ y, (f y).captures = y.captures) : (u.group g).captures
      = ((s.storeHeads g p).group g).captures.filter (fun c => c.segment ≠ (s.group g).segment) ++ [p] := by
  obtain ⟨e, hbecomes⟩ := h.becomes
  rw [hbecomes.own, hf, Group.captured, h.segment]

/-- The last post-trigger word closes the capture (spec 11 R267). -/
theorem postEnd_of_due {a : Accepted} {words : List RawWord} {b : State} (hb : b = s.layWords g words)
    (hs : (b.group g).state = .post) (ha : (b.group g).trigger = some a) (hc : (b.group g).closing = none)
    (h : (b.group g).ringAt + wordTime * ((a.instant - (b.group g).ringAt) / wordTime + (b.group g).postWords) ≤ b.now) :
    ∃ f start turn flags, s.postEnd g words
        = (b.addCapture g a start turn (a.pre + (b.group g).postWords) (b.group g).postWords flags).modGroup g f
      ∧ ∀ y, (f y).captures = y.captures ∧ (f y).state = .rearm ∧ (f y).trigger = none ∧ (f y).made = y.made := by
  simp only [postEnd, ← hb, hs, ha]
  refine ⟨_, _, _, _, if_neg ?_, fun _ => ⟨rfl, rfl, rfl, rfl⟩⟩
  rintro (h' | h')
  exacts [by simp [hc] at h', h.not_gt h']

/-! ## REARM (spec 11 R267) -/

section
variable (hw : s.wf = true) (hs : (s.group g).state = .rearm) (hc : (s.group g).closing = none) (hb : s.atWord = true)
include hw hs hc hb

/-- After the last capture in stop mode the group is DONE. -/
theorem rearmEnd_of_last
    (h : (groupParams (s.group g)).wrap = false ∧ (groupParams (s.group g)).segments ≤ (s.group g).made) :
    ∃ z, GroupBecomes g z s (s.rearmEnd g) ∧ z.state = .done := by
  obtain ⟨hwrap, hmade⟩ := h
  have heq : s.rearmEnd g = (s.modGroup g fun y => { y with dead := spanTo none s y.dead }).modGroup g fun y => { y with
      state := .done } := by
    simp only [rearmEnd, hs, hc, hb, hwrap, hmade, ne_eq, not_true, Option.isSome_none, Bool.false_eq_true, Bool.not_true,
      Bool.not_false, or_self, and_self, if_false, if_true]
  rw [heq]
  exact ⟨_, (groupBecomes_modGroup hw g _).modGroup (wf_modGroup hw g _) _, rfl⟩

/-- Else the ring of the next segment begins. -/
theorem rearmEnd_of_more
    (h : ¬((groupParams (s.group g)).wrap = false ∧ (groupParams (s.group g)).segments ≤ (s.group g).made)) :
    ∃ z, GroupBecomes g z s (s.rearmEnd g) ∧ z.ringAt = s.now
      ∧ z.state = (if (groupParams (s.group g)).pre = 0 then .waiting else .filling)
      ∧ z.segment = ((s.group g).segment + 1) % max 1 (groupParams (s.group g)).segments := by
  have hmore : ¬((!(groupParams (s.group g)).wrap) = true ∧ (groupParams (s.group g)).segments ≤ (s.group g).made) := by
    simpa using h
  simp only [rearmEnd, hs, hc, hb, ne_eq, not_true, Option.isSome_none, Bool.false_eq_true, Bool.not_true, or_self,
    if_false, if_neg hmore]
  exact ⟨_, (groupBecomes_modGroup hw g _).modGroup (wf_modGroup hw g _) _, rfl, rfl, rfl⟩

end

end

end State

/-! ## The events -/

section
variable {t : Tick} {g : Nat} {s : State}

/-- ARM_EFFECT at a word boundary (spec 11 R263). -/
theorem exec_armEffect (ht : s.now ≤ t) (hw : s.wf = true) (ha : (s.group g).armPending = true)
    (hc : (s.group g).closing = none) (hb : (s.advance t).atWord = true) :
    ∃ u, exec (.armEffect t g) s = .next u ∧ (u.group g).armPending = false ∧ (u.group g).ringAt = t
      ∧ (u.group g).state = (if (State.groupParams (s.group g)).continuous then .continuous
        else if (State.groupParams (s.group g)).pre = 0 then .waiting else .filling)
      ∧ (∀ k, k ≠ g → u.group k = s.group k) ∧ u = { s with clock := u.clock, groups := u.groups } := by
  obtain ⟨f, harm, hf⟩ := State.armEffect_of_boundary (s := s.advance t) ha hc hb
  have hbecomes := State.groupBecomes_modGroup (s := s.advance t) hw g f
  obtain ⟨hpending, hring, hstate⟩ := hf (s.group g)
  refine ⟨_, congrArg Host.Outcome.next harm, ?_⟩
  rw [hbecomes.own]
  exact ⟨hpending, hring.trans (max_eq_right ht), hstate, hbecomes.others, hbecomes.same_of_advance⟩

/-- RING_FILLED of a ring that holds P / 8 words (spec 11 R263). -/
theorem exec_ringFilled {words : List RawWord} (hs : (s.group g).state = .filling)
    (h : (s.group g).ringAt + wordTime * ((State.groupParams (s.group g)).pre / 8) ≤ t) :
    exec (.ringFilled t ⟨g, words⟩) s = .next (((s.advance t).layWords g words).modGroup g fun y => { y with
      state := .waiting }) :=
  congrArg Host.Outcome.next (State.ringFilled_of_due (s := s.advance t) hs (h.trans (le_max_right ..)) words)

/-- TRIGGER_DECISION of the one trigger that a waiting group has seen (spec 11 R264-R266). -/
theorem exec_triggerDecision {words : List RawWord} {x : Tick} {source channel : Nat} {b : State}
    (hb : b = (s.advance t).layWords g words) (hw : b.wf = true) (hseen : (b.group g).seen = [(x, source, channel)])
    (hs : (b.group g).state = .waiting) (hc : (b.group g).closing = none) (hx : (b.group g).ringAt ≤ x)
    (hfresh : ∀ i, i < 16 → (b.bank i).fresh = []) :
    ∃ u, exec (.triggerDecision t ⟨g, words⟩) s = .next u ∧ (u.group g).state = .post ∧ (u.group g).seen = []
      ∧ ((u.group g).trigger.map fun a => (a.instant, a.source, a.channel)) = some (x, source, channel)
      ∧ (∀ k, k ≠ g → u.group k = b.group k) ∧ (∀ i, u.bank i = b.bank i)
      ∧ u = { b with groups := u.groups, banks := u.banks } := by
  obtain ⟨z, hbecomes, haccepts⟩ := State.decideTriggers_of_one hb hw hseen hs hc hx hfresh
  refine ⟨(s.advance t).decideTriggers g words, rfl, ?_⟩
  rw [hbecomes.own]
  have hbanks : ((s.advance t).decideTriggers g words).banks = b.banks := by rw [hbecomes.same]
  refine ⟨haccepts.state, haccepts.seen, haccepts.trigger, hbecomes.others, fun i => ?bank, ?frame⟩
  case bank => rw [State.bank, hbanks, State.bank]
  case frame => rw [hbecomes.same]

/-- SCHEDULED_TRIGGER of a waiting group (spec 11 R264-R266). -/
theorem exec_scheduledTrigger {f l q : Nat} (hw : s.wf = true)
    (hp : (State.groupParams (s.group g)).scheduled = some (f, l, q)) (hd : (s.group g).schedDone = false)
    (hs : (s.group g).state = .waiting) (hc : (s.group g).closing = none) (hh : s.spindle.hasTime = true)
    (hx : s.plannedInstant ⟨f, l, q⟩ ≤ t) (hr : (s.group g).ringAt ≤ s.plannedInstant ⟨f, l, q⟩) :
    ∃ u, exec (.scheduledTrigger t g) s = .next u ∧ (u.group g).state = .post ∧ (u.group g).schedDone = true
      ∧ ((u.group g).trigger.map fun a => (a.instant, a.source)) = some (s.plannedInstant ⟨f, l, q⟩, 2 ^ 17)
      ∧ (∀ k, k ≠ g → u.group k = s.group k) ∧ u = { s with clock := u.clock, groups := u.groups } := by
  obtain ⟨z, hbecomes, haccepts⟩ := State.scheduledTrigger_of_due (s := s.advance t) hw hp hd hs hc hh
    (hx.trans (le_max_right ..)) hr
  have htrigger := congrArg (Option.map fun a : Tick × Nat × Nat => (a.1, a.2.1)) haccepts.trigger
  refine ⟨(s.advance t).scheduledTrigger g, rfl, ?_⟩
  rw [hbecomes.own]
  refine ⟨haccepts.state, haccepts.schedDone, ?_, hbecomes.others, hbecomes.same_of_advance⟩
  rwa [Option.map_map] at htrigger

/-- POST_TRIGGER_END of the last post-trigger word (spec 11 R266, R267). -/
theorem exec_postTriggerEnd {a : Accepted} {words : List RawWord} {b : State} (hb : b = (s.advance t).layWords g words)
    (hs : (b.group g).state = .post) (ha : (b.group g).trigger = some a) (hc : (b.group g).closing = none) (hw : b.wf = true)
    (h : (b.group g).ringAt + wordTime * ((a.instant - (b.group g).ringAt) / wordTime + (b.group g).postWords) ≤ t) :
    ∃ u p, exec (.postTriggerEnd t g words) s = .next u ∧ (u.group g).state = .rearm ∧ (u.group g).trigger = none
      ∧ (u.group g).captures
        = ((b.storeHeads g p).group g).captures.filter (fun c => c.segment ≠ (b.group g).segment) ++ [p]
      ∧ p.trigger = a.instant ∧ p.source = a.source ∧ p.words = a.pre + (b.group g).postWords
      ∧ p.segment = (b.group g).segment ∧ (u.group g).made = ((b.storeHeads g p).group g).made + 1
      ∧ (∀ k, k ≠ g → u.group k = (b.storeHeads g p).group k) ∧ u = { b.storeHeads g p with groups := u.groups } := by
  have hnow : t ≤ b.now := (le_max_right ..).trans (hb ▸ (State.layWords_kept (.refl (s.advance t))).time)
  obtain ⟨f, start, turn, flags, hend, hf⟩ := State.postEnd_of_due hb hs ha hc (h.trans hnow)
  obtain ⟨p, hcaptures, htrigger, hsource, hwords, hsegment⟩ := State.addCapture_captures (g := g) hw a start turn
    (a.pre + (b.group g).postWords) (b.group g).postWords flags f
  have hlist := hcaptures.captures_eq fun y => (hf y).1
  obtain ⟨e, hbecomes⟩ := hcaptures.becomes
  obtain ⟨-, hstate, hdone, hmade⟩ := hf (((b.storeHeads g p).group g).captured p e)
  refine ⟨_, p, congrArg Host.Outcome.next hend, ?_⟩
  rw [hlist, hbecomes.own]
  exact ⟨hstate, hdone, rfl, htrigger, hsource, hwords, hsegment, hmade, hbecomes.others, hbecomes.same⟩

/-- REARM_END at a word boundary (spec 11 R267). -/
theorem exec_rearmEnd (ht : s.now ≤ t) (hw : s.wf = true) (hs : (s.group g).state = .rearm)
    (hc : (s.group g).closing = none) (hb : (s.advance t).atWord = true) :
    ∃ u, exec (.rearmEnd t g) s = .next u
      ∧ ((State.groupParams (s.group g)).wrap = false → (State.groupParams (s.group g)).segments ≤ (s.group g).made →
        (u.group g).state = .done)
      ∧ (((State.groupParams (s.group g)).wrap = true ∨ (s.group g).made < (State.groupParams (s.group g)).segments) →
        (u.group g).ringAt = t
        ∧ (u.group g).state = (if (State.groupParams (s.group g)).pre = 0 then .waiting else .filling)
        ∧ (u.group g).segment = ((s.group g).segment + 1) % max 1 (State.groupParams (s.group g)).segments)
      ∧ (∀ k, k ≠ g → u.group k = s.group k) ∧ u = { s with clock := u.clock, groups := u.groups } := by
  by_cases hlast : (State.groupParams (s.group g)).wrap = false
      ∧ (State.groupParams (s.group g)).segments ≤ (s.group g).made
  · obtain ⟨z, hbecomes, hstate⟩ := State.rearmEnd_of_last (s := s.advance t) hw hs hc hb hlast
    refine ⟨(s.advance t).rearmEnd g, rfl, ?_⟩
    rw [hbecomes.own]
    exact ⟨fun _ _ => hstate, fun hmore => absurd hmore (by simp [hlast]), hbecomes.others, hbecomes.same_of_advance⟩
  · obtain ⟨z, hbecomes, hring, hstate, hsegment⟩ := State.rearmEnd_of_more (s := s.advance t) hw hs hc hb hlast
    refine ⟨(s.advance t).rearmEnd g, rfl, ?_⟩
    rw [hbecomes.own]
    exact ⟨fun hwrap hmade => absurd ⟨hwrap, hmade⟩ hlast, fun _ => ⟨hring.trans (max_eq_right ht), hstate, hsegment⟩,
      hbecomes.others, hbecomes.same_of_advance⟩

end

/-- Settles O33: each clause follows from what its event's operation makes of the trigger unit or of the group. -/
theorem groupsCaptureOnTriggers : Obligations.GroupsCaptureOnTriggers := by
  unfold Obligations.GroupsCaptureOnTriggers
  intro t s ht hw
  refine ⟨fun c hm hy hq hwin hval hnot hd h => ?quiet, fun c hm hy hq hwin hval ha hd hcur h => ?held, fun g =>
    ⟨fun ha hc hb => ?arm, fun parts => ?stage, fun words hs h => ?ring, fun words x src ch => ?decision,
      fun f l q hp hd hs hc hh hx hr => ?scheduled, fun a words => ?post, fun hs hc hb => ?rearm⟩⟩
  case quiet =>
    obtain ⟨u, hu, htrig⟩ := exec_quietTimeout hw hm hy hq hwin hval hnot hd rfl h
    exact ⟨u, hu, congrArg (·.trig.quietDone) htrig.own, htrig.counted, htrig.others, htrig.fresh, htrig.same_of_advance⟩
  case held =>
    obtain ⟨u, hu, htrig⟩ := exec_heldTimeout hw hm hy hq hwin hval ha hd hcur rfl h
    exact ⟨u, hu, congrArg (·.trig.heldDone) htrig.own, htrig.counted, htrig.others, htrig.fresh, htrig.same_of_advance⟩
  case arm => exact exec_armEffect ht hw ha hc hb
  case stage => exact fun h => State.stageBytes_of_room rfl h
  case ring => exact exec_ringFilled hs h
  case decision => exact fun hseen hs hc hx hfresh hb => exec_triggerDecision rfl hb hseen hs hc hx hfresh
  case scheduled => exact exec_scheduledTrigger hw hp hd hs hc hh hx hr
  case post => exact fun hs ha hc hb h => exec_postTriggerEnd rfl hs ha hc hb h
  case rearm => exact exec_rearmEnd ht hw hs hc hb

end Sys2Proof.Machine
end

section
/-! PROOFS. Captures that close, and captures that are read (spec 11 R270, R272, R275, 12 R281). -/

namespace Sys2Proof.Machine

/-- The greatest number below `n` that meets `p` is found first from above. -/
theorem find?_reverse_range {p : Nat → Bool} {g n : Nat} (hg : g < n) (hp : p g = true)
    (habove : ∀ k, g < k → k < n → p k = false) : (List.range n).reverse.find? p = some g := by
  induction n with
  | zero => omega
  | succ n ih =>
    rw [List.range_succ, List.reverse_append, List.reverse_singleton, List.singleton_append]
    rcases Nat.lt_succ_iff_lt_or_eq.mp hg with h | rfl
    · rw [List.find?_cons_of_neg (by simp [habove n h (Nat.lt_succ_self n)])]
      exact ih h fun k hk hn => habove k hk (hn.trans (Nat.lt_succ_self n))
    · exact List.find?_cons_of_pos hp

namespace State

section
variable {g : Nat} {s : State}

/-! ## The close of a segment (spec 11 R270) -/

section
variable {words : List RawWord} {b : State} (hb : b = s.layWords g words) (hwrites : (b.group g).state.writes = true)
  (at_ : Tick) (flag : BitVec 10)
include hb hwrites

/-- A group that writes closes its segment with a capture and is STOPPED; a waiting ring is kept as it stands, at the instant
of the stop. -/
theorem closeGroup_of_writes :
    ∃ a start turn n post flags f, s.closeGroup g at_ flag words = (b.addCapture g a start turn n post flags).modGroup g f
      ∧ (∀ y, (f y).captures = y.captures ∧ (f y).state = .stopped ∧ (f y).closing = none)
      ∧ ((b.group g).state = .waiting → a.instant = at_ ∧ a.source = 0) := by
  unfold closeGroup
  dsimp only
  rw [← hb]
  split
  next hs _ => exact ⟨_, _, _, _, _, _, _, rfl, fun _ => ⟨rfl, rfl, rfl⟩, fun h => by simp [hs] at h⟩
  next hs => simp [hs, GroupState.writes] at hwrites
  next =>
    rw [hwrites]
    exact ⟨_, _, _, _, _, _, _, rfl, fun _ => ⟨rfl, rfl, rfl⟩, fun _ => ⟨rfl, rfl⟩⟩

theorem closeGroup_captures (hw : b.wf = true) :
    ∃ p f, Captures g p f b (s.closeGroup g at_ flag words)
      ∧ (∀ y, (f y).captures = y.captures ∧ (f y).state = .stopped ∧ (f y).closing = none)
      ∧ ((b.group g).state = .waiting → p.trigger = at_ ∧ p.source = 0) := by
  obtain ⟨a, start, turn, n, post, flags, f, heq, hf, ha⟩ := closeGroup_of_writes hb hwrites at_ flag
  obtain ⟨p, hcaptures, htrigger, hsource, -, -⟩ := addCapture_captures hw a start turn n post flags f
  rw [heq]
  exact ⟨p, f, hcaptures, hf, fun h => ⟨htrigger.trans (ha h).1, hsource.trans (ha h).2⟩⟩

end

/-- At the word boundary the group closes, and its stop's command is answered. -/
theorem segmentClose_of_due {c : Closing} (hc : (s.group g).closing = some c) (h : s.wordAfter c.since ≤ s.now)
    (words : List RawWord) :
    ∃ d, s.segmentClose g words = (s.closeGroup g c.since c.flags words).modDist fun _ => d := by
  simp only [segmentClose, hc, if_neg h.not_gt]
  split
  next n _ =>
    obtain ⟨d, -, hd⟩ := completeWith_keeps_staged n 0 0 0 none [] (s.closeGroup g c.since c.flags words)
    exact ⟨d, hd⟩
  next => exact ⟨_, rfl⟩

/-! ## Overflow (spec 11 R269, R272) -/

/-- A health record that the log does not take touches the records alone (spec 13 R310, 18 R436). -/
theorem health_touches_records {code : Nat} (h : loggedHealth code = false) (subject : Nat) (details : List (Nat × Nat))
    (seqs : List Nat) (s : State) : ∃ r, s.health code subject details seqs = s.modRecs fun _ => r := by
  simp only [health, healthOnly, cond_eq, h, Bool.false_eq_true, if_false]
  split
  · exact ⟨_, rfl⟩
  · exact ⟨s.recs, rfl⟩

theorem getLsbD_setFlag {n : Nat} (hn : n < 23) (s : State) : (s.setFlag n).side.flags.getLsbD n = true := by
  simp only [setFlag, modSide_side, BitVec.getLsbD_or, BitVec.getLsbD_ofNat, Nat.testBit_two_pow_self, hn, decide_true,
    Bool.and_self, Bool.or_true]

/-- The writing group with the highest number closes, and its overflow is counted, flagged and reported; what its stop had to
answer is answered. -/
theorem captureOverflow_of_highest {lost : Nat} {words : List RawWord} (hg : g < 16)
    (hwrites : (s.group g).state.writes = true) (habove : ∀ k, g < k → k < 16 → (s.group k).state.writes = false)
    (hload : s.captureGuarantee < s.armedLoad) :
    ∃ r d, s.captureOverflow lost words
      = ((((((s.undoTrigger g false).uncountMisses g).closeGroup g s.now 4 words).count Kind.overflow g 1).setFlag
        15).modRecs fun _ => r).modDist fun _ => d := by
  have hfind := find?_reverse_range (p := fun k => (s.group k).state.writes) hg hwrites habove
  simp only [captureOverflow, hfind, if_neg hload.not_ge]
  generalize (((((s.undoTrigger g false).uncountMisses g).closeGroup g s.now 4 words).count Kind.overflow g 1).setFlag 15) = v
  obtain ⟨r, hr⟩ := health_touches_records (code := 0x0150) (by decide) g [(4, lost)] [] v
  rw [hr]
  refine ⟨r, ?_⟩
  split
  next n _ =>
    obtain ⟨d, -, hd⟩ := completeWith_keeps_staged n 0 0 0 none [] (v.modRecs fun _ => r)
    exact ⟨d, hd⟩
  next => exact ⟨v.dist, rfl⟩

theorem undoTrigger_counters (g : Nat) (s : State) : (s.undoTrigger g false).counters = s.counters := by
  unfold undoTrigger
  split
  · split <;> rfl
  · rfl

/-- Missed triggers that are taken back bear on their own counters alone. -/
theorem uncountMisses_overflow (hw : s.wf = true) (g : Nat) :
    (s.uncountMisses g).counter Kind.overflow g = s.counter Kind.overflow g := by
  have hother (rearm : Bool) : Kind.overflow ≠ if rearm then Kind.missedRearm else Kind.missedPost := by
    cases rearm <;> decide
  obtain ⟨-, huncounted, -⟩ := (Touches.each (c := 0) (rest := fun u => u.counter Kind.overflow g) (view := fun _ => ())
    (f := fun m : Bool × Tick => count (if m.1 then Kind.missedRearm else Kind.missedPost) g (2 ^ 32 - 1))
    (fun m u => .count fun hu => counter_count_other hu (hother m.1) g _)
    ((s.group g).missedAt.filter fun m => m.2 = s.now) s).of_wf hw
  exact huncounted

/-! ## Readback (spec 11 R275, 12 R281) -/

/-- The next block of a read is asked for, and nothing of it has been read back. -/
theorem fetchBlock_eq {j : ReadJob} (hj : (s.group g).read = some j) (hblocks : j.blocks ≠ []) :
    ∃ d, s.fetchBlock g
      = (s.modGroup g fun y => { y with read := y.read.map fun j => { j with got := [] } }).modDram fun _ => d := by
  obtain ⟨b, rest, hcons⟩ := List.exists_cons_of_ne_nil hblocks
  simp only [fetchBlock, hj, Option.bind_some, hcons, List.head?_cons]
  exact request_onlyDram _ _

section
variable {j : ReadJob} {b : WaveBlock} {rest : List WaveBlock}

/-- A block whose bursts have been read back and that finds room leaves among the records. -/
theorem sendBlock_eq (hj : (s.group g).read = some j) (hblocks : j.blocks = b :: rest)
    (hroom : s.recs.room .class2 (blockLen b) = true) (hgot : ∀ n ∈ s.blockBursts (s.group g) b, ∃ x ∈ j.got, x.1 = n) :
    ∃ r, s.sendBlock g =
      if rest = [] then ((s.modRecs fun _ => r).modGroup g fun y => { y with read := none }).succeed j.handle []
      else ((s.modRecs fun _ => r).modGroup g fun y => { y with read := some { j with blocks := rest } }).fetchBlock g := by
  have hready : ¬((!s.recs.room .class2 (blockLen b)) = true
      ∨ ((s.blockBursts (s.group g) b).any fun n => j.got.all fun x => x.1 ≠ n) = true) := by
    simpa [hroom] using hgot
  simp only [sendBlock, hj, hblocks, if_neg hready]
  cases (s.group g).captures.find? fun c => decide (c.segment = b.segment)
  case none => exact ⟨s.recs, rfl⟩
  case some c => exact ⟨_, rfl⟩

/-- After the last block the read is answered, after another the next one is asked for. -/
theorem sendBlock_effect (hw : s.wf = true) (hj : (s.group g).read = some j) (hblocks : j.blocks = b :: rest)
    (hroom : s.recs.room .class2 (blockLen b) = true) (hgot : ∀ n ∈ s.blockBursts (s.group g) b, ∃ x ∈ j.got, x.1 = n) :
    ∃ z v r x d, s.sendBlock g = ((v.modRecs fun _ => r).modDist fun _ => x).modDram (fun _ => d) ∧ GroupBecomes g z s v
      ∧ z.read = if rest = [] then none else some { j with blocks := rest, got := [] } := by
  obtain ⟨r, hsend⟩ := sendBlock_eq hj hblocks hroom hgot
  rw [hsend]
  by_cases hrest : rest = []
  · rw [if_pos hrest, if_pos hrest]
    have hends := groupBecomes_modGroup hw g fun y => { y with read := none }
    obtain ⟨x, -, hx⟩ := completeWith_keeps_staged j.handle 0 0 0 none []
      ((s.modRecs fun _ => r).modGroup g fun y => { y with read := none })
    refine ⟨_, _, r, x, s.dram, ?_, hends, rfl⟩
    exact hx
  · rw [if_neg hrest, if_neg hrest]
    have hnext := groupBecomes_modGroup hw g fun y => { y with read := some { j with blocks := rest } }
    have hread := congrArg Group.read hnext.own
    obtain ⟨d, hd⟩ := fetchBlock_eq (g := g) (j := { j with blocks := rest })
      (s := (s.modRecs fun _ => r).modGroup g fun y => { y with read := some { j with blocks := rest } }) hread hrest
    refine ⟨_, _, r, s.dist, d, ?_, hnext.modGroup (wf_modGroup hw g _) fun y => { y with
      read := y.read.map fun j => { j with got := [] } }, rfl⟩
    exact hd

end

end

end State

/-! ## The events -/

section
variable {t : Tick} {g : Nat} {s : State}

/-- SEGMENT_CLOSE of a waiting group (spec 11 R270). -/
theorem exec_segmentClose {c : Closing} {words : List RawWord} {b : State} (hb : b = (s.advance t).layWords g words)
    (hc : (s.group g).closing = some c) (h : (s.advance t).wordAfter c.since ≤ t) (hs : (b.group g).state = .waiting)
    (hw : b.wf = true) :
    ∃ u p, exec (.segmentClose t g words) s = .next u ∧ (u.group g).state = .stopped ∧ (u.group g).closing = none
      ∧ (u.group g).captures
        = ((b.storeHeads g p).group g).captures.filter (fun c => c.segment ≠ (b.group g).segment) ++ [p]
      ∧ p.trigger = c.since ∧ p.source = 0 ∧ (∀ k, k ≠ g → u.group k = (b.storeHeads g p).group k)
      ∧ u = { b.storeHeads g p with groups := u.groups, dist := u.dist } := by
  obtain ⟨d, hclose⟩ := State.segmentClose_of_due (s := s.advance t) hc (h.trans (le_max_right ..)) words
  obtain ⟨p, f, hcaptures, hf, hring⟩ := State.closeGroup_captures hb (by rw [hs]; rfl) c.since c.flags hw
  obtain ⟨htrigger, hsource⟩ := hring hs
  generalize (s.advance t).closeGroup g c.since c.flags words = v at hclose hcaptures
  have hlist := hcaptures.captures_eq fun y => (hf y).1
  obtain ⟨e, hbecomes⟩ := hcaptures.becomes
  obtain ⟨-, hstopped, hclosed⟩ := hf (((b.storeHeads g p).group g).captured p e)
  have hgroup (k : Nat) : (v.modDist fun _ => d).group k = v.group k := by
    simp only [State.group, State.modDist_groups]
  refine ⟨v.modDist fun _ => d, p, congrArg Host.Outcome.next hclose, ?state, ?closing, ?list, htrigger, hsource,
    fun k hk => (hgroup k).trans (hbecomes.others k hk), ?frame⟩
  case state => rw [hgroup, hbecomes.own, hstopped]
  case closing => rw [hgroup, hbecomes.own, hclosed]
  case list => rw [hgroup, hlist]
  case frame =>
    have hsame := hbecomes.same
    generalize b.storeHeads g p = h at hsame ⊢
    rw [hsame]
    rfl

/-- CAPTURE_OVERFLOW (spec 11 R269, R272). -/
theorem exec_captureOverflow {lost : Nat} {words : List RawWord} {b : State} (hw : s.wf = true) (hg : g < 16)
    (hwrites : (s.group g).state.writes = true) (habove : ∀ k, g < k → k < 16 → (s.group k).state.writes = false)
    (hload : s.captureGuarantee < s.armedLoad)
    (hb : b = (((s.advance t).undoTrigger g false).uncountMisses g).layWords g words) (hbw : b.wf = true)
    (hbs : (b.group g).state.writes = true) :
    ∃ u p, exec (.captureOverflow t lost words) s = .next u ∧ (u.group g).state = .stopped
      ∧ u.counter Kind.overflow g = (s.counter Kind.overflow g + 1) % 2 ^ 32 ∧ u.side.flags.getLsbD 15 = true
      ∧ (∀ k, k ≠ g → u.group k = (b.storeHeads g p).group k)
      ∧ u = { b.storeHeads g p with
          groups := u.groups, dist := u.dist, counters := u.counters, recs := u.recs, nvCtl := u.nvCtl, side := u.side } := by
  have hundone : ((s.advance t).undoTrigger g false).wf = true := (State.undoTrigger_kept (.refl (s.advance t))).wf hw
  have huncounted := (State.uncountMisses_kept (.refl ((s.advance t).undoTrigger g false)) (g := g)).wf hundone
  have hcounter : b.counter Kind.overflow g = s.counter Kind.overflow g := by
    obtain ⟨-, hlaid, -⟩ := (State.Serves.layWords g words _).of_wf huncounted
    calc b.counter Kind.overflow g
        = (((s.advance t).undoTrigger g false).uncountMisses g).counter Kind.overflow g := by
          rw [hb, State.counter, hlaid, State.counter]
      _ = ((s.advance t).undoTrigger g false).counter Kind.overflow g := State.uncountMisses_overflow hundone g
      _ = s.counter Kind.overflow g := by rw [State.counter, State.undoTrigger_counters]; rfl
  obtain ⟨r, d, hover⟩ := State.captureOverflow_of_highest (s := s.advance t) (lost := lost) (words := words) hg hwrites
    habove hload
  obtain ⟨p, f, hcaptures, hf, -⟩ := State.closeGroup_captures hb hbs (s.advance t).now 4 hbw
  generalize (((s.advance t).undoTrigger g false).uncountMisses g).closeGroup g (s.advance t).now 4 words = v
    at hover hcaptures
  obtain ⟨e, hbecomes⟩ := hcaptures.becomes
  obtain ⟨-, hstopped, -⟩ := hf (((b.storeHeads g p).group g).captured p e)
  have hgroup (k : Nat) : (((((v.count Kind.overflow g 1).setFlag 15).modRecs fun _ => r).modDist fun _ => d)).group k
      = v.group k := by
    simp only [State.group, State.modDist_groups, State.modRecs_groups, State.setFlag_groups, State.count,
      State.modCounters_groups]
  have hcounted : v.counter Kind.overflow g = s.counter Kind.overflow g := by
    rw [State.counter, hcaptures.counters, ← hcounter, State.counter]
  refine ⟨_, p, congrArg Host.Outcome.next hover, ?state, ?counted, ?flag,
    fun k hk => (hgroup k).trans (hbecomes.others k hk), ?frame⟩
  case state => rw [hgroup, hbecomes.own, hstopped]
  case counted =>
    rw [← hcounted, ← State.counter_count_same hcaptures.wf]
    simp only [State.counter, State.modDist_counters, State.modRecs_counters, State.setFlag_counters]
  case flag => exact State.getLsbD_setFlag (by decide) (v.count Kind.overflow g 1)
  case frame =>
    have hsame := hbecomes.same
    generalize b.storeHeads g p = h at hsame ⊢
    rw [hsame]
    rfl

/-- WAVEFORM_BLOCK_SEND of a block that is ready (spec 11 R275). -/
theorem exec_waveformBlockSend {j : ReadJob} {b : WaveBlock} {rest : List WaveBlock} (hw : s.wf = true)
    (hj : (s.group g).read = some j) (hblocks : j.blocks = b :: rest)
    (hroom : s.recs.room .class2 (State.blockLen b) = true)
    (hgot : ∀ n ∈ s.blockBursts (s.group g) b, ∃ x ∈ j.got, x.1 = n) :
    ∃ u, exec (.waveformBlockSend t g) s = .next u
      ∧ (u.group g).read = (if rest = [] then none else some { j with blocks := rest, got := [] })
      ∧ (∀ k, k ≠ g → u.group k = s.group k)
      ∧ u = { s with clock := u.clock, groups := u.groups, dram := u.dram, dist := u.dist, recs := u.recs } := by
  obtain ⟨z, v, r, x, d, hsend, hbecomes, hread⟩ := State.sendBlock_effect (s := s.advance t) hw hj hblocks hroom hgot
  have hgroup (k : Nat) : (((v.modRecs fun _ => r).modDist fun _ => x).modDram fun _ => d).group k = v.group k := by
    simp only [State.group, State.modDram_groups, State.modDist_groups, State.modRecs_groups]
  refine ⟨_, congrArg Host.Outcome.next hsend, ?read, fun k hk => (hgroup k).trans (hbecomes.others k hk), ?frame⟩
  case read => rw [hgroup, hbecomes.own, hread]
  case frame => rw [hbecomes.same]; rfl

end

/-- Settles O34: each clause follows from what its event's operation makes of the group. -/
theorem capturesCloseAndAreRead : Obligations.CapturesCloseAndAreRead := by
  unfold Obligations.CapturesCloseAndAreRead
  intro t g s _ hw
  refine ⟨fun c words => ?close, fun lost words hg hwrites habove hload => ?overflow,
    fun j b rest hj hblocks hroom hgot => ?send⟩
  case close => exact fun hc h hs hb => exec_segmentClose rfl hc h hs hb
  case overflow => exact fun hb hbs => exec_captureOverflow hw hg hwrites habove hload rfl hb hbs
  case send => exact exec_waveformBlockSend hw hj hblocks hroom hgot

end Sys2Proof.Machine
end

section
/-! PROOFS. Refresh, doubled rate and idle rows of the stacked DRAM (spec 12 R284, R286, R288). -/

namespace Sys2Proof.Machine

namespace State

section
variable {ch k : Nat} {s : State}

/-- A bank's change is known by what it makes of the bank as it stands. -/
theorem modDramBank_congr {n : Nat} {f g : DramBank → DramBank} (h : f (s.dramBank n) = g (s.dramBank n)) :
    s.modDramBank n f = s.modDramBank n g :=
  congrArg (fun b => s.modDram fun d => { d with banks := Store.write {} s.dram.banks n b }) h

/-- Where any instant noted lies `gap` back, none is nearer. -/
theorem any_within_eq_false {o : Option Tick} {gap now : Tick} (h : ∀ x, o = some x → x + gap ≤ now) :
    (o.any fun x => decide (now < x + gap)) = false := by
  cases o with
  | none => rfl
  | some x => exact decide_eq_false (h x rfl).not_gt

/-- A bank's refresh command falls due now: its interval and its channel's spacing have passed (spec 12 R286). -/
structure RefreshFallsDue (ch k : Nat) (s : State) : Prop where
  live : s.refreshes ch = true
  due : (s.dramBank (ch * 16 + k)).dueAt + s.refreshInterval ≤ s.now
  spaced : ∀ x, (s.dramCh ch).refreshedAt = some x → x + s.refreshInterval / 16 ≤ s.now

/-- A bank is refreshed `made` times over and owes `owed` refreshes from now on (spec 12 R284, R286). -/
def refreshBank (ch k made owed : Nat) (s : State) : State :=
  (s.modDramBank (ch * 16 + k) fun b => { b with
    row := none, dueAt := s.now, busyUntil := s.now + ns (90 * made), refreshes := (b.refreshes + made) % 2 ^ 32
    postponed := owed }).modDramCh ch fun d => { d with refreshedAt := some s.now }

theorem RefreshFallsDue.not_held (h : RefreshFallsDue ch k s) :
    ¬((!s.refreshes ch) = true ∨ s.now < (s.dramBank (ch * 16 + k)).dueAt + s.refreshInterval
      ∨ ((s.dramCh ch).refreshedAt.any fun x => decide (s.now < x + s.refreshInterval / 16)) = true) := by
  rintro (hdead | hearly | hnear)
  · simp [h.live] at hdead
  · exact h.due.not_gt hearly
  · simp [any_within_eq_false h.spaced] at hnear

/-- A due command that the controller may postpone, and does, is owed (spec 12 R286, log 78). -/
theorem refreshDue_postponed (h : RefreshFallsDue ch k s) (hwait : s.capturesWait ch = true)
    (hroom : (s.dramBank (ch * 16 + k)).postponed < 8) :
    s.refreshDue ch k true = s.modDramBank (ch * 16 + k) fun b => { b with
      postponed := b.postponed + 1, dueAt := s.now } :=
  (if_neg h.not_held).trans (if_pos ⟨rfl, hwait, hroom⟩)

/-- A due command that is not postponed refreshes the bank: where class 2 waits once, elsewhere with all that it owes; it
counts as forced where no more could be postponed (spec 12 R286, log 78). -/
theorem refreshDue_made (h : RefreshFallsDue ch k s) {postpone : Bool}
    (hmade : ¬(postpone = true ∧ s.capturesWait ch = true ∧ (s.dramBank (ch * 16 + k)).postponed < 8)) :
    s.refreshDue ch k postpone
      = (s.refreshBank ch k (if s.capturesWait ch then 1 else (s.dramBank (ch * 16 + k)).postponed + 1)
          (if s.capturesWait ch then (s.dramBank (ch * 16 + k)).postponed else 0)).cond
        (s.capturesWait ch && decide (8 ≤ (s.dramBank (ch * 16 + k)).postponed))
        (modDramCh ch fun d => { d with forced := (d.forced + 1) % 2 ^ 32 }) :=
  (if_neg h.not_held).trans (if_neg hmade)

/-- Where class 2 does not wait, the command makes good what was postponed. -/
theorem refreshDue_of_free (h : RefreshFallsDue ch k s) (hfree : s.capturesWait ch = false) (postpone : Bool) :
    s.refreshDue ch k postpone = s.refreshBank ch k ((s.dramBank (ch * 16 + k)).postponed + 1) 0 := by
  rw [refreshDue_made h (by simp [hfree]), hfree]
  rfl

/-- A command that could be postponed and is not refreshes the bank once. -/
theorem refreshDue_of_room (h : RefreshFallsDue ch k s) (hwait : s.capturesWait ch = true)
    (hroom : (s.dramBank (ch * 16 + k)).postponed < 8) :
    s.refreshDue ch k false = s.refreshBank ch k 1 (s.dramBank (ch * 16 + k)).postponed := by
  rw [refreshDue_made h (by simp), hwait, decide_eq_false hroom.not_ge]
  rfl

/-- After eight postponed commands the next one is forced. -/
theorem refreshDue_of_full (h : RefreshFallsDue ch k s) (hwait : s.capturesWait ch = true)
    (hfull : 8 ≤ (s.dramBank (ch * 16 + k)).postponed) (postpone : Bool) :
    s.refreshDue ch k postpone = (s.refreshBank ch k 1 (s.dramBank (ch * 16 + k)).postponed).modDramCh ch fun d => { d with
      forced := (d.forced + 1) % 2 ^ 32 } := by
  rw [refreshDue_made h fun hp => hfull.not_gt hp.2.2, hwait, decide_eq_true hfull]
  rfl

/-- A refresh that makes good all that its bank owes. -/
theorem refreshBank_all (ch k : Nat) (s : State) :
    s.refreshBank ch k ((s.dramBank (ch * 16 + k)).postponed + 1) 0
      = (s.modDramBank (ch * 16 + k) fun b => { b with
          row := none, dueAt := s.now, busyUntil := s.now + ns (90 * (b.postponed + 1))
          refreshes := (b.refreshes + (b.postponed + 1)) % 2 ^ 32, postponed := 0 }).modDramCh ch fun d => { d with
            refreshedAt := some s.now } :=
  congrArg (modDramCh ch _) (modDramBank_congr (by rfl))

/-- A refresh that leaves what its bank owes. -/
theorem refreshBank_once (ch k : Nat) (s : State) :
    s.refreshBank ch k 1 (s.dramBank (ch * 16 + k)).postponed
      = (s.modDramBank (ch * 16 + k) fun b => { b with
          row := none, dueAt := s.now, busyUntil := s.now + ns 90, refreshes := (b.refreshes + 1) % 2 ^ 32 }).modDramCh ch
            fun d => { d with refreshedAt := some s.now } :=
  congrArg (modDramCh ch _) (modDramBank_congr (by rfl))

/-- Refresh returns to the normal rate once it has been cool for 10 ms (spec 12 R288). -/
theorem refreshReturn_of_cool (hd : s.dram.doubled = true) (hb : s.blindThermal = false) {c : Tick}
    (hc : s.dram.coolSince = some c) (h : c + us 10000 ≤ s.now) :
    s.refreshReturn = s.modDram fun d => { d with doubled := false } := by
  rw [refreshReturn, hd, hb, hc, Option.any_some, decide_eq_true h]
  rfl

/-- The row of a bank that has had no request for 1.0 us closes (spec 12 R284). -/
theorem rowIdle_of_idle (hq : (s.dramBank (ch * 16 + k)).queue = [])
    (h : (s.dramBank (ch * 16 + k)).lastAt + us 1 ≤ s.now) :
    s.rowIdle ch k = s.modDramBank (ch * 16 + k) fun b => { b with row := none } := by
  rw [rowIdle, hq, decide_eq_true h]
  rfl

end

end State

end Sys2Proof.Machine
end

section
/-! PROOFS. What a write burst stores (spec 12 R281). -/

namespace Sys2Proof

/-- Masked writes of `n` values from key `a` keep the canonical form, and a key reads as written where the mask has it. -/
theorem Store.read_foldl_write {α : Type} [DecidableEq α] {d : α} {m : Store α} (h : Store.wf d m = true) (a : Nat)
    (p : Nat → Bool) (v : Nat → α) (n : Nat) :
    let u := (List.range n).foldl (fun m i => if p i then Store.write d m (a + i) (v i) else m) m
    Store.wf d u = true
      ∧ ∀ j, Store.read d u j = if a ≤ j ∧ j < a + n ∧ p (j - a) = true then v (j - a) else Store.read d m j := by
  induction n with
  | zero => exact ⟨h, fun j => (if_neg (by omega)).symm⟩
  | succ n ih =>
    obtain ⟨hwf, hread⟩ := ih
    rw [List.range_succ, List.foldl_append, List.foldl_cons, List.foldl_nil]
    generalize (List.range n).foldl (fun m i => if p i then Store.write d m (a + i) (v i) else m) m = u at hwf hread
    by_cases hp : p n = true
    · rw [if_pos hp]
      refine ⟨Store.wf_write d u _ _ hwf, fun j => ?_⟩
      by_cases hj : j = a + n
      · rw [hj, Store.read_write_same d u none _ _ hwf, Nat.add_sub_cancel_left, if_pos ⟨by omega, by omega, hp⟩]
      · rw [Store.read_write_other d u none _ _ _ hwf hj, hread]
        exact if_congr (by constructor <;> rintro ⟨h1, h2, h3⟩ <;> exact ⟨h1, by omega, h3⟩) rfl rfl
    · rw [if_neg hp]
      refine ⟨hwf, fun j => (hread j).trans (if_congr ⟨?_, ?_⟩ rfl rfl)⟩
      · exact fun ⟨h1, h2, h3⟩ => ⟨h1, by omega, h3⟩
      · rintro ⟨h1, h2, h3⟩
        have hj : j - a ≠ n := fun e => hp (e ▸ h3)
        exact ⟨h1, by omega, h3⟩

namespace Machine.State

variable {s : State}

theorem dramMem_wf (h : s.wf = true) : Memory.wf s.dramMem = true := by
  simp only [wf, memWf, Bool.and_eq_true] at h
  tauto

/-- A write burst stores the bytes of its mask and no others (spec 12 R281). -/
theorem read_burstEffect_write (h : s.wf = true) {r : DramReq} (hr : r.write = true) (a : Nat) :
    Memory.read (s.burstEffect r).dramMem a
      = if a / 64 = r.burst ∧ r.mask.getLsbD (a % 64) = true then nth 0 r.data (a % 64) else Memory.read s.dramMem a := by
  obtain ⟨-, hread⟩ := Store.read_foldl_write (dramMem_wf h) (64 * r.burst) (fun i => r.mask.getLsbD i)
    (fun i => nth 0 r.data i) 64
  rw [burstEffect, if_pos hr]
  refine (hread a).trans ?_
  by_cases hin : a / 64 = r.burst
  · have hoff : a - 64 * r.burst = a % 64 := by omega
    rw [hoff]
    exact if_congr ⟨fun hm => ⟨hin, hm.2.2⟩, fun hm => ⟨by omega, by omega, hm.2⟩⟩ rfl rfl
  · rw [if_neg (by omega), if_neg fun hm => hin hm.1]
    rfl

end Machine.State

end Sys2Proof
end

section
/-! PROOFS. Retraining of the DRAM channels, one after another (spec 12 R291). -/

namespace Sys2Proof.Machine

namespace State

section
variable {ch : Nat} {p : TrainPass} {s : State}

/-- DRAM-absent operation follows from which channels are mapped out. -/
theorem dramAbsent_congr {u : State} (h : ∀ i, (u.dramCh i).mapped = (s.dramCh i).mapped) :
    u.dramAbsent = s.dramAbsent := by
  have hlive : u.liveChans = s.liveChans := by simp only [liveChans, h]
  rw [dramAbsent, mappedOut, hlive]
  rfl

/-- The channel that stands next in a pass is its next one where it is in service. -/
theorem nextTrain_of_live (hlt : p.next < 16) (hlive : (s.dramCh p.next).mapped = none) (habsent : s.dramAbsent = false) :
    s.nextTrain p = some p.next := by
  refine List.find?_range_eq_some.mpr ⟨?_, List.mem_range.mpr hlt, fun j hj => ?_⟩
  · simp [hlive, habsent]
  · simp [hj.not_ge]

/-- A pass by temperature runs outside the blind-thermal state alone, one by command always (spec 12 R291). -/
theorem passBlind_eq_false (h : p.handle = none → s.blindThermal = false) : s.passBlind p = false := by
  cases hh : p.handle with
  | none => simp [passBlind, h hh]
  | some => simp [passBlind, hh]

/-- The next channel leaves service where none is in training, the 100 us since the last one's return are over and the
captures that waited for that one have been served. -/
theorem trainStart_of_next (hp : s.dram.pass = some p) (hnone : ∀ i, i < 16 → (s.dramCh i).training = false)
    (hpause : ∀ r, p.returnedAt = some r → r + us 100 ≤ s.now) (hserved : 0 < p.next → s.capturesWait (p.next - 1) = false)
    (hnext : s.nextTrain p = some ch) (hblind : p.handle = none → s.blindThermal = false) :
    s.trainStart = s.modDramCh ch fun d => { d with training := true } := by
  have hready : ¬((List.range 16).any (fun i => (s.dramCh i).training) = true
      ∨ p.returnedAt.any (fun r => decide (s.now < r + us 100)) = true
      ∨ 0 < p.next ∧ s.capturesWait (p.next - 1) = true) := by
    rintro (htraining | hearly | ⟨hlater, hwaits⟩)
    · obtain ⟨i, hi, ht⟩ := List.any_eq_true.mp htraining
      simp [hnone i (List.mem_range.mp hi)] at ht
    · simp [any_within_eq_false hpause] at hearly
    · simp [hserved hlater] at hwaits
  have hchosen : ((s.nextTrain p).filter fun _ => !s.passBlind p) = some ch := by
    rw [hnext, passBlind_eq_false hblind]
    rfl
  simp only [trainStart, hp, if_neg hready, hchosen]

/-- A training with an eye wide enough in every lane gives the channel its eyes and leaves the rest. -/
theorem trainChannel_of_works {eyes : List LaneEye} (h : failingLane eyes = none) (ch : Nat) (s : State) :
    s.trainChannel ch eyes = s.modDramCh ch fun d => { d with
      lanes := eyes, trainings := (d.trainings + 1) % 2 ^ 32, temp := s.trainTemp, training := false } := by
  simp only [trainChannel, h]

/-- A pass that has a channel left to train goes on. -/
theorem endIfDone_of_next (hnext : (s.nextTrain p).isSome = true) (hblind : s.passBlind p = false) :
    s.endIfDone p = s := by
  rw [endIfDone, cond_eq, if_neg]
  simp [Option.isNone_eq_false_iff.mpr hnext, hblind]

/-- The channel in training returns to service with its new eyes, and the pass goes on to the one after it. -/
theorem trainEnd_of_next {eyes : List LaneEye} (hs : Store.wf {} s.dram.chans = true) (hp : s.dram.pass = some p)
    (hlt : ch < 15) (htraining : (s.dramCh ch).training = true) (hfirst : ∀ i, i < ch → (s.dramCh i).training = false)
    (hstart : p.startUp = []) (hblind : p.handle = none → s.blindThermal = false) (habsent : s.dramAbsent = false)
    (hlive : (s.dramCh (ch + 1)).mapped = none) (heyes : failingLane eyes = none) :
    s.trainEnd eyes = (s.trainChannel ch eyes).modDram fun d => { d with
      pass := some { p with next := ch + 1, returnedAt := some s.now } } := by
  have hfound : ((List.range 16).find? fun i => (s.dramCh i).training) = some ch :=
    List.find?_range_eq_some.mpr ⟨htraining, List.mem_range.mpr (by omega), fun j hj => by simp [hfirst j hj]⟩
  have hmapped (i : Nat) : ((s.trainChannel ch eyes).dramCh i).mapped = (s.dramCh i).mapped := by
    rw [trainChannel_of_works heyes, dramCh_modDramCh hs]
    split
    case isTrue hi => rw [hi]
    case isFalse => rfl
  simp only [trainEnd, hp, hfound, hstart, ne_eq, not_true_eq_false, if_false]
  refine endIfDone_of_next (Option.isSome_of_eq_some (nextTrain_of_live ?more ?live ?present)) ?runs
  case more => exact Nat.succ_lt_succ hlt
  case live => exact (hmapped (ch + 1)).trans hlive
  case present => exact (dramAbsent_congr hmapped).trans habsent
  case runs =>
    rw [trainChannel_of_works heyes]
    exact passBlind_eq_false (s := s) hblind

end

end State

/-! ## The events -/

section
variable {t : Tick} {ch k : Nat} {s : State}

/-- RETRAIN_CHANNEL_END of a channel whose lanes all work (spec 12 R291). -/
theorem exec_retrainChannelEnd {p : TrainPass} {eyes : List LaneEye} (ht : s.now ≤ t)
    (hs : Store.wf {} s.dram.chans = true) (hp : s.dram.pass = some p) (hlt : ch < 15)
    (htraining : (s.dramCh ch).training = true) (hfirst : ∀ i, i < ch → (s.dramCh i).training = false)
    (hmapped : (s.dramCh ch).mapped = none) (hstart : p.startUp = []) (hblind : p.handle = none → s.blindThermal = false)
    (habsent : s.dramAbsent = false) (hlive : (s.dramCh (ch + 1)).mapped = none) (heyes : failingLane eyes = none) :
    ∃ u, exec (.retrainChannelEnd t eyes) s = .next u ∧ (u.dramCh ch).training = false ∧ (u.dramCh ch).lanes = eyes
      ∧ (u.dramCh ch).mapped = none ∧ (u.dramCh ch).trainings = ((s.dramCh ch).trainings + 1) % 2 ^ 32
      ∧ u.dram.pass = some { p with next := ch + 1, returnedAt := some t } ∧ (∀ i, i ≠ ch → u.dramCh i = s.dramCh i)
      ∧ u = { s with clock := u.clock, dram := u.dram } := by
  have hnow : (s.advance t).now = t := max_eq_right ht
  have hend := State.trainEnd_of_next (s := s.advance t) hs hp hlt htraining hfirst hstart hblind habsent hlive heyes
  rw [State.trainChannel_of_works heyes, hnow] at hend
  have hchans (i : Nat) := State.dramCh_modDramCh (s := s.advance t) hs ch i fun d => { d with
    lanes := eyes, trainings := (d.trainings + 1) % 2 ^ 32, temp := (s.advance t).trainTemp, training := false }
  have hown := (hchans ch).trans (if_pos rfl)
  refine ⟨_, congrArg Host.Outcome.next hend, congrArg DramCh.training hown, congrArg DramCh.lanes hown,
    (congrArg DramCh.mapped hown).trans hmapped, congrArg DramCh.trainings hown, rfl,
    fun i hi => (hchans i).trans (if_neg hi), rfl⟩

end

/-- Settles O35: each clause follows from what its event's operation does once the clock has gone on to the event. -/
theorem dramControllerWorks : Obligations.DramControllerWorks := by
  unfold Obligations.DramControllerWorks
  intro t ch k s ht hw hs
  have hnow : (s.advance t).now = t := max_eq_right ht
  refine ⟨fun hlive hdue hspaced => ?refresh, fun r a hr => State.read_burstEffect_write hw hr a,
    fun hd hb hcool hsome => ?rate, fun hq hl => ?idle, fun p hp hnone hpause hserved hnext hblind => ?start,
    fun p eyes hp hlt htraining hfirst hmapped hstart hblind habsent hlive heyes => ?finish⟩
  case refresh =>
    have hfalls : State.RefreshFallsDue ch k (s.advance t) := ⟨hlive, hnow.symm ▸ hdue, hnow.symm ▸ hspaced⟩
    have hall := State.refreshBank_all ch k (s.advance t)
    have honce := State.refreshBank_once ch k (s.advance t)
    rw [hnow] at hall honce
    refine ⟨fun postpone hfree => congrArg Host.Outcome.next ?free, fun hwait hroom => congrArg Host.Outcome.next ?postponed,
      fun hwait hroom => congrArg Host.Outcome.next ?once, fun postpone hwait hfull => congrArg Host.Outcome.next ?forced⟩
    case free => exact (State.refreshDue_of_free hfalls hfree postpone).trans hall
    case postponed =>
      have hpostponed := State.refreshDue_postponed hfalls hwait hroom
      rwa [hnow] at hpostponed
    case once => exact (State.refreshDue_of_room hfalls hwait hroom).trans honce
    case forced =>
      exact (State.refreshDue_of_full hfalls hwait hfull postpone).trans (congrArg (State.modDramCh ch _) honce)
  case rate =>
    obtain ⟨c, hc⟩ := Option.isSome_iff_exists.mp hsome
    exact congrArg Host.Outcome.next
      (State.refreshReturn_of_cool (s := s.advance t) hd hb hc ((hcool c hc).trans hnow.ge))
  case idle =>
    exact congrArg Host.Outcome.next (State.rowIdle_of_idle (s := s.advance t) hq (hl.trans hnow.ge))
  case start =>
    exact congrArg Host.Outcome.next (State.trainStart_of_next (s := s.advance t) hp hnone
      (fun r hr => (hpause r hr).trans hnow.ge) hserved hnext hblind)
  case finish =>
    exact exec_retrainChannelEnd ht hs hp hlt htraining hfirst hmapped hstart hblind habsent hlive heyes

end Sys2Proof.Machine
end

section
/-! PROOFS. The loss reporter (spec 13 R317): a source's runs close in time, and closed runs become loss records. -/

namespace Sys2Proof.Machine

/-- A loss record has the 32 bytes of Table 13-12. -/
theorem LossRun.length_bytes (x : LossRun) (seq : Nat) : (x.bytes seq).length = 32 := by
  simp only [LossRun.bytes, List.length_append, length_le, List.length_cons, List.length_nil]

namespace State

/-- The loss record that a run becomes, under the loss reporter's next number. -/
def lossRec (x : LossRun) (s : State) : Rec :=
  ⟨Src.loss, s.recs.seqOf Src.loss, none, x.bytes (s.recs.seqOf Src.loss), 0⟩

section
variable {s : State}

/-- Where no fourth run is held open, the source's runs that have not grown for 10 us close. -/
theorem lossTimeout_of_not_heldOpen {src : Nat} (h : s.recs.heldOpen src = false) :
    s.lossTimeout src = s.modRecs fun r => r.closeRuns fun x => x.src = src && decide (x.lastAt + us 10 ≤ s.now) := by
  rw [lossTimeout, h]
  rfl

/-- The run that closed first leaves the loss table as its record enters the loss-only part, where that has room. -/
theorem lossRecord_of_room {x : LossRun} (hx : s.recs.runs.find? (fun y => y.closed) = some x)
    (hroom : s.recs.room .losses 32 = true) :
    s.lossRecord = (s.modRecs fun r =>
      ({ r with runs := r.runs.erase x }.bump Src.loss 1).push .losses [s.lossRec x]).setFlag 16 := by
  simp only [lossRecord, hx, hroom, Bool.not_true, Bool.false_eq_true, if_false]
  rfl

end

end State

/-- Settles O36: each clause follows from what its event's operation does once the clock has gone on to the event. -/
theorem lossRunsBecomeRecords : Obligations.LossRunsBecomeRecords := by
  unfold Obligations.LossRunsBecomeRecords
  refine ⟨fun t src s hopen => ?timeout, fun t x s hclosed hroom => ?record⟩
  case timeout =>
    exact congrArg Host.Outcome.next (State.lossTimeout_of_not_heldOpen (s := s.advance t) hopen)
  case record =>
    have hrecord := State.lossRecord_of_room (s := s.advance t) hclosed hroom
    exact ⟨_, s.lossRec x, congrArg Host.Outcome.next hrecord, rfl, rfl, rfl, rfl, LossRun.length_bytes x _, rfl, rfl,
      State.getLsbD_setFlag (by decide) _, rfl⟩

end Sys2Proof.Machine
end

section
/-! PROOFS. What every command does to the block as a whole (spec 16 R374): it completes, takes nothing from the queue, keeps
canonical form, and never turns time back; only a supply that goes clears a latch that is set. -/

namespace Sys2Proof.Machine

/-- Every command is carried out: no arm of the dispatch faults or refuses. -/
theorem exec_next (c : Instr) (s : State) : ∃ u, exec c s = .next u := by
  cases c <;> exact ⟨_, rfl⟩

/-- Every command but the two of the auxiliary supply keeps what `Kept` names. -/
theorem exec_kept {c : Instr} {s u : State} (hon : ∀ t mv, c ≠ .powerOn t mv) (hloss : ∀ t mv, c ≠ .powerLoss t mv)
    (h : exec c s = .next u) : Kept s u := by
  cases c with
  | frameStrobeEdge t => exact execFrameStrobeEdge_kept h
  | lineStrobeEdge t => exact execLineStrobeEdge_kept h
  | acceptanceWindowClose t => exact execAcceptanceWindowClose_kept h
  | lineBoundary t => exact execLineBoundary_kept h
  | frameAckPulse t => exact execFrameAckPulse_kept h
  | frameClosed t frame => exact execFrameClosed_kept h
  | driftMeasurement t ocxo ratio => exact execDriftMeasurement_kept h
  | ocxoReadyFall t => exact execOcxoReadyFall_kept h
  | epochWrap t => exact execEpochWrap_kept h
  | scannerWord t port word => exact execScannerWord_kept h
  | scannerCrossingMissing t port => exact execScannerCrossingMissing_kept h
  | refInMeasurement t hertz => exact execRefInMeasurement_kept h
  | referenceFault t deviation => exact execReferenceFault_kept h
  | referenceFaultClear finding => exact execReferenceFaultClear_kept h
  | flyerRun t bank => exact execFlyerRun_kept h
  | flyerStop t bank => exact execFlyerStop_kept h
  | flyerShot t bank d => exact execFlyerShot_kept h
  | flyerBurst t bank d n => exact execFlyerBurst_kept h
  | flyerNextline t bank n => exact execFlyerNextline_kept h
  | flyerSetline t bank l => exact execFlyerSetline_kept h
  | flyerWaitframe t bank => exact execFlyerWaitframe_kept h
  | flyerLoop t bank c => exact execFlyerLoop_kept h
  | flyerEndloop t bank => exact execFlyerEndloop_kept h
  | flyerJump t bank a => exact execFlyerJump_kept h
  | flyerNop t bank => exact execFlyerNop_kept h
  | commit t bank => exact execCommit_kept h
  | whorlVerdict t entry => exact execWhorlVerdict_kept h
  | fireSymbolSend t entry => exact execFireSymbolSend_kept h
  | windowOpen t entry => exact execWindowOpen_kept h
  | windowClose t entry c => exact execWindowClose_kept h
  | slotFinalise t entry c => exact execSlotFinalise_kept h
  | entryFree t entry => exact execEntryFree_kept h
  | probe t head => exact execProbe_kept h
  | presence t port current => exact execPresence_kept h
  | portTrip t port current => exact execPortTrip_kept h
  | headRemoved t port removal => exact execHeadRemoved_kept h
  | removedEnd t port => exact execRemovedEnd_kept h
  | noTelemetryTimeout t port => exact execNoTelemetryTimeout_kept h
  | readingTimeout t port => exact execReadingTimeout_kept h
  | telemetryStatus t port word => exact execTelemetryStatus_kept h
  | boardTemperatureStale t port board => exact execBoardTemperatureStale_kept h
  | descriptorWord t port word => exact execDescriptorWord_kept h
  | descriptorCheckDone t port board => exact execDescriptorCheckDone_kept h
  | keepAlivePlace t port => exact execKeepAlivePlace_kept h
  | keepAliveSend t port => exact execKeepAliveSend_kept h
  | broadcastSyncSend t port => exact execBroadcastSyncSend_kept h
  | boardFire t port board bits => exact execBoardFire_kept h
  | boardSyncApply t port board mark => exact execBoardSyncApply_kept h
  | boardKeepAlive t port board bits => exact execBoardKeepAlive_kept h
  | keepAliveTimeout t port board => exact execKeepAliveTimeout_kept h
  | dataFrame t port board pulses => exact execDataFrame_kept h
  | elementEnable t port board mask => exact execElementEnable_kept h
  | driveCode t port board element code => exact execDriveCode_kept h
  | indicatorBrightness t port board percent => exact execIndicatorBrightness_kept h
  | emission t port board value => exact execEmission_kept h
  | syncCompensation t port board c => exact execSyncCompensation_kept h
  | descriptorRead t port board => exact execDescriptorRead_kept h
  | scannerReports t port board value => exact execScannerReports_kept h
  | shareCounterReset t port board => exact execShareCounterReset_kept h
  | boardTemperatureSend t port board temp => exact execBoardTemperatureSend_kept h
  | boardOverTemperature t port board temp => exact execBoardOverTemperature_kept h
  | driverFault t port board => exact execDriverFault_kept h
  | clampEvent t clamp => exact execClampEvent_kept h
  | clampEnd t c => exact execClampEnd_kept h
  | rangeBoundary t c deviation overRange servo => exact execRangeBoundary_kept h
  | ambientGateOpen t c => exact execAmbientGateOpen_kept h
  | gateClose t c sum overRange => exact execGateClose_kept h
  | biasSettled t line => exact execBiasSettled_kept h
  | biasFault t bank force => exact execBiasFault_kept h
  | senseLineOpen t bank lines => exact execSenseLineOpen_kept h
  | openInputSubBlock t c sums samples invalid => exact execOpenInputSubBlock_kept h
  | samplePllUnlock t => exact execSamplePllUnlock_kept h
  | samplePllRelock t => exact execSamplePllRelock_kept h
  | trackingBlockEnd t c stages squares => exact execTrackingBlockEnd_kept h
  | hkTimerEvent t => exact execHkTimerEvent_kept h
  | hktrigPulse t high width => exact execHktrigPulse_kept h
  | hkRunStart t pulse => exact execHkRunStart_kept h
  | hkConversionDone t code outside => exact execHkConversionDone_kept h
  | referenceSettled t => exact execReferenceSettled_kept h
  | externalReferenceFault t millivolts => exact execExternalReferenceFault_kept h
  | leadingCrossing t c k raw => exact execLeadingCrossing_kept h
  | trailingCrossing t c k raw => exact execTrailingCrossing_kept h
  | eventTruncation t c k raw => exact execEventTruncation_kept h
  | detectorWindowEnd t c raw => exact execDetectorWindowEnd_kept h
  | comparatorCrossing t c tot => exact execComparatorCrossing_kept h
  | stampHandoff t c => exact execStampHandoff_kept h
  | interpolatorExchange t lin => exact execInterpolatorExchange_kept h
  | pickoffDecision t entry => exact execPickoffDecision_kept h
  | eventPairing t c => exact execEventPairing_kept h
  | intervalTimeout t run => exact execIntervalTimeout_kept h
  | statisticsTimeout t run => exact execStatisticsTimeout_kept h
  | frequencyGateEnd t input => exact execFrequencyGateEnd_kept h
  | clusterResolution t c => exact execClusterResolution_kept h
  | cardingDecision t c => exact execCardingDecision_kept h
  | bobbinShotComplete t c slot entry raw => exact execBobbinShotComplete_kept h
  | spillDone t c slot => exact execSpillDone_kept h
  | secondPass t c slot => exact execSecondPass_kept h
  | histogramBlockSend t c slot => exact execHistogramBlockSend_kept h
  | assessmentPeriodEnd t => exact execAssessmentPeriodEnd_kept h
  | quietTimeout t c => exact execQuietTimeout_kept h
  | heldTimeout t c => exact execHeldTimeout_kept h
  | triggerDecision t group => exact execTriggerDecision_kept h
  | scheduledTrigger t group => exact execScheduledTrigger_kept h
  | armEffect t group => exact execArmEffect_kept h
  | ringFilled t group => exact execRingFilled_kept h
  | postTriggerEnd t group words => exact execPostTriggerEnd_kept h
  | rearmEnd t group => exact execRearmEnd_kept h
  | segmentClose t group words => exact execSegmentClose_kept h
  | captureOverflow t lost words => exact execCaptureOverflow_kept h
  | waveformBlockSend t group => exact execWaveformBlockSend_kept h
  | refresh t ch bank postpone => exact execRefresh_kept h
  | refreshRateReturn t => exact execRefreshRateReturn_kept h
  | rowIdleClose t ch bank => exact execRowIdleClose_kept h
  | dramTrainingDone t eyes => exact execDramTrainingDone_kept h
  | retrainChannelStart t => exact execRetrainChannelStart_kept h
  | retrainChannelEnd t eyes => exact execRetrainChannelEnd_kept h
  | lossRunTimeout t source => exact execLossRunTimeout_kept h
  | lossRecordQueue t => exact execLossRecordQueue_kept h
  | downTimeout t => exact execDownTimeout_kept h
  | receiverDetectDone t lanes => exact execReceiverDetectDone_kept h
  | laneLock t lane => exact execLaneLock_kept h
  | bringUpStageTimeout t => exact execBringUpStageTimeout_kept h
  | alignColumn t skew count => exact execAlignColumn_kept h
  | idleColumn t delete => exact execIdleColumn_kept h
  | capBlock t index content => exact execCapBlock_kept h
  | trainBlock t lane locked rates => exact execTrainBlock_kept h
  | linkBlock t ack nak credit1 credit2 credit3 => exact execLinkBlock_kept h
  | frameReceived t frame => exact execFrameReceived_kept h
  | frameSend t => exact execFrameSend_kept h
  | alignColumnSend t => exact execAlignColumnSend_kept h
  | idleColumnSend t => exact execIdleColumnSend_kept h
  | linkBlockSend t => exact execLinkBlockSend_kept h
  | nakRepeat t => exact execNakRepeat_kept h
  | replayTimeout t => exact execReplayTimeout_kept h
  | laneLoss t errors => exact execLaneLoss_kept h
  | recoveryDiscard t => exact execRecoveryDiscard_kept h
  | recoveryTimeout t => exact execRecoveryTimeout_kept h
  | linkTestEnd t errors => exact execLinkTestEnd_kept h
  | watchdogExpiry t => exact execWatchdogExpiry_kept h
  | distaffMemoryError t => exact execDistaffMemoryError_kept h
  | loadUpdate t figure corrected => exact execLoadUpdate_kept h
  | responseDelivery t => exact execResponseDelivery_kept h
  | fwReloadDone t image => exact execFwReloadDone_kept h
  | getState t H => exact execGetState_kept h
  | goReady t H => exact execGoReady_kept h
  | goSafe t H => exact execGoSafe_kept h
  | arm t H => exact execArm_kept h
  | disarm t H => exact execDisarm_kept h
  | rangingStart t H frame mask => exact execRangingStart_kept h
  | rangingStop t H => exact execRangingStop_kept h
  | clearFault t H => exact execClearFault_kept h
  | shutdown t H start length => exact execShutdown_kept h
  | abort t H handle => exact execAbort_kept h
  | setParameters t H scope targets items => exact execSetParameters_kept h
  | getParameters t H scope targets ids => exact execGetParameters_kept h
  | readCounters t H file target => exact execReadCounters_kept h
  | clearFlags t H targets mask => exact execClearFlags_kept h
  | fwBegin t H length => exact execFwBegin_kept h
  | fwData t H offset data => exact execFwData_kept h
  | fwVerify t H => exact execFwVerify_kept h
  | fwActivate t H => exact execFwActivate_kept h
  | fwReload t H other => exact execFwReload_kept h
  | loadShotTable t H bank first descriptors => exact execLoadShotTable_kept h
  | loadMicrocode t H bank first words => exact execLoadMicrocode_kept h
  | loadCodeTable t H bank first codes => exact execLoadCodeTable_kept h
  | loadListeningSets t H bank first sets => exact execLoadListeningSets_kept h
  | loadSeed t H seed => exact execLoadSeed_kept h
  | portEnable t H port => exact execPortEnable_kept h
  | portDisable t H port => exact execPortDisable_kept h
  | admitHead t H port identity => exact execAdmitHead_kept h
  | boardSettings t H port msgs => exact execBoardSettings_kept h
  | clearLatencies t H ports => exact execClearLatencies_kept h
  | biasSenseRestore t H bank readings => exact execBiasSenseRestore_kept h
  | inject t H input => exact execInject_kept h
  | readHousekeepingQueue t H count => exact execReadHousekeepingQueue_kept h
  | loadCoefficients t H banks image => exact execLoadCoefficients_kept h
  | swapCoefficients t H banks => exact execSwapCoefficients_kept h
  | readDetectors t H c => exact execReadDetectors_kept h
  | statistics t H kind order timeout => exact execStatistics_kept h
  | measureFrequency t H input gate => exact execMeasureFrequency_kept h
  | bobbinStart t H c slot params => exact execBobbinStart_kept h
  | bobbinFlush t H c slot => exact execBobbinFlush_kept h
  | captureArm t H group params => exact execCaptureArm_kept h
  | captureStop t H group => exact execCaptureStop_kept h
  | hostTrigger t H group => exact execHostTrigger_kept h
  | captureRead t H group firstSeg lastSeg channels lo hi => exact execCaptureRead_kept h
  | dramStatus t H => exact execDramStatus_kept h
  | dramRetrain t H retest => exact execDramRetrain_kept h
  | linkStatus t H => exact execLinkStatus_kept h
  | linkRetrain t H => exact execLinkRetrain_kept h
  | linkTest t H duration lanes => exact execLinkTest_kept h
  | linkTestStop t H => exact execLinkTestStop_kept h
  | writeBoardTable t H entries => exact execWriteBoardTable_kept h
  | whorlStatus t H => exact execWhorlStatus_kept h
  | attestationControl t H opening interval nonce => exact execAttestationControl_kept h
  | manifest t H kind offset nonce => exact execManifest_kept h
  | keySlotWrite t H phase offset data => exact execKeySlotWrite_kept h
  | keyRevoke t H phase offset data => exact execKeyRevoke_kept h
  | debugUnlock t H phase offset data => exact execDebugUnlock_kept h
  | proxyTemperature t H temp seconds => exact execProxyTemperature_kept h
  | readEventLog t H first count => exact execReadEventLog_kept h
  | calibrate t H args => exact execCalibrate_kept h
  | saveCalibration t H => exact execSaveCalibration_kept h
  | restoreCalibration t H => exact execRestoreCalibration_kept h
  | calibrationShot t port => exact execCalibrationShot_kept h
  | calibrationKindEnd t measures => exact execCalibrationKindEnd_kept h
  | armLoopOpen answer => exact execArmLoopOpen_kept h
  | armLoopClosed t => exact execArmLoopClosed_kept h
  | lockstepMismatch t => exact execLockstepMismatch_kept h
  | unpassedFireSymbol t port payload => exact execUnpassedFireSymbol_kept h
  | whorlClockFault finding => exact execWhorlClockFault_kept h
  | corePllUnlock t => exact execCorePllUnlock_kept h
  | accountStoreError t port corrected => exact execAccountStoreError_kept h
  | powerOn t millivolts => exact absurd rfl (hon t millivolts)
  | powerLoss t millivolts => exact absurd rfl (hloss t millivolts)
  | powerUpRequest t bootsel => exact execPowerUpRequest_kept h
  | pwrReq t bootsel => exact execPwrReq_kept h
  | railGood t rail => exact execRailGood_kept h
  | railSequenceFailure t rail millivolts => exact execRailSequenceFailure_kept h
  | railDisable t => exact execRailDisable_kept h
  | supplySag t rail millivolts => exact execSupplySag_kept h
  | sagEnd t rail readings => exact execSagEnd_kept h
  | sagFault t => exact execSagFault_kept h
  | resetShutdown t rail millivolts => exact execResetShutdown_kept h
  | autoPowerUp t bootsel => exact execAutoPowerUp_kept h
  | railWindowExit t rail millivolts => exact execRailWindowExit_kept h
  | nvWriteThreshold t millivolts => exact execNvWriteThreshold_kept h
  | nvPageWriteDone t => exact execNvPageWriteDone_kept h
  | nvEraseDone t => exact execNvEraseDone_kept h
  | diodeReading t temp patterns => exact execDiodeReading_kept h
  | throttleExit t => exact execThrottleExit_kept h
  | shutdownRecordWrite t => exact execShutdownRecordWrite_kept h
  | proxyExpiry t => exact execProxyExpiry_kept h
  | selfTestStart t kilohertz millivolts => exact execSelfTestStart_kept h
  | selfTestCheck t kilohertz millivolts => exact execSelfTestCheck_kept h
  | selfTestEnd t result => exact execSelfTestEnd_kept h
  | nvStoreReadDone t => exact execNvStoreReadDone_kept h
  | bootTestDone t dram result => exact execBootTestDone_kept h
  | imageReadDone t image => exact execImageReadDone_kept h
  | imageVerifyDone t => exact execImageVerifyDone_kept h
  | hostLoadTimeout t => exact execHostLoadTimeout_kept h
  | loadDone t => exact execLoadDone_kept h
  | automaticCut t => exact execAutomaticCut_kept h
  | manifestSigned t rsa slh => exact execManifestSigned_kept h
  | challengeExpiry t => exact execChallengeExpiry_kept h
  | debugAccessOpen t => exact execDebugAccessOpen_kept h
  | cmdDoorbell t slot => exact execCmdDoorbell_kept h
  | rspConsumer t index => exact execRspConsumer_kept h
  | flagsWrite t value => exact execFlagsWrite_kept h
  | logSelect t value => exact execLogSelect_kept h
  | logWindowLoaded t => exact execLogWindowLoaded_kept h
  | registerWrite t opcode address data => exact execRegisterWrite_kept h
  | pllLock t which => exact execPllLock_kept h
  | sagFaultClear t => exact execSagFaultClear_kept h
  | whorlOscillatorDeviation t ppm => exact execWhorlOscillatorDeviation_kept h
  | auxfEdge t input => exact execAuxfEdge_kept h
  | snapshotRead t address => exact execSnapshotRead_kept h
  | testAccessPortInstruction t instr => exact execTestAccessPortInstruction_kept h
  | fwVerifyDone t => exact execFwVerifyDone_kept h
  | indicatorPatternTimeout t port board => exact execIndicatorPatternTimeout_kept h

/-- POWER_ON takes nothing from the queue, keeps canonical form and moves time on. -/
theorem exec_powerOn_sound {t : Tick} {mv : Nat} {s u : State} (h : exec (.powerOn t mv) s = .next u) :
    u.pending = s.pending ∧ (s.wf = true → u.wf = true) ∧ s.now ≤ u.now := by
  obtain rfl := Host.Outcome.next.inj h
  obtain ⟨hpending, hwf, hnow⟩ := State.powerOn_sound mv (s.advance t)
  have hadvance : Kept s (s.advance t) := State.advance_kept (.refl s)
  exact ⟨hpending, hwf ∘ hadvance.wf, hnow ▸ hadvance.time⟩

/-- So does POWER_LOSS. -/
theorem exec_powerLoss_sound {t : Tick} {mv : Nat} {s u : State} (h : exec (.powerLoss t mv) s = .next u) :
    u.pending = s.pending ∧ (s.wf = true → u.wf = true) ∧ s.now ≤ u.now := by
  obtain rfl := Host.Outcome.next.inj h
  obtain ⟨hpending, hwf, hnow⟩ := State.powerLoss_sound mv (s.advance t)
  have hadvance : Kept s (s.advance t) := State.advance_kept (.refl s)
  exact ⟨hpending, hwf ∘ hadvance.wf, hnow ▸ hadvance.time⟩

/-- Every command takes nothing from the queue, keeps canonical form and never turns time back. -/
theorem exec_sound {c : Instr} {s u : State} (h : exec c s = .next u) :
    u.pending = s.pending ∧ (s.wf = true → u.wf = true) ∧ s.now ≤ u.now := by
  by_cases hon : ∃ t mv, c = .powerOn t mv
  · obtain ⟨t, mv, rfl⟩ := hon
    exact exec_powerOn_sound h
  by_cases hloss : ∃ t mv, c = .powerLoss t mv
  · obtain ⟨t, mv, rfl⟩ := hloss
    exact exec_powerLoss_sound h
  have hkept := exec_kept (fun t mv e => hon ⟨t, mv, e⟩) (fun t mv e => hloss ⟨t, mv, e⟩) h
  exact ⟨hkept.pending, hkept.wf, hkept.time⟩

/-- Outside OFF a latch that is set stays set but for a supply below 2.80 V (spec 16 R374, 18 R417). -/
theorem exec_keeps_latch {c : Instr} {s u : State} (hset : s.latched = true) (hdev : s.dev ≠ .off)
    (hloss : ∀ t mv, c = .powerLoss t mv → 2800 ≤ mv) (h : exec c s = .next u) : u.latched = true := by
  by_cases hon : ∃ t mv, c = .powerOn t mv
  · obtain ⟨t, mv, rfl⟩ := hon
    obtain rfl := Host.Outcome.next.inj h
    exact (State.powerOn_kept (s := s.advance t) hdev (State.advance_kept (.refl s))).latched hset
  by_cases hlow : ∃ t mv, c = .powerLoss t mv
  · obtain ⟨t, mv, rfl⟩ := hlow
    obtain rfl := Host.Outcome.next.inj h
    have hstays : State.powerLoss mv (s.advance t) = s.advance t := if_neg (Nat.not_lt.mpr (hloss t mv rfl))
    rw [hstays]
    exact hset
  exact (exec_kept (fun t mv e => hon ⟨t, mv, e⟩) (fun t mv e => hlow ⟨t, mv, e⟩) h).latched hset

/-- Settles O1: the two clauses are the two arms of `step`. -/
theorem stepRunsFrontCommand : Obligations.StepRunsFrontCommand := by
  unfold Obligations.StepRunsFrontCommand
  refine ⟨fun c rest s h => ?front, fun s h => ?idle⟩
  case front => simp only [step, h]
  case idle => simp only [step, h]

/-- Settles O2: each part of the state at reset is its structure's own default. -/
theorem resetStandsWithoutSupply : Obligations.ResetStandsWithoutSupply := by
  unfold Obligations.ResetStandsWithoutSupply
  exact ⟨rfl, rfl, rfl, rfl, rfl, rfl, rfl⟩

/-- Settles O3: a step is its front command, which completes on the state with the queue's rest and leaves that as it is. -/
theorem everyStepTakesOneCommandForward : Obligations.EveryStepTakesOneCommandForward := by
  unfold Obligations.EveryStepTakesOneCommandForward
  refine ⟨fun c s => ?exec, fun c rest s h => ?step⟩
  case exec =>
    obtain ⟨u, hu⟩ := exec_next c s
    obtain ⟨hpending, -, hnow⟩ := exec_sound hu
    exact ⟨u, hu, hpending, hnow⟩
  case step =>
    obtain ⟨u, hu⟩ := exec_next c (s.modPending fun _ => rest)
    obtain ⟨hpending, -, -⟩ := exec_sound hu
    exact ⟨u, (stepRunsFrontCommand.1 c rest s h).trans hu, hpending⟩

/-- Settles O4: only the two commands of the auxiliary supply are outside `Kept`, and outside OFF POWER_ON does nothing. -/
theorem latchOutlastsEverythingButPowerLoss : Obligations.LatchOutlastsEverythingButPowerLoss := by
  unfold Obligations.LatchOutlastsEverythingButPowerLoss
  refine ⟨fun c s u hset hdev hloss h => exec_keeps_latch hset hdev hloss h, fun t mv s hmv => ?low⟩
  case low =>
    have hoff : State.powerLoss mv (s.advance t) = (s.advance t).afterLoss := if_pos hmv
    exact ⟨_, congrArg Host.Outcome.next hoff, rfl, rfl⟩

/-- Settles O5: canonical form is what every command keeps, with or without a supply. -/
theorem canonicalFormKept : Obligations.CanonicalFormKept := by
  unfold Obligations.CanonicalFormKept
  intro c s u hwf h
  obtain ⟨-, hkeeps, -⟩ := exec_sound h
  exact hkeeps hwf

end Sys2Proof.Machine
end

section
/-! PROOFS. Power-good (spec 18 R416, R419) where the link PLL has locked and the log can take no page (18 R424). -/

namespace Sys2Proof.Machine

/-- The last rail's reading has stood in its window while page writes are refused; the link is DOWN with its PLL locked. -/
def State.lastRailRises : State :=
  (State.reset.modBoot fun b => { b with stage := 1, plls := 4 }).modRail 5 fun r => { r with enabled := true }

/-- The link's way to DETECT is logged in an entry that no page can take: the log's flag is set. -/
theorem State.flags_railIsGood_lastRailRises :
    ((State.lastRailRises.advance (us 100)).railIsGood 5).side.flags ≠ State.lastRailRises.side.flags := by
  decide

/-- Refutes O47: power-good with the link PLL locked leaves more changed in the side port's registers than the interrupt
flag, where page writes are refused. -/
theorem not_powerSequenceFollows : ¬ Obligations.PowerSequenceFollows := by
  unfold Obligations.PowerSequenceFollows
  intro h
  obtain ⟨-, -, -, hgood, -⟩ := h (us 100) State.lastRailRises (by decide) (by decide)
  obtain ⟨-, hsequence⟩ := hgood 5 (by decide) (by decide) (by decide) (by decide) (by decide) (by decide)
  obtain ⟨u, hexec, -, -, -, hside, -⟩ := hsequence rfl rfl rfl
  injection hexec with hu
  rw [← hu] at hside
  exact State.flags_railIsGood_lastRailRises (congrArg SidePort.flags hside)

end Sys2Proof.Machine
end

section
/-! PROOFS. The core PLL's loss of lock (spec 16 R386) in the cycle of a transition that it overtakes (15 R348). -/

namespace Sys2Proof.Machine

/-- The self-test runs with the core PLL locked, entered from READY at this very instant. -/
def State.selfTestJustEntered : State :=
  ((State.reset.modDev fun _ => .selfTest).modBoot fun b => { b with plls := 1, test := some (true, 0, 0, 0) }).modClock
    fun k => { k with trans := some (0, 5, .ready, none) }

/-- The FAULT cause overtakes that transition: there was no self-test. -/
theorem State.test_coreUnlocks_selfTestJustEntered :
    ((State.selfTestJustEntered.advance 0).coreUnlocks).boot.test = none := by
  decide +kernel

/-- Refutes O43: a core PLL that loses lock in the cycle in which the self-test was entered ends that self-test, so more
of the boot state changes than the PLL. -/
theorem not_whorlConditionsStopEmission : ¬ Obligations.WhorlConditionsStopEmission := by
  unfold Obligations.WhorlConditionsStopEmission
  rintro ⟨-, -, h⟩
  obtain ⟨hunlock, -⟩ := h 0 State.selfTestJustEntered (by decide) (by decide)
  obtain ⟨u, hexec, hboot, -⟩ := hunlock (by decide)
  injection hexec with hu
  have htest := congrArg Boot.test hboot
  rw [← hu] at htest
  exact absurd (State.test_coreUnlocks_selfTestJustEntered.symm.trans htest) (by decide)

end Sys2Proof.Machine
end

section
/-! PROOFS. ABORT (spec 15 R360) of a command whose BOARD SETTINGS have not been acknowledged (spec 04 R105). -/

namespace Sys2Proof.Machine

/-- A device in RANGING whose one live command is a STATISTICS run with handle 5, to which port 0 owes an acknowledgement. -/
def State.abortsUnacknowledged : State :=
  ((State.reset.modDev fun _ => .ranging).modDist fun d => { d with
    up := true, live := [⟨5, 0, 0x0801, .link, 0, false, false⟩] }).modPort 0 fun p => { p with
      asked := some ⟨⟨.link, 0, none, 16, 16⟩, 5, 0, [], []⟩ }

/-- Its abort. -/
def Hdr.aborting : Hdr := ⟨.link, 7, none, 16, 16⟩

/-- The acknowledgement of BUSY frees the handle, so that no completion entry can bear it. -/
theorem State.waiting_abort_abortsUnacknowledged : ∀ u, exec (.abort 0 Hdr.aborting 5) State.abortsUnacknowledged = .next u →
    ∀ r ∈ u.dist.waiting, r.handle ≠ 5 := by
  intro u hexec
  injection hexec with hu
  rw [← hu]
  decide +kernel

/-- Refutes O55: ABORT gives its target no completion entry where the target's acknowledgement is still owed: that is
answered BUSY instead. -/
theorem not_stateCommandsMoveTheDevice : ¬ Obligations.StateCommandsMoveTheDevice := by
  unfold Obligations.StateCommandsMoveTheDevice
  intro h
  obtain ⟨-, -, -, -, -, -, -, -, -, habort, -⟩ := h 0 Hdr.aborting State.abortsUnacknowledged (by decide +kernel) (by decide +kernel)
  obtain ⟨u, hexec, -, -, -, -, hcompletion⟩ := habort 5 ⟨5, 0, 0x0801, .link, 0, false, false⟩ (by decide +kernel)
    (by decide +kernel) (by decide +kernel) rfl
  exact State.waiting_abort_abortsUnacknowledged u hexec _ hcompletion rfl

end Sys2Proof.Machine
end

section
/-! PROOFS. The delivery of a response (spec 15 R356) while an entry of unknown opcode stands at the front of the queue. -/

namespace Sys2Proof.Machine

/-- A powered device with Distaff up, a response for the link that waits, and an arrival whose opcode is unknown. -/
def State.unknownArrives : State :=
  ((State.reset.modDev fun _ => .safe).modPower fun p => { p with powerGood := true }).modDist fun d => { d with
    up := true, waiting := [⟨.link, 5, false, []⟩], intake := [⟨0xFFFF, ⟨.link, 7, none, 16, 16⟩, 0⟩] }

/-- The arrival is acknowledged as unknown in the same step. -/
theorem State.intake_deliver_unknownArrives : (State.unknownArrives.advance 0).deliver.dist.intake = [] := by
  decide +kernel

/-- Refutes O41: the step that delivers a response answers the arrivals of unknown opcode that have come to the front too. -/
theorem not_distaffGoesDownAndUp : ¬ Obligations.DistaffGoesDownAndUp := by
  unfold Obligations.DistaffGoesDownAndUp
  intro h
  obtain ⟨-, -, hdeliver, -⟩ := h 0 State.unknownArrives (by decide) (by decide)
  have hexec := hdeliver ⟨.link, 5, false, []⟩ [] rfl rfl (by decide +kernel)
  injection hexec with hstates
  have hintake := congrArg (fun u : State => u.dist.intake) hstates
  exact absurd (State.intake_deliver_unknownArrives.symm.trans hintake) (by decide)

end Sys2Proof.Machine
end

section
/-! PROOFS. The challenge of DEBUG UNLOCK (spec 17 R413): its value comes from the entropy source, whose last output changes. -/

namespace Sys2Proof.Machine

/-- A device in SAFE with Distaff up, whose entropy source has given nothing yet. -/
def State.entropyUnread : State := (State.reset.modDev fun _ => .safe).modDist fun d => { d with up := true }

/-- The header of its DEBUG UNLOCK. -/
def Hdr.unlocking : Hdr := ⟨.link, 7, none, 4096, 4096⟩

/-- Phase 2 reads the entropy source. -/
theorem State.entropy_debugUnlock_entropyUnread : ∀ u, exec (.debugUnlock 0 Hdr.unlocking 2 0 []) State.entropyUnread = .next u →
    u.trust.entropy ≠ State.entropyUnread.trust.entropy := by
  intro u hexec
  injection hexec with hu
  rw [← hu]
  decide +kernel

/-- Refutes O59: phase 2 of DEBUG UNLOCK changes the entropy source's last output beside the challenge. -/
theorem not_trustAndFirmwareCommandsTakeEffect : ¬ Obligations.TrustAndFirmwareCommandsTakeEffect := by
  unfold Obligations.TrustAndFirmwareCommandsTakeEffect
  intro h
  obtain ⟨-, -, -, -, -, -, -, -, hchallenge, -⟩ := h 0 Hdr.unlocking State.entropyUnread (by decide +kernel) (by decide +kernel)
  obtain ⟨u, v, hexec, -, htrust, -⟩ := hchallenge 0 [] (by decide +kernel)
  have hentropy := congrArg Trust.entropy htrust
  exact State.entropy_debugUnlock_entropyUnread u hexec hentropy

end Sys2Proof.Machine
end

section
/-! PROOFS. The sequence number that a manifest's record takes (spec 02 R61, 17 R411). -/

namespace Sys2Proof.Machine

namespace Records

theorem push_seqs (r : Records) (l : Lane) (x : List Rec) : (r.push l x).seqs = r.seqs := by
  cases l <;> rfl

theorem lose_seqs (r : Records) (src n cause now field : Nat) (frame : Option Nat) (present : Nat) :
    (r.lose src n cause now field frame present).seqs = r.seqs := by
  unfold lose
  split
  · rfl
  · rfl

theorem foldl_lose_seqs (src cause now field : Nat) (frame : Option Nat) (present : Nat) (x : List Rec) (r : Records) :
    (x.foldl (fun a y => a.lose src y.seq cause now field frame present) r).seqs = r.seqs := by
  induction x generalizing r with
  | nil => rfl
  | cons y ys ih => exact (ih _).trans (lose_seqs ..)

/-- Records that are offered move their source's number on, whether they are taken or lost (spec 13 R303). -/
theorem offer_seqs (r : Records) (l : Lane) (src : Nat) (frame : Option Nat) (now : Tick) (field present : Nat)
    (mk : List (Nat → List Byte)) :
    (r.offer l src frame now field present mk).seqs = Store.modify 0 r.seqs src fun v => (v + mk.length) % 2 ^ 32 := by
  simp only [offer]
  split
  · split
    · exact push_seqs ..
    · exact push_seqs ..
  · exact foldl_lose_seqs ..

end Records

/-- A manifest in preparation that no command waits for. -/
def Prep.loose : Prep := { number := 1, body := [], handle := none, closing := false }

/-- It is the one in preparation; the number of the trust engine's next record, the last before 0, stands behind that of a
source with a higher code. -/
def State.numbersUnsorted : State :=
  (State.reset.modTrust fun t => { t with prep := [.loose] }).modRecs fun r => { r with
    seqs := [(Src.health, 5), (Src.trust, 2 ^ 32 - 1)] }

/-- The first manifest in preparation, signed, is offered as a record of class 2 (spec 17 R411). -/
theorem State.recs_queueManifest {s : State} {p : Prep} {rest : List Prep} {sigs : List Byte × List Byte}
    (hprep : s.trust.prep = p :: rest) (hsigs : p.sigs = some sigs) (hhandle : p.handle = none) (hclosing : p.closing = false)
    (hroom : s.recs.refusal .class2 Src.trust [manifestSize] = none) :
    s.queueManifest.recs = s.recs.offer .class2 Src.trust none s.now (s.devField s.now) s.lineTime.frame
      [s.manifestBytes p sigs.1 sigs.2] := by
  simp only [queueManifest, hprep, hsigs, hroom, hhandle, hclosing]
  rfl

/-- The state in which its signatures stand, before the queue is asked. -/
def State.numbersUnsortedSigned : State :=
  (State.numbersUnsorted.advance 0).modTrust fun t => { t with
    entropy := []
    prep := [{ Prep.loose with sigs := some (Config.rsaSign t.keys [] [], Config.slhSign t.keys [] []) }] }

/-- The number that follows is 0, which a store does not list: the trust engine's entry stays, behind its place. -/
theorem State.seqs_manifestSigned_numbersUnsorted :
    ((State.numbersUnsorted.advance 0).manifestSigned [] []).recs.seqs = State.numbersUnsorted.recs.seqs := by
  have hsigned : (State.numbersUnsorted.advance 0).manifestSigned [] [] = numbersUnsortedSigned.queueManifest := rfl
  rw [hsigned, recs_queueManifest rfl rfl rfl rfl (by decide +kernel), Records.offer_seqs]
  decide +kernel

/-- Refutes O52: where the numbers of the sources do not stand in rising order, a manifest's record may leave the trust
engine's number as it was. -/
theorem not_trustAndCalibrationEventsTakeEffect : ¬ Obligations.TrustAndCalibrationEventsTakeEffect := by
  unfold Obligations.TrustAndCalibrationEventsTakeEffect
  intro h
  obtain ⟨-, hsigned, -⟩ := h 0 State.numbersUnsorted (by decide)
  obtain ⟨u, hexec, -, -, hqueued, -⟩ := hsigned [] [] .loose rfl rfl rfl rfl rfl
  injection hexec with hu
  obtain ⟨-, hnumber⟩ := hqueued (by decide +kernel)
  rw [Records.seqOf, ← hu, State.seqs_manifestSigned_numbersUnsorted] at hnumber
  exact absurd hnumber (by decide +kernel)

end Sys2Proof.Machine
end

section
/-! PROOFS. A reset shutdown (spec 18 R422, R428) in the cycle in which a port's gate has closed (spec 16 R387). -/

namespace Sys2Proof.Machine

/-- An inhibited device in SAFE: the gate of port 0 has closed at this instant for a trip. -/
def State.gateJustClosed : State :=
  (((State.reset.modDev fun _ => .safe).modPower fun p => { p with powerGood := true }).modWhorl fun w => { w with
    inhibit := 1 }).modPort 0 fun p => { p with gateAt := some 0, gateCause := 2 }

/-- The page of its log entry, which tells port, gate and cause, is being written. -/
def State.gatePageStarted : State :=
  gateJustClosed.modNvCtl fun c => { c with
    jobs := [⟨2048, logPage 0 0 (gateJustClosed.logBody Src.whorl 0x44 [0, 0, 2]), 2, 0, none⟩] }

/-- A rail below its reset threshold takes the blame for the closing: the page in progress tells the inhibit as the cause. -/
theorem State.jobs_railReset_gatePageStarted :
    ((gatePageStarted.advance 0).railReset 0 0).nvCtl.jobs.map (fun j => j.bytes.getD 26 0)
      ≠ gatePageStarted.nvCtl.jobs.map fun j => j.bytes.getD 26 0 := by
  decide +kernel

/-- Refutes O48: a reset shutdown in the cycle of a gate's closing changes the page that has started. -/
theorem not_railsAreWatched : ¬ Obligations.RailsAreWatched := by
  unfold Obligations.RailsAreWatched
  intro h
  obtain ⟨-, -, -, -, hreset, -⟩ := h 0 0 0 State.gatePageStarted (by decide) (by decide +kernel) (by decide) (by decide)
  obtain ⟨u, hexec, -, -, -, -, -, -, hjobs, -⟩ := hreset (by decide) (by decide) (by decide) (by decide) (by decide)
  have hstarted : State.gatePageStarted.pageStarted = true := by decide +kernel
  injection hexec with hu
  rw [← hu, if_pos hstarted] at hjobs
  have hbytes := congrArg (List.map fun j => j.bytes.getD 26 0) hjobs
  exact State.jobs_railReset_gatePageStarted hbytes

end Sys2Proof.Machine
end

section
/-! PROOFS. The resolution of a lone pulse (spec 09 R219-R221) whose cluster has been resolved before. -/

namespace Sys2Proof.Machine

/-- The pulse that an earlier resolution has released: only later ones, from number 1 on, make it a hypothesis again. -/
def Pulse.released : Pulse := { stop := 0, id := 0, fresh := 1 }

/-- The slot that holds it, its shot's start decided. -/
def Slot.ofReleased : Slot := { decided := true, pulses := [.released] }

/-- Channel 0 with that slot. -/
def State.pulseReleased : State := State.reset.modChan 0 fun ch => { ch with slots := [.ofReleased] }

/-- It gives no return. -/
theorem State.inbox_clusterResolution_pulseReleased :
    (((pulseReleased.advance (2 ^ 40)).clusterResolution 0).chan 0).card.inbox = [] := by
  decide +kernel

/-- Refutes O29: a lone pulse that an earlier resolution released gives no return, though its deadline has come. -/
theorem not_plyDecides : ¬ Obligations.PlyDecides := by
  unfold Obligations.PlyDecides
  intro h
  obtain ⟨-, -, hlone⟩ := h (2 ^ 40) 0 State.pulseReleased (by decide) (by decide +kernel)
  obtain ⟨u, r, hexec, hinbox, -⟩ := hlone .ofReleased .released 0 true true rfl rfl rfl rfl rfl rfl rfl rfl rfl (by decide) rfl rfl
    (by decide +kernel) (by decide)
  injection hexec with hu
  rw [← hu] at hinbox
  exact List.cons_ne_nil r [] (hinbox.symm.trans State.inbox_clusterResolution_pulseReleased)

end Sys2Proof.Machine
end

section
/-! PROOFS. STANDBY and OFF (spec 18 R417): what VAUX33 gives, and what its loss takes away. -/

namespace Sys2Proof.Machine

namespace State

/-- Without a supply no gate is open, no port has emission enabled, and no shot waits. -/
theorem dark_of_no_ports_and_shots {s : State} (hp : s.ports = []) (hk : s.skein = []) : s.dark = true := by
  have hport (n : Nat) : s.port n = {} := by rw [port, hp]; rfl
  simp [dark, hport, hk]

theorem powerOn_of_low {s : State} {mv : Nat} (h : mv < 3000) : s.powerOn mv = s := if_pos (.inr h)

theorem powerLoss_of_low {s : State} {mv : Nat} (h : mv < 2800) : s.powerLoss mv = s.afterLoss := if_pos h

theorem powerLoss_of_high {s : State} {mv : Nat} (h : 2800 ≤ mv) : s.powerLoss mv = s := if_neg h.not_gt

/-- STANDBY at 3.00 V: the island stands at its reset values but for an arm loop that is open. -/
theorem powerOn_effect {s : State} {mv : Nat} (ho : s.dev = .off) (h : 3000 ≤ mv) :
    (s.powerOn mv).dev = .standby ∧ (s.powerOn mv).power = { vaux := mv, nvAllowed := decide (3100 ≤ mv) }
      ∧ (s.powerOn mv).whorl = { inhibit := 1, lastOpen := s.now } ∧ (s.powerOn mv).latch = {} ∧ (s.powerOn mv).nv = s.nv
      ∧ (s.powerOn mv).pending = s.pending ∧ (s.powerOn mv).ports = [] ∧ (s.powerOn mv).skein = [] := by
  rw [powerOn, if_neg (by simp [ho, h])]
  exact ⟨rfl, rfl, rfl, rfl, rfl, rfl, rfl, rfl⟩

end State

/-- Settles O46: from the values that stand in STANDBY and in OFF. -/
theorem standbyAndOffFollowTheAuxiliarySupply : Obligations.StandbyAndOffFollowTheAuxiliarySupply := by
  unfold Obligations.StandbyAndOffFollowTheAuxiliarySupply
  intro t mv s _
  refine ⟨fun ho h => ?rises, fun _ h => ?stays, fun h => ?falls, fun h => ?holds⟩
  case rises =>
    obtain ⟨hdev, hpower, hwhorl, hlatch, hnv, hpending, hports, hskein⟩ := State.powerOn_effect (s := s.advance t) ho h
    refine ⟨_, rfl, hdev, ?_, ?_, ?_, ?_, ?_, hnv, hpending, State.dark_of_no_ports_and_shots hports hskein⟩
    · rw [hpower]
    · rw [hpower]
    · rw [hwhorl]
    · rw [hwhorl]
    · rw [hlatch]
  case stays => exact congrArg Host.Outcome.next (State.powerOn_of_low h)
  case falls =>
    exact ⟨_, congrArg Host.Outcome.next (State.powerLoss_of_low h), rfl, rfl, rfl, rfl,
      State.dark_of_no_ports_and_shots rfl rfl⟩
  case holds => exact congrArg Host.Outcome.next (State.powerLoss_of_high h)

end Sys2Proof.Machine
end

section
/-! PROOFS. The command front end (spec 15 R353-R360): what an accepted command starts from, what a refused one leaves, and what
waits behind another. -/

namespace Sys2Proof.Machine

namespace State

/-! ## The intake -/

theorem takeIntake_intake (s : State) : s.takeIntake.dist.intake = s.dist.intake.tail := by
  unfold takeIntake
  cases h : s.dist.intake <;> simp [modDist, h]

theorem takeIntake_arrivedAt (s : State) :
    s.takeIntake.dist.arrivedAt = (s.dist.intake.head?.map fun a => a.at_).getD s.now := by
  unfold takeIntake
  cases s.dist.intake <;> rfl

theorem takeIntake_load (s : State) : s.takeIntake.dist.load = s.dist.load := by
  unfold takeIntake
  split <;> rfl

theorem takeIntake_downCause (s : State) : s.takeIntake.dist.downCause = s.dist.downCause := by
  unfold takeIntake
  split <;> rfl

/-- The front end leaves an oldest entry whose opcode is known to its command. -/
theorem answerFront_of_known {s : State} {a : Arrival} {rest : List Arrival} (h : s.dist.intake = a :: rest)
    (hk : opKnown a.op a.hdr.path = true) : s.answerFront = s := by
  simp [answerFront, h, hk, cond_eq]

theorem answerFronts_of_known {s : State} (h : ∀ a, s.dist.intake.head? = some a → opKnown a.op a.hdr.path = true) :
    s.answerFronts = s := by
  refine each_eq_self fun _ _ => ?_
  cases hi : s.dist.intake with
  | nil => rw [answerFront, hi]
  | cons a rest => exact answerFront_of_known hi (h a (by rw [hi]; rfl))

/-! ## Commands that are not carried out -/

section
variable {op : Nat} {h : Hdr} {check : State → Ack} {effect : Nat → State → State} {s : State}

/-- A command behind another arrival is not taken (spec 15 R352). -/
theorem command_of_not_itsTurn (hfront : ∀ a, s.dist.intake.head? = some a → opKnown a.op a.hdr.path = true)
    (hturn : s.itsTurn op h = false) : s.command op h check effect = s := by
  simp [command, commandLater, answerFronts_of_known hfront, hturn]

/-- A command that the checks do not accept is acknowledged so, and nothing else is done (spec 15 R354, R355). -/
theorem command_of_refused (hturn : s.itsTurn op h = true) (hknown : opKnown op h.path = true) {a : Ack}
    (ha : s.takeIntake.verdict op h check = a) (hne : a ≠ .accepted) :
    s.command op h check effect = s.takeIntake.ackWith h a 0 := by
  simp only [command, commandLater, answerFronts_of_itsTurn hturn hknown, hturn, Bool.not_true, Bool.false_eq_true, if_false, ha]
  split
  · exact absurd rfl hne
  · rfl

end

/-! ## Acknowledgements -/

section
variable (s : State) (h : Hdr)

theorem ackWith_waiting (a : Ack) (handle : Nat) : (s.ackWith h a handle).dist.waiting = s.dist.waiting
    ++ [⟨h.path, 0, true, place 0 [(1, 1), (1, a.codes.1), (2, h.tag), (2, handle), (1, s.dev.code), (1, s.dist.load),
      (2, s.dist.live.length), (2, a.codes.2), (4, 0)]⟩] := rfl

theorem ackWith_live (a : Ack) (handle : Nat) : (s.ackWith h a handle).dist.live = s.dist.live := rfl
theorem ackWith_intake (a : Ack) (handle : Nat) : (s.ackWith h a handle).dist.intake = s.dist.intake := rfl
theorem ackWith_arrivedAt (a : Ack) (handle : Nat) : (s.ackWith h a handle).dist.arrivedAt = s.dist.arrivedAt := rfl

end

/-! ## The start of a command -/

section
variable {op : Nat} {h : Hdr} {s : State} {t : Tick}

/-- An accepted command's handle bears its index and its generation (spec 15 R357). -/
theorem nextHandle_spec {i : Nat} (hi : s.nextIndex = some i) :
    s.nextHandle % 4096 = i ∧ s.nextHandle / 4096 = s.nextGeneration i ∧ 4096 ≤ s.nextHandle := by
  have hlt := (nextIndex_spec hi).1
  have hgeneration : 1 ≤ s.nextGeneration i := by
    unfold nextGeneration
    dsimp only
    split <;> omega
  simp only [nextHandle, hi, Option.getD_some]
  omega

theorem startOf_arrivedAt (k : s.takes op h = true) (ht : s.now ≤ t) :
    (s.startOf t op h).dist.arrivedAt = (s.dist.intake.head?.map fun a => a.at_).getD t := by
  obtain ⟨i, hi⟩ := takes_nextIndex k
  rw [startOf_eq_issue t hi, ackWith_arrivedAt]
  exact (takeIntake_arrivedAt _).trans (by rw [advance_now, max_eq_right ht]; rfl)

theorem startOf_intake (k : s.takes op h = true) : (s.startOf t op h).dist.intake = s.dist.intake.tail := by
  obtain ⟨i, hi⟩ := takes_nextIndex k
  rw [startOf_eq_issue t hi, ackWith_intake]
  exact takeIntake_intake _

theorem startOf_live (k : s.takes op h = true) (ht : s.now ≤ t) : (s.startOf t op h).dist.live = s.dist.live
    ++ [⟨s.nextHandle, h.tag, op, h.path, (s.dist.intake.head?.map fun a => a.at_).getD t, false, false⟩] := by
  obtain ⟨i, hi⟩ := takes_nextIndex k
  have hissue := issue_nextHandle (op := op) (h := h) t hi
  have harrived := startOf_arrivedAt k ht
  rw [startOf_eq_issue t hi] at harrived ⊢
  rw [ackWith_live]
  rw [ackWith_arrivedAt] at harrived
  simp only [issue, modDist, takeIntake_live] at hissue harrived ⊢
  rw [hissue, harrived]
  rfl

/-- The acknowledgement of an accepted command waits behind what has waited (spec 15 R355). -/
theorem startOf_waiting (k : s.takes op h = true) : (s.startOf t op h).dist.waiting = s.dist.waiting
    ++ [⟨h.path, 0, true, place 0 [(1, 1), (1, 0), (2, h.tag), (2, s.nextHandle), (1, s.dev.code), (1, s.dist.load),
      (2, s.dist.live.length + 1), (2, 0), (4, 0)]⟩] := by
  obtain ⟨i, hi⟩ := takes_nextIndex k
  rw [startOf_eq_issue t hi, ackWith_waiting]
  simp only [issue, modDist, takeIntake_live, takeIntake_waiting, takeIntake_load, takeIntake_dev, List.length_append,
    List.length_singleton]
  rfl

/-- The entry that answers a started command is placed behind its acknowledgement. -/
theorem completeWith_startOf (k : s.takes op h = true) (status detail : Nat) (result : List Byte) :
    ∃ d : Distaff, ((s.startOf t op h).completeWith s.nextHandle status detail 0 none result
        = (s.startOf t op h).modDist fun _ => d)
      ∧ d.waiting = (s.startOf t op h).dist.waiting ++ [⟨h.path, s.nextHandle, false, (s.startOf t op h).completionBytes
        ⟨s.nextHandle, h.tag, op, h.path, (s.startOf t op h).dist.arrivedAt, false, false⟩ status detail 0 none result⟩] := by
  unfold completeWith
  rw [startOf_liveOf t k]
  exact ⟨_, rfl, rfl⟩

end

/-! ## GO READY -/

section
variable {h : Hdr} {s : State} {t : Tick}

theorem goReady_known (p : Path) : opKnown 0x0F02 p = true := rfl

/-- GO READY, refused. -/
theorem exec_goReady_refused {a : Ack} (hturn : s.itsTurn 0x0F02 h = true)
    (ha : (s.advance t).takeIntake.verdict 0x0F02 h noCheck = a) (hne : a ≠ .accepted) :
    ∃ u, exec (.goReady t h) s = .next u ∧ u.dist.live = s.dist.live
      ∧ u.dist.waiting = s.dist.waiting ++ [⟨h.path, 0, true, place 0 [(1, 1), (1, a.codes.1), (2, h.tag), (2, 0),
        (1, s.dev.code), (1, s.dist.load), (2, s.dist.live.length), (2, a.codes.2), (4, 0)]⟩]
      ∧ u = { s with clock := u.clock, dist := u.dist } := by
  have hturn' : (s.advance t).itsTurn 0x0F02 h = true := hturn
  refine ⟨_, congrArg Host.Outcome.next (command_of_refused hturn' (goReady_known _) ha hne), ?_, ?_, ?_⟩
  · exact takeIntake_live _
  · rw [ackWith_waiting]
    simp only [takeIntake_live, takeIntake_waiting, takeIntake_load, takeIntake_dev]
    rfl
  · rw [takeIntake_eq]
    rfl

theorem verdict_goReady_of_malformed (hs : structureGood h = false) (hd : s.dev ≠ .selfTest) :
    s.verdict 0x0F02 h noCheck = .malformed := by
  simp [verdict, hd, opRow, opTable, opRows15, goReady_known, hs, Option.filter]

theorem verdict_goReady_of_down (hs : structureGood h = true) (hup : s.dist.up = false) (hd : s.dev ≠ .selfTest) :
    s.verdict 0x0F02 h noCheck = .down s.dist.downCause := by
  simp [verdict, hd, opRow, opTable, opRows15, goReady_known, hs, hup, Option.filter]

theorem verdict_goReady_of_wrong_state (hs : structureGood h = true) (hup : s.dist.up = true) (hd : s.dev ≠ .safe) :
    s.verdict 0x0F02 h noCheck = .wrongState 0 := by
  have hcode : s.dev.code ≠ 3 := by
    cases hdev : s.dev <;> simp_all [DevState.code]
  simp [verdict, opRow, opTable, opRows15, goReady_known, hs, hup, hcode, Option.filter]

end

end State

/-- Settles O53: from the start of an accepted command, and from the verdicts on GO READY. -/
theorem commandsAreAcknowledgedAndAnswered : Obligations.CommandsAreAcknowledgedAndAnswered := by
  unfold Obligations.CommandsAreAcknowledgedAndAnswered
  intro t h s ht
  refine ⟨fun op k => ?accepted, fun hturn => ⟨fun hs hup hd => ?state, fun hs hd => ?malformed, fun hs hup hd => ?down⟩,
    fun a rest hi hk hturn => ?behind⟩
  case accepted =>
    obtain ⟨i, hi⟩ := State.takes_nextIndex k
    obtain ⟨hindex, hgeneration, hleast⟩ := State.nextHandle_spec hi
    refine ⟨fun l hl => hindex ▸ (State.nextIndex_spec hi).2 l hl, hleast, ?_, State.startOf_waiting k,
      State.startOf_live k ht, State.startOf_intake k, ?_, fun result => ?_⟩
    · rw [hgeneration, hindex]
      rfl
    · obtain ⟨d, hd⟩ := State.startOf_eq t op h s
      rw [hd]
      rfl
    · obtain ⟨d, heq, hwaiting⟩ := State.completeWith_startOf (t := t) k 0 0 result
      refine ⟨State.answered_of_underway k (.refl _) 0 0 result, ?_, ?_⟩
      · rw [State.succeed, heq]
        simp [State.modDist, hwaiting]
      · rw [State.succeed, heq]
        rfl
  case state =>
    exact State.exec_goReady_refused hturn (State.verdict_goReady_of_wrong_state hs (by rwa [State.takeIntake_up])
      (by rwa [State.takeIntake_dev])) (by simp)
  case malformed =>
    exact State.exec_goReady_refused hturn (State.verdict_goReady_of_malformed hs (by rwa [State.takeIntake_dev])) (by simp)
  case down =>
    have hverdict := State.verdict_goReady_of_down (s := (s.advance t).takeIntake) hs (by rwa [State.takeIntake_up])
      (by rwa [State.takeIntake_dev])
    rw [State.takeIntake_downCause] at hverdict
    exact State.exec_goReady_refused hturn hverdict (by simp)
  case behind =>
    refine congrArg Host.Outcome.next (State.command_of_not_itsTurn (fun b hb => ?_) hturn)
    have hfront : s.dist.intake.head? = some b := hb
    rw [hi, List.head?_cons, Option.some.injEq] at hfront
    exact hfront ▸ hk

end Sys2Proof.Machine
end

section
/-! PROOFS. What an inhibit cause that goes leaves as it is (spec 16 R372, R384-R387): fire gates and emission messages follow
it, in the ports and in what is reported, and nothing else does. -/

namespace Sys2Proof.Machine

namespace State

/-- `u` is `s` but for the ports and for what reports write. -/
def Gated (s u : State) : Prop := ∃ p r c i, u = { s with ports := p, recs := r, nvCtl := c, side := i }

section
variable {s u v : State}

theorem Gated.refl (s : State) : Gated s s := ⟨s.ports, s.recs, s.nvCtl, s.side, rfl⟩

theorem Gated.trans (h : Gated s u) (k : Gated u v) : Gated s v := by
  obtain ⟨_, _, _, _, rfl⟩ := h
  obtain ⟨p, r, c, i, rfl⟩ := k
  exact ⟨p, r, c, i, rfl⟩

theorem Gated.of_reported (h : Reported s u) : Gated s u := by
  obtain ⟨r, c, i, rfl⟩ := h
  exact ⟨s.ports, r, c, i, rfl⟩

theorem Gated.cond {f : State → State} (h : ∀ u, Gated u (f u)) (b : Bool) (s : State) : Gated s (s.cond b f) := by
  cases b
  · exact .refl s
  · exact h s

theorem Gated.each {α : Type} {f : α → State → State} (h : ∀ a u, Gated u (f a u)) (l : List α) (s : State) :
    Gated s (s.each l f) := each_rel Gated.refl Gated.trans h l s

end

section
variable (n : Nat) (s : State)

theorem eventOf_reported (src code srcState : Nat) (payload : List (Nat × Nat)) :
    Reported s (s.eventOf src code srcState payload) := by
  have hoffer : Reported s (s.cond s.powered fun s => s.offer .events src none [fun seq =>
      padTo 64 (s.header 0x10 64 src code srcState s.lineTime seq ++ place 32 payload)]) := by
    rw [cond_eq]
    split
    · exact ⟨_, s.nvCtl, s.side, rfl⟩
    · exact .refl s
  rw [eventOf, cond_eq]
  split
  · exact hoffer.trans (log_reported ..)
  · exact hoffer

theorem event_reported (src code : Nat) (payload : List (Nat × Nat)) : Reported s (s.event src code payload) :=
  eventOf_reported ..

theorem amend_reported (src code : Nat) (head : List Byte) (v : Byte) : Reported s (s.amend src code head v) :=
  ⟨_, _, s.side, rfl⟩

theorem modPort_gated (g : Port → Port) : Gated s (s.modPort n g) := ⟨_, s.recs, s.nvCtl, s.side, rfl⟩

theorem sendFrame_gated (shares : List (List Byte)) : Gated s (s.sendFrame n shares) :=
  .cond (fun u => modPort_gated n u _) _ s

theorem updateEmission_gated : Gated s (s.updateEmission n) := by
  unfold updateEmission
  dsimp only
  split
  · exact .refl s
  · exact (sendFrame_gated ..).trans (modPort_gated ..)

theorem gateBlame_gated (cause : Nat) : Gated s (s.gateBlame cause n) :=
  .cond (fun u => (modPort_gated n u _).trans (.of_reported (amend_reported ..))) _ s

theorem updateGate_gated (cause : Nat) : Gated s (s.updateGate cause n) := by
  unfold updateGate
  dsimp only
  split
  · exact (gateBlame_gated ..).trans (updateEmission_gated ..)
  · exact ((modPort_gated ..).trans (.of_reported (event_reported ..))).trans (updateEmission_gated ..)

theorem updateGates_gated (cause : Nat) : Gated s (s.updateGates cause) := .each (fun n u => updateGate_gated n u cause) _ s

end

/-- An inhibit cause of Whorl that comes or goes moves the gates (spec 16 R386). -/
theorem setInhibit_gated (bit : Nat) (on : Bool) (s : State) : Gated (s.modWhorl fun w => { w with
    inhibit := if on then w.inhibit ||| BitVec.ofNat 9 (2 ^ bit) else w.inhibit &&& ~~~ BitVec.ofNat 9 (2 ^ bit) })
      (s.setInhibit bit on) := by
  change Gated (s.modWhorl fun w => { w with inhibit := if on then s.whorl.inhibit ||| BitVec.ofNat 9 (2 ^ bit)
    else s.whorl.inhibit &&& ~~~ BitVec.ofNat 9 (2 ^ bit) }) _
  unfold setInhibit
  generalize (if on then s.whorl.inhibit ||| BitVec.ofNat 9 (2 ^ bit)
    else s.whorl.inhibit &&& ~~~ BitVec.ofNat 9 (2 ^ bit)) = m
  dsimp only
  split
  case isTrue h =>
    rw [h]
    exact .refl s
  case isFalse => exact (Gated.of_reported (event_reported ..)).trans (updateGates_gated ..)

/-! ## The arm loop (spec 16 R382-R384) -/

/-- Whorl as the loop's closing leaves it. -/
def loopClosed (w : Whorl) : Whorl :=
  { w with loop := 2, opensSince := 0, firstClosed := true, inhibit := w.inhibit &&& ~~~ 1 }

/-- The loop that closes takes its inhibit cause away and moves nothing but the gates. -/
theorem loopCloses_gated {s : State} (hl : s.whorl.loop ≠ 2) (ht : s.whorl.lastOpen + us 10000 ≤ s.now) :
    Gated (s.modWhorl loopClosed) s.loopCloses := by
  unfold loopCloses
  rw [if_neg (by simp [hl, ht])]
  exact ((setInhibit_gated 0 false (s.modWhorl fun w => { w with loop := 2, opensSince := 0, firstClosed := true })).trans
    (.cond (fun u => .of_reported (event_reported ..)) _ _)).trans (.cond (fun u => .of_reported (health_reported ..)) _ _)

theorem loopCloses_of_early {s : State} (ht : s.now < s.whorl.lastOpen + us 10000) : s.loopCloses = s :=
  if_pos (.inr ht)

/-- The inhibit causes but that of an open loop. -/
theorem mask_without_loop : ∀ x : BitVec 9, x &&& ~~~ 1#9 = x &&& 0x1FE := by decide

theorem armDevice_of_loop_open {s : State} (hl : s.whorl.loop ≠ 2) (n : Nat) : s.armDevice n = s.failed n 0x0020 :=
  if_pos hl

/-- A completion entry is formed without regard to Distaff's own state. -/
theorem completionBytes_startOf (t : Tick) (op : Nat) (h : Hdr) (s : State) (l : Live) (status detail flags : Nat)
    (boundary : Option LineTime) (result : List Byte) : (s.startOf t op h).completionBytes l status detail flags boundary result
      = (s.advance t).completionBytes l status detail flags boundary result := by
  obtain ⟨d, hd⟩ := startOf_eq t op h s
  rw [hd]
  rfl

end State

/-- Settles O44: the loop that closes moves the gates, which open for no shot, and ARM looks at the loop first. -/
theorem closingTheLoopArmsNothing : Obligations.ClosingTheLoopArmsNothing := by
  unfold Obligations.ClosingTheLoopArmsNothing
  intro t s ht
  have hnow : (s.advance t).now = t := max_eq_right ht
  refine ⟨fun hl hd ho => ?closes, fun hl hd => ?early, fun h k hl => ?arm⟩
  case closes =>
    have hruns : (s.advance t).whorlRuns = true := decide_eq_true ho
    obtain ⟨p, r, c, i, hu⟩ := State.loopCloses_gated (s := s.advance t) hl (by rw [hnow]; exact hd)
    refine ⟨_, congrArg Host.Outcome.next (if_pos hruns), ?_⟩
    rw [hu]
    exact ⟨rfl, State.mask_without_loop _, rfl, rfl, rfl, rfl⟩
  case early =>
    have hstays : (s.advance t).loopCloses = s.advance t := State.loopCloses_of_early (by rw [hnow]; exact hd)
    refine congrArg Host.Outcome.next ?_
    rw [hstays, ite_self]
  case arm =>
    have hloop : (s.startOf t 0x0F04 h).whorl.loop ≠ 2 := by
      obtain ⟨d, hstart⟩ := State.startOf_eq t 0x0F04 h s
      rw [hstart]
      exact hl
    have hexec : exec (.arm t h) s = .next ((s.startOf t 0x0F04 h).failed s.nextHandle 0x0020) :=
      congrArg Host.Outcome.next ((State.command_startOf t k rfl).trans (State.armDevice_of_loop_open hloop _))
    obtain ⟨d, heq, hwaiting⟩ := State.completeWith_startOf (t := t) k 1 0x0020 []
    have harrived := State.startOf_arrivedAt k ht
    obtain ⟨d', hstart⟩ := State.startOf_eq t 0x0F04 h s
    obtain ⟨a, ha, hack, hpath⟩ : ∃ a, (s.startOf t 0x0F04 h).dist.waiting = s.dist.waiting ++ [a] ∧ a.ack = true
      ∧ a.path = h.path := ⟨_, State.startOf_waiting k, rfl, rfl⟩
    refine ⟨_, a, ⟨s.nextHandle, h.tag, 0x0F04, h.path, (s.startOf t 0x0F04 h).dist.arrivedAt, false, false⟩, hexec, rfl, rfl,
      rfl, harrived, ?_, hack, hpath, ?_⟩
    · rw [State.failed, heq]
      simp only [State.modDist, hwaiting, ha, State.completionBytes_startOf, List.append_assoc]
      rfl
    · rw [State.failed, heq, hstart]
      rfl

end Sys2Proof.Machine
end

section
/-! PROOFS. The side port (spec 21 R471-R484): what doorbells, indexes, frames and reads do to its registers, and what they leave. -/

namespace Sys2Proof.Machine

/-- Four bytes are those of the word that they make. -/
theorem le_of_fromLe (b0 b1 b2 b3 : Byte) :
    le 4 (BitVec.ofNat 32 (fromLe [b0, b1, b2, b3])).toNat = [b0, b1, b2, b3] := by
  have h0 := b0.isLt
  have h1 := b1.isLt
  have h2 := b2.isLt
  have h3 := b3.isLt
  simp only [le, fromLe, List.range_succ, List.range_zero, List.nil_append, List.map_cons, List.map_nil, List.cons_append,
    List.foldr_cons, List.foldr_nil, BitVec.toNat_ofNat, List.cons.injEq, and_true]
  refine ⟨?_, ?_, ?_, ?_⟩ <;> apply BitVec.eq_of_toNat_eq <;> rw [BitVec.toNat_ofNat] <;> omega

namespace State

/-! ## Doorbells and the intake -/

theorem doorbell_of_free {k : Nat} {s : State} (hk : k < 16) (hp : s.powered = true) (hb : s.side.busy.getLsbD k = false)
    (hf : s.dev.fromSafe = true) (hd : s.dev ≠ .selfTest) :
    s.doorbell k = ((s.modSide fun p => { p with busy := p.busy ||| BitVec.ofNat 16 (2 ^ k) }).modDist fun d => { d with
      intake := d.intake ++ [⟨(s.slotHeader k).1, (s.slotHeader k).2, s.now⟩] }).answerFronts := by
  simp [doorbell, Nat.mod_eq_of_lt hk, hp, hb, hf, hd]

theorem doorbell_before_safe {k : Nat} {s : State} (hp : s.powered = true) (hf : s.dev.fromSafe = false) :
    s.doorbell k = s.setFlag 21 := by
  simp [doorbell, hp, hf]

/-- The front end answers an oldest entry of unknown opcode by its form (spec 15 R354). -/
theorem answerFront_of_unknown {s : State} {a : Arrival} {rest : List Arrival} (h : s.dist.intake = a :: rest)
    (hd : s.dev ≠ .selfTest) (hk : opKnown a.op a.hdr.path = false) :
    s.answerFront = s.takeIntake.ackWith a.hdr (if structureGood a.hdr then .unknown else .malformed) 0 := by
  simp [answerFront, h, hk, cond_eq, verdict, hd]

/-- Where no completion waits in the ring, the consumer index moves alone. -/
theorem setConsumer_of_ring_empty {i : Nat} {s : State} (hi : i < 512) (hp : s.powered = true) (hr : s.side.ring = [])
    (hu : (i + 512 - s.side.consumer) % 512 ≤ s.ringUsed) :
    s.setConsumer i = s.modSide fun p => { p with consumer := i, ring := [] } := by
  simp [setConsumer, Nat.mod_eq_of_lt hi, hp, hr, Nat.not_lt.mpr hu, retireHandles, cond_eq, modSide]

/-! ## The event-store window -/

/-- A load that is done sets VALID or ABSENT, never both (spec 21 R484). -/
theorem windowLoaded_spec {s : State} (hb : s.side.logBusy = true) : ∃ p : SidePort, s.windowLoaded = s.modSide (fun _ => p)
    ∧ p.logBusy = false ∧ (p.logValid = true → p.logAbsent = false) := by
  unfold windowLoaded
  rw [if_neg (by simp [hb])]
  refine ⟨_, rfl, rfl, fun h => ?_⟩
  simpa using (Bool.and_eq_true_iff.mp h).2

/-! ## Frames and reads -/

section
variable {a : Nat} (ha : 0x10000 ≤ a) (hb : a < 0x20000)
include ha hb

theorem regWord_of_window (s : State) : s.regWord a = some (if s.dev.fromSafe then fromLe (Memory.load s.side.mem a 4) else 0) := by
  unfold regWord
  rw [if_neg (by omega), if_neg (by omega), if_neg (by omega), if_neg (by omega), if_neg (by omega), if_neg (by omega),
    if_pos (.inl ⟨ha, hb⟩)]

theorem regionDark_of_window {s : State} (hf : s.dev.fromSafe = true) : s.regionDark a = false := by
  unfold regionDark
  rw [if_neg (by omega), if_pos (by omega), hf]
  rfl

theorem writeWord_of_window {s : State} (hf : s.dev.fromSafe = true) (w : Word32) :
    s.writeWord a w = s.modSide fun p => { p with mem := Memory.write p.mem a (le 4 w.toNat) } := by
  simp [writeWord, regionDark_of_window ha hb hf, ha, hb]

/-- A frame that writes one word of the command window. -/
theorem sideFrame_of_window {s : State} (hf : s.dev.fromSafe = true) (h4 : a % 4 = 0) (b0 b1 b2 b3 : Byte) :
    s.sideFrame 0x02 a [b0, b1, b2, b3] = s.modSide fun p => { p with
      mem := Memory.write p.mem a [b0, b1, b2, b3], frameError := false, miso := le 1 s.statusByte } := by
  have hoff : s.dev ≠ .off := fun h => by rw [h] at hf; exact absurd hf (by decide)
  have hgood : s.frameFails 0x02 a [b0, b1, b2, b3] = false := by
    simp [frameFails, frameWords, h4, regWord_of_window ha hb, regionDark_of_window ha hb hf]
  have haddr : a / 4 * 4 = a := by omega
  simp only [sideFrame, if_neg hoff, hgood, haddr, writeWords, writeWord_of_window ha hb hf, le_of_fromLe, if_true, cond_eq,
    Bool.false_eq_true, if_false, List.append_nil]
  rfl

end

/-- A read of an address that latches no group. -/
theorem readSide_of_plain {a : Nat} (s : State) (h : a ≠ 0x400) (h' : a ≠ 0x700) :
    s.readSide a = s.modSide fun p => { p with readData := s.sideWord a } := by
  simp [readSide, h, h']

section
variable {s : State} (hd : s.dev ≠ .off)
include hd

theorem sideWord_of_snapshot {a : Nat} (ha : a ∈ [0x404, 0x408, 0x40C, 0x410]) :
    s.sideWord a = if s.powered then nth 0 s.side.snapshot ((a - 0x400) / 4) else 0 := by
  rw [sideWord, if_neg hd]
  exact if_pos ha

theorem sideWord_of_live {a : Nat} (ha : a ∉ [0x404, 0x408, 0x40C, 0x410]) (hn : a ≠ 0x704) :
    s.sideWord a = BitVec.ofNat 32 ((s.regWord a).getD 0) := by
  rw [sideWord, if_neg hd]
  exact (if_neg ha).trans (if_neg hn)

theorem sideWord_of_newest : s.sideWord 0x704 = nth 0 s.side.logSnapshot 1 := by
  rw [sideWord, if_neg hd]
  exact if_neg (by decide)

end

end State

/-- Settles O42: each access from the register that it names. -/
theorem sidePortTakesEffect : Obligations.SidePortTakesEffect := by
  unfold Obligations.SidePortTakesEffect
  intro t s ht
  have hnow : (s.advance t).now = t := max_eq_right ht
  refine ⟨fun k hk hp hb hf hd => ?doorbell, fun a rest hi hd => ⟨fun hk => ?known, fun hk => ?unknown⟩, fun k hp hf => ?early,
    fun i hi hp hr hu => ?consumer, fun v => ?flags, fun v hd => ?select, fun hb => ?loaded,
    fun a b0 b1 b2 b3 hw hf ha hb h4 => ?write, fun a hd ha => ?snapshot, fun hd => ?newest, fun a hd ha => ?live,
    fun hd => ?spindle, fun hd => ?log⟩
  case doorbell =>
    refine congrArg Host.Outcome.next ?_
    rw [State.doorbell_of_free hk (s := s.advance t) hp hb hf hd, hnow]
    rfl
  case known =>
    refine State.answerFronts_of_known fun b hb => ?_
    rw [hi, List.head?_cons, Option.some.injEq] at hb
    exact hb ▸ hk
  case unknown => exact State.answerFront_of_unknown hi hd hk
  case early => exact congrArg Host.Outcome.next (State.doorbell_before_safe (s := s.advance t) hp hf)
  case consumer =>
    exact ⟨_, congrArg Host.Outcome.next (State.setConsumer_of_ring_empty (s := s.advance t) hi hp hr hu), rfl, rfl, rfl⟩
  case flags =>
    refine congrArg Host.Outcome.next ?_
    rw [State.clearSideFlags, hnow]
  case select =>
    refine congrArg Host.Outcome.next ?_
    rw [State.selectLog, State.cond_eq]
    exact if_pos (decide_eq_true hd)
  case loaded =>
    obtain ⟨p, hp, hbusy, hvalid⟩ := State.windowLoaded_spec (s := s.advance t) hb
    exact ⟨_, congrArg Host.Outcome.next hp, hbusy, hvalid, rfl⟩
  case write =>
    refine ⟨_, congrArg Host.Outcome.next (State.sideFrame_of_window (s := s.advance t) ha hb hf h4 b0 b1 b2 b3), rfl, ?_,
      fun d hdis => Memory.read_write_outside _ a d _ hw ?_, rfl, rfl, rfl⟩
    · have hread (i : Nat) (hi : i < 4) := Memory.read_write_inside s.side.mem a i [b0, b1, b2, b3] hw hi
      have h0 := hread 0 (by decide)
      have h1 := hread 1 (by decide)
      have h2 := hread 2 (by decide)
      have h3 := hread 3 (by decide)
      simp [Memory.load, List.range_succ, State.modSide] at h0 h1 h2 h3 ⊢
      exact ⟨h0, h1, h2, h3⟩
    · simpa using hdis
  case snapshot =>
    refine congrArg Host.Outcome.next ?_
    rw [State.readSide_of_plain _ (by rintro rfl; simp at ha) (by rintro rfl; simp at ha),
      State.sideWord_of_snapshot (s := s.advance t) hd ha]
    rfl
  case newest =>
    refine congrArg Host.Outcome.next ?_
    rw [State.readSide_of_plain _ (by decide) (by decide), State.sideWord_of_newest (s := s.advance t) hd]
    rfl
  case live =>
    refine congrArg Host.Outcome.next ?_
    simp only [List.mem_cons, List.not_mem_nil, or_false, not_or] at ha
    obtain ⟨h400, h404, h408, h40C, h410, h700, h704⟩ := ha
    rw [State.readSide_of_plain _ h400 h700,
      State.sideWord_of_live (s := s.advance t) hd (by simp [h404, h408, h40C, h410]) h704]
  case spindle =>
    exact ⟨_, rfl, rfl, State.sideWord_of_live (s := (s.advance t).modSide _) hd (by decide) (by decide), rfl⟩
  case log =>
    exact ⟨_, rfl, rfl, State.sideWord_of_live (s := (s.advance t).modSide _) hd (by decide) (by decide), rfl⟩

end Sys2Proof.Machine
end

section
/-! PROOFS. The link in ACTIVE (spec 14 R322-R332): what the blocks of its stream leave, credits and acknowledgements, frames in
and frames out. -/

namespace Sys2Proof.Machine

theorem recent_concat {α : Type} {n : Nat} (hn : 0 < n) (l : List α) (x : α) : (recent n (l ++ [x])).getLast? = some x := by
  rw [recent, List.length_append, List.length_singleton, List.drop_append_of_le_length (by omega), List.getLast?_concat]

/-! ## Class 0 -/

/-- A record that no loss record precedes and that is none itself leaves first (spec 14 R332). -/
theorem next0_cons {x : Rec} (hx : x.src ≠ Src.loss) (rest : List Rec) : next0 (x :: rest) = some x := by
  simp [next0, nextEvent, hx]

theorem take0_length_le (n : Nat) : ∀ (room : Nat) (acc q : List Rec), (take0 n room acc q).2.length ≤ q.length := by
  induction n with
  | zero => exact fun _ _ _ => le_rfl
  | succ n ih =>
    intro room acc q
    rw [take0]
    split
    · exact le_rfl
    · split
      · exact (ih ..).trans List.length_erase_le
      · exact le_rfl

/-- A class-0 frame takes at least the record that leaves first. -/
theorem take0_takes_first {x : Rec} {rest : List Rec} (n : Nat) {room : Nat} (hx : x.src ≠ Src.loss)
    (hroom : x.bytes.length ≤ room) : (take0 (n + 1) room [] (x :: rest)).2.length < (x :: rest).length := by
  rw [take0, next0_cons hx]
  simp only [if_pos hroom, List.erase_cons_head]
  exact Nat.lt_succ_of_le (take0_length_le ..)

namespace State

/-! ## The stream -/

/-- Blocks of the stream change what the lanes carry alone. -/
theorem putStream_eq (blocks : List (Bool × List Byte)) (s : State) : ∃ x w p,
    s.putStream blocks = s.modLink fun l => { l with scramblers := x, wire := w, streamPos := p } := by
  refine each_rel (R := fun s u => ∃ x w p, u = s.modLink fun l => { l with scramblers := x, wire := w, streamPos := p })
    (fun s => ⟨s.link.scramblers, s.link.wire, s.link.streamPos, rfl⟩) ?trans (fun b s => ⟨_, _, _, rfl⟩) blocks s
  rintro a _ _ ⟨_, _, _, rfl⟩ ⟨x, w, p, rfl⟩
  exact ⟨x, w, p, rfl⟩

theorem putColumn_eq (block : Nat → List Byte) (s : State) : ∃ x w p,
    s.putColumn block = s.modLink fun l => { l with scramblers := x, wire := w, streamPos := p } := putStream_eq ..

/-- An alignment column that is due goes out and is counted (spec 14 R322). -/
theorem alignSend_effect {s : State} (hs : s.streams = true)
    (hd : ∀ a, s.link.alignAt = some a → a + alignPeriod s.link.rate ≤ s.now) : ∃ l, s.alignSend = s.modLink (fun _ => l)
      ∧ l.alignSent = (s.link.alignSent + 1) % 65536 ∧ l.alignAt = some s.now
      ∧ l.wire = (s.putColumn s.alignBlock).link.wire := by
  obtain ⟨x, w, p, h⟩ := putColumn_eq s.alignBlock s
  have hdue : (s.link.alignAt.all fun a => decide (a + alignPeriod s.link.rate ≤ s.now)) = true := by
    cases ha : s.link.alignAt with
    | none => rfl
    | some a => exact decide_eq_true (hd a ha)
  rw [alignSend, hs, hdue, Bool.and_self, cond_eq, if_pos rfl, h]
  exact ⟨_, rfl, rfl, rfl, rfl⟩

/-- An IDLE column goes out and is counted (spec 14 R322). -/
theorem idleSend_effect (s : State) : ∃ l, s.idleSend = s.modLink (fun _ => l)
    ∧ l.idleSent = (s.link.idleSent + 1) % 2 ^ 32 ∧ l.wire = (s.putColumn fun _ => controlBlock 0x1E 0).link.wire := by
  obtain ⟨x, w, p, h⟩ := putColumn_eq (fun _ => controlBlock 0x1E 0) s
  rw [idleSend, h]
  exact ⟨_, rfl, rfl, rfl⟩

/-- A LINK block that goes out (spec 14 R327). -/
theorem sendLink_effect (nak : Bool) (s : State) : ∃ l, s.sendLink nak = s.modLink (fun _ => l)
    ∧ l.linkSent = (s.link.linkSent + 1) % 2 ^ 32 ∧ l.needAck = (if nak then s.link.needAck else false)
    ∧ l.nakAt = (if nak then some s.now else s.link.nakAt) ∧ l.rxSeq = s.link.rxSeq
    ∧ (l.links.getLast?.map fun x => (x.1, x.2.1))
      = some (if nak then s.link.rxSeq else (s.link.rxSeq + 4095) % 4096, nak) := by
  unfold sendLink
  dsimp only
  obtain ⟨x, w, p, h⟩ := putStream_eq [(true, controlBlock 0x55
    ((if nak then s.link.rxSeq else (s.link.rxSeq + 4095) % 4096) + flagBit 12 nak + s.grant * 2 ^ 37))] (s.modLink fun l =>
    { l with
      rxGranted := s.grant, linkSent := (l.linkSent + 1) % 2 ^ 32, needAck := if nak then l.needAck else false
      nakAt := if nak then some s.now else l.nakAt
      links := recent 16 (l.links ++ [(if nak then s.link.rxSeq else (s.link.rxSeq + 4095) % 4096, nak, s.grant)]) })
  rw [h]
  exact ⟨_, rfl, rfl, rfl, rfl, rfl, congrArg (Option.map fun x : Nat × Bool × Nat => (x.1, x.2.1)) (recent_concat (n := 16) (by decide) _ _)⟩

/-- A NAK is repeated once it has stood for 10 us (spec 14 R327). -/
theorem repeatNak_of_due {a : Tick} {s : State} (hactive : s.link.state = .active) (ha : s.link.nakAt = some a)
    (hd : a + us 10 ≤ s.now) : s.repeatNak = s.sendLink true := by
  rw [repeatNak, hactive, ha, Option.any_some, decide_eq_true rfl, decide_eq_true hd, Bool.and_self, cond_eq, if_pos rfl]

/-! ## Acknowledgements -/

theorem retireHandles_eq (hs : List Nat) (s : State) : ∃ d, s.retireHandles hs = s.modDist fun _ => d := by
  rw [retireHandles, cond_eq]
  split
  · exact ⟨_, rfl⟩
  · exact ⟨s.dist, rfl⟩

/-- The frames up to a number leave the replay store (spec 14 R327). -/
theorem ackFrames_effect (n : Nat) (s : State) : ∃ l d, s.ackFrames n = { s with link := l, dist := d }
    ∧ l.unacked = s.link.unacked.filter (fun f => decide (0 < serial12 f.seq n)) ∧ l.credits = s.link.credits
    ∧ l.state = s.link.state := by
  unfold ackFrames
  dsimp only
  obtain ⟨d, h⟩ := retireHandles_eq _ (s.modLink fun l => { l with
    unacked := l.unacked.filter fun f => !decide (serial12 f.seq n ≤ 0)
    replay := l.replay.filter fun f => !decide (serial12 f.seq n ≤ 0)
    nakIn := l.nakIn.filter fun x => decide (0 < serial12 x.1 n) })
  refine ⟨_, d, h, List.filter_congr fun f _ => ?_, rfl, rfl⟩
  simp only [← decide_not, not_le]

/-! ## Frames in -/

theorem countInvalid_eq (f : FrameIn) (s : State) : ∃ v, s.countInvalid f = s.modLink fun l => { l with invalid := v } := by
  refine each_rel (R := fun s u => ∃ v, u = s.modLink fun l => { l with invalid := v }) (fun s => ⟨s.link.invalid, rfl⟩) ?trans
    (fun b s => ⟨_, rfl⟩) _ s
  rintro a _ _ ⟨_, rfl⟩ ⟨v, rfl⟩
  exact ⟨v, rfl⟩

/-- Entries arrive behind those of the intake where no doorbell rang in the same cycle. -/
theorem arrive_of_alone (es : List (Nat × Hdr)) {s : State} (h : ∀ a ∈ s.dist.intake, a.at_ ≠ s.now ∨ a.hdr.path = .link) :
    s.arrive es = s.modDist fun d => { d with
      intake := d.intake ++ es.map fun e => ⟨e.1, e.2, s.now⟩, frames := d.frames ++ [es.length] } := by
  have halone : ∀ a ∈ s.dist.intake, (decide (a.at_ = s.now) && decide (a.hdr.path ≠ .link)) = false := by
    simpa [← not_or, imp_iff_not_or] using h
  have hothers : s.dist.intake.filter (fun a => !(decide (a.at_ = s.now) && decide (a.hdr.path ≠ .link))) = s.dist.intake :=
    List.filter_eq_self.mpr fun a ha => by rw [halone a ha]; rfl
  have hsame : s.dist.intake.filter (fun a => decide (a.at_ = s.now) && decide (a.hdr.path ≠ .link)) = [] :=
    List.filter_eq_nil_iff.mpr fun a ha => ne_true_of_eq_false (halone a ha)
  simp only [arrive, modDist, hothers, hsame, List.append_nil]

section
variable {s u : State} {f : FrameIn} (hu : s.countInvalid f = u) (hactive : u.link.state = .active)
include hu hactive

/-- A class-3 frame in order is accepted with its entries (spec 14 R325, R331). -/
theorem receiveFrame_in_order {t : Tick} (ht : u.now = t) (hg : f.good = true) (hs : f.seq = u.link.rxSeq) (hc : f.cls = 3)
    (hgrant : 0 < serial12 u.link.rxGranted u.link.rxAccepted)
    (halone : ∀ a ∈ u.dist.intake, a.at_ ≠ t ∨ a.hdr.path = .link)
    (hfront : ∀ a : Arrival, (u.dist.intake ++ (f.take u.link.entry).1.map fun e => (⟨e.1, e.2, t⟩ : Arrival)).head? = some a →
      opKnown a.op a.hdr.path = true) :
    s.receiveFrame f = (u.modLink fun l => { l with
      rxSeq := (l.rxSeq + 1) % 4096, rxAccepted := (l.rxAccepted + 1) % 4096, needAck := true, nakAt := none
      nakLast := none, entry := (f.take u.link.entry).2 }).modDist fun d => { d with
        intake := d.intake ++ (f.take u.link.entry).1.map fun e => ⟨e.1, e.2, t⟩
        frames := d.frames ++ [(f.take u.link.entry).1.length] } := by
  subst ht
  unfold receiveFrame
  dsimp only
  rw [hu, if_neg (not_not.mpr hactive), if_pos (by simpa [hg] using hs), if_neg (by simpa [hc] using hgrant),
    arrive_of_alone _ (by exact halone)]
  exact answerFronts_of_known (by exact hfront)

/-- A frame out of order asks for a replay (spec 14 R327). -/
theorem receiveFrame_out_of_order (hs : f.seq ≠ u.link.rxSeq) (hn : u.link.nakAt = none) :
    s.receiveFrame f = (u.sendLink true).modLink fun l => { l with nakLast := some f.seq } := by
  unfold receiveFrame
  dsimp only
  rw [hu, if_neg (not_not.mpr hactive), if_neg (by simp [hs]), hn, Option.isNone_none, Bool.true_or, Bool.true_or, cond_eq,
    if_pos rfl]

end

/-! ## Frames out -/

/-- A new frame stands last among those not acknowledged and those sent. -/
theorem transmit_effect (cls first : Nat) (payload : List Byte) (handles : List Nat) (s : State) :
    ∃ l f, s.transmit cls first payload handles = s.modLink (fun _ => l) ∧ l.txSeq = (s.link.txSeq + 1) % 4096
      ∧ l.unacked = s.link.unacked ++ [f] ∧ f.cls = cls ∧ f.seq = s.link.txSeq ∧ f.at_ = s.now ∧ l.out.getLast? = some f := by
  unfold transmit
  dsimp only
  obtain ⟨x, w, p, h⟩ := putStream_eq (frameBlocks (frameBytes cls s.link.txSeq first payload)) (s.modLink fun l => { l with
    txSeq := (l.txSeq + 1) % 4096
    unacked := l.unacked ++ [⟨s.link.txSeq, cls, frameBytes cls s.link.txSeq first payload, s.now, handles⟩]
    out := recent 16 (l.out ++ [⟨s.link.txSeq, cls, frameBytes cls s.link.txSeq first payload, s.now, handles⟩]) })
  rw [h]
  exact ⟨_, _, rfl, rfl, rfl, rfl, rfl, rfl, recent_concat (n := 16) (by decide) _ _⟩

theorem chainStep_eq (cls : Nat) (bytes : List Byte) (s : State) : ∃ r, s.chainStep cls bytes = s.modTrust fun _ => r := by
  unfold chainStep
  split
  · exact ⟨s.trust, rfl⟩
  · exact ⟨_, rfl⟩

theorem chainSteps_eq (cls : Nat) (l : List Rec) (s : State) : ∃ r,
    (s.each l fun x s => s.chainStep cls x.bytes) = s.modTrust fun _ => r := by
  refine each_rel (R := fun s u => ∃ r, u = s.modTrust fun _ => r) (fun s => ⟨s.trust, rfl⟩) ?trans
    (fun x s => chainStep_eq cls x.bytes s) l s
  rintro a _ _ ⟨_, rfl⟩ ⟨r, rfl⟩
  exact ⟨r, rfl⟩

/-- A class-0 frame goes out in the next number's frame (spec 14 R324, R332). -/
theorem send0_effect {x : Rec} {rest : List Rec} {s : State} (hq : s.recs.q0 = x :: rest) (hx : x.src ≠ Src.loss)
    (hroom : x.bytes.length ≤ 512) : ∃ l f q r, s.send0 = { s with link := l, recs := { s.recs with q0 := q }, trust := r }
      ∧ q.length < s.recs.q0.length ∧ l.txSeq = (s.link.txSeq + 1) % 4096 ∧ l.unacked = s.link.unacked ++ [f] ∧ f.cls = 0
      ∧ f.seq = s.link.txSeq ∧ f.at_ = s.now ∧ l.out.getLast? = some f := by
  have hfewer := take0_takes_first (rest := rest) 15 hx hroom
  unfold send0
  rw [hq]
  obtain ⟨⟨done, q⟩, htake⟩ : ∃ y, take0 16 512 [] (x :: rest) = y := ⟨_, rfl⟩
  rw [htake] at hfewer ⊢
  dsimp only
  obtain ⟨l, f, h, hseq, hunacked, hcls, hf, hat, hout⟩ := transmit_effect 0 0 (done.flatMap fun x => x.bytes) []
    (s.modRecs fun r => { r with q0 := q })
  obtain ⟨r, hr⟩ := chainSteps_eq 0 done ((s.modRecs fun r => { r with q0 := q }).modLink fun _ => l)
  rw [h, hr]
  exact ⟨l, f, q, r, rfl, hfewer, hseq, hunacked, hcls, hf, hat, hout⟩

theorem sendFrameNext_of_class0 {x : Rec} {rest : List Rec} {s : State} (hactive : s.link.state = .active)
    (hreplay : s.link.replay = []) (hq : s.recs.q0 = x :: rest) (hx : x.src ≠ Src.loss) (hroom : s.replayUsed + 528 ≤ 524288) :
    s.sendFrameNext = s.send0 := by
  rw [sendFrameNext, if_neg (not_not.mpr hactive), if_neg (not_not.mpr hreplay),
    if_pos ⟨by rw [hq, next0_cons hx]; rfl, hroom⟩]

end State

/-- Settles O39: each exchange from what it sends or takes. -/
theorem linkExchangesFrames : Obligations.LinkExchangesFrames := by
  unfold Obligations.LinkExchangesFrames
  intro t s ht hactive
  have hnow : (s.advance t).now = t := max_eq_right ht
  have hactive' : (s.advance t).link.state = .active := hactive
  refine ⟨fun ack c1 c2 c3 => ?block, fun f hg hs hc hgrant halone => ?inOrder, fun f hs hn => ?outOfOrder,
    fun x rest hreplay hq hx hroom hstore => ?class0, fun hstreams halign => ?align, fun hstreams => ?idle, ?link,
    fun a ha hat => ?nak, fun delete => rfl⟩
  case block =>
    obtain ⟨l, d, h, hunacked, hcredits, hstate⟩ := State.ackFrames_effect (ack % 4096) ((s.advance t).modLink fun l => { l with
      credits := [c1 % 4096, c2 % 4096, c3 % 4096], creditsAt := some (s.advance t).now
      creditsWas := if l.creditsAt = some (s.advance t).now then l.creditsWas else l.credits })
    refine ⟨_, congrArg Host.Outcome.next ((if_neg (not_not.mpr hactive')).trans h), hcredits, hunacked, hstate.trans hactive,
      rfl⟩
  case inOrder =>
    intro all hfront
    obtain ⟨v, hv⟩ := State.countInvalid_eq f (s.advance t)
    exact ⟨_, congrArg Host.Outcome.next (State.receiveFrame_in_order hv hactive' hnow hg hs hc hgrant halone hfront), rfl, rfl, rfl, rfl, rfl, rfl, rfl⟩
  case outOfOrder =>
    obtain ⟨v, hv⟩ := State.countInvalid_eq f (s.advance t)
    have h := State.receiveFrame_out_of_order hv hactive' hs hn
    obtain ⟨l, hl, -, -, hnak, hseq, hlast⟩ := State.sendLink_effect true ((s.advance t).modLink fun l => { l with invalid := v })
    rw [hl] at h
    exact ⟨_, congrArg Host.Outcome.next h, hnak.trans (congrArg some hnow), hseq, hlast, rfl⟩
  case class0 =>
    obtain ⟨l, f, q, r, h, hfewer, hseq, hunacked, hcls, hf, hat, hout⟩ := State.send0_effect (s := s.advance t) hq hx hroom
    exact ⟨_, f, congrArg Host.Outcome.next ((State.sendFrameNext_of_class0 hactive' hreplay hq hx hstore).trans h), hseq,
      hunacked, hcls, hf, hat.trans hnow, hout, rfl, rfl, rfl, hfewer, rfl⟩
  case align =>
    obtain ⟨l, h, hsent, hat, hwire⟩ := State.alignSend_effect (s := s.advance t) hstreams fun a ha => by
      rw [hnow]; exact halign a ha
    exact ⟨_, congrArg Host.Outcome.next h, hsent, hat.trans (congrArg some hnow), hwire, rfl⟩
  case idle =>
    obtain ⟨l, h, hsent, hwire⟩ := State.idleSend_effect (s.advance t)
    have hexec : exec (.idleColumnSend t) s = .next ((s.advance t).modLink fun _ => l) :=
      congrArg Host.Outcome.next ((if_pos hstreams).trans h)
    exact ⟨_, hexec, hsent, hwire, rfl⟩
  case link =>
    obtain ⟨l, hl, hsent, hneed, -, -, hlast⟩ := State.sendLink_effect false (s.advance t)
    have hexec : exec (.linkBlockSend t) s = .next ((s.advance t).modLink fun _ => l) :=
      congrArg Host.Outcome.next ((if_pos (decide_eq_true hactive)).trans hl)
    exact ⟨_, hexec, hsent, hneed, hlast, rfl⟩
  case nak =>
    obtain ⟨l, hl, -, -, hnak, -, hlast⟩ := State.sendLink_effect true (s.advance t)
    have h := State.repeatNak_of_due hactive' (a := a) ha (by rw [hnow]; exact hat)
    exact ⟨_, congrArg Host.Outcome.next (h.trans hl), hnak.trans (congrArg some hnow), hlast, rfl⟩

end Sys2Proof.Machine
end

section
/-! PROOFS. The link that leaves ACTIVE (spec 14 R329, R339, R342): RECOVERY at its rate, DOWN, and the records that are lost. -/

namespace Sys2Proof.Machine

namespace Records

/-! ## Losses (spec 13 R317) -/

/-- Runs that close keep what they count. -/
theorem closeRuns_sum {f : LossRun → Nat} (hf : ∀ x, f { x with closed := true } = f x) (r : Records) (p : LossRun → Bool) :
    ((r.closeRuns p).runs.map f).sum = (r.runs.map f).sum := by
  unfold closeRuns
  induction r.runs with
  | nil => rfl
  | cons x l ih =>
    simp only [List.map_append, List.map_map, List.sum_append, List.map_cons, List.sum_cons] at ih ⊢
    cases hc : x.closed <;> cases hp : p x <;> simp [hc, hp, hf] at ih ⊢ <;> omega

theorem closeRuns_length (r : Records) (p : LossRun → Bool) : (r.closeRuns p).runs.length = r.runs.length := by
  simpa using closeRuns_sum (f := fun _ => 1) (fun _ => rfl) r p

theorem sum_modify_succ {f : LossRun → Nat} {g : LossRun → LossRun} (hg : ∀ x, f (g x) = f x + 1) {l : List LossRun} :
    ∀ {k : Nat}, k < l.length → ((l.modify k g).map f).sum = (l.map f).sum + 1 := by
  induction l with
  | nil => exact fun h => absurd h (Nat.not_lt_zero _)
  | cons x l ih =>
    intro k hk
    cases k with
    | zero => simp [hg, Nat.add_right_comm]
    | succ k => simp [ih (Nat.lt_of_succ_lt_succ hk), Nat.add_assoc]

/-- A loss changes the runs alone, of which at most one is new, and one more record is counted. -/
theorem lose_effect (r : Records) (src n cause : Nat) (now : Tick) (field : Nat) (frame : Option Nat) (present : Nat) :
    ∃ l, r.lose src n cause now field frame present = { r with runs := l }
      ∧ (l.map fun x => x.count).sum = (r.runs.map fun x => x.count).sum + 1 ∧ l.length ≤ r.runs.length + 1 := by
  unfold lose
  split
  case isTrue h =>
    obtain ⟨x, hx, htakes⟩ := List.any_eq_true.mp h
    refine ⟨_, rfl, sum_modify_succ (fun _ => rfl) (List.findIdx_lt_length.mpr ⟨x, hx, htakes⟩), ?_⟩
    rw [List.length_modify]
    exact Nat.le_succ _
  case isFalse =>
    refine ⟨_, rfl, ?_, ?_⟩
    · simp only [List.map_append, List.sum_append]
      rw [closeRuns_sum (fun _ => rfl)]
      rfl
    · rw [List.length_append, closeRuns_length]
      exact le_rfl

theorem not_heldOpen_of_few {r : Records} (h : r.runs.length < 4) (src : Nat) : r.heldOpen src = false := by
  have hle : (r.runsOf src).length ≤ r.runs.length := List.length_filter_le ..
  exact decide_eq_false (by omega)

end Records

namespace State

/-- Records none of which a frame holds are all lost, while few runs are open (spec 14 R342). -/
theorem discardQueue_effect (q : List Rec) (h : ∀ x ∈ q, x.sent = 0) : ∀ s : State, s.recs.runs.length + q.length ≤ 4 →
    ∃ l, s.discardQueue q = ([], s.modRecs fun r => { r with runs := l })
      ∧ (l.map fun x => x.count).sum = (s.recs.runs.map fun x => x.count).sum + q.length := by
  unfold discardQueue
  induction q with
  | nil => exact fun s _ => ⟨s.recs.runs, rfl, rfl⟩
  | cons x q ih =>
    intro s hfew
    rw [List.length_cons] at hfew
    have hopen := Records.not_heldOpen_of_few (r := s.recs) (by omega) x.src
    obtain ⟨l, hl, hsum, hlen⟩ := Records.lose_effect s.recs x.src x.seq 6 s.now (s.devField s.now) x.frame s.lineTime.frame
    obtain ⟨l', h', hsum'⟩ := ih (fun y hy => h y (List.mem_cons_of_mem _ hy)) (s.modRecs fun r => { r with runs := l })
      (by change l.length + q.length ≤ 4; omega)
    refine ⟨l', ?_, hsum'.trans ?_⟩
    · rw [List.foldl_cons, if_neg (by simp [h x List.mem_cons_self, hopen])]
      exact (congrArg (fun r => List.foldl _ (([] : List Rec), { s with recs := r }) q) hl).trans h'
    · change (l.map fun x => x.count).sum + q.length = _
      rw [List.length_cons]
      omega

/-! ## RECOVERY and DOWN -/

/-- RECOVERY is entered at a rate, with every frame that is not acknowledged (spec 14 R339). -/
theorem enterRecovery_at (lanes : BitVec 8) (r : Nat) (s : State) : ∃ l, Relinked s l (s.enterRecovery lanes (some r))
    ∧ l.state = .recovery ∧ l.stage = .train ∧ l.rate = r ∧ l.unacked = s.link.unacked ∧ l.recoverAt = s.now := by
  obtain ⟨l, hl, hstate, hcarried⟩ := setLink_took .recovery s
  have hentered := hl.modLink fun l => { l with
    recoverAt := s.now, replay := [], nakIn := none, nakAt := none }
  obtain ⟨u, hu⟩ : ∃ u, u = (s.setLink .recovery).modLink fun l => { l with
    recoverAt := s.now, replay := [], nakIn := none, nakAt := none } := ⟨_, rfl⟩
  rw [← hu] at hentered
  have henter : s.enterRecovery lanes (some r) = u.startTrain lanes (some r) := by rw [hu]; rfl
  obtain ⟨l', hl', hstate', hstage, -, hrate, hat, hsame⟩ := startTrain_recovery (s := u) lanes r
    (by rw [hentered.link]; exact hstate)
  rw [hentered.link] at hat hsame
  rw [henter, hl']
  exact ⟨l', hentered.modLink fun _ => l', hstate', hstage, hrate, hsame.trans (congrArg Link.unacked hcarried :), hat⟩

/-- A lane of the present group that has lost its lock leads to RECOVERY at the present rate (spec 14 R339, R340). -/
theorem laneLost_effect (lane : Nat) (s : State) : ∃ l r c i,
    s.laneLost lane = { s with link := l, recs := r, nvCtl := c, side := i } ∧ l.state = .recovery ∧ l.stage = .train
      ∧ l.rate = s.link.rate ∧ l.unacked = s.link.unacked ∧ l.recoverAt = s.now := by
  obtain ⟨l, ⟨r, c, i, hu⟩, h⟩ := enterRecovery_at (groupMask s.link.width s.link.first) s.link.rate (s.modLink fun l => { l with
    rxLocked := l.rxLocked &&& ~~~ BitVec.ofNat 8 (2 ^ lane) })
  exact ⟨l, r, c, i, hu, h⟩

theorem linkDown_effect {s : State} (hr : s.link.retrain = none) : ∃ l, Relinked s l s.linkDown ∧ l.state = .down := by
  obtain ⟨l, hl, hstate, -⟩ := setLink_took .down s
  have hdown : s.linkDown = (s.setLink .down).modLink fun l => { l with
      stage := .down, width := 0, first := 0, retrain := none, test := none } := by
    simp only [linkDown, hr]
  rw [hdown]
  exact ⟨_, hl.modLink _, hstate⟩

theorem queueManifests_of_none {s : State} (h : s.trust.prep = []) : s.queueManifests = s := by
  rw [queueManifests, h]
  rfl

/-- 1 ms after ACTIVE what waits in class 1 and is not begun is lost (spec 14 R342). -/
theorem recoveryDiscard_effect {a : Tick} {s : State} (hstate : s.link.state ≠ .active) (hd : s.link.discarded = false)
    (ha : s.link.leftAt = some a) (hdue : a + us 1000 ≤ s.now) (hprep : s.trust.prep = []) (hruns : s.recs.runs = [])
    (h2 : s.recs.q2 = []) (h1 : ∀ x ∈ s.recs.q1, x.sent = 0) (hfew : s.recs.q1.length ≤ 4) :
    ∃ l, s.recoveryDiscard = (s.modRecs fun r => { r with runs := l, q1 := [], q2 := [] }).modLink (fun l => { l with
      discarded := true }) ∧ (l.map fun x => x.count).sum = s.recs.q1.length := by
  obtain ⟨l, hl, hsum⟩ := discardQueue_effect s.recs.q1 h1 s (by rw [hruns]; simpa using hfew)
  refine ⟨l, ?_, by simpa [hruns] using hsum⟩
  have hclass2 : (s.modRecs fun r => { r with runs := l }).discardQueue (s.modRecs fun r => { r with runs := l }).recs.q2
      = ([], s.modRecs fun r => { r with runs := l }) := by
    change discardQueue s.recs.q2 _ = _
    rw [h2]
    rfl
  have hgone : ¬(s.link.state = .active ∨ s.link.discarded ∨ !s.link.leftAt.any fun a => decide (a + us 1000 ≤ s.now)) := by
    rw [hd, ha, Option.any_some, decide_eq_true hdue]
    simp [hstate]
  unfold recoveryDiscard
  rw [if_neg hgone, hl]
  dsimp only
  rw [hclass2]
  exact queueManifests_of_none hprep

end State

/-- Settles O40: RECOVERY from the entry into it, and the losses from one record after another. -/
theorem linkRecoversOrGoesDown : Obligations.LinkRecoversOrGoesDown := by
  unfold Obligations.LinkRecoversOrGoesDown
  intro t s ht
  have hnow : (s.advance t).now = t := max_eq_right ht
  refine ⟨fun lane invalid hactive hlane hgroup hinvalid => ?lane, fun f rest hactive hunacked hat => ?replay,
    fun hrecovery hat hretrain => ?down, fun a src hstate hd ha hat hprep hruns h2 h1 hfew => ?discard⟩
  case lane =>
    obtain ⟨l, r, c, i, hu, hstate, hstage, hrate, hsame, hrecover⟩ := State.laneLost_effect lane (s.advance t)
    have hlost : (decide ((s.advance t).link.state = .active) && (s.advance t).laneIn lane && decide (16 ≤ invalid)) = true := by
      rw [decide_eq_true (show (s.advance t).link.state = .active from hactive), decide_eq_true hinvalid, Bool.and_true,
        Bool.true_and]
      exact Bool.and_eq_true_iff.mpr ⟨hgroup, decide_eq_true hlane⟩
    have hexec : exec (.laneLoss t ⟨lane, invalid⟩) s = .next ((s.advance t).laneLost lane) :=
      congrArg Host.Outcome.next (if_pos hlost)
    rw [hu] at hexec
    exact ⟨_, hexec, hstate, hstage, hrate, hsame, hrecover.trans hnow, rfl⟩
  case replay =>
    obtain ⟨l, ⟨r, c, i, hu⟩, hstate, -, -, hsame, -⟩ := State.enterRecovery_at (groupMask s.link.width s.link.first) s.link.rate
      (s.advance t)
    have htimeout : (s.advance t).replayTimeout = (s.advance t).recoverLink := by
      have hfirst : (s.advance t).link.unacked = f :: rest := hunacked
      rw [State.replayTimeout, hfirst]
      exact if_pos (Bool.and_eq_true_iff.mpr ⟨decide_eq_true hactive, decide_eq_true (by rw [hnow]; exact hat)⟩)
    exact ⟨_, congrArg Host.Outcome.next (htimeout.trans hu), hstate, hsame, rfl⟩
  case down =>
    obtain ⟨l, ⟨r, c, i, hu⟩, hstate⟩ := State.linkDown_effect (s := s.advance t) hretrain
    have hends : (s.advance t).recoveryEnds = (s.advance t).linkDown :=
      if_pos (Bool.and_eq_true_iff.mpr ⟨decide_eq_true hrecovery, decide_eq_true (by rw [hnow]; exact hat)⟩)
    exact ⟨_, congrArg Host.Outcome.next (hends.trans hu), hstate, rfl⟩
  case discard =>
    obtain ⟨l, hu, hsum⟩ := State.recoveryDiscard_effect (s := s.advance t) hstate hd ha (by rw [hnow]; exact hat) hprep hruns h2
      (fun x hx => (h1 x hx).1) (hfew.trans (by decide))
    exact ⟨_, congrArg Host.Outcome.next hu, rfl, rfl, rfl, rfl, hsum, rfl⟩

end Sys2Proof.Machine
end

section
/-! PROOFS. Bring-up of the link (spec 14 R321, R322, R334-R336, R340, R343): each stage from the change of state that ends it. -/

namespace Sys2Proof.Machine

/-- The bits of a lane's mask. -/
theorem laneBit_getLsbD : ∀ i < 8, ∀ j < 8, (BitVec.ofNat 8 (2 ^ i)).getLsbD j = decide (i = j) := by decide

section
variable {lane i : Nat} (hlane : lane < 8) (hi : i < 8) (b : BitVec 8)
include hlane hi

theorem laneSet_getLsbD : (b ||| BitVec.ofNat 8 (2 ^ lane)).getLsbD i = (b.getLsbD i || decide (lane = i)) := by
  rw [BitVec.getLsbD_or, laneBit_getLsbD lane hlane i hi]

theorem laneClear_getLsbD : (b &&& ~~~ BitVec.ofNat 8 (2 ^ lane)).getLsbD i = (b.getLsbD i && !decide (lane = i)) := by
  rw [BitVec.getLsbD_and, BitVec.getLsbD_not, laneBit_getLsbD lane hlane i hi, decide_eq_true hi, Bool.true_and]

end

/-- A lane's bit that is set or cleared shows what it was set to, and the others stay. -/
theorem laneMask_getLsbD {lane : Nat} (hlane : lane < 8) (on : Bool) (b : BitVec 8) :
    (if on then b ||| BitVec.ofNat 8 (2 ^ lane) else b &&& ~~~ BitVec.ofNat 8 (2 ^ lane)).getLsbD lane = on
      ∧ ∀ i, i < 8 → i ≠ lane →
        (if on then b ||| BitVec.ofNat 8 (2 ^ lane) else b &&& ~~~ BitVec.ofNat 8 (2 ^ lane)).getLsbD i = b.getLsbD i := by
  cases on
  · refine ⟨?_, fun i hi hne => ?_⟩
    · exact (laneClear_getLsbD hlane hlane b).trans (by simp)
    · exact (laneClear_getLsbD hlane hi b).trans (by simp [Ne.symm hne])
  · refine ⟨?_, fun i hi hne => ?_⟩
    · exact (laneSet_getLsbD hlane hlane b).trans (by simp)
    · exact (laneSet_getLsbD hlane hi b).trans (by simp [Ne.symm hne])

namespace State

section
variable {s : State}

/-! ## DETECT and TRAIN -/

theorem linkDetect_effect (s : State) : ∃ l, Relinked s l s.linkDetect ∧ l.state = .detect ∧ l.detected = 0 ∧ l.test = none := by
  obtain ⟨l, hl, hstate, -⟩ := setLink_took .detect s
  unfold linkDetect
  exact ⟨_, hl.modLink _, hstate, rfl, rfl⟩

theorem toStage_took (st : LinkState) (hs : s.link.state ≠ .recovery) : Took st s (s.toStage st) := by
  rw [toStage, if_neg hs]
  exact setLink_took st s

/-- TRAIN starts on its lanes at its rate (spec 14 R335). -/
theorem startTrain_at (lanes : BitVec 8) (r : Nat) (hs : s.link.state ≠ .recovery) : ∃ l,
    Relinked s l (s.startTrain lanes (some r)) ∧ l.state = .train ∧ l.detected = s.link.detected ∧ l.lanes = lanes ∧ l.rate = r
      ∧ l.locked = 0 := by
  obtain ⟨g, hg⟩ : ∃ g : Link → Link, g = fun l => { l with
      rate := r, lanes := lanes, locked := 0, capMask := 0, caps := [], disagreed := false, aligned := false
      rxLocked := if l.rate = r ∧ l.state = .recovery then l.rxLocked else 0
      peerLocked := 0, alignAt := none, streamPos := 0 } := ⟨_, rfl⟩
  obtain ⟨l, hl, hstate, hcarried⟩ := toStage_took (s := s.modLink g) .train (by rw [hg]; exact hs)
  obtain ⟨x, w, h⟩ := putTrain_eq ((List.range 8).filter fun i => lanes.getLsbD i) ((s.modLink g).toStage .train)
  have hstart : s.startTrain lanes (some r) = ((s.modLink g).toStage .train).modLink fun l => { l with
      scramblers := x, wire := w } := by
    rw [← h, hg]
    rfl
  rw [hstart]
  subst hg
  exact ⟨_, Relinked.modLink hl _, hstate, (congrArg Link.detected hcarried :), (congrArg Link.lanes hcarried :),
    (congrArg Link.rate hcarried :), (congrArg Link.locked hcarried :)⟩

/-- TRAIN ends with the width that its lanes allow (spec 14 R321, R335). -/
theorem endTrain_effect {w f : Nat} (hs : s.link.state ≠ .recovery)
    (hp : pickGroup (s.link.locked &&& s.link.lanes) = some (w, f)) : ∃ l, Relinked s l s.endTrain ∧ l.state = .deskew
      ∧ l.width = w ∧ l.first = f ∧ l.rate = s.link.rate := by
  obtain ⟨l, hl, hstate, hcarried⟩ := toStage_took (s := s.modLink fun l => { l with width := w, first := f }) .deskew hs
  have hends : s.endTrain = (s.modLink fun l => { l with width := w, first := f }).toStage .deskew := by
    rw [endTrain, hp]
  rw [hends]
  exact ⟨l, hl, hstate, (congrArg Link.width hcarried :), (congrArg Link.first hcarried :), (congrArg Link.rate hcarried :)⟩

/-! ## DESKEW and EXCHANGE -/

/-- Columns within 96 ns of skew end DESKEW (spec 14 R322). -/
theorem alignLanes_effect {skew : Nat} (count : Nat) (hs : s.link.state = .deskew) (hst : s.link.stage = .deskew)
    (hskew : skew ≤ 96000) : ∃ l, Relinked s l (s.alignLanes skew count) ∧ l.state = .exchange ∧ l.aligned = true
      ∧ l.alignCount = count % 65536 ∧ l.rxAccepted = 0 := by
  obtain ⟨l, hl, hstate, hcarried⟩ := toStage_took (s := s.modLink fun l => { l with
    aligned := true, alignCount := count % 65536 }) .exchange (by rw [show State.link _ = _ from rfl]; simp [modLink, hs])
  obtain ⟨u, hu⟩ : ∃ u, u = (s.modLink fun l => { l with aligned := true, alignCount := count % 65536 }).toStage .exchange :=
    ⟨_, rfl⟩
  rw [← hu] at hl
  have hnew : u.cond (u.link.state ≠ .recovery) grantAnew = u.grantAnew := if_pos (by simp [hl.link, hstate])
  obtain ⟨g, hg⟩ : ∃ g, u.grantAnew = u.modLink fun l => { l with rxAccepted := 0, rxGranted := g } := ⟨_, rfl⟩
  obtain ⟨x, w, p, hput⟩ := putStream_eq ((List.range 16).map fun i =>
    (true, controlBlock 0x78 (i + 16 * u.grantAnew.capContent i))) u.grantAnew
  have halign : s.alignLanes skew count = (u.modLink fun l => { l with rxAccepted := 0, rxGranted := g }).modLink fun l =>
      { l with scramblers := x, wire := w, streamPos := p } := by
    unfold alignLanes
    rw [if_pos hst, if_neg (by omega), ← hg, ← hput, ← hnew, hu]
    rfl
  rw [halign]
  exact ⟨_, (Relinked.modLink hl _).modLink _, hstate, (congrArg Link.aligned hcarried :),
    (congrArg Link.alignCount hcarried :), rfl⟩

/-- Acknowledged frames leave nothing else changed. -/
theorem ackFrames_eq (n : Nat) (s : State) : ∃ x y z d, s.ackFrames n = { s with
    link := { s.link with unacked := x, replay := y, nakIn := z }, dist := d } := by
  unfold ackFrames
  dsimp only
  obtain ⟨d, h⟩ := retireHandles_eq ((s.link.unacked.filter fun f => decide (serial12 f.seq n ≤ 0)).flatMap fun f => f.handles)
    (s.modLink fun l => { l with
      unacked := l.unacked.filter fun f => !decide (serial12 f.seq n ≤ 0)
      replay := l.replay.filter fun f => !decide (serial12 f.seq n ≤ 0)
      nakIn := l.nakIn.filter fun x => decide (0 < serial12 x.1 n) })
  exact ⟨_, _, _, d, h⟩

/-- The link becomes ACTIVE after a bring-up: its counts start anew (spec 14 R329, R330). -/
theorem linkActive_effect (hs : s.link.state ≠ .recovery) (hr : s.link.retrain = none) (ht : s.link.tested = none) :
    ∃ k l d r c i, s.linkActive = { s with clock := k, link := l, dist := d, recs := r, nvCtl := c, side := i }
      ∧ l.state = .active ∧ l.sent = [0, 0, 0] ∧ l.rxAccepted = s.link.rxAccepted ∧ l.rate = s.link.rate
      ∧ l.width = s.link.width := by
  obtain ⟨l, hl, hstate, hcarried⟩ := setLink_took .active s
  unfold linkActive
  rw [hr, ht]
  dsimp only
  obtain ⟨u, hu⟩ : ∃ u, u = (s.setLink .active).modLink fun l => if s.link.state = .recovery then { l with stage := .active }
    else { l with
      stage := .active, creditsAt := none
      credits := [bits (Store.read 0 s.link.caps 5).toNat 0 12, bits (Store.read 0 s.link.caps 5).toNat 12 12,
        bits (Store.read 0 s.link.caps 5).toNat 24 12], sent := [0, 0, 0], visit := (1, 0) } := ⟨_, rfl⟩
  rw [← hu]
  have hnew := hl.modLink fun l => if s.link.state = .recovery then { l with stage := .active }
    else { l with
      stage := .active, creditsAt := none
      credits := [bits (Store.read 0 s.link.caps 5).toNat 0 12, bits (Store.read 0 s.link.caps 5).toNat 12 12,
        bits (Store.read 0 s.link.caps 5).toNat 24 12], sent := [0, 0, 0], visit := (1, 0) }
  rw [← hu, if_neg hs] at hnew
  obtain ⟨x, y, z, d, hack⟩ : ∃ x y z d, u.cond ((Store.read 0 s.link.caps 6).toNat.testBit 12)
      (ackFrames (bits (Store.read 0 s.link.caps 6).toNat 0 12)) = { u with
        link := { u.link with unacked := x, replay := y, nakIn := z }, dist := d } := by
    rw [cond_eq]
    split
    · exact ackFrames_eq ..
    · exact ⟨u.link.unacked, u.link.replay, u.link.nakIn, u.dist, rfl⟩
  rw [hack]
  obtain ⟨r, c, i, rfl⟩ := hnew
  exact ⟨_, _, _, _, _, _, rfl, hstate, rfl, (congrArg Link.rxAccepted hcarried :), (congrArg Link.rate hcarried :),
    (congrArg Link.width hcarried :)⟩

theorem capBlock_of_last {i : Nat} {v : BitVec 48} (hst : s.link.stage = .exchange) (hi : i < 16) (h0 : i ≠ 0) (h3 : i ≠ 3)
    (hm : s.link.capMask ||| BitVec.ofNat 16 (2 ^ i) = 0xFFFF) : s.capBlock i v = (s.modLink fun l => { l with
      caps := Store.write 0 l.caps i v, capMask := l.capMask ||| BitVec.ofNat 16 (2 ^ i) }).linkActive := by
  unfold capBlock
  rw [if_neg (by simp [hst]; omega)]
  dsimp only
  rw [if_neg (by simp [h0]), if_neg (by simp [h3]), cond_eq]
  exact if_pos (decide_eq_true hm)

/-! ## TRAIN blocks -/

/-- A TRAIN block shows the peer's rates and its lock on the lane (spec 14 R335, R340). -/
theorem peerShows_effect {lane : Nat} (hlane : lane < 8) (locked : Bool) (rates : BitVec 3) (s : State) : ∃ l,
    s.peerShows lane locked rates = s.modLink (fun _ => l) ∧ l.peerRates = rates ∧ l.peerLocked.getLsbD lane = locked
      ∧ l.rxLocked.getLsbD lane = true ∧ ∀ i, i < 8 → i ≠ lane → l.peerLocked.getLsbD i = s.link.peerLocked.getLsbD i := by
  obtain ⟨hown, hothers⟩ := laneMask_getLsbD hlane locked s.link.peerLocked
  have hrx : (s.link.rxLocked ||| BitVec.ofNat 8 (2 ^ lane)).getLsbD lane = true :=
    (laneSet_getLsbD hlane hlane _).trans (by simp)
  unfold peerShows
  dsimp only
  rw [cond_eq]
  split
  · exact ⟨_, rfl, rfl, hown, hrx, hothers⟩
  · exact ⟨_, rfl, rfl, hown, hrx, hothers⟩

/-! ## TEST -/

/-- A test that has run its time leads to DETECT (spec 14 R343). -/
theorem linkTestEnd_effect {results : List (List Nat)} {h : Nat} {e : Tick} {x : List LaneTest}
    (ht : s.link.test = some (h, some e, x)) (he : e ≤ s.now) : ∃ k l d r c i,
      s.linkTestEnd results = { s with clock := k, link := l, dist := d, recs := r, nvCtl := c, side := i }
        ∧ l.state = .detect ∧ l.test = none := by
  unfold linkTestEnd
  rw [ht]
  dsimp only
  rw [if_neg (Nat.not_lt.mpr he)]
  obtain ⟨l, ⟨r, c, i, hu⟩, hstate, -, htest⟩ := linkDetect_effect ((s.draw (2 ^ 512)).2.modLink fun l => { l with
    taps := BitVec.ofNat 512 (s.draw (2 ^ 512)).1 })
  rw [hu]
  split
  · unfold succeed completeWith
    split
    · exact ⟨_, _, s.dist, _, _, _, rfl, hstate, htest⟩
    · exact ⟨_, _, _, _, _, _, rfl, hstate, htest⟩
  · exact ⟨_, _, s.dist, _, _, _, rfl, hstate, htest⟩

end

end State

/-- Settles O38: each stage of bring-up from what ends it. -/
theorem linkBringUpFollows : Obligations.LinkBringUpFollows := by
  unfold Obligations.LinkBringUpFollows
  intro t s ht
  have hnow : (s.advance t).now = t := max_eq_right ht
  refine ⟨fun hs hat hp hpll hd => ?down, fun lanes r hs hat hlanes hr => ?detect,
    fun lane w f hs hst hlane hin hpeer hrx hat hall hp => ?lock, fun w f hs hst hat hp => ?stage,
    fun skew count hs hst hskew => ?align, fun i v hs hst hi h0 h3 hm hr ht => ?cap,
    fun lane locked rates hs hst hlane hin => ?train, fun results h e x htest he hs => ?test⟩
  case down =>
    obtain ⟨l, ⟨r, c, i, hu⟩, hstate, hdetected, -⟩ := State.linkDetect_effect (s.advance t)
    have hends : (s.advance t).downEnds = (s.advance t).linkDetect :=
      if_pos ⟨hs, by rw [hnow]; exact hat, hp, hpll, hd⟩
    have hexec : exec (.downTimeout t) s = .next (s.advance t).linkDetect := congrArg Host.Outcome.next hends
    rw [hu] at hexec
    exact ⟨_, hexec, hstate, hdetected, rfl, rfl⟩
  case detect =>
    obtain ⟨l, ⟨p, c, i, hu⟩, hstate, hdetected, hl, hrate, hlocked⟩ := State.startTrain_at (s := (s.advance t).modLink fun l =>
      { l with detected := lanes }) lanes r (by simp [State.modLink, State.advance, State.modClock, hs])
    have hdone : (s.advance t).detectDone lanes = ((s.advance t).modLink fun l => { l with
        detected := lanes }).startTrain lanes (some r) := by
      have hgo : ¬((s.advance t).link.state ≠ .detect ∨ (s.advance t).now < (s.advance t).link.since + us 100) := by
        rw [hnow]
        exact not_or.mpr ⟨not_not.mpr hs, Nat.not_lt.mpr hat⟩
      have hrate : (s.advance t).rateBelow 3 = some r := hr
      unfold State.detectDone
      rw [if_neg hgo, if_neg hlanes, hrate]
    have hexec : exec (.receiverDetectDone t lanes) s = .next _ := congrArg Host.Outcome.next hdone
    rw [hu] at hexec
    exact ⟨_, hexec, hstate, hdetected, hl, hrate, hlocked, rfl⟩
  case lock =>
    obtain ⟨l, ⟨p, c, i, hu⟩, hstate, hw, hf, hrate⟩ := State.endTrain_effect (w := w) (f := f) (s := (s.advance t).modLink
      fun l => { l with locked := l.locked ||| BitVec.ofNat 8 (2 ^ lane) })
      (by simp [State.modLink, State.advance, State.modClock, hs]) ((congrArg pickGroup hall).trans hp)
    have hgo : ¬((s.advance t).link.stage ≠ .train ∨ !(s.advance t).link.lanes.getLsbD lane
        ∨ !(s.advance t).link.peerLocked.getLsbD lane ∨ !(s.advance t).link.rxLocked.getLsbD lane
        ∨ (s.advance t).now < nth 0 (s.advance t).link.lockAt lane + us 1000) := by
      rw [hnow]
      simp [State.advance, State.modClock, hst, hin, hpeer, hrx, hat]
    have hlocks : (s.advance t).laneLocks lane = ((s.advance t).modLink fun l => { l with
        locked := l.locked ||| BitVec.ofNat 8 (2 ^ lane) }).endTrain := by
      unfold State.laneLocks
      rw [if_neg hgo]
      exact if_pos (decide_eq_true hall)
    have hexec : exec (.laneLock t lane) s = .next _ := congrArg Host.Outcome.next hlocks
    rw [hu] at hexec
    exact ⟨_, hexec, hstate, hw, hf, hrate, rfl⟩
  case stage =>
    obtain ⟨l, ⟨p, c, i, hu⟩, hstate, hw, hf, -⟩ := State.endTrain_effect (s := s.advance t) (w := w) (f := f)
      (by simp [State.advance, State.modClock, hs]) hp
    have hstage : (s.advance t).link.stage = .train := hst
    have hends : (s.advance t).stageTimeout = (s.advance t).endTrain := by
      rw [State.stageTimeout, hstage]
      exact if_pos (decide_eq_true (by rw [hnow]; exact hat))
    have hexec : exec (.bringUpStageTimeout t) s = .next _ := congrArg Host.Outcome.next hends
    rw [hu] at hexec
    exact ⟨_, hexec, hstate, hw, hf, rfl⟩
  case align =>
    obtain ⟨l, ⟨p, c, i, hu⟩, hstate, haligned, hcount, haccepted⟩ := State.alignLanes_effect (s := s.advance t) count hs hst hskew
    exact ⟨_, congrArg Host.Outcome.next hu, hstate, haligned, hcount, haccepted, rfl⟩
  case cap =>
    obtain ⟨k, l, d, r, c, p, hu, hstate, hsent, haccepted, hrate, hwidth⟩ := State.linkActive_effect (s := (s.advance t).modLink
      fun l => { l with caps := Store.write 0 l.caps i v, capMask := l.capMask ||| BitVec.ofNat 16 (2 ^ i) })
      (by simp [State.modLink, State.advance, State.modClock, hs]) hr ht
    have hexec : exec (.capBlock t i v) s = .next _ :=
      congrArg Host.Outcome.next (State.capBlock_of_last (s := s.advance t) hst hi h0 h3 hm)
    rw [hu] at hexec
    exact ⟨_, hexec, hstate, hsent, haccepted, hrate, hwidth, rfl, rfl, rfl, rfl, rfl⟩
  case train =>
    obtain ⟨l, hu, hrates, hlocked, hrx, hothers⟩ := State.peerShows_effect hlane locked rates (s.advance t)
    have hseen : (s.advance t).trainSeen lane locked rates = (s.advance t).peerShows lane locked rates := by
      have hstate : (s.advance t).link.state ≠ .active := by simp [State.advance, State.modClock, hs]
      unfold State.trainSeen
      rw [if_neg hstate]
      exact if_pos (Bool.and_eq_true_iff.mpr ⟨decide_eq_true hst, hin⟩)
    have hexec : exec (.trainBlock t lane locked rates) s = .next _ := congrArg Host.Outcome.next hseen
    rw [hu] at hexec
    exact ⟨_, hexec, hrates, hlocked, hrx, hothers, rfl⟩
  case test =>
    obtain ⟨k, l, d, r, c, i, hu, hstate, hnone⟩ := State.linkTestEnd_effect (s := s.advance t) (results := results) htest
      (by rw [hnow]; exact he)
    exact ⟨_, congrArg Host.Outcome.next hu, hstate, hnone, rfl, rfl, rfl, rfl, rfl⟩

end Sys2Proof.Machine
end

section
/-! PROOFS. Commands that start a measurement (spec 06 R160, 08 R207-R211, 09 R226, R227): each from the start of the command,
which it leaves to wait. -/

namespace Sys2Proof.Machine.State

section
variable {s : State} (h : s.wf = true)
include h

/-- Another input reads as before. -/
theorem aux_modAux_other {i k : Nat} (hk : k ≠ i) (g : Auxf → Auxf) : (s.modAux i g).aux k = s.aux k := by
  simp only [wf, partsWf, Bool.and_eq_true] at h
  obtain ⟨-, ⟨⟨-, hauxf⟩, -⟩, -⟩ := h
  exact Store.read_write_other _ _ none i k _ hauxf hk

/-- A Bobbin slot reads as it was changed, and the channel's other slot as before. -/
theorem bob_modBob {c : Nat} (hb : Store.wf {} (s.chan c).bobs = true) (k j : Nat) (g : BobSlot → BobSlot) :
    (s.modBob c k g).bob c j = if j = k then g (s.bob c k) else s.bob c j := by
  unfold bob modBob
  rw [chan_modChan_same h]
  exact Store.read_modify _ _ _ _ _ hb

theorem chan_modBob_other {c j : Nat} (hj : j ≠ c) (k : Nat) (g : BobSlot → BobSlot) : (s.modBob c k g).chan j = s.chan j :=
  chan_modChan_other h hj _

theorem bobs_wf_modBob {c : Nat} (hb : Store.wf {} (s.chan c).bobs = true) (k : Nat) (g : BobSlot → BobSlot) :
    Store.wf {} ((s.modBob c k g).chan c).bobs = true := by
  unfold modBob
  rw [chan_modChan_same h]
  exact Store.wf_modify _ _ _ _ hb

end

section
variable {s : State} {t : Tick} {h : Hdr}

/-! ## Parameters at a command's start -/

theorem startOf_params (t : Tick) (op : Nat) (h : Hdr) (s : State) : (s.startOf t op h).dist.params = s.dist.params :=
  takeIntake_params (s.advance t)

theorem popt_startOf (t : Tick) (op : Nat) (h : Hdr) (s : State) (id target : Nat) :
    (s.startOf t op h).popt id target = s.popt id target := by
  rw [popt, param, paramAt, startOf_params]
  rfl

theorem modeOf_takeIntake (t : Tick) (s : State) : (s.advance t).takeIntake.modeOf = s.modeOf := by
  funext c
  rw [takeIntake_eq, modeOf, popt_modDist (takeIntake_params _)]
  rfl

/-! ## INJECT (spec 06 R160, R161) -/

theorem exec_inject {input : Nat} (hk : s.takes 0x0601 h = true) (hi : input < 48)
    (hc : ∀ c, s.hk.conv = some c → c.source = 0) :
    exec (.inject t h input) s = .next ((s.startOf t 0x0601 h).injectNow input 1 s.nextHandle) := by
  refine congrArg Host.Outcome.next (command_startOf t hk ?_)
  have hfree : (s.hk.conv.any fun c => decide (c.source ≠ 0)) = false := by
    cases hconv : s.hk.conv with
    | none => rfl
    | some c => simp [hc c hconv]
  rw [takeIntake_eq, if_neg (Nat.not_le.mpr hi)]
  exact if_neg (ne_true_of_eq_false hfree)

/-! ## STATISTICS (spec 08 R207) -/

theorem exec_statistics {kind : StatKind} {order timeout : Nat} (hk : s.takes 0x0801 h = true)
    (hc : s.statCheck kind order timeout = .accepted) :
    exec (.statistics t h kind order timeout) s = .next ((s.startOf t 0x0801 h).modRuns fun l =>
      l ++ [{ handle := s.nextHandle, kind := kind, order := order
              deadline := (s.startOf t 0x0801 h).now + us (1000 * timeout) }]) := by
  refine congrArg Host.Outcome.next (command_startOf t hk ?_)
  have hbad : (s.advance t).takeIntake.badSource = s.badSource := by
    funext x
    cases x with
    | channel c => rw [badSource, modeOf_takeIntake]; rfl
    | _ => rfl
  unfold statCheck at hc ⊢
  rw [hbad, takeIntake_runs]
  exact hc

/-! ## MEASURE FREQUENCY (spec 08 R211) -/

theorem exec_measureFrequency {i gate : Nat} (hk : s.takes 0x0802 h = true) (hi : i < 4) (h0 : 0 < gate) (h1 : gate ≤ 10000)
    (hg : (s.aux i).gate = none) : exec (.measureFrequency t h i gate) s = .next ((s.startOf t 0x0802 h).modAux i fun a =>
      { a with
        gate := some ⟨s.nextHandle, (s.startOf t 0x0802 h).now, if (s.startOf t 0x0802 h).isDriftSource i then 0
          else (s.startOf t 0x0802 h).now + us (1000 * gate), (s.startOf t 0x0802 h).isDriftSource i⟩
        first := none, counted := 0, inGate := 0 }) := by
  refine congrArg Host.Outcome.next (command_startOf t hk ?_)
  have hfree : ((s.advance t).takeIntake.aux i).gate.isSome = false := by
    rw [takeIntake_eq]
    exact congrArg Option.isSome hg
  rw [if_neg (Nat.not_le.mpr hi), if_neg (by omega)]
  exact if_neg (ne_true_of_eq_false hfree)

/-! ## BOBBIN START and BOBBIN FLUSH (spec 09 R226, R227) -/

theorem exec_bobbinStart {c k : Nat} {p : BobbinParams} (hk : s.takes 0x0901 h = true) (hc : s.bobCheck c k p = .accepted) :
    exec (.bobbinStart t h c k p) s = .next ((s.startOf t 0x0901 h).modBob c k fun b => { b with
      state := .collecting, params := some p, handle := s.nextHandle, startedAt := (s.startOf t 0x0901 h).now }) := by
  refine congrArg Host.Outcome.next (command_startOf t hk ?_)
  have hmode := modeOf_takeIntake t s
  rw [bobCheck, hmode, takeIntake_eq]
  exact hc

theorem exec_bobbinFlush {c k : Nat} (hk : s.takes 0x0902 h = true) (hc : c < 256) (hk2 : k < 2)
    (hf : (s.bob c k).flushHandle = none) : exec (.bobbinFlush t h c k) s = .next
      (if ((s.startOf t 0x0902 h).bob c k).state = .idle then (s.startOf t 0x0902 h).succeed s.nextHandle []
        else (((s.startOf t 0x0902 h).bobFinish c k true).modBob c k fun b => { b with
          flushed := true, flushHandle := some s.nextHandle })) := by
  refine congrArg Host.Outcome.next (command_startOf t hk ?_)
  have hfree : ((s.advance t).takeIntake.bob c k).flushHandle.isSome = false := by
    rw [takeIntake_eq]
    exact congrArg Option.isSome hf
  rw [if_neg (by omega)]
  exact if_neg (ne_true_of_eq_false hfree)

/-- What the request for spilled bins leaves of the slot and of the state. -/
theorem askBins_effect {c k : Nat} (hw : s.wf = true) (hb : Store.wf {} (s.chan c).bobs = true) : ∃ x d,
    s.askBins c k = { s with chans := x, dram := d }
      ∧ (s.askBins c k).bob c k = { s.bob c k with back := ((s.askBins c k).bob c k).back }
      ∧ Store.wf {} ((s.askBins c k).chan c).bobs = true
      ∧ ((s.bob c k).spilled = false → s.askBins c k = s)
      ∧ ∀ j, j ≠ c → (s.askBins c k).chan j = s.chan j := by
  unfold askBins
  dsimp only
  rw [cond_eq]
  split
  case isTrue hspilled =>
    obtain ⟨u, hu⟩ : ∃ u, u = s.modBob c k fun y => { y with back := some [] } := ⟨_, rfl⟩
    have hbob : u.bob c k = { s.bob c k with back := some [] } := by rw [hu, bob_modBob hw hb, if_pos rfl]
    obtain ⟨d, hd⟩ := request_onlyDram ((List.range 128).flatMap fun i => readsOf 3 (.bins c k i)
      [s.spillAddr c (16 * i) / 64]) u
    have hdram : (u.modDram fun _ => d).bob c k = { s.bob c k with back := some [] } := hbob
    rw [← hu, hd]
    refine ⟨_, d, by rw [hu]; rfl, ?_, ?_, fun h => ?_, fun j hj => ?_⟩
    · rw [hdram]
    · exact (hu ▸ bobs_wf_modBob hw hb k _ : Store.wf {} (u.chan c).bobs = true)
    · simp [h] at hspilled
    · exact (hu ▸ chan_modBob_other hw hj k _ : u.chan j = s.chan j)
  case isFalse => exact ⟨s.chans, s.dram, rfl, rfl, hb, fun _ => rfl, fun _ _ => rfl⟩

/-- A collecting slot that is told to end asks for its spilled bins, and is partial (spec 09 R227). -/
theorem bobFinish_effect {c k : Nat} (hw : s.wf = true) (hb : Store.wf {} (s.chan c).bobs = true)
    (hs : (s.bob c k).state = .collecting) : ∃ x d, s.bobFinish c k true = { s with chans := x, dram := d }
      ∧ (s.bobFinish c k true).bob c k = { s.bob c k with
        state := .finishing, part := true, back := ((s.bobFinish c k true).bob c k).back }
      ∧ Store.wf {} ((s.bobFinish c k true).chan c).bobs = true
      ∧ ((s.bob c k).spilled = false → ((s.bobFinish c k true).bob c k).back = (s.bob c k).back
        ∧ (s.bobFinish c k true).dram = s.dram)
      ∧ ∀ j, j ≠ c → (s.bobFinish c k true).chan j = s.chan j := by
  obtain ⟨u, hu⟩ : ∃ u, u = s.modBob c k fun b => { b with state := .finishing, part := b.part || true } := ⟨_, rfl⟩
  have hfinish : s.bobFinish c k true = u.askBins c k := by
    rw [bobFinish, cond_eq, if_pos (decide_eq_true hs), hu]
  have hbob : u.bob c k = { s.bob c k with state := .finishing, part := true } := by
    rw [hu, bob_modBob hw hb, if_pos rfl, Bool.or_true]
  have hwu : u.wf = true := hu ▸ wf_modChan hw c _
  obtain ⟨x, d, heq, hask, hwf, hidle, hothers⟩ := askBins_effect (k := k) hwu
    (show Store.wf {} (u.chan c).bobs = true from hu ▸ bobs_wf_modBob hw hb k _)
  rw [hfinish]
  refine ⟨x, d, by rw [heq, hu]; rfl, hask.trans (by rw [hbob]), hwf, fun h => ?_, fun j hj => ?_⟩
  · rw [hidle (by rw [hbob]; exact h)]
    exact ⟨by rw [hbob], by rw [hu]; rfl⟩
  · exact (hothers j hj).trans (hu ▸ chan_modBob_other hw hj k _)

end

end Sys2Proof.Machine.State
end

section
/-! PROOFS. Commands to capture groups, DRAM, bias and the thermal proxy (spec 05 R139, 11 R259-R275, 12 R292, 18 R430): what each
start leaves of its part, and of the rest. -/

namespace Sys2Proof.Machine.State

/-! ## Answers -/

theorem completeWith_eq (handle status detail flags : Nat) (boundary : Option LineTime) (result : List Byte) (s : State) :
    ∃ d, s.completeWith handle status detail flags boundary result = s.modDist fun _ => d := by
  unfold completeWith
  split
  · exact ⟨s.dist, rfl⟩
  · exact ⟨_, rfl⟩

theorem succeed_eq (handle : Nat) (result : List Byte) (s : State) : ∃ d, s.succeed handle result = s.modDist fun _ => d :=
  completeWith_eq ..

theorem failedOpen_eq (handle : Nat) (s : State) : ∃ k d, s.failedOpen handle = { s with clock := k, dist := d } := by
  obtain ⟨d, hd⟩ := completeWith_eq handle 1 (s.draw 65536).1 0 none [] (s.draw 65536).2
  exact ⟨_, d, hd⟩

section
variable {s : State} {t : Tick} {h : Hdr}

/-! ## DRAM RETRAIN (spec 12 R291, R292) -/

/-- Channels that start training, and those that do not. -/
theorem trainAll_effect (l : List Nat) : ∀ {s : State}, Store.wf {} s.dram.chans = true →
    ∃ x, s.each l (fun i => modDramCh i fun d => { d with training := true }) = s.modDram (fun d => { d with chans := x })
      ∧ (∀ i, i ∈ l → (s.each l fun i => modDramCh i fun d => { d with training := true }).dramCh i
        = { s.dramCh i with training := true })
      ∧ ∀ i, i ∉ l → (s.each l fun i => modDramCh i fun d => { d with training := true }).dramCh i = s.dramCh i := by
  induction l with
  | nil => exact fun {s} _ => ⟨s.dram.chans, rfl, fun i hi => absurd hi List.not_mem_nil, fun _ _ => rfl⟩
  | cons j l ih =>
    intro s hw
    obtain ⟨x, heq, hin, hout⟩ := ih (wf_modDramCh hw j fun d => { d with training := true })
    have hread (i : Nat) := dramCh_modDramCh hw j i fun d => { d with training := true }
    refine ⟨x, heq, fun i hi => ?_, fun i hi => ?_⟩
    · by_cases hl : i ∈ l
      · refine (hin i hl).trans ?_
        rw [hread i]
        split
        case isTrue hij => rw [hij]
        case isFalse => rfl
      · have hij : i = j := (List.mem_cons.mp hi).resolve_right hl
        exact (hout i hl).trans ((hread i).trans (by rw [if_pos hij, hij]))
    · obtain ⟨hne, hl⟩ := not_or.mp (fun hor => hi (List.mem_cons.mpr hor))
      exact (hout i hl).trans ((hread i).trans (if_neg hne))

/-- The pass that DRAM RETRAIN starts. -/
def retrainPass (s : State) (n : Nat) (retest : Bool) : TrainPass :=
  ⟨some n, retest, if retest then (List.range 16).filter fun i => s.dramAbsent || (s.dramCh i).mapped.isSome else [], 0, none⟩

theorem startPass_effect (n : Nat) (retest : Bool) (hw : Store.wf {} s.dram.chans = true) :
    ∃ x, s.startPass (some n) retest = s.modDram (fun d => { d with pass := some (s.retrainPass n retest), chans := x })
      ∧ (∀ i, i ∈ (s.retrainPass n retest).startUp →
        (s.startPass (some n) retest).dramCh i = { s.dramCh i with training := true })
      ∧ ∀ i, i ∉ (s.retrainPass n retest).startUp → (s.startPass (some n) retest).dramCh i = s.dramCh i := by
  obtain ⟨x, heq, hin, hout⟩ := trainAll_effect (s.retrainPass n retest).startUp
    (s := s.modDram fun d => { d with pass := some (s.retrainPass n retest) }) hw
  exact ⟨x, heq, hin, hout⟩

/-- Outside DRAM-absent operation a channel is in service. -/
theorem exists_live_of_present (h : s.dramAbsent = false) : ∃ i ∈ List.range 16, (s.dramCh i).mapped.isNone = true := by
  have hlive : s.liveChans ≠ [] := fun hnil => by
    simp [dramAbsent, mappedOut, hnil] at h
  obtain ⟨i, hi⟩ := List.exists_mem_of_ne_nil _ hlive
  exact ⟨i, (List.mem_filter.mp hi).1, (List.mem_filter.mp hi).2⟩

/-- A retest with channels to train, or one outside DRAM-absent operation, does not end at once. -/
theorem endIfDone_of_starting {u : State} {n : Nat} {retest : Bool} (hr : retest = true ∨ s.dramAbsent = false)
    (hu : ∀ i, i ∉ (s.retrainPass n retest).startUp → u.dramCh i = s.dramCh i) :
    u.endIfDone (s.retrainPass n retest) = u := by
  rw [endIfDone, cond_eq]
  refine if_neg fun hdone => ?_
  obtain ⟨hnone, hend⟩ := Bool.and_eq_true_iff.mp hdone
  have hnone := of_decide_eq_true hnone
  have habsent : s.dramAbsent = false := by
    rcases hr with hretest | habsent
    · by_contra hne
      have habsent : s.dramAbsent = true := by simpa using hne
      simp [retrainPass, hretest, habsent] at hnone
    · exact habsent
  have hsame (i : Nat) : u.dramCh i = s.dramCh i := hu i (by rw [hnone]; exact List.not_mem_nil)
  have hpresent : u.dramAbsent = false := (dramAbsent_congr fun i => by rw [hsame]).trans habsent
  obtain ⟨i, hi, hlive⟩ := exists_live_of_present habsent
  have hnext : (u.nextTrain (s.retrainPass n retest)).isNone = false := by
    rw [Option.isNone_eq_false_iff, nextTrain, List.find?_isSome]
    refine ⟨i, hi, ?_⟩
    rw [hsame, hpresent, hlive]
    simp [retrainPass]
  rw [hnext] at hend
  exact absurd hend (by simp [passBlind, retrainPass])

theorem exec_dramRetrain {retest : Bool} (hk : s.takes 0x0C02 h = true) (hc : s.retrainCheck retest = .accepted) :
    exec (.dramRetrain t h retest) s = .next ((s.startOf t 0x0C02 h).retrain retest s.nextHandle) := by
  refine congrArg Host.Outcome.next (command_startOf t hk ?_)
  rw [takeIntake_eq]
  exact hc

theorem retrain_of_starting {n : Nat} {retest : Bool} (hw : Store.wf {} s.dram.chans = true)
    (hr : retest = true ∨ s.dramAbsent = false) : s.retrain retest n = s.startPass (some n) retest := by
  obtain ⟨x, heq, -, hout⟩ := startPass_effect n retest hw
  have hend := endIfDone_of_starting hr hout
  unfold retrain
  rw [heq] at hend ⊢
  exact hend

theorem retrainCheck_pass {retest : Bool} (h : s.retrainCheck retest = .accepted) : s.dram.pass = none := by
  unfold retrainCheck at h
  split at h
  · exact absurd h (by simp)
  · split at h
    · exact absurd h (by simp)
    · split at h
      case isTrue => exact absurd h (by simp)
      case isFalse hp => simpa using hp

/-- In DRAM-absent operation no channel trains but in a retest, and the pass ends at once (spec 12 R292). -/
theorem retrain_of_absent {n : Nat} (ha : s.dramAbsent = true) (hp : s.dram.pass = none) : s.retrain false n
    = s.succeed n (le 2 s.mappedMask ++ (List.range 16).flatMap fun i => trainReport (s.dramCh i)) := by
  have hnext : ((s.modDram fun d => { d with pass := some ⟨some n, false, [], 0, none⟩ }).nextTrain
      ⟨some n, false, [], 0, none⟩).isNone = true := by
    have habsent : (s.modDram fun d => { d with pass := some ⟨some n, false, [], 0, none⟩ }).dramAbsent = true := ha
    simp [nextTrain, habsent]
  have hdone : s.retrain false n = ((s.modDram fun d => { d with pass := some ⟨some n, false, [], 0, none⟩ }).modDram fun d =>
      { d with pass := none }).succeed n (le 2 s.mappedMask ++ (List.range 16).flatMap fun i => trainReport (s.dramCh i)) :=
    if_pos (Bool.and_eq_true_iff.mpr ⟨rfl, Bool.or_eq_true_iff.mpr (.inl hnext)⟩)
  have hback : ((s.modDram fun d => { d with pass := some ⟨some n, false, [], 0, none⟩ }).modDram fun d =>
      { d with pass := none }) = s := by
    unfold modDram
    dsimp only
    rw [← hp]
  rw [hdone, hback]

/-! ## CAPTURE ARM (spec 11 R259-R263, R275) -/

/-- Only captures go from the groups whose regions the new one's meets (spec 11 R275). -/
theorem discardOverlaps_effect (p : CaptureParams) (s : State) : s.discardOverlaps p = { s with
    groups := (s.discardOverlaps p).groups } ∧ (s.wf = true → (s.discardOverlaps p).wf = true
      ∧ ∀ k, ((s.discardOverlaps p).group k).read = (s.group k).read) := by
  refine each_rel (R := fun s u => u = { s with groups := u.groups } ∧ (s.wf = true → u.wf = true
    ∧ ∀ k, (u.group k).read = (s.group k).read)) (fun s => ⟨rfl, fun h => ⟨h, fun _ => rfl⟩⟩) ?trans (fun o s => ?step) _ s
  case trans =>
    rintro a b c ⟨hb, hab⟩ ⟨hc, hbc⟩
    refine ⟨by rw [hc, hb], fun h => ?_⟩
    obtain ⟨hwb, hrb⟩ := hab h
    obtain ⟨hwc, hrc⟩ := hbc hwb
    exact ⟨hwc, fun k => (hrc k).trans (hrb k)⟩
  case step =>
    rw [cond_eq]
    split
    · refine ⟨rfl, fun h => ⟨wf_modGroup h o _, fun k => ?_⟩⟩
      by_cases hk : k = o
      · rw [hk, group_modGroup_same h]
      · rw [group_modGroup_other h hk]
    · exact ⟨rfl, fun h => ⟨h, fun _ => rfl⟩⟩

/-- A read that still runs ends as failed, and its group has none (spec 11 R275). -/
theorem endRead_effect (g : Nat) (s : State) : ∃ k d x m, s.endRead g = { s with clock := k, dist := d, groups := x, dram := m }
    ∧ (s.wf = true → (s.endRead g).wf = true ∧ ((s.endRead g).group g).read = none)
    ∧ ((s.group g).read = none → s.endRead g = s)
    ∧ (∀ j, (s.group g).read = some j → (s.endRead g).liveOf j.handle = none)
    ∧ (∀ n, (∀ j, (s.group g).read = some j → j.handle ≠ n) → Underway n s (s.endRead g)) := by
  unfold endRead
  cases hr : (s.group g).read with
  | none =>
    exact ⟨s.clock, s.dist, s.groups, s.dram, rfl, fun h => ⟨h, hr⟩, fun _ => rfl, fun j hj => absurd hj (by simp),
      fun n _ => .refl s⟩
  | some j =>
    dsimp only
    obtain ⟨k, d, hd⟩ := failedOpen_eq j.handle ((s.discard (readOf g)).modGroup g fun y => { y with read := none })
    refine ⟨k, d, _, _, hd, fun h => ?_, fun h => absurd h (by simp), fun i hi => ?_, fun n hn => ?_⟩
    · have hwd : (s.discard (readOf g)).wf = true := (discard_kept (.refl s)).wf h
      refine ⟨(failedOpen_kept (.refl _)).wf (wf_modGroup hwd g _), ?_⟩
      rw [hd]
      exact congrArg Group.read (group_modGroup_same hwd g fun y => { y with read := none })
    · obtain rfl := Option.some.inj hi
      exact liveOf_completeWith ..
    · have hfailed := failedOpen_underway (hn j rfl) ((s.discard (readOf g)).modGroup g fun y => { y with read := none })
      exact ⟨hfailed.live, hfailed.waiting⟩

theorem exec_captureArm {g : Nat} {p : CaptureParams} (hk : s.takes 0x0B01 h = true) (hc : s.armCheck g p = .accepted) :
    exec (.captureArm t h g p) s = .next ((s.startOf t 0x0B01 h).armGroup g p s.nextHandle) := by
  refine congrArg Host.Outcome.next (command_startOf t hk ?_)
  have hmode := modeOf_takeIntake t s
  have hconflict : (s.advance t).takeIntake.capConflict g p = s.capConflict g p := by
    unfold capConflict
    rw [hmode, takeIntake_eq]
    rfl
  unfold armCheck at hc ⊢
  rw [hconflict, takeIntake_eq]
  exact hc

/-- A group as CAPTURE ARM leaves it. -/
def armed (p : CaptureParams) (live : List Nat) (y : Group) : Group :=
  { y with
    params := some p, capacity := capacityOf p live.length, live := live, armPending := true, segment := 0, trigger := none
    made := 0, missedPost := 0, missedRearm := 0, lastEnd := none, dead := [], dramLost := false, closing := none
    schedDone := false, gaps := [], seen := [], captures := [], missedAt := [], overflowAt := none }

/-- The result of CAPTURE ARM begins with the capacity. -/
theorem armGroup_eq (g : Nat) (p : CaptureParams) (n : Nat) (s : State) : ∃ r, s.armGroup g p n
    = (((s.discardOverlaps p).endRead g).modGroup g (armed p s.liveChans)).succeed n
      (le 4 (capacityOf p s.liveChans.length) ++ r) := ⟨_, rfl⟩

/-! ## CAPTURE STOP (spec 11 R270) -/

theorem exec_captureStop {g : Nat} (hk : s.takes 0x0B02 h = true) (hg : g < 16) (hc : (s.group g).closing = none) :
    exec (.captureStop t h g) s = .next (if (s.startOf t 0x0B02 h).groupBusy g
      then (s.startOf t 0x0B02 h).stopGroup g (some s.nextHandle) 3 else (s.startOf t 0x0B02 h).succeed s.nextHandle []) := by
  refine congrArg Host.Outcome.next (command_startOf t hk ?_)
  have hopen : ((s.advance t).takeIntake.group g).closing.isSome = false := by
    rw [takeIntake_eq]
    exact congrArg Option.isSome hc
  rw [if_neg (Nat.not_le.mpr hg)]
  exact if_neg (ne_true_of_eq_false hopen)

/-- From `s` to `u` only group `g` and counters have moved. -/
structure GroupMoved (g : Nat) (s u : State) : Prop where
  only : u = { s with groups := u.groups, counters := u.counters }
  wf : s.wf = true → u.wf = true
  others : s.wf = true → ∀ k, k ≠ g → u.group k = s.group k

section
variable {g : Nat} {u v : State}

theorem GroupMoved.refl (s : State) : GroupMoved g s s := ⟨rfl, id, fun _ _ _ => rfl⟩

theorem GroupMoved.trans (hu : GroupMoved g s u) (hv : GroupMoved g u v) : GroupMoved g s v :=
  ⟨by rw [hv.only, hu.only], fun h => hv.wf (hu.wf h), fun h k hk => (hv.others (hu.wf h) k hk).trans (hu.others h k hk)⟩

theorem modGroup_moved (f : Group → Group) (s : State) : GroupMoved g s (s.modGroup g f) :=
  ⟨rfl, fun h => wf_modGroup h g f, fun h _ hk => group_modGroup_other h hk f⟩

theorem count_moved (k i n : Nat) (s : State) : GroupMoved g s (s.count k i n) :=
  ⟨rfl, (count_kept (.refl s)).wf, fun _ _ _ => rfl⟩

theorem countMiss_moved (rearm : Bool) (s : State) : GroupMoved g s (s.countMiss g rearm) := by
  unfold countMiss
  split
  · exact .refl s
  · exact (count_moved ..).trans (modGroup_moved ..)

theorem undoTrigger_moved (counted : Bool) (s : State) : GroupMoved g s (s.undoTrigger g counted) := by
  unfold undoTrigger
  split
  · split
    · exact .refl s
    · rw [cond_eq]
      split
      · exact (modGroup_moved ..).trans (countMiss_moved ..)
      · exact modGroup_moved ..
  · exact .refl s

end

/-! ## HOST TRIGGER (spec 11 R264) -/

theorem exec_hostTrigger {g : Nat} (hk : s.takes 0x0B03 h = true) (hg : g < 16) : exec (.hostTrigger t h g) s
    = .next (((s.startOf t 0x0B03 h).hostTrigger g).succeed s.nextHandle []) :=
  congrArg Host.Outcome.next (command_startOf t hk (if_neg (Nat.not_le.mpr hg)))

/-- A group that waits enters POST with a host trigger of the present instant. -/
theorem hostTrigger_of_waiting {g : Nat} (hw : s.wf = true) (hs : (s.group g).state = .waiting)
    (hh : (groupParams (s.group g)).host = true) (hc : (s.group g).closing = none) (hat : (s.group g).ringAt ≤ s.now) :
    ∃ x a, s.hostTrigger g = { s with groups := x } ∧ ((s.hostTrigger g).group g).state = .post
      ∧ ((s.hostTrigger g).group g).trigger = some a ∧ a.instant = s.now ∧ a.source = 2 ^ 16 ∧ a.channel = 0xFF
      ∧ ∀ k, k ≠ g → (s.hostTrigger g).group k = s.group k := by
  have hgo : s.hostTrigger g = s.acceptTrigger g s.now (2 ^ 16) 0xFF := by
    unfold hostTrigger
    rw [hs, hh, cond_eq, if_pos (show (GroupState.waiting.watches && true) = true from rfl)]
    unfold decideTrigger
    dsimp only
    rw [hc, hs, if_neg (by simp), if_pos ⟨.inr rfl, hat⟩]
  rw [hgo]
  unfold acceptTrigger
  dsimp only
  rw [group_modGroup_same hw]
  exact ⟨_, _, rfl, rfl, rfl, rfl, rfl, rfl, fun k hk => group_modGroup_other hw hk _⟩

/-! ## CAPTURE READ (spec 11 R275) -/

theorem exec_captureRead {g first last : Nat} {channels : BitVec 256} {lo hi : Int} (hk : s.takes 0x0B04 h = true)
    (hg : g < 16) (hf : first ≤ last) (hl : last < 4096) (hr : lo ≤ hi) (ha : s.dramAbsent = false)
    (hb : s.groupBusy g = false) (hn : (s.group g).read = none) : exec (.captureRead t h g first last channels lo hi) s
      = .next ((s.startOf t 0x0B04 h).startRead g first last channels lo hi s.nextHandle) := by
  refine congrArg Host.Outcome.next (command_startOf t hk ?_)
  have hab : (s.advance t).takeIntake.dramAbsent = false := by rw [takeIntake_eq]; exact ha
  have hbusy : (s.advance t).takeIntake.groupBusy g = false := by rw [takeIntake_eq]; exact hb
  have hread : ((s.advance t).takeIntake.group g).read.isSome = false := by
    rw [takeIntake_eq]
    exact congrArg Option.isSome hn
  rw [if_neg (Nat.not_le.mpr hg), hab, hbusy, hread, if_neg (by simp; omega)]
  exact if_neg (by simp)

/-- A read that names words holds its blocks, and asks for the first. -/
theorem startRead_effect {g first last n : Nat} {channels : BitVec 256} {lo hi : Int} (hw : s.wf = true)
    (hb : readBlocks (s.group g) first last channels lo hi ≠ []) : ∃ x m,
      s.startRead g first last channels lo hi n = { s with groups := x, dram := m }
        ∧ ((s.startRead g first last channels lo hi n).group g).read
          = some ⟨n, readBlocks (s.group g) first last channels lo hi, []⟩
        ∧ ((s.startRead g first last channels lo hi n).group g).captures = (s.group g).captures
        ∧ ∀ k, k ≠ g → (s.startRead g first last channels lo hi n).group k = s.group k := by
  unfold startRead
  split
  case h_1 hnil => exact absurd hnil hb
  case h_2 =>
    obtain ⟨u, hu⟩ : ∃ u, u = s.modGroup g fun y => { y with
      read := some ⟨n, readBlocks (s.group g) first last channels lo hi, []⟩ } := ⟨_, rfl⟩
    have hwu : u.wf = true := hu ▸ wf_modGroup hw g _
    have hread : u.group g = { s.group g with read := some ⟨n, readBlocks (s.group g) first last channels lo hi, []⟩ } :=
      hu ▸ group_modGroup_same hw g _
    have hothers (k : Nat) (hk : k ≠ g) : u.group k = s.group k := hu ▸ group_modGroup_other hw hk _
    rw [← hu]
    unfold fetchBlock
    dsimp only
    split
    case h_1 => exact ⟨u.groups, u.dram, by rw [hu]; rfl, by rw [hread], by rw [hread], hothers⟩
    case h_2 =>
      obtain ⟨m, hm⟩ := request_onlyDram (readsOf 4 (.readback g) _) (u.modGroup g fun y => { y with
        read := y.read.map fun j => { j with got := [] } })
      rw [hm]
      have hgot := group_modGroup_same hwu g fun y => { y with read := y.read.map fun j => { j with got := [] } }
      rw [hread] at hgot
      refine ⟨_, m, by rw [hu]; rfl, (congrArg Group.read hgot :), (congrArg Group.captures hgot :), fun k hk => ?_⟩
      have hsame := group_modGroup_other hwu hk fun y => { y with read := y.read.map fun j => { j with got := [] } }
      exact hsame.trans (hothers k hk)

/-! ## BIAS SENSE RESTORE (spec 05 R139) -/

theorem exec_biasSenseRestore {b : Nat} {rs : List Int} (hk : s.takes 0x0501 h = true) (hb : b < 16) :
    exec (.biasSenseRestore t h b rs) s = .next (if (s.startOf t 0x0501 h).senseGood b rs
      then ((s.startOf t 0x0501 h).cond ((s.startOf t 0x0501 h).bias b).forceOnly (senseRestore b)).succeed s.nextHandle []
      else (s.startOf t 0x0501 h).failedOpen s.nextHandle) :=
  congrArg Host.Outcome.next (command_startOf t hk (if_neg (Nat.not_le.mpr hb)))

theorem senseGood_iff {b : Nat} {rs : List Int} : s.senseGood b rs = true
    ↔ rs.length = 16 ∧ ∀ r ∈ rs, (r - (s.bias b).lead).natAbs ≤ 100 := by
  simp [senseGood]

/-- A bank that returns to Kelvin regulation moves to its target anew. -/
theorem senseRestore_effect (b : Nat) (hw : s.wf = true) : ∃ x, BiasBecomes b x s (s.senseRestore b)
    ∧ x.forceOnly = false ∧ x.senseOpen = false ∧ x.moving = true ∧ x.target = (s.bias b).target := by
  have hkelvin := (biasBecomes_self hw b).modBias (g := fun x => { x with senseOpen := false, forceOnly := false }) rfl
  exact ⟨_, hkelvin.startBiasChange (s.bias b).target, rfl, rfl, rfl, rfl⟩

/-! ## PROXY TEMPERATURE (spec 18 R430) -/

theorem exec_proxyTemperature {v : Int} {k : Nat} (hk : s.takes 0x1201 h = true) (h1 : -240 ≤ v) (h2 : v ≤ 720)
    (h3 : 1 ≤ k) (h4 : k ≤ 60) : exec (.proxyTemperature t h v k) s
      = .next ((s.startOf t 0x1201 h).proxyTemp v k s.nextHandle) := by
  refine congrArg Host.Outcome.next (command_startOf t hk ?_)
  rw [proxyCheck, if_neg (by omega), if_neg (by omega)]

/-- While the diode is whole, a proxy replaces the one before and is reported alone. -/
theorem proxyTemp_effect {v : Int} {k n : Nat} (hb : s.power.broken = false) (hr : s.power.restoredAt ≠ some s.now) :
    ∃ u, s.proxyTemp v k n = u.succeed n [] ∧ Reported (s.modPower fun p => { p with
      proxy := some (v, s.now + us (1000000 * k)) }) u := by
  have hcold : s.proxyWasHot = s := by
    simp [proxyWasHot, proxyValid, hb, cond_eq]
  unfold proxyTemp
  rw [if_neg hr, hcold]
  dsimp only
  rw [hb, cond_eq, if_neg (by simp)]
  exact ⟨_, rfl, event_reported ..⟩

end

end Sys2Proof.Machine.State
end

section
/-! PROOFS. Commands that start a measurement, a capture or a training: each from the start of the command and from what it leaves
(spec 15 R354-R360). -/

namespace Sys2Proof.Machine

section
variable {t : Tick} {h : Hdr} {s : State}

/-- What a start keeps of channels, groups and banks. -/
theorem startOf_parts (t : Tick) (op : Nat) (h : Hdr) (s : State) : (s.startOf t op h).chan = s.chan
    ∧ (s.startOf t op h).bob = s.bob ∧ (s.startOf t op h).group = s.group ∧ (s.startOf t op h).bank = s.bank
    ∧ (s.startOf t op h).aux = s.aux ∧ (s.startOf t op h).dramCh = s.dramCh ∧ (s.startOf t op h).dram = s.dram := by
  obtain ⟨d, hd⟩ := State.startOf_eq t op h s
  rw [hd]
  exact ⟨rfl, rfl, rfl, rfl, rfl, rfl, rfl⟩

/-- What a start keeps of the DRAM's mapping. -/
theorem startOf_mapping (t : Tick) (op : Nat) (h : Hdr) (s : State) : (s.startOf t op h).dramAbsent = s.dramAbsent
    ∧ (s.startOf t op h).liveChans = s.liveChans ∧ (s.startOf t op h).mappedMask = s.mappedMask := by
  obtain ⟨d, hd⟩ := State.startOf_eq t op h s
  rw [hd]
  exact ⟨rfl, rfl, rfl⟩

theorem bobbinFlush_effect {c k : Nat} (hw : s.wf = true) (hk : s.takes 0x0902 h = true) (hc : c < 256) (hk2 : k < 2)
    (hf : (s.bob c k).flushHandle = none) (hb : Store.wf {} (s.chan c).bobs = true)
    (hs : (s.bob c k).state = .collecting) :
    ∃ u, exec (.bobbinFlush t h c k) s = .next u ∧ u.waits (s.startOf t 0x0902 h) s.nextHandle
      ∧ (u.bob c k).state = .finishing ∧ (u.bob c k).flushHandle = some s.nextHandle
      ∧ u.bob c k = { s.bob c k with
          state := .finishing, part := true, flushed := true, flushHandle := some s.nextHandle, back := (u.bob c k).back }
      ∧ ((s.bob c k).spilled = false → (u.bob c k).back = (s.bob c k).back ∧ u.dram = s.dram)
      ∧ (∀ j, j ≠ c → u.chan j = s.chan j)
      ∧ u = { s with clock := u.clock, dist := u.dist, chans := u.chans, dram := u.dram } := by
  have hexec := State.exec_bobbinFlush (t := t) hk hc hk2 hf
  obtain ⟨hchan, hbob, -, -, -, -, hdram⟩ := startOf_parts t 0x0902 h s
  have hstart : ((s.startOf t 0x0902 h).bob c k).state = .collecting := by rw [hbob]; exact hs
  rw [if_neg (by rw [hstart]; decide)] at hexec
  obtain ⟨x, m, heq, hown, hwf, hidle, hothers⟩ := State.bobFinish_effect (State.startOf_wf t 0x0902 h hw)
    (by rw [hchan]; exact hb) hstart
  obtain ⟨v, hv⟩ : ∃ v, v = (s.startOf t 0x0902 h).bobFinish c k true := ⟨_, rfl⟩
  rw [← hv] at hexec heq hown hwf hidle hothers
  have hwv : v.wf = true := hv ▸ (State.bobFinish_kept (.refl _)).wf (State.startOf_wf t 0x0902 h hw)
  have hread := State.bob_modBob hwv hwf k k fun b => { b with flushed := true, flushHandle := some s.nextHandle }
  rw [if_pos rfl, hown, hbob] at hread
  rw [hbob, hdram] at hidle
  rw [hchan] at hothers
  refine ⟨_, hexec, State.waits_of_underway hk (.of_dist ?_), ?_, ?_, ?_, fun hspilled => ?_, fun j hj => ?_, ?_⟩
  · exact (congrArg State.dist heq :)
  · rw [hread]
  · rw [hread]
  · rw [hread]
  · obtain ⟨hback, hd⟩ := hidle hspilled
    exact ⟨by rw [hread]; exact hback, hd⟩
  · exact (State.chan_modBob_other hwv hj k _).trans (hothers j hj)
  · obtain ⟨d, hd⟩ := State.startOf_eq t 0x0902 h s
    rw [heq, hd]
    rfl

theorem captureArm_effect {g : Nat} {p : CaptureParams} (hw : s.wf = true) (hk : s.takes 0x0B01 h = true)
    (hc : s.armCheck g p = .accepted) (hr : ∀ j, (s.group g).read = some j → j.handle ≠ s.nextHandle) :
    ∃ u r, exec (.captureArm t h g p) s = .next u ∧ u.answered (s.startOf t 0x0B01 h) 0x0B01 h s.nextHandle 0 0 r
      ∧ r.take 4 = le 4 (State.capacityOf p s.liveChans.length) ∧ (u.group g).armPending = true
      ∧ (u.group g).params = some p
      ∧ (u.group g).capacity = State.capacityOf p s.liveChans.length ∧ (u.group g).captures = [] ∧ (u.group g).made = 0
      ∧ (u.group g).read = none ∧ (∀ j, (s.group g).read = some j → u.liveOf j.handle = none)
      ∧ ((s.group g).read = none → u.dram = s.dram)
      ∧ u = { s with clock := u.clock, dist := u.dist, groups := u.groups, dram := u.dram } := by
  have hexec := State.exec_captureArm (t := t) hk hc
  obtain ⟨b, hb⟩ : ∃ b, b = s.startOf t 0x0B01 h := ⟨_, rfl⟩
  have hwb : b.wf = true := hb ▸ State.startOf_wf t 0x0B01 h hw
  obtain ⟨-, -, hgroup, -, -, -, hdram⟩ := startOf_parts t 0x0B01 h s
  obtain ⟨-, hlive, -⟩ := startOf_mapping t 0x0B01 h s
  rw [← hb] at hexec hgroup hdram hlive
  obtain ⟨r, harm⟩ := State.armGroup_eq g p s.nextHandle b
  rw [harm, hlive] at hexec
  obtain ⟨hoverlap, hkeep⟩ := State.discardOverlaps_effect p b
  obtain ⟨hwo, hreads⟩ := hkeep hwb
  obtain ⟨o, ho⟩ : ∃ o, o = b.discardOverlaps p := ⟨_, rfl⟩
  rw [← ho] at hexec hoverlap hwo hreads
  have hread : (o.group g).read = (s.group g).read := (hreads g).trans (by rw [hgroup])
  obtain ⟨c, d, x, m, hend, hends, hidle, hgone, hway⟩ := State.endRead_effect g o
  obtain ⟨hwe, hnone⟩ := hends hwo
  rw [hread] at hidle hgone hway
  obtain ⟨e, he⟩ : ∃ e, e = o.endRead g := ⟨_, rfl⟩
  rw [← he] at hexec hend hwe hnone hidle hgone hway
  have hown := State.group_modGroup_same hwe g (State.armed p s.liveChans)
  obtain ⟨d', hd'⟩ := State.succeed_eq s.nextHandle (le 4 (State.capacityOf p s.liveChans.length) ++ r)
    (e.modGroup g (State.armed p s.liveChans))
  have hgroups : ((e.modGroup g (State.armed p s.liveChans)).succeed s.nextHandle
      (le 4 (State.capacityOf p s.liveChans.length) ++ r)).group g = State.armed p s.liveChans (e.group g) := by
    rw [hd']
    exact hown
  have hunderway : State.Underway s.nextHandle b (e.modGroup g (State.armed p s.liveChans)) := by
    have hoe := (State.Underway.of_dist (n := s.nextHandle) (congrArg State.dist hoverlap :)).trans (hway _ hr)
    exact ⟨hoe.live, hoe.waiting⟩
  refine ⟨_, _, hexec, State.answered_of_underway hk (hb ▸ hunderway) 0 0 _, ?_, ?_, ?_, ?_, ?_, ?_, ?_, fun j hj => ?_,
    fun hj => ?_, ?_⟩
  · rw [List.take_append_of_le_length (by simp [le]), List.take_of_length_le (by simp [le])]
  · rw [hgroups]; rfl
  · rw [hgroups]; rfl
  · rw [hgroups]; rfl
  · rw [hgroups]; rfl
  · rw [hgroups]; rfl
  · rw [hgroups]; exact hnone
  · have hother := State.completeWith_underway (n := j.handle) (Ne.symm (hr j hj)) 0 0 0 none
      (le 4 (State.capacityOf p s.liveChans.length) ++ r) (e.modGroup g (State.armed p s.liveChans))
    exact hother.live.trans (hgone j hj)
  · rw [hd']
    change e.dram = s.dram
    rw [hidle hj, hoverlap, ← hdram]
  · rw [hd', hend, hoverlap, hb]
    obtain ⟨d, hd⟩ := State.startOf_eq t 0x0B01 h s
    rw [hd]
    rfl

theorem dramRetrain_effect {retest : Bool} (hk : s.takes 0x0C02 h = true) (hc : s.retrainCheck retest = .accepted)
    (hw : Store.wf {} s.dram.chans = true) (hr : retest = true ∨ s.dramAbsent = false) :
    ∃ u, exec (.dramRetrain t h retest) s = .next u ∧ u.waits (s.startOf t 0x0C02 h) s.nextHandle
      ∧ u.dram = { s.dram with pass := some (s.retrainPass s.nextHandle retest), chans := u.dram.chans }
      ∧ (∀ i, i ∈ (s.retrainPass s.nextHandle retest).startUp → u.dramCh i = { s.dramCh i with training := true })
      ∧ (∀ i, i ∉ (s.retrainPass s.nextHandle retest).startUp → u.dramCh i = s.dramCh i)
      ∧ u = { s with clock := u.clock, dist := u.dist, dram := u.dram } := by
  have hexec := State.exec_dramRetrain (t := t) hk hc
  obtain ⟨b, hb⟩ : ∃ b, b = s.startOf t 0x0C02 h := ⟨_, rfl⟩
  obtain ⟨-, -, -, -, -, hch, hdram⟩ := startOf_parts t 0x0C02 h s
  obtain ⟨habsent, -, -⟩ := startOf_mapping t 0x0C02 h s
  rw [← hb] at hexec hch hdram habsent
  have hpass : b.retrainPass s.nextHandle retest = s.retrainPass s.nextHandle retest := by
    rw [State.retrainPass, habsent, hch]
    rfl
  have hwb : Store.wf {} b.dram.chans = true := hdram ▸ hw
  obtain ⟨x, heq, hin, hout⟩ := State.startPass_effect s.nextHandle retest hwb
  rw [State.retrain_of_starting hwb (habsent ▸ hr)] at hexec
  rw [hpass, hch] at hin hout
  refine ⟨_, hexec, State.waits_of_underway hk (hb ▸ .of_dist (congrArg State.dist heq :)), ?_, hin, hout, ?_⟩
  · rw [heq]
    change ({ b.dram with pass := some (b.retrainPass s.nextHandle retest), chans := x } : Dram) = _
    rw [hpass, hdram]
    rfl
  · rw [heq, hb]
    obtain ⟨d, hd⟩ := State.startOf_eq t 0x0C02 h s
    rw [hd]
    rfl

theorem captureStop_effect {g : Nat} (hw : s.wf = true) (ht : s.now ≤ t) (hk : s.takes 0x0B02 h = true) (hg : g < 16)
    (hc : (s.group g).closing = none) (hb : s.groupBusy g = true) :
    ∃ u, exec (.captureStop t h g) s = .next u ∧ u.waits (s.startOf t 0x0B02 h) s.nextHandle
      ∧ (u.group g).closing = some ⟨t, some s.nextHandle, BitVec.ofNat 10 8⟩ ∧ (∀ k, k ≠ g → u.group k = s.group k)
      ∧ u = { s with clock := u.clock, dist := u.dist, groups := u.groups, counters := u.counters } := by
  have hexec := State.exec_captureStop (t := t) hk hg hc
  obtain ⟨b, hstart⟩ : ∃ b, b = s.startOf t 0x0B02 h := ⟨_, rfl⟩
  have hwb : b.wf = true := hstart ▸ State.startOf_wf t 0x0B02 h hw
  have hnow : b.now = t := hstart ▸ State.startOf_now 0x0B02 h ht
  obtain ⟨-, -, hgroup, -⟩ := startOf_parts t 0x0B02 h s
  rw [← hstart] at hexec hgroup
  have hbusy : b.groupBusy g = true := by rw [State.groupBusy, hgroup]; exact hb
  rw [if_pos hbusy] at hexec
  have hundo := State.undoTrigger_moved (g := g) true b
  obtain ⟨v, hv⟩ : ∃ v, v = b.undoTrigger g true := ⟨_, rfl⟩
  rw [← hv] at hundo
  have hmoved := hundo.trans (State.modGroup_moved (fun y => { y with
    closing := some ⟨b.now, some s.nextHandle, BitVec.ofNat 10 (2 ^ 3)⟩ }) v)
  have hown := State.group_modGroup_same (hundo.wf hwb) g fun y => { y with
    closing := some ⟨b.now, some s.nextHandle, BitVec.ofNat 10 (2 ^ 3)⟩ }
  have hvnow : v.now = b.now := (congrArg State.now hundo.only :)
  have hstop : b.stopGroup g (some s.nextHandle) 3 = v.modGroup g fun y => { y with
      closing := some ⟨b.now, some s.nextHandle, BitVec.ofNat 10 (2 ^ 3)⟩ } := by
    rw [State.stopGroup, ← hv]
  rw [hstop] at hexec
  refine ⟨_, hexec, State.waits_of_underway hk (hstart ▸ .of_dist (congrArg State.dist hmoved.only :)), ?_, fun k hk => ?_, ?_⟩
  · rw [hown, hnow]
    rfl
  · rw [hmoved.others hwb k hk, hgroup]
  · obtain ⟨d, hd⟩ := State.startOf_eq t 0x0B02 h s
    rw [hmoved.only, hstart, hd]
    rfl

theorem hostTrigger_effect {g : Nat} (hw : s.wf = true) (ht : s.now ≤ t) (hk : s.takes 0x0B03 h = true) (hg : g < 16)
    (hs : (s.group g).state = .waiting) (hh : (State.groupParams (s.group g)).host = true) (hc : (s.group g).closing = none)
    (hat : (s.group g).ringAt ≤ t) :
    ∃ u a, exec (.hostTrigger t h g) s = .next u ∧ u.answered (s.startOf t 0x0B03 h) 0x0B03 h s.nextHandle 0 0 []
      ∧ (u.group g).state = .post ∧ (u.group g).trigger = some a ∧ a.instant = t ∧ a.source = 2 ^ 16 ∧ a.channel = 0xFF
      ∧ (∀ k, k ≠ g → u.group k = s.group k) ∧ u = { s with clock := u.clock, dist := u.dist, groups := u.groups } := by
  have hexec := State.exec_hostTrigger (t := t) hk hg
  obtain ⟨b, hstart⟩ : ∃ b, b = s.startOf t 0x0B03 h := ⟨_, rfl⟩
  have hwb : b.wf = true := hstart ▸ State.startOf_wf t 0x0B03 h hw
  have hnow : b.now = t := hstart ▸ State.startOf_now 0x0B03 h ht
  obtain ⟨-, -, hgroup, -⟩ := startOf_parts t 0x0B03 h s
  rw [← hstart] at hexec hgroup
  obtain ⟨x, a, heq, hstate, htrigger, hinstant, hsource, hchannel, hothers⟩ := State.hostTrigger_of_waiting (g := g) hwb
    (by rw [hgroup]; exact hs) (by rw [hgroup]; exact hh) (by rw [hgroup]; exact hc) (by rw [hgroup, hnow]; exact hat)
  obtain ⟨d', hd'⟩ := State.succeed_eq s.nextHandle [] (b.hostTrigger g)
  have hsame : ((b.hostTrigger g).succeed s.nextHandle []).group = (b.hostTrigger g).group := by rw [hd']; rfl
  refine ⟨_, a, hexec, State.answered_of_underway hk (hstart ▸ .of_dist (congrArg State.dist heq :)) 0 0 [], ?_, ?_,
    hinstant.trans hnow, hsource, hchannel, fun k hk => ?_, ?_⟩
  · rw [hsame]; exact hstate
  · rw [hsame]; exact htrigger
  · rw [hsame, hothers k hk, hgroup]
  · obtain ⟨d, hd⟩ := State.startOf_eq t 0x0B03 h s
    rw [hd', heq, hstart, hd]
    rfl

theorem biasSenseRestore_effect {b : Nat} {rs : List Int} (hw : s.wf = true) (hk : s.takes 0x0501 h = true) (hb : b < 16)
    (hl : rs.length = 16) (hr : ∀ r, r ∈ rs → (r - (s.bias b).lead).natAbs ≤ 100) (hf : (s.bias b).forceOnly = true) :
    ∃ u, exec (.biasSenseRestore t h b rs) s = .next u ∧ u.answered (s.startOf t 0x0501 h) 0x0501 h s.nextHandle 0 0 []
      ∧ (u.bias b).forceOnly = false ∧ (u.bias b).senseOpen = false ∧ (u.bias b).moving = true
      ∧ (u.bias b).target = (s.bias b).target ∧ (∀ k, k ≠ b → u.bank k = s.bank k)
      ∧ u = { s with clock := u.clock, dist := u.dist, banks := u.banks } := by
  have hexec := State.exec_biasSenseRestore (t := t) hk hb (rs := rs)
  obtain ⟨v, hstart⟩ : ∃ v, v = s.startOf t 0x0501 h := ⟨_, rfl⟩
  have hwv : v.wf = true := hstart ▸ State.startOf_wf t 0x0501 h hw
  obtain ⟨-, -, -, hbank, -⟩ := startOf_parts t 0x0501 h s
  rw [← hstart] at hexec hbank
  have hbias : v.bias b = s.bias b := by rw [State.bias, hbank]; rfl
  rw [if_pos (State.senseGood_iff.mpr ⟨hl, by rw [hbias]; exact hr⟩), hbias, hf, State.cond_eq, if_pos rfl] at hexec
  obtain ⟨x, ⟨-, ⟨m, hm⟩, hothers, hown⟩, hforce, hopen, hmoving, htarget⟩ := State.senseRestore_effect b hwv
  obtain ⟨d', hd'⟩ := State.succeed_eq s.nextHandle [] (v.senseRestore b)
  have hsame : ((v.senseRestore b).succeed s.nextHandle []).bank = (v.senseRestore b).bank := by rw [hd']; rfl
  have hx : ((v.senseRestore b).succeed s.nextHandle []).bias b = x := by rw [State.bias, hsame]; exact hown
  refine ⟨_, hexec, State.answered_of_underway hk (hstart ▸ .of_dist (congrArg State.dist hm :)) 0 0 [], ?_, ?_, ?_, ?_,
    fun k hk => ?_, ?_⟩
  · rw [hx]; exact hforce
  · rw [hx]; exact hopen
  · rw [hx]; exact hmoving
  · rw [hx, htarget, hbias]
  · rw [hsame, hothers k hk, hbank]
  · obtain ⟨d, hd⟩ := State.startOf_eq t 0x0501 h s
    rw [hd', hm, hstart, hd]
    rfl

/-- A report beside a change of the supply's view leaves all the rest. -/
theorem power_of_reported {a u : State} {g : Power → Power} (hu : State.Reported (a.modPower g) u) (e : Distaff) :
    (u.modDist fun _ => e).power = g a.power ∧ (u.modDist fun _ => e).dev = a.dev ∧ u.dist = a.dist
      ∧ ∃ r c p, (u.modDist fun _ => e) = { a with dist := e, power := g a.power, recs := r, nvCtl := c, side := p } := by
  obtain ⟨r, c, p, rfl⟩ := hu
  exact ⟨rfl, rfl, rfl, r, c, p, rfl⟩

theorem proxyTemperature_effect {v : Int} {k : Nat} (ht : s.now ≤ t) (hk : s.takes 0x1201 h = true) (h1 : -240 ≤ v)
    (h2 : v ≤ 720) (h3 : 1 ≤ k) (h4 : k ≤ 60) (hb : s.power.broken = false) (hr : s.power.restoredAt ≠ some t) :
    ∃ u, exec (.proxyTemperature t h v k) s = .next u ∧ u.answered (s.startOf t 0x1201 h) 0x1201 h s.nextHandle 0 0 []
      ∧ u.power = { s.power with proxy := some (v, t + us (1000000 * k)) } ∧ u.dev = s.dev
      ∧ u = { s with clock := u.clock, dist := u.dist, power := u.power, recs := u.recs, nvCtl := u.nvCtl, side := u.side } := by
  have hexec := State.exec_proxyTemperature (t := t) hk h1 h2 h3 h4
  obtain ⟨a, ha⟩ : ∃ a, a = s.startOf t 0x1201 h := ⟨_, rfl⟩
  have hnow : a.now = t := ha ▸ State.startOf_now 0x1201 h ht
  obtain ⟨d, hd⟩ := State.startOf_eq t 0x1201 h s
  rw [← ha] at hd
  have hpower : a.power = s.power := by rw [hd]; rfl
  have hdev : a.dev = s.dev := by rw [hd]; rfl
  obtain ⟨u, hu, hrep⟩ := State.proxyTemp_effect (s := a) (v := v) (k := k) (n := s.nextHandle)
    (by rw [hpower]; exact hb) (by rw [hpower, hnow]; exact hr)
  rw [hnow] at hrep
  obtain ⟨e, he⟩ := State.succeed_eq s.nextHandle [] u
  obtain ⟨hp, hd', hdist, r, c, p, hsame⟩ := power_of_reported hrep e
  have hanswered := State.answered_of_underway hk (.of_dist (hdist.trans (congrArg State.dist ha))) 0 0 []
  rw [← he] at hp hd' hsame
  rw [← ha, hu] at hexec
  refine ⟨u.succeed s.nextHandle [], hexec, hanswered, ?_, hd'.trans hdev, ?_⟩
  · rw [hp, hpower]
  · rw [hsame, hd]
    rfl

end

/-- Settles O57: each command from its start and from what it leaves. -/
theorem measurementCommandsStart : Obligations.MeasurementCommandsStart := by
  unfold Obligations.MeasurementCommandsStart
  intro t h s ht hw
  refine ⟨fun input hk hi hc => ?inject, fun kind order timeout hk hc => ?statistics, fun i gate hk hi h0 h1 hg => ?frequency,
    fun c k p hk hc hb => ?bobbin, fun c k hk hc hk2 hf hb => ⟨fun hs => ?idle, bobbinFlush_effect hw hk hc hk2 hf hb⟩,
    fun retest hk hc hwd => ⟨dramRetrain_effect hk hc hwd, fun hr ha => ?absent⟩,
    fun g p hk hc hr => captureArm_effect hw hk hc hr,
    fun g hk hg hc => ⟨fun hb => ?stop, captureStop_effect hw ht hk hg hc⟩,
    fun g hk hg => ⟨fun hno => ?noTrigger, hostTrigger_effect hw ht hk hg⟩,
    fun g first last channels lo hi hk hg hf hl hr ha hb hn => ⟨fun hnil => ?nothing, fun hblocks => ?read⟩,
    fun b rs hk hb => ⟨fun hl hr hf => ?kelvin, biasSenseRestore_effect hw hk hb, fun r hr hbad => ?lead⟩,
    fun v k hk h1 h2 h3 h4 hb hr => proxyTemperature_effect ht hk h1 h2 h3 h4 hb hr⟩
  case inject =>
    obtain ⟨d, hd⟩ := State.startOf_eq t 0x0601 h s
    refine ⟨_, State.exec_inject hk hi hc, State.waits_of_underway hk (.of_dist rfl), rfl, rfl, ?_, ?_, ?_⟩
    · rw [hd]; rfl
    · rw [hd]; rfl
    · rw [hd]; rfl
  case statistics =>
    obtain ⟨d, hd⟩ := State.startOf_eq t 0x0801 h s
    have hexec := State.exec_statistics (t := t) hk hc
    rw [State.startOf_now 0x0801 h ht] at hexec
    refine ⟨_, hexec, State.waits_of_underway hk (.of_dist rfl), ?_, ?_⟩
    · rw [hd]; rfl
    · rw [hd]; rfl
  case frequency =>
    have hexec := State.exec_measureFrequency (t := t) hk hi h0 h1 hg
    have hwb := State.startOf_wf t 0x0802 h hw
    obtain ⟨-, -, -, -, haux, -⟩ := startOf_parts t 0x0802 h s
    rw [State.startOf_now 0x0802 h ht, State.isDriftSource, State.popt_startOf] at hexec
    refine ⟨_, hexec, State.waits_of_underway hk (.of_dist rfl), ?_, ?_, ?_, fun k hki => ?_, ?_⟩
    · rw [State.aux_modAux_same hwb]; rfl
    · rw [State.aux_modAux_same hwb]
    · rw [State.aux_modAux_same hwb]
    · rw [State.aux_modAux_other hwb hki, haux]
    · obtain ⟨d, hd⟩ := State.startOf_eq t 0x0802 h s
      rw [hd]; rfl
  case bobbin =>
    have hexec := State.exec_bobbinStart (t := t) hk hc
    have hwb := State.startOf_wf t 0x0901 h hw
    obtain ⟨hchan, hbob, -⟩ := startOf_parts t 0x0901 h s
    rw [State.startOf_now 0x0901 h ht] at hexec
    have hread (j : Nat) := State.bob_modBob hwb (c := c) (by rw [hchan]; exact hb) k j fun b => { b with
      state := .collecting, params := some p, handle := s.nextHandle, startedAt := t }
    have hown := hread k
    rw [if_pos rfl] at hown
    refine ⟨_, hexec, State.waits_of_underway hk (.of_dist rfl), ?_, ?_, ?_, ?_, ?_, fun j hj => ?_, ?_⟩
    · rw [hown]
    · rw [hown]
    · rw [hown]
    · rw [hown]
    · rw [hread, if_neg (by omega), hbob]
    · rw [State.chan_modBob_other hwb hj, hchan]
    · obtain ⟨d, hd⟩ := State.startOf_eq t 0x0901 h s
      rw [hd]; rfl
  case idle =>
    obtain ⟨-, hbob, -⟩ := startOf_parts t 0x0902 h s
    rw [State.exec_bobbinFlush hk hc hk2 hf, hbob, if_pos hs]
  case absent =>
    obtain ⟨-, -, -, -, -, hch, hdram⟩ := startOf_parts t 0x0C02 h s
    obtain ⟨habsent, -, hmask⟩ := startOf_mapping t 0x0C02 h s
    rw [State.exec_dramRetrain hk hc, hr, State.retrain_of_absent (habsent.trans ha)
      (hdram ▸ State.retrainCheck_pass hc), hch, hmask]
  case stop =>
    obtain ⟨-, -, hgroup, -⟩ := startOf_parts t 0x0B02 h s
    have hbusy : (s.startOf t 0x0B02 h).groupBusy g = false := by rw [State.groupBusy, hgroup]; exact hb
    rw [State.exec_captureStop hk hg hc, if_neg (ne_true_of_eq_false hbusy)]
  case noTrigger =>
    obtain ⟨-, -, hgroup, -⟩ := startOf_parts t 0x0B03 h s
    have hoff : ((s.group g).state.watches && (State.groupParams (s.group g)).host) = false :=
      Bool.and_eq_false_iff.mpr hno
    rw [State.exec_hostTrigger hk hg, State.hostTrigger, hgroup, hoff]
    rfl
  case nothing =>
    obtain ⟨-, -, hgroup, -⟩ := startOf_parts t 0x0B04 h s
    rw [State.exec_captureRead hk hg hf hl hr ha hb hn, State.startRead, hgroup, hnil]
  case read =>
    have hexec := State.exec_captureRead (t := t) (channels := channels) hk hg hf hl hr ha hb hn
    obtain ⟨-, -, hgroup, -⟩ := startOf_parts t 0x0B04 h s
    obtain ⟨x, m, heq, hread, hcaptures, hothers⟩ := State.startRead_effect (n := s.nextHandle) (g := g) (first := first)
      (last := last) (channels := channels) (lo := lo) (hi := hi) (State.startOf_wf t 0x0B04 h hw) (by rw [hgroup]; exact hblocks)
    rw [hgroup] at hread hcaptures hothers
    refine ⟨_, hexec, State.waits_of_underway hk (.of_dist (congrArg State.dist heq :)), hread, hcaptures, hothers, ?_⟩
    obtain ⟨d, hd⟩ := State.startOf_eq t 0x0B04 h s
    rw [heq, hd]
    rfl
  case kelvin =>
    obtain ⟨-, -, -, hbank, -⟩ := startOf_parts t 0x0501 h s
    have hbias : (s.startOf t 0x0501 h).bias b = s.bias b := by rw [State.bias, hbank]; rfl
    rw [State.exec_biasSenseRestore hk hb, if_pos (State.senseGood_iff.mpr ⟨hl, by rw [hbias]; exact hr⟩), hbias, hf]
    rfl
  case lead =>
    have hexec := State.exec_biasSenseRestore (t := t) hk hb (rs := rs)
    obtain ⟨-, -, -, hbank, -⟩ := startOf_parts t 0x0501 h s
    have hbias : (s.startOf t 0x0501 h).bias b = s.bias b := by rw [State.bias, hbank]; rfl
    rw [if_neg (fun hgood => by
      have hle := (State.senseGood_iff.mp hgood).2 r hr
      rw [hbias] at hle
      omega)] at hexec
    refine ⟨_, ((s.startOf t 0x0501 h).draw 65536).1, hexec,
      State.answered_of_underway (u := ((s.startOf t 0x0501 h).draw 65536).2) hk (.of_dist rfl) 1 _ [], ?_⟩
    obtain ⟨k, d', hd'⟩ := State.failedOpen_eq s.nextHandle (s.startOf t 0x0501 h)
    obtain ⟨d, hd⟩ := State.startOf_eq t 0x0501 h s
    rw [hd', hd]
    rfl

end Sys2Proof.Machine
end

section
/-! PROOFS. Loads of a Flyer's tables and seeds, of coefficients and their swaps (spec 03 R71-R80, 07 R172, R173): each from the words
that it writes. -/

namespace Sys2Proof.Machine

namespace State

/-! ## Words from a first entry on -/

theorem putWords_cons {α : Type} [DecidableEq α] (d : α) (first : Nat) (v : α) (l : List α) (m : Store α) :
    putWords d first (v :: l) m = putWords d (first + 1) l (Store.write d m first v) := by
  simp only [putWords, List.mapIdx_cons, List.foldl_cons, Nat.add_zero, Nat.add_assoc, Nat.add_comm 1]

/-- The words stand from the first entry on, and the other entries as before (spec 03 R71). -/
theorem read_putWords {α : Type} [DecidableEq α] (d : α) (l : List α) : ∀ (first : Nat) {m : Store α}, Store.wf d m = true →
    (∀ i, i < l.length → Store.read d (putWords d first l m) (first + i) = l.getD i d)
      ∧ ∀ j, j < first ∨ first + l.length ≤ j → Store.read d (putWords d first l m) j = Store.read d m j := by
  induction l with
  | nil => exact fun first m _ => ⟨fun i hi => absurd hi (Nat.not_lt_zero i), fun _ _ => rfl⟩
  | cons v l ih =>
    intro first m hm
    obtain ⟨hin, hout⟩ := ih (first + 1) (Store.wf_write d m first v hm)
    rw [putWords_cons]
    refine ⟨fun i hi => ?_, fun j hj => ?_⟩
    · cases i with
      | zero => exact (hout _ (.inl (by omega))).trans (Store.read_write_same d m none first v hm)
      | succ i =>
        have hword := hin i (Nat.lt_of_succ_lt_succ hi)
        rwa [Nat.add_assoc, Nat.add_comm 1] at hword
    · rw [List.length_cons] at hj
      exact (hout j (by omega)).trans (Store.read_write_other d m none first j v hm (by omega))

/-! ## Changes of many Flyers and banks -/

theorem wf_modBank {s : State} (h : s.wf = true) (b : Nat) (g : Bank → Bank) : (s.modBank b g).wf = true :=
  (modBank_kept (.refl s)).wf h

/-- Flyers of a list are changed, each once, and the others not. -/
theorem eachFlyer_effect (g : Nat → Flyer → Flyer) {l : List Nat} (hl : l.Nodup) : ∀ {s : State}, s.wf = true →
    ∃ x, s.each l (fun b => modFlyer b (g b)) = { s with flyers := x }
      ∧ ∀ k, (s.each l fun b => modFlyer b (g b)).flyer k = if k ∈ l then g k (s.flyer k) else s.flyer k := by
  induction l with
  | nil => exact fun {s} _ => ⟨s.flyers, rfl, fun k => (if_neg List.not_mem_nil).symm⟩
  | cons b l ih =>
    intro s hw
    obtain ⟨hb, hl⟩ := List.nodup_cons.mp hl
    obtain ⟨x, heq, hread⟩ := ih hl (wf_modFlyer hw b (g b))
    refine ⟨x, heq, fun k => (hread k).trans ?_⟩
    by_cases hk : k = b
    · subst hk
      rw [if_neg hb, if_pos List.mem_cons_self, flyer_modFlyer_same hw]
    · rw [flyer_modFlyer_other hw hk]
      simp [hk]

/-- Banks of a list are changed, each once, and the others not. -/
theorem eachBank_effect (g : Bank → Bank) {l : List Nat} (hl : l.Nodup) : ∀ {s : State}, s.wf = true →
    ∃ x, s.each l (fun b => modBank b g) = { s with banks := x }
      ∧ ∀ k, (s.each l fun b => modBank b g).bank k = if k ∈ l then g (s.bank k) else s.bank k := by
  induction l with
  | nil => exact fun {s} _ => ⟨s.banks, rfl, fun k => (if_neg List.not_mem_nil).symm⟩
  | cons b l ih =>
    intro s hw
    obtain ⟨hb, hl⟩ := List.nodup_cons.mp hl
    obtain ⟨x, heq, hread⟩ := ih hl (wf_modBank hw b g)
    refine ⟨x, heq, fun k => (hread k).trans ?_⟩
    by_cases hk : k = b
    · subst hk
      rw [if_neg hb, if_pos List.mem_cons_self, bank_modBank_same hw]
    · rw [bank_modBank_other hw hk]
      simp [hk]

theorem nodup_maskList (n m : Nat) : (maskList n m).Nodup := List.nodup_range.filter _

theorem mem_maskList {n m i : Nat} : i ∈ maskList n m ↔ i < n ∧ m.testBit i = true := by
  simp [maskList]

theorem mem_maskList_bitVec {n : Nat} (b : BitVec n) (i : Nat) : i ∈ maskList n b.toNat ↔ b.getLsbD i = true := by
  rw [mem_maskList, BitVec.testBit_toNat]
  exact and_iff_right_of_imp fun h => BitVec.lt_of_getLsbD h

/-! ## Changes that take effect at once (spec 01 R16) -/

section
variable {s : State} {h : Hdr} {n : Nat}

theorem stageCheck_of_immediate (hr : ∀ b, h.boundary = some b → 0 ≤ s.spindle.named b.1 ∧ s.spindle.named b.1 ≤ 65536
    ∧ b.2 < s.spindle.lines) : s.stageCheck false h = .accepted := by
  unfold stageCheck
  cases hb : h.boundary with
  | none => simp
  | some b =>
    obtain ⟨hlow, hhigh, hline⟩ := hr b hb
    simp [not_lt.mpr hlow, not_lt.mpr hhigh, Nat.not_le.mpr hline]

/-- A change of no bank completes its command at once. -/
theorem change_of_banks {l : List Change} (hb : (s.each l applyChange).banks = s.banks) (hr : l.contains .restore = false) :
    s.change false h l n = (s.each l applyChange).succeed n [] := by
  have happly : s.applyStaged ⟨0, 0, true, some n, l, none⟩ none = (s.each l applyChange).succeed n [] := by
    simp only [applyStaged, changeResult, hr, Bool.false_eq_true, if_false]
    rfl
  unfold change
  rw [if_neg (by simp), withSwapMarks_eq_of_banks]
  · exact happly
  · rw [happly, succeed_banks, hb]

/-- A change without a named boundary is staged for the line after the present one. -/
theorem change_of_staging (hb : h.boundary = none) (l : List Change) : s.change true h l n = s.modDist fun d => { d with
    staged := d.staged ++ [⟨s.spindle.frame, s.spindle.line, true, some n, l, none⟩] } := by
  unfold change stage
  rw [if_pos rfl, hb]
  rfl

end

section
variable {t : Tick} {h : Hdr} {s : State}

theorem takeIntake_staged (s : State) : s.takeIntake.dist.staged = s.dist.staged := by
  unfold takeIntake
  split <;> rfl

theorem startOf_staged (t : Tick) (op : Nat) (h : Hdr) (s : State) : (s.startOf t op h).dist.staged = s.dist.staged :=
  takeIntake_staged (s.advance t)

/-- What a start keeps of line time. -/
theorem startOf_spindle (t : Tick) (op : Nat) (h : Hdr) (s : State) : (s.startOf t op h).spindle = s.spindle
    ∧ (s.startOf t op h).stages = s.stages ∧ (s.startOf t op h).dev = s.dev := by
  obtain ⟨d, hd⟩ := startOf_eq t op h s
  rw [hd]
  exact ⟨rfl, rfl, rfl⟩

theorem stages_takeIntake (t : Tick) (s : State) : (s.advance t).takeIntake.stages = s.stages := by
  rw [takeIntake_eq]
  rfl

theorem stageCheck_takeIntake (t : Tick) (b : Bool) (s : State) (h : Hdr) :
    (s.advance t).takeIntake.stageCheck b h = s.stageCheck b h := by
  unfold stageCheck
  rw [takeIntake_staged, takeIntake_spindle]
  rfl

/-- A load that a Flyer's state admits. -/
theorem loadCheck_takeIntake {b : Nat} {good : Bool} (hb : b < 16) (hs : (s.flyer b).state = .stopped ∨ (s.flyer b).state = .done)
    (hg : good = true) : loadCheck b good (s.advance t).takeIntake = .accepted := by
  have hflyer : (s.advance t).takeIntake.flyer b = s.flyer b := by rw [takeIntake_eq]; rfl
  unfold loadCheck
  rw [if_neg (Nat.not_le.mpr hb), hflyer, if_neg (by tauto), hg]
  rfl

end

end State

section
variable {t : Tick} {h : Hdr} {s : State}

theorem startOf_flyer (t : Tick) (op : Nat) (h : Hdr) (s : State) : (s.startOf t op h).flyer = s.flyer := by
  obtain ⟨d, hd⟩ := State.startOf_eq t op h s
  rw [hd]
  rfl

/-- A command that changes one Flyer and completes. -/
theorem answered_modFlyer {op b : Nat} (g : Flyer → Flyer) (hw : s.wf = true) (hk : s.takes op h = true) :
    ((((s.startOf t op h).modFlyer b g).succeed s.nextHandle []).answered (s.startOf t op h) op h s.nextHandle 0 0 [])
      ∧ (((s.startOf t op h).modFlyer b g).succeed s.nextHandle []).flyer b = g (s.flyer b)
      ∧ (∀ k, k ≠ b → (((s.startOf t op h).modFlyer b g).succeed s.nextHandle []).flyer k = s.flyer k)
      ∧ ∃ c d x, ((s.startOf t op h).modFlyer b g).succeed s.nextHandle [] = { s with clock := c, dist := d, flyers := x } := by
  have hwb := State.startOf_wf t op h hw
  obtain ⟨d', hd'⟩ := State.succeed_eq s.nextHandle [] ((s.startOf t op h).modFlyer b g)
  have hread : (((s.startOf t op h).modFlyer b g).succeed s.nextHandle []).flyer = ((s.startOf t op h).modFlyer b g).flyer := by
    rw [hd']
    rfl
  refine ⟨State.answered_of_underway (u := (s.startOf t op h).modFlyer b g) hk (.of_dist rfl) 0 0 [], ?_, fun k hk => ?_, ?_⟩
  · rw [hread, State.flyer_modFlyer_same hwb, startOf_flyer]
  · rw [hread, State.flyer_modFlyer_other hwb hk, startOf_flyer]
  · obtain ⟨d, hd⟩ := State.startOf_eq t op h s
    rw [hd', hd]
    exact ⟨_, _, _, rfl⟩

theorem loadShotTable_effect {bank first : Nat} {ds : List (BitVec 128)} (hw : s.wf = true) (hk : s.takes 0x0301 h = true)
    (hb : bank < 16) (hs : (s.flyer bank).state = .stopped ∨ (s.flyer bank).state = .done) (hne : ds ≠ [])
    (hl : first + ds.length ≤ 3072) (hg : ds.all descGood = true) (hm : Store.wf 0 (s.flyer bank).shots = true) :
    ∃ u, exec (.loadShotTable t h bank first ds) s = .next u ∧ u.answered (s.startOf t 0x0301 h) 0x0301 h s.nextHandle 0 0 []
      ∧ (∀ i, i < ds.length → Store.read 0 (u.flyer bank).shots (first + i) = ds.getD i 0)
      ∧ (∀ j, j < first ∨ first + ds.length ≤ j → Store.read 0 (u.flyer bank).shots j = Store.read 0 (s.flyer bank).shots j)
      ∧ (u.flyer bank).code = (s.flyer bank).code ∧ (∀ k, k ≠ bank → u.flyer k = s.flyer k)
      ∧ u = { s with clock := u.clock, dist := u.dist, flyers := u.flyers } := by
  obtain ⟨hanswered, hown, hothers, c, d, x, hsame⟩ := answered_modFlyer (t := t) (b := bank)
    (fun f => { f with shots := State.putWords 0 first ds f.shots }) hw hk
  obtain ⟨hin, hout⟩ := State.read_putWords 0 ds first hm
  refine ⟨_, congrArg Host.Outcome.next (State.command_startOf t hk (State.loadCheck_takeIntake hb hs (by simp [hne, hl, hg]))),
    hanswered, ?_, ?_, ?_, hothers, ?_⟩
  · rw [hown]; exact hin
  · rw [hown]; exact hout
  · rw [hown]
  · rw [hsame]

theorem loadMicrocode_effect {bank first : Nat} {ws : List Word32} (hw : s.wf = true) (hk : s.takes 0x0302 h = true)
    (hb : bank < 16) (hs : (s.flyer bank).state = .stopped ∨ (s.flyer bank).state = .done) (hne : ws ≠ [])
    (hl : first + ws.length ≤ 2048) (hg : ws.all microGood = true) (hm : Store.wf 0 (s.flyer bank).code = true) :
    ∃ u, exec (.loadMicrocode t h bank first ws) s = .next u ∧ u.answered (s.startOf t 0x0302 h) 0x0302 h s.nextHandle 0 0 []
      ∧ (∀ i, i < ws.length → Store.read 0 (u.flyer bank).code (first + i) = ws.getD i 0)
      ∧ (∀ j, j < first ∨ first + ws.length ≤ j → Store.read 0 (u.flyer bank).code j = Store.read 0 (s.flyer bank).code j)
      ∧ (u.flyer bank).shots = (s.flyer bank).shots ∧ (∀ k, k ≠ bank → u.flyer k = s.flyer k)
      ∧ u = { s with clock := u.clock, dist := u.dist, flyers := u.flyers } := by
  obtain ⟨hanswered, hown, hothers, c, d, x, hsame⟩ := answered_modFlyer (t := t) (b := bank)
    (fun f => { f with code := State.putWords 0 first ws f.code }) hw hk
  obtain ⟨hin, hout⟩ := State.read_putWords 0 ws first hm
  refine ⟨_, congrArg Host.Outcome.next (State.command_startOf t hk (State.loadCheck_takeIntake hb hs (by simp [hne, hl, hg]))),
    hanswered, ?_, ?_, ?_, hothers, ?_⟩
  · rw [hown]; exact hin
  · rw [hown]; exact hout
  · rw [hown]
  · rw [hsame]

/-- A boundary that a command may name (spec 15 R359). -/
def InReach (s : State) (h : Hdr) : Prop :=
  ∀ b, h.boundary = some b → 0 ≤ s.spindle.named b.1 ∧ s.spindle.named b.1 ≤ 65536 ∧ b.2 < s.spindle.lines

theorem exec_loadCodeTable {bank first : Nat} {cs : List Word32} (hk : s.takes 0x0303 h = true) (hb : bank < 16) (hne : cs ≠ [])
    (hl : first + cs.length ≤ 256) (hg : cs.all State.codeGood = true) (hc : s.stageCheck s.stages h = .accepted) :
    exec (.loadCodeTable t h bank first cs) s
      = .next ((s.startOf t 0x0303 h).change s.stages h [.codes bank first cs] s.nextHandle) := by
  have hcheck : (s.advance t).takeIntake.stageCheck (s.advance t).takeIntake.stages h = .accepted := by
    rw [State.stages_takeIntake, State.stageCheck_takeIntake, hc]
  have hcommand := State.command_startOf (effect := fun handle s => s.change s.stages h [.codes bank first cs] handle) t hk
    (check := fun s => if 16 ≤ bank then .wrongArg 16 else if cs = [] ∨ 256 < first + cs.length
      ∨ !cs.all State.codeGood then .wrongArg 0xFFFF else s.stageCheck s.stages h)
    ((if_neg (Nat.not_le.mpr hb)).trans ((if_neg (by simp [hne, hl, hg])).trans hcheck))
  obtain ⟨-, hstages, -⟩ := State.startOf_spindle t 0x0303 h s
  rw [hstages] at hcommand
  exact congrArg Host.Outcome.next hcommand

theorem loadCodeTable_effect {bank first : Nat} {cs : List Word32} (hw : s.wf = true) (hk : s.takes 0x0303 h = true)
    (hb : bank < 16) (hne : cs ≠ []) (hl : first + cs.length ≤ 256) (hg : cs.all State.codeGood = true)
    (hs : s.stages = false) (hr : InReach s h) (hm : Store.wf 0 (s.flyer bank).codes = true) :
    ∃ u, exec (.loadCodeTable t h bank first cs) s = .next u ∧ u.answered (s.startOf t 0x0303 h) 0x0303 h s.nextHandle 0 0 []
      ∧ (∀ i, i < cs.length → Store.read 0 (u.flyer bank).codes (first + i) = cs.getD i 0)
      ∧ (∀ j, j < first ∨ first + cs.length ≤ j → Store.read 0 (u.flyer bank).codes j = Store.read 0 (s.flyer bank).codes j)
      ∧ (∀ k, k ≠ bank → u.flyer k = s.flyer k) ∧ u = { s with clock := u.clock, dist := u.dist, flyers := u.flyers } := by
  have hexec := exec_loadCodeTable (t := t) hk hb hne hl hg (by rw [hs]; exact State.stageCheck_of_immediate hr)
  rw [hs, State.change_of_banks (by rfl) (by rfl)] at hexec
  obtain ⟨hanswered, hown, hothers, c, d, x, hsame⟩ := answered_modFlyer (t := t) (b := bank)
    (fun f => { f with codes := State.putWords 0 first cs f.codes }) hw hk
  obtain ⟨hin, hout⟩ := State.read_putWords 0 cs first hm
  refine ⟨_, hexec, hanswered, ?_, ?_, hothers, ?_⟩
  · exact fun i hi => (congrArg (fun f : Flyer => Store.read 0 f.codes (first + i)) hown).trans (hin i hi)
  · exact fun j hj => (congrArg (fun f : Flyer => Store.read 0 f.codes j) hown).trans (hout j hj)
  · exact hsame ▸ rfl

theorem loadCodeTable_staged {bank first : Nat} {cs : List Word32} (hk : s.takes 0x0303 h = true)
    (hb : bank < 16) (hne : cs ≠ []) (hl : first + cs.length ≤ 256) (hg : cs.all State.codeGood = true)
    (hs : s.stages = true) (hn : h.boundary = none) (hfew : (s.dist.staged.filter fun x => x.handle.isSome).length < 64) :
    ∃ u, exec (.loadCodeTable t h bank first cs) s = .next u ∧ u.waits (s.startOf t 0x0303 h) s.nextHandle
      ∧ u.dist.staged = s.dist.staged
        ++ [⟨s.spindle.frame, s.spindle.line, true, some s.nextHandle, [.codes bank first cs], none⟩]
      ∧ u = { s with clock := u.clock, dist := u.dist } := by
  have hexec := exec_loadCodeTable (t := t) hk hb hne hl hg (by simp [State.stageCheck, hn, hfew])
  obtain ⟨hspindle, -⟩ := State.startOf_spindle t 0x0303 h s
  rw [hs, State.change_of_staging hn, hspindle] at hexec
  refine ⟨_, hexec, State.waits_of_underway hk ⟨rfl, List.prefix_refl _⟩, ?_, ?_⟩
  · exact congrArg (· ++ _) (State.startOf_staged t 0x0303 h s)
  · obtain ⟨d, hd⟩ := State.startOf_eq t 0x0303 h s
    rw [hd]
    rfl

theorem loadListeningSets_effect {bank first : Nat} {xs : List (BitVec 256)} (hw : s.wf = true) (hk : s.takes 0x0304 h = true)
    (hb : bank < 16) (hne : xs ≠ []) (hl : first + xs.length ≤ 64) (hg : xs.all State.setGood = true)
    (hs : s.stages = false) (hr : InReach s h) (hm : Store.wf 0 (s.flyer bank).sets = true) :
    ∃ u, exec (.loadListeningSets t h bank first xs) s = .next u
      ∧ u.answered (s.startOf t 0x0304 h) 0x0304 h s.nextHandle 0 0 []
      ∧ (∀ i, i < xs.length → Store.read 0 (u.flyer bank).sets (first + i) = xs.getD i 0)
      ∧ (∀ j, j < first ∨ first + xs.length ≤ j → Store.read 0 (u.flyer bank).sets j = Store.read 0 (s.flyer bank).sets j)
      ∧ (∀ k, k ≠ bank → u.flyer k = s.flyer k) ∧ u = { s with clock := u.clock, dist := u.dist, flyers := u.flyers } := by
  have hcheck : (s.advance t).takeIntake.stageCheck (s.advance t).takeIntake.stages h = .accepted := by
    rw [State.stages_takeIntake, State.stageCheck_takeIntake, hs]
    exact State.stageCheck_of_immediate hr
  have hcommand := State.command_startOf (effect := fun handle s => s.change s.stages h [.sets bank first xs] handle) t hk
    (check := fun s => if 16 ≤ bank then .wrongArg 16 else if xs = [] ∨ 64 < first + xs.length
      ∨ !xs.all State.setGood then .wrongArg 0xFFFF else s.stageCheck s.stages h)
    ((if_neg (Nat.not_le.mpr hb)).trans ((if_neg (by simp [hne, hl, hg])).trans hcheck))
  obtain ⟨-, hstages, -⟩ := State.startOf_spindle t 0x0304 h s
  rw [hstages, hs, State.change_of_banks (by rfl) (by rfl)] at hcommand
  have hexec : exec (.loadListeningSets t h bank first xs) s = .next _ := congrArg Host.Outcome.next hcommand
  obtain ⟨hanswered, hown, hothers, c, d, x, hsame⟩ := answered_modFlyer (t := t) (b := bank)
    (fun f => { f with sets := State.putWords 0 first xs f.sets }) hw hk
  obtain ⟨hin, hout⟩ := State.read_putWords 0 xs first hm
  refine ⟨_, hexec, hanswered, ?_, ?_, hothers, ?_⟩
  · exact fun i hi => (congrArg (fun f : Flyer => Store.read 0 f.sets (first + i)) hown).trans (hin i hi)
  · exact fun j hj => (congrArg (fun f : Flyer => Store.read 0 f.sets j) hown).trans (hout j hj)
  · exact hsame ▸ rfl

end

end Sys2Proof.Machine
end

section
/-! PROOFS. Seeds, coefficients and their swaps, and flags that a command clears (spec 03 R80, 07 R172, R173, 05 R120). -/

namespace Sys2Proof.Machine

namespace State

theorem noCheck_accepted (s : State) : State.noCheck s = .accepted := rfl

/-! ## Copies of coefficients -/

/-- Only banks change, and of each neither the copies nor the one that is active. -/
structure CopiesFixed (s u : State) : Prop where
  only : ∃ x, u = { s with banks := x }
  wf : s.wf = true → u.wf = true
  bank : s.wf = true → ∀ k, (u.bank k).activeB = (s.bank k).activeB ∧ (u.bank k).copyA = (s.bank k).copyA
    ∧ (u.bank k).copyB = (s.bank k).copyB

theorem CopiesFixed.refl (s : State) : CopiesFixed s s := ⟨⟨s.banks, rfl⟩, id, fun _ _ => ⟨rfl, rfl, rfl⟩⟩

theorem CopiesFixed.trans {a b c : State} (h : CopiesFixed a b) (k : CopiesFixed b c) : CopiesFixed a c := by
  obtain ⟨x, hx⟩ := h.only
  obtain ⟨y, hy⟩ := k.only
  refine ⟨⟨y, by rw [hy, hx]⟩, fun hw => k.wf (h.wf hw), fun hw i => ?_⟩
  obtain ⟨hactive, ha, hb⟩ := h.bank hw i
  obtain ⟨kactive, ka, kb⟩ := k.bank (h.wf hw) i
  exact ⟨kactive.trans hactive, ka.trans ha, kb.trans hb⟩

theorem modBank_copiesFixed (b : Nat) {g : Bank → Bank}
    (hg : ∀ x, (g x).activeB = x.activeB ∧ (g x).copyA = x.copyA ∧ (g x).copyB = x.copyB) (s : State) :
    CopiesFixed s (s.modBank b g) := by
  refine ⟨⟨_, rfl⟩, fun hw => wf_modBank hw b g, fun hw k => ?_⟩
  by_cases hk : k = b
  · subst hk
    rw [bank_modBank_same hw]
    exact hg _
  · rw [bank_modBank_other hw hk]
    exact ⟨rfl, rfl, rfl⟩

/-- Marks of swaps change no copy (spec 07 R174, R188). -/
theorem withSwapMarks_copiesFixed (f : State → State) (s : State) : CopiesFixed (f s) (s.withSwapMarks f) := by
  refine each_rel CopiesFixed.refl CopiesFixed.trans (fun b t => ?_) _ _
  rw [cond_eq]
  split
  · exact (modBank_copiesFixed b (by exact fun _ => ⟨rfl, rfl, rfl⟩) t).trans
      (modBank_copiesFixed b (by exact fun _ => ⟨rfl, rfl, rfl⟩) _)
  · exact .refl t

/-- Swaps of a list of banks. -/
theorem eachSwap_eq (l : List Nat) (s : State) : s.each (l.map Change.swap) applyChange
    = s.each l fun b => modBank b fun x => { x with activeB := !x.activeB, swapStaged := false, mismatch := false } := by
  simp only [each, List.foldl_map]
  rfl

/-! ## Flags -/

/-- A flag cleared twice is a flag cleared once (spec 05 R120). -/
theorem eachClearClamp_effect (l : List Nat) : ∀ {s : State}, s.wf = true →
    ∃ x, s.each l clearClamp = { s with chans := x }
      ∧ (∀ c, c ∈ l → (s.each l clearClamp).chan c = { s.chan c with fe := { (s.chan c).fe with
            clampFlag := (s.chan c).fe.clampFlag && decide ((s.chan c).fe.clampAt = some s.now) } })
      ∧ ∀ c, c ∉ l → (s.each l clearClamp).chan c = s.chan c := by
  induction l with
  | nil => exact fun {s} _ => ⟨s.chans, rfl, fun c hc => absurd hc List.not_mem_nil, fun _ _ => rfl⟩
  | cons b l ih =>
    intro s hw
    have hown : (s.clearClamp b).chan b = { s.chan b with fe := { (s.chan b).fe with
        clampFlag := (s.chan b).fe.clampFlag && decide ((s.chan b).fe.clampAt = some s.now) } } := chan_modChan_same hw b _
    have hother : ∀ c, c ≠ b → (s.clearClamp b).chan c = s.chan c := fun c hc => chan_modChan_other hw hc _
    obtain ⟨x, heq, hin, hout⟩ := ih (s := s.clearClamp b) ((modChan_kept (.refl s)).wf hw)
    have hnow : (s.clearClamp b).now = s.now := rfl
    rw [hnow] at hin
    refine ⟨x, heq, fun c hc => ?_, fun c hc => ?_⟩
    · by_cases hl : c ∈ l
      · refine (hin c hl).trans ?_
        by_cases hcb : c = b
        · subst hcb
          simp [hown]
        · rw [hother c hcb]
      · rw [List.mem_cons, or_iff_left hl] at hc
        subst hc
        exact (hout c hl).trans hown
    · rw [List.mem_cons, not_or] at hc
      exact (hout c hc.2).trans (hother c hc.1)

end State

section
variable {t : Tick} {h : Hdr} {s : State}

theorem startOf_bank (t : Tick) (op : Nat) (h : Hdr) (s : State) : (s.startOf t op h).bank = s.bank := by
  obtain ⟨d, hd⟩ := State.startOf_eq t op h s
  rw [hd]
  rfl

theorem startOf_chan (t : Tick) (op : Nat) (h : Hdr) (s : State) : (s.startOf t op h).chan = s.chan := by
  obtain ⟨d, hd⟩ := State.startOf_eq t op h s
  rw [hd]
  rfl

/-- None of the named banks has a swap staged. -/
theorem none_swapStaged (hs : ∀ b, b < 16 → (s.bank b).swapStaged = false) (banks : Nat) :
    ((maskList 16 banks).any fun b => (s.bank b).swapStaged) = false := by
  rw [List.any_eq_false]
  exact fun b hb => by simp [hs b (State.mem_maskList.mp hb).1]

/-- A Flyer whose generator starts from the device seed and its number (spec 03 R80). -/
def seeded (seed : BitVec 64) (b : Nat) (f : Flyer) : Flyer :=
  let g := seed ^^^ (BitVec.ofNat 64 (b + 1) * seedStep)
  { f with gen := if g = 0 then 1 else g }

theorem setSeed_eq (seed : BitVec 64) (s : State) :
    s.setSeed seed = s.each (List.range 16) fun b => State.modFlyer b (seeded seed b) := rfl

theorem loadSeed_effect (seed : BitVec 64) (hw : s.wf = true) (hk : s.takes 0x0305 h = true) :
    ∃ u, exec (.loadSeed t h seed) s = .next u ∧ u.answered (s.startOf t 0x0305 h) 0x0305 h s.nextHandle 0 0 []
      ∧ (∀ b, b < 16 → (u.flyer b).gen
          = (let g := seed ^^^ (BitVec.ofNat 64 (b + 1) * 0x9E3779B97F4A7C15); if g = 0 then 1 else g))
      ∧ (∀ b, { u.flyer b with gen := 0 } = { s.flyer b with gen := 0 })
      ∧ u = { s with clock := u.clock, dist := u.dist, flyers := u.flyers } := by
  obtain ⟨u, hu⟩ : ∃ u, u = (s.startOf t 0x0305 h).each (List.range 16) fun b => State.modFlyer b (seeded seed b) := ⟨_, rfl⟩
  have hexec : exec (.loadSeed t h seed) s = .next (u.succeed s.nextHandle []) := by
    refine congrArg Host.Outcome.next ((State.command_startOf t hk (State.noCheck_accepted _)).trans ?_)
    rw [hu, setSeed_eq]
  obtain ⟨x, heq, hread⟩ := State.eachFlyer_effect (seeded seed) List.nodup_range (l := List.range 16)
    (State.startOf_wf t 0x0305 h hw)
  rw [← hu] at heq hread
  rw [startOf_flyer] at hread
  obtain ⟨d, hd⟩ := State.startOf_eq t 0x0305 h s
  obtain ⟨e, he⟩ := State.succeed_eq s.nextHandle [] u
  have hflyer : (u.succeed s.nextHandle []).flyer = u.flyer := by rw [he]; rfl
  refine ⟨_, hexec, State.answered_of_underway hk (.of_dist (by rw [heq])) 0 0 [], fun b hb => ?_, fun b => ?_, ?_⟩
  · rw [hflyer, hread, if_pos (List.mem_range.mpr hb)]
    rfl
  · rw [hflyer, hread]
    split <;> rfl
  · rw [he, heq, hd]
    rfl

theorem loadCoefficients_effect {banks : BitVec 16} {image : CoefImage} (hw : s.wf = true) (hk : s.takes 0x0701 h = true)
    (hne : banks ≠ 0) (hg : imageGood image = true) (hs : ∀ b, b < 16 → (s.bank b).swapStaged = false) :
    ∃ u, exec (.loadCoefficients t h banks image) s = .next u
      ∧ u.answered (s.startOf t 0x0701 h) 0x0701 h s.nextHandle 0 0 []
      ∧ (∀ b, b < 16 → u.bank b = if banks.getLsbD b then
          (if (s.bank b).activeB then { s.bank b with copyA := imageSet image } else { s.bank b with copyB := imageSet image })
        else s.bank b)
      ∧ u = { s with clock := u.clock, dist := u.dist, banks := u.banks } := by
  have hbank : (s.advance t).takeIntake.bank = s.bank := by rw [State.takeIntake_eq]; rfl
  have hexec : exec (.loadCoefficients t h banks image) s = .next (((s.startOf t 0x0701 h).each (maskList 16 banks.toNat)
      fun b => State.modBank b fun x => if x.activeB then { x with copyA := imageSet image }
        else { x with copyB := imageSet image }).succeed s.nextHandle []) := by
    refine congrArg Host.Outcome.next (State.command_startOf t hk ?_)
    rw [hbank, none_swapStaged hs, if_neg hne, if_neg (by simp [hg]), if_neg (by simp)]
  obtain ⟨x, heq, hread⟩ := State.eachBank_effect (fun x => if x.activeB then { x with copyA := imageSet image }
        else { x with copyB := imageSet image }) (State.nodup_maskList 16 banks.toNat) (State.startOf_wf t 0x0701 h hw)
  rw [startOf_bank] at hread
  obtain ⟨u, hu⟩ : ∃ u, u = (s.startOf t 0x0701 h).each (maskList 16 banks.toNat) fun b => State.modBank b fun x =>
    if x.activeB then { x with copyA := imageSet image } else { x with copyB := imageSet image } := ⟨_, rfl⟩
  rw [← hu] at hexec hread heq
  obtain ⟨d, hd⟩ := State.startOf_eq t 0x0701 h s
  obtain ⟨e, he⟩ := State.succeed_eq s.nextHandle [] u
  refine ⟨_, hexec, State.answered_of_underway hk (.of_dist (by rw [heq])) 0 0 [], fun b _ => ?_, ?_⟩
  · have hown : (u.succeed s.nextHandle []).bank b = u.bank b := by rw [he]; rfl
    rw [hown, hread]
    simp only [State.mem_maskList_bitVec]
  · rw [he, heq, hd]
    rfl

theorem swapCoefficients_effect {banks : BitVec 16} (hw : s.wf = true) (hk : s.takes 0x0702 h = true)
    (hne : banks ≠ 0) (ht : s.spindle.hasTime = false) (hr : InReach s h) (hs : ∀ b, b < 16 → (s.bank b).swapStaged = false) :
    ∃ u, exec (.swapCoefficients t h banks) s = .next u
      ∧ u.answered (s.startOf t 0x0702 h) 0x0702 h s.nextHandle 0 0 []
      ∧ (∀ b, b < 16 → (u.bank b).activeB = ((s.bank b).activeB ^^ banks.getLsbD b) ∧ (u.bank b).copyA = (s.bank b).copyA
          ∧ (u.bank b).copyB = (s.bank b).copyB)
      ∧ u = { s with clock := u.clock, dist := u.dist, banks := u.banks } := by
  have hbank : (s.advance t).takeIntake.bank = s.bank := by rw [State.takeIntake_eq]; rfl
  have hintake : (s.advance t).takeIntake.spindle.hasTime = false := by rw [State.takeIntake_spindle]; exact ht
  have hstart : (s.startOf t 0x0702 h).spindle.hasTime = false := by
    rw [(State.startOf_spindle t 0x0702 h s).1, ht]
  have hexec : exec (.swapCoefficients t h banks) s = .next ((s.startOf t 0x0702 h).change false h
      ((maskList 16 banks.toNat).map Change.swap) s.nextHandle) := by
    refine congrArg Host.Outcome.next ((State.command_startOf t hk ?_).trans ?_)
    · rw [hbank, none_swapStaged hs, if_neg hne, if_neg (by simp)]
      beta_reduce
      rw [hintake, Bool.and_false, State.stageCheck_takeIntake]
      exact State.stageCheck_of_immediate hr
    · simp only [hstart, Bool.and_false, State.cond_eq, Bool.false_eq_true, if_false]
  obtain ⟨f, hf⟩ : ∃ f : State → State, f = fun s' => s'.applyStaged ⟨0, 0, true, some s.nextHandle,
    (maskList 16 banks.toNat).map Change.swap, none⟩ none := ⟨_, rfl⟩
  have hmarks : (s.startOf t 0x0702 h).change false h ((maskList 16 banks.toNat).map Change.swap) s.nextHandle
      = (s.startOf t 0x0702 h).withSwapMarks f := by rw [hf]; rfl
  obtain ⟨v, hv⟩ : ∃ v, v = (s.startOf t 0x0702 h).each (maskList 16 banks.toNat) fun b => State.modBank b fun x =>
    { x with activeB := !x.activeB, swapStaged := false, mismatch := false } := ⟨_, rfl⟩
  have happly : f (s.startOf t 0x0702 h) = v.succeed s.nextHandle [] := by
    have hno : ((maskList 16 banks.toNat).map Change.swap).contains Change.restore = false := by simp
    simp only [hf, State.applyStaged, State.changeResult, hno, Bool.false_eq_true, if_false, State.eachSwap_eq, ← hv]
    rfl
  obtain ⟨x, heq, hread⟩ := State.eachBank_effect (fun x : Bank => { x with
    activeB := !x.activeB, swapStaged := false, mismatch := false }) (State.nodup_maskList 16 banks.toNat)
    (State.startOf_wf t 0x0702 h hw)
  rw [startOf_bank] at hread
  rw [← hv] at heq hread
  obtain ⟨d, hd⟩ := State.startOf_eq t 0x0702 h s
  obtain ⟨e, he⟩ := State.succeed_eq s.nextHandle [] v
  have hanswered := State.answered_of_underway (u := v) hk (.of_dist (by rw [heq])) 0 0 []
  have hwv : (v.succeed s.nextHandle []).wf = true := by
    rw [he, hv]
    exact (State.each_kept (fun _ u => State.modBank_kept (.refl u)) (.refl _)).wf (State.startOf_wf t 0x0702 h hw)
  obtain ⟨⟨y, hy⟩, -, hcopies⟩ := State.withSwapMarks_copiesFixed f (s.startOf t 0x0702 h)
  rw [happly] at hy hcopies
  obtain ⟨u, hu⟩ : ∃ u, u = (s.startOf t 0x0702 h).withSwapMarks f := ⟨_, rfl⟩
  rw [← hu] at hy hcopies hmarks
  rw [hmarks] at hexec
  refine ⟨u, hexec, by rw [hy]; exact hanswered, fun b _ => ?_, ?_⟩
  · obtain ⟨hactive, ha, hb⟩ := hcopies hwv b
    have hown : (v.succeed s.nextHandle []).bank b = v.bank b := by rw [he]; rfl
    rw [hown, hread] at hactive ha hb
    simp only [State.mem_maskList_bitVec] at hactive ha hb
    rw [hactive, ha, hb]
    by_cases hbit : banks.getLsbD b = true
    · simp [hbit]
    · simp [hbit]
  · rw [hy, he, heq, hd]
    rfl

theorem clearFlags_effect {targets : List Nat} {mask : Nat} (hw : s.wf = true) (hnow : s.now ≤ t)
    (hk : s.takes 0x0F13 h = true) (hm : mask.testBit 0 = true) :
    ∃ u, exec (.clearFlags t h targets mask) s = .next u ∧ u.answered (s.startOf t 0x0F13 h) 0x0F13 h s.nextHandle 0 0 []
      ∧ (∀ c, c ∈ targets → u.chan c = { s.chan c with fe := { (s.chan c).fe with
          clampFlag := (s.chan c).fe.clampFlag && decide ((s.chan c).fe.clampAt = some t) } })
      ∧ (∀ c, c ∉ targets → u.chan c = s.chan c) ∧ u = { s with clock := u.clock, dist := u.dist, chans := u.chans } := by
  obtain ⟨u, hu⟩ : ∃ u, u = (s.startOf t 0x0F13 h).each targets State.clearClamp := ⟨_, rfl⟩
  have hexec : exec (.clearFlags t h targets mask) s = .next (u.succeed s.nextHandle []) := by
    refine congrArg Host.Outcome.next ((State.command_startOf t hk (State.noCheck_accepted _)).trans ?_)
    rw [State.clearFlagsOf, State.cond_eq, if_pos hm, ← hu]
  obtain ⟨x, heq, hin, hout⟩ := State.eachClearClamp_effect targets (State.startOf_wf t 0x0F13 h hw)
  rw [startOf_chan, State.startOf_now 0x0F13 h hnow] at hin
  rw [startOf_chan] at hout
  rw [← hu] at heq hin hout
  obtain ⟨d, hd⟩ := State.startOf_eq t 0x0F13 h s
  obtain ⟨e, he⟩ := State.succeed_eq s.nextHandle [] u
  have hchan : (u.succeed s.nextHandle []).chan = u.chan := by rw [he]; rfl
  refine ⟨_, hexec, State.answered_of_underway hk (.of_dist (by rw [heq])) 0 0 [], fun c hc => ?_, fun c hc => ?_, ?_⟩
  · rw [hchan, hin c hc]
  · rw [hchan, hout c hc]
  · rw [he, heq, hd]
    rfl

end

end Sys2Proof.Machine
end

section
/-! PROOFS. SET PARAMETERS where nothing is staged and where a boundary is waited for (spec 15 R365, 01 R16). -/

namespace Sys2Proof.Machine

namespace State

section
variable {h : Hdr} {k : Nat} {targets : List Nat} {items : List Item} {s u : State}

theorem trial_congr (hp : u.dist.params = s.dist.params) (items : List Item) (id x : Nat) :
    u.trial items id x = s.trial items id x := by
  simp only [trial, param, paramAt, hp]

/-- The checks of SET PARAMETERS rest on the device state, line time, what is staged and the parameters in force. -/
theorem setCheck_congr (hp : u.dist.params = s.dist.params) (hg : u.dist.staged = s.dist.staged) (hd : u.dev = s.dev)
    (hs : u.spindle = s.spindle) : setCheck h k targets items u = setCheck h k targets items s := by
  have hcross : ∀ l, u.crossGood l items = s.crossGood l items := fun l => by simp only [crossGood, trial_congr hp]
  have hstage : ∀ b, u.stageCheck b h = s.stageCheck b h := fun b => by simp only [stageCheck, hg, hs]
  have hwaits : u.waitsForOrigin items = s.waitsForOrigin items := by simp only [waitsForOrigin, hs]
  have hstages : u.stages = s.stages := by simp only [stages, hd, hs]
  simp only [setCheck, hcross, hstage, hwaits, hstages, hd]

theorem setCheck_takeIntake (t : Tick) (s : State) :
    setCheck h k targets items (s.advance t).takeIntake = setCheck h k targets items s := by
  rw [setCheck_congr (takeIntake_params (s.advance t)) (takeIntake_staged (s.advance t)) ?_ ?_]
  · rfl
  · rw [takeIntake_eq]
    rfl
  · rw [takeIntake_eq]
    rfl

theorem scopeGood_of_accepted (hc : setCheck h k targets items s = .accepted) : scopeGood k targets = true := by
  unfold setCheck at hc
  by_contra hn
  rw [Bool.not_eq_true] at hn
  split at hc
  · exact absurd hc (by simp)
  · rw [hn] at hc
    split at hc <;> simp at hc

end

/-! ## One parameter of a bank -/

theorem paramDef_reportLevel : paramDef Par.reportLevel = some ⟨Par.reportLevel, 2, [some (0, 2)], ⟨0, 1⟩, .anyFromSafe, true⟩ := by
  decide +kernel

/-- A parameter's entries are kept apart by their ids and targets. -/
theorem paramKey_inj {id id' x x' : Nat} (hx : x < 256) (hx' : x' < 256) (h : paramKey id 0 x = paramKey id' 0 x') :
    (id, x) = (id', x') := by
  unfold paramKey at h
  rw [Prod.mk.injEq]
  omega

theorem param_setParam_other {s : State} (hw : Store.wf none s.dist.params = true) {id id' x x' : Nat} {v : PVal}
    (hne : (id', x') ≠ (id, x)) (hx : x < 256) (hx' : x' < 256) : (s.setParam id 0 x v).param id' x' = s.param id' x' := by
  rw [param, paramAt, setParam, modDist_dist, Store.read_write_other none _ none _ _ _ hw]
  · rfl
  · exact fun h => hne (paramKey_inj hx' hx h)

/-- The report level of a bank takes its value, and nothing else is changed (spec 09 Table 9-1). -/
theorem applyItem_reportLevel {b : Nat} {v : Int} {s : State} (hb : b < 256) (hw : Store.wf none s.dist.params = true) :
    ∃ p, s.applyItem b ⟨Par.reportLevel, 0, v⟩ = (s.modDist fun d => { d with params := p })
      ∧ (s.applyItem b ⟨Par.reportLevel, 0, v⟩).param Par.reportLevel b = ⟨0, v⟩
      ∧ ∀ id x, (id, x) ≠ (Par.reportLevel, b) → x < 256 →
        (s.applyItem b ⟨Par.reportLevel, 0, v⟩).param id x = s.param id x := by
  have happly : s.applyItem b ⟨Par.reportLevel, 0, v⟩
      = if s.paramAt Par.reportLevel 0 b = ⟨0, v⟩ then s else s.setParam Par.reportLevel 0 b ⟨0, v⟩ := by
    simp only [applyItem, paramDef_reportLevel]
    rfl
  rw [happly]
  split
  · next hsame => exact ⟨s.dist.params, rfl, hsame, fun _ _ _ _ => rfl⟩
  · exact ⟨_, rfl, paramAt_setParam_same hw _ _ _ _, fun id x hne hx => param_setParam_other hw hne hb hx⟩

/-- A completion changes neither what is staged nor any parameter. -/
theorem succeed_staged_params (n : Nat) (r : List Byte) (s : State) :
    (s.succeed n r).dist.staged = s.dist.staged ∧ (s.succeed n r).dist.params = s.dist.params := by
  unfold succeed completeWith
  split <;> exact ⟨rfl, rfl⟩

end State

section
variable {t : Tick} {h : Hdr} {scope : Nat} {targets : List Nat} {items : List Item} {s : State}

theorem setParameters_staged (hk : s.takes 0x0F10 h = true) (hc : State.setCheck h scope targets items s = .accepted)
    (hs : s.stages = true) (hany : State.anyStaged items = true) (hn : h.boundary = none) (ho : s.waitsForOrigin items = false)
    (hb : items.all (fun i => !State.stopsBias i) = true) :
    ∃ u, exec (.setParameters t h scope targets items) s = .next u ∧ u.waits (s.startOf t 0x0F10 h) s.nextHandle
      ∧ u.dist.staged = s.dist.staged
        ++ [⟨s.spindle.frame, s.spindle.line, true, some s.nextHandle, State.setChanges scope targets items, none⟩]
      ∧ u = { s with clock := u.clock, dist := u.dist } := by
  obtain ⟨hspindle, hstages, -⟩ := State.startOf_spindle t 0x0F10 h s
  have hwaits : (s.startOf t 0x0F10 h).waitsForOrigin items = false := by rw [State.waitsForOrigin, hspindle]; exact ho
  have hstop : items.filter State.stopsBias = [] := by
    rw [List.filter_eq_nil_iff]
    simpa using hb
  have hrest : (items.filter fun i => !State.stopsBias i) = items := List.filter_eq_self.mpr (List.all_eq_true.mp hb)
  have hexec : exec (.setParameters t h scope targets items) s
      = .next ((s.startOf t 0x0F10 h).change true h (State.setChanges scope targets items) s.nextHandle) := by
    refine congrArg Host.Outcome.next ((State.command_startOf t hk ((State.setCheck_takeIntake t s).trans hc)).trans ?_)
    simp only [hwaits, hstages, hs, hany, hstop, hrest, Bool.false_eq_true, if_false, Bool.and_self, if_true]
    rfl
  rw [State.change_of_staging hn, hspindle] at hexec
  refine ⟨_, hexec, State.waits_of_underway hk ⟨rfl, List.prefix_refl _⟩, ?_, ?_⟩
  · exact congrArg (· ++ _) (State.startOf_staged t 0x0F10 h s)
  · obtain ⟨d, hd⟩ := State.startOf_eq t 0x0F10 h s
    rw [hd]
    rfl

theorem setReportLevel_effect {b : Nat} {v : Int} (hk : s.takes 0x0F10 h = true)
    (hc : State.setCheck h 2 [b] [⟨Par.reportLevel, 0, v⟩] s = .accepted) (hs : s.stages = false)
    (hw : Store.wf none s.dist.params = true) (hfree : ∀ x, x ∈ s.dist.staged → x.free = none) :
    ∃ u, exec (.setParameters t h 2 [b] [⟨Par.reportLevel, 0, v⟩]) s = .next u
      ∧ u.answered (s.startOf t 0x0F10 h) 0x0F10 h s.nextHandle 0 0 [] ∧ u.pnum Par.reportLevel b = v.toNat
      ∧ (∀ id x, (id, x) ≠ (Par.reportLevel, b) → x < 256 → u.param id x = s.param id x)
      ∧ u = { s with clock := u.clock, dist := u.dist } := by
  have hb : b < 16 := by simpa [State.scopeGood, State.scopeSize, nth] using State.scopeGood_of_accepted hc
  obtain ⟨hspindle, hstages, -⟩ := State.startOf_spindle t 0x0F10 h s
  have hwaits : (s.startOf t 0x0F10 h).waitsForOrigin [⟨Par.reportLevel, 0, v⟩] = false := by
    simp [State.waitsForOrigin, Par.reportLevel, Par.freePeriod, Par.declaredLines]
  obtain ⟨p, happly, hown, hother⟩ := State.applyItem_reportLevel (v := v) (s := s.startOf t 0x0F10 h) (b := b) (by omega)
    (by rw [State.startOf_params]; exact hw)
  obtain ⟨u, hu⟩ : ∃ u, u = (s.startOf t 0x0F10 h).applyItem b ⟨Par.reportLevel, 0, v⟩ := ⟨_, rfl⟩
  rw [← hu] at happly hown hother
  have heach : (s.startOf t 0x0F10 h).each [Change.item b ⟨Par.reportLevel, 0, v⟩] State.applyChange = u := hu.symm
  have hchange : (s.startOf t 0x0F10 h).change false h [.item b ⟨Par.reportLevel, 0, v⟩] s.nextHandle
      = u.succeed s.nextHandle [] := by
    rw [State.change_of_banks _ rfl, heach]
    rw [heach, happly]
    rfl
  have hgone : (u.succeed s.nextHandle []).originsGone = u.succeed s.nextHandle [] := by
    have hnone : (u.succeed s.nextHandle []).dist.staged = s.dist.staged := by
      rw [(State.succeed_staged_params ..).1, happly]
      exact State.startOf_staged t 0x0F10 h s
    unfold State.originsGone
    rw [State.cond_eq, if_neg]
    rw [hnone]
    simpa using fun _ x hx => hfree x hx
  have hexec : exec (.setParameters t h 2 [b] [⟨Par.reportLevel, 0, v⟩]) s = .next (u.succeed s.nextHandle []) := by
    refine congrArg Host.Outcome.next ((State.command_startOf t hk ((State.setCheck_takeIntake t s).trans hc)).trans ?_)
    simp only [hwaits, hstages, hs, Bool.false_and, Bool.false_eq_true, if_false]
    exact (congrArg State.originsGone hchange).trans hgone
  have hparam : (u.succeed s.nextHandle []).param = u.param := by
    funext id x
    simp only [State.param, State.paramAt, (State.succeed_staged_params ..).2]
  refine ⟨_, hexec, State.answered_of_underway hk (by rw [happly]; exact ⟨rfl, List.prefix_refl _⟩) 0 0 [], ?_, ?_, ?_⟩
  · rw [State.pnum, hparam, hown]
  · intro id x hne hx
    rw [hparam, hother id x hne hx, State.param, State.paramAt, State.startOf_params]
    rfl
  · obtain ⟨d, hd⟩ := State.startOf_eq t 0x0F10 h s
    obtain ⟨e, he⟩ := State.succeed_eq s.nextHandle [] u
    rw [he, happly, hd]
    rfl

end

end Sys2Proof.Machine
end

section
/-! PROOFS. What reports do to the non-volatile store: they queue page writes of the log behind those that wait, and write
nothing at once (spec 18 R433, R436). -/

namespace Sys2Proof.Machine.State

/-- The store and the supply's view stand, no object is committed, and page writes are queued behind those that wait, none
where writes are refused (spec 18 R424, R436). -/
structure LogsOnly (s u : State) : Prop where
  nv : u.nv = s.nv
  power : u.power = s.power
  objects : u.nvCtl.objects = s.nvCtl.objects
  jobs : s.nvCtl.jobs <+: u.nvCtl.jobs
  refused : s.power.nvAllowed = false → u.nvCtl.jobs = s.nvCtl.jobs

namespace LogsOnly
variable {a b c : State}

theorem refl (s : State) : LogsOnly s s := ⟨rfl, rfl, rfl, List.prefix_refl _, fun _ => rfl⟩

theorem trans (h : LogsOnly a b) (k : LogsOnly b c) : LogsOnly a c :=
  ⟨k.nv.trans h.nv, k.power.trans h.power, k.objects.trans h.objects, h.jobs.trans k.jobs,
    fun ha => (k.refused (by rw [h.power]; exact ha)).trans (h.refused ha)⟩

/-- What touches neither the store, its control nor the supply. -/
theorem of_same (hn : b.nv = a.nv) (hp : b.power = a.power) (hc : b.nvCtl = a.nvCtl) : LogsOnly a b :=
  ⟨hn, hp, by rw [hc], by rw [hc], fun _ => by rw [hc]⟩

/-- What touches of the store's control neither the objects nor the queue. -/
theorem of_ctl {g : NvCtl → NvCtl} (ho : (g a.nvCtl).objects = a.nvCtl.objects) (hj : (g a.nvCtl).jobs = a.nvCtl.jobs) :
    LogsOnly a (a.modNvCtl g) := ⟨rfl, rfl, ho, ⟨[], by rw [List.append_nil]; exact hj.symm⟩, fun _ => hj⟩

theorem each {α : Type} {l : List α} {f : α → State → State} (h : ∀ x s, LogsOnly s (f x s)) (s : State) :
    LogsOnly s (s.each l f) := each_rel refl trans h l s

theorem cond {p : Bool} {f : State → State} (s : State) (h : p = true → LogsOnly s (f s)) : LogsOnly s (s.cond p f) := by
  rw [cond_eq]
  split
  · next hp => exact h hp
  · exact refl s

end LogsOnly

theorem queueWrites_logsOnly {s : State} (hp : s.power.nvAllowed = true) (l : List PageJob) : LogsOnly s (s.queueWrites l) :=
  ⟨rfl, rfl, rfl, List.prefix_append _ _, fun hf => absurd (hp.symm.trans hf) (by decide)⟩

theorem logWrite_logsOnly {s : State} (hp : s.power.nvAllowed = true) (body : List Byte) : LogsOnly s (s.logWrite body) := by
  unfold logWrite queueErases
  exact ((queueWrites_logsOnly hp _).trans (.of_ctl rfl rfl)).trans (.of_ctl rfl rfl)

theorem setFlag_logsOnly (n : Nat) (s : State) : LogsOnly s (s.setFlag n) := .of_same rfl rfl rfl

theorem logOne_logsOnly (body : List Byte) (s : State) : LogsOnly s (s.logOne body) := by
  have htimes : LogsOnly s (s.modNvCtl fun c => { c with times := c.times.filter fun t => s.now < t + us 1000000 }) :=
    .of_ctl rfl rfl
  unfold logOne
  dsimp only
  split
  · exact htimes.trans (.of_ctl rfl rfl)
  · split
    · next hp => exact htimes.trans (logWrite_logsOnly hp body)
    · refine htimes.trans (LogsOnly.trans (.of_ctl ?_ ?_) (setFlag_logsOnly ..)) <;> split <;> rfl

theorem healthOnly_logsOnly (code subject : Nat) (details : List (Nat × Nat)) (seqs : List Nat) (s : State) :
    LogsOnly s (s.healthOnly code subject details seqs) := .cond s fun _ => .of_same rfl rfl rfl

theorem log_logsOnly (src code : Nat) (detail : List Byte) (s : State) : LogsOnly s (s.log src code detail) := by
  have hlog := logOne_logsOnly (s.logBody src code detail) s
  unfold log logBy
  dsimp only
  split
  · exact (hlog.trans (healthOnly_logsOnly ..)).trans (logOne_logsOnly ..)
  · exact hlog

theorem health_logsOnly (code subject : Nat) (details : List (Nat × Nat)) (seqs : List Nat) (s : State) :
    LogsOnly s (s.health code subject details seqs) :=
  (healthOnly_logsOnly ..).trans (.cond _ fun _ => log_logsOnly ..)

theorem eventOf_logsOnly (src code srcState : Nat) (payload : List (Nat × Nat)) (s : State) :
    LogsOnly s (s.eventOf src code srcState payload) :=
  (LogsOnly.cond s fun _ => .of_same rfl rfl rfl).trans (.cond _ fun _ => log_logsOnly ..)

theorem event_logsOnly (src code : Nat) (payload : List (Nat × Nat)) (s : State) : LogsOnly s (s.event src code payload) :=
  eventOf_logsOnly ..

theorem portEvent_logsOnly (n code : Nat) (payload : List (Nat × Nat)) (s : State) : LogsOnly s (s.portEvent n code payload) :=
  eventOf_logsOnly ..

theorem completeWith_logsOnly (handle status detail flags : Nat) (boundary : Option LineTime) (result : List Byte) (s : State) :
    LogsOnly s (s.completeWith handle status detail flags boundary result) := by
  obtain ⟨d, hd⟩ := completeWith_eq handle status detail flags boundary result s
  rw [hd]
  exact .of_same rfl rfl rfl

/-- A journalled write that is refused queues nothing (spec 18 R424, R432). -/
theorem nvRefuse_some_eq (k pages n : Nat) (s : State) : s.nvRefuse k pages (some n)
    = ((s.setFlag 18).health 0x0210 k [(2, pages)] []).failed n 0x0053 := rfl

/-- A journalled write queues its data pages and its commit page (spec 18 R434). -/
theorem nvWrite_allowed {s : State} {k n : Nat} {bytes : List Byte} (hp : s.power.nvAllowed = true)
    (hn : min (nvSpan k).2.2.2 (max 1 ((bytes.length + 63) / 64)) = n) (handle : Option Nat) :
    ∃ c, s.nvWrite k bytes handle = s.modNvCtl (fun _ => c) ∧ c.objects = s.nvCtl.objects
      ∧ c.jobs = s.nvCtl.jobs ++ ((List.range n).map (fun i =>
        (⟨i, padTo 64 ((bytes.drop (64 * i)).take 64), 0, k, none⟩ : PageJob)) ++ [⟨0, [], 1, k, handle⟩]) := by
  unfold nvWrite
  dsimp only
  rw [hp, hn]
  exact ⟨_, rfl, rfl, rfl⟩

end Sys2Proof.Machine.State
end

section
/-! PROOFS. Calibration values that are saved, restored and cleared (spec 19 R456-R458, 04 R118). -/

namespace Sys2Proof.Machine

namespace State

/-! ## The saved object's length (spec 19 Table 19-6) -/

theorem length_flatMap_of_length {α β : Type} {f : α → List β} {k : Nat} (h : ∀ a, (f a).length = k) (l : List α) :
    (l.flatMap f).length = k * l.length := by
  rw [List.length_flatMap, funext h, List.map_const', List.sum_replicate, smul_eq_mul, Nat.mul_comm]

theorem length_calChannel (t : CalTables) (c : Nat) : (calChannel t c).length = 64 := by
  simp only [calChannel, List.length_append, length_le, length_flatMap_of_length (fun _ => length_le _ _), List.length_range]
  rw [length_flatMap_of_length (k := 4)]
  · rfl
  · intro k
    simp only [List.length_append, length_le]

theorem length_calValues (s : State) : s.calValues.length = 27264 := by
  simp only [calValues, List.length_append, length_flatMap_of_length (length_calChannel _), List.length_range,
    length_flatMap_of_length (fun _ => length_le _ _)]
  rw [length_flatMap_of_length (k := 2) ?widths (List.range 256), length_flatMap_of_length (k := 8) ?banks (List.range 16)]
  case widths =>
    intro i
    split <;> exact length_le ..
  case banks =>
    intro b
    simp only [List.length_append, length_le]
  simp only [List.length_range]

theorem length_calObject (s : State) : s.calObject.length = 27392 := by
  have hheads : ((List.range 8).flatMap fun n => le 8 (s.portHead n).toNat).length = 64 := by
    rw [length_flatMap_of_length (k := 8) fun n => length_le 8 (s.portHead n).toNat, List.length_range]
  rw [calObject, List.length_append, hheads]
  simp only [List.length_append, length_calValues, length_le]

/-! ## Fire latencies (spec 19 R458) -/

/-- A store without the keys that a test leaves out. -/
theorem read_filter {α : Type} (d : α) (p : Nat → Bool) (m : Store α) (k : Nat) :
    Store.read d (m.filter fun x => p x.1) k = if p k then Store.read d m k else d := by
  induction m with
  | nil => exact (ite_self d).symm
  | cons x m ih =>
    obtain ⟨k', v⟩ := x
    by_cases hx : p k' = true
    · rw [List.filter_cons_of_pos (by exact hx), Store.read, Store.read, ih]
      by_cases hk : k = k'
      · rw [if_pos hk, if_pos hk, hk, if_pos hx]
      · rw [if_neg hk, if_neg hk]
    · rw [List.filter_cons_of_neg (by exact hx), ih, Store.read]
      by_cases hk : k = k'
      · rw [hk, if_neg hx, if_neg hx]
      · rw [if_neg hk]

/-- Latencies and path delays of the elements on the ports of a list are gone, and nothing else has changed. -/
theorem eachClearLatencies_effect (l : List Nat) : ∀ s : State, ∃ x y,
    s.each l clearLatencies = (s.modCal fun c => { c with tables := { c.tables with latency := x, path := y } })
      ∧ ∀ e, Store.read none x e = if elemPort e ∈ l then none else Store.read none s.cal.tables.latency e := by
  induction l with
  | nil => exact fun s => ⟨s.cal.tables.latency, s.cal.tables.path, rfl, fun e => (if_neg List.not_mem_nil).symm⟩
  | cons n l ih =>
    intro s
    obtain ⟨x, y, heq, hread⟩ := ih (s.clearLatencies n)
    refine ⟨x, y, heq, fun e => ?_⟩
    have hfirst : Store.read none (s.clearLatencies n).cal.tables.latency e
        = if elemPort e = n then none else Store.read none s.cal.tables.latency e := by
      refine (read_filter none (fun e => decide (elemPort e ≠ n)) s.cal.tables.latency e).trans ?_
      by_cases hn : elemPort e = n
      · rw [if_pos hn, if_neg (by simpa using hn)]
      · rw [if_neg hn, if_pos (by simpa using hn)]
    rw [hread, hfirst]
    by_cases hl : elemPort e ∈ l <;> by_cases hn : elemPort e = n <;> simp [hl, hn]

/-- A board's compensation rests on the tables and on its descriptor alone. -/
theorem boardComp_congr {s u : State} {n : Nat} (hc : u.cal = s.cal) (hp : (u.port n).framesLeft = (s.port n).framesLeft)
    (b : Nat) : u.boardComp n b = s.boardComp n b := by
  have hboards : (u.port n).boards = (s.port n).boards := (congrArg Port.boards hp :)
  have hdesc : u.boardDesc n b = s.boardDesc n b := by rw [boardDesc, boardDesc, view, view, hboards]
  have hdelay : u.boardDelay n b = s.boardDelay n b := by
    unfold boardDelay
    rw [hdesc, hc]
  rw [boardComp, boardComp, hdesc, hdelay]

/-- The data frame that gives a port's boards their compensations (spec 04 R104). -/
def compsFrame (s : State) (n : Nat) : List (List Byte) := (List.range (s.port n).chain).map fun b => 0x05 :: le 2 (s.boardComp n b)

theorem sendComps_eq (n : Nat) (s : State) : s.sendComps n = s.sendFrame n (s.compsFrame n) := rfl

theorem compsFrame_congr {s u : State} {n : Nat} (hc : u.cal = s.cal)
    (hp : (u.port n).framesLeft = (s.port n).framesLeft) : u.compsFrame n = s.compsFrame n := by
  have hchain : (u.port n).chain = (s.port n).chain := (congrArg Port.chain hp :)
  unfold compsFrame
  rw [hchain, funext (boardComp_congr hc hp)]

/-- Compensations have gone out on the ports of a list that have verified, and nothing has changed but streams of frames. -/
structure Renewed (l : List Nat) (s u : State) : Prop where
  same : u = s.modPorts fun _ => u.ports
  wf : u.wf = true
  own : ∀ m, (u.port m).framesLeft = (s.port m).framesLeft
  others : ∀ m, m ∉ l → u.port m = s.port m
  sent : ∀ m, m ∈ l → (s.port m).state = .verified ∨ (s.port m).state = .admitted → s.latch.set = false →
    0 < (s.port m).chain → (u.port m).frames = (s.port m).frames ++ [headFrame (s.compsFrame m)]

theorem renewed_one {s : State} (hw : s.wf = true) (n : Nat) :
    Renewed [n] s (s.cond ((s.port n).state = .verified || (s.port n).state = .admitted) (sendComps n)) := by
  rw [cond_eq]
  split
  · next hsends =>
    rw [sendComps_eq]
    obtain ⟨hsame, hwf, hothers, hown, hframes⟩ := sendFrame_sent (n := n) hw (s.compsFrame n)
    refine ⟨hsame, hwf, fun m => ?_, fun m hm => hothers m (mt List.mem_singleton.mpr hm), fun m hm hv hl hc => ?_⟩
    · by_cases hm : m = n
      · rw [hm, hown]
      · rw [hothers m hm]
    · rw [List.mem_singleton.mp hm] at hv hc ⊢
      refine hframes hl (by rcases hv with hv | hv <;> rw [hv] <;> rfl) fun f hf => ?_
      rw [List.mem_singleton.mp hf, compsFrame, List.length_map, List.length_range]
      omega
  · next hno =>
    refine ⟨rfl, hw, fun _ => rfl, fun _ _ => rfl, fun m hm hv => absurd ?_ hno⟩
    rw [List.mem_singleton.mp hm] at hv
    simpa using hv

theorem Renewed.cons {n : Nat} {l : List Nat} {s v u : State} (h : Renewed [n] s v) (hn : n ∉ l) (k : Renewed l v u) :
    Renewed (n :: l) s u := by
  have hcal : v.cal = s.cal := by rw [h.same]; rfl
  have hlatch : v.latch = s.latch := by rw [h.same]; rfl
  refine ⟨only_ports h.same k.same, k.wf, fun m => (k.own m).trans (h.own m), fun m hm => ?_, fun m hm hv hl hc => ?_⟩
  · rw [List.mem_cons, not_or] at hm
    exact (k.others m hm.2).trans (h.others m (mt List.mem_singleton.mp hm.1))
  · rcases List.mem_cons.mp hm with rfl | hm
    · exact (congrArg Port.frames (k.others m hn)).trans (h.sent m (List.mem_singleton.mpr rfl) hv hl hc)
    · have hport : v.port m = s.port m := h.others m (fun he => hn (List.mem_singleton.mp he ▸ hm))
      have hsent := k.sent m hm (hport ▸ hv) (hlatch ▸ hl) (hport ▸ hc)
      rwa [compsFrame_congr hcal (h.own m), hport] at hsent

theorem renewComps_renewed {l : List Nat} (hl : l.Nodup) : ∀ {s : State}, s.wf = true → Renewed l s (s.renewComps l) := by
  induction l with
  | nil => exact fun {s} hw => ⟨rfl, hw, fun _ => rfl, fun _ _ => rfl, fun m hm => absurd hm List.not_mem_nil⟩
  | cons n l ih =>
    intro s hw
    obtain ⟨hn, hl⟩ := List.nodup_cons.mp hl
    have hone := renewed_one hw n
    exact hone.cons hn (ih hl hone.wf)

end State

section
variable {t : Tick} {h : Hdr} {s : State}

theorem saveCalibration_effect (hk : s.takes 0x1302 h = true) (hp : s.power.nvAllowed = true) :
    ∃ u jobs, exec (.saveCalibration t h) s = .next u ∧ u.waits (s.startOf t 0x1302 h) s.nextHandle
      ∧ u.nvCtl.jobs = s.nvCtl.jobs ++ jobs ∧ jobs.length = 429 ∧ (∀ j, j ∈ jobs → j.object = 4)
      ∧ (jobs.getLast?.map fun j => (j.kind, j.handle)) = some (1, some s.nextHandle)
      ∧ u = { s with clock := u.clock, dist := u.dist, nvCtl := u.nvCtl } := by
  obtain ⟨b, hb⟩ : ∃ b, b = s.startOf t 0x1302 h := ⟨_, rfl⟩
  have hexec : exec (.saveCalibration t h) s = .next (b.nvWrite 4 b.calObject (some s.nextHandle)) := by
    rw [hb]
    exact congrArg Host.Outcome.next (State.command_startOf t hk (State.noCheck_accepted _))
  obtain ⟨d, hd⟩ := State.startOf_eq t 0x1302 h s
  have hpages : min (nvSpan 4).2.2.2 (max 1 ((b.calObject.length + 63) / 64)) = 428 := by
    rw [State.length_calObject]
    rfl
  obtain ⟨c, hwrite, -, hjobs⟩ := State.nvWrite_allowed (s := b) (by rw [hb, hd]; exact hp) hpages (some s.nextHandle)
  rw [hwrite] at hexec
  have hqueue : b.nvCtl = s.nvCtl := by rw [hb, hd]; rfl
  refine ⟨_, _, hexec, State.waits_of_underway hk (by rw [hb]; exact .of_dist rfl), hjobs.trans (by rw [hqueue]), ?_,
    fun j hj => ?_, ?_, by rw [hb, hd]; rfl⟩
  · rw [List.length_append, List.length_map, List.length_range]
    rfl
  · rcases List.mem_append.mp hj with hj | hj
    · obtain ⟨i, -, rfl⟩ := List.mem_map.mp hj
      rfl
    · rw [List.mem_singleton.mp hj]
  · rw [List.getLast?_append]
    rfl

theorem saveCalibration_refused (hk : s.takes 0x1302 h = true) (hp : s.power.nvAllowed = false) :
    ∃ u, exec (.saveCalibration t h) s = .next u
      ∧ u.answered (s.startOf t 0x1302 h) 0x1302 h s.nextHandle 1 0x0053 [] ∧ u.nv = s.nv ∧ u.nvCtl.jobs = s.nvCtl.jobs := by
  obtain ⟨b, hb⟩ : ∃ b, b = s.startOf t 0x1302 h := ⟨_, rfl⟩
  obtain ⟨d, hd⟩ := State.startOf_eq t 0x1302 h s
  have hpower : b.power = s.power := by rw [hb, hd]; rfl
  obtain ⟨v, hv⟩ : ∃ v, v = (b.setFlag 18).health 0x0210 4
    [(2, min (nvSpan 4).2.2.2 (max 1 ((b.calObject.length + 63) / 64)) + 1)] [] := ⟨_, rfl⟩
  have hexec : exec (.saveCalibration t h) s = .next (v.failed s.nextHandle 0x0053) := by
    refine congrArg Host.Outcome.next ((State.command_startOf t hk (State.noCheck_accepted _)).trans ?_)
    rw [← hb, State.nvWrite, hpower, hp, hv, ← State.nvRefuse_some_eq]
    rfl
  have hlogs : State.LogsOnly b v := hv ▸ (State.setFlag_logsOnly 18 b).trans (State.health_logsOnly ..)
  have hdist : v.dist = b.dist := by
    obtain ⟨r, c, p, hr⟩ := (State.setFlag_reported 18 b).trans (State.health_reported 0x0210 4
      [(2, min (nvSpan 4).2.2.2 (max 1 ((b.calObject.length + 63) / 64)) + 1)] [] (b.setFlag 18))
    rw [hv, hr]
  have hall := hlogs.trans (State.completeWith_logsOnly s.nextHandle 1 0x0053 0 none [] v)
  refine ⟨_, hexec, State.answered_of_underway (u := v) hk (.of_dist (hdist.trans (congrArg State.dist hb))) 1 0x0053 [], ?_, ?_⟩
  · refine hall.nv.trans ?_
    rw [hb, hd]
    rfl
  · refine (hall.refused (by rw [hpower]; exact hp)).trans ?_
    rw [hb, hd]
    rfl

theorem clearLatencies_effect (ports : BitVec 8) (hw : s.wf = true) (hk : s.takes 0x0405 h = true) :
    ∃ u, exec (.clearLatencies t h ports) s = .next u ∧ u.answered (s.startOf t 0x0405 h) 0x0405 h s.nextHandle 0 0 []
      ∧ (∀ e, elemPort e < 8 → Store.read none u.cal.tables.latency e
          = if ports.getLsbD (elemPort e) then none else Store.read none s.cal.tables.latency e)
      ∧ u.cal.tables.timing = s.cal.tables.timing
      ∧ (∀ p, p < 8 → ports.getLsbD p = false → u.port p = s.port p)
      ∧ (∀ p, p < 8 → ports.getLsbD p = true → (s.port p).state = .verified ∨ (s.port p).state = .admitted →
          s.latch.set = false → 0 < (s.port p).chain → (u.port p).frames = (s.port p).frames
            ++ [State.headFrame ((List.range (s.port p).chain).map fun b => 0x05 :: le 2 (u.boardComp p b))])
      ∧ u = { s with clock := u.clock, dist := u.dist, cal := u.cal, ports := u.ports } := by
  obtain ⟨b, hb⟩ : ∃ b, b = s.startOf t 0x0405 h := ⟨_, rfl⟩
  have hwb : b.wf = true := hb ▸ State.startOf_wf t 0x0405 h hw
  obtain ⟨d, hd⟩ := State.startOf_eq t 0x0405 h s
  rw [← hb] at hd
  obtain ⟨x, y, hclear, hread⟩ := State.eachClearLatencies_effect (maskList 8 ports.toNat) b
  obtain ⟨v, hv⟩ : ∃ v, v = b.each (maskList 8 ports.toNat) State.clearLatencies := ⟨_, rfl⟩
  rw [← hv] at hclear
  have hwv : v.wf = true := by rw [hclear]; exact hwb
  have hrenewed := State.renewComps_renewed (State.nodup_maskList 8 ports.toNat) hwv
  obtain ⟨u, hu⟩ : ∃ u, u = v.renewComps (maskList 8 ports.toNat) := ⟨_, rfl⟩
  rw [← hu] at hrenewed
  obtain ⟨hsame, -, hown, hothers, hsent⟩ := hrenewed
  have hexec : exec (.clearLatencies t h ports) s = .next (u.succeed s.nextHandle []) := by
    refine congrArg Host.Outcome.next ((State.command_startOf t hk (State.noCheck_accepted _)).trans ?_)
    rw [← hb, ← hv, ← hu]
  obtain ⟨e, he⟩ := State.succeed_eq s.nextHandle [] u
  have hport : (u.succeed s.nextHandle []).port = u.port := by rw [he]; rfl
  have hcal : (u.succeed s.nextHandle []).cal = v.cal := by rw [he, hsame]; rfl
  have hcalu : u.cal = v.cal := by rw [hsame]; rfl
  have hdist : u.dist = b.dist := by rw [hsame, hclear]; rfl
  have hports : v.port = s.port := by rw [hclear, hd]; rfl
  have hlatch : v.latch = s.latch := by rw [hclear, hd]; rfl
  refine ⟨_, hexec, State.answered_of_underway hk (.of_dist (hdist.trans (congrArg State.dist hb))) 0 0 [], fun k hk => ?_, ?_,
    fun p hp hbit => ?_, fun p hp hbit hstate hl hchain => ?_, ?_⟩
  · have hlist : v.cal.tables.latency = x := by rw [hclear]; rfl
    have htables : b.cal = s.cal := by rw [hd]; rfl
    rw [hcal, hlist, hread, htables]
    simp only [State.mem_maskList_bitVec]
  · rw [hcal, hclear, hd]
    rfl
  · rw [hport, hothers p (fun hp => by rw [State.mem_maskList_bitVec, hbit] at hp; contradiction), hports]
  · have hframes := hsent p ((State.mem_maskList_bitVec ports p).mpr hbit) (hports ▸ hstate) (hlatch ▸ hl) (hports ▸ hchain)
    rw [hports] at hframes
    have hcomp : ∀ i, (u.succeed s.nextHandle []).boardComp p i = v.boardComp p i :=
      State.boardComp_congr hcal (by rw [hport]; exact hown p)
    rw [hport, hframes, State.compsFrame, hports, funext hcomp]
  · rw [he, hsame, hclear, hd]
    rfl

end

end Sys2Proof.Machine
end

section
/-! PROOFS. Saved calibration values come into force (spec 19 R457), and O56 from its commands' effects. -/

namespace Sys2Proof.Machine

namespace State

/-- Channels and ports change, and of a port neither its state nor its head nor its gate. -/
structure HeadsStay (s u : State) : Prop where
  same : ∃ y z, u = { s with chans := y, ports := z }
  wf : s.wf = true → u.wf = true
  heads : s.wf = true → ∀ n, (u.port n).state = (s.port n).state ∧ (u.port n).head = (s.port n).head
    ∧ (u.port n).gate = (s.port n).gate

namespace HeadsStay
variable {a b c : State}

theorem refl (s : State) : HeadsStay s s := ⟨⟨s.chans, s.ports, rfl⟩, id, fun _ _ => ⟨rfl, rfl, rfl⟩⟩

theorem trans (h : HeadsStay a b) (k : HeadsStay b c) : HeadsStay a c := by
  refine ⟨?_, fun hw => k.wf (h.wf hw), fun hw n => ?_⟩
  · obtain ⟨y, z, rfl⟩ := h.same
    exact k.same
  · obtain ⟨hs, hh, hg⟩ := h.heads hw n
    obtain ⟨ks, kh, kg⟩ := k.heads (h.wf hw) n
    exact ⟨ks.trans hs, kh.trans hh, kg.trans hg⟩

theorem each {α : Type} {f : α → State → State} (h : ∀ x s, HeadsStay s (f x s)) (l : List α) (s : State) :
    HeadsStay s (s.each l f) := each_rel refl trans h l s

theorem cond {p : Bool} {f : State → State} {s : State} (h : HeadsStay s (f s)) : HeadsStay s (s.cond p f) := by
  rw [cond_eq]
  split
  · exact h
  · exact refl s

end HeadsStay

theorem modChan_headsStay (c : Nat) (g : Channel → Channel) (s : State) : HeadsStay s (s.modChan c g) :=
  ⟨⟨_, s.ports, rfl⟩, (modChan_kept (.refl s)).wf, fun _ _ => ⟨rfl, rfl, rfl⟩⟩

theorem modPort_headsStay (n : Nat) {g : Port → Port} (hg : ∀ p, (g p).state = p.state ∧ (g p).head = p.head ∧ (g p).gate = p.gate)
    (s : State) :
    HeadsStay s (s.modPort n g) := by
  refine ⟨⟨s.chans, _, rfl⟩, fun hw => wf_modPort hw n g, fun hw m => ?_⟩
  by_cases hm : m = n
  · rw [hm, port_modPort_same hw]
    exact hg _
  · rw [port_modPort_other hw hm]
    exact ⟨rfl, rfl, rfl⟩

theorem sendFrame_headsStay (n : Nat) (f : List (List Byte)) (s : State) : HeadsStay s (s.sendFrame n f) :=
  .cond (modPort_headsStay n (by exact fun _ => ⟨rfl, rfl, rfl⟩) s)

theorem markChan_headsStay (c : Nat) (k : MarkKind) (code : Nat) (stop : Option Tick) (s : State) :
    HeadsStay s (s.markChan c k code stop) := by
  unfold markChan
  exact modChan_headsStay c _ s

theorem loadInter_headsStay (s : State) : HeadsStay s s.loadInter :=
  .each (fun c s => .cond (modChan_headsStay c _ s)) _ s

theorem sendComps_headsStay (n : Nat) (s : State) : HeadsStay s (s.sendComps n) := by
  rw [sendComps_eq]
  exact sendFrame_headsStay n _ s

theorem renewComps_headsStay (l : List Nat) (s : State) : HeadsStay s (s.renewComps l) :=
  .each (fun n s => .cond (sendComps_headsStay n s)) l s

/-- An object's data rests on the store and on its control alone. -/
theorem nvData_congr {s u : State} (hn : u.nv = s.nv) (hc : u.nvCtl = s.nvCtl) (k : Nat) : u.nvData k = s.nvData k := by
  have hobject : u.nvObject k = s.nvObject k := by rw [nvObject, nvObject, hc]
  have hbytes : ∀ b, u.nvBytes k b = s.nvBytes k b := fun b => by rw [nvBytes, nvBytes, hn]
  unfold nvData
  dsimp only
  rw [hobject, hbytes]

/-- What the restored values come to rests on the object and on the heads. -/
theorem restorePorts_congr {s u : State} (hd : u.nvData 4 = s.nvData 4) (hp : ∀ n, u.portHead n = s.portHead n) :
    u.restorePorts = s.restorePorts := by
  simp only [restorePorts, hd, hp]

theorem HeadsStay.restorePorts {s u : State} (h : HeadsStay s u) (hw : s.wf = true) : u.restorePorts = s.restorePorts := by
  obtain ⟨y, z, hsame⟩ := h.same
  have hnv : u.nvData 4 = s.nvData 4 := nvData_congr (by rw [hsame]) (by rw [hsame]) 4
  have hhead : ∀ n, u.portHead n = s.portHead n := fun n => by
    obtain ⟨hs, hh, -⟩ := h.heads hw n
    rw [portHead, portHead, hs, hh]
  exact restorePorts_congr hnv hhead

theorem nvData_of_restorable {s : State} (h : s.restoreError = none) : ∃ b, s.nvData 4 = some b := by
  unfold restoreError at h
  split at h
  · contradiction
  · next b hb => exact ⟨b, hb⟩

theorem modCal_eq (g : Cal → Cal) (s : State) : s.modCal g = s.modCal fun _ => g s.cal := rfl

/-- The heads that the restored latencies hold for, and the interleave values of the tables (spec 19 R457, 06 R146). -/
theorem calApply_effect {s : State} {b : List Byte} (m : Nat) (hb : s.nvData 4 = some b) (he : s.restoreError = none) :
    HeadsStay (s.modCal fun c => { c with tables := calLoad c.tables b m }) (s.calApply m) := by
  obtain ⟨v, hv⟩ : ∃ v, v = s.modCal fun c => { c with tables := calLoad c.tables b m } := ⟨_, rfl⟩
  have happly : s.calApply m = v.loadInter.each (maskList 8 m) fun n u => u.modPort n fun p => { p with
      latencyHead := BitVec.ofNat 64 (savedHead b n) } := by
    unfold calApply
    rw [hb, he, hv]
  have hheads : ∀ n u, HeadsStay u (u.modPort n fun p => { p with latencyHead := BitVec.ofNat 64 (savedHead b n) }) :=
    fun n u => modPort_headsStay n (by exact fun _ => ⟨rfl, rfl, rfl⟩) u
  rw [happly, ← hv]
  exact (loadInter_headsStay v).trans (.each hheads _ _)

/-- The saved values stand in the tables; beside them only channels and ports change (spec 19 R457). -/
theorem applyRestore_effect {s : State} {b : List Byte} (hb : s.nvData 4 = some b) (he : s.restoreError = none) :
    ∃ k, k.tables = calLoad s.cal.tables b s.restorePorts ∧ HeadsStay (s.modCal fun _ => k) s.applyRestore := by
  obtain ⟨k, hk⟩ : ∃ k, k = { s.cal with tables := calLoad s.cal.tables b s.restorePorts } := ⟨_, rfl⟩
  obtain ⟨v, hv⟩ : ∃ v, v = (s.calApply s.restorePorts).renewComps (List.range 8) := ⟨_, rfl⟩
  have hcal := calApply_effect s.restorePorts hb he
  rw [modCal_eq, ← hk] at hcal
  have hrenewed : HeadsStay (s.modCal fun _ => k) v := hv ▸ hcal.trans (renewComps_headsStay _ _)
  have happly : s.applyRestore = v.each (List.range 256) fun c t =>
      t.cond ((s.chan c).fe.inter ≠ (v.chan c).fe.inter) (markChan c .interleave 1 (some (s.now + 16 * sample))) := by
    rw [hv]
    rfl
  rw [happly]
  exact ⟨k, by rw [hk], hrenewed.trans (.each (fun c u => .cond (markChan_headsStay c _ _ _ u)) _ v)⟩

/-- The changes of a restoration apply at once, and its command completes with the ports whose values came into force. -/
theorem change_restore {s : State} {h : Hdr} {n : Nat} (hb : s.applyRestore.banks = s.banks) :
    s.change false h [.restore] n = s.applyRestore.succeed n [BitVec.ofNat 8 s.applyRestore.restorePorts] := by
  have heach : s.each [Change.restore] applyChange = s.applyRestore := by
    rw [each, List.foldl_cons, List.foldl_nil, applyChange]
  have happly : s.applyStaged ⟨0, 0, true, some n, [.restore], none⟩ none
      = s.applyRestore.succeed n [BitVec.ofNat 8 s.applyRestore.restorePorts] := by
    rw [applyStaged, heach, changeResult, if_pos (show [Change.restore].contains .restore = true by decide), succeed]
  unfold change
  rw [if_neg (by simp), withSwapMarks_eq_of_banks]
  · exact happly
  · rw [happly, succeed_banks, hb]

end State

section
variable {t : Tick} {h : Hdr} {s : State}

theorem startOf_restore (t : Tick) (op : Nat) (h : Hdr) (s : State) : (s.startOf t op h).restoreError = s.restoreError
    ∧ (s.startOf t op h).nvData 4 = s.nvData 4 ∧ (s.startOf t op h).restorePorts = s.restorePorts := by
  obtain ⟨d, hd⟩ := State.startOf_eq t op h s
  have hnv : (s.startOf t op h).nvData 4 = s.nvData 4 := State.nvData_congr (by rw [hd]; rfl) (by rw [hd]; rfl) 4
  have hhead : (s.startOf t op h).portHead = s.portHead := by rw [hd]; rfl
  refine ⟨?_, hnv, ?_⟩
  · rw [State.restoreError, State.restoreError, hnv]
  · exact State.restorePorts_congr hnv (congrFun hhead)

theorem restoreCheck (hs : s.stages = false) (hr : InReach s h) :
    (s.advance t).takeIntake.stageCheck (s.advance t).takeIntake.stages h = .accepted := by
  rw [State.stages_takeIntake, State.stageCheck_takeIntake, hs]
  exact State.stageCheck_of_immediate hr

theorem exec_restoreCalibration_of_error {d : Nat} (hk : s.takes 0x1303 h = true) (hs : s.stages = false) (hr : InReach s h)
    (he : s.restoreError = some d) :
    exec (.restoreCalibration t h) s = .next ((s.startOf t 0x1303 h).failed s.nextHandle d) := by
  refine congrArg Host.Outcome.next ((State.command_startOf t hk (restoreCheck hs hr)).trans ?_)
  rw [(startOf_restore t 0x1303 h s).1, he]

theorem exec_restoreCalibration (hk : s.takes 0x1303 h = true) (hs : s.stages = false) (hr : InReach s h)
    (he : s.restoreError = none) :
    exec (.restoreCalibration t h) s = .next ((s.startOf t 0x1303 h).change false h [.restore] s.nextHandle) := by
  obtain ⟨-, hstages, -⟩ := State.startOf_spindle t 0x1303 h s
  refine congrArg Host.Outcome.next ((State.command_startOf t hk (restoreCheck hs hr)).trans ?_)
  rw [(startOf_restore t 0x1303 h s).1, he, hstages, hs]

theorem restoreCalibration_fails {d : Nat} (hk : s.takes 0x1303 h = true) (hs : s.stages = false) (hr : InReach s h)
    (he : s.restoreError = some d) :
    ∃ u, exec (.restoreCalibration t h) s = .next u ∧ u.dev = s.dev ∧ u.nv = s.nv ∧ u.latch = s.latch
      ∧ u.answered (s.startOf t 0x1303 h) 0x1303 h s.nextHandle 1 d [] ∧ u = { s with clock := u.clock, dist := u.dist } := by
  have hexec := exec_restoreCalibration_of_error (t := t) hk hs hr he
  obtain ⟨c, hc⟩ := State.startOf_eq t 0x1303 h s
  obtain ⟨e, hfailed⟩ := State.completeWith_eq s.nextHandle 1 d 0 none [] (s.startOf t 0x1303 h)
  obtain ⟨u, hu⟩ : ∃ u, u = (s.startOf t 0x1303 h).completeWith s.nextHandle 1 d 0 none [] := ⟨_, rfl⟩
  have hanswered : u.answered (s.startOf t 0x1303 h) 0x1303 h s.nextHandle 1 d [] :=
    hu ▸ State.answered_of_underway hk (.refl _) 1 d []
  rw [← hu, hc] at hfailed
  refine ⟨u, hexec.trans (congrArg Host.Outcome.next hu.symm), ?_, ?_, ?_, hanswered, ?_⟩ <;> rw [hfailed] <;> rfl

theorem restoreCalibration_effect (hw : s.wf = true) (hk : s.takes 0x1303 h = true) (hs : s.stages = false) (hr : InReach s h)
    (he : s.restoreError = none) :
    ∃ u, exec (.restoreCalibration t h) s = .next u ∧ u.dev = s.dev ∧ u.nv = s.nv ∧ u.latch = s.latch
      ∧ u.answered (s.startOf t 0x1303 h) 0x1303 h s.nextHandle 0 0 [BitVec.ofNat 8 s.restorePorts]
      ∧ ∀ bytes, s.nvData 4 = some bytes → u.cal.tables = State.calLoad s.cal.tables bytes s.restorePorts := by
  obtain ⟨bytes, hbytes⟩ := State.nvData_of_restorable he
  have hexec := exec_restoreCalibration (t := t) hk hs hr he
  obtain ⟨b, hb⟩ : ∃ b, b = s.startOf t 0x1303 h := ⟨_, rfl⟩
  obtain ⟨herror, hdata, hports⟩ := startOf_restore t 0x1303 h s
  obtain ⟨d, hd⟩ := State.startOf_eq t 0x1303 h s
  have hwb : b.wf = true := hb ▸ State.startOf_wf t 0x1303 h hw
  rw [← hb] at herror hdata hports hd
  obtain ⟨k, htables, hstay⟩ := State.applyRestore_effect (hdata.trans hbytes) (herror.trans he)
  have hnv : (b.modCal fun _ => k).nvData 4 = b.nvData 4 := State.nvData_congr rfl rfl 4
  have hmask : b.applyRestore.restorePorts = s.restorePorts :=
    (hstay.restorePorts hwb).trans ((State.restorePorts_congr hnv fun _ => rfl).trans hports)
  obtain ⟨y, z, hsame⟩ := hstay.same
  rw [← hb, State.change_restore (by rw [hsame]; rfl), hmask] at hexec
  obtain ⟨e, hend⟩ := State.succeed_eq s.nextHandle [BitVec.ofNat 8 s.restorePorts] b.applyRestore
  obtain ⟨u, hu⟩ : ∃ u, u = b.applyRestore.succeed s.nextHandle [BitVec.ofNat 8 s.restorePorts] := ⟨_, rfl⟩
  have hdist : b.applyRestore.dist = b.dist := by rw [hsame]; rfl
  have hanswered : u.answered (s.startOf t 0x1303 h) 0x1303 h s.nextHandle 0 0 [BitVec.ofNat 8 s.restorePorts] :=
    hu ▸ State.answered_of_underway hk (.of_dist (hdist.trans (congrArg State.dist hb))) 0 0
      [BitVec.ofNat 8 s.restorePorts]
  have hcal : b.cal = s.cal := by rw [hd]; rfl
  rw [← hu] at hexec hend
  rw [hsame] at hend
  refine ⟨u, hexec, ?_, ?_, ?_, hanswered, fun bytes' hbytes' => ?_⟩
  · rw [hend, hd]; rfl
  · rw [hend, hd]; rfl
  · rw [hend, hd]; rfl
  · rw [hbytes, Option.some.injEq] at hbytes'
    rw [hend, ← hbytes', ← hports, ← hcal]
    exact htables

end

/-- Settles O56: each command from its start and from what it leaves. -/
theorem loadsAndSettingsTakeEffect : Obligations.LoadsAndSettingsTakeEffect := by
  unfold Obligations.LoadsAndSettingsTakeEffect
  intro t h s ht hw
  refine ⟨fun bank first ds hk hb hs hne hl hg hm => loadShotTable_effect hw hk hb hs hne hl hg hm,
    fun bank first ws hk hb hs hne hl hg hm => loadMicrocode_effect hw hk hb hs hne hl hg hm,
    fun bank first cs hk hb hne hl hg => ⟨fun hs hr hm => loadCodeTable_effect hw hk hb hne hl hg hs hr hm,
      fun hs hn hfew => loadCodeTable_staged hk hb hne hl hg hs hn hfew⟩,
    fun bank first xs hk hb hne hl hg hs hr hm => loadListeningSets_effect hw hk hb hne hl hg hs hr hm,
    fun seed hk => loadSeed_effect seed hw hk,
    fun banks image hk hne hg hs => loadCoefficients_effect hw hk hne hg hs,
    fun banks hk hne ht hr hs => swapCoefficients_effect hw hk hne ht hr hs,
    fun scope targets items hk hc => ⟨fun hs hany hn ho hb => setParameters_staged hk hc hs hany hn ho hb,
      fun b v hs hscope htargets hitems hm hfree => ?parameter⟩,
    fun targets mask hk hm => clearFlags_effect hw ht hk hm,
    fun hk hp => saveCalibration_effect hk hp, fun hk hp => saveCalibration_refused hk hp,
    fun hk hs hr => ?restore, fun ports hk => clearLatencies_effect ports hw hk⟩
  case parameter =>
    subst hscope htargets hitems
    exact setReportLevel_effect hk hc hs hm hfree
  case restore =>
    cases he : s.restoreError with
    | some d => exact restoreCalibration_fails hk hs hr he
    | none => exact restoreCalibration_effect hw hk hs hr he

end Sys2Proof.Machine
end

section
/-! PROOFS. The outer parts: the present instant with its transition, the supply's view, the non-volatile store, the head ports and
the shots. Whatever else a transition, a capture's end or a step of the DRAM runs leaves them as they are, which is said here once
for each such operation, in the order of the model's definitions. -/

namespace Sys2Proof.Machine

namespace State

/-- The present instant, and the transition made last (spec 15 R348). -/
def moment (s : State) : Tick × Option (Tick × Nat × DevState × Option Nat) := (s.now, s.clock.trans)

/-- The moment, the supply's view, the non-volatile store, the head ports and the shots. -/
def outer (s : State) : (Tick × Option (Tick × Nat × DevState × Option Nat)) × Power × Mem × Store Port × Store Entry :=
  (s.moment, s.power, s.nv, s.ports, s.skein)

/-! ## The parts of the state -/

@[simp] theorem modClock_outer {g : Clock → Clock} (h : ∀ k, ((g k).now, (g k).trans) = (k.now, k.trans)) (s : State) :
    (s.modClock g).outer = s.outer := congrArg (fun m => (m, s.power, s.nv, s.ports, s.skein)) (h s.clock)

@[simp] theorem modDev_outer (g : DevState → DevState) (s : State) :
    (s.modDev g).outer = s.outer := rfl
@[simp] theorem modSpindle_outer (g : Spindle → Spindle) (s : State) : (s.modSpindle g).outer = s.outer := rfl
@[simp] theorem modFlyers_outer (g : Store Flyer → Store Flyer) (s : State) : (s.modFlyers g).outer = s.outer := rfl
@[simp] theorem modHop_outer (g : Nat → Nat) (s : State) : (s.modHop g).outer = s.outer := rfl
@[simp] theorem modHopHold_outer (g : Nat → Nat) (s : State) : (s.modHopHold g).outer = s.outer := rfl
@[simp] theorem modChans_outer (g : Store Channel → Store Channel) (s : State) :
    (s.modChans g).outer = s.outer := rfl
@[simp] theorem modBanks_outer (g : Store Bank → Store Bank) (s : State) : (s.modBanks g).outer = s.outer := rfl
@[simp] theorem modHk_outer (g : Housekeeping → Housekeeping) (s : State) : (s.modHk g).outer = s.outer := rfl
@[simp] theorem modRuns_outer (g : List StatRun → List StatRun) (s : State) : (s.modRuns g).outer = s.outer := rfl
@[simp] theorem modAuxf_outer (g : Store Auxf → Store Auxf) (s : State) : (s.modAuxf g).outer = s.outer := rfl
@[simp] theorem modGroups_outer (g : Store Group → Store Group) (s : State) : (s.modGroups g).outer = s.outer := rfl
@[simp] theorem modDram_outer (g : Dram → Dram) (s : State) : (s.modDram g).outer = s.outer := rfl
@[simp] theorem modDramMem_outer (g : Mem → Mem) (s : State) : (s.modDramMem g).outer = s.outer := rfl
@[simp] theorem modRecs_outer (g : Records → Records) (s : State) : (s.modRecs g).outer = s.outer := rfl
@[simp] theorem modLink_outer (g : Link → Link) (s : State) : (s.modLink g).outer = s.outer := rfl
@[simp] theorem modDist_outer (g : Distaff → Distaff) (s : State) : (s.modDist g).outer = s.outer := rfl

@[simp] theorem modWhorl_outer (g : Whorl → Whorl) (s : State) : (s.modWhorl g).outer = s.outer := rfl
@[simp] theorem modLatch_outer (g : Latch → Latch) (s : State) : (s.modLatch g).outer = s.outer := rfl
@[simp] theorem modBoot_outer (g : Boot → Boot) (s : State) : (s.modBoot g).outer = s.outer := rfl
@[simp] theorem modMarks_outer (g : List Mark → List Mark) (s : State) : (s.modMarks g).outer = s.outer := rfl
@[simp] theorem modTrust_outer (g : Trust → Trust) (s : State) : (s.modTrust g).outer = s.outer := rfl
@[simp] theorem modNvCtl_outer (g : NvCtl → NvCtl) (s : State) : (s.modNvCtl g).outer = s.outer := rfl
@[simp] theorem modCal_outer (g : Cal → Cal) (s : State) : (s.modCal g).outer = s.outer := rfl
@[simp] theorem modSide_outer (g : SidePort → SidePort) (s : State) : (s.modSide g).outer = s.outer := rfl
@[simp] theorem modCounters_outer (g : Store Nat → Store Nat) (s : State) : (s.modCounters g).outer = s.outer := rfl
@[simp] theorem draw_outer (s : State) (n : Nat) : (s.draw n).2.outer = s.outer := rfl
@[simp] theorem modFlyer_outer (i : Nat) (g : Flyer → Flyer) (s : State) :
    (s.modFlyer i g).outer = s.outer := by simp [modFlyer]
@[simp] theorem modChan_outer (i : Nat) (g : Channel → Channel) (s : State) :
    (s.modChan i g).outer = s.outer := by simp [modChan]
@[simp] theorem modBank_outer (i : Nat) (g : Bank → Bank) (s : State) :
    (s.modBank i g).outer = s.outer := by simp [modBank]
@[simp] theorem modAux_outer (i : Nat) (g : Auxf → Auxf) (s : State) :
    (s.modAux i g).outer = s.outer := by simp [modAux]
@[simp] theorem modGroup_outer (i : Nat) (g : Group → Group) (s : State) :
    (s.modGroup i g).outer = s.outer := by simp [modGroup]
@[simp] theorem count_outer (k i : Nat) (n : Nat) (s : State) : (s.count k i n).outer = s.outer := by simp [count]

/-! ## Steps in turn and steps under a condition -/

/-- Steps that keep the outer keep it together. -/
@[simp] theorem each_outer {α : Type} {f : α → State → State} (h : ∀ a u, (f a u).outer = u.outer) (l : List α)
    (s : State) : (s.each l f).outer = s.outer :=
  each_rel (R := fun a b => b.outer = a.outer) (fun _ => rfl) (fun h k => k.trans h) (fun a u => h a u) l s

@[simp] theorem cond_outer {f : State → State} (h : ∀ u, (f u).outer = u.outer) (b : Bool) (s : State) :
    (s.cond b f).outer = s.outer := by
  cases b
  · rfl
  · exact h s

@[simp] theorem ite_outer {p : Prop} [Decidable p] (a b : State) :
    (if p then a else b).outer = if p then a.outer else b.outer := apply_ite outer p a b

/-! ## Parameters -/

@[simp] theorem setParam_outer (id sub target : Nat) (v : PVal) (s : State) :
    (s.setParam id sub target v).outer = s.outer := by simp [setParam]

/-! ## Records, the log and the side port -/

@[simp] theorem offer_outer (l : Lane) (src : Nat) (frame : Option Nat) (mk : List (Nat → List Byte)) (s : State) :
    (s.offer l src frame mk).outer = s.outer := by simp [offer]
@[simp] theorem setFlag_outer (n : Nat) (s : State) : (s.setFlag n).outer = s.outer := by simp [setFlag]
@[simp] theorem queueWrites_outer (jobs : List PageJob) (s : State) :
    (s.queueWrites jobs).outer = s.outer := by simp [queueWrites]
@[simp] theorem queueErases_outer (pages : List Nat) (s : State) :
    (s.queueErases pages).outer = s.outer := by simp [queueErases]
@[simp] theorem logWrite_outer (body : List Byte) (s : State) :
    (s.logWrite body).outer = s.outer :=
  (modNvCtl_outer _ _).trans ((queueErases_outer _ _).trans (queueWrites_outer _ s))

@[simp] theorem logOne_outer (body : List Byte) (s : State) : (s.logOne body).outer = s.outer := by
  unfold logOne
  dsimp only
  split
  · rfl
  · split <;> simp

@[simp] theorem healthOnly_outer (code subject : Nat) (details : List (Nat × Nat)) (seqs : List Nat) (s : State) :
    (s.healthOnly code subject details seqs).outer = s.outer := by simp [healthOnly]

@[simp] theorem logBy_outer {f : State → State} (h : ∀ u, (f u).outer = u.outer) (s : State) :
    (s.logBy f).outer = s.outer := by
  unfold logBy
  dsimp only
  split <;> simp [h]

@[simp] theorem log_outer (src code : Nat) (detail : List Byte) (s : State) :
    (s.log src code detail).outer = s.outer := by simp [log]
@[simp] theorem eventOf_outer (src code srcState : Nat) (payload : List (Nat × Nat)) (s : State) :
    (s.eventOf src code srcState payload).outer = s.outer := by simp [eventOf]
@[simp] theorem event_outer (src code : Nat) (payload : List (Nat × Nat)) (s : State) :
    (s.event src code payload).outer = s.outer := by simp [event]
@[simp] theorem health_outer (code subject : Nat) (details : List (Nat × Nat)) (seqs : List Nat) (s : State) :
    (s.health code subject details seqs).outer = s.outer := by simp [health]
@[simp] theorem unsay_outer (src code : Nat) (s : State) : (s.unsay src code).outer = s.outer := by simp [unsay]
@[simp] theorem amend_outer (src code : Nat) (head : List Byte) (v : Byte) (s : State) :
    (s.amend src code head v).outer = s.outer := by simp [amend]

/-! ## Shots and emission -/

@[simp] theorem countFlyer_outer (b k : Nat) (s : State) :
    (s.countFlyer b k).outer = s.outer := by simp [countFlyer]
@[simp] theorem tally_outer (frame : Nat) (g : FrameTally → FrameTally) (s : State) :
    (s.tally frame g).outer = s.outer := by simp [tally]
@[simp] theorem report_outer (idx : Option Nat) (e : Entry) (s : State) :
    (s.report idx e).outer = s.outer := by simp [report]
@[simp] theorem account_outer (i : Option Nat) (e : Entry) (s : State) :
    (s.account i e).outer = s.outer := by simp [account]
/-! ## Answers and completions -/

@[simp] theorem ackWith_outer (h : Hdr) (a : Ack) (handle : Nat) (s : State) :
    (s.ackWith h a handle).outer = s.outer := by simp [ackWith]

@[simp] theorem completeWith_outer (handle status detail flags : Nat) (boundary : Option LineTime)
    (result : List Byte) (s : State) :
    (s.completeWith handle status detail flags boundary result).outer = s.outer := by
  unfold completeWith
  split <;> rfl

@[simp] theorem succeed_outer (handle : Nat) (result : List Byte) (s : State) :
    (s.succeed handle result).outer = s.outer := by simp [succeed]
@[simp] theorem failed_outer (handle detail : Nat) (s : State) :
    (s.failed handle detail).outer = s.outer := by simp [failed]
@[simp] theorem aborted_outer (handle detail : Nat) (s : State) :
    (s.aborted handle detail).outer = s.outer := by simp [aborted]

/-! ## Marks -/

@[simp] theorem markChan_outer (c : Nat) (k : MarkKind) (code : Nat) (stop : Option Tick) (s : State) :
    (s.markChan c k code stop).outer = s.outer := by simp [markChan]
@[simp] theorem markBank_outer (b : Nat) (k : MarkKind) (code : Nat) (stop : Option Tick) (s : State) :
    (s.markBank b k code stop).outer = s.outer := by simp [markBank]

/-! ## Spindle -/

@[simp] theorem placeFlyer_outer (b : Nat) (start : Option Nat) (s : State) :
    (s.placeFlyer b start).outer = s.outer := by simp [placeFlyer]
@[simp] theorem resumeFlyers_outer (s : State) : s.resumeFlyers.outer = s.outer := by simp [resumeFlyers]
@[simp] theorem holdFlyers_outer (s : State) : s.holdFlyers.outer = s.outer := by simp [holdFlyers]
@[simp] theorem endFrame_outer (s : State) : s.endFrame.outer = s.outer := by simp [endFrame]
@[simp] theorem setSpindle_outer (st : SpState) (s : State) :
    (s.setSpindle st).outer = s.outer := by simp [setSpindle]
@[simp] theorem noDepth_outer (cause : Nat) (s : State) : (s.noDepth cause).outer = s.outer := by simp [noDepth]
@[simp] theorem rateFault_outer (period : Nat) (s : State) :
    (s.rateFault period).outer = s.outer := by simp [rateFault]
@[simp] theorem discardSeed_outer (c : Option Tick) (s : State) :
    (s.discardSeed c).outer = s.outer := by simp [discardSeed]
@[simp] theorem enterFreeRunning_outer (s : State) :
    s.enterFreeRunning.outer = s.outer := by simp [enterFreeRunning]
@[simp] theorem setScanner_outer (n : Nat) (m : Scanner) (s : State) :
    (s.setScanner n m).outer = s.outer := by simp [setScanner]
@[simp] theorem updateScanner_outer (n : Nat) (s : State) :
    (s.updateScanner n).outer = s.outer := by simp [updateScanner]

/-! ## The front end -/

@[simp] theorem setRange_outer (c r : Nat) (s : State) : (s.setRange c r).outer = s.outer := by simp [setRange]
@[simp] theorem setInter_outer (c : Nat) (m : Store (Int × Int × Int)) (s : State) :
    (s.setInter c m).outer = s.outer := by simp [setInter]
@[simp] theorem applyRanging_outer (c : Nat) (s : State) :
    (s.applyRanging c).outer = s.outer := by simp [applyRanging]
@[simp] theorem cardMode_outer (c : Nat) (gates : Bool) (s : State) :
    (s.cardMode c gates).outer = s.outer := by simp [cardMode]
@[simp] theorem captureGap_outer (c : Nat) (out : Bool) (s : State) :
    (s.captureGap c out).outer = s.outer := by simp [captureGap]
@[simp] theorem startBlock_outer (c : Nat) (s : State) : (s.startBlock c).outer = s.outer := by simp [startBlock]
@[simp] theorem enterMode_outer (c old : Nat) (s : State) :
    (s.enterMode c old).outer = s.outer := by simp [enterMode]
@[simp] theorem dropAutomatic_outer (c : Nat) (s : State) :
    (s.dropAutomatic c).outer = s.outer := by simp [dropAutomatic]
@[simp] theorem applyMode_outer (c old : Nat) (s : State) :
    (s.applyMode c old).outer = s.outer := by simp [applyMode]
@[simp] theorem modBias_outer (b : Nat) (g : Bias → Bias) (s : State) :
    (s.modBias b g).outer = s.outer := by simp [modBias]
@[simp] theorem aimBias_outer (b target : Nat) (s : State) :
    (s.aimBias b target).outer = s.outer := by simp [aimBias]
@[simp] theorem startBiasChange_outer (b target : Nat) (s : State) :
    (s.startBiasChange b target).outer = s.outer := by simp [startBiasChange]
@[simp] theorem retarget_outer (b : Nat) (byTerm : Bool) (s : State) :
    (s.retarget b byTerm).outer = s.outer := by simp [retarget]
@[simp] theorem stopGate_outer (b : Nat) (s : State) : (s.stopGate b).outer = s.outer := by simp [stopGate]
@[simp] theorem applyBiasEnable_outer (b : Nat) (s : State) :
    (s.applyBiasEnable b).outer = s.outer := by simp [applyBiasEnable]
@[simp] theorem stopBias_outer (s : State) : s.stopBias.outer = s.outer := by simp [stopBias]

/-! ## Housekeeping -/

@[simp] theorem unsettle_outer (s : State) : s.unsettle.outer = s.outer := by simp [unsettle]
@[simp] theorem referenceChanged_outer (s : State) :
    s.referenceChanged.outer = s.outer := by simp [referenceChanged]
@[simp] theorem startHk_outer (s : State) : s.startHk.outer = s.outer := by simp [startHk]
@[simp] theorem stopHk_outer (s : State) : s.stopHk.outer = s.outer := by simp [stopHk]
@[simp] theorem startConv_outer (input slot source handle : Nat) (s : State) :
    (s.startConv input slot source handle).outer = s.outer := by simp [startConv]

@[simp] theorem hkSlot_outer (i : Nat) (s : State) : (s.hkSlot i).outer = s.outer := by
  unfold hkSlot
  split <;> simp

@[simp] theorem startTimer_outer (s : State) : s.startTimer.outer = s.outer := by simp [startTimer]

/-! ## Triggers and statistics -/

@[simp] theorem bankTrigger_outer (b c : Nat) (x : Tick) (s : State) :
    (s.bankTrigger b c x).outer = s.outer := by simp [bankTrigger]

@[simp] theorem combine_outer (c : Nat) (x : Tick) (s : State) :
    (s.combine c x).outer = s.outer := by
  unfold combine
  dsimp only
  split
  · simp
  · split
    · rfl
    · split <;> simp
  · simp

@[simp] theorem combineBank_outer (b : Nat) (s : State) : (s.combineBank b).outer = s.outer := by simp [combineBank]
@[simp] theorem trigApplied_outer (c : Nat) (s : State) : (s.trigApplied c).outer = s.outer := by simp [trigApplied]
@[simp] theorem cutReading_outer (c gate decay : Nat) (s : State) :
    (s.cutReading c gate decay).outer = s.outer := by simp [cutReading]
@[simp] theorem openDrift_outer (i : Nat) (x : Tick) (first : Option Tick) (s : State) :
    (s.openDrift i x first).outer = s.outer := by simp [openDrift]

@[simp] theorem driftChosen_outer (s : State) : s.driftChosen.outer = s.outer := by
  unfold driftChosen
  split <;> simp

@[simp] theorem prescalerApplied_outer (i : Nat) (s : State) :
    (s.prescalerApplied i).outer = s.outer := by simp [prescalerApplied]

/-! ## Classes -/

@[simp] theorem modCard_outer (c : Nat) (g : Carding → Carding) (s : State) :
    (s.modCard c g).outer = s.outer := by simp [modCard]
@[simp] theorem cohClear_outer (c : Nat) (interval : Bool) (s : State) :
    (s.cohClear c interval).outer = s.outer := by simp [cohClear]

/-! ## The DRAM's queues and Bobbin -/

@[simp] theorem modDramCh_outer (i : Nat) (g : DramCh → DramCh) (s : State) :
    (s.modDramCh i g).outer = s.outer := by simp [modDramCh]
@[simp] theorem modDramBank_outer (n : Nat) (g : DramBank → DramBank) (s : State) :
    (s.modDramBank n g).outer = s.outer := by simp [modDramBank]
@[simp] theorem enterQueue_outer (r : DramReq) (s : State) :
    (s.enterQueue r).outer = s.outer := by simp [enterQueue]

@[simp] theorem enterAll_outer (l : List DramReq) (s : State) : (s.enterAll l).2.outer = s.outer := by
  unfold enterAll
  refine List.foldlRecOn l _ (motive := fun a : List DramReq × State => a.2.outer = s.outer) rfl fun a ha r _ => ?_
  split <;> simp [ha]

@[simp] theorem fillQueues_outer (s : State) : s.fillQueues.outer = s.outer := by simp [fillQueues]
@[simp] theorem request_outer (l : List DramReq) (s : State) : (s.request l).outer = s.outer := by simp [request]
@[simp] theorem discard_outer (p : DramReq → Bool) (s : State) : (s.discard p).outer = s.outer := by simp [discard]
@[simp] theorem modBob_outer (c k : Nat) (g : BobSlot → BobSlot) (s : State) :
    (s.modBob c k g).outer = s.outer := by simp [modBob]
@[simp] theorem askBins_outer (c k : Nat) (s : State) : (s.askBins c k).outer = s.outer := by simp [askBins]
@[simp] theorem bobFinish_outer (c k : Nat) (part : Bool) (s : State) :
    (s.bobFinish c k part).outer = s.outer := by simp [bobFinish]
@[simp] theorem spillRead_outer (c k i : Nat) (r : DramReq) (bytes : List Byte) (s : State) :
    (s.spillRead c k i r bytes).outer = s.outer := by simp [spillRead]
@[simp] theorem bobsEnd_outer (c : Nat) (stay : Bool) (s : State) :
    (s.bobsEnd c stay).outer = s.outer := by simp [bobsEnd]

@[simp] theorem bobsLost_outer (all : Bool) (s : State) : (s.bobsLost all).outer = s.outer := by
  refine each_outer (fun c u => each_outer (fun k v => cond_outer (fun w => ?_) _ v) _ u) _ s
  simp

/-! ## Carding -/

@[simp] theorem levelHosted_outer (c : Nat) (source : Bool) (s : State) :
    (s.levelHosted c source).outer = s.outer := by simp [levelHosted]
@[simp] theorem analogueHosted_outer (c : Nat) (source : Bool) (s : State) :
    (s.analogueHosted c source).outer = s.outer := by simp [analogueHosted]
@[simp] theorem leaveWaveform_outer (c : Nat) (s : State) :
    (s.leaveWaveform c).outer = s.outer := by simp [leaveWaveform]
@[simp] theorem setHop_outer (j cause : Nat) (s : State) : (s.setHop j cause).outer = s.outer := by simp [setHop]

/-! ## The DRAM scheduler -/

@[simp] theorem burstEffect_outer (r : DramReq) (s : State) :
    (s.burstEffect r).outer = s.outer := by
  unfold burstEffect
  split
  · simp
  · dsimp only
    split <;> simp

@[simp] theorem pageDecision_outer (n : Nat) (s : State) :
    (s.pageDecision n).outer = s.outer := by simp [pageDecision]
@[simp] theorem serveReq_outer (n : Nat) (r : DramReq) (s : State) :
    (s.serveReq n r).outer = s.outer := by simp [serveReq]

@[simp] theorem channelTurn_outer (past : Bool) (ch : Nat) (s : State) :
    (s.channelTurn past ch).outer = s.outer := by
  unfold channelTurn
  split
  · rfl
  · split <;> simp

@[simp] theorem turn_outer (past : Bool) (s : State) : (s.turn past).outer = s.outer := by simp [turn]
@[simp] theorem makeRoom_outer (s : State) : s.makeRoom.outer = s.outer := by simp [makeRoom]

/-! ## Captures -/

@[simp] theorem stageBytes_outer (g : Nat) (parts : List (Nat × List Byte)) (s : State) :
    (s.stageBytes g parts).outer = s.outer := by simp [stageBytes]
@[simp] theorem layWords_outer (g : Nat) (words : List RawWord) (s : State) :
    (s.layWords g words).outer = s.outer := by simp [layWords]
@[simp] theorem countMiss_outer (g : Nat) (rearm : Bool) (s : State) :
    (s.countMiss g rearm).outer = s.outer := by simp [countMiss]
@[simp] theorem storeHeads_outer (g : Nat) (cap : Capture) (s : State) :
    (s.storeHeads g cap).outer = s.outer := by simp [storeHeads]
@[simp] theorem addCapture_outer (g : Nat) (a : Accepted) (start : Nat) (turn : Option Nat) (n post : Nat)
    (flags : BitVec 10) (s : State) :
    (s.addCapture g a start turn n post flags).outer = s.outer := by simp [addCapture]
@[simp] theorem ringCapture_outer (g : Nat) (at_ : Tick) (flags : BitVec 10) (s : State) :
    (s.ringCapture g at_ flags).outer = s.outer := by simp [ringCapture]

@[simp] theorem closeGroup_outer (g : Nat) (at_ : Tick) (flag : BitVec 10) (words : List RawWord) (s : State) :
    (s.closeGroup g at_ flag words).outer = s.outer := by
  unfold closeGroup
  dsimp only
  split <;> simp

@[simp] theorem undoTrigger_outer (g : Nat) (counted : Bool) (s : State) :
    (s.undoTrigger g counted).outer = s.outer := by
  unfold undoTrigger
  split
  · simp
  · rfl

@[simp] theorem stopGroup_outer (g : Nat) (handle : Option Nat) (flag : Nat) (s : State) :
    (s.stopGroup g handle flag).outer = s.outer := by simp [stopGroup]

@[simp] theorem stopCaptures_outer (flag : Nat) (s : State) :
    (s.stopCaptures flag).outer = s.outer := by
  refine each_outer (fun g u => ?_) _ s
  split <;> simp

/-! ## DRAM channels -/

@[simp] theorem modeChanged_outer (old : Nat) (s : State) :
    (s.modeChanged old).outer = s.outer := by
  unfold modeChanged
  dsimp only
  split
  · rfl
  · split
    · simp
    · simp only [modDram_outer, modDramMem_outer, bobsLost_outer]
      refine (each_outer (fun g u => ?_) _ _).trans (health_outer ..)
      split
      · split <;> simp
      · rfl

/-! ## The non-volatile store and saved calibration -/

@[simp] theorem nvRefuse_outer (k pages : Nat) (handle : Option Nat) (s : State) :
    (s.nvRefuse k pages handle).outer = s.outer := by
  unfold nvRefuse
  split <;> simp

@[simp] theorem nvWrite_outer (k : Nat) (bytes : List Byte) (handle : Option Nat) (s : State) :
    (s.nvWrite k bytes handle).outer = s.outer := by simp [nvWrite]
@[simp] theorem loadInter_outer (s : State) : s.loadInter.outer = s.outer := by simp [loadInter]

/-! ## Whorl's refusals, ports and boards -/

@[simp] theorem uncharge_outer (a : Account) (x : Tick) (e : Nat) (s : State) :
    (s.uncharge a x e).outer = s.outer := by simp [uncharge]

/-! ## Staged changes -/

@[simp] theorem beforeParam_outer (id target : Nat) (s : State) :
    (s.beforeParam id target).outer = s.outer := by simp [beforeParam]

@[simp] theorem afterChannel_outer (id c old : Nat) (s : State) :
    (s.afterChannel id c old).outer = s.outer := by simp [afterChannel]
@[simp] theorem afterBank_outer (id b : Nat) (s : State) : (s.afterBank id b).outer = s.outer := by simp [afterBank]
@[simp] theorem flipCopy_outer (b : Nat) (s : State) : (s.flipCopy b).outer = s.outer := by simp [flipCopy]
@[simp] theorem withSwapMarks_outer {f : State → State} (h : ∀ u, (f u).outer = u.outer) (s : State) :
    (s.withSwapMarks f).outer = s.outer := by simp [withSwapMarks, h]
@[simp] theorem dropChange_outer (c : Change) (s : State) : (s.dropChange c).outer = s.outer := by cases c <;> rfl

/-! ## Transitions -/

@[simp] theorem setLink_outer (st : LinkState) (s : State) : (s.setLink st).outer = s.outer := by simp [setLink]
@[simp] theorem linkDetect_outer (s : State) : s.linkDetect.outer = s.outer := by simp [linkDetect]
@[simp] theorem dropBob_outer (c k : Nat) (s : State) : (s.dropBob c k).outer = s.outer := by simp [dropBob]

@[simp] theorem dropBobs_outer (h : Nat) (s : State) : (s.dropBobs h).outer = s.outer := by
  refine each_outer (fun c u => each_outer (fun k v => ?_) _ u) _ s
  dsimp only
  split
  · simp
  · split <;> simp

@[simp] theorem dropInject_outer (h : Nat) (s : State) : (s.dropInject h).outer = s.outer := by
  unfold dropInject
  split
  · split <;> simp
  · rfl

@[simp] theorem dropNv_outer (h : Nat) (s : State) : (s.dropNv h).outer = s.outer := by simp [dropNv]
@[simp] theorem dropStaged_outer (h : Nat) (s : State) : (s.dropStaged h).outer = s.outer := by simp [dropStaged]
@[simp] theorem dropOther_outer (h : Nat) (s : State) : (s.dropOther h).outer = s.outer := by simp [dropOther]
@[simp] theorem calStop_outer (s : State) : s.calStop.outer = s.outer := by
  unfold calStop
  rw [modCal_outer, withSwapMarks_outer fun u => each_outer (fun b v => by simp) _ u]
  simp

@[simp] theorem endSession_outer (s : State) : s.endSession.outer = s.outer := by simp [endSession]

@[simp] theorem enterBlocks_outer (s : State) : s.enterBlocks.outer = s.outer := by
  have hranges (u : State) : ((u.modClock fun k => { k with safeAt := u.now }).each (List.range 256) fun c v =>
      v.cond (v.autoRanging c && !(v.chan c).fe.held) (setRange c (v.pnum Par.initialRange c))).outer = u.outer :=
    each_outer (fun c v => by simp) _ _
  unfold enterBlocks
  dsimp only
  split <;> simp [hranges]

/-! ## Seeds, Distaff and the start -/

end State

end Sys2Proof.Machine
end

section
/-! PROOFS. What a transition runs leaves the supply's view and the non-volatile store, takes no port to another state, changes no
gate, and lets no shot wait that did not (spec 15 R347-R351, 16 R386). -/

namespace Sys2Proof.Machine

namespace State

/-- In the same moment, the supply's view and the store stand, ports keep their states and gates, and no shot has begun to
wait. -/
structure Calm (s u : State) : Prop where
  moment : u.moment = s.moment
  power : u.power = s.power
  nv : u.nv = s.nv
  wf : s.wf = true → u.wf = true
  ports : s.wf = true → ∀ n, (u.port n).state = (s.port n).state ∧ (u.port n).gate = (s.port n).gate
  shots : s.wf = true → ∀ i, (s.entry i).waiting = false → (u.entry i).waiting = false

namespace Calm
variable {a b c : State}

theorem refl (s : State) : Calm s s := ⟨rfl, rfl, rfl, id, fun _ _ => ⟨rfl, rfl⟩, fun _ _ => id⟩

theorem trans (h : Calm a b) (k : Calm b c) : Calm a c := by
  refine ⟨k.moment.trans h.moment, k.power.trans h.power, k.nv.trans h.nv, fun hw => k.wf (h.wf hw), fun hw n => ?_,
    fun hw i hi => k.shots (h.wf hw) i (h.shots hw i hi)⟩
  obtain ⟨hs, hg⟩ := h.ports hw n
  obtain ⟨ks, kg⟩ := k.ports (h.wf hw) n
  exact ⟨ks.trans hs, kg.trans hg⟩

/-- What leaves the outer parts. -/
theorem of_outer (h : b.outer = a.outer) (k : Kept a b) : Calm a b := by
  simp only [outer, Prod.mk.injEq] at h
  obtain ⟨hmoment, hpower, hnv, hports, hskein⟩ := h
  exact ⟨hmoment, hpower, hnv, k.wf, fun _ n => by rw [port_of_ports hports]; exact ⟨rfl, rfl⟩,
    fun _ i hi => by rw [entry_of_skein hskein]; exact hi⟩

theorem each {α : Type} {f : α → State → State} (h : ∀ x s, Calm s (f x s)) (l : List α) (s : State) : Calm s (s.each l f) :=
  each_rel refl trans h l s

theorem cond {f : State → State} (h : ∀ s, Calm s (f s)) (p : Bool) (s : State) : Calm s (s.cond p f) := by
  rw [cond_eq]
  split
  · exact h s
  · exact refl s

theorem ite {p : Prop} [Decidable p] {s u v : State} (h : Calm s u) (k : Calm s v) : Calm s (if p then u else v) := by
  split
  · exact h
  · exact k

end Calm

theorem modPort_calm (n : Nat) {g : Port → Port} (hg : ∀ p, (g p).state = p.state ∧ (g p).gate = p.gate) (s : State) :
    Calm s (s.modPort n g) := by
  refine ⟨rfl, rfl, rfl, fun hw => wf_modPort hw n g, fun hw m => ?_, fun _ _ => id⟩
  by_cases hm : m = n
  · rw [hm, port_modPort_same hw]
    exact hg _
  · rw [port_modPort_other hw hm]
    exact ⟨rfl, rfl⟩

theorem modEntry_calm (i : Nat) {g : Entry → Entry} (s : State) (hg : (s.entry i).waiting = false → (g (s.entry i)).waiting = false) :
    Calm s (s.modEntry i g) := by
  refine ⟨rfl, rfl, rfl, (modEntry_kept (.refl s)).wf, fun _ _ => ⟨rfl, rfl⟩, fun hw j hj => ?_⟩
  by_cases hij : j = i
  · subst hij
    rw [entry_modEntry_same hw]
    exact hg hj
  · rw [entry_modEntry_other hw hij]
    exact hj

/-! ## Shots -/

theorem retire_calm (i out : Nat) (s : State) : Calm s (s.retire i out) := by
  refine ((modEntry_calm i s ?waiting).trans (modPort_calm _ ?port _)).trans (.cond (fun u => ?account) _ _)
  case waiting => exact fun _ => rfl
  case port => exact fun _ => ⟨rfl, rfl⟩
  case account => exact .of_outer (by simp) (account_kept (.refl u))

theorem revise_calm (i out : Nat) (s : State) : Calm s (s.revise i out) := by
  have hentry : Calm s (s.modEntry i fun e => { e with outcome := out }) := modEntry_calm i s id
  unfold revise
  dsimp only
  split
  · exact hentry
  · exact hentry.trans (.of_outer (by simp) (modRecs_kept (countFlyer_kept (modFlyer_kept (.refl _)))))

theorem cancel_calm (pick : Entry → Bool) (out : Nat) (s : State) : Calm s (s.cancel pick out) :=
  ((Calm.each (fun (x : Nat × Entry) u => modEntry_calm x.1 u id) _ s).trans (.each (fun (x : Nat × Entry) u => revise_calm x.1 out u) _ _)).trans
    (.each (fun (x : Nat × Entry) u => retire_calm x.1 out u) _ _)

theorem refuseEarlier_calm (k : Nat) (x : Nat × Entry) (s : State) : Calm s (s.refuseEarlier k x) := by
  unfold refuseEarlier
  dsimp only
  refine Calm.trans (.of_outer ?outer ?kept) (modEntry_calm x.1 _ id)
  case outer =>
    simp only [count_outer]
    exact cond_outer (fun u => each_outer (fun a v => cond_outer (fun w => by simp) _ v) _ u) _ s
  case kept =>
    exact count_kept (count_kept (cond_kept (fun u => each_kept (fun a v => cond_kept (fun w =>
      cond_kept (fun x => unsay_kept (.refl x)) (modWhorl_kept (.refl w))) (.refl v)) (.refl u)) (.refl s)))

theorem refuseNow_calm (pick : Entry → Bool) (k : Nat) (s : State) : Calm s (s.refuseNow pick k) := by
  have hback (x : Nat × Entry) (u : State) : Calm u ((u.each (u.accountsOf x.2.element) fun a s =>
      s.uncharge a x.2.planned x.2.charge).count (Kind.refused1 + k) (elemPort x.2.element) 1) :=
    .of_outer (by simp) (count_kept (each_kept (fun a v => uncharge_kept (.refl v)) (.refl u)))
  exact (Calm.each (fun x u => refuseEarlier_calm k x u) _ s).trans
    (.each (fun x u => ((hback x u).trans (modEntry_calm x.1 _ id)).trans (retire_calm x.1 0x20 _)) _ _)

theorem whorlStop_calm (s : State) : Calm s s.whorlStop :=
  ((refuseNow_calm (fun _ => true) 0 s).trans (cancel_calm (fun _ => true) 0x21 _)).trans
    (.of_outer (noDepth_outer 2 _) (noDepth_kept (.refl _)))

/-! ## Data frames and emission messages -/

theorem sendFrame_calm (n : Nat) (shares : List (List Byte)) (s : State) : Calm s (s.sendFrame n shares) := by
  unfold sendFrame
  exact .cond (fun u => modPort_calm n (by exact fun _ => ⟨rfl, rfl⟩) u) _ s

theorem updateEmission_calm (n : Nat) (s : State) : Calm s (s.updateEmission n) := by
  unfold updateEmission
  dsimp only
  exact .ite (.refl s) ((sendFrame_calm n _ s).trans (modPort_calm n (by exact fun _ => ⟨rfl, rfl⟩) _))

theorem updateEmissions_calm (s : State) : Calm s s.updateEmissions := .each (fun n u => updateEmission_calm n u) _ s

theorem updateReports_calm (n : Nat) (s : State) : Calm s (s.updateReports n) := by
  unfold updateReports
  dsimp only
  exact .ite (.refl s) ((sendFrame_calm n _ s).trans (modPort_calm n (by exact fun _ => ⟨rfl, rfl⟩) _))

theorem sendComps_calm (n : Nat) (s : State) : Calm s (s.sendComps n) := by
  rw [sendComps_eq]
  exact sendFrame_calm n _ s

theorem renewComps_calm (l : List Nat) (s : State) : Calm s (s.renewComps l) :=
  .each (fun n u => .cond (fun v => sendComps_calm n v) _ u) l s

theorem withdrawSync_calm (n : Nat) (s : State) : Calm s (s.withdrawSync n) := by
  unfold withdrawSync
  exact modPort_calm n (by exact fun _ => ⟨rfl, rfl⟩) s

/-! ## Answers that ports owe -/

theorem completeWith_calm (handle status detail flags : Nat) (boundary : Option LineTime) (result : List Byte) (s : State) :
    Calm s (s.completeWith handle status detail flags boundary result) :=
  .of_outer (completeWith_outer ..) (completeWith_kept (.refl s))

theorem payAck_calm (n : Nat) (s : State) : Calm s (s.payAck n) := by
  unfold payAck
  split
  · exact .refl s
  · exact ((modPort_calm n (by exact fun _ => ⟨rfl, rfl⟩) s).trans (.of_outer (ackWith_outer ..) (ackWith_kept (.refl _)))).trans
      (.cond (fun u => completeWith_calm _ _ _ _ _ _ u) _ _)

theorem busyAck_calm (n : Nat) (s : State) : Calm s (s.busyAck n) := by
  unfold busyAck
  split
  · exact .refl s
  · exact (modPort_calm n (by exact fun _ => ⟨rfl, rfl⟩) s).trans
      (.of_outer ((ackWith_outer ..).trans (modDist_outer ..)) (ackWith_kept (modDist_kept (.refl _))))

/-! ## Line time -/

theorem enterAcquiring_calm (s : State) : Calm s s.enterAcquiring := by
  refine (Calm.each (fun n u => payAck_calm n u) (List.range 8) s).trans (.of_outer ?outer ?kept)
  case outer => exact (holdFlyers_outer _).trans ((modSpindle_outer ..).trans ((discardSeed_outer ..).trans (setSpindle_outer ..)))
  case kept => exact holdFlyers_kept (modSpindle_kept (discardSeed_kept (setSpindle_kept (.refl _))))

theorem declareLost_calm (cause : Nat) (s : State) : Calm s (s.declareLost cause) := by
  refine ((cancel_calm (fun _ => true) 0x22 s).trans (.of_outer ?outer ?kept)).trans (enterAcquiring_calm _)
  case outer =>
    rw [noDepth_outer, event_outer, setFlag_outer, setSpindle_outer]
  case kept => exact noDepth_kept (event_kept (setFlag_kept (setSpindle_kept (.refl _))))

theorem applyTimingMode_calm (s : State) : Calm s s.applyTimingMode := by
  have hlines : Calm s (s.modSpindle fun p => { p with lines := s.pnum Par.declaredLines 0 }) :=
    .of_outer rfl (modSpindle_kept (.refl s))
  unfold applyTimingMode
  exact .ite (hlines.trans (.of_outer (enterFreeRunning_outer _) (enterFreeRunning_kept (.refl _))))
    (hlines.trans (enterAcquiring_calm _))

theorem linesChanged_calm (s : State) : Calm s s.linesChanged := by
  have hlines : Calm s (s.modSpindle fun p => { p with lines := s.pnum Par.declaredLines 0 }) :=
    .of_outer rfl (modSpindle_kept (.refl s))
  unfold linesChanged
  refine .ite (.refl s) (.ite hlines (.ite ?_ (.ite ?_ hlines)))
  · exact (hlines.trans (.of_outer (rateFault_outer ..) (rateFault_kept (.refl _)))).trans (declareLost_calm 2 _)
  · exact hlines.trans (.of_outer (by simp) (discardSeed_kept (rateFault_kept (.refl _))))

/-! ## Settings -/

/-- Frames that commands and shots are bound to keep their frame; what the shots are else stays (spec 02 R36). -/
theorem renumber_calm (n0 n1 : Nat) (s : State) : Calm s (s.renumber n0 n1) := by
  have hstaged (g : Distaff → Distaff) (u : State) : Calm u (u.modDist g) := .of_outer rfl (modDist_kept (.refl u))
  have hflyer (b : Nat) (g : Flyer → Flyer) (u : State) : Calm u (u.modFlyer b g) :=
    .of_outer (modFlyer_outer ..) (modFlyer_kept (.refl u))
  have hgroup (b : Nat) (g : Group → Group) (u : State) : Calm u (u.modGroup b g) :=
    .of_outer (modGroup_outer ..) (modGroup_kept (.refl u))
  have htime (g : Spindle → Spindle) (u : State) : Calm u (u.modSpindle g) := .of_outer rfl (modSpindle_kept (.refl u))
  unfold renumber
  refine .ite (.refl s) (Calm.trans (Calm.trans (Calm.trans (Calm.trans (hstaged _ s) (.each ?flyers _ _))
    (.each ?groups _ _)) (.each ?shots _ _)) (htime _ _))
  case flyers => exact fun b u => hflyer b _ u
  case groups => exact fun g u => .cond (fun v => hgroup g _ v) _ u
  case shots => exact fun i u => modEntry_calm i u id

theorem setLoad_calm (l : Option Nat) (s : State) : Calm s (s.setLoad l) := by
  have hload (u : State) : Calm u (u.modSpindle fun p => { p with load := l }) := .of_outer rfl (modSpindle_kept (.refl u))
  exact (renumber_calm _ _ s).trans (hload _)

theorem afterTiming_calm (id : Nat) (s : State) : Calm s (s.afterTiming id) := by
  unfold afterTiming
  refine .ite (applyTimingMode_calm s) (.ite (linesChanged_calm s) (.ite (.of_outer (driftChosen_outer s)
    (driftChosen_kept (.refl s))) (.ite (.each (fun n u => ?_) _ s) (.refl s))))
  exact (Calm.of_outer (updateScanner_outer n u) (updateScanner_kept (.refl u))).trans (updateReports_calm n _)

theorem afterParam_calm (id target old : Nat) (s : State) : Calm s (s.afterParam id target old) := by
  unfold afterParam
  exact .ite (.of_outer (afterChannel_outer ..) (afterChannel_kept (.refl s)))
    (.ite (.of_outer (afterBank_outer ..) (afterBank_kept (.refl s)))
      (.ite (.of_outer (referenceChanged_outer s) (referenceChanged_kept (.refl s)))
        (.ite (.of_outer (cond_outer (fun u => startTimer_outer u) _ s) (cond_kept (fun u => startTimer_kept (.refl u)) (.refl s)))
          (.ite (.of_outer (prescalerApplied_outer ..) (prescalerApplied_kept (.refl s))) (afterTiming_calm id s)))))

theorem applyItem_calm (target : Nat) (i : Item) (s : State) : Calm s (s.applyItem target i) := by
  unfold applyItem
  split
  · exact .refl s
  · refine .ite (setLoad_calm _ s) (.ite (.ite (.refl s) (.of_outer (setHop_outer ..) (setHop_kept (.refl s))))
      (.ite (.refl s) (.trans (.of_outer ?_ ?_) (afterParam_calm _ _ _ _))))
    · rw [setParam_outer, beforeParam_outer]
    · exact setParam_kept (beforeParam_kept (.refl s))

theorem calm_of_headsStay {s u : State} (h : HeadsStay s u) : Calm s u := by
  obtain ⟨⟨y, z, hsame⟩, hwf, hheads⟩ := h
  refine ⟨by rw [hsame]; rfl, by rw [hsame], by rw [hsame], hwf, fun hw n => ?_, fun _ i hi => ?_⟩
  · obtain ⟨hstate, -, hgate⟩ := hheads hw n
    exact ⟨hstate, hgate⟩
  · rw [entry_of_skein (s := s) (by rw [hsame])]
    exact hi

/-- Nothing comes into force where the saved object is not this device's (spec 19 R457). -/
theorem calApply_of_error {s : State} (m : Nat) (he : s.restoreError ≠ none) : s.calApply m = s := by
  unfold calApply
  split
  · next hnone => exact absurd hnone he
  · rfl

theorem calApply_calm (m : Nat) (s : State) : Calm s (s.calApply m) := by
  by_cases he : s.restoreError = none
  · obtain ⟨b, hb⟩ := nvData_of_restorable he
    have htables : Calm s (s.modCal fun c => { c with tables := calLoad c.tables b m }) :=
      .of_outer (modCal_outer _ s) (modCal_kept (.refl s))
    exact htables.trans (calm_of_headsStay (calApply_effect m hb he))
  · rw [calApply_of_error m he]
    exact .refl s

theorem applyRestore_calm (s : State) : Calm s s.applyRestore := by
  have hmark (v : State) (p : Nat → Bool) : Calm v (v.each (List.range 256) fun c t =>
      t.cond (p c) (markChan c .interleave 1 (some (s.now + 16 * sample)))) :=
    .each (fun c u => .cond (fun w => .of_outer (markChan_outer ..) (markChan_kept (.refl w))) _ u) _ v
  exact ((calApply_calm _ s).trans (renewComps_calm _ _)).trans (hmark _ _)

theorem applyChange_calm (c : Change) (s : State) : Calm s (s.applyChange c) := by
  cases c with
  | item t i => exact applyItem_calm t i s
  | codes b first l => exact .of_outer (modFlyer_outer ..) (modFlyer_kept (.refl s))
  | sets b first l => exact .of_outer (modFlyer_outer ..) (modFlyer_kept (.refl s))
  | swap b => exact .of_outer (flipCopy_outer b s) (flipCopy_kept (.refl s))
  | restore => exact applyRestore_calm s
  | hop j host => exact .of_outer (setHop_outer ..) (setHop_kept (.refl s))

theorem withSwapMarks_calm {f : State → State} (h : ∀ u, Calm u (f u)) (s : State) : Calm s (s.withSwapMarks f) :=
  (h s).trans (.each (fun b u => .cond (fun v => .of_outer (by simp) (markBank_kept (modBank_kept (.refl v)))) _ u) _ _)

theorem aborted_calm (handle detail : Nat) (s : State) : Calm s (s.aborted handle detail) :=
  .of_outer (aborted_outer ..) (aborted_kept (.refl s))

theorem settleStaged_calm (s : State) : Calm s s.settleStaged := by
  refine Calm.trans (.of_outer (modDist_outer _ s) (modDist_kept (.refl s)))
    (withSwapMarks_calm (fun u => .each (fun x v => ?_) _ u) _)
  have hchanges : ∀ ok gone, Calm v ((v.each ok applyChange).each gone dropChange) := fun ok gone =>
    (Calm.each (fun c w => applyChange_calm c w) ok v).trans
      (.each (fun c w => .of_outer (dropChange_outer c w) (dropChange_kept (.refl w))) gone _)
  dsimp only
  split
  · exact hchanges _ _
  · exact .ite ((hchanges _ _).trans (completeWith_calm _ _ _ _ _ _ _)) ((hchanges _ _).trans (aborted_calm _ _ _))

/-! ## Transitions -/

theorem dropJobs_calm (h : Nat) (s : State) : Calm s (s.dropJobs h) := by
  have hgates : Calm s ((s.modRuns fun l => l.filter fun r => r.handle ≠ h).each (List.range 4) fun i s =>
      s.cond ((s.aux i).gate.any fun g => g.handle = h) (modAux i fun a => { a with gate := none })) :=
    .of_outer (by simp) (each_kept (fun i u => cond_kept (fun v => modAux_kept (.refl v)) (.refl u)) (modRuns_kept (.refl s)))
  have hport (n : Nat) (u : State) : Calm u (((u.cond ((u.port n).syncFor.any fun x => x.2 = some h) (withdrawSync n)).cond
      ((u.port n).owed.any fun x => x.2.1 = h) (payAck n)).cond ((u.port n).asked.any fun q => q.handle = h) (busyAck n)) :=
    ((Calm.cond (withdrawSync_calm n) _ u).trans (.cond (payAck_calm n) _ _)).trans (.cond (busyAck_calm n) _ _)
  have hrest (u : State) : Calm u (((((u.dropBobs h).dropInject h).dropNv h).dropStaged h).dropOther h) :=
    .of_outer (by simp) (dropOther_kept (dropStaged_kept (dropNv_kept (dropInject_kept (dropBobs_kept (.refl u))))))
  exact (hgates.trans (.each hport _ _)).trans (hrest _)

theorem abortLive_calm (self : Option Nat) (s : State) : Calm s (s.abortLive self) := by
  have hone (l : Live) (u : State) : Calm u ((u.dropJobs l.handle).aborted l.handle 1) :=
    (dropJobs_calm l.handle u).trans (aborted_calm _ _ _)
  unfold abortLive
  exact .each hone _ s

theorem leaveRanging_calm (out depth : Nat) (s : State) : Calm s (s.leaveRanging out depth) := by
  have hflyers : Calm s (s.each (List.range 16) fun b => modFlyer b fun f => { f with state := .stopped, issued := [] }) :=
    .of_outer (by simp) (each_kept (fun b u => modFlyer_kept (.refl u)) (.refl s))
  have hrest (u : State) (l : List Nat) : Calm u ((u.noDepth depth).each l fun c s => s.bobsEnd c false) :=
    .of_outer ((each_outer (fun c v => bobsEnd_outer c false v) l _).trans (noDepth_outer ..)) (each_kept (fun c v => bobsEnd_kept (.refl v)) (noDepth_kept (.refl u)))
  exact (hflyers.trans (cancel_calm (fun _ => true) out _)).trans (hrest _ _)

theorem overtakenCommand_calm (h : Nat) (s : State) : Calm s (s.overtakenCommand h) := by
  have hdist (g : Distaff → Distaff) (u : State) : Calm u (u.modDist g) := .of_outer rfl (modDist_kept (.refl u))
  exact ((dropJobs_calm h s).trans (hdist _ _)).trans (aborted_calm _ _ _)

theorem overtake_calm (rank : Nat) (s : State) : Calm s (s.overtake rank) := by
  have htest : Calm s ((s.unsay Src.device 0x10).cond (s.dev = .selfTest) (modBoot fun b => { b with test := none })) :=
    .of_outer ((cond_outer (fun u => modBoot_outer _ u) _ _).trans (unsay_outer ..)) (cond_kept (fun u => modBoot_kept (.refl u)) (unsay_kept (.refl s)))
  unfold overtake
  split
  · exact .refl s
  · split
    · exact htest.trans (overtakenCommand_calm _ _)
    · exact htest

theorem calibrationEnds_calm (run : Option CalRun) (s : State) : Calm s (match run with
    | some r => s.calStop.aborted r.handle 1
    | none => s) := by
  cases run with
  | none => exact .refl s
  | some r => exact (Calm.of_outer (calStop_outer s) (calStop_kept (.refl s))).trans (aborted_calm _ _ _)

/-- Ports keep their states and gates, and no shot has begun to wait; the transition is this one (spec 15 R348). -/
structure Settled (s u : State) : Prop where
  power : u.power = s.power
  nv : u.nv = s.nv
  wf : s.wf = true → u.wf = true
  ports : s.wf = true → ∀ n, (u.port n).state = (s.port n).state ∧ (u.port n).gate = (s.port n).gate
  shots : s.wf = true → ∀ i, (s.entry i).waiting = false → (u.entry i).waiting = false

theorem Calm.settled {s u : State} (h : Calm s u) : Settled s u := ⟨h.power, h.nv, h.wf, h.ports, h.shots⟩

theorem Settled.trans {a b c : State} (h : Settled a b) (k : Settled b c) : Settled a c := by
  refine ⟨k.power.trans h.power, k.nv.trans h.nv, fun hw => k.wf (h.wf hw), fun hw n => ?_,
    fun hw i hi => k.shots (h.wf hw) i (h.shots hw i hi)⟩
  obtain ⟨hs, hg⟩ := h.ports hw n
  obtain ⟨ks, kg⟩ := k.ports (h.wf hw) n
  exact ⟨ks.trans hs, kg.trans hg⟩

theorem modClock_settled (g : Clock → Clock) (s : State) : Settled s (s.modClock g) :=
  ⟨rfl, rfl, id, fun _ _ => ⟨rfl, rfl⟩, fun _ _ => id⟩

theorem enter_settled (new : DevState) (cause out depth : Nat) (self : Option Nat) (s : State) :
    Settled s (s.enter new cause out depth self) := by
  have hdev (u : State) : Calm u (u.modDev fun _ => new) := .of_outer rfl (modDev_kept (.refl u))
  have hevent (l : List (Nat × Nat)) (u : State) : Calm u ((((u.event Src.device 0x10 l).setFlag 0).cond (new = .fault)
      (setFlag 1)).enterBlocks) :=
    .of_outer (by simp) (enterBlocks_kept (cond_kept (fun v => setFlag_kept (.refl v)) (setFlag_kept (event_kept (.refl u)))))
  unfold enter
  refine ((overtake_calm _ s).settled.trans (modClock_settled _ _)).trans (Calm.settled (((((((hdev _).trans (.cond (leaveRanging_calm out depth) _ _)).trans (hevent _ _)).trans
    (.cond settleStaged_calm _ _)).trans (.cond ?calibration _ _)).trans (abortLive_calm self _)).trans
      (updateEmissions_calm _)))
  exact fun u => calibrationEnds_calm _ u

theorem transit_settled (rank : Nat) (here : List DevState) (new : DevState) (cause out : Nat) (self : Option Nat) (s : State) :
    Settled s (s.transit rank here new cause out self) := by
  unfold transit
  split
  · exact enter_settled ..
  · split
    · exact (modClock_settled _ s).trans (enter_settled ..)
    · exact (Calm.refl s).settled

theorem faultCause_settled (k : Option Nat) (s : State) : Settled s (s.faultCause k) := by
  have hfault (m : BitVec 6) : Calm s (s.modWhorl fun w => { w with faults := w.faults ||| m }) :=
    .of_outer rfl (modWhorl_kept (.refl s))
  cases k with
  | none => exact transit_settled ..
  | some k => exact (hfault _).settled.trans (transit_settled ..)

end State

end Sys2Proof.Machine
end

section
/-! PROOFS. The emission-inhibit latch is set (spec 16 R370-R374): no shot waits, every port goes OFF, and FAULT follows from where
it may. -/

namespace Sys2Proof.Machine

namespace State

/-! ## No shot waits once Whorl has stopped (spec 16 R383, R386) -/

theorem retireAll_leaves_none {l : List (Nat × Entry)} {out : Nat} {x : Nat × Entry} (hx : x ∈ l) : ∀ {s : State}, s.wf = true →
    ((s.each l fun x u => u.retire x.1 out).entry x.1).waiting = false := by
  induction l with
  | nil => exact absurd hx List.not_mem_nil
  | cons y l ih =>
    intro s hw
    have hwf := (retire_calm y.1 out s).wf hw
    rcases List.mem_cons.mp hx with rfl | hx
    · refine (Calm.each (fun (x : Nat × Entry) u => retire_calm x.1 out u) l _).shots hwf x.1 ?_
      rw [entry_retire_same hw]
      rfl
    · exact ih hx hwf

theorem cancelAll_leaves_none {s : State} (hw : s.wf = true) (out i : Nat) :
    ((s.cancel (fun _ => true) out).entry i).waiting = false := by
  have hmark : Calm s (s.markCancelled (fun _ => true) out) :=
    (Calm.each (fun (x : Nat × Entry) u => modEntry_calm x.1 u id) _ s).trans
      (.each (fun (x : Nat × Entry) u => revise_calm x.1 out u) _ _)
  by_cases hi : (s.entry i).waiting = true
  · have hmem : (i, s.entry i) ∈ s.skein := Store.mem_of_read fun e => by
      rw [entry, e] at hi
      exact Bool.false_ne_true hi
    have hhit : (i, s.entry i) ∈ s.cancellable fun _ => true :=
      List.mem_filter.mpr ⟨hmem, Bool.and_eq_true_iff.mpr ⟨hi, rfl⟩⟩
    rw [cancel_eq]
    exact retireAll_leaves_none hhit (hmark.wf hw)
  · exact (cancel_calm (fun _ => true) out s).shots hw i (Bool.eq_false_iff.mpr hi)

theorem whorlStop_leaves_none {s : State} (hw : s.wf = true) (i : Nat) : (s.whorlStop.entry i).waiting = false := by
  have hcancelled := cancelAll_leaves_none ((refuseNow_calm (fun _ => true) 0 s).wf hw) 0x21 i
  have hdepth : ∀ u : State, Calm u (u.noDepth 2) := fun u => .of_outer (noDepth_outer 2 u) (noDepth_kept (.refl u))
  exact (hdepth _).shots ((cancel_calm _ _ _).wf ((refuseNow_calm (fun _ => true) 0 s).wf hw)) i hcancelled

/-! ## What a port that goes to another state leaves -/

/-- In the same moment, the supply's view and the store stand, and no shot has begun to wait. -/
structure Supplied (s u : State) : Prop where
  moment : u.moment = s.moment
  power : u.power = s.power
  nv : u.nv = s.nv
  wf : s.wf = true → u.wf = true
  shots : s.wf = true → ∀ i, (s.entry i).waiting = false → (u.entry i).waiting = false

theorem Calm.supplied {s u : State} (h : Calm s u) : Supplied s u := ⟨h.moment, h.power, h.nv, h.wf, h.shots⟩

namespace Supplied
variable {a b c : State}

theorem refl (s : State) : Supplied s s := (Calm.refl s).supplied

theorem trans (h : Supplied a b) (k : Supplied b c) : Supplied a c :=
  ⟨k.moment.trans h.moment, k.power.trans h.power, k.nv.trans h.nv, fun hw => k.wf (h.wf hw),
    fun hw i hi => k.shots (h.wf hw) i (h.shots hw i hi)⟩

theorem cond {f : State → State} (h : ∀ s, Supplied s (f s)) (p : Bool) (s : State) : Supplied s (s.cond p f) := by
  rw [cond_eq]
  split
  · exact h s
  · exact refl s

theorem each {α : Type} {f : α → State → State} (h : ∀ x s, Supplied s (f x s)) (l : List α) (s : State) :
    Supplied s (s.each l f) := each_rel refl trans h l s

end Supplied

theorem modPort_supplied (n : Nat) (g : Port → Port) (s : State) : Supplied s (s.modPort n g) :=
  ⟨rfl, rfl, rfl, fun hw => wf_modPort hw n g, fun _ _ => id⟩

theorem startKeepAlives_supplied (n : Nat) (s : State) : Supplied s (s.startKeepAlives n) := by
  have hplace (k : Nat) (x : Tick) (u : State) : Supplied u (u.placeKeepAlive n k x) := by
    unfold placeKeepAlive
    dsimp only
    split
    · exact .refl u
    · split
      · exact .refl u
      · exact modPort_supplied n _ u
  exact (hplace _ _ s).trans (hplace _ _ _)

theorem dropSync_supplied (n : Nat) (s : State) : Supplied s (s.dropSync n) := by
  have hbusy (u : State) := (busyAck_calm n u).supplied
  have hfailed (h : Nat) (u : State) : Supplied u (u.failedOpen h) := by
    refine (Calm.of_outer ?_ (failedOpen_kept (.refl u))).supplied
    exact (failed_outer h (u.draw 65536).1 (u.draw 65536).2).trans (draw_outer u 65536)
  unfold dropSync
  dsimp only
  split
  · exact ((modPort_supplied n _ s).trans (hbusy _)).trans (hfailed _ _)
  · exact (modPort_supplied n _ s).trans (hbusy _)

theorem unpower_supplied (n : Nat) (s : State) : Supplied s (s.unpower n) :=
  ⟨rfl, rfl, rfl, (unpower_kept (.refl s)).wf, fun _ _ => id⟩

theorem updateGate_supplied (cause n : Nat) (s : State) : Supplied s (s.updateGate cause n) := by
  have hblame : Supplied s (s.gateBlame cause n) := .cond (fun u => (modPort_supplied n _ u).trans
    (Calm.of_outer (amend_outer ..) (amend_kept (.refl _))).supplied) _ s
  have hevent (l : List (Nat × Nat)) (u : State) : Supplied u (u.event Src.whorl 0x44 l) :=
    (Calm.of_outer (event_outer ..) (event_kept (.refl u))).supplied
  unfold updateGate
  dsimp only
  split
  · exact hblame.trans (updateEmission_calm n _).supplied
  · exact ((modPort_supplied n _ s).trans (hevent _ _)).trans (updateEmission_calm n _).supplied

theorem setPort_supplied (n : Nat) (st : PortState) (cause : Nat) (s : State) : Supplied s (s.setPort n st cause) := by
  have htake : Supplied s (s.takeState n st) := Supplied.trans (.cond (fun u => ((refuseNow_calm (onPort n) 1 u).trans
    (cancel_calm (onPort n) 0x25 _)).supplied) _ s) (modPort_supplied n _ _)
  have hmove : Supplied s (s.movePort n st) := by
    unfold movePort
    split
    · split
      · exact htake
      · exact htake.trans (startKeepAlives_supplied n _)
    · exact ((htake.trans (dropSync_supplied n _)).trans (modPort_supplied n _ _)).trans (.cond (unpower_supplied n) _ _)
  rw [setPort_eq]
  exact ((hmove.trans (updateGate_supplied cause n _)).trans
    (Calm.of_outer (updateScanner_outer n _) (updateScanner_kept (.refl _))).supplied).trans (updateReports_calm n _).supplied

/-- A port is OFF with its gate closed, and so it stays while ports go OFF. -/
theorem setPort_off {s : State} (hw : s.wf = true) (cause m n : Nat)
    (h : n = m ∨ ((s.port n).state = .off ∧ (s.port n).gate = false)) :
    ((s.setPort m .off cause).port n).state = .off ∧ ((s.setPort m .off cause).port n).gate = false := by
  obtain ⟨-, hothers, hstate, -⟩ := setPort_moves hw m .off cause
  by_cases hn : n = m
  · subst hn
    exact ⟨hstate, by rw [gate_setPort hw]; rfl⟩
  · rw [hothers n hn]
    exact h.resolve_left hn

/-- Ports of a list have gone OFF, with their gates closed. -/
theorem eachOff_effect (cause : Nat) (l : List Nat) : ∀ {s : State}, s.wf = true → ∀ n,
    n ∈ l ∨ ((s.port n).state = .off ∧ (s.port n).gate = false) →
    ((s.each l fun n u => u.setPort n .off cause).port n).state = .off
      ∧ ((s.each l fun n u => u.setPort n .off cause).port n).gate = false := by
  induction l with
  | nil => exact fun _ n h => h.resolve_left List.not_mem_nil
  | cons m l ih =>
    intro s hw n h
    refine ih ((setPort_supplied m .off cause s).wf hw) n ?_
    rcases h with h | h
    · rcases List.mem_cons.mp h with h | h
      · exact .inr (setPort_off hw cause m n (.inl h))
      · exact .inl h
    · exact .inr (setPort_off hw cause m n (.inr h))

/-! ## Transitions for a cause -/

theorem devFor_congr {s u : State} (hm : u.moment = s.moment) (hd : u.dev = s.dev) (rank : Nat) :
    u.devFor rank = s.devFor rank := by
  obtain ⟨hnow, htrans⟩ := Prod.mk.inj hm
  rw [devFor, devFor, overtaken, overtaken, hnow, htrans, hd]

theorem dev_eq_standing (s : State) : s.dev = s.standing.dev := rfl

theorem enter_dev (new : DevState) (cause out depth : Nat) (self : Option Nat) (s : State) :
    (s.enter new cause out depth self).dev = new := by
  rw [dev_eq_standing, enter_standing]

theorem transit_dev (rank : Nat) (here : List DevState) (new : DevState) (cause out : Nat) (self : Option Nat) (s : State) :
    (s.dev ∈ here → (s.transit rank here new cause out self).dev = new)
      ∧ (s.devFor rank ∉ here → s.dev ∉ here → s.transit rank here new cause out self = s) := by
  refine ⟨fun h => ?_, fun h k => ?_⟩
  · unfold transit
    rw [if_pos h]
    split
    · exact enter_dev ..
    · exact enter_dev ..
  · rw [transit, if_neg h, if_neg k]

/-! ## The latch -/

/-- The state in which the latch has stopped everything, before FAULT follows (spec 16 R374, R387). -/
def latchStops (cause port : Nat) (s : State) : State :=
  let s1 := ((s.modLatch fun _ => ⟨true, cause, port⟩).whorlStop).setFlag 3
  ((s1.event Src.whorl 0x42 [(1, cause), (1, port)]).event Src.whorl 0x41 [(2, s1.inhibitMask)]).each (List.range 8)
    fun n s => s.setPort n .off 4

theorem setLatch_of_clear {s : State} (hl : s.latch.set = false) (cause port : Nat) :
    s.setLatch cause port = (s.latchStops cause port).faultCause (some 4) := by
  unfold setLatch
  rw [if_neg (by rw [hl]; exact Bool.false_ne_true)]
  rfl

theorem latchStops_standing (cause port : Nat) (s : State) :
    (s.latchStops cause port).standing = { s.standing with latch := ⟨true, cause, port⟩ } := by
  unfold latchStops
  rw [each_standing fun n u => setPort_standing n .off 4 u]
  simp only [event_standing, setFlag_standing, whorlStop_standing]
  rfl

/-- What stands after the latch has been set (spec 16 R374). -/
structure Stopped (s u : State) : Prop where
  ports : ∀ n, n < 8 → (u.port n).state = .off ∧ (u.port n).gate = false
  shots : ∀ i, (u.entry i).waiting = false
  nv : u.nv = s.nv
  power : u.power = s.power

theorem latchStops_effect {s : State} (hw : s.wf = true) (cause port : Nat) :
    Stopped s (s.latchStops cause port) ∧ (s.latchStops cause port).moment = s.moment ∧ (s.latchStops cause port).wf = true := by
  obtain ⟨a, ha⟩ : ∃ a, a = s.modLatch fun _ => ⟨true, cause, port⟩ := ⟨_, rfl⟩
  have hwa : a.wf = true := by rw [ha]; exact hw
  have hreports (l k : List (Nat × Nat)) (u : State) :
      Calm u (((u.setFlag 3).event Src.whorl 0x42 l).event Src.whorl 0x41 k) :=
    .of_outer (by simp) (event_kept (event_kept (setFlag_kept (.refl u))))
  obtain ⟨b, hb⟩ : ∃ b, b = ((a.whorlStop.setFlag 3).event Src.whorl 0x42 [(1, cause), (1, port)]).event Src.whorl 0x41
    [(2, (a.whorlStop.setFlag 3).inhibitMask)] := ⟨_, rfl⟩
  have hcalm : Calm a.whorlStop b := hb ▸ hreports _ _ _
  have hwb : b.wf = true := hcalm.wf ((whorlStop_calm a).wf hwa)
  have heach : s.latchStops cause port = b.each (List.range 8) fun n u => u.setPort n .off 4 := by rw [hb, ha]; rfl
  have hports : Supplied b (s.latchStops cause port) := heach ▸ .each (fun n u => setPort_supplied n .off 4 u) _ b
  have hall : Supplied a (s.latchStops cause port) := ((whorlStop_calm a).trans hcalm).supplied.trans hports
  refine ⟨⟨fun n hn => ?_, fun i => ?_, ?_, ?_⟩, ?_, hports.wf hwb⟩
  · rw [heach]
    exact eachOff_effect 4 _ hwb n (.inl (List.mem_range.mpr hn))
  · exact hports.shots hwb i (hcalm.shots ((whorlStop_calm a).wf hwa) i (whorlStop_leaves_none hwa i))
  · rw [hall.nv, ha]; rfl
  · rw [hall.power, ha]; rfl
  · rw [hall.moment, ha]; rfl

theorem Stopped.settled {s u v : State} (h : Stopped s u) (hw : u.wf = true) (k : Settled u v) : Stopped s v := by
  refine ⟨fun n hn => ?_, fun i => k.shots hw i (h.shots i), k.nv.trans h.nv, k.power.trans h.power⟩
  obtain ⟨hs, hg⟩ := k.ports hw n
  rw [hs, hg]
  exact h.ports n hn

/-- A clear latch is set with its cause, everything stops, and FAULT follows where it may (spec 16 R374, R386). -/
theorem setLatch_effect {s : State} (hw : s.wf = true) (hl : s.latch.set = false) (cause port : Nat) :
    Stopped s (s.setLatch cause port) ∧ (s.setLatch cause port).latch = ⟨true, cause, port⟩
      ∧ (s.setLatch cause port).whorl.inhibit = s.whorl.inhibit
      ∧ (s.dev ∈ [DevState.safe, .ready, .armed, .ranging, .calibrating] → (s.setLatch cause port).dev = .fault)
      ∧ (s.dev ∉ [DevState.safe, .ready, .armed, .ranging, .calibrating] → s.devFor 2 = s.dev →
        (s.setLatch cause port).dev = s.dev) := by
  obtain ⟨hstopped, hmoment, hwf⟩ := latchStops_effect hw cause port
  have hstanding := latchStops_standing cause port s
  obtain ⟨v, hv⟩ : ∃ v, v = s.latchStops cause port := ⟨_, rfl⟩
  obtain ⟨u, hu⟩ : ∃ u, u = s.setLatch cause port := ⟨_, rfl⟩
  rw [← hv] at hstopped hmoment hstanding hwf
  have hfault : u = v.faultCause (some 4) := by rw [hu, hv, setLatch_of_clear hl]
  have hdev : v.dev = s.dev := congrArg Standing.dev hstanding
  obtain ⟨d, hend⟩ := faultCause_standing 4 v
  rw [← hfault, hstanding] at hend
  obtain ⟨w, hw'⟩ : ∃ w, w = v.modWhorl fun w => { w with faults := w.faults ||| BitVec.ofNat 6 (2 ^ 4) } := ⟨_, rfl⟩
  have hwdev : w.dev = s.dev := by rw [hw']; exact hdev
  have htransit : u = w.transit 2 [.safe, .ready, .armed, .ranging, .calibrating] .fault 0xE 0x21 none := by
    rw [hfault, hw']; rfl
  obtain ⟨hto, hstay⟩ := transit_dev 2 [.safe, .ready, .armed, .ranging, .calibrating] .fault 0xE 0x21 none w
  rw [← htransit] at hto hstay
  rw [← hu]
  refine ⟨hfault ▸ hstopped.settled hwf (faultCause_settled (some 4) v), congrArg Standing.latch hend,
    congrArg Standing.inhibit hend, fun h => hto (hwdev ▸ h), fun h hfor => ?_⟩
  have hwfor : w.devFor 2 = s.dev := by
    rw [devFor_congr (s := s) (by rw [hw']; exact hmoment) hwdev, hfor]
  rw [hstay (hwfor ▸ h) (hwdev ▸ h), hwdev]

end State

/-- Settles O45: each cause sets the latch where its finding holds. -/
theorem latchIsSetByItsThreeCauses : Obligations.LatchIsSetByItsThreeCauses := by
  unfold Obligations.LatchIsSetByItsThreeCauses
  intro t s ht hw hl hd
  have hruns : (s.advance t).whorlRuns = true := decide_eq_true hd
  have hlatch (cause port : Nat) := State.setLatch_effect (s := s.advance t) hw hl cause port
  refine ⟨⟨_, congrArg Host.Outcome.next (if_pos hruns), ?_⟩, fun n payload hn hp => ⟨_, congrArg Host.Outcome.next
    (if_pos (by rw [hruns, hp]; rfl)), ?_⟩, fun ppm hpll hppm => ⟨_, congrArg Host.Outcome.next (if_pos ?fault), ?_⟩⟩
  case fault =>
    cases ppm with
    | none => exact (Bool.and_true _).trans hpll
    | some d =>
      rw [State.clockFault]
      exact Bool.and_eq_true_iff.mpr ⟨hpll, decide_eq_true (hppm d rfl)⟩
  · obtain ⟨⟨hports, hshots, hnv, hpower⟩, hset, hinhibit, hfault, hstay⟩ := hlatch 0 0xFF
    exact ⟨hset, hports, hshots, hinhibit, hnv, hpower, hfault, hstay⟩
  · obtain ⟨⟨hports, hshots, hnv, hpower⟩, hset, hinhibit, hfault, hstay⟩ := hlatch 1 n
    exact ⟨hset, hports, hshots, hinhibit, hnv, hpower, hfault, hstay⟩
  · obtain ⟨⟨hports, hshots, hnv, hpower⟩, hset, hinhibit, hfault, hstay⟩ := hlatch 2 0xFF
    exact ⟨hset, hports, hshots, hinhibit, hnv, hpower, hfault, hstay⟩

end Sys2Proof.Machine
end

section
/-! PROOFS. The diode's readings and the thermal level (spec 18 R425-R430). -/

namespace Sys2Proof.Machine

namespace State

/-! ## What a reading leaves beside the supply's view -/

@[simp] theorem modPower_standing (g : Power → Power) (s : State) : (s.modPower g).standing = s.standing := rfl

@[simp] theorem restartNoise_outer (b : Nat) (s : State) : (s.restartNoise b).outer = s.outer := by simp [restartNoise]
@[simp] theorem restartNoise_standing (b : Nat) (s : State) : (s.restartNoise b).standing = s.standing := by simp [restartNoise]

@[simp] theorem syncReduced_outer (s : State) : s.syncReduced.outer = s.outer :=
  (each_outer (fun b u => cond_outer (fun w => by simp) _ u) _ _).trans (cond_outer (fun u => modCal_outer _ u) _ s)

@[simp] theorem syncReduced_standing (s : State) : s.syncReduced.standing = s.standing :=
  (each_standing (fun b u => cond_standing (fun w => by simp) _ u) _ _).trans (cond_standing (fun u => modCal_standing _ u) _ s)

@[simp] theorem reducedNow_outer (s : State) : s.reducedNow.outer = s.outer := by simp [reducedNow]
@[simp] theorem reducedNow_standing (s : State) : s.reducedNow.standing = s.standing := by simp [reducedNow]
@[simp] theorem notePatterns_outer (l : List (Nat × Nat)) (s : State) : (s.notePatterns l).outer = s.outer := by
  simp [notePatterns]
@[simp] theorem notePatterns_standing (l : List (Nat × Nat)) (s : State) : (s.notePatterns l).standing = s.standing := by
  simp [notePatterns]
@[simp] theorem refreshStep_outer (s : State) : s.refreshStep.outer = s.outer := by simp [refreshStep]
@[simp] theorem refreshStep_standing (s : State) : s.refreshStep.standing = s.standing := by simp [refreshStep]
@[simp] theorem startPass_outer (handle : Option Nat) (retest : Bool) (s : State) :
    (s.startPass handle retest).outer = s.outer := by simp [startPass]
@[simp] theorem startPass_standing (handle : Option Nat) (retest : Bool) (s : State) :
    (s.startPass handle retest).standing = s.standing := by simp [startPass]
@[simp] theorem dramReading_outer (reading : Option Int) (s : State) : (s.dramReading reading).outer = s.outer := by
  simp [dramReading]
@[simp] theorem dramReading_standing (reading : Option Int) (s : State) : (s.dramReading reading).standing = s.standing := by
  simp [dramReading]

@[simp] theorem endPass_outer (p : TrainPass) (s : State) : (s.endPass p).outer = s.outer := by
  unfold endPass
  dsimp only
  split <;> simp

@[simp] theorem endPass_standing (p : TrainPass) (s : State) : (s.endPass p).standing = s.standing := by
  unfold endPass
  dsimp only
  split <;> simp

@[simp] theorem endIfDone_outer (p : TrainPass) (s : State) : (s.endIfDone p).outer = s.outer := by simp [endIfDone]
@[simp] theorem endIfDone_standing (p : TrainPass) (s : State) : (s.endIfDone p).standing = s.standing := by simp [endIfDone]

@[simp] theorem blindBegins_outer (s : State) : s.blindBegins.outer = s.outer := by
  unfold blindBegins
  dsimp only
  split <;> simp

@[simp] theorem blindBegins_standing (s : State) : s.blindBegins.standing = s.standing := by
  unfold blindBegins
  dsimp only
  split <;> simp

theorem power_of_outer {s u : State} (h : u.outer = s.outer) : u.power = s.power := congrArg (·.2.1) h

/-! ## The level (spec 18 Table 18-3) -/

/-- The level that a temperature calls for where `l` stands (spec 18 Table 18-3). -/
def levelAfter (l : Nat) (temp : Int) : Nat :=
  if 460 ≤ temp ∨ l = 2 then 2 else if 440 ≤ temp then 1 else if l = 1 ∧ 420 < temp then 1 else 0

theorem setLevel_power (l : Nat) (temp : Int) (s : State) : (s.setLevel l temp).power = { s.power with level := l } := by
  have hrest (u : State) (p : Bool) (x : List (Nat × Nat)) :
      (((u.event Src.power 0x50 x).cond p (setFlag 8)).reducedNow).power = u.power := power_of_outer (by simp)
  unfold setLevel
  split
  · next h => rw [h]
  · exact hrest _ _ _

theorem setLevel_standing (l : Nat) (temp : Int) (s : State) : (s.setLevel l temp).standing = s.standing := by
  unfold setLevel
  dsimp only
  split
  · rfl
  · simp

/-- What follows the level of a temperature: a shutdown, from the second one at or above 125.0 C on (spec 18 R427). -/
theorem levelAt_eq (temp : Int) (cause : Nat) (s : State) : ∃ x, s.levelAt temp cause =
    ((s.modPower fun p => { p with hotRun := min 2 (if 500 ≤ temp then s.power.hotRun + 1 else 0), hotAt := x }).setLevel
      (levelAfter s.power.level temp) temp).cond
        (decide (2 ≤ if 500 ≤ temp then s.power.hotRun + 1 else 0) && (cause ≠ 2 || s.dist.up)) (shutdown cause) := ⟨_, rfl⟩

/-- A temperature below that of a shutdown moves the level, and no more (spec 18 R427). -/
theorem levelAt_below {s : State} {temp : Int} (h : temp < 500) (cause : Nat) :
    (s.levelAt temp cause).power.level = levelAfter s.power.level temp ∧ (s.levelAt temp cause).standing = s.standing := by
  obtain ⟨x, hx⟩ := levelAt_eq temp cause s
  rw [if_neg (not_le.mpr h), cond_eq, if_neg (by simp)] at hx
  rw [hx, setLevel_power, setLevel_standing]
  exact ⟨rfl, rfl⟩

end State

/-! ## The level and a shutdown leave the diode's record -/

/-- What the device holds of the diode: the accepted reading and its instant, the run of ignored readings and their count, whether
it is broken, and the run that restores it (spec 18 R425, R426). -/
def Power.diode (p : Power) : Option Int × Tick × Nat × Nat × Bool × Nat :=
  (p.temp, p.tempAt, p.ignoredRun, p.ignored, p.broken, p.goodRun)

namespace State

theorem setLevel_diode (l : Nat) (temp : Int) (s : State) : (s.setLevel l temp).power.diode = s.power.diode := by
  rw [setLevel_power]
  rfl

theorem cancelEnables_diode (s : State) : s.cancelEnables.power.diode = s.power.diode :=
  each_rel (R := fun a b => b.power.diode = a.power.diode) (fun _ => rfl) (fun h k => k.trans h) (fun k u => by
    rw [cond_eq]
    split <;> rfl) _ s

theorem stopBias_supplied (s : State) : Supplied s s.stopBias := (Calm.of_outer (stopBias_outer s) (stopBias_kept (.refl s))).supplied

theorem setInhibit_supplied (bit : Nat) (on : Bool) (s : State) : Supplied s (s.setInhibit bit on) := by
  have hmask (m : BitVec 9) : Supplied s (s.modWhorl fun w => { w with inhibit := m }) :=
    (Calm.of_outer (modWhorl_outer _ s) (modWhorl_kept (.refl s))).supplied
  have hevent (l : List (Nat × Nat)) (u : State) : Supplied u (u.event Src.whorl 0x41 l) :=
    (Calm.of_outer (event_outer ..) (event_kept (.refl u))).supplied
  have hgates (u : State) : Supplied u (u.updateGates 3) := .each (fun n u => updateGate_supplied 3 n u) _ u
  unfold setInhibit
  generalize (if on then s.whorl.inhibit ||| BitVec.ofNat 9 (2 ^ bit)
    else s.whorl.inhibit &&& ~~~ BitVec.ofNat 9 (2 ^ bit)) = m
  dsimp only
  split
  · exact .refl s
  · exact ((hmask m).trans (hevent _ _)).trans (hgates _)

theorem shutCause_diode (cause : Nat) (s : State) : (s.shutCause cause).power.diode = s.power.diode := by
  obtain ⟨temp, v, hv, hshut⟩ : ∃ temp v, Supplied s v ∧ s.shutCause cause = (v.modNvCtl fun _ => s.nvCtl).modPower fun p =>
      { p with shut := some (cause, temp, false), disableAt := s.now + us 2, disabling := none, tshut := p.tshut || cause = 0 } :=
    ⟨_, _, (setInhibit_supplied _ true s).trans (Calm.of_outer (event_outer ..) (event_kept (.refl _))).supplied, rfl⟩
  rw [hshut, ← hv.power]
  rfl

theorem shutdown_diode (cause : Nat) (s : State) : (s.shutdown cause).power.diode = s.power.diode := by
  have hstop : Supplied s.cancelEnables ((s.cancelEnables.whorlStop.each (List.range 8) fun n s =>
      s.setPort n .off 3).stopBias) :=
    ((whorlStop_calm _).supplied.trans (.each (fun n u => setPort_supplied n .off 3 u) _ _)).trans (stopBias_supplied _)
  have htrim (f : NvCtl → NvCtl) (b : Bool) (x : Tick) (u : State) :
      ((((u.modNvCtl f).modPower fun p => { p with shutPage := b, recordFrom := x }).shutCause cause).modBoot fun b =>
        { b with test := none }).power.diode = u.power.diode := (shutCause_diode cause _).trans rfl
  unfold shutdown
  split
  · rfl
  · split
    · split
      · exact (shutCause_diode 0 _).trans (congrArg Power.diode (power_of_outer (unsay_outer ..)))
      · rfl
    · rfl
    · exact (htrim _ _ _ _).trans ((congrArg Power.diode hstop.power).trans (cancelEnables_diode s))

theorem cond_diode {f : State → State} (h : ∀ u, (f u).power.diode = u.power.diode) (b : Bool) (s : State) :
    (s.cond b f).power.diode = s.power.diode := by
  rw [cond_eq]
  split
  · exact h s
  · rfl

theorem levelAt_diode (temp : Int) (cause : Nat) (s : State) : (s.levelAt temp cause).power.diode = s.power.diode := by
  obtain ⟨x, hx⟩ := levelAt_eq temp cause s
  rw [hx]
  exact (cond_diode (shutdown_diode cause) ..).trans (setLevel_diode ..)

theorem diode_of_outer {s u : State} (h : u.outer = s.outer) : u.power.diode = s.power.diode :=
  congrArg Power.diode (power_of_outer h)

/-! ## A reading is judged (spec 18 R425, R426) -/

theorem readingGood_congr {s w : State} (v : Int) (htemp : w.power.temp = s.power.temp) (hat : w.power.tempAt = s.power.tempAt)
    (hnow : w.now = s.now) : w.readingGood v = s.readingGood v := by
  rw [readingGood, htemp, hat, hnow, readingGood]

/-- A reading that is due is judged as the state stands, but for the DRAM's patterns and the reading's instant. -/
theorem diodeReading_judges {s : State} (v : Int) (patterns : List (Nat × Nat)) (ho : s.dev ≠ .off)
    (hdue : ∀ x, s.power.readAt = some x → x + us 50 ≤ s.now) :
    ∃ w : State, s.diodeReading v patterns = w.judgeReading v ∧ w.power = { s.power with readAt := some s.now } ∧ w.now = s.now
      ∧ w.standing = s.standing := by
  have hpatterns : (s.notePatterns patterns).outer = s.outer := notePatterns_outer patterns s
  have hnow : (s.notePatterns patterns).now = s.now := congrArg (·.1.1) hpatterns
  have hpass : ¬ (s.dev = .off ∨ s.power.readAt.any fun x => decide (s.now < x + us 50)) := by
    refine not_or.mpr ⟨ho, ?_⟩
    cases hr : s.power.readAt with
    | none => rw [Option.any_none]; exact Bool.false_ne_true
    | some x => rw [Option.any_some, decide_eq_true_eq]; exact not_lt.mpr (hdue x hr)
  refine ⟨(s.notePatterns patterns).modPower fun p => { p with readAt := some s.now },
    by rw [diodeReading, if_neg hpass], ?_, hnow, notePatterns_standing patterns s⟩
  rw [modPower_power, power_of_outer hpatterns]

theorem diodeBreaks_diode (v : Int) (s : State) :
    (s.diodeBreaks v).power.diode = { s.power with broken := true, goodRun := 0 }.diode := by
  have hsaid (u : State) : ((u.setFlag 9).event Src.power 0x51 [(1, 1), (2, twos 2 v)]).power.diode = u.power.diode :=
    diode_of_outer (by simp)
  unfold diodeBreaks
  dsimp only
  split
  · exact (diode_of_outer (blindBegins_outer _)).trans (hsaid _)
  · exact (levelAt_diode ..).trans (hsaid _)

/-- A reading that an unbroken diode's tests refuse: the fourth in a row breaks the diode. -/
theorem judgeReading_ignored {v : Int} {s : State} (hb : s.power.broken = false) (hg : s.readingGood v = false) :
    (s.judgeReading v).power.diode = { s.power with
      ignoredRun := s.power.ignoredRun + 1, ignored := (s.power.ignored + 1) % 2 ^ 32
      broken := decide (4 ≤ s.power.ignoredRun + 1)
      goodRun := if 4 ≤ s.power.ignoredRun + 1 then 0 else s.power.goodRun }.diode := by
  have hdram (u : State) : (u.dramReading none).power = u.power := power_of_outer (dramReading_outer none u)
  rw [judgeReading, if_neg (by simp [hb]), if_neg (by simp [hg]), cond_eq]
  by_cases h4 : 4 ≤ s.power.ignoredRun + 1
  · rw [if_pos (decide_eq_true h4), diodeBreaks_diode, hdram, decide_eq_true h4, if_pos h4]
    rfl
  · rw [if_neg (by simpa using h4), hdram, decide_eq_false h4, if_neg h4]
    exact congrArg (fun b => (_, _, _, _, b, _)) hb

/-- A reading that an unbroken diode's tests accept goes to the DRAM and to the thermal level. -/
theorem judgeReading_accepted {v : Int} {s : State} (hb : s.power.broken = false) (hg : s.readingGood v = true) :
    ∃ w : State, s.judgeReading v = w.levelAt v 0 ∧ w.standing = s.standing
      ∧ w.power = { (s.acceptReading v).power with lastRaw := some v } := by
  refine ⟨_, by rw [judgeReading, if_neg (by simp [hb]), if_pos hg], ?_, ?_⟩
  · rw [dramReading_standing]
    rfl
  · rw [power_of_outer (dramReading_outer ..)]
    rfl

/-- A broken diode's reading that does not end the run of the 2,000 steady ones (spec 18 R426). -/
theorem brokenReading_waits {v : Int} {s : State} {n : Nat} (hn : n < 2000)
    (hrun : (if (-240 ≤ v && v ≤ 720) && s.power.lastRaw.any fun r => decide ((v - r).natAbs ≤ 4) then s.power.goodRun + 1
      else 0) = n) :
    ∃ k, (s.brokenReading v).power.diode = { s.power with goodRun := n, ignored := k }.diode := by
  refine ⟨if s.readingGood v then s.power.ignored else (s.power.ignored + 1) % 2 ^ 32, ?_⟩
  rw [brokenReading]
  dsimp only
  rw [hrun, if_pos hn, diode_of_outer (dramReading_outer ..)]
  rfl

/-- The last of the steady readings restores the diode. -/
theorem brokenReading_restores {v : Int} {s : State} {n : Nat} (hn : 2000 ≤ n)
    (hrun : (if (-240 ≤ v && v ≤ 720) && s.power.lastRaw.any fun r => decide ((v - r).natAbs ≤ 4) then s.power.goodRun + 1
      else 0) = n) :
    (s.brokenReading v).power.broken = false ∧ (s.brokenReading v).power.temp = some v
      ∧ (s.brokenReading v).power.tempAt = s.now := by
  have hafter (u : State) : ((((u.event Src.power 0x51 [(1, 0), (2, twos 2 v)]).dramReading (some v)).levelAt v 0).reducedNow).power.diode
      = u.power.diode :=
    (diode_of_outer (reducedNow_outer _)).trans ((levelAt_diode ..).trans (diode_of_outer (by simp)))
  have hnow (u : State) : u.proxyWasHot.now = u.now := by
    rw [proxyWasHot, cond_eq]
    split <;> rfl
  obtain ⟨u, hu, hutemp, huat, hubroken⟩ : ∃ u : State, s.brokenReading v =
      (((u.event Src.power 0x51 [(1, 0), (2, twos 2 v)]).dramReading (some v)).levelAt v 0).reducedNow
      ∧ u.power.temp = some v ∧ u.power.tempAt = s.now ∧ u.power.broken = false := by
    refine ⟨_, by rw [brokenReading]; dsimp only; rw [hrun, if_neg (not_lt.mpr hn)], ?_, ?_, ?_⟩
    · rfl
    · exact hnow _
    · rfl
  have h := hafter u
  rw [← hu] at h
  simp only [Power.diode, Prod.mk.injEq] at h
  obtain ⟨htemp, hat, -, -, hbroken, -⟩ := h
  exact ⟨hbroken.trans hubroken, htemp.trans hutemp, hat.trans huat⟩

end State

/-- Settles O49: what each kind of reading leaves of the diode's record. -/
theorem diodeBreaksAndIsRestored : Obligations.DiodeBreaksAndIsRestored := by
  unfold Obligations.DiodeBreaksAndIsRestored
  intro t v patterns s hnow ho hdue
  have hat : (s.advance t).now = t := max_eq_right hnow
  obtain ⟨w, hjudge, hpower, hwnow, -⟩ := State.diodeReading_judges (s := s.advance t) v patterns ho (by rwa [hat])
  have hexec : exec (.diodeReading t v patterns) s = .next (w.judgeReading v) := congrArg Host.Outcome.next hjudge
  have hgood : w.readingGood v = (s.advance t).readingGood v :=
    State.readingGood_congr v (by rw [hpower]) (by rw [hpower]) hwnow
  rw [State.advance_power] at hpower
  have hbroken : w.power.broken = s.power.broken := by rw [hpower]
  have hruns (hb : s.power.broken = true) : w.judgeReading v = w.brokenReading v := if_pos (hbroken.trans hb)
  refine ⟨fun hb hg => ?ignored, fun hb hg => ?accepted, fun r hb hlo hhi hr hstep => ?steady, fun r hb hr hout => ?unsteady⟩
  case ignored =>
    refine ⟨_, hexec, ?_⟩
    have h := State.judgeReading_ignored (hbroken.trans hb) (hgood.trans hg)
    simp only [Power.diode, Prod.mk.injEq] at h
    obtain ⟨htemp, -, hrun, hcount, hbreaks, -⟩ := h
    rw [hrun, hbreaks, htemp, hcount, hpower]
    exact ⟨rfl, rfl, rfl, rfl⟩
  case accepted =>
    obtain ⟨x, hx, -, hxpower⟩ := State.judgeReading_accepted (hbroken.trans hb) (hgood.trans hg)
    have h := State.levelAt_diode v 0 x
    rw [← hx, hxpower] at h
    simp only [Power.diode, Prod.mk.injEq] at h
    obtain ⟨htemp, htempAt, hrun, -, hstays, -⟩ := h
    exact ⟨_, hexec, hrun, hstays.trans (hbroken.trans hb), htemp, htempAt.trans (hwnow.trans hat)⟩
  case steady =>
    have hrun : (if (-240 ≤ v && v ≤ 720) && w.power.lastRaw.any fun r => decide ((v - r).natAbs ≤ 4)
        then w.power.goodRun + 1 else 0) = s.power.goodRun + 1 := by
      simp [hpower, hr, hlo, hhi, hstep]
    refine ⟨_, hexec, fun hn => ?_, fun hn => ?_⟩
    · obtain ⟨k, h⟩ := State.brokenReading_waits hn hrun
      simp only [Power.diode, Prod.mk.injEq] at h
      obtain ⟨htemp, -, -, -, hstays, hgoodRun⟩ := h
      rw [hruns hb, hgoodRun, htemp, hpower]
      exact ⟨hstays.trans (hbroken.trans hb), rfl, rfl⟩
    · obtain ⟨hstays, htemp, htempAt⟩ := State.brokenReading_restores hn hrun
      rw [hruns hb]
      exact ⟨hstays, htemp, htempAt.trans (hwnow.trans hat)⟩
  case unsteady =>
    have hrun : (if (-240 ≤ v && v ≤ 720) && w.power.lastRaw.any fun r => decide ((v - r).natAbs ≤ 4)
        then w.power.goodRun + 1 else 0) = 0 := by
      refine if_neg ?_
      simp only [hpower, hr, Option.any_some, Bool.and_eq_true, decide_eq_true_eq]
      omega
    obtain ⟨k, h⟩ := State.brokenReading_waits (by decide) hrun
    simp only [Power.diode, Prod.mk.injEq] at h
    obtain ⟨htemp, -, -, -, hstays, hgoodRun⟩ := h
    refine ⟨_, hexec, ?_⟩
    rw [hruns hb, hgoodRun, htemp, hpower]
    exact ⟨hstays.trans (hbroken.trans hb), rfl, rfl⟩

end Sys2Proof.Machine
end

section
/-! PROOFS. The thermal level's exits, the proxy's end and the shutdown record (spec 18 R427-R430, R435). -/

namespace Sys2Proof

/-- Writing at one key leaves what every other key reads, in canonical form or not. -/
theorem Store.read_write_of_ne {α : Type} [DecidableEq α] (d : α) (m : Store α) {k j : Nat} (v : α) (hj : j ≠ k) :
    Store.read d (Store.write d m k v) j = Store.read d m j := by
  induction m with
  | nil =>
    rw [Store.write]
    split <;> simp [Store.read, hj]
  | cons x r ih =>
    obtain ⟨k', v'⟩ := x
    rw [Store.write]
    split
    · split
      · rfl
      · rw [Store.read, if_neg hj]
    · split
      · next heq =>
        subst heq
        split <;> simp [Store.read, hj]
      · rw [Store.read, Store.read, ih]

theorem Memory.read_write_of_outside (m : Mem) {a j : Nat} (bs : List Byte) (hj : j < a ∨ a + bs.length ≤ j) :
    Memory.read (Memory.write m a bs) j = Memory.read m j := by
  induction bs generalizing m a with
  | nil => rfl
  | cons b bs ih =>
    rw [List.length_cons] at hj
    rw [Memory.write, ih _ (by omega)]
    exact Store.read_write_of_ne 0 m b (by omega)

namespace Machine

namespace State

theorem length_logPage (n k : Nat) {body : List Byte} (h : body.length = 49) : (logPage n k body).length = 64 := by
  simp [logPage, length_le, h]

theorem length_logBody (s : State) (src code : Nat) (detail : List Byte) : (s.logBody src code detail).length = 49 := by
  simp [logBody, padTo, length_le]

/-! ## Throttle and the proxy end (spec 18 R427, R430) -/

theorem throttleEnds_of_no_temp {s : State} (h : s.levelTemp = none) : s.throttleEnds = s := by
  rw [throttleEnds, h]

theorem throttleEnds_of_cool {s : State} {v : Int} (hl : s.power.level = 2) (hwait : s.power.hotAt + us 10000 ≤ s.now)
    (ht : s.levelTemp = some v) (hv : v ≤ 440) : s.throttleEnds = s.setLevel (if 420 < v then 1 else 0) v := by
  rw [throttleEnds, ht]
  exact if_neg (by rintro (h | h | h); exacts [h hl, hwait.not_gt h, hv.not_gt h])

theorem proxyWasHot_effect (s : State) : ∃ x, s.proxyWasHot = s.modPower fun p => { p with hotAt := x } := by
  rw [proxyWasHot, cond_eq]
  split
  · exact ⟨s.now, rfl⟩
  · exact ⟨s.power.hotAt, rfl⟩

theorem proxyExpires_effect {s : State} {v : Int} {e : Tick} (h : s.power.proxy = some (v, e)) (he : e ≤ s.now) :
    (∃ x, s.proxyExpires.power = { s.power with hotAt := x, proxy := none }) ∧ s.proxyExpires.standing = s.standing := by
  obtain ⟨x, hx⟩ := proxyWasHot_effect s
  have hsaid (u : State) (b : Bool) (l : List (Nat × Nat)) :
      ((u.event Src.power 0x52 l).cond b blindBegins).outer = u.outer
        ∧ ((u.event Src.power 0x52 l).cond b blindBegins).standing = u.standing :=
    ⟨(cond_outer blindBegins_outer _ _).trans (event_outer ..), (cond_standing blindBegins_standing _ _).trans (event_standing ..)⟩
  rw [proxyExpires, h]
  dsimp only
  rw [if_neg (not_lt.mpr he), hx, power_of_outer (hsaid _ _ _).1, (hsaid _ _ _).2]
  exact ⟨⟨x, rfl⟩, rfl⟩

/-! ## The shutdown record (spec 18 R428, R435) -/

theorem reservePage_mem (s : State) : 680 ≤ s.reservePage ∧ s.reservePage < 696 := by
  unfold reservePage
  generalize hf : List.find? _ _ = found
  cases found with
  | none => decide
  | some p =>
    obtain ⟨i, hi, rfl⟩ := List.mem_map.mp (List.mem_of_find?_eq_some hf)
    rw [List.mem_range] at hi
    exact ⟨Nat.le_add_right .., by rw [Option.getD_some]; omega⟩

/-- Enables that are not made change the rails alone. -/
theorem cancelEnables_rails (s : State) : ∃ r, s.cancelEnables = s.modPower fun p => { p with rails := r } := by
  refine each_rel (R := fun a b => ∃ r, b = a.modPower fun p => { p with rails := r }) (fun a => ⟨a.power.rails, rfl⟩) ?_ ?_ _ s
  · rintro a b c ⟨r, rfl⟩ ⟨q, rfl⟩
    exact ⟨q, rfl⟩
  · intro k u
    rw [cond_eq]
    split
    · exact ⟨_, rfl⟩
    · exact ⟨u.power.rails, rfl⟩

theorem startDisabling_effect (cause : Nat) (x : Tick) (s : State) : ∃ r, s.startDisabling cause x =
    s.modPower fun p => { p with rails := r, disabling := some cause, disableAt := x } := by
  obtain ⟨r, hr⟩ := cancelEnables_rails s
  exact ⟨r, by rw [startDisabling, hr]; rfl⟩

/-- The page of a shutdown's record; its number is the next free value. -/
def recordPage (s : State) (cause : Nat) (temp : Int) : List Byte :=
  logPage (s.draw (2 ^ 32)).1 0
    ((s.draw (2 ^ 32)).2.logBody Src.power 0x0054 (place 0 [(1, cause), (2, twos 2 temp)]))

theorem length_recordPage (s : State) (cause : Nat) (temp : Int) : (s.recordPage cause temp).length = 64 :=
  length_logPage _ _ (length_logBody ..)

theorem cond_modNv_modPower (s : State) (k : Clock) (b : Bool) (a : Nat) (page : List Byte) (g : Power → Power) :
    (({ s with clock := k } : State).cond b (modNv fun m => Memory.write m a page)).modPower g = { s with
      clock := k, power := g s.power, nv := if b then Memory.write s.nv a page else s.nv } := by
  cases b <;> rfl

/-- The record goes to the next reserve page, where page writes are allowed, and the rails go off (spec 18 R435). -/
theorem shutdownRecord_effect {s : State} {c : Nat} {v : Int} (h : s.power.shut = some (c, v, false))
    (hp : s.power.shutPage = false) (ht : s.power.recordFrom + us 12 ≤ s.now) :
    ∃ r k, s.shutdownRecord = { s with
      clock := k
      power := { s.power with shut := some (c, v, true), rails := r, disabling := some 0x11, disableAt := s.now }
      nv := if s.power.nvAllowed then Memory.write s.nv (64 * s.reservePage) (s.recordPage c v) else s.nv } := by
  obtain ⟨u, hu⟩ : ∃ u : State, u = (((s.draw (2 ^ 32)).2.cond s.power.nvAllowed
      (modNv fun m => Memory.write m (64 * s.reservePage) (s.recordPage c v))).modPower fun p =>
        { p with shut := some (c, v, true) }) := ⟨_, rfl⟩
  have hrecord : s.shutdownRecord = u.startDisabling 0x11 s.now := by
    rw [hu, shutdownRecord, h]
    dsimp only
    rw [if_neg (by rw [hp]; rintro (h | h); exacts [Bool.false_ne_true h, ht.not_gt h])]
    rfl
  obtain ⟨r, hr⟩ := startDisabling_effect 0x11 s.now u
  have hfields : u = { s with
      clock := (s.draw (2 ^ 32)).2.clock
      power := { s.power with shut := some (c, v, true) }
      nv := if s.power.nvAllowed then Memory.write s.nv (64 * s.reservePage) (s.recordPage c v) else s.nv } := by
    rw [hu]
    exact cond_modNv_modPower s _ _ _ _ _
  exact ⟨r, _, by rw [hrecord, hr, hfields]; rfl⟩

end State

/-- Settles O50: from what the level, the proxy's end and the shutdown record change. -/
theorem temperatureIsActedOn : Obligations.TemperatureIsActedOn := by
  unfold Obligations.TemperatureIsActedOn
  intro t s hnow
  have hat : (s.advance t).now = t := max_eq_right hnow
  refine ⟨fun v patterns ho hdue hb hg hv => ?reading, fun h => ?blind, fun v hl hwait ht hv => ?exit, fun v e hp he => ?proxy,
    fun c v hshut hpage hwait => ?record⟩
  case reading =>
    obtain ⟨w, hjudge, hpower, hwnow, hstand⟩ := State.diodeReading_judges (s := s.advance t) v patterns ho (by rwa [hat])
    have hgood : w.readingGood v = true :=
      (State.readingGood_congr v (by rw [hpower]) (by rw [hpower]) hwnow).trans hg
    obtain ⟨x, hx, hxstand, hxpower⟩ := State.judgeReading_accepted (by rw [hpower]; exact hb) hgood
    obtain ⟨hlevel, hstays⟩ := State.levelAt_below (s := x) hv 0
    have hall : (x.levelAt v 0).standing = s.standing := hstays.trans (hxstand.trans hstand)
    have hxlevel : x.power.level = s.power.level := by
      rw [hxpower, State.acceptReading, State.modPower_power, hpower, State.advance_power]
    rw [hxlevel] at hlevel
    refine ⟨_, congrArg Host.Outcome.next (hjudge.trans hx), congrArg State.Standing.dev hall, congrArg State.Standing.latch hall, ?_⟩
    rw [hlevel]
    unfold State.levelAfter
    refine ⟨?_, ?_, ?_, ?_, ?_, ?_⟩ <;> intros <;> split_ifs <;> omega
  case blind => exact congrArg Host.Outcome.next (State.throttleEnds_of_no_temp (s := s.advance t) h)
  case exit =>
    have hcool := State.throttleEnds_of_cool (s := s.advance t) hl (by rwa [hat]) ht hv
    refine ⟨_, congrArg Host.Outcome.next hcool, ?_, ?_, ?_⟩
    · rw [State.setLevel_power]
    · rw [State.setLevel_power, State.advance_power]
    · exact congrArg State.Standing.dev (State.setLevel_standing _ v (s.advance t))
  case proxy =>
    obtain ⟨⟨x, hx⟩, hstand⟩ := State.proxyExpires_effect (s := s.advance t) hp (by rwa [hat])
    rw [State.advance_power] at hx
    refine ⟨_, rfl, ?_, ?_, congrArg State.Standing.dev hstand, ?_⟩
    all_goals rw [hx]
  case record =>
    obtain ⟨r, k, hu⟩ := State.shutdownRecord_effect (s := s.advance t) hshut hpage (by rwa [hat])
    refine ⟨_, congrArg Host.Outcome.next hu, rfl, rfl, hat, fun hn => if_neg (by simp [hn]), fun a ha => ?_,
      (State.reservePage_mem s).1, (State.reservePage_mem s).2, rfl⟩
    dsimp only
    split
    · exact Memory.read_write_of_outside _ _ (by rw [State.length_recordPage]; exact ha)
    · rfl

end Machine
end Sys2Proof
end

section
/-! PROOFS. A head that is rejected reports, and writes nothing of the non-volatile store (spec 04 R95, 18 R433, R436). -/

namespace Sys2Proof.Machine

namespace State

/-! ## Shots that a port's leaving ends -/

theorem modEntry_logsOnly (i : Nat) (g : Entry → Entry) (s : State) : LogsOnly s (s.modEntry i g) := .of_same rfl rfl rfl

theorem modPort_logsOnly (n : Nat) (g : Port → Port) (s : State) : LogsOnly s (s.modPort n g) := .of_same rfl rfl rfl

theorem modWhorl_logsOnly (g : Whorl → Whorl) (s : State) : LogsOnly s (s.modWhorl g) := .of_same rfl rfl rfl

theorem count_logsOnly (k i n : Nat) (s : State) : LogsOnly s (s.count k i n) := .of_same rfl rfl rfl

theorem countFlyer_logsOnly (b k : Nat) (s : State) : LogsOnly s (s.countFlyer b k) := .of_same rfl rfl rfl

theorem tally_logsOnly (frame : Nat) (g : FrameTally → FrameTally) (s : State) : LogsOnly s (s.tally frame g) :=
  .of_same rfl rfl rfl

theorem offer_logsOnly (l : Lane) (src : Nat) (frame : Option Nat) (mk : List (Nat → List Byte)) (s : State) :
    LogsOnly s (s.offer l src frame mk) := .of_same rfl rfl rfl

theorem unsay_logsOnly (src code : Nat) (s : State) : LogsOnly s (s.unsay src code) := .of_same rfl rfl rfl

theorem account_logsOnly (i : Option Nat) (e : Entry) (s : State) : LogsOnly s (s.account i e) :=
  ((countFlyer_logsOnly ..).trans (tally_logsOnly ..)).trans (.cond _ fun _ => offer_logsOnly ..)

theorem retire_logsOnly (i out : Nat) (s : State) : LogsOnly s (s.retire i out) :=
  ((modEntry_logsOnly ..).trans (modPort_logsOnly ..)).trans (.cond _ fun _ => account_logsOnly ..)

theorem revise_logsOnly (i out : Nat) (s : State) : LogsOnly s (s.revise i out) := by
  unfold revise
  dsimp only
  split <;> exact .of_same rfl rfl rfl

theorem cancel_logsOnly (pick : Entry → Bool) (out : Nat) (s : State) : LogsOnly s (s.cancel pick out) :=
  ((LogsOnly.each (fun (x : Nat × Entry) u => modEntry_logsOnly x.1 _ u) s).trans
    (.each (fun (x : Nat × Entry) u => revise_logsOnly x.1 out u) _)).trans
    (.each (fun (x : Nat × Entry) u => retire_logsOnly x.1 out u) _)

theorem refuseEarlier_logsOnly (k : Nat) (x : Nat × Entry) (s : State) : LogsOnly s (s.refuseEarlier k x) := by
  unfold refuseEarlier
  dsimp only
  refine LogsOnly.trans (.cond s fun _ => .each (fun a u => .cond u fun _ => ?unblame) s)
    (((count_logsOnly ..).trans (count_logsOnly ..)).trans (modEntry_logsOnly ..))
  case unblame => exact (modWhorl_logsOnly ..).trans (.cond _ fun _ => unsay_logsOnly ..)

theorem uncharge_logsOnly (a : Account) (x : Tick) (e : Nat) (s : State) : LogsOnly s (s.uncharge a x e) := .of_same rfl rfl rfl

theorem refuseNow_logsOnly (pick : Entry → Bool) (k : Nat) (s : State) : LogsOnly s (s.refuseNow pick k) := by
  have hback (x : Nat × Entry) (u : State) : LogsOnly u (u.each (u.accountsOf x.2.element) fun a s =>
      s.uncharge a x.2.planned x.2.charge) := .each (fun a v => uncharge_logsOnly a _ _ v) u
  exact LogsOnly.trans (.each (fun x u => refuseEarlier_logsOnly k x u) s)
    (.each (fun x u => (((hback x u).trans (count_logsOnly ..)).trans (modEntry_logsOnly ..)).trans (retire_logsOnly ..)) _)

theorem leaveAdmitted_logsOnly (n : Nat) (s : State) : LogsOnly s (s.leaveAdmitted n) :=
  .cond s fun _ => (refuseNow_logsOnly ..).trans (cancel_logsOnly ..)

/-! ## What follows a port's new state -/

theorem placeKeepAlive_logsOnly (n k : Nat) (start : Tick) (s : State) : LogsOnly s (s.placeKeepAlive n k start) := by
  unfold placeKeepAlive
  dsimp only
  split
  · exact .refl s
  · split
    · exact .refl s
    · exact modPort_logsOnly ..

theorem sendFrame_logsOnly (n : Nat) (shares : List (List Byte)) (s : State) : LogsOnly s (s.sendFrame n shares) :=
  .cond s fun _ => modPort_logsOnly ..

theorem sendFrame_modPort_logsOnly (n : Nat) (shares : List (List Byte)) (g : Port → Port) (s : State) :
    LogsOnly s ((s.sendFrame n shares).modPort n g) := (sendFrame_logsOnly ..).trans (modPort_logsOnly ..)

theorem updateEmission_logsOnly (n : Nat) (s : State) : LogsOnly s (s.updateEmission n) := by
  unfold updateEmission
  dsimp only
  split
  · exact .refl s
  · exact sendFrame_modPort_logsOnly ..

theorem updateReports_logsOnly (n : Nat) (s : State) : LogsOnly s (s.updateReports n) := by
  unfold updateReports
  dsimp only
  split
  · exact .refl s
  · exact sendFrame_modPort_logsOnly ..

theorem setScanner_logsOnly (n : Nat) (m : Scanner) (s : State) : LogsOnly s (s.setScanner n m) := by
  have htaken : LogsOnly s (s.modSpindle fun p => { p with scanners := Store.write {} p.scanners n m }) := .of_same rfl rfl rfl
  unfold setScanner
  dsimp only
  split
  · exact htaken
  · exact htaken.trans (event_logsOnly ..)

theorem updateScanner_logsOnly (n : Nat) (s : State) : LogsOnly s (s.updateScanner n) := by
  unfold updateScanner
  split
  · split
    · exact setScanner_logsOnly ..
    · exact .refl s
  · split
    · exact .refl s
    · exact setScanner_logsOnly ..

/-! ## A head is rejected -/

/-- Cause 0 takes no gate's cause over (spec 16 R387). -/
theorem gateBlame_zero (n : Nat) (s : State) : s.gateBlame 0 n = s := by
  unfold gateBlame
  simp [cond_eq]

theorem updateGate_logsOnly (n : Nat) (s : State) : LogsOnly s (s.updateGate 0 n) := by
  unfold updateGate
  dsimp only
  split
  · rw [gateBlame_zero]
    exact updateEmission_logsOnly ..
  · exact ((modPort_logsOnly ..).trans (event_logsOnly ..)).trans (updateEmission_logsOnly ..)

theorem movePort_rejected_logsOnly (n : Nat) (s : State) : LogsOnly s (s.movePort n .rejected) := by
  have htaken : LogsOnly s (s.takeState n .rejected) := (leaveAdmitted_logsOnly n s).trans (modPort_logsOnly ..)
  rw [movePort, if_pos (by decide)]
  split
  · exact htaken
  · exact htaken.trans ((placeKeepAlive_logsOnly ..).trans (placeKeepAlive_logsOnly ..))

theorem rejectHead_logsOnly (n cause : Nat) (s : State) : LogsOnly s (s.rejectHead n cause) := by
  have hset : LogsOnly s (s.setPort n .rejected 0) := by
    rw [setPort_eq]
    exact (((movePort_rejected_logsOnly n s).trans (updateGate_logsOnly ..)).trans (updateScanner_logsOnly ..)).trans
      (updateReports_logsOnly ..)
  exact hset.trans (portEvent_logsOnly ..)

@[simp] theorem rejectHead_standing (n cause : Nat) (s : State) : (s.rejectHead n cause).standing = s.standing := by
  simp [rejectHead]

/-! ## Key slots and the board table take what a committed write holds -/

theorem takeSlots_logsOnly (s : State) : LogsOnly s s.takeSlots := by
  have hslot (i : Nat) (k : KeySlot) (u : State) : LogsOnly u (u.setKeySlot i k) := .of_same rfl rfl rfl
  have hroll (g : Trust → Trust) : LogsOnly s (s.modTrust g) := .of_same rfl rfl rfl
  unfold takeSlots
  split
  · exact .refl s
  · refine (hroll _).trans (.each (fun j u => ?_) _)
    dsimp only
    split
    · exact .refl u
    · exact (hslot ..).trans (.cond _ fun _ => .each (fun n v => rejectHead_logsOnly n 0 v) _)

@[simp] theorem setKeySlot_standing (i : Nat) (k : KeySlot) (s : State) : (s.setKeySlot i k).standing = s.standing := rfl

theorem takeSlots_standing (s : State) : s.takeSlots.standing = s.standing := by
  unfold takeSlots
  split
  · rfl
  · refine (each_standing (fun j u => ?_) _ _).trans (modTrust_standing ..)
    dsimp only
    split
    · rfl
    · exact (cond_standing (fun v => each_standing (fun n w => rejectHead_standing n 0 w) _ v) _ _).trans (setKeySlot_standing ..)

theorem modLink_logsOnly (g : Link → Link) (s : State) : LogsOnly s (s.modLink g) := .of_same rfl rfl rfl

theorem takeTable_logsOnly (before s : State) : LogsOnly s (before.takeTable s) := .cond s fun _ => modLink_logsOnly _ s

theorem takeTable_standing (before s : State) : (before.takeTable s).standing = s.standing :=
  cond_standing (fun u => modLink_standing _ u) _ s

end State

end Sys2Proof.Machine
end

section
/-! PROOFS. Page writes, commits and erases of the non-volatile store, and the self-test at shutdown with its verdict (spec 18
R433, R434, R438, R439). -/

namespace Sys2Proof.Machine

namespace State

/-! ## A page write that is done -/

/-- The state with the front job's page written, before what the job's kind brings. -/
def pageWritten (j : PageJob) (rest : List PageJob) (s : State) : State :=
  ((s.modNvCtl fun c => { c with jobs := rest, jobAt := s.now }).modPower fun q => { q with
    shutPage := false, recordFrom := if q.shutPage then s.now else q.recordFrom }).modNv fun m =>
      Memory.write m (64 * s.jobPage j) (s.jobBytes j)

theorem nvPageDone_eq {s : State} {j : PageJob} {rest : List PageJob} (hjobs : s.nvCtl.jobs = j :: rest)
    (hp : s.jobPage j ∉ s.nvCtl.erasing) (ht : s.nvCtl.jobAt + us 12 ≤ s.now) (hshut : s.power.shut = none) :
    s.nvPageDone = if j.kind = 1 then (s.pageWritten j rest).nvCommitted j.object j.handle
      else (s.pageWritten j rest).cond (j.kind = 2) (setFlag 19) := by
  rw [nvPageDone, hjobs]
  dsimp only
  rw [if_neg ?_]
  · rfl
  · rw [hshut]
    rintro (h | h | ⟨h, -⟩)
    exacts [hp h, ht.not_gt h, Bool.false_ne_true h]

theorem nvObject_congr {s u : State} (h : u.nvCtl.objects = s.nvCtl.objects) (k : Nat) : u.nvObject k = s.nvObject k := by
  rw [nvObject, h, nvObject]

theorem length_commitPage (k seq : Nat) (crc : BitVec 32) : (commitPage k seq crc).length = 64 := by
  simp [commitPage, padTo, length_le]

theorem length_jobBytes_commit {s : State} {j : PageJob} (h : j.kind = 1) : (s.jobBytes j).length = 64 := by
  rw [jobBytes, if_pos h]
  exact length_commitPage ..

theorem jobBytes_of_data {s : State} {j : PageJob} (h : j.kind ≠ 1) : s.jobBytes j = j.bytes := if_neg h

/-- A commit makes the copy that was written the active one (spec 18 R434). -/
theorem nvCommitted_effect {s : State} (hw : Store.wf (false, 0, false) s.nvCtl.objects = true) (k : Nat) (handle : Option Nat) :
    (s.nvCommitted k handle).nvObject k = (s.nvTarget k, ((s.nvObject k).2.1 + 1) % 2 ^ 32, true)
      ∧ (∀ i, i ≠ k → (s.nvCommitted k handle).nvObject i = s.nvObject i) ∧ (s.nvCommitted k handle).nv = s.nv
      ∧ (s.nvCommitted k handle).power = s.power ∧ (s.nvCommitted k handle).standing = s.standing := by
  obtain ⟨hobjects, hnv, hpower, hstand⟩ : (s.nvCommitted k handle).nvCtl.objects =
        Store.write (false, 0, false) s.nvCtl.objects k (s.nvTarget k, ((s.nvObject k).2.1 + 1) % 2 ^ 32, true)
      ∧ (s.nvCommitted k handle).nv = s.nv ∧ (s.nvCommitted k handle).power = s.power
      ∧ (s.nvCommitted k handle).standing = s.standing := by
    unfold nvCommitted
    dsimp only
    split
    · rw [succeed_nvCtl, succeed_nv, succeed_power, succeed_standing]
      exact ⟨rfl, rfl, rfl, rfl⟩
    · exact ⟨rfl, rfl, rfl, rfl⟩
  refine ⟨?_, fun i hi => ?_, hnv, hpower, hstand⟩
  · rw [nvObject, hobjects]
    exact Store.read_write_same _ _ none k _ hw
  · rw [nvObject, hobjects]
    exact Store.read_write_of_ne _ _ _ hi

/-! ## What follows a page write: key slots, the board table, the verdict -/

/-- Key slots and the board table that a page write that is done brings. -/
def storeTaken (before s : State) : State := before.takeTable s.takeSlots

theorem storeTaken_logsOnly (before s : State) : LogsOnly s (before.storeTaken s) :=
  (takeSlots_logsOnly s).trans (takeTable_logsOnly before _)

theorem storeTaken_standing (before s : State) : (before.storeTaken s).standing = s.standing :=
  (takeTable_standing before _).trans (takeSlots_standing s)

theorem verdictWritten_of_same {before s : State} (h : s.nvObject 3 = before.nvObject 3) : before.verdictWritten s = s := by
  rw [verdictWritten, cond_eq, h]
  exact if_neg (by simp)

/-- The rails go off, or nothing changes. -/
theorem verdictWritten_effect (before s : State) : ∃ p, before.verdictWritten s = s.modPower fun _ => p := by
  obtain ⟨r, hr⟩ := startDisabling_effect 0xD s.now s
  rw [verdictWritten, cond_eq]
  split
  · exact ⟨_, hr⟩
  · exact ⟨s.power, rfl⟩

theorem verdictWritten_disables {before s : State} (hd : s.dev = .selfTest) (hshut : s.power.shut = none)
    (h : before.nvObject 3 ≠ s.nvObject 3) : (before.verdictWritten s).power.disabling = some 0xD := by
  obtain ⟨r, hr⟩ := startDisabling_effect 0xD s.now s
  rw [verdictWritten, cond_eq, if_pos (by simp [hd, hshut, h]), hr]
  rfl

theorem succ_mod_ne (n : Nat) : (n + 1) % 2 ^ 32 ≠ n := by omega

/-! ## The self-test and its verdict (spec 18 R438, R439) -/

/-- The verdict record is one page that begins with the verdict and the reason. -/
theorem verdictBytes_head (s : State) (verdict reason : Nat) (r : TestResult) (start length : Nat) (since : Tick) (ran : Bool) :
    ∃ tail, tail.length = 62 ∧ s.verdictBytes verdict reason r start length since ran =
      BitVec.ofNat 8 verdict :: BitVec.ofNat 8 reason :: tail := by
  have hone (v : Nat) : le 1 v = [BitVec.ofNat 8 v] := by simp [le]
  unfold verdictBytes padTo
  dsimp only
  rw [hone verdict, hone reason]
  refine ⟨_, ?_, rfl⟩
  simp [length_le]

/-- The verdict's write queues its page and its commit; the test is over (spec 18 R438). -/
theorem writeVerdict_effect {s : State} {engine : Bool} {start length : Nat} {since : Tick} (verdict reason : Nat)
    (r : TestResult) (ran : Bool) (h : s.boot.test = some (engine, start, length, since)) (hp : s.power.nvAllowed = true) :
    (s.writeVerdict verdict reason r ran).boot.test = none ∧ (s.writeVerdict verdict reason r ran).dev = s.dev
      ∧ (s.writeVerdict verdict reason r ran).nv = s.nv
      ∧ ∃ j, (s.writeVerdict verdict reason r ran).nvCtl.jobs.take (s.nvCtl.jobs.length + 1) = s.nvCtl.jobs ++ [j]
        ∧ j.object = 3 ∧ j.kind = 0 ∧ j.bytes.take 2 = [BitVec.ofNat 8 verdict, BitVec.ofNat 8 reason] := by
  obtain ⟨b, hb⟩ : ∃ b, b = s.verdictBytes verdict reason r start length since ran := ⟨_, rfl⟩
  obtain ⟨tail, hlen, htail⟩ := verdictBytes_head s verdict reason r start length since ran
  rw [← hb] at htail
  obtain ⟨v, hv⟩ : ∃ v, v = s.modBoot fun b => { b with test := none } := ⟨_, rfl⟩
  obtain ⟨c, hc, -, hjobs⟩ := nvWrite_allowed (s := v) (k := 3) (n := 1) (bytes := b) (by rw [hv]; exact hp)
    (by rw [htail]; simp [hlen, nvSpan, nth]) none
  have hwrite : s.writeVerdict verdict reason r ran = (v.modNvCtl fun _ => c).log Src.power 0x0405 (b.take 32) := by
    rw [writeVerdict, h]
    dsimp only
    rw [if_pos hp, ← hb, ← hv, hc]
  obtain ⟨more, hmore⟩ := (log_logsOnly Src.power 0x0405 (b.take 32) (v.modNvCtl fun _ => c)).jobs
  rw [hwrite]
  refine ⟨by rw [log_boot, hv]; rfl, by rw [log_dev, hv]; rfl, by rw [log_nv, hv]; rfl,
    ⟨0, padTo 64 ((b.drop (64 * 0)).take 64), 0, 3, none⟩, ?_, rfl, rfl, ?_⟩
  · have hall : c.jobs ++ more = s.nvCtl.jobs ++ [⟨0, padTo 64 ((b.drop (64 * 0)).take 64), 0, 3, none⟩]
        ++ ([⟨0, [], 1, 3, none⟩] ++ more) := by
      rw [hjobs, hv]
      simp
    rw [← hmore]
    exact (congrArg (List.take _) hall).trans (List.take_left' (by simp))
  · rw [htail]
    rfl

/-- The link goes DOWN (spec 14 R343), whatever waits on it. -/
theorem linkDown_leaves (s : State) : s.linkDown.link.state = .down ∧ s.linkDown.dev = s.dev ∧ s.linkDown.nv = s.nv := by
  obtain ⟨l, ⟨r, c, i, hset⟩, hstate, -⟩ := setLink_took .down s
  unfold linkDown
  dsimp only
  rw [hset]
  split
  · refine ⟨?_, failedOpen_dev .., failedOpen_nv ..⟩
    rw [failedOpen_link]
    exact hstate
  · exact ⟨hstate, rfl, rfl⟩

theorem testStarts_effect {s : State} {start length khz mv : Nat} {since : Tick}
    (h : s.boot.test = some (false, start, length, since)) (hq : s.recs.q0 = [] ∨ since + us 1000 ≤ s.now)
    (hclear : s.testBlocked khz mv = none) :
    (s.testStarts khz mv).boot.test = some (true, start, length, s.now) ∧ (s.testStarts khz mv).dist.up = false
      ∧ (s.testStarts khz mv).link.state = .down ∧ (s.testStarts khz mv).dev = s.dev ∧ (s.testStarts khz mv).nv = s.nv := by
  obtain ⟨hlink, hdev, hnv⟩ := linkDown_leaves s
  have hpass : ¬ (s.recs.q0 ≠ [] ∧ s.now < since + us 1000) := fun ⟨hne, hlt⟩ => hq.elim hne fun hle => hle.not_gt hlt
  have hstart : s.testStarts khz mv = (s.linkDown.modDist fun d => { d with up := false }).modBoot fun b => { b with
      test := some (true, start, length, s.now), checkAt := s.now } := by
    rw [testStarts, h]
    dsimp only
    rw [if_neg hpass, hclear]
  rw [hstart]
  exact ⟨rfl, rfl, hlink, hdev, hnv⟩

/-- The core clock within 1 % of 1.000 GHz and VDD_CORE within 730-790 mV block no test (spec 18 R439). -/
theorem testBlocked_of_within {s : State} {khz mv : Nat} (hpll : s.boot.plls.getLsbD 0 = true) (hk : 990000 ≤ khz)
    (hk' : khz ≤ 1010000) (hv : 730 ≤ mv) (hv' : mv ≤ 790) : s.testBlocked khz mv = none := by
  rw [testBlocked, hpll, if_neg (by simp; omega), if_neg (by omega)]

section
variable {s : State} {start length khz mv : Nat} {since : Tick} (h : s.boot.test = some (true, start, length, since))
  (ht : s.boot.checkAt + us 1000 ≤ s.now)
include h ht

theorem testChecks_of_blocked {r : Nat} (hr : s.testBlocked khz mv = some r) :
    s.testChecks khz mv = s.writeVerdict 2 r noResult false := by
  rw [testChecks, h]
  dsimp only
  rw [if_neg ht.not_gt, hr]

theorem testChecks_of_clear (hr : s.testBlocked khz mv = none) :
    s.testChecks khz mv = s.modBoot fun b => { b with checkAt := s.now } := by
  rw [testChecks, h]
  dsimp only
  rw [if_neg ht.not_gt, hr]

end

theorem testEnds_eq {s : State} {start length : Nat} {since : Tick} (r : TestResult)
    (h : s.boot.test = some (true, start, length, since)) :
    s.testEnds r = s.writeVerdict (if r.failingRows = 0 ∧ r.failingDram = 0 then 0 else 1) 0 r true := by
  rw [testEnds, h]

/-- An erase clears its page, and no more (spec 18 R433, R434). -/
theorem nvEraseDone_effect {s : State} {p : Nat} {rest : List Nat} (h : s.nvCtl.erasing = p :: rest)
    (ht : s.nvCtl.eraseAt + us 100 ≤ s.now) (hshut : s.power.shut = none) (hres : inReserve p = true → s.copying = false) :
    ∃ x, s.nvEraseDone = { s with
      nv := Memory.write s.nv (64 * p) (List.replicate 64 0)
      nvCtl := { s.nvCtl with erasing := rest, eraseAt := s.now, jobAt := x } } := by
  refine ⟨if s.nvCtl.jobs.head?.any fun j => s.jobPage j = p then s.now else s.nvCtl.jobAt, ?_⟩
  rw [nvEraseDone, h]
  dsimp only
  rw [if_neg ?_]
  · rfl
  · rw [hshut]
    rintro (hlt | hs | ⟨hin, hcopy⟩)
    exacts [ht.not_gt hlt, Bool.false_ne_true hs, Bool.false_ne_true ((hres hin).symm.trans hcopy)]

theorem nv_wf {s : State} (h : s.wf = true) : Memory.wf s.nv = true := by
  simp only [wf, memWf, Bool.and_eq_true] at h
  obtain ⟨⟨⟨⟨hnv, -⟩, -⟩, -⟩, -⟩ := h
  exact hnv

end State

/-- Settles O51: a page write by its kind, an erase, and the steps of the self-test. -/
theorem storeWritesAndSelfTest : Obligations.StoreWritesAndSelfTest := by
  unfold Obligations.StoreWritesAndSelfTest
  intro t s hnow hw
  have hat : (s.advance t).now = t := max_eq_right hnow
  refine ⟨fun j rest hjobs hkind hlen hp ht hshut => ?write, fun j rest hjobs hkind hp ht hshut hobj => ?commit,
    fun p rest herase ht hshut hres => ?erase, fun start length since khz mv htest hq hpll hk hk' hv hv' => ?starts,
    fun start length since khz mv r htest hn ht hr => ?blocked,
    fun start length since khz mv htest ht hpll hk hk' hv hv' => ?runs, fun start length since r htest hn => ?ends⟩
  case write =>
    obtain ⟨w, hw'⟩ : ∃ w, w = (s.advance t).nvPageDone := ⟨_, rfl⟩
    have hdone := State.nvPageDone_eq (s := s.advance t) hjobs hp (by rwa [hat]) hshut
    rw [if_neg hkind, ← hw'] at hdone
    have hwrites : State.LogsOnly ((s.advance t).pageWritten j rest) ((s.advance t).storeTaken w) := by
      rw [hdone]
      exact (State.LogsOnly.cond _ fun _ => State.setFlag_logsOnly ..).trans (State.storeTaken_logsOnly ..)
    have hstand : ((s.advance t).storeTaken w).standing = s.standing := by
      rw [State.storeTaken_standing, hdone]
      exact State.cond_standing (fun u => State.setFlag_standing 19 u) _ _
    have hlast := State.verdictWritten_of_same (State.nvObject_congr (s := s.advance t) hwrites.objects 3)
    have hnv : ((s.advance t).storeTaken w).nv = Memory.write s.nv (64 * s.jobPage j) j.bytes :=
      hwrites.nv.trans (congrArg (Memory.write s.nv (64 * s.jobPage j)) (State.jobBytes_of_data hkind))
    refine ⟨(s.advance t).storeTaken w, ?_, (List.prefix_iff_eq_take.mp hwrites.jobs).symm, State.dev_of_standing hstand,
      fun a ha => ?_, fun i hi => ?_, hwrites.objects⟩
    · rw [← hlast, hw']
      rfl
    · rw [hnv]
      exact Memory.read_write_of_outside _ _ (by rw [hlen]; exact ha)
    · rw [hnv, Memory.read_write_inside _ _ _ _ (State.nv_wf hw) (by rw [hlen]; exact hi), List.getD_eq_getElem]
  case commit =>
    obtain ⟨c, hc⟩ : ∃ c, c = (s.advance t).pageWritten j rest := ⟨_, rfl⟩
    have hdone := State.nvPageDone_eq (s := s.advance t) hjobs hp (by rwa [hat]) hshut
    rw [if_pos hkind, ← hc] at hdone
    obtain ⟨hown, hothers, hnv, hpower, hstand⟩ := State.nvCommitted_effect (s := c) (by rw [hc]; exact hobj) j.object j.handle
    obtain ⟨w, hw'⟩ : ∃ w, w = c.nvCommitted j.object j.handle := ⟨_, rfl⟩
    rw [← hw'] at hdone hown hothers hnv hpower hstand
    have hlogs := State.storeTaken_logsOnly (s.advance t) w
    have hdev : ((s.advance t).storeTaken w).dev = s.dev := State.dev_of_standing
      ((State.storeTaken_standing ..).trans (hstand.trans (by rw [hc]; rfl)))
    obtain ⟨p, hlast⟩ := State.verdictWritten_effect (s.advance t) ((s.advance t).storeTaken w)
    have hobject (k : Nat) : ((s.advance t).verdictWritten ((s.advance t).storeTaken w)).nvObject k = w.nvObject k := by
      rw [hlast]
      exact State.nvObject_congr hlogs.objects k
    refine ⟨(s.advance t).verdictWritten ((s.advance t).storeTaken w), ?_, ?_, fun hself hthree => ?_, ?_, fun k hk => ?_, fun a ha => ?_⟩
    · rw [← hdone]
      rfl
    · rw [hlast]
      exact hdev
    · refine State.verdictWritten_disables (hdev.trans hself) ?_ ?_
      · rw [hlogs.power, hpower, hc]
        exact hshut
      · rw [State.nvObject_congr hlogs.objects, ← hthree, hown]
        intro heq
        refine State.succ_mod_ne (s.nvObject j.object).2.1 ?_
        rw [hc] at heq
        exact (congrArg (·.2.1) heq).symm
    · rw [hobject, hown, hc]
      rfl
    · rw [hobject, hothers k hk, hc]
      rfl
    · rw [hlast]
      have hbytes : (((s.advance t).storeTaken w).modPower fun _ => p).nv =
          Memory.write s.nv (64 * s.jobPage j) (s.jobBytes j) := hlogs.nv.trans (hnv.trans (by rw [hc]; rfl))
      rw [hbytes]
      exact Memory.read_write_of_outside _ _ (by rw [State.length_jobBytes_commit hkind]; exact ha)
  case erase =>
    obtain ⟨x, hx⟩ := State.nvEraseDone_effect (s := s.advance t) herase (by rwa [hat]) hshut hres
    obtain ⟨page, hpage, hlen⟩ : ∃ page, page = List.replicate 64 (0 : Byte) ∧ page.length = 64 :=
      ⟨_, rfl, List.length_replicate⟩
    rw [← hpage] at hx
    refine ⟨_, congrArg Host.Outcome.next hx, rfl, fun i hi => ?_, fun a ha => ?_, rfl⟩
    · rw [← hlen] at hi
      exact (Memory.read_write_inside s.nv (64 * p) i page (State.nv_wf hw) hi).trans
        (List.eq_of_mem_replicate (n := 64) (by rw [← hpage]; exact List.getElem_mem hi))
    · exact Memory.read_write_of_outside s.nv page (by rw [hlen]; exact ha)
  case starts =>
    obtain ⟨htaken, hdist, hlink, hdev, hnv⟩ := State.testStarts_effect (s := s.advance t) htest (by rwa [hat])
      (State.testBlocked_of_within hpll hk hk' hv hv')
    exact ⟨_, rfl, htaken.trans (by rw [hat]), hdist, hlink, hdev, hnv⟩
  case blocked =>
    obtain ⟨htaken, hdev, hnv, j, hjobs, hobject, hkind, hbytes⟩ :=
      State.writeVerdict_effect (s := s.advance t) 2 r State.noResult false htest hn
    refine ⟨(s.advance t).writeVerdict 2 r State.noResult false, ?_, htaken, hdev, hnv, j, hjobs, hobject, hkind, hbytes⟩
    exact congrArg Host.Outcome.next (State.testChecks_of_blocked (s := s.advance t) htest (by rwa [hat]) hr)
  case runs =>
    have hclear := State.testChecks_of_clear (s := s.advance t) htest (by rwa [hat])
      (State.testBlocked_of_within hpll hk hk' hv hv')
    rw [hat] at hclear
    exact congrArg Host.Outcome.next hclear
  case ends =>
    obtain ⟨htaken, hdev, hnv, j, hjobs, hobject, hkind, hbytes⟩ := State.writeVerdict_effect (s := s.advance t)
      (if r.failingRows = 0 ∧ r.failingDram = 0 then 0 else 1) 0 r true htest hn
    refine ⟨_, congrArg Host.Outcome.next (State.testEnds_eq (s := s.advance t) r htest), htaken, hdev, hnv, j, hjobs, hobject, hkind,
      hbytes.trans ?_⟩
    split <;> rfl

end Sys2Proof.Machine
end
